-- ==== Sys2Proof/Word.lean ====
section
/-! DEFINITION. The native word of the PV-2436: 36 bits (chapter 00, Registers and words). -/

namespace Sys2Proof

/-- The 36-bit native word of the device. -/
abbrev Word := BitVec 36

end Sys2Proof
end

