-- ==== Sys2Proof/Syntax.lean ====
section
/-! DEFINITION. The commands of the PV-2436: one constructor for each row of the operations-and-events table, with the operands
the manual gives that step (log entry 3). Instants are in wc/1024 on the timebase, modulo 2^72 (R22, R25). -/

namespace Sys2Proof

/-- The target of a due-time command (chapter 01, Due-time commands; R117, R167, R216, R232, R326, R503). -/
inductive DueTarget where
  | chan (n : Fin 64)
  | mout (m : Fin 8)
  | line (l : Fin 64)
  | chApply (bankMask chMask : Nat)
  | moApply (mask : Nat)
  | seqApply (s : Fin 2)
  | probeApply (mask : Nat)
  | rxwApply (mask : Nat)
  | group (g : Fin 256)
  deriving DecidableEq, Repr, Inhabited

/-- A due-time command: target, action code, due time in wc/1024, source code. -/
structure DueCmd where
  target : DueTarget
  action : Nat
  due : Nat
  src : Nat
  deriving DecidableEq, Repr, Inhabited

/-- A chain frame (R416, R417): type, destination, originator, hops, SEQ, ARG and payload; LEN is the payload's length. -/
structure ChFrame where
  typ : Nat
  dst : Nat
  src : Nat
  hops : Nat
  seq : Nat
  arg : Nat
  words : List Word
  deriving DecidableEq, Repr, Inhabited

/-- What the keeper and the monitors find at one mt tick: the timebase with its fine part, each reference's measured length of
an mt in 2^-18 reference cycles (R67), and each site's pair of sensor readings in 1/16 °C (R554). -/
structure MtObs where
  stamp : Nat
  fA : Nat
  fB : Nat
  temps : List (Int × Int)
  deriving DecidableEq, Repr

/-- What the echo checker sees of an output (R121): the transition of the oldest expected edge at its deviation in wc/1024,
no transition for it, or a transition at instant `t` that no expected edge explains. -/
inductive EdgeObs where
  | seen (dev : Int)
  | none_
  | extra (t : Nat) (rising : Bool)
  deriving DecidableEq, Repr

/-- What the voter sees of its three voting generators (R172): their arrivals at the oldest scheduled edge (deviation of each
from that edge in wc/1024, none when absent), a transition of one generator outside every window, or one generator's level at
a level check; generators 0 to 3. `shadow` is the arrival of a generator under comparison (R177). -/
inductive VoteObs where
  | arrivals (devs : List (Fin 4 × Option Int)) (shadow : Option (Option Int))
  | extra (g : Fin 4) (t : Nat)
  | stuck (g : Fin 4) (t : Nat)
  deriving DecidableEq, Repr

/-- What a trigger input's sampler captures of one crossing (R251 to R253): for each rank its wc and its bin code, none when the
code is invalid. -/
structure TiCap where
  cA : Nat
  bA : Option (Fin 64)
  cB : Nat
  bB : Option (Fin 64)
  deriving DecidableEq, Repr

/-- An operation of boundary scan (R637): cells loaded, outputs driven from them (SerDes lanes by AC EXTEST), levels of the input balls taken, or
the register bypassed. -/
inductive ScanOp where
  | preload (bits : List Bool)
  | extest
  | acExtest
  | sample (levels : List Bool)
  | bypass
  deriving DecidableEq, Repr

/-- What holds while RESET_N is low: IL_LOW at its release (R529), and the boundary scan operations run meanwhile (R637). -/
structure ResetLow where
  ilLow : Bool
  scan : List ScanOp := []
  deriving DecidableEq, Repr

/-- Hits per bin of one rank of a sampler, and its invalid captures (R269). -/
structure BinHits where
  hits : List Nat
  invalid : Nat
  deriving DecidableEq, Repr

/-- What a calibration or code-density run measures of one trigger input: both ranks, the mean rank offset and the mean delay in
wc/2^16 (R269, R286). -/
structure InMeas where
  input : Fin 16
  rankA : BinHits
  rankB : BinHits
  rankOfs : Int
  delay : Int
  deriving DecidableEq, Repr

/-- What a generator run measures (R277, R279): per line the mean position of each physical tap and the mean residual of each code,
in wc/2^16; the edges seen at the ball and their mean skew and echo deviation in wc/2^16. -/
structure GenMeas where
  m0 : List Int
  m1 : List Int
  r0 : List Int
  r1 : List Int
  edges : Nat
  skew : Int
  echo : Int
  deriving DecidableEq, Repr

/-- What a receive link finds at a release boundary (R302, R304): lanes of the fibre whose CRC-12 does not match, a lane that holds no
complete multiblock, the arrival margin in samples, and per used position the raw containers as s16 with their over-range bits. -/
structure RelObs where
  crc : Fin 64
  late : Option (Fin 6)
  margin : Nat
  samples : List (List (Int × Bool))
  deriving DecidableEq, Repr

/-- The statistics the estimator takes of one used position (R313): stream index, mean of x, mean square of u, E[u_Q u_I]/E[u_I²] and
the skew in T_S/1024, each in 2^-24 units. -/
structure PosMeas where
  c : Fin 4
  mean : Int
  ms : Nat
  xt : Int
  skew : Int
  deriving DecidableEq, Repr

/-- A complete tone profile (R316, R321, R335): the PHASE outputs (real, imaginary) of its range samples in PHASE amplitude units, the
range samples that discarded blocks removed, the last label instant that entered it, and the correlation peak for RXW_DIAG_PEAK. -/
structure Profile where
  z : List (Int × Int)
  lost : List (Nat × Nat)
  upTo : Nat
  peak : Nat × Nat × Nat
  deriving DecidableEq, Repr

/-- An Ethernet register-access request's source address and port, REQ_ID, DEV and ACK (R465). -/
structure EthHdr where
  src : Nat
  id : Fin 65536
  dev : Fin 1024
  ack : Bool
  deriving DecidableEq, Repr

/-- The commands of the block, in the order of the table. -/
inductive Instr where
  /-- REGISTER_WRITE (R9): A write to a register field that has no row of its own takes effect under the field's access type and change class. -/
  | registerWrite (path : Fin 6) (a : Fin 16777216) (w : Word) (whole : Bool)
  /-- READ_CLEAR (R10): A read of an RC field returns its state and then clears it. -/
  | readClear (path : Fin 6) (a : Fin 16777216) (size : Fin 4)
  /-- TB_NOW_READ (R23): A read of TB_NOW_LO snapshots the timebase for TB_NOW_HI. -/
  | tbNowRead
  /-- TB_MT_STAMP_READ (R35): A read of TB_MT_STAMP_LO snapshots both mt-stamp words. -/
  | tbMtStampRead
  /-- MT_TICK (R28): The keeper's reference-cycle accumulator passes KEEPER_MT_LEN and emits an mt tick. -/
  | mtTick (obs : MtObs)
  /-- TB_LOAD_NOW (R38): GO in TB_LOAD_CTRL with MODE NOW loads the timebase in the acceptance wc, or refuses it. -/
  | tbLoadNow
  /-- TB_LOAD_SYNC_IN (R39): GO in TB_LOAD_CTRL with MODE SYNC_IN arms a timebase load for the next SYNC_IN rising edge. -/
  | tbLoadSyncIn
  /-- TB_LOAD_MODE_NONE (R646): GO with MODE none or not used is refused with reason 0x4. -/
  | tbLoadModeNone (mode3 : Bool)
  /-- SYNC_IN_EDGE (R39): A rising SYNC_IN edge performs a waiting timebase load in the wc of its crossing. -/
  | syncInEdge
  /-- COMMAND_ACCEPT (R47): A due-time command is written into the due-time store and judged timely or late. -/
  | commandAccept (src : Fin 7) (fw : Option DueCmd)
  /-- COMMAND_COMMIT (R49): A timely command is committed 40 wc before its due time and can no longer be reordered or cancelled. -/
  | commandCommit
  /-- REF_ACTIVITY_LOSS (R68): A reference shows no rising edge for 4 nominal periods; it is disqualified and the loops hold over. -/
  | refActivityLoss (b : Bool)
  /-- REF_QUALIFY (R67): A reference has met the qualification conditions for QUAL_TIME mt and becomes qualified. -/
  | refQualify (b : Bool)
  /-- REF_REREFERENCE (R72): At the next mt tick the loops move with build-out to a newly qualified or preferred reference. -/
  | refRereference
  /-- PREF_WRITE (R72): A write of PREF names a preferred reference for switching at the next mt tick. -/
  | prefWrite (b : Bool)
  /-- PLLC_LOST (R75): PLL_C loses lock; WEFT, BOLT and the safe clock move to the backup ring oscillator and DEGRADED is set. -/
  | pllcLost
  /-- PLLC_RETURN (R75): PLL_C has held lock for 4 096 reference cycles; DEGRADED clears and the islands return. -/
  | pllcReturn
  /-- RETUNE_GO (R77): GO in CLK_RETUNE is refused or starts a retune in DRAIN. -/
  | retuneGo
  /-- DRAIN_COMPLETE (R78): The last output becomes idle; WARP switches to the safe clock and STATE becomes ALIGN. -/
  | drainComplete
  /-- DRAIN_LIMIT_EXPIRY (R79): DRAIN_LIMIT mt pass with outputs still busy; pending and burst pulses are discarded. -/
  | drainLimitExpiry
  /-- DIVIDER_ALIGN (R78): At the alignment instant the shadowed PLL_W dividers load together and the guard starts. -/
  | dividerAlign
  /-- GUARD_PASS (R80): The frequency guard counts 4 096 passing reference cycles; STATE becomes CORRECT. -/
  | guardPass
  /-- GUARD_LIMIT_EXPIRY (R81): The guard has not passed within GUARD_LIMIT mt; the previous plan is reverted or WARP is held. -/
  | guardLimitExpiry
  /-- PLLW_RETURN (R82): The residual is corrected and WARP switches back to PLL_W; RESUMED is set. -/
  | pllwReturn (resid : Int)
  /-- TRIM_WRITE (R85): A TRIM write is clamped and starts a ramp, or is stored during a retune or the safe clock. -/
  | trimWrite (trim : Int)
  /-- TRIM_RAMP_DONE (R85): A TRIM ramp reaches the written offset and RAMP clears. -/
  | trimRampDone
  /-- LOCK_LOST (R89): PLL_W loss of lock is detected; WARP switches to the safe clock and the device enters RECOVER. -/
  | lockLost
  /-- PHASE_STEP (R92): The Reed phase watch flags a PLL_W phase step and reports it. -/
  | phaseStep (stamps : List Nat)
  /-- TRIGGER (R100): A start trigger reaches an edge channel or master output and is accepted, dropped or queued. -/
  | trigger
  /-- STOP (R104): A stop reaches an edge channel or master output and cancels pulses or closes a gate. -/
  | stop
  /-- TAPPLY (R117): A timed apply at its due time applies the shadows of the selected outputs. -/
  | tapply
  /-- ACTION_NOT_USED (R100): A command with an unused action code is discarded and counted. -/
  | actionNotUsed
  /-- LEADING_EDGE (R96): A scheduled leading edge of a pulse or grid is due at a ball. -/
  | leadingEdge (o : Fin 72)
  /-- TRAILING_EDGE (R97): A scheduled trailing edge is due; the output may reach its apply point. -/
  | trailingEdge (o : Fin 72)
  /-- ENABLE_WRITE (R113): A write of ENABLE changes the output at the idle level and may wake the driver. -/
  | enableWrite (o : Fin 72) (v : Fin 4)
  /-- DRIVER_AWAKE (R114): A woken driver reaches armed idle and DRV reads AWAKE. -/
  | driverAwake (o : Fin 72)
  /-- WARP_APPLY (R116): GO in WARP_APPLY selects channels to apply at their next apply point. -/
  | warpApply (banks : Fin 256) (chans : Fin 256)
  /-- WARP_TAPPLY_ARM (R117): ARM in WARP_TAPPLY_CTRL sends a timed apply command of source 0x6. -/
  | warpTapplyArm (banks : Fin 256) (chans : Fin 256)
  /-- WARP_TAPPLY_CANCEL (R117): CANCEL withdraws the pending timed apply before its commit. -/
  | warpTapplyCancel
  /-- ECHO_CLASSIFY (R121): The echo checker classifies an expected edge 1 wc after it. -/
  | echoClassify (o : Fin 72) (obs : EdgeObs)
  /-- ECHO_LEVEL_CHECK (R121): The echo checker takes a level check in a steady interval of the schedule. -/
  | echoLevelCheck (o : Fin 72) (high : Bool)
  /-- FAILOVER_COPY_DONE (R126): The spare has loaded the channel's values and schedule and follows it in step. -/
  | failoverCopyDone (b : Fin 8)
  /-- FAILOVER_SWITCH (R126): The multiplexer switches the ball to the spare at the first idle wc after the copy. -/
  | failoverSwitch (b : Fin 8)
  /-- FO_RELEASE (R130): FO_RELEASE returns the ball to the channel generator or aborts a copy. -/
  | foRelease (b : Fin 8) (k : Fin 8)
  /-- FO_RELEASE_SWITCH (R130): At the channel's next idle wc the ball returns to its own generator and the spare becomes FREE. -/
  | foReleaseSwitch (b : Fin 8)
  /-- FO_FORCE (R130): FO_FORCE starts failover of a channel as if an echo error had occurred. -/
  | foForce (b : Fin 8) (k : Fin 8)
  /-- TI_CROSSING (R135): A crossing at a trigger input is sampled, stamped and conditioned for Heddle and Reed. -/
  | tiCrossing (i : Fin 16) (cap : TiCap) (rising : Bool) (hold : Nat)
  /-- HEDDLE_IN_PS_SYNC (R137): A 1 written to a bit of HEDDLE_IN_PS_SYNC sets that input's prescale counter to zero. -/
  | heddleInPsSync (mask : Fin 65536)
  /-- RG_GO (R140): GO starts a rate generator grid at its first qualifying tick. -/
  | rgGo (g : Fin 8)
  /-- RG_STOP (R141): STOP ends a rate generator grid for ticks at least 16 wc later. -/
  | rgStop (g : Fin 8)
  /-- RG_TICK (R140): A rate generator tick is due and acts as a Heddle source event. -/
  | rgTick (g : Fin 8)
  /-- FIRE (R142): A FIRE command at its due time fires its line. -/
  | fire
  /-- ARM (R142): An ARM command at its due time is an arm event of its line. -/
  | arm
  /-- DISARM (R142): A DISARM command at its due time is a disarm event of its line. -/
  | disarm
  /-- HEDDLE_ARM_CMD_ARM (R147): GO in HEDDLE_ARM_CMD with OP 0 arms a line at the acceptance wc. -/
  | heddleArmCmdArm (l : Fin 64)
  /-- HEDDLE_ARM_CMD_DISARM (R147): GO in HEDDLE_ARM_CMD with OP 1 disarms a line at the acceptance wc. -/
  | heddleArmCmdDisarm (l : Fin 64)
  /-- ARM_WINDOW_EXPIRY (R147): The LEN window of a WINDOW-mode line ends and the line is disarmed. -/
  | armWindowExpiry (l : Fin 64)
  /-- HEDDLE_FIRE_CTRL_GO (R142): GO in HEDDLE_FIRE_CTRL sends a due-time line command of source 0x6. -/
  | heddleFireCtrlGo (l : Fin 64) (action : Fin 16)
  /-- HEDDLE_LAST_READ (R132): A read of HEDDLE_LAST_LO snapshots the selected line's latest firing for HEDDLE_LAST_HI. -/
  | heddleLastRead
  /-- VOTE_CLASSIFY (R172): The median voter classifies the arrivals of a scheduled edge against the reference time. -/
  | voteClassify (m : Fin 8) (obs : VoteObs)
  /-- SWAP_COPY_DONE (R177): The incoming generator has loaded the output's values and starts its comparison. -/
  | swapCopyDone (m : Fin 8)
  /-- SWAP_TAKEOVER (R177): After the comparison the incoming generator takes the voter input at a quiet instant. -/
  | swapTakeover (m : Fin 8)
  /-- REPLACE (R181): REPLACE in MOUT_CMD replaces a voting generator as a disagreement would. -/
  | replace (m : Fin 8) (g : Fin 4)
  /-- CLEAR_FAULTY (R181): CLEAR_FAULTY moves a FAULTY generator to UNCAL. -/
  | clearFaulty (m : Fin 8) (g : Fin 4)
  /-- MOUT_APPLY (R167): GO in MOUT_APPLY applies selected master outputs at their apply points. -/
  | moutApply (outs : Fin 256)
  /-- MOUT_TAPPLY_ARM (R167): ARM in MOUT_TAPPLY_CTRL sends a timed apply of source 0x6. -/
  | moutTapplyArm (outs : Fin 256)
  /-- MOUT_TAPPLY_CANCEL (R167): CANCEL withdraws the pending master-output timed apply before its commit. -/
  | moutTapplyCancel
  /-- SEQ_GO (R206): GO in SEQ_CMD arms a sequencer run under START_MODE, or is refused or ignored. -/
  | seqGo (q : Fin 2)
  /-- RUN_START (R206): An armed sequencer reaches t_start and begins its run. -/
  | runStart (q : Fin 2)
  /-- SEQ_STOP (R208): STOP with STOP_AT 0 stops the run at the first slot not yet issued. -/
  | seqStop (q : Fin 2)
  /-- SEQ_STOP_AT_END (R203): STOP with STOP_AT 1 registers a stop request for the segment end. -/
  | seqStopAtEnd (q : Fin 2)
  /-- SEQ_JUMP (R203): JUMP in SEQ_CMD registers a jump request to TARGET. -/
  | seqJump (q : Fin 2) (target : Fin 1024)
  /-- SEQ_RELEASE (R200): RELEASE in SEQ_CMD releases a HOST-mode wait. -/
  | seqRelease (q : Fin 2)
  /-- SEQ_APPLY (R215): APPLY in SEQ_CMD applies sequencer shadows at the next segment boundary. -/
  | seqApply (q : Fin 2)
  /-- SEQ_TAPPLY_ARM (R216): TAPPLY_ARM sends a sequencer timed apply of source 0x6. -/
  | seqTapplyArm (q : Fin 2)
  /-- SEQ_TAPPLY_CANCEL (R216): TAPPLY_CANCEL withdraws the waiting sequencer timed apply. -/
  | seqTapplyCancel (q : Fin 2)
  /-- NOP (R188): A NOP item is issued and fires only its markers. -/
  | nop (q : Fin 2)
  /-- CHIP (R190): A CHIP item gives code chips to the tones of the bound fibres. -/
  | chip (q : Fin 2)
  /-- EDGE (R191): An EDGE item places up to four edges on one PATTERN-mode channel. -/
  | edge (q : Fin 2)
  /-- WAIT (R200): A WAIT item holds the programme in COUNT, LINE or HOST mode. -/
  | wait (q : Fin 2)
  /-- LOOP (R198): A LOOP item closes a loop body using the loop stack. -/
  | loop (q : Fin 2)
  /-- JUMP (R203): A JUMP item registers a jump request. -/
  | jump (q : Fin 2)
  /-- MARK (R193): A MARK item writes a sequencer log record. -/
  | mark (q : Fin 2)
  /-- END (R209): An END item ends the run after its slot; STATE becomes DONE. -/
  | endItem (q : Fin 2)
  /-- IDLE (R188): An IDLE item, played or inserted on a stream underrun, issues nothing besides markers. -/
  | idle (q : Fin 2)
  /-- ITEM_NOT_USED (R188): An item of an unused TYPE acts as NOP and sets ITEM_ERR. -/
  | itemNotUsed (q : Fin 2)
  /-- WAIT_RELEASE (R200): The release or timeout slot of a wait is reached and the programme continues. -/
  | waitRelease (q : Fin 2)
  /-- DECISION_POINT (R202): At the issue cycle of item L − 128 the sequencer fixes what plays after the pass. -/
  | decisionPoint (q : Fin 2)
  /-- SEGMENT_BOUNDARY (R202): A segment pass ends and the next pass begins, applying sequencer shadows. -/
  | segmentBoundary (q : Fin 2)
  /-- REFILL_GRANULE (R210): The refill engine writes committed stream words into the window and completes a granule. -/
  | refillGranule (q : Fin 2)
  /-- SHOT_BOUNDARY (R223): A SHOT_MARK slot instant starts a shot and applies probe and receive shadows. -/
  | shotBoundary (f : Fin 2)
  /-- PROBE_APPLY (R231): GO in PROBE_APPLY applies selected builders at their shot boundaries. -/
  | probeApply (mask : Fin 4)
  /-- PROBE_TAPPLY_ARM (R232): ARM in PROBE_TAPPLY_CTRL sends a builder timed apply. -/
  | probeTapplyArm (mask : Fin 4)
  /-- PROBE_TAPPLY_CANCEL (R232): CANCEL withdraws the pending builder timed apply. -/
  | probeTapplyCancel
  /-- TX_LINK_ENABLE (R237): LINK_EN set moves a transmit link to CLK_WAIT. -/
  | txLinkEnable (f : Fin 2)
  /-- TX_LINK_DISABLE (R237): LINK_EN cleared takes a transmit link DOWN at once. -/
  | txLinkDisable (f : Fin 2)
  /-- TX_CLOCK_CHECK (R235): The periodic device-clock check of a transmit link passes or fails. -/
  | txClockCheck (f : Fin 2) (span : Option Nat)
  /-- TX_LINK_UP (R237): After 1 024 passing clock cycles the link goes UP at the next multiblock boundary. -/
  | txLinkUp (f : Fin 2)
  /-- TX_FIFO_ERROR (R237): The SHUTTLE to CONVTX crossing overflows or underflows and the link leaves UP. -/
  | txFifoError (f : Fin 2)
  /-- LIMITER_CUT (R241): The limiter level B reaches zero and ends the gate's active phase. -/
  | limiterCut (f : Fin 2)
  /-- MAXON_CUT (R242): An active gate phase reaches MAX_ON and is ended. -/
  | maxonCut (f : Fin 2)
  /-- CAP_LOCK (R245): A 1 written to CAP_LOCK locks the LIGHT fields and sets the AON lock latch. -/
  | capLock
  /-- INTERLOCK_ASSERT (R246): A filtered low on INTERLOCK_N sets the interlock latch and idles gates and builders. -/
  | interlockAssert (low : Bool)
  /-- IL_CLEAR (R246): IL_CLEAR clears the interlock latch when INTERLOCK_N is high. -/
  | ilClear (high : Bool)
  /-- STAMP_MERGE (R261): The merger takes the oldest held stamp and writes its record to the binding's queue. -/
  | stampMerge
  /-- GATE_OPEN (R257): A Reed gate opens at its source's opening event. -/
  | gateOpen (g : Fin 4)
  /-- GATE_CLOSE (R257): A Reed gate closes at its close event or length. -/
  | gateClose (g : Fin 4)
  /-- GATE_ARM (R259): ARM of a TIMED gate schedules its opening at START, or is refused. -/
  | gateArm (g : Fin 4)
  /-- GATE_HOST_OPEN (R257): OPEN opens a HOST gate in the acceptance wc. -/
  | gateHostOpen (g : Fin 4)
  /-- GATE_HOST_CLOSE (R257): CLOSE closes a HOST gate. -/
  | gateHostClose (g : Fin 4)
  /-- GATE_STOP (R259): STOP ends a TIMED REPEAT series after the open gate. -/
  | gateStop (g : Fin 4)
  /-- MU_RESULT (R268): A measurement unit writes its eight result words after a gate close. -/
  | muResult (u : Fin 4)
  /-- MU_RESULT_READ (R268): A read of result word 0 snapshots words 1 to 7. -/
  | muResultRead (u : Fin 4)
  /-- CD_GO (R269): GO in REED_CD_CTRL starts a code-density run or refuses it. -/
  | cdGo (mask : Fin 65536) (log2n : Fin 32)
  /-- CD_ABORT (R269): ABORT ends a code-density run with no width changed. -/
  | cdAbort
  /-- CD_DONE (R269): A code-density run completes and new widths replace REED_BIN or the run fails. -/
  | cdDone (meas : List InMeas)
  /-- CAL_GO_BANK (R281): CAL_CMD GO with KIND BANK starts a bank calibration run or refuses it. -/
  | calGoBank (b : Fin 8)
  /-- CAL_GO_MOUT (R284): CAL_CMD GO with KIND MOUT starts a master-output calibration by rotation. -/
  | calGoMout (outs : Fin 256)
  /-- CAL_GO_TI (R286): CAL_CMD GO with KIND TI starts a trigger-input calibration run. -/
  | calGoTi (mask : Fin 65536)
  /-- CAL_GO_RX (R287): CAL_CMD GO with KIND RX starts a receive-slice calibration run. -/
  | calGoRx (fibres : Fin 4)
  /-- CAL_GO_ALL (R285): CAL_CMD GO with KIND ALL starts a calibration of units 0 to 119, or refuses it. -/
  | calGoAll
  /-- CAL_KIND_NOT_USED (R288): CAL_CMD GO with an unused KIND is refused with REASON 0xD. -/
  | calKindNotUsed (kind : Fin 3)
  /-- CAL_ABORT (R288): ABORT in CAL_CMD aborts the run and hands back carried balls. -/
  | calAbort
  /-- CAL_SAMPLER_PASS_DONE (R280): The 2.6 ms code-density pass on CAL_0 and CAL_1 ends and the dither source is released. -/
  | calSamplerPassDone (ranks : List BinHits)
  /-- GENERATOR_RUN_DONE (R278): A generator run ends and its corrections pass or fail the checks. -/
  | generatorRunDone (meas : GenMeas)
  /-- CAL_HANDOVER (R281): A ball passes between spare and channel generator at the first whole idle wc. -/
  | calHandover (b : Fin 8)
  /-- HANDOVER_LIMIT_EXPIRY (R281): No idle wc occurs within HANDOVER_LIMIT; the channel is skipped. -/
  | handoverLimitExpiry
  /-- TI_RUN_DONE (R286): A TI calibration run ends and its measurements pass or fail. -/
  | tiRunDone (meas : List InMeas)
  /-- CAL_VALUE_LOAD (R293): A generator takes its recomputed corrections at its first whole idle wc. -/
  | calValueLoad (u : Fin 129)
  /-- CAL_RECORD_WRITE (R295): A host write to a calibration record header triggers recomputation, or is ignored under WR_BUSY. -/
  | calRecordWrite (a : Nat) (w : Word)
  /-- RX_LINK_ENABLE (R303): LINK_EN set moves a receive link to CLK_WAIT. -/
  | rxLinkEnable (f : Fin 2)
  /-- RX_LINK_DISABLE (R303): LINK_EN cleared takes a receive link DOWN at once. -/
  | rxLinkDisable (f : Fin 2)
  /-- RX_CLOCK_CHECK (R301): The periodic receive device-clock check passes or fails. -/
  | rxClockCheck (f : Fin 2) (span : Option Nat)
  /-- RX_LINK_UP (R303): Every lane is locked with a complete multiblock at a release boundary and the link goes UP. -/
  | rxLinkUp (f : Fin 2)
  /-- RX_RELEASE (R302): At a release boundary the oldest complete extended multiblock is released and labelled. -/
  | rxRelease (f : Fin 2) (obs : RelObs)
  /-- LANE_LOCK_LOSS (R304): A lane sees 16 invalid sync headers in 64 and the link returns to LOCKING. -/
  | laneLockLoss (l : Fin 12)
  /-- SLICE_PLAUS_FAULT (R308): A residue or parity mismatch marks a receive slice FAULTY and is reported. -/
  | slicePlausFault (p : Fin 9)
  /-- SPARE_DWELL (R309): The spare slice's DWELL expires and it moves to the next active position. -/
  | spareDwell
  /-- MISMATCH (R310): The spare and a slice output differ; the spare enters JUDGE. -/
  | mismatch
  /-- JUDGE_END (R310): The 4 mt judgment ends and marks the faulty slice. -/
  | judgeEnd (bad : Bool) (recur : Bool)
  /-- RX_FO_FORCE (R311): FO_FORCE in RXW_SPARE_CTRL starts spare carrying of a position. -/
  | rxFoForce (p : Fin 9)
  /-- RX_FO_RELEASE (R311): FO_RELEASE returns a position to its slice at the next shot boundary. -/
  | rxFoRelease (p : Fin 9)
  /-- RX_CLEAR_FAULTY (R311): CLEAR_FAULTY removes the FAULTY mark of a receive slice. -/
  | rxClearFaulty (p : Fin 9)
  /-- RX_SELFTEST_DONE (R313): The spare's self-test at the start of an RX run ends. -/
  | rxSelftestDone (pass_ : Bool)
  /-- RX_ESTIMATE_DONE (R313): The estimator finishes a fibre's 2 000 mt measurement and writes records. -/
  | rxEstimateDone (meas : List PosMeas)
  /-- RXW_APPLY (R325): GO in RXW_APPLY applies receive shadows at shot boundaries. -/
  | rxwApply (fibres : Fin 4)
  /-- RXW_TAPPLY_ARM (R326): ARM in RXW_TAPPLY_CTRL sends a receive timed apply. -/
  | rxwTapplyArm (fibres : Fin 4)
  /-- RXW_TAPPLY_CANCEL (R326): CANCEL withdraws the pending receive timed apply. -/
  | rxwTapplyCancel
  /-- ECC_DBE (R320): A Weft local-memory double-bit error discards the block and is reported. -/
  | eccDbe (c : Fin 64) (f : Fin 2) (a : Nat) (lost : Nat × Nat)
  /-- RESIDUE (R323): A Weft residue mismatch is recorded, flagged and reported. -/
  | residue (c : Fin 64) (stage : Fin 16) (f : Fin 2)
  /-- ROW_COMPLETE (R335): A tone profile completes and yields one row of gauge samples through the result stages. -/
  | rowComplete (f : Fin 2) (p : Profile)
  /-- REBASE (R350): REBASE resets the spectral accumulators at the next window. -/
  | rebase (f : Fin 2)
  /-- PACKET_WORD (R367): A producer word reaches a queue, opening, extending or committing a packet. -/
  | packetWord (port : Fin 16) (q : Fin 4096) (w : Word) (sop eop bad : Bool)
  /-- CONSUMER_READ (R370): A consumer port chooses and reads the next committed packet. -/
  | consumerRead (c : Fin 6) (dbe : List (Fin 8192))
  /-- POP_READ (R385): A read of BOLT_POP_DATA removes one committed word of the named queue. -/
  | popRead (dbe : Bool)
  /-- PUSH_MIDDLE (R384): A write to BOLT_PUSH_WORD[0] pushes a middle word. -/
  | pushMiddle (w : Word)
  /-- PUSH_SOP (R384): A write to BOLT_PUSH_WORD[1] pushes an SOP word. -/
  | pushSop (w : Word)
  /-- PUSH_EOP (R384): A write to BOLT_PUSH_WORD[2] pushes an EOP word. -/
  | pushEop (w : Word)
  /-- PUSH_SOP_EOP (R384): A write to BOLT_PUSH_WORD[3] pushes a one-word packet. -/
  | pushSopEop (w : Word)
  /-- PUSH_BAD (R384): BAD rewinds the open host packet as marked bad. -/
  | pushBad
  /-- FLUSH (R373): FLUSH empties a queue in the acceptance cycle. -/
  | flush (q : Fin 4096)
  /-- BOLT_SCRUB_PASS (R379): A Bolt scrub pass starts, or waits for the scrub port, and reads every pool word. -/
  | boltScrubPass (sbe : Nat) (dbes : List (Option (Nat × Nat)))
  /-- SKEIN_FRAME_WRITE (R394): A committed packet is written as a frame into its Skein. -/
  | skeinFrameWrite (k : Fin 64)
  /-- RAW_FRAME_WRITE (R396): A raw frame of receive samples is written to a RAW Skein or dropped. -/
  | rawFrameWrite (f : Fin 2)
  /-- HIST_MARK (R398): HIST_MARK_CMD GO with OP 0 places a host mark in a Skein. -/
  | histMark (k : Fin 64)
  /-- HIST_RELEASE (R400): HIST_MARK_CMD GO with OP 1 frees a mark slot. -/
  | histRelease (k : Fin 64) (j : Fin 16)
  /-- MARK_LOCATED (R398): MEMC locates a mark's START_FRAME. -/
  | markLocated (k : Fin 64) (j : Fin 16)
  /-- READER_GO (R401): GO starts a Skein reader, or is refused with ERR. -/
  | readerGo (r : Fin 8)
  /-- READER_STOP (R401): STOP ends a reader after the frame it is delivering. -/
  | readerStop (r : Fin 8)
  /-- READER_FRAME (R401): A reader delivers one frame as a packet; at its last frame DONE is set. -/
  | readerFrame (r : Fin 8)
  /-- RETENTION_TEST_GO (R403): GO in HIST_RT_CTRL starts a DRAM retention test or refuses it. -/
  | retentionTestGo (page : Fin 16384) (hold : Fin 256)
  /-- RETENTION_TEST_DONE (R403): The retention test reads the page back and reports WEAK_BITS. -/
  | retentionTestDone (weak : Nat)
  /-- STREAM_REGION_RESET (R393): RESET empties a stream region. -/
  | streamRegionReset (q : Fin 2)
  /-- STREAM_REGION_WRITE (R393): Items from the bound queue are written into a stream region. -/
  | streamRegionWrite (q : Fin 2)
  /-- DRAM_DBE (R389): A DRAM double-bit error delivers idle items and is reported. -/
  | dramDbe (page : Fin 16384) (line : Fin 32768) (ws : List (Fin 13)) (patrol : Bool)
  /-- DRAM_SCRUB_PASS (R389): A DRAM patrol scrub pass reads every line. -/
  | dramScrubPass (sbe : Nat)
  /-- DRAM_READY (R404): DRAM training completes and READY is set. -/
  | dramReady
  /-- PORT_TRAIN (R413): A chain port with its enable set and a module present leaves DOWN for TRAIN. -/
  | portTrain (p : Fin 2)
  /-- PORT_UP (R413): Every lane has block lock and is deskewed; the port is UP and sends HELLO. -/
  | portUp (p : Fin 2)
  /-- PORT_LOSS (R413): A chain port loses lock or ALIGN and returns to DOWN. -/
  | portLoss (p : Fin 2)
  /-- HELLO_TIMER (R415): The port's HELLO period expires and it sends ENUM HELLO. -/
  | helloTimer (p : Fin 2)
  /-- HELLO (R427): An ENUM HELLO is received and checked for cabling and neighbour signature. -/
  | hello (p : Fin 2) (f : ChFrame) (crc : Fin (2 ^ 32))
  /-- TIME_EXCHANGE_TIMER (R429): TT_PERIOD expires and the port sends a TIME frame. -/
  | timeExchangeTimer (p : Fin 2) (dep : Nat)
  /-- TIME (R429): A TIME frame is received; delay, offset and the servo are updated. -/
  | time (p : Fin 2) (f : ChFrame) (crc : Fin (2 ^ 32)) (arr : Nat)
  /-- CHAIN_STEP (R435): A member in ACQUIRE steps its timebase at the first quiescent wc. -/
  | chainStep
  /-- ANNOUNCE_TIMER (R436): The head's ANNOUNCE period expires and it sends SYNC ANNOUNCE. -/
  | announceTimer
  /-- ANNOUNCE (R436): A SYNC ANNOUNCE is received and checked for GEN and plan. -/
  | announce (p : Fin 2) (f : ChFrame) (crc : Fin (2 ^ 32))
  /-- BREAK (R446): The first copy of a SYNC BREAK marks the link broken and reroutes. -/
  | break (p : Fin 2) (f : ChFrame) (crc : Fin (2 ^ 32))
  /-- HEAL_HOLD_EXPIRY (R448): HEAL_HOLD expires on a restored link and SYNC HEAL is sent. -/
  | healHoldExpiry (p : Fin 2)
  /-- HEAL (R448): The first copy of a SYNC HEAL restores routes and both servo paths. -/
  | heal (p : Fin 2) (f : ChFrame) (crc : Fin (2 ^ 32))
  /-- JOIN (R428): The first copy of a SYNC JOIN makes the head start a walk. -/
  | join (p : Fin 2) (f : ChFrame) (crc : Fin (2 ^ 32))
  /-- ENUM_GO (R424): GO in CHAIN_ENUM_CMD starts an enumeration walk, or is refused on a member. -/
  | enumGo
  /-- WALK (R424): An ENUM WALK is received, extended and forwarded or returned to the head. -/
  | walk (p : Fin 2) (f : ChFrame) (crc : Fin (2 ^ 32))
  /-- WALK_TIMEOUT (R424): A WALK has not returned within 1 ms and the walk fails. -/
  | walkTimeout
  /-- ASSIGN (R426): An ENUM ASSIGN is received and the device takes its address and position. -/
  | assign (p : Fin 2) (f : ChFrame) (crc : Fin (2 ^ 32))
  /-- TRIG (R439): A TRIG frame is delivered and handed to WARP as a command of source 0x4. -/
  | trig (p : Fin 2) (f : ChFrame) (crc : Fin (2 ^ 32))
  /-- CHAIN_TRIG_GO (R438): GO in CHAIN_TRIG_CTRL sends a host TRIG frame. -/
  | chainTrigGo (dst : Fin 1024) (dline : Fin 64) (action : Fin 16) (group : Fin 256)
  /-- FAULT (R444): A FAULT frame is delivered, recorded as remote and passed to Selvedge. -/
  | fault (p : Fin 2) (f : ChFrame) (crc : Fin (2 ^ 32))
  /-- REG_WR (R441): A REG_WR frame is performed as register writes, optionally replicated and acknowledged. -/
  | regWr (p : Fin 2) (f : ChFrame) (crc : Fin (2 ^ 32))
  /-- REG_RD (R441): A REG_RD frame reads registers and answers with REG_RSP. -/
  | regRd (p : Fin 2) (f : ChFrame) (crc : Fin (2 ^ 32))
  /-- REG_RSP (R462): A REG_RSP frame completes a waiting remote read or write. -/
  | regRsp (p : Fin 2) (f : ChFrame) (crc : Fin (2 ^ 32))
  /-- DATA (R443): A DATA frame is written as a packet to the queue of its TAG. -/
  | data (p : Fin 2) (f : ChFrame) (crc : Fin (2 ^ 32))
  /-- CREDIT (R421): A CREDIT block returns store-forward buffer space to the transmitter. -/
  | credit (p : Fin 2) (n : Fin 65536)
  /-- MODULE_READ (R450): GO in CHAIN_MOD_CTRL with RW 0 reads one module byte. -/
  | moduleRead (p : Fin 2) (page offset : Fin 256)
  /-- MODULE_WRITE (R450): GO in CHAIN_MOD_CTRL with RW 1 writes one module byte. -/
  | moduleWrite (p : Fin 2) (page offset data : Fin 256)
  /-- MODULE_ACCESS_DONE (R450): A module I2C access completes or is not acknowledged. -/
  | moduleAccessDone (p : Fin 2) (data : Fin 256) (ack : Bool)
  /-- REMOTE_WRITE (R462): A BAR0 remote-window write is sent as a REG_WR frame. -/
  | remoteWrite (a : Fin 16777216) (w : Word) (whole : Bool)
  /-- REMOTE_READ (R462): A BAR0 remote-window read is sent as a REG_RD frame and waits for its response. -/
  | remoteRead (a : Fin 16777216) (size : Fin 4)
  /-- REMOTE_READ_TIMEOUT (R462): No REG_RSP arrives within TIMEOUT and the read completes with all ones. -/
  | remoteReadTimeout
  /-- BAR2_PUSH (R460): An 8-byte write to a BAR2 push channel pushes a word to its queue. -/
  | bar2Push (c : Fin 64) (j : Fin 4) (w : Word) (whole : Bool)
  /-- RING_RD_WRITE (R457): A host write of RD frees ring space and may clear FULL_WAIT. -/
  | ringRdWrite (n : Fin 64) (rd : Fin (2 ^ 30))
  /-- RING_INTERRUPT_TIMER (R459): MOD_TIME expires and the ring raises its MSI-X vector. -/
  | ringInterruptTimer (n : Fin 64)
  /-- PCIE_LINK_DOWN (R469): The PCI Express link goes down; the record in progress is rewritten after retraining. -/
  | pcieLinkDown (busy : Bool)
  /-- ETH_WRITE (R465): An Ethernet WRITE request performs register writes and may respond. -/
  | ethWrite (r : EthHdr) (a : Fin 16777216) (masks : Option (Fin 256 × Fin 256)) (ws : List Word)
  /-- ETH_READ (R465): An Ethernet READ request returns register words. -/
  | ethRead (r : EthHdr) (a : Fin 16777216) (count : Fin 65536)
  /-- ETH_PUSH (R465): An Ethernet PUSH request carries records to a push channel. -/
  | ethPush (r : EthHdr) (c : Fin 64) (recs : List (Bool × Bool × List Word))
  /-- ETH_STROBE (R465): An Ethernet STROBE request sends a host strobe. -/
  | ethStrobe (r : EthHdr) (due ctrl : Word)
  /-- ETH_OP_NOT_USED (R465): A register-access datagram with an unused OP is discarded and counted. -/
  | ethOpNotUsed (src : Nat) (id : Fin 65536)
  /-- ARP_REQUEST (R463): An ARP request for the device's IP address is answered. -/
  | arpRequest (ip : Fin 4294967296)
  /-- ETH_FRAME_DISCARD (R463): A received frame breaking the Ethernet rules is discarded and counted. -/
  | ethFrameDiscard
  /-- STREAM_DATAGRAM_TIMER (R464): 10 µs after its first record a stream datagram is sent. -/
  | streamDatagramTimer (n : Fin 64)
  /-- SPI_WRITE (R466): SPI opcode 0x02 writes words from the address. -/
  | spiWrite (a : Fin 16777216) (ws : List Word)
  /-- SPI_READ (R466): SPI opcode 0x03 reads words from the address. -/
  | spiRead (a : Fin 16777216) (n : Fin 16777216)
  /-- SPI_STATUS (R466): SPI opcode 0x05 returns the status byte. -/
  | spiStatus
  /-- REGACC (R466): A JTAG REGACC scan performs a register read or write. -/
  | regacc (write : Bool) (a : Fin 16777216) (w : Word)
  /-- HOST_STROBE (R467): GO in HOST_STROBE_CTRL sends a due-time command of source 0x5. -/
  | hostStrobe (rel : Bool) (l : Fin 64) (action : Fin 16)
  /-- DRAFT_BEGIN (R480): BEGIN starts a draft load and clears staging. -/
  | draftBegin
  /-- DRAFT_ABORT (R482): ABORT discards the staged draft. -/
  | draftAbort
  /-- DRAFT_DATA (R480): Four draft bytes are appended from DRAFT_DATA or the source queue and checked. -/
  | draftData (w : Option Word)
  /-- DRAFT_VERIFY_DONE (R484): Verification ends with VERIFIED or REJECTED. -/
  | draftVerifyDone
  /-- DRAFT_APPLY (R485): APPLY requests holds of every target island, or is ignored. -/
  | draftApply
  /-- DRAFT_APPLY_RUN (R485): With all targets held the frames are written, derived fields computed and islands released. -/
  | draftApplyRun
  /-- DRAFT_COMMIT (R487): COMMIT retries the commit of the applied draft to Bobbin. -/
  | draftCommit
  /-- DRAFT_COMMIT_DONE (R487): A Bobbin commit completes or fails. -/
  | draftCommitDone (ok : Bool)
  /-- CONFIG_SCAN (R490): A configuration scan pass compares island CRCs with their golden values. -/
  | configScan
  /-- ISLAND_HOLD_REQ (R495): A write of REQ in ISLAND_HOLD requests or releases a host hold. -/
  | islandHoldReq (mask : Fin 512)
  /-- HELD (R496): An island reaches HELD. -/
  | held (n : Fin 9)
  /-- ISLAND_RELEASE (R496): An island's last holder releases and its new structure takes effect. -/
  | islandRelease (n : Fin 9)
  /-- HOLD_EXPIRED (R499): A host hold reaches HOLD_LIMIT and ends. -/
  | holdExpired (n : Fin 9)
  /-- GROUP_TAPPLY_ARM (R503): ARM in GROUP_TAPPLY_CTRL sends a group apply of source 0x6. -/
  | groupTapplyArm (g : Fin 256)
  /-- GROUP_TAPPLY_CANCEL (R503): CANCEL withdraws the pending local group apply. -/
  | groupTapplyCancel
  /-- GROUP_TAPPLY (R503): A group apply at its due time applies every selected target. -/
  | groupTapply
  /-- MAINT_CLAIM_GO (R509): GO in MAINT_CLAIM claims the resources of ACT atomically, or is refused. -/
  | maintClaimGo (act : Fin 16)
  /-- MAINT_CLAIM_RELEASE (R509): RELEASE in MAINT_CLAIM releases the resources of ACT. -/
  | maintClaimRelease (act : Fin 16)
  /-- LOCKSTEP (R512): A lockstep mismatch is detected, reported and causes a MGMT reset. -/
  | lockstep
  /-- MGMT_DBE (R513): A MGMT memory double-bit error is reported and causes a MGMT reset. -/
  | mgmtDbe (data : Bool)
  /-- KICK (R514): KICK restarts the watchdog count. -/
  | kick
  /-- WATCHDOG_EXPIRY (R514): PERIOD mt pass without a KICK; a firmware hang is reported and MGMT resets. -/
  | watchdogExpiry
  /-- MGMT_RESET (R528): The cores, memories, mailbox and watchdog reset and an image is loaded. -/
  | mgmtReset
  /-- REBOOT (R528): REBOOT in MGMT_STATUS causes a MGMT reset. -/
  | reboot
  /-- BOOT_OK (R517): BOOT_OK written by firmware clears BOOT_FAILS. -/
  | bootOk
  /-- FW_BEGIN (R516): BEGIN in MGMT_FW_CTRL starts a firmware image write, or is refused. -/
  | fwBegin
  /-- FW_ABORT (R516): ABORT in MGMT_FW_CTRL ends the image write. -/
  | fwAbort
  /-- FW_DATA (R516): Four image bytes are written into the target slot. -/
  | fwData (w : Word)
  /-- FW_WRITE_DONE (R516): The image is checked, its element header written and read back. -/
  | fwWriteDone (ok : Bool)
  /-- MBX_GO (R519): GO in MGMT_MBX_CMD issues a mailbox command, answered NO_FW in bare mode. -/
  | mbxGo (op tag : Fin 256)
  /-- VERSION (R520): Mailbox VERSION returns the image version, SEQ and slot. -/
  | version
  /-- CHECKPOINT (R520): Mailbox CHECKPOINT claims activity 0x9, checkpoints and releases. -/
  | checkpoint (ok : Bool)
  /-- CALSET_COMMIT (R520): Mailbox CALSET_COMMIT claims activity 0xA, commits the calibration set and releases. -/
  | calsetCommit (ok : Bool)
  /-- CALIBRATE (R520): Mailbox CALIBRATE starts a calibration run with retries. -/
  | calibrate
  /-- HEALTH (R597): Mailbox HEALTH returns the four prediction words. -/
  | health
  /-- MBX_REBOOT (R520): Mailbox REBOOT responds and then causes a MGMT reset. -/
  | mbxReboot
  /-- LOG_READ (R520): Mailbox LOG_READ returns words of the firmware log. -/
  | logRead (ws : List Word)
  /-- MBX_UNKNOWN (R520): A mailbox opcode the firmware does not know is answered UNKNOWN. -/
  | mbxUnknown
  /-- CKPT_GO (R525): GO in MGMT_CKPT takes a checkpoint, or is refused NOT_CLAIMED. -/
  | ckptGo
  /-- CKPT_DONE (R525): The checkpoint record is programmed and read back; DONE or FAIL is set. -/
  | ckptDone (ok : Bool)
  /-- CALSET_GO (R527): GO in MGMT_CALSET commits a calibration set, or is refused. -/
  | calsetGo
  /-- CALSET_DONE (R527): The calibration-set commit completes or fails. -/
  | calsetDone (ok : Bool)
  /-- POWER_UP (R529): Supplies rise and the restore engine restores the device in order. -/
  | powerUp (head ilLow : Bool)
  /-- RESET_N (R528): RESET_N low resets every domain but PD_AON and starts the restore. -/
  | resetN (head : Bool) (low : ResetLow)
  /-- RESTORE_DONE (R529): Step 9 of the restore completes and RESTORE_DONE is set. -/
  | restoreDone
  /-- WAKE_TAKEOVER (R532): Enabled domains not requested within 40 mt are woken by the engine. -/
  | wakeTakeover
  /-- RESUME (R534): RESUME releases the restore hold, or is ignored before RESTORE_DONE. -/
  | resume
  /-- AUTO_RESUME (R534): At an mt check with every condition met, the restore hold is released. -/
  | autoResume
  /-- PWR_REQ_ON (R541): A request ON for a domain queues a governed wake, or is refused. -/
  | pwrReqOn (d : Fin 8)
  /-- PWR_REQ_OFF (R543): A request OFF saves the domain and opens its switch, or is refused. -/
  | pwrReqOff (d : Fin 8) (path : Fin 6)
  /-- PWR_REQ_RETAIN (R552): A request RETAIN puts PD_BOLT into retention, or is refused. -/
  | pwrReqRetain (d : Fin 8)
  /-- GOVERNOR_ADMIT (R548): At a 10 ns tick the governor admits waiting events within its budget and caps. -/
  | governorAdmit (n : Nat)
  /-- SAVE_DONE (R543): A domain's configuration is saved and its switch opens; STATE becomes OFF. -/
  | saveDone (d : Fin 8)
  /-- WAKE_DONE (R544): A domain's ramp and restore end; it becomes LOADING or ON. -/
  | wakeDone (d : Fin 8)
  /-- TABLE_RELOAD_DONE (R544): A domain's windows are reloaded from the draft chain and it becomes ON. -/
  | tableReloadDone (d : Fin 8)
  /-- RETAIN_ENTERED (R552): PD_BOLT reaches retention bias and STATE becomes RETAIN. -/
  | retainEntered
  /-- SD_CLEAR (R558): SD_CLEAR clears SHUTDOWN below 95 °C and requests enabled domains. -/
  | sdClear
  /-- SUPPLY_EXCURSION (R559): A rail leaves its window for 200 ns and a supply fault is reported. -/
  | supplyExcursion (rail : Fin 8) (outside : Bool)
  /-- WAKE (R628): A WAKE pin edge requests ON for enabled domains that are OFF. -/
  | wake
  /-- SELVEDGE_FAULT_REPORT (R569): Selvedge receives a detected fault and records, signals and frames it. -/
  | selvedgeFaultReport
  /-- FAULT_ACTIVE_CLEAR (R576): A W1C of FAULT_ACTIVE clears class bits whose level condition does not hold. -/
  | faultActiveClear (mask : Fin (2 ^ 31))
  /-- HOLD_RELEASE (R577): HOLD_RELEASE ends the fault hold, or is refused. -/
  | holdRelease
  /-- PIN_FAULT (R580): A FAULT_N or INT_N pad reads high for 100 ns while asserted. -/
  | pinFault (pin : Fin 2)
  /-- SELVEDGE_DISAGREE (R568): The two Selvedge copies disagree and a DETECTOR fault is reported. -/
  | selvedgeDisagree
  /-- SVC_STALE (R581): 2 × DET_PERIOD mt pass without a complete detector test pass. -/
  | svcStale
  /-- GEN_SHIFT (R583): Injection kind 0x01 shifts a generator's edges. -/
  | genShift (unit : Fin 2048) (count : Fin 16384) (test en : Bool)
  /-- GEN_MISS (R583): Injection kind 0x02 removes a generator's edges. -/
  | genMiss (unit : Fin 2048) (count : Fin 16384) (test en : Bool)
  /-- BALL_STUCK (R583): Injection kind 0x03 holds a ball at idle. -/
  | ballStuck (unit : Fin 2048) (count : Fin 16384) (test en : Bool)
  /-- PLLW_UNLOCK (R583): Injection kind 0x04 opens the PLL_W loop. -/
  | pllwUnlock (unit : Fin 2048) (count : Fin 16384) (test en : Bool)
  /-- PLLW_STEP (R583): Injection kind 0x05 steps the PLL_W output phase. -/
  | pllwStep (unit : Fin 2048) (count : Fin 16384) (test en : Bool)
  /-- REF_STOP (R583): Injection kind 0x06 gates off a reference. -/
  | refStop (unit : Fin 2048) (count : Fin 16384) (test en : Bool)
  /-- TRIPLE_FLIP (R583): Injection kind 0x07 flips one copy of a triple-stored bit. -/
  | tripleFlip (unit : Fin 2048) (count : Fin 16384) (test en : Bool)
  /-- STRUCT_FLIP (R583): Injection kind 0x08 flips a scanned structure bit. -/
  | structFlip (unit : Fin 2048) (count : Fin 16384) (test en : Bool)
  /-- SRAM_SBE (R583): Injection kind 0x09 flips one SRAM bit. -/
  | sramSbe (unit : Fin 2048) (count : Fin 16384) (test en : Bool)
  /-- SRAM_DBE (R583): Injection kind 0x0A flips two bits of an SRAM codeword. -/
  | sramDbe (unit : Fin 2048) (count : Fin 16384) (test en : Bool)
  /-- DRAM_SBE (R583): Injection kind 0x0B flips one DRAM bit. -/
  | dramSbe (unit : Fin 2048) (count : Fin 16384) (test en : Bool)
  /-- DRAM_DBE_INJECT (R583): Injection kind 0x0C flips two bits of a DRAM codeword. -/
  | dramDbeInject (unit : Fin 2048) (count : Fin 16384) (test en : Bool)
  /-- LINK_DROP (R583): Injection kind 0x0D stops a chain port transmitting. -/
  | linkDrop (unit : Fin 2048) (count : Fin 16384) (test en : Bool)
  /-- JESD_CRC (R583): Injection kind 0x0E corrupts receive multiblock CRCs. -/
  | jesdCrc (unit : Fin 2048) (count : Fin 16384) (test en : Bool)
  /-- SLICE_CMP (R583): Injection kind 0x0F adds an error to a slice output. -/
  | sliceCmp (unit : Fin 2048) (count : Fin 16384) (test en : Bool)
  /-- SLICE_PAR (R583): Injection kind 0x10 causes a slice plausibility error. -/
  | slicePar (unit : Fin 2048) (count : Fin 16384) (test en : Bool)
  /-- WEFT_RESIDUE (R583): Injection kind 0x11 causes Weft residue errors. -/
  | weftResidue (unit : Fin 2048) (count : Fin 16384) (test en : Bool)
  /-- INJECT_LOCKSTEP (R583): Injection kind 0x12 causes a lockstep mismatch. -/
  | injectLockstep (unit : Fin 2048) (count : Fin 16384) (test en : Bool)
  /-- KICK_BLOCK (R583): Injection kind 0x13 ignores KICK writes. -/
  | kickBlock (unit : Fin 2048) (count : Fin 16384) (test en : Bool)
  /-- INJECT_SENSOR (R583): Injection kind 0x14 offsets sensor B of a site. -/
  | injectSensor (unit : Fin 2048) (count : Fin 16384) (test en : Bool)
  /-- INJECT_MONITOR (R603): Injection kind 0x15 offsets a converter's MON_7 results. -/
  | injectMonitor (unit : Fin 2048) (count : Fin 16384) (test en : Bool)
  /-- INJECT_SUPPLY (R583): Injection kind 0x16 forces a rail monitor out of window. -/
  | injectSupply (unit : Fin 2048) (count : Fin 16384) (test en : Bool)
  /-- INJECT_LOGIC (R583): Injection kind 0x17 causes a control-logic mismatch. -/
  | injectLogic (unit : Fin 2048) (count : Fin 16384) (test en : Bool)
  /-- INJECT_PIN (R583): Injection kind 0x18 forces a fault pad high. -/
  | injectPin (unit : Fin 2048) (count : Fin 16384) (test en : Bool)
  /-- INJECT_KIND_NOT_USED (R582): Injection GO with an unused KIND is refused with REASON 0x2. -/
  | injectKindNotUsed (kind : Fin 256) (unit : Fin 2048) (count : Fin 16384) (test en : Bool)
  /-- MISSED (R584): An injection's report window ends without a record. -/
  | missed
  /-- DAY_CLOSE (R589): DAY_MT reaches 24 h; a powered day closes and snapshots are taken. -/
  | dayClose
  /-- TRIM_REREF (R594): TRIM_REREF clears REF_SET of every generator unit. -/
  | trimReref
  /-- LAMP_REREF (R595): LAMP_REREF clears B_REF of every lamp. -/
  | lampReref
  /-- MON_PASS (R601): PASS_PER expires and both monitor converters start a pass. -/
  | monPass (a b : List (Fin 4096)) (late : Bool)
  /-- MON_SELFTEST_GO (R603): GO in MON_SELFTEST claims converter B and starts its self-test, or is refused. -/
  | monSelftestGo
  /-- MON_SELFTEST_DONE (R603): The self-test finishes, passes or reports a fault, and releases the resource. -/
  | monSelftestDone (means : List (Fin 3 × Fin 4 × Nat))
  /-- FRAME_SYNC (R605): A FRAME_SYNC edge is accepted as a frame start, or ignored. -/
  | frameSync (ticks : Nat)
  /-- FRAME_FLYWHEEL (R605): No FRAME_SYNC arrives by 1.01 × FRAME_LEN, or FS_SRC is internal, and the device starts a frame. -/
  | frameFlywheel
  /-- LAMP_APPLY (R614): GO in LAMP_APPLY makes the next frame start an apply point. -/
  | lampApply
  /-- LAMP_PULSE (R606): A class A pulse is due at its offset and period. -/
  | lampPulse (l : Fin 32) (sense : Option (Fin 4096))
  /-- LAMP_SPAN (R607): A class B span window turns an output on for its duty. -/
  | lampSpan (l : Fin 32) (sense : Option (Fin 4096))
  /-- OC_CUT (R610): Sensed current above I_CAP for 200 ns turns the output off. -/
  | ocCut (l : Fin 32)
  /-- LAMP_CLR (R610): LAMP_CLR clears the overcurrent latch of an output. -/
  | lampClr (mask : Fin (2 ^ 32))
  /-- PLLW_FIRST_LOCK (R20): PLL_W locks for the first time after PD_WARP powers up; the timebase starts at zero and the keeper takes over from MGMT mt counting. -/
  | pllwFirstLock
  /-- HOST_LINK_TRAINED (R454): The host port finishes training and LINK_UP is set, after which interrupted records are rewritten and register access resumes. -/
  | hostLinkTrained (gen : Fin 6)
  /-- PERST_N (R627): The PCI Express fundamental reset pin changes level and holds or releases the host port in reset. -/
  | perstN (high : Bool)
  /-- MGMT_SCRUB_PASS (R513): The MGMT scrubber reads every word of the instruction and data memories and the table windows, correcting single-bit errors and reporting double-bit errors. -/
  | mgmtScrubPass (sbe : Nat) (dbe : Option (Fin 3))
  /-- WEFT_MEMORY_SCRUB (R320): The Weft scrubber reads and corrects every local-memory word of the clusters. -/
  | weftMemoryScrub
  /-- LOGIC_MISMATCH (R567): A duplicated state element, a residue outside WEFT or a parity check disagrees and a LOGIC fault is reported within 1 µs. -/
  | logicMismatch (island : Fin 10) (sub : Fin 3)
  /-- INJECTION_END (R582): An injection whose extent is counted in µs, mt, edges or samples reaches its COUNT; the forced condition is removed and BUSY clears. -/
  | injectionEnd
  /-- POWER_LOSS (R523): The supplies fall, cutting short any Bobbin write, losing uncommitted state and, when VDD_AON also falls, clearing the AON items. -/
  | powerLoss (aon : Bool)
  /-- FRAME_TYPE_NOT_USED (R417): A chain frame of an unused type, or one whose LEN breaks its type's rule, is discarded and counted in FRAME_ERRS. -/
  | frameTypeNotUsed (p : Fin 2) (f : ChFrame)
  deriving DecidableEq, Repr

end Sys2Proof
end

