-- ==== Sys2Proof/Decode.lean ====
section
/-! DEFINITION. The table's words. The operations-and-events table gives no row any bits: a command of the block is an event, an access or a
timer, not a word, so no word spells one. -/

namespace Sys2Proof

/-- The command a word of `nbits` bits spells by the table's encodings: none, since the table encodes no row. Log: 6 DESIGN CHOICE. -/
def decodeTableWord (_nbits _w : Nat) : Option Instr := none

end Sys2Proof
end

