-- ==== Sys2Proof/Config.lean ====
section
/-! DEFINITION. What one part fixes and what the manual leaves open. Every constant here is opaque: nothing can evaluate it, so
a claim about the model holds whatever its value. -/

namespace Sys2Proof

/-- GRADE of GLOBAL_ID, read from fuses (chapter 00). Safe: free. -/
opaque Config.grade : Nat

/-- The device signature of CHAIN_SIG, fixed by fuses (chapter 14). Safe: free. -/
opaque Config.signature : Word

/-- The 48-bit MAC address, fixed by fuses (chapter 15). Safe: free. -/
opaque Config.macAddress : Nat

/-- DRAFT_KEYS, fixed by fuses: which key slots are programmed and which revoked (R479). Safe: free. -/
opaque Config.draftKeys : Word

/-- HEALTH_ID, fixed at final test (chapter 21). Safe: free. -/
opaque Config.healthId : Word

/-- Does the SHA-256 of this public key equal the hash fused in this key slot (R479)? Free. -/
opaque Config.keyHash : Nat → List Nat → Bool

/-- Does this Ed25519 signature verify these bytes under this public key (R478, R479)? Free. -/
opaque Config.sigOk : List Nat → List Nat → List Nat → Bool

/-- The rows per second of a fibre at which the load check rates the stages behind DIFF (R322): the manual gives no such figure at load. Free. -/
opaque Config.rowRate : Nat → Nat

/-- Do the streams between the clusters these descriptor words map keep every mesh link within 1.8 words per cycle (R322)? The manual does not
give the words per item. Free. -/
opaque Config.meshOk : List Nat → Bool

/-- The binding a draft carries for which no register holds it (log entry 5): of its bytes and the binding's number, 0 edge checks, 1 Heddle
logging, 2 sequencer logging, 3 and 4 the SYSREF output of transmit 0 and 1, 5 and 6 that of receive 0 and 1; the answer is what it sets,
or none where it leaves the binding as it was. Free. -/
opaque Config.draftBind : List Nat → Nat → Option (Option Nat)

/-- Do these two wc, the earlier first, lie in one cycle of this island, where its cycle lies on no grid of the warp clock (log entry 8)?
Free. -/
opaque Config.sameCycle : Nat → Nat → Nat → Bool

/-- One cycle of the DRAM controller's clock in picoseconds (R58), which the manual does not give. Free. -/
opaque Config.memcPs : Nat

/-- The fused nominal input delay of each trigger input, in wc/2^16 (R292). Safe: free. -/
opaque Config.nominalDelay : Nat → Nat

/-- The reference insertion delay M_REF in picoseconds, fixed by fuses (R277). Safe: free. -/
opaque Config.mRef : Nat

/-- A free value: what the manual leaves open, one fresh value for each index (log entry 2). Log: 2 DESIGN CHOICE. -/
opaque Config.free : Nat → Nat

end Sys2Proof
end

