-- ==== Sys2Proof/Machine/Fields.lean ====
section
/-! DEFINITION. Register fields: their access types (R9), change classes (R5 to R8) and restore attributes (R13, R14), the
layout of a register array, and the bit-field and sign arithmetic every layout of the manual uses. -/

namespace Sys2Proof.Machine

/-- Access types of R9. -/
inductive Acc where
  | rw | ro | wo | w1c | w1s | rc | rwl
  deriving DecidableEq, Repr

/-- Change classes of R5, R6 and R8: structural, double-buffered, live. -/
inductive Cls where
  | s | d | l
  deriving DecidableEq, Repr

/-- Restore attributes: checkpoint, draft, zero at power-up, another literal, live or fused. -/
inductive Rst where
  | ret | draft | zero | lit | live
  deriving DecidableEq, Repr

/-- One field of a register word: base address of its array, its bits, and its attributes; `start` is the literal or bare value. -/
structure Fld where
  base : Nat
  hi : Nat
  lo : Nat
  acc : Acc
  cls : Cls
  rst : Rst
  start : Nat
  deriving DecidableEq, Repr

/-- One register (or array): base word address, (stride, count) of each index outermost first, owning island codes (R474),
power domain (R539), fields. -/
structure RegRow where
  base : Nat
  dims : List (Nat × Nat)
  owners : List Nat
  dom : Nat
  fields : List Fld
  deriving DecidableEq, Repr

/-- Width of a field in bits. -/
def fldWidth (f : Fld) : Nat := f.hi - f.lo + 1

/-- `wd` bits of `n` from bit `lo` up. -/
def natBits (n lo wd : Nat) : Nat := (n >>> lo) % 2 ^ wd

/-- The bits of a word from `lo` up, `wd` of them. -/
def getBits (w : Word) (lo wd : Nat) : Nat := natBits w.toNat lo wd

/-- A word with the `wd` bits from `lo` up replaced by the low `wd` bits of `v`. -/
def setBits (w : Word) (lo wd v : Nat) : Word :=
  BitVec.ofNat 36 ((w.toNat &&& ((2 ^ 36 - 1) ^^^ ((2 ^ wd - 1) <<< lo))) ||| ((v % 2 ^ wd) <<< lo))

/-- Value of field `f` in word `w`. -/
def Fld.get (f : Fld) (w : Word) : Nat := getBits w f.lo (fldWidth f)

/-- Word `w` with field `f` set to `v` (modulo the field's width). -/
def Fld.set (f : Fld) (w : Word) (v : Nat) : Word := setBits w f.lo (fldWidth f) v

/-- Bit `i` of a word as a truth value. -/
def bitOf (w : Word) (i : Nat) : Bool := w.toNat.testBit i

/-- The signed value of the low `wd` bits of `n` (notation sN of chapter 00). -/
def sgn (wd n : Nat) : Int := if n % 2 ^ wd < 2 ^ (wd - 1) then (n % 2 ^ wd : Nat) else (n % 2 ^ wd : Nat) - (2 ^ wd : Nat)

/-- The `wd`-bit two's complement code of an integer. -/
def enc (wd : Nat) (z : Int) : Nat := (z % (2 ^ wd : Nat)).toNat

/-- Saturation of an integer to s`wd`. -/
def satS (wd : Nat) (z : Int) : Int := max (-(2 ^ (wd - 1) : Nat)) (min z ((2 ^ (wd - 1) : Nat) - 1))

/-- Saturation of a count to u`wd`. -/
def satU (wd n : Nat) : Nat := min n (2 ^ wd - 1)

/-- A truth value as 0 or 1. -/
def b2n (b : Bool) : Nat := if b then 1 else 0

/-- The bits set in `n` below `k`, ascending. -/
def bitList (n k : Nat) : List Nat := (List.range k).filter (fun i => n.testBit i)

/-- `n` with bit `i` set or cleared. -/
def withBit (n i : Nat) (b : Bool) : Nat := if n.testBit i = b then n else if b then n + 2 ^ i else n - 2 ^ i

/-- Number of bits set below `k`. -/
def popCount (n k : Nat) : Nat := (bitList n k).length

/-- Does offset `off` fall on a word of an array with these strides and counts? -/
def inDims : List (Nat × Nat) → Nat → Bool
  | [], off => off == 0
  | (st, n) :: ds, off => off / st < n && inDims ds (off % st)

/-- Is `a` a word of this register? -/
def RegRow.has (r : RegRow) (a : Nat) : Bool := r.base ≤ a && inDims r.dims (a - r.base)

/-- The start word of a register: every field at its literal or bare value, the rest zero. Log: 1 DESIGN CHOICE. -/
def RegRow.startWord (r : RegRow) : Word := r.fields.foldl (fun w f => f.set w f.start) 0

end Sys2Proof.Machine
end

