-- ==== Sys2Proof/Machine/RegsA.lean ====
section
/-! DEFINITION. The register map, part A: for every register word the manual lists, its base address, the layout of its
array, its owning islands and power domain, and every field with its bits, access type, change class, restore attribute and
start value (chapters 00, 01, 02, 03, 04, 05, sections "Registers"; R474 gives the owners, R539 the domains). -/

namespace Sys2Proof.Machine

/-! Chapter 00: identification. -/

def aGLOBAL_ID : Nat := 0x000000
def fGLOBAL_ID_FAMILY : Fld := ⟨aGLOBAL_ID, 35, 20, .ro, .s, .lit, 9270⟩
def fGLOBAL_ID_REV : Fld := ⟨aGLOBAL_ID, 19, 12, .ro, .s, .lit, 16⟩
def fGLOBAL_ID_GRADE : Fld := ⟨aGLOBAL_ID, 11, 10, .ro, .s, .live, 0⟩
def rGLOBAL_ID : RegRow := ⟨aGLOBAL_ID, [], [0], 1, [fGLOBAL_ID_FAMILY, fGLOBAL_ID_REV, fGLOBAL_ID_GRADE]⟩

/-- Every register word of chapter 00. -/
def regRows00 : List RegRow :=
  [rGLOBAL_ID]

/-! Chapter 01: timebase, lead and fabric. -/

def aTB_NOW_LO : Nat := 0x000010
def fTB_NOW_LO_COARSE : Fld := ⟨aTB_NOW_LO, 35, 10, .ro, .l, .live, 0⟩
def fTB_NOW_LO_FINE : Fld := ⟨aTB_NOW_LO, 9, 0, .ro, .l, .live, 0⟩
def rTB_NOW_LO : RegRow := ⟨aTB_NOW_LO, [], [0], 2, [fTB_NOW_LO_COARSE, fTB_NOW_LO_FINE]⟩
def aTB_NOW_HI : Nat := 0x000011
def fTB_NOW_HI_EPOCH : Fld := ⟨aTB_NOW_HI, 35, 0, .ro, .l, .live, 0⟩
def rTB_NOW_HI : RegRow := ⟨aTB_NOW_HI, [], [0], 2, [fTB_NOW_HI_EPOCH]⟩
def aTB_MT_COUNT : Nat := 0x000012
def fTB_MT_COUNT_MT_COUNT : Fld := ⟨aTB_MT_COUNT, 35, 0, .ro, .l, .zero, 0⟩
def rTB_MT_COUNT : RegRow := ⟨aTB_MT_COUNT, [], [0], 1, [fTB_MT_COUNT_MT_COUNT]⟩
def aTB_WC_PER_MT : Nat := 0x000013
def fTB_WC_PER_MT_INT : Fld := ⟨aTB_WC_PER_MT, 35, 12, .ro, .l, .live, 0⟩
def fTB_WC_PER_MT_FRAC : Fld := ⟨aTB_WC_PER_MT, 11, 0, .ro, .l, .live, 0⟩
def rTB_WC_PER_MT : RegRow := ⟨aTB_WC_PER_MT, [], [0], 2, [fTB_WC_PER_MT_INT, fTB_WC_PER_MT_FRAC]⟩
def aTB_MT_STAMP_LO : Nat := 0x000014
def fTB_MT_STAMP_LO_COARSE : Fld := ⟨aTB_MT_STAMP_LO, 35, 10, .ro, .l, .live, 0⟩
def fTB_MT_STAMP_LO_FINE : Fld := ⟨aTB_MT_STAMP_LO, 9, 0, .ro, .l, .live, 0⟩
def rTB_MT_STAMP_LO : RegRow := ⟨aTB_MT_STAMP_LO, [], [0], 2, [fTB_MT_STAMP_LO_COARSE, fTB_MT_STAMP_LO_FINE]⟩
def aTB_MT_STAMP_HI : Nat := 0x000015
def fTB_MT_STAMP_HI_EPOCH : Fld := ⟨aTB_MT_STAMP_HI, 35, 0, .ro, .l, .live, 0⟩
def rTB_MT_STAMP_HI : RegRow := ⟨aTB_MT_STAMP_HI, [], [0], 2, [fTB_MT_STAMP_HI_EPOCH]⟩
def aKEEPER_MT_LEN : Nat := 0x000016
def fKEEPER_MT_LEN_INT : Fld := ⟨aKEEPER_MT_LEN, 35, 18, .rw, .s, .draft, 0⟩
def fKEEPER_MT_LEN_FRAC : Fld := ⟨aKEEPER_MT_LEN, 17, 0, .rw, .s, .draft, 0⟩
def rKEEPER_MT_LEN : RegRow := ⟨aKEEPER_MT_LEN, [], [0], 2, [fKEEPER_MT_LEN_INT, fKEEPER_MT_LEN_FRAC]⟩
def aKEEPER_STATUS : Nat := 0x000017
def fKEEPER_STATUS_STATE : Fld := ⟨aKEEPER_STATUS, 35, 34, .ro, .l, .live, 2⟩
def fKEEPER_STATUS_REF_SEL : Fld := ⟨aKEEPER_STATUS, 33, 33, .ro, .l, .live, 0⟩
def fKEEPER_STATUS_SLIP : Fld := ⟨aKEEPER_STATUS, 32, 32, .w1c, .l, .zero, 0⟩
def fKEEPER_STATUS_RESUMED : Fld := ⟨aKEEPER_STATUS, 31, 31, .w1c, .l, .zero, 0⟩
def fKEEPER_STATUS_SLIP_COUNT : Fld := ⟨aKEEPER_STATUS, 15, 0, .rc, .l, .zero, 0⟩
def rKEEPER_STATUS : RegRow := ⟨aKEEPER_STATUS, [], [0], 2, [fKEEPER_STATUS_STATE, fKEEPER_STATUS_REF_SEL, fKEEPER_STATUS_SLIP, fKEEPER_STATUS_RESUMED, fKEEPER_STATUS_SLIP_COUNT]⟩
def aTB_RESUME_ERR : Nat := 0x000018
def fTB_RESUME_ERR_ERR : Fld := ⟨aTB_RESUME_ERR, 9, 0, .ro, .l, .zero, 0⟩
def rTB_RESUME_ERR : RegRow := ⟨aTB_RESUME_ERR, [], [0], 2, [fTB_RESUME_ERR_ERR]⟩
def aTB_LOAD_LO : Nat := 0x000019
def fTB_LOAD_LO_COARSE : Fld := ⟨aTB_LOAD_LO, 35, 10, .rw, .l, .zero, 0⟩
def rTB_LOAD_LO : RegRow := ⟨aTB_LOAD_LO, [], [0], 2, [fTB_LOAD_LO_COARSE]⟩
def aTB_LOAD_HI : Nat := 0x00001A
def fTB_LOAD_HI_EPOCH : Fld := ⟨aTB_LOAD_HI, 35, 0, .rw, .l, .zero, 0⟩
def rTB_LOAD_HI : RegRow := ⟨aTB_LOAD_HI, [], [0], 2, [fTB_LOAD_HI_EPOCH]⟩
def aTB_LOAD_CTRL : Nat := 0x00001B
def fTB_LOAD_CTRL_MODE : Fld := ⟨aTB_LOAD_CTRL, 35, 34, .rw, .l, .zero, 0⟩
def fTB_LOAD_CTRL_GO : Fld := ⟨aTB_LOAD_CTRL, 33, 33, .w1s, .l, .zero, 0⟩
def fTB_LOAD_CTRL_DONE : Fld := ⟨aTB_LOAD_CTRL, 32, 32, .ro, .l, .zero, 0⟩
def fTB_LOAD_CTRL_REFUSE : Fld := ⟨aTB_LOAD_CTRL, 31, 28, .ro, .l, .zero, 0⟩
def rTB_LOAD_CTRL : RegRow := ⟨aTB_LOAD_CTRL, [], [0], 2, [fTB_LOAD_CTRL_MODE, fTB_LOAD_CTRL_GO, fTB_LOAD_CTRL_DONE, fTB_LOAD_CTRL_REFUSE]⟩
def aLEAD_CFG : Nat := 0x00001C
def fLEAD_CFG_ASAP_LIMIT : Fld := ⟨aLEAD_CFG, 25, 0, .rw, .l, .ret, 67108863⟩
def rLEAD_CFG : RegRow := ⟨aLEAD_CFG, [], [0], 2, [fLEAD_CFG_ASAP_LIMIT]⟩
def aLEAD_STATUS : Nat := 0x00001D
def fLEAD_STATUS_LATE : Fld := ⟨aLEAD_STATUS, 35, 35, .w1c, .l, .zero, 0⟩
def fLEAD_STATUS_ASAP_USED : Fld := ⟨aLEAD_STATUS, 34, 34, .w1c, .l, .zero, 0⟩
def fLEAD_STATUS_LOCK_DROP : Fld := ⟨aLEAD_STATUS, 33, 33, .w1c, .l, .zero, 0⟩
def fLEAD_STATUS_TAPPLY_LATE : Fld := ⟨aLEAD_STATUS, 32, 32, .w1c, .l, .zero, 0⟩
def fLEAD_STATUS_FIRST_SRC : Fld := ⟨aLEAD_STATUS, 31, 28, .ro, .l, .zero, 0⟩
def fLEAD_STATUS_LOCK_DROP_COUNT : Fld := ⟨aLEAD_STATUS, 15, 0, .rc, .l, .zero, 0⟩
def rLEAD_STATUS : RegRow := ⟨aLEAD_STATUS, [], [0], 2, [fLEAD_STATUS_LATE, fLEAD_STATUS_ASAP_USED, fLEAD_STATUS_LOCK_DROP, fLEAD_STATUS_TAPPLY_LATE, fLEAD_STATUS_FIRST_SRC, fLEAD_STATUS_LOCK_DROP_COUNT]⟩
def aLEAD_COUNT : Nat := 0x00001E
def fLEAD_COUNT_LATE_COUNT : Fld := ⟨aLEAD_COUNT, 35, 18, .rc, .l, .zero, 0⟩
def fLEAD_COUNT_ASAP_COUNT : Fld := ⟨aLEAD_COUNT, 17, 0, .rc, .l, .zero, 0⟩
def rLEAD_COUNT : RegRow := ⟨aLEAD_COUNT, [], [0], 2, [fLEAD_COUNT_LATE_COUNT, fLEAD_COUNT_ASAP_COUNT]⟩
def aLEAD_FIRST_LO : Nat := 0x00001F
def fLEAD_FIRST_LO_COARSE : Fld := ⟨aLEAD_FIRST_LO, 35, 10, .ro, .l, .zero, 0⟩
def fLEAD_FIRST_LO_FINE : Fld := ⟨aLEAD_FIRST_LO, 9, 0, .ro, .l, .zero, 0⟩
def rLEAD_FIRST_LO : RegRow := ⟨aLEAD_FIRST_LO, [], [0], 2, [fLEAD_FIRST_LO_COARSE, fLEAD_FIRST_LO_FINE]⟩
def aLEAD_FIRST_HI : Nat := 0x000020
def fLEAD_FIRST_HI_EPOCH : Fld := ⟨aLEAD_FIRST_HI, 35, 0, .ro, .l, .zero, 0⟩
def rLEAD_FIRST_HI : RegRow := ⟨aLEAD_FIRST_HI, [], [0], 2, [fLEAD_FIRST_HI_EPOCH]⟩
def aHSF_STALL : Nat := 0x000021
def fHSF_STALL_STALLS : Fld := ⟨aHSF_STALL, 23, 0, .rc, .l, .zero, 0⟩
def rHSF_STALL : RegRow := ⟨aHSF_STALL, [(1, 7)], [0], 2, [fHSF_STALL_STALLS]⟩

/-- Every register word of chapter 01. -/
def regRows01 : List RegRow :=
  [rTB_NOW_LO, rTB_NOW_HI, rTB_MT_COUNT, rTB_WC_PER_MT, rTB_MT_STAMP_LO, rTB_MT_STAMP_HI, rKEEPER_MT_LEN, rKEEPER_STATUS, rTB_RESUME_ERR, rTB_LOAD_LO, rTB_LOAD_HI, rTB_LOAD_CTRL, rLEAD_CFG, rLEAD_STATUS, rLEAD_COUNT, rLEAD_FIRST_LO, rLEAD_FIRST_HI, rHSF_STALL]

/-! Chapter 02: warp clock. -/

def aCLK_REF_CFG : Nat := 0x010000
def fCLK_REF_CFG_PREF : Fld := ⟨aCLK_REF_CFG, 35, 35, .rw, .l, .ret, 0⟩
def fCLK_REF_CFG_FAILOVER : Fld := ⟨aCLK_REF_CFG, 34, 34, .rw, .l, .ret, 1⟩
def fCLK_REF_CFG_REVERT : Fld := ⟨aCLK_REF_CFG, 33, 33, .rw, .l, .ret, 0⟩
def fCLK_REF_CFG_QUAL_PPM : Fld := ⟨aCLK_REF_CFG, 29, 20, .rw, .l, .ret, 100⟩
def fCLK_REF_CFG_QUAL_TIME : Fld := ⟨aCLK_REF_CFG, 19, 12, .rw, .l, .ret, 40⟩
def rCLK_REF_CFG : RegRow := ⟨aCLK_REF_CFG, [], [0], 2, [fCLK_REF_CFG_PREF, fCLK_REF_CFG_FAILOVER, fCLK_REF_CFG_REVERT, fCLK_REF_CFG_QUAL_PPM, fCLK_REF_CFG_QUAL_TIME]⟩
def aCLK_REF_STATUS : Nat := 0x010001
def fCLK_REF_STATUS_A_QUAL : Fld := ⟨aCLK_REF_STATUS, 35, 35, .ro, .l, .live, 0⟩
def fCLK_REF_STATUS_B_QUAL : Fld := ⟨aCLK_REF_STATUS, 34, 34, .ro, .l, .live, 0⟩
def fCLK_REF_STATUS_A_ACT : Fld := ⟨aCLK_REF_STATUS, 33, 33, .ro, .l, .live, 0⟩
def fCLK_REF_STATUS_B_ACT : Fld := ⟨aCLK_REF_STATUS, 32, 32, .ro, .l, .live, 0⟩
def fCLK_REF_STATUS_IN_USE : Fld := ⟨aCLK_REF_STATUS, 31, 31, .ro, .l, .live, 0⟩
def fCLK_REF_STATUS_HOLD : Fld := ⟨aCLK_REF_STATUS, 30, 30, .ro, .l, .live, 1⟩
def fCLK_REF_STATUS_A_LOSS : Fld := ⟨aCLK_REF_STATUS, 23, 16, .rc, .l, .zero, 0⟩
def fCLK_REF_STATUS_B_LOSS : Fld := ⟨aCLK_REF_STATUS, 15, 8, .rc, .l, .zero, 0⟩
def rCLK_REF_STATUS : RegRow := ⟨aCLK_REF_STATUS, [], [0], 2, [fCLK_REF_STATUS_A_QUAL, fCLK_REF_STATUS_B_QUAL, fCLK_REF_STATUS_A_ACT, fCLK_REF_STATUS_B_ACT, fCLK_REF_STATUS_IN_USE, fCLK_REF_STATUS_HOLD, fCLK_REF_STATUS_A_LOSS, fCLK_REF_STATUS_B_LOSS]⟩
def aPLLW_CFG : Nat := 0x010002
def fPLLW_CFG_MODE : Fld := ⟨aPLLW_CFG, 35, 35, .rw, .d, .ret, 0⟩
def fPLLW_CFG_COND : Fld := ⟨aPLLW_CFG, 34, 33, .rw, .d, .ret, 0⟩
def fPLLW_CFG_LBW : Fld := ⟨aPLLW_CFG, 32, 31, .rw, .d, .ret, 1⟩
def fPLLW_CFG_PDIV : Fld := ⟨aPLLW_CFG, 27, 22, .rw, .d, .ret, 0⟩
def fPLLW_CFG_N : Fld := ⟨aPLLW_CFG, 8, 0, .rw, .d, .ret, 0⟩
def rPLLW_CFG : RegRow := ⟨aPLLW_CFG, [], [0], 2, [fPLLW_CFG_MODE, fPLLW_CFG_COND, fPLLW_CFG_LBW, fPLLW_CFG_PDIV, fPLLW_CFG_N]⟩
def aPLLW_FRAC : Nat := 0x010003
def fPLLW_FRAC_F : Fld := ⟨aPLLW_FRAC, 23, 0, .rw, .d, .ret, 0⟩
def rPLLW_FRAC : RegRow := ⟨aPLLW_FRAC, [], [0], 2, [fPLLW_FRAC_F]⟩
def aPLLW_TRIM : Nat := 0x010004
def fPLLW_TRIM_TRIM : Fld := ⟨aPLLW_TRIM, 23, 0, .rw, .l, .zero, 0⟩
def rPLLW_TRIM : RegRow := ⟨aPLLW_TRIM, [], [0], 2, [fPLLW_TRIM_TRIM]⟩
def aPLLC_CFG : Nat := 0x010005
def fPLLC_CFG_MODE : Fld := ⟨aPLLC_CFG, 35, 35, .rw, .s, .draft, 0⟩
def fPLLC_CFG_NC : Fld := ⟨aPLLC_CFG, 32, 24, .rw, .s, .draft, 0⟩
def fPLLC_CFG_FC : Fld := ⟨aPLLC_CFG, 23, 0, .rw, .s, .draft, 0⟩
def rPLLC_CFG : RegRow := ⟨aPLLC_CFG, [], [4, 5], 1, [fPLLC_CFG_MODE, fPLLC_CFG_NC, fPLLC_CFG_FC]⟩
def aCLK_RETUNE : Nat := 0x010006
def fCLK_RETUNE_GO : Fld := ⟨aCLK_RETUNE, 35, 35, .w1s, .l, .zero, 0⟩
def fCLK_RETUNE_STATE : Fld := ⟨aCLK_RETUNE, 34, 32, .ro, .l, .live, 0⟩
def fCLK_RETUNE_RESULT : Fld := ⟨aCLK_RETUNE, 31, 28, .ro, .l, .zero, 0⟩
def fCLK_RETUNE_DRAIN_LIMIT : Fld := ⟨aCLK_RETUNE, 15, 8, .rw, .l, .ret, 4⟩
def fCLK_RETUNE_GUARD_LIMIT : Fld := ⟨aCLK_RETUNE, 7, 0, .rw, .l, .ret, 8⟩
def rCLK_RETUNE : RegRow := ⟨aCLK_RETUNE, [], [0], 2, [fCLK_RETUNE_GO, fCLK_RETUNE_STATE, fCLK_RETUNE_RESULT, fCLK_RETUNE_DRAIN_LIMIT, fCLK_RETUNE_GUARD_LIMIT]⟩
def aCLK_STATUS : Nat := 0x010007
def fCLK_STATUS_PLLW_LOCK : Fld := ⟨aCLK_STATUS, 35, 35, .ro, .l, .live, 0⟩
def fCLK_STATUS_PLLC_LOCK : Fld := ⟨aCLK_STATUS, 34, 34, .ro, .l, .live, 0⟩
def fCLK_STATUS_PLLM_LOCK : Fld := ⟨aCLK_STATUS, 33, 33, .ro, .l, .live, 1⟩
def fCLK_STATUS_WARP_SAFE : Fld := ⟨aCLK_STATUS, 32, 32, .ro, .l, .live, 0⟩
def fCLK_STATUS_SAFE_SRC : Fld := ⟨aCLK_STATUS, 31, 31, .ro, .l, .live, 0⟩
def fCLK_STATUS_DEGRADED : Fld := ⟨aCLK_STATUS, 30, 30, .ro, .l, .live, 0⟩
def fCLK_STATUS_LOCK_LOST : Fld := ⟨aCLK_STATUS, 29, 29, .w1c, .l, .zero, 0⟩
def fCLK_STATUS_PLLC_LOST : Fld := ⟨aCLK_STATUS, 28, 28, .w1c, .l, .zero, 0⟩
def fCLK_STATUS_PHASE_STEP : Fld := ⟨aCLK_STATUS, 27, 27, .w1c, .l, .zero, 0⟩
def fCLK_STATUS_REF_SWITCH : Fld := ⟨aCLK_STATUS, 26, 26, .w1c, .l, .zero, 0⟩
def fCLK_STATUS_TRIM_CLAMP : Fld := ⟨aCLK_STATUS, 25, 25, .w1c, .l, .zero, 0⟩
def fCLK_STATUS_GUARD_FAIL : Fld := ⟨aCLK_STATUS, 24, 24, .w1c, .l, .zero, 0⟩
def fCLK_STATUS_TRIG_DROP : Fld := ⟨aCLK_STATUS, 15, 0, .rc, .l, .zero, 0⟩
def rCLK_STATUS : RegRow := ⟨aCLK_STATUS, [], [0], 2, [fCLK_STATUS_PLLW_LOCK, fCLK_STATUS_PLLC_LOCK, fCLK_STATUS_PLLM_LOCK, fCLK_STATUS_WARP_SAFE, fCLK_STATUS_SAFE_SRC, fCLK_STATUS_DEGRADED, fCLK_STATUS_LOCK_LOST, fCLK_STATUS_PLLC_LOST, fCLK_STATUS_PHASE_STEP, fCLK_STATUS_REF_SWITCH, fCLK_STATUS_TRIM_CLAMP, fCLK_STATUS_GUARD_FAIL, fCLK_STATUS_TRIG_DROP]⟩
def aCLK_EVENT_LO : Nat := 0x010008
def fCLK_EVENT_LO_COARSE : Fld := ⟨aCLK_EVENT_LO, 35, 10, .ro, .l, .zero, 0⟩
def fCLK_EVENT_LO_FINE : Fld := ⟨aCLK_EVENT_LO, 9, 0, .ro, .l, .zero, 0⟩
def rCLK_EVENT_LO : RegRow := ⟨aCLK_EVENT_LO, [], [0], 2, [fCLK_EVENT_LO_COARSE, fCLK_EVENT_LO_FINE]⟩
def aCLK_EVENT_HI : Nat := 0x010009
def fCLK_EVENT_HI_EPOCH : Fld := ⟨aCLK_EVENT_HI, 35, 0, .ro, .l, .zero, 0⟩
def rCLK_EVENT_HI : RegRow := ⟨aCLK_EVENT_HI, [], [0], 2, [fCLK_EVENT_HI_EPOCH]⟩
def aCLK_PHASE_WATCH : Nat := 0x01000A
def fCLK_PHASE_WATCH_PS_ACTION : Fld := ⟨aCLK_PHASE_WATCH, 35, 35, .rw, .l, .ret, 0⟩
def fCLK_PHASE_WATCH_STEP : Fld := ⟨aCLK_PHASE_WATCH, 15, 0, .ro, .l, .zero, 0⟩
def rCLK_PHASE_WATCH : RegRow := ⟨aCLK_PHASE_WATCH, [], [0], 2, [fCLK_PHASE_WATCH_PS_ACTION, fCLK_PHASE_WATCH_STEP]⟩
def aCLK_COUNT : Nat := 0x01000B
def fCLK_COUNT_LOCK_LOSS : Fld := ⟨aCLK_COUNT, 35, 24, .rc, .l, .zero, 0⟩
def fCLK_COUNT_PHASE_STEPS : Fld := ⟨aCLK_COUNT, 23, 12, .rc, .l, .zero, 0⟩
def fCLK_COUNT_REF_SWITCHES : Fld := ⟨aCLK_COUNT, 11, 0, .rc, .l, .zero, 0⟩
def rCLK_COUNT : RegRow := ⟨aCLK_COUNT, [], [0], 2, [fCLK_COUNT_LOCK_LOSS, fCLK_COUNT_PHASE_STEPS, fCLK_COUNT_REF_SWITCHES]⟩
def aPLLW_TRIM_NOW : Nat := 0x01000C
def fPLLW_TRIM_NOW_RAMP : Fld := ⟨aPLLW_TRIM_NOW, 35, 35, .ro, .l, .zero, 0⟩
def fPLLW_TRIM_NOW_TRIM_NOW : Fld := ⟨aPLLW_TRIM_NOW, 23, 0, .ro, .l, .zero, 0⟩
def rPLLW_TRIM_NOW : RegRow := ⟨aPLLW_TRIM_NOW, [], [0], 2, [fPLLW_TRIM_NOW_RAMP, fPLLW_TRIM_NOW_TRIM_NOW]⟩

/-- Every register word of chapter 02. -/
def regRows02 : List RegRow :=
  [rCLK_REF_CFG, rCLK_REF_STATUS, rPLLW_CFG, rPLLW_FRAC, rPLLW_TRIM, rPLLC_CFG, rCLK_RETUNE, rCLK_STATUS, rCLK_EVENT_LO, rCLK_EVENT_HI, rCLK_PHASE_WATCH, rCLK_COUNT, rPLLW_TRIM_NOW]

/-! Chapter 03: edge channels. -/

def aWARP_CH_CTRL : Nat := 0x020000
def fWARP_CH_CTRL_ENABLE : Fld := ⟨aWARP_CH_CTRL, 35, 34, .rw, .l, .ret, 0⟩
def fWARP_CH_CTRL_MODE : Fld := ⟨aWARP_CH_CTRL, 33, 32, .rw, .d, .ret, 0⟩
def fWARP_CH_CTRL_RETRIG : Fld := ⟨aWARP_CH_CTRL, 31, 30, .rw, .d, .ret, 0⟩
def fWARP_CH_CTRL_LATE_POL : Fld := ⟨aWARP_CH_CTRL, 29, 29, .rw, .d, .ret, 0⟩
def fWARP_CH_CTRL_FO_EN : Fld := ⟨aWARP_CH_CTRL, 28, 28, .rw, .l, .ret, 0⟩
def fWARP_CH_CTRL_POL : Fld := ⟨aWARP_CH_CTRL, 27, 27, .rw, .s, .draft, 0⟩
def fWARP_CH_CTRL_SEQ_SEL : Fld := ⟨aWARP_CH_CTRL, 26, 26, .rw, .d, .ret, 0⟩
def fWARP_CH_CTRL_TRIG_EN : Fld := ⟨aWARP_CH_CTRL, 25, 25, .rw, .d, .ret, 0⟩
def fWARP_CH_CTRL_TRIG_LINE : Fld := ⟨aWARP_CH_CTRL, 24, 19, .rw, .d, .ret, 0⟩
def fWARP_CH_CTRL_STOP_EN : Fld := ⟨aWARP_CH_CTRL, 18, 18, .rw, .d, .ret, 0⟩
def fWARP_CH_CTRL_STOP_LINE : Fld := ⟨aWARP_CH_CTRL, 17, 12, .rw, .d, .ret, 0⟩
def rWARP_CH_CTRL : RegRow := ⟨aWARP_CH_CTRL, [(1, 64)], [0], 2, [fWARP_CH_CTRL_ENABLE, fWARP_CH_CTRL_MODE, fWARP_CH_CTRL_RETRIG, fWARP_CH_CTRL_LATE_POL, fWARP_CH_CTRL_FO_EN, fWARP_CH_CTRL_POL, fWARP_CH_CTRL_SEQ_SEL, fWARP_CH_CTRL_TRIG_EN, fWARP_CH_CTRL_TRIG_LINE, fWARP_CH_CTRL_STOP_EN, fWARP_CH_CTRL_STOP_LINE]⟩
def aWARP_CH_DELAY : Nat := 0x020040
def fWARP_CH_DELAY_COARSE : Fld := ⟨aWARP_CH_DELAY, 35, 10, .rw, .d, .ret, 0⟩
def fWARP_CH_DELAY_FINE : Fld := ⟨aWARP_CH_DELAY, 9, 0, .rw, .d, .ret, 0⟩
def rWARP_CH_DELAY : RegRow := ⟨aWARP_CH_DELAY, [(1, 64)], [0], 2, [fWARP_CH_DELAY_COARSE, fWARP_CH_DELAY_FINE]⟩
def aWARP_CH_DELAY_EXT : Nat := 0x020080
def fWARP_CH_DELAY_EXT_EXT : Fld := ⟨aWARP_CH_DELAY_EXT, 21, 0, .rw, .d, .ret, 0⟩
def rWARP_CH_DELAY_EXT : RegRow := ⟨aWARP_CH_DELAY_EXT, [(1, 64)], [0], 2, [fWARP_CH_DELAY_EXT_EXT]⟩
def aWARP_CH_WIDTH : Nat := 0x0200C0
def fWARP_CH_WIDTH_COARSE : Fld := ⟨aWARP_CH_WIDTH, 35, 10, .rw, .d, .ret, 0⟩
def fWARP_CH_WIDTH_FINE : Fld := ⟨aWARP_CH_WIDTH, 9, 0, .rw, .d, .ret, 0⟩
def rWARP_CH_WIDTH : RegRow := ⟨aWARP_CH_WIDTH, [(1, 64)], [0], 2, [fWARP_CH_WIDTH_COARSE, fWARP_CH_WIDTH_FINE]⟩
def aWARP_CH_PERIOD : Nat := 0x020100
def fWARP_CH_PERIOD_COARSE : Fld := ⟨aWARP_CH_PERIOD, 35, 10, .rw, .d, .ret, 0⟩
def fWARP_CH_PERIOD_FINE : Fld := ⟨aWARP_CH_PERIOD, 9, 0, .rw, .d, .ret, 0⟩
def rWARP_CH_PERIOD : RegRow := ⟨aWARP_CH_PERIOD, [(1, 64)], [0], 2, [fWARP_CH_PERIOD_COARSE, fWARP_CH_PERIOD_FINE]⟩
def aWARP_CH_BURST : Nat := 0x020140
def fWARP_CH_BURST_COUNT : Fld := ⟨aWARP_CH_BURST, 15, 0, .rw, .d, .ret, 1⟩
def rWARP_CH_BURST : RegRow := ⟨aWARP_CH_BURST, [(1, 64)], [0], 2, [fWARP_CH_BURST_COUNT]⟩
def aWARP_CH_STATUS : Nat := 0x020180
def fWARP_CH_STATUS_STATE : Fld := ⟨aWARP_CH_STATUS, 35, 33, .ro, .l, .live, 0⟩
def fWARP_CH_STATUS_PENDING : Fld := ⟨aWARP_CH_STATUS, 32, 30, .ro, .l, .zero, 0⟩
def fWARP_CH_STATUS_LATE : Fld := ⟨aWARP_CH_STATUS, 29, 29, .w1c, .l, .zero, 0⟩
def fWARP_CH_STATUS_ASAP_USED : Fld := ⟨aWARP_CH_STATUS, 28, 28, .w1c, .l, .zero, 0⟩
def fWARP_CH_STATUS_RETRIG_DROPPED : Fld := ⟨aWARP_CH_STATUS, 27, 27, .w1c, .l, .zero, 0⟩
def fWARP_CH_STATUS_QUEUE_OVF : Fld := ⟨aWARP_CH_STATUS, 26, 26, .w1c, .l, .zero, 0⟩
def fWARP_CH_STATUS_RATE_DROP : Fld := ⟨aWARP_CH_STATUS, 25, 25, .w1c, .l, .zero, 0⟩
def fWARP_CH_STATUS_OVERLAP : Fld := ⟨aWARP_CH_STATUS, 24, 24, .w1c, .l, .zero, 0⟩
def fWARP_CH_STATUS_SUPPRESSED : Fld := ⟨aWARP_CH_STATUS, 23, 23, .w1c, .l, .zero, 0⟩
def fWARP_CH_STATUS_CLAMP : Fld := ⟨aWARP_CH_STATUS, 22, 22, .w1c, .l, .zero, 0⟩
def fWARP_CH_STATUS_GATE_EXTRA : Fld := ⟨aWARP_CH_STATUS, 21, 21, .w1c, .l, .zero, 0⟩
def fWARP_CH_STATUS_GATE_CUT : Fld := ⟨aWARP_CH_STATUS, 20, 20, .w1c, .l, .zero, 0⟩
def fWARP_CH_STATUS_LOCK_DISCARD : Fld := ⟨aWARP_CH_STATUS, 19, 19, .w1c, .l, .zero, 0⟩
def fWARP_CH_STATUS_ECHO_ERR : Fld := ⟨aWARP_CH_STATUS, 18, 18, .w1c, .l, .zero, 0⟩
def fWARP_CH_STATUS_ECHO_CAUSE : Fld := ⟨aWARP_CH_STATUS, 17, 15, .ro, .l, .zero, 0⟩
def fWARP_CH_STATUS_FO_ACTIVE : Fld := ⟨aWARP_CH_STATUS, 14, 14, .ro, .l, .zero, 0⟩
def fWARP_CH_STATUS_APPLY_WAIT : Fld := ⟨aWARP_CH_STATUS, 13, 13, .ro, .l, .zero, 0⟩
def fWARP_CH_STATUS_CFG_BUSY : Fld := ⟨aWARP_CH_STATUS, 12, 12, .w1c, .l, .zero, 0⟩
def fWARP_CH_STATUS_DRV : Fld := ⟨aWARP_CH_STATUS, 11, 10, .ro, .l, .live, 0⟩
def rWARP_CH_STATUS : RegRow := ⟨aWARP_CH_STATUS, [(1, 64)], [0], 2, [fWARP_CH_STATUS_STATE, fWARP_CH_STATUS_PENDING, fWARP_CH_STATUS_LATE, fWARP_CH_STATUS_ASAP_USED, fWARP_CH_STATUS_RETRIG_DROPPED, fWARP_CH_STATUS_QUEUE_OVF, fWARP_CH_STATUS_RATE_DROP, fWARP_CH_STATUS_OVERLAP, fWARP_CH_STATUS_SUPPRESSED, fWARP_CH_STATUS_CLAMP, fWARP_CH_STATUS_GATE_EXTRA, fWARP_CH_STATUS_GATE_CUT, fWARP_CH_STATUS_LOCK_DISCARD, fWARP_CH_STATUS_ECHO_ERR, fWARP_CH_STATUS_ECHO_CAUSE, fWARP_CH_STATUS_FO_ACTIVE, fWARP_CH_STATUS_APPLY_WAIT, fWARP_CH_STATUS_CFG_BUSY, fWARP_CH_STATUS_DRV]⟩
def aWARP_CH_COUNT : Nat := 0x0201C0
def fWARP_CH_COUNT_LATE : Fld := ⟨aWARP_CH_COUNT, 35, 27, .rc, .l, .zero, 0⟩
def fWARP_CH_COUNT_RETRIG_DROP : Fld := ⟨aWARP_CH_COUNT, 26, 18, .rc, .l, .zero, 0⟩
def fWARP_CH_COUNT_OVERLAP : Fld := ⟨aWARP_CH_COUNT, 17, 9, .rc, .l, .zero, 0⟩
def fWARP_CH_COUNT_SUPPRESS : Fld := ⟨aWARP_CH_COUNT, 8, 0, .rc, .l, .zero, 0⟩
def rWARP_CH_COUNT : RegRow := ⟨aWARP_CH_COUNT, [(1, 64)], [0], 2, [fWARP_CH_COUNT_LATE, fWARP_CH_COUNT_RETRIG_DROP, fWARP_CH_COUNT_OVERLAP, fWARP_CH_COUNT_SUPPRESS]⟩
def aWARP_BANK_CTRL : Nat := 0x020200
def fWARP_BANK_CTRL_FO_FORCE : Fld := ⟨aWARP_BANK_CTRL, 35, 35, .w1s, .l, .zero, 0⟩
def fWARP_BANK_CTRL_FO_RELEASE : Fld := ⟨aWARP_BANK_CTRL, 34, 34, .w1s, .l, .zero, 0⟩
def fWARP_BANK_CTRL_FO_CH : Fld := ⟨aWARP_BANK_CTRL, 33, 31, .rw, .l, .zero, 0⟩
def rWARP_BANK_CTRL : RegRow := ⟨aWARP_BANK_CTRL, [(1, 8)], [0], 2, [fWARP_BANK_CTRL_FO_FORCE, fWARP_BANK_CTRL_FO_RELEASE, fWARP_BANK_CTRL_FO_CH]⟩
def aWARP_BANK_STATUS : Nat := 0x020208
def fWARP_BANK_STATUS_SPARE_STATE : Fld := ⟨aWARP_BANK_STATUS, 35, 33, .ro, .l, .zero, 0⟩
def fWARP_BANK_STATUS_SPARE_CH : Fld := ⟨aWARP_BANK_STATUS, 32, 30, .ro, .l, .zero, 0⟩
def fWARP_BANK_STATUS_FO_LATE : Fld := ⟨aWARP_BANK_STATUS, 29, 29, .w1c, .l, .zero, 0⟩
def fWARP_BANK_STATUS_FO_UNAVAIL : Fld := ⟨aWARP_BANK_STATUS, 28, 28, .w1c, .l, .zero, 0⟩
def fWARP_BANK_STATUS_POST_FO_ERR : Fld := ⟨aWARP_BANK_STATUS, 27, 27, .w1c, .l, .zero, 0⟩
def fWARP_BANK_STATUS_FO_COUNT : Fld := ⟨aWARP_BANK_STATUS, 15, 8, .rc, .l, .zero, 0⟩
def rWARP_BANK_STATUS : RegRow := ⟨aWARP_BANK_STATUS, [(1, 8)], [0], 2, [fWARP_BANK_STATUS_SPARE_STATE, fWARP_BANK_STATUS_SPARE_CH, fWARP_BANK_STATUS_FO_LATE, fWARP_BANK_STATUS_FO_UNAVAIL, fWARP_BANK_STATUS_POST_FO_ERR, fWARP_BANK_STATUS_FO_COUNT]⟩
def aWARP_APPLY : Nat := 0x020210
def fWARP_APPLY_GO : Fld := ⟨aWARP_APPLY, 35, 35, .w1s, .l, .zero, 0⟩
def fWARP_APPLY_BANK_MASK : Fld := ⟨aWARP_APPLY, 34, 27, .rw, .l, .zero, 0⟩
def fWARP_APPLY_CH_MASK : Fld := ⟨aWARP_APPLY, 26, 19, .rw, .l, .zero, 0⟩
def rWARP_APPLY : RegRow := ⟨aWARP_APPLY, [], [0], 2, [fWARP_APPLY_GO, fWARP_APPLY_BANK_MASK, fWARP_APPLY_CH_MASK]⟩
def aWARP_TAPPLY_LO : Nat := 0x020211
def fWARP_TAPPLY_LO_COARSE : Fld := ⟨aWARP_TAPPLY_LO, 35, 10, .rw, .l, .zero, 0⟩
def fWARP_TAPPLY_LO_FINE : Fld := ⟨aWARP_TAPPLY_LO, 9, 0, .rw, .l, .zero, 0⟩
def rWARP_TAPPLY_LO : RegRow := ⟨aWARP_TAPPLY_LO, [], [0], 2, [fWARP_TAPPLY_LO_COARSE, fWARP_TAPPLY_LO_FINE]⟩
def aWARP_TAPPLY_HI : Nat := 0x020212
def fWARP_TAPPLY_HI_EPOCH : Fld := ⟨aWARP_TAPPLY_HI, 35, 0, .rw, .l, .zero, 0⟩
def rWARP_TAPPLY_HI : RegRow := ⟨aWARP_TAPPLY_HI, [], [0], 2, [fWARP_TAPPLY_HI_EPOCH]⟩
def aWARP_TAPPLY_CTRL : Nat := 0x020213
def fWARP_TAPPLY_CTRL_ARM : Fld := ⟨aWARP_TAPPLY_CTRL, 35, 35, .w1s, .l, .zero, 0⟩
def fWARP_TAPPLY_CTRL_BANK_MASK : Fld := ⟨aWARP_TAPPLY_CTRL, 34, 27, .rw, .l, .zero, 0⟩
def fWARP_TAPPLY_CTRL_CH_MASK : Fld := ⟨aWARP_TAPPLY_CTRL, 26, 19, .rw, .l, .zero, 0⟩
def fWARP_TAPPLY_CTRL_PENDING : Fld := ⟨aWARP_TAPPLY_CTRL, 18, 18, .ro, .l, .zero, 0⟩
def fWARP_TAPPLY_CTRL_DONE : Fld := ⟨aWARP_TAPPLY_CTRL, 17, 17, .w1c, .l, .zero, 0⟩
def fWARP_TAPPLY_CTRL_CANCEL : Fld := ⟨aWARP_TAPPLY_CTRL, 16, 16, .w1s, .l, .zero, 0⟩
def fWARP_TAPPLY_CTRL_ARM_BUSY : Fld := ⟨aWARP_TAPPLY_CTRL, 15, 15, .w1c, .l, .zero, 0⟩
def rWARP_TAPPLY_CTRL : RegRow := ⟨aWARP_TAPPLY_CTRL, [], [0], 2, [fWARP_TAPPLY_CTRL_ARM, fWARP_TAPPLY_CTRL_BANK_MASK, fWARP_TAPPLY_CTRL_CH_MASK, fWARP_TAPPLY_CTRL_PENDING, fWARP_TAPPLY_CTRL_DONE, fWARP_TAPPLY_CTRL_CANCEL, fWARP_TAPPLY_CTRL_ARM_BUSY]⟩
def aWARP_ECHO_FIRST_LO : Nat := 0x020214
def fWARP_ECHO_FIRST_LO_COARSE : Fld := ⟨aWARP_ECHO_FIRST_LO, 35, 10, .ro, .l, .zero, 0⟩
def fWARP_ECHO_FIRST_LO_FINE : Fld := ⟨aWARP_ECHO_FIRST_LO, 9, 0, .ro, .l, .zero, 0⟩
def rWARP_ECHO_FIRST_LO : RegRow := ⟨aWARP_ECHO_FIRST_LO, [], [0], 2, [fWARP_ECHO_FIRST_LO_COARSE, fWARP_ECHO_FIRST_LO_FINE]⟩
def aWARP_ECHO_FIRST_HI : Nat := 0x020215
def fWARP_ECHO_FIRST_HI_EPOCH : Fld := ⟨aWARP_ECHO_FIRST_HI, 35, 0, .ro, .l, .zero, 0⟩
def rWARP_ECHO_FIRST_HI : RegRow := ⟨aWARP_ECHO_FIRST_HI, [], [0], 2, [fWARP_ECHO_FIRST_HI_EPOCH]⟩
def aWARP_ECHO_FIRST_INFO : Nat := 0x020216
def fWARP_ECHO_FIRST_INFO_VALID : Fld := ⟨aWARP_ECHO_FIRST_INFO, 35, 35, .w1c, .l, .zero, 0⟩
def fWARP_ECHO_FIRST_INFO_CH : Fld := ⟨aWARP_ECHO_FIRST_INFO, 34, 29, .ro, .l, .zero, 0⟩
def fWARP_ECHO_FIRST_INFO_CAUSE : Fld := ⟨aWARP_ECHO_FIRST_INFO, 28, 26, .ro, .l, .zero, 0⟩
def fWARP_ECHO_FIRST_INFO_SPARE_INFO : Fld := ⟨aWARP_ECHO_FIRST_INFO, 25, 25, .ro, .l, .zero, 0⟩
def fWARP_ECHO_FIRST_INFO_DEV : Fld := ⟨aWARP_ECHO_FIRST_INFO, 24, 15, .ro, .l, .zero, 0⟩
def rWARP_ECHO_FIRST_INFO : RegRow := ⟨aWARP_ECHO_FIRST_INFO, [], [0], 2, [fWARP_ECHO_FIRST_INFO_VALID, fWARP_ECHO_FIRST_INFO_CH, fWARP_ECHO_FIRST_INFO_CAUSE, fWARP_ECHO_FIRST_INFO_SPARE_INFO, fWARP_ECHO_FIRST_INFO_DEV]⟩
def aWARP_ECHO_COUNT : Nat := 0x020217
def fWARP_ECHO_COUNT_ERRORS : Fld := ⟨aWARP_ECHO_COUNT, 35, 18, .rc, .l, .zero, 0⟩
def rWARP_ECHO_COUNT : RegRow := ⟨aWARP_ECHO_COUNT, [], [0], 2, [fWARP_ECHO_COUNT_ERRORS]⟩

/-- Every register word of chapter 03. -/
def regRows03 : List RegRow :=
  [rWARP_CH_CTRL, rWARP_CH_DELAY, rWARP_CH_DELAY_EXT, rWARP_CH_WIDTH, rWARP_CH_PERIOD, rWARP_CH_BURST, rWARP_CH_STATUS, rWARP_CH_COUNT, rWARP_BANK_CTRL, rWARP_BANK_STATUS, rWARP_APPLY, rWARP_TAPPLY_LO, rWARP_TAPPLY_HI, rWARP_TAPPLY_CTRL, rWARP_ECHO_FIRST_LO, rWARP_ECHO_FIRST_HI, rWARP_ECHO_FIRST_INFO, rWARP_ECHO_COUNT]

/-! Chapter 04: Heddle. -/

def aHEDDLE_IN_CFG : Nat := 0x030000
def fHEDDLE_IN_CFG_EN : Fld := ⟨aHEDDLE_IN_CFG, 35, 35, .rw, .l, .ret, 0⟩
def fHEDDLE_IN_CFG_EDGE : Fld := ⟨aHEDDLE_IN_CFG, 34, 33, .rw, .l, .ret, 0⟩
def fHEDDLE_IN_CFG_STD : Fld := ⟨aHEDDLE_IN_CFG, 32, 31, .rw, .s, .draft, 0⟩
def fHEDDLE_IN_CFG_DEGLITCH : Fld := ⟨aHEDDLE_IN_CFG, 30, 27, .rw, .l, .ret, 0⟩
def fHEDDLE_IN_CFG_PRESCALE : Fld := ⟨aHEDDLE_IN_CFG, 15, 0, .rw, .l, .ret, 0⟩
def rHEDDLE_IN_CFG : RegRow := ⟨aHEDDLE_IN_CFG, [(1, 16)], [0], 2, [fHEDDLE_IN_CFG_EN, fHEDDLE_IN_CFG_EDGE, fHEDDLE_IN_CFG_STD, fHEDDLE_IN_CFG_DEGLITCH, fHEDDLE_IN_CFG_PRESCALE]⟩
def aHEDDLE_IN_STATUS : Nat := 0x030010
def fHEDDLE_IN_STATUS_LEVEL : Fld := ⟨aHEDDLE_IN_STATUS, 35, 35, .ro, .l, .live, 0⟩
def fHEDDLE_IN_STATUS_GLITCH : Fld := ⟨aHEDDLE_IN_STATUS, 34, 34, .w1c, .l, .zero, 0⟩
def fHEDDLE_IN_STATUS_TOO_CLOSE : Fld := ⟨aHEDDLE_IN_STATUS, 33, 33, .w1c, .l, .zero, 0⟩
def fHEDDLE_IN_STATUS_LOCK_MISS : Fld := ⟨aHEDDLE_IN_STATUS, 32, 32, .w1c, .l, .zero, 0⟩
def fHEDDLE_IN_STATUS_GLITCHES : Fld := ⟨aHEDDLE_IN_STATUS, 26, 18, .rc, .l, .zero, 0⟩
def fHEDDLE_IN_STATUS_CLOSE_COUNT : Fld := ⟨aHEDDLE_IN_STATUS, 17, 9, .rc, .l, .zero, 0⟩
def fHEDDLE_IN_STATUS_MISS_COUNT : Fld := ⟨aHEDDLE_IN_STATUS, 8, 0, .rc, .l, .zero, 0⟩
def rHEDDLE_IN_STATUS : RegRow := ⟨aHEDDLE_IN_STATUS, [(1, 16)], [0], 2, [fHEDDLE_IN_STATUS_LEVEL, fHEDDLE_IN_STATUS_GLITCH, fHEDDLE_IN_STATUS_TOO_CLOSE, fHEDDLE_IN_STATUS_LOCK_MISS, fHEDDLE_IN_STATUS_GLITCHES, fHEDDLE_IN_STATUS_CLOSE_COUNT, fHEDDLE_IN_STATUS_MISS_COUNT]⟩
def aHEDDLE_IN_PS_SYNC : Nat := 0x030020
def fHEDDLE_IN_PS_SYNC_SYNC : Fld := ⟨aHEDDLE_IN_PS_SYNC, 35, 20, .w1s, .l, .zero, 0⟩
def rHEDDLE_IN_PS_SYNC : RegRow := ⟨aHEDDLE_IN_PS_SYNC, [], [0], 2, [fHEDDLE_IN_PS_SYNC_SYNC]⟩
def aHEDDLE_LINE_SRC : Nat := 0x030040
def fHEDDLE_LINE_SRC_TI_MASK : Fld := ⟨aHEDDLE_LINE_SRC, 35, 20, .rw, .s, .draft, 0⟩
def fHEDDLE_LINE_SRC_RG_MASK : Fld := ⟨aHEDDLE_LINE_SRC, 19, 12, .rw, .s, .draft, 0⟩
def fHEDDLE_LINE_SRC_MK0_MASK : Fld := ⟨aHEDDLE_LINE_SRC, 11, 8, .rw, .s, .draft, 0⟩
def fHEDDLE_LINE_SRC_MK1_MASK : Fld := ⟨aHEDDLE_LINE_SRC, 7, 4, .rw, .s, .draft, 0⟩
def rHEDDLE_LINE_SRC : RegRow := ⟨aHEDDLE_LINE_SRC, [(1, 64)], [0], 2, [fHEDDLE_LINE_SRC_TI_MASK, fHEDDLE_LINE_SRC_RG_MASK, fHEDDLE_LINE_SRC_MK0_MASK, fHEDDLE_LINE_SRC_MK1_MASK]⟩
def aHEDDLE_LINE_CFG : Nat := 0x030080
def fHEDDLE_LINE_CFG_EN : Fld := ⟨aHEDDLE_LINE_CFG, 35, 35, .rw, .l, .ret, 0⟩
def fHEDDLE_LINE_CFG_COMB_K : Fld := ⟨aHEDDLE_LINE_CFG, 34, 30, .rw, .s, .draft, 0⟩
def fHEDDLE_LINE_CFG_WINDOW : Fld := ⟨aHEDDLE_LINE_CFG, 29, 22, .rw, .s, .draft, 0⟩
def fHEDDLE_LINE_CFG_CMD_MASK : Fld := ⟨aHEDDLE_LINE_CFG, 21, 18, .rw, .s, .draft, 0⟩
def fHEDDLE_LINE_CFG_LATE_POL : Fld := ⟨aHEDDLE_LINE_CFG, 17, 17, .rw, .l, .ret, 0⟩
def fHEDDLE_LINE_CFG_ARM_MODE : Fld := ⟨aHEDDLE_LINE_CFG, 16, 15, .rw, .s, .draft, 0⟩
def fHEDDLE_LINE_CFG_ARM_IN : Fld := ⟨aHEDDLE_LINE_CFG, 14, 11, .rw, .s, .draft, 0⟩
def fHEDDLE_LINE_CFG_ARM_LINE : Fld := ⟨aHEDDLE_LINE_CFG, 10, 5, .rw, .s, .draft, 0⟩
def fHEDDLE_LINE_CFG_LOG_EN : Fld := ⟨aHEDDLE_LINE_CFG, 4, 4, .rw, .l, .ret, 0⟩
def fHEDDLE_LINE_CFG_PATH : Fld := ⟨aHEDDLE_LINE_CFG, 3, 3, .ro, .s, .live, 0⟩
def rHEDDLE_LINE_CFG : RegRow := ⟨aHEDDLE_LINE_CFG, [(1, 64)], [0], 2, [fHEDDLE_LINE_CFG_EN, fHEDDLE_LINE_CFG_COMB_K, fHEDDLE_LINE_CFG_WINDOW, fHEDDLE_LINE_CFG_CMD_MASK, fHEDDLE_LINE_CFG_LATE_POL, fHEDDLE_LINE_CFG_ARM_MODE, fHEDDLE_LINE_CFG_ARM_IN, fHEDDLE_LINE_CFG_ARM_LINE, fHEDDLE_LINE_CFG_LOG_EN, fHEDDLE_LINE_CFG_PATH]⟩
def aHEDDLE_LINE_ARM_LEN : Nat := 0x0300C0
def fHEDDLE_LINE_ARM_LEN_LEN : Fld := ⟨aHEDDLE_LINE_ARM_LEN, 35, 10, .rw, .l, .ret, 0⟩
def rHEDDLE_LINE_ARM_LEN : RegRow := ⟨aHEDDLE_LINE_ARM_LEN, [(1, 64)], [0], 2, [fHEDDLE_LINE_ARM_LEN_LEN]⟩
def aHEDDLE_LINE_STATUS : Nat := 0x030100
def fHEDDLE_LINE_STATUS_ARMED : Fld := ⟨aHEDDLE_LINE_STATUS, 35, 35, .ro, .l, .live, 0⟩
def fHEDDLE_LINE_STATUS_FIRED : Fld := ⟨aHEDDLE_LINE_STATUS, 34, 34, .w1c, .l, .zero, 0⟩
def fHEDDLE_LINE_STATUS_MERGED : Fld := ⟨aHEDDLE_LINE_STATUS, 33, 33, .w1c, .l, .zero, 0⟩
def fHEDDLE_LINE_STATUS_DISARMED_EV : Fld := ⟨aHEDDLE_LINE_STATUS, 32, 32, .w1c, .l, .zero, 0⟩
def fHEDDLE_LINE_STATUS_CMD_LATE : Fld := ⟨aHEDDLE_LINE_STATUS, 31, 31, .w1c, .l, .zero, 0⟩
def fHEDDLE_LINE_STATUS_CMD_REJECT : Fld := ⟨aHEDDLE_LINE_STATUS, 30, 30, .w1c, .l, .zero, 0⟩
def fHEDDLE_LINE_STATUS_LOCK_FIRE : Fld := ⟨aHEDDLE_LINE_STATUS, 29, 29, .w1c, .l, .zero, 0⟩
def fHEDDLE_LINE_STATUS_FIRE_COUNT : Fld := ⟨aHEDDLE_LINE_STATUS, 15, 0, .rc, .l, .zero, 0⟩
def rHEDDLE_LINE_STATUS : RegRow := ⟨aHEDDLE_LINE_STATUS, [(1, 64)], [0], 2, [fHEDDLE_LINE_STATUS_ARMED, fHEDDLE_LINE_STATUS_FIRED, fHEDDLE_LINE_STATUS_MERGED, fHEDDLE_LINE_STATUS_DISARMED_EV, fHEDDLE_LINE_STATUS_CMD_LATE, fHEDDLE_LINE_STATUS_CMD_REJECT, fHEDDLE_LINE_STATUS_LOCK_FIRE, fHEDDLE_LINE_STATUS_FIRE_COUNT]⟩
def aHEDDLE_ARM_CMD : Nat := 0x030140
def fHEDDLE_ARM_CMD_GO : Fld := ⟨aHEDDLE_ARM_CMD, 35, 35, .w1s, .l, .zero, 0⟩
def fHEDDLE_ARM_CMD_OP : Fld := ⟨aHEDDLE_ARM_CMD, 34, 34, .rw, .l, .zero, 0⟩
def fHEDDLE_ARM_CMD_LINE : Fld := ⟨aHEDDLE_ARM_CMD, 33, 28, .rw, .l, .zero, 0⟩
def rHEDDLE_ARM_CMD : RegRow := ⟨aHEDDLE_ARM_CMD, [], [0], 2, [fHEDDLE_ARM_CMD_GO, fHEDDLE_ARM_CMD_OP, fHEDDLE_ARM_CMD_LINE]⟩
def aHEDDLE_LAST_SEL : Nat := 0x030141
def fHEDDLE_LAST_SEL_LINE : Fld := ⟨aHEDDLE_LAST_SEL, 35, 30, .rw, .l, .zero, 0⟩
def rHEDDLE_LAST_SEL : RegRow := ⟨aHEDDLE_LAST_SEL, [], [0], 2, [fHEDDLE_LAST_SEL_LINE]⟩
def aHEDDLE_LAST_LO : Nat := 0x030142
def fHEDDLE_LAST_LO_COARSE : Fld := ⟨aHEDDLE_LAST_LO, 35, 10, .ro, .l, .zero, 0⟩
def fHEDDLE_LAST_LO_FINE : Fld := ⟨aHEDDLE_LAST_LO, 9, 0, .ro, .l, .zero, 0⟩
def rHEDDLE_LAST_LO : RegRow := ⟨aHEDDLE_LAST_LO, [], [0], 2, [fHEDDLE_LAST_LO_COARSE, fHEDDLE_LAST_LO_FINE]⟩
def aHEDDLE_LAST_HI : Nat := 0x030143
def fHEDDLE_LAST_HI_EPOCH : Fld := ⟨aHEDDLE_LAST_HI, 35, 0, .ro, .l, .zero, 0⟩
def rHEDDLE_LAST_HI : RegRow := ⟨aHEDDLE_LAST_HI, [], [0], 2, [fHEDDLE_LAST_HI_EPOCH]⟩
def aHEDDLE_RG_CTRL : Nat := 0x030150
def fHEDDLE_RG_CTRL_GO : Fld := ⟨aHEDDLE_RG_CTRL, 35, 35, .w1s, .l, .zero, 0⟩
def fHEDDLE_RG_CTRL_STOP : Fld := ⟨aHEDDLE_RG_CTRL, 34, 34, .w1s, .l, .zero, 0⟩
def fHEDDLE_RG_CTRL_RUN : Fld := ⟨aHEDDLE_RG_CTRL, 33, 33, .ro, .l, .zero, 0⟩
def fHEDDLE_RG_CTRL_SKIPPED : Fld := ⟨aHEDDLE_RG_CTRL, 32, 32, .w1c, .l, .zero, 0⟩
def fHEDDLE_RG_CTRL_RG_CLAMP : Fld := ⟨aHEDDLE_RG_CTRL, 31, 31, .w1c, .l, .zero, 0⟩
def fHEDDLE_RG_CTRL_PERIOD_EXT : Fld := ⟨aHEDDLE_RG_CTRL, 25, 16, .rw, .l, .ret, 0⟩
def fHEDDLE_RG_CTRL_COUNT : Fld := ⟨aHEDDLE_RG_CTRL, 15, 0, .rw, .l, .ret, 0⟩
def rHEDDLE_RG_CTRL : RegRow := ⟨aHEDDLE_RG_CTRL, [(1, 8)], [0], 2, [fHEDDLE_RG_CTRL_GO, fHEDDLE_RG_CTRL_STOP, fHEDDLE_RG_CTRL_RUN, fHEDDLE_RG_CTRL_SKIPPED, fHEDDLE_RG_CTRL_RG_CLAMP, fHEDDLE_RG_CTRL_PERIOD_EXT, fHEDDLE_RG_CTRL_COUNT]⟩
def aHEDDLE_RG_PERIOD : Nat := 0x030158
def fHEDDLE_RG_PERIOD_COARSE : Fld := ⟨aHEDDLE_RG_PERIOD, 35, 10, .rw, .l, .ret, 0⟩
def fHEDDLE_RG_PERIOD_FINE : Fld := ⟨aHEDDLE_RG_PERIOD, 9, 0, .rw, .l, .ret, 0⟩
def rHEDDLE_RG_PERIOD : RegRow := ⟨aHEDDLE_RG_PERIOD, [(1, 8)], [0], 2, [fHEDDLE_RG_PERIOD_COARSE, fHEDDLE_RG_PERIOD_FINE]⟩
def aHEDDLE_RG_START_LO : Nat := 0x030160
def fHEDDLE_RG_START_LO_COARSE : Fld := ⟨aHEDDLE_RG_START_LO, 35, 10, .rw, .l, .zero, 0⟩
def fHEDDLE_RG_START_LO_FINE : Fld := ⟨aHEDDLE_RG_START_LO, 9, 0, .rw, .l, .zero, 0⟩
def rHEDDLE_RG_START_LO : RegRow := ⟨aHEDDLE_RG_START_LO, [(1, 8)], [0], 2, [fHEDDLE_RG_START_LO_COARSE, fHEDDLE_RG_START_LO_FINE]⟩
def aHEDDLE_RG_START_HI : Nat := 0x030168
def fHEDDLE_RG_START_HI_EPOCH : Fld := ⟨aHEDDLE_RG_START_HI, 35, 0, .rw, .l, .zero, 0⟩
def rHEDDLE_RG_START_HI : RegRow := ⟨aHEDDLE_RG_START_HI, [(1, 8)], [0], 2, [fHEDDLE_RG_START_HI_EPOCH]⟩
def aHEDDLE_FIRE_LO : Nat := 0x030170
def fHEDDLE_FIRE_LO_COARSE : Fld := ⟨aHEDDLE_FIRE_LO, 35, 10, .rw, .l, .zero, 0⟩
def fHEDDLE_FIRE_LO_FINE : Fld := ⟨aHEDDLE_FIRE_LO, 9, 0, .rw, .l, .zero, 0⟩
def rHEDDLE_FIRE_LO : RegRow := ⟨aHEDDLE_FIRE_LO, [], [0], 2, [fHEDDLE_FIRE_LO_COARSE, fHEDDLE_FIRE_LO_FINE]⟩
def aHEDDLE_FIRE_HI : Nat := 0x030171
def fHEDDLE_FIRE_HI_EPOCH : Fld := ⟨aHEDDLE_FIRE_HI, 35, 0, .rw, .l, .zero, 0⟩
def rHEDDLE_FIRE_HI : RegRow := ⟨aHEDDLE_FIRE_HI, [], [0], 2, [fHEDDLE_FIRE_HI_EPOCH]⟩
def aHEDDLE_FIRE_CTRL : Nat := 0x030172
def fHEDDLE_FIRE_CTRL_GO : Fld := ⟨aHEDDLE_FIRE_CTRL, 35, 35, .w1s, .l, .zero, 0⟩
def fHEDDLE_FIRE_CTRL_LINE : Fld := ⟨aHEDDLE_FIRE_CTRL, 33, 28, .rw, .l, .zero, 0⟩
def fHEDDLE_FIRE_CTRL_ACTION : Fld := ⟨aHEDDLE_FIRE_CTRL, 27, 24, .rw, .l, .zero, 0⟩
def rHEDDLE_FIRE_CTRL : RegRow := ⟨aHEDDLE_FIRE_CTRL, [], [0], 2, [fHEDDLE_FIRE_CTRL_GO, fHEDDLE_FIRE_CTRL_LINE, fHEDDLE_FIRE_CTRL_ACTION]⟩

/-- Every register word of chapter 04. -/
def regRows04 : List RegRow :=
  [rHEDDLE_IN_CFG, rHEDDLE_IN_STATUS, rHEDDLE_IN_PS_SYNC, rHEDDLE_LINE_SRC, rHEDDLE_LINE_CFG, rHEDDLE_LINE_ARM_LEN, rHEDDLE_LINE_STATUS, rHEDDLE_ARM_CMD, rHEDDLE_LAST_SEL, rHEDDLE_LAST_LO, rHEDDLE_LAST_HI, rHEDDLE_RG_CTRL, rHEDDLE_RG_PERIOD, rHEDDLE_RG_START_LO, rHEDDLE_RG_START_HI, rHEDDLE_FIRE_LO, rHEDDLE_FIRE_HI, rHEDDLE_FIRE_CTRL]

/-! Chapter 05: master outputs. -/

def aMOUT_CTRL : Nat := 0x040000
def fMOUT_CTRL_ENABLE : Fld := ⟨aMOUT_CTRL, 35, 34, .rw, .l, .ret, 0⟩
def fMOUT_CTRL_MODE : Fld := ⟨aMOUT_CTRL, 33, 32, .rw, .d, .ret, 0⟩
def fMOUT_CTRL_RETRIG : Fld := ⟨aMOUT_CTRL, 31, 30, .rw, .d, .ret, 0⟩
def fMOUT_CTRL_LATE_POL : Fld := ⟨aMOUT_CTRL, 29, 29, .rw, .d, .ret, 0⟩
def fMOUT_CTRL_REPLACE_EN : Fld := ⟨aMOUT_CTRL, 28, 28, .rw, .l, .ret, 1⟩
def fMOUT_CTRL_POL : Fld := ⟨aMOUT_CTRL, 27, 27, .rw, .s, .draft, 0⟩
def fMOUT_CTRL_SYS_GATED : Fld := ⟨aMOUT_CTRL, 26, 26, .rw, .d, .ret, 0⟩
def fMOUT_CTRL_TRIG_EN : Fld := ⟨aMOUT_CTRL, 25, 25, .rw, .d, .ret, 0⟩
def fMOUT_CTRL_TRIG_LINE : Fld := ⟨aMOUT_CTRL, 24, 19, .rw, .d, .ret, 0⟩
def fMOUT_CTRL_STOP_EN : Fld := ⟨aMOUT_CTRL, 18, 18, .rw, .d, .ret, 0⟩
def fMOUT_CTRL_STOP_LINE : Fld := ⟨aMOUT_CTRL, 17, 12, .rw, .d, .ret, 0⟩
def rMOUT_CTRL : RegRow := ⟨aMOUT_CTRL, [(1, 8)], [0], 2, [fMOUT_CTRL_ENABLE, fMOUT_CTRL_MODE, fMOUT_CTRL_RETRIG, fMOUT_CTRL_LATE_POL, fMOUT_CTRL_REPLACE_EN, fMOUT_CTRL_POL, fMOUT_CTRL_SYS_GATED, fMOUT_CTRL_TRIG_EN, fMOUT_CTRL_TRIG_LINE, fMOUT_CTRL_STOP_EN, fMOUT_CTRL_STOP_LINE]⟩
def aMOUT_FMT : Nat := 0x040008
def fMOUT_FMT_FMT : Fld := ⟨aMOUT_FMT, 35, 33, .rw, .s, .draft, 0⟩
def fMOUT_FMT_SWING : Fld := ⟨aMOUT_FMT, 32, 29, .rw, .d, .ret, 6⟩
def rMOUT_FMT : RegRow := ⟨aMOUT_FMT, [(1, 8)], [0], 2, [fMOUT_FMT_FMT, fMOUT_FMT_SWING]⟩
def aMOUT_DELAY : Nat := 0x040010
def fMOUT_DELAY_COARSE : Fld := ⟨aMOUT_DELAY, 35, 10, .rw, .d, .ret, 0⟩
def fMOUT_DELAY_FINE : Fld := ⟨aMOUT_DELAY, 9, 0, .rw, .d, .ret, 0⟩
def rMOUT_DELAY : RegRow := ⟨aMOUT_DELAY, [(1, 8)], [0], 2, [fMOUT_DELAY_COARSE, fMOUT_DELAY_FINE]⟩
def aMOUT_WIDTH : Nat := 0x040018
def fMOUT_WIDTH_COARSE : Fld := ⟨aMOUT_WIDTH, 35, 10, .rw, .d, .ret, 0⟩
def fMOUT_WIDTH_FINE : Fld := ⟨aMOUT_WIDTH, 9, 0, .rw, .d, .ret, 0⟩
def rMOUT_WIDTH : RegRow := ⟨aMOUT_WIDTH, [(1, 8)], [0], 2, [fMOUT_WIDTH_COARSE, fMOUT_WIDTH_FINE]⟩
def aMOUT_PERIOD : Nat := 0x040020
def fMOUT_PERIOD_COARSE : Fld := ⟨aMOUT_PERIOD, 35, 10, .rw, .d, .ret, 0⟩
def fMOUT_PERIOD_FINE : Fld := ⟨aMOUT_PERIOD, 9, 0, .rw, .d, .ret, 0⟩
def rMOUT_PERIOD : RegRow := ⟨aMOUT_PERIOD, [(1, 8)], [0], 2, [fMOUT_PERIOD_COARSE, fMOUT_PERIOD_FINE]⟩
def aMOUT_PHASE : Nat := 0x040028
def fMOUT_PHASE_COARSE : Fld := ⟨aMOUT_PHASE, 35, 10, .rw, .d, .ret, 0⟩
def fMOUT_PHASE_FINE : Fld := ⟨aMOUT_PHASE, 9, 0, .rw, .d, .ret, 0⟩
def rMOUT_PHASE : RegRow := ⟨aMOUT_PHASE, [(1, 8)], [0], 2, [fMOUT_PHASE_COARSE, fMOUT_PHASE_FINE]⟩
def aMOUT_BURST : Nat := 0x040030
def fMOUT_BURST_COUNT : Fld := ⟨aMOUT_BURST, 15, 0, .rw, .d, .ret, 1⟩
def rMOUT_BURST : RegRow := ⟨aMOUT_BURST, [(1, 8)], [0], 2, [fMOUT_BURST_COUNT]⟩
def aMOUT_STATUS : Nat := 0x040038
def fMOUT_STATUS_STATE : Fld := ⟨aMOUT_STATUS, 35, 33, .ro, .l, .live, 0⟩
def fMOUT_STATUS_PENDING : Fld := ⟨aMOUT_STATUS, 32, 30, .ro, .l, .zero, 0⟩
def fMOUT_STATUS_LATE : Fld := ⟨aMOUT_STATUS, 29, 29, .w1c, .l, .zero, 0⟩
def fMOUT_STATUS_ASAP_USED : Fld := ⟨aMOUT_STATUS, 28, 28, .w1c, .l, .zero, 0⟩
def fMOUT_STATUS_RETRIG_DROPPED : Fld := ⟨aMOUT_STATUS, 27, 27, .w1c, .l, .zero, 0⟩
def fMOUT_STATUS_QUEUE_OVF : Fld := ⟨aMOUT_STATUS, 26, 26, .w1c, .l, .zero, 0⟩
def fMOUT_STATUS_RATE_DROP : Fld := ⟨aMOUT_STATUS, 25, 25, .w1c, .l, .zero, 0⟩
def fMOUT_STATUS_OVERLAP : Fld := ⟨aMOUT_STATUS, 24, 24, .w1c, .l, .zero, 0⟩
def fMOUT_STATUS_SUPPRESSED : Fld := ⟨aMOUT_STATUS, 23, 23, .w1c, .l, .zero, 0⟩
def fMOUT_STATUS_CLAMP : Fld := ⟨aMOUT_STATUS, 22, 22, .w1c, .l, .zero, 0⟩
def fMOUT_STATUS_CMD_IGNORED : Fld := ⟨aMOUT_STATUS, 21, 21, .w1c, .l, .zero, 0⟩
def fMOUT_STATUS_ECHO_ERR : Fld := ⟨aMOUT_STATUS, 20, 20, .w1c, .l, .zero, 0⟩
def fMOUT_STATUS_ECHO_CAUSE : Fld := ⟨aMOUT_STATUS, 19, 17, .ro, .l, .zero, 0⟩
def fMOUT_STATUS_VOTE_ERR : Fld := ⟨aMOUT_STATUS, 16, 16, .w1c, .l, .zero, 0⟩
def fMOUT_STATUS_APPLY_WAIT : Fld := ⟨aMOUT_STATUS, 15, 15, .ro, .l, .zero, 0⟩
def fMOUT_STATUS_CFG_BUSY : Fld := ⟨aMOUT_STATUS, 14, 14, .w1c, .l, .zero, 0⟩
def fMOUT_STATUS_DRV : Fld := ⟨aMOUT_STATUS, 13, 12, .ro, .l, .live, 0⟩
def fMOUT_STATUS_LOCK_DISCARD : Fld := ⟨aMOUT_STATUS, 11, 11, .w1c, .l, .zero, 0⟩
def rMOUT_STATUS : RegRow := ⟨aMOUT_STATUS, [(1, 8)], [0], 2, [fMOUT_STATUS_STATE, fMOUT_STATUS_PENDING, fMOUT_STATUS_LATE, fMOUT_STATUS_ASAP_USED, fMOUT_STATUS_RETRIG_DROPPED, fMOUT_STATUS_QUEUE_OVF, fMOUT_STATUS_RATE_DROP, fMOUT_STATUS_OVERLAP, fMOUT_STATUS_SUPPRESSED, fMOUT_STATUS_CLAMP, fMOUT_STATUS_CMD_IGNORED, fMOUT_STATUS_ECHO_ERR, fMOUT_STATUS_ECHO_CAUSE, fMOUT_STATUS_VOTE_ERR, fMOUT_STATUS_APPLY_WAIT, fMOUT_STATUS_CFG_BUSY, fMOUT_STATUS_DRV, fMOUT_STATUS_LOCK_DISCARD]⟩
def aMOUT_GEN : Nat := 0x040040
def fMOUT_GEN_ROLE_G0 : Fld := ⟨aMOUT_GEN, 35, 33, .ro, .l, .ret, 0⟩
def fMOUT_GEN_ROLE_G1 : Fld := ⟨aMOUT_GEN, 32, 30, .ro, .l, .ret, 1⟩
def fMOUT_GEN_ROLE_G2 : Fld := ⟨aMOUT_GEN, 29, 27, .ro, .l, .ret, 2⟩
def fMOUT_GEN_ROLE_G3 : Fld := ⟨aMOUT_GEN, 26, 24, .ro, .l, .ret, 3⟩
def fMOUT_GEN_REDUNDANCY : Fld := ⟨aMOUT_GEN, 23, 22, .ro, .l, .live, 0⟩
def fMOUT_GEN_SWAP_FAIL : Fld := ⟨aMOUT_GEN, 21, 21, .w1c, .l, .zero, 0⟩
def fMOUT_GEN_REPLACE_UNAVAIL : Fld := ⟨aMOUT_GEN, 20, 20, .w1c, .l, .zero, 0⟩
def rMOUT_GEN : RegRow := ⟨aMOUT_GEN, [(1, 8)], [0], 2, [fMOUT_GEN_ROLE_G0, fMOUT_GEN_ROLE_G1, fMOUT_GEN_ROLE_G2, fMOUT_GEN_ROLE_G3, fMOUT_GEN_REDUNDANCY, fMOUT_GEN_SWAP_FAIL, fMOUT_GEN_REPLACE_UNAVAIL]⟩
def aMOUT_CMD : Nat := 0x040048
def fMOUT_CMD_REPLACE : Fld := ⟨aMOUT_CMD, 35, 35, .w1s, .l, .zero, 0⟩
def fMOUT_CMD_CLEAR_FAULTY : Fld := ⟨aMOUT_CMD, 34, 34, .w1s, .l, .zero, 0⟩
def fMOUT_CMD_GEN : Fld := ⟨aMOUT_CMD, 33, 32, .rw, .l, .zero, 0⟩
def rMOUT_CMD : RegRow := ⟨aMOUT_CMD, [(1, 8)], [0], 2, [fMOUT_CMD_REPLACE, fMOUT_CMD_CLEAR_FAULTY, fMOUT_CMD_GEN]⟩
def aMOUT_COUNT : Nat := 0x040050
def fMOUT_COUNT_LATE : Fld := ⟨aMOUT_COUNT, 35, 27, .rc, .l, .zero, 0⟩
def fMOUT_COUNT_RETRIG_DROP : Fld := ⟨aMOUT_COUNT, 26, 18, .rc, .l, .zero, 0⟩
def fMOUT_COUNT_OVERLAP : Fld := ⟨aMOUT_COUNT, 17, 9, .rc, .l, .zero, 0⟩
def fMOUT_COUNT_SUPPRESS : Fld := ⟨aMOUT_COUNT, 8, 0, .rc, .l, .zero, 0⟩
def rMOUT_COUNT : RegRow := ⟨aMOUT_COUNT, [(1, 8)], [0], 2, [fMOUT_COUNT_LATE, fMOUT_COUNT_RETRIG_DROP, fMOUT_COUNT_OVERLAP, fMOUT_COUNT_SUPPRESS]⟩
def aMOUT_APPLY : Nat := 0x040058
def fMOUT_APPLY_GO : Fld := ⟨aMOUT_APPLY, 35, 35, .w1s, .l, .zero, 0⟩
def fMOUT_APPLY_OUT_MASK : Fld := ⟨aMOUT_APPLY, 34, 27, .rw, .l, .zero, 0⟩
def rMOUT_APPLY : RegRow := ⟨aMOUT_APPLY, [], [0], 2, [fMOUT_APPLY_GO, fMOUT_APPLY_OUT_MASK]⟩
def aMOUT_TAPPLY_LO : Nat := 0x040059
def fMOUT_TAPPLY_LO_COARSE : Fld := ⟨aMOUT_TAPPLY_LO, 35, 10, .rw, .l, .zero, 0⟩
def fMOUT_TAPPLY_LO_FINE : Fld := ⟨aMOUT_TAPPLY_LO, 9, 0, .rw, .l, .zero, 0⟩
def rMOUT_TAPPLY_LO : RegRow := ⟨aMOUT_TAPPLY_LO, [], [0], 2, [fMOUT_TAPPLY_LO_COARSE, fMOUT_TAPPLY_LO_FINE]⟩
def aMOUT_TAPPLY_HI : Nat := 0x04005A
def fMOUT_TAPPLY_HI_EPOCH : Fld := ⟨aMOUT_TAPPLY_HI, 35, 0, .rw, .l, .zero, 0⟩
def rMOUT_TAPPLY_HI : RegRow := ⟨aMOUT_TAPPLY_HI, [], [0], 2, [fMOUT_TAPPLY_HI_EPOCH]⟩
def aMOUT_TAPPLY_CTRL : Nat := 0x04005B
def fMOUT_TAPPLY_CTRL_ARM : Fld := ⟨aMOUT_TAPPLY_CTRL, 35, 35, .w1s, .l, .zero, 0⟩
def fMOUT_TAPPLY_CTRL_OUT_MASK : Fld := ⟨aMOUT_TAPPLY_CTRL, 34, 27, .rw, .l, .zero, 0⟩
def fMOUT_TAPPLY_CTRL_PENDING : Fld := ⟨aMOUT_TAPPLY_CTRL, 26, 26, .ro, .l, .zero, 0⟩
def fMOUT_TAPPLY_CTRL_DONE : Fld := ⟨aMOUT_TAPPLY_CTRL, 25, 25, .w1c, .l, .zero, 0⟩
def fMOUT_TAPPLY_CTRL_CANCEL : Fld := ⟨aMOUT_TAPPLY_CTRL, 24, 24, .w1s, .l, .zero, 0⟩
def fMOUT_TAPPLY_CTRL_ARM_BUSY : Fld := ⟨aMOUT_TAPPLY_CTRL, 23, 23, .w1c, .l, .zero, 0⟩
def rMOUT_TAPPLY_CTRL : RegRow := ⟨aMOUT_TAPPLY_CTRL, [], [0], 2, [fMOUT_TAPPLY_CTRL_ARM, fMOUT_TAPPLY_CTRL_OUT_MASK, fMOUT_TAPPLY_CTRL_PENDING, fMOUT_TAPPLY_CTRL_DONE, fMOUT_TAPPLY_CTRL_CANCEL, fMOUT_TAPPLY_CTRL_ARM_BUSY]⟩
def aMOUT_VOTE_FIRST_LO : Nat := 0x04005C
def fMOUT_VOTE_FIRST_LO_COARSE : Fld := ⟨aMOUT_VOTE_FIRST_LO, 35, 10, .ro, .l, .zero, 0⟩
def fMOUT_VOTE_FIRST_LO_FINE : Fld := ⟨aMOUT_VOTE_FIRST_LO, 9, 0, .ro, .l, .zero, 0⟩
def rMOUT_VOTE_FIRST_LO : RegRow := ⟨aMOUT_VOTE_FIRST_LO, [], [0], 2, [fMOUT_VOTE_FIRST_LO_COARSE, fMOUT_VOTE_FIRST_LO_FINE]⟩
def aMOUT_VOTE_FIRST_HI : Nat := 0x04005D
def fMOUT_VOTE_FIRST_HI_EPOCH : Fld := ⟨aMOUT_VOTE_FIRST_HI, 35, 0, .ro, .l, .zero, 0⟩
def rMOUT_VOTE_FIRST_HI : RegRow := ⟨aMOUT_VOTE_FIRST_HI, [], [0], 2, [fMOUT_VOTE_FIRST_HI_EPOCH]⟩
def aMOUT_VOTE_FIRST_INFO : Nat := 0x04005E
def fMOUT_VOTE_FIRST_INFO_VALID : Fld := ⟨aMOUT_VOTE_FIRST_INFO, 35, 35, .w1c, .l, .zero, 0⟩
def fMOUT_VOTE_FIRST_INFO_OUT : Fld := ⟨aMOUT_VOTE_FIRST_INFO, 34, 32, .ro, .l, .zero, 0⟩
def fMOUT_VOTE_FIRST_INFO_SRC : Fld := ⟨aMOUT_VOTE_FIRST_INFO, 31, 31, .ro, .l, .zero, 0⟩
def fMOUT_VOTE_FIRST_INFO_GEN : Fld := ⟨aMOUT_VOTE_FIRST_INFO, 30, 29, .ro, .l, .zero, 0⟩
def fMOUT_VOTE_FIRST_INFO_CAUSE : Fld := ⟨aMOUT_VOTE_FIRST_INFO, 28, 26, .ro, .l, .zero, 0⟩
def fMOUT_VOTE_FIRST_INFO_DEV : Fld := ⟨aMOUT_VOTE_FIRST_INFO, 25, 16, .ro, .l, .zero, 0⟩
def rMOUT_VOTE_FIRST_INFO : RegRow := ⟨aMOUT_VOTE_FIRST_INFO, [], [0], 2, [fMOUT_VOTE_FIRST_INFO_VALID, fMOUT_VOTE_FIRST_INFO_OUT, fMOUT_VOTE_FIRST_INFO_SRC, fMOUT_VOTE_FIRST_INFO_GEN, fMOUT_VOTE_FIRST_INFO_CAUSE, fMOUT_VOTE_FIRST_INFO_DEV]⟩
def aMOUT_VOTE_COUNT : Nat := 0x04005F
def fMOUT_VOTE_COUNT_VOTE_ERRS : Fld := ⟨aMOUT_VOTE_COUNT, 35, 18, .rc, .l, .zero, 0⟩
def fMOUT_VOTE_COUNT_ECHO_ERRS : Fld := ⟨aMOUT_VOTE_COUNT, 17, 0, .rc, .l, .zero, 0⟩
def rMOUT_VOTE_COUNT : RegRow := ⟨aMOUT_VOTE_COUNT, [], [0], 2, [fMOUT_VOTE_COUNT_VOTE_ERRS, fMOUT_VOTE_COUNT_ECHO_ERRS]⟩

/-- Every register word of chapter 05. -/
def regRows05 : List RegRow :=
  [rMOUT_CTRL, rMOUT_FMT, rMOUT_DELAY, rMOUT_WIDTH, rMOUT_PERIOD, rMOUT_PHASE, rMOUT_BURST, rMOUT_STATUS, rMOUT_GEN, rMOUT_CMD, rMOUT_COUNT, rMOUT_APPLY, rMOUT_TAPPLY_LO, rMOUT_TAPPLY_HI, rMOUT_TAPPLY_CTRL, rMOUT_VOTE_FIRST_LO, rMOUT_VOTE_FIRST_HI, rMOUT_VOTE_FIRST_INFO, rMOUT_VOTE_COUNT]

end Sys2Proof.Machine
end

