-- ==== Sys2Proof/Machine/RegsB.lean ====
section
/-! DEFINITION. The register map, part B: for every register word the manual lists, its base address, the layout of its
array, its owning islands and power domain, and every field with its bits, access type, change class, restore attribute and
start value (chapters 06, 07, 08, 09, 10, sections "Registers"; R474 gives the owners, R539 the domains). -/

namespace Sys2Proof.Machine

/-! Chapter 06: sequencers. -/

def aSEQ_CFG : Nat := 0x050000
def fSEQ_CFG_FIBRE : Fld := ⟨aSEQ_CFG, 35, 34, .rw, .s, .draft, 0⟩
def fSEQ_CFG_STREAM_SRC : Fld := ⟨aSEQ_CFG, 33, 32, .rw, .s, .draft, 0⟩
def fSEQ_CFG_STREAM_QUEUE : Fld := ⟨aSEQ_CFG, 31, 20, .rw, .s, .draft, 0⟩
def rSEQ_CFG : RegRow := ⟨aSEQ_CFG, [(1, 2)], [1], 3, [fSEQ_CFG_FIBRE, fSEQ_CFG_STREAM_SRC, fSEQ_CFG_STREAM_QUEUE]⟩
def aSEQ_MODE : Nat := 0x050002
def fSEQ_MODE_START_MODE : Fld := ⟨aSEQ_MODE, 35, 34, .rw, .l, .ret, 0⟩
def fSEQ_MODE_START_ENTRY : Fld := ⟨aSEQ_MODE, 33, 24, .rw, .l, .ret, 0⟩
def fSEQ_MODE_START_LINE : Fld := ⟨aSEQ_MODE, 23, 18, .rw, .l, .ret, 0⟩
def fSEQ_MODE_JLINE_EN : Fld := ⟨aSEQ_MODE, 17, 17, .rw, .d, .ret, 0⟩
def fSEQ_MODE_JUMP_LINE : Fld := ⟨aSEQ_MODE, 16, 11, .rw, .d, .ret, 0⟩
def fSEQ_MODE_JUMP_TARGET : Fld := ⟨aSEQ_MODE, 10, 1, .rw, .d, .ret, 0⟩
def fSEQ_MODE_LOG_EN : Fld := ⟨aSEQ_MODE, 0, 0, .rw, .l, .ret, 0⟩
def rSEQ_MODE : RegRow := ⟨aSEQ_MODE, [(1, 2)], [1], 3, [fSEQ_MODE_START_MODE, fSEQ_MODE_START_ENTRY, fSEQ_MODE_START_LINE, fSEQ_MODE_JLINE_EN, fSEQ_MODE_JUMP_LINE, fSEQ_MODE_JUMP_TARGET, fSEQ_MODE_LOG_EN]⟩
def aSEQ_ITEM_PER : Nat := 0x050004
def fSEQ_ITEM_PER_COARSE : Fld := ⟨aSEQ_ITEM_PER, 35, 10, .rw, .d, .ret, 26⟩
def fSEQ_ITEM_PER_FINE : Fld := ⟨aSEQ_ITEM_PER, 9, 0, .rw, .d, .ret, 683⟩
def rSEQ_ITEM_PER : RegRow := ⟨aSEQ_ITEM_PER, [(1, 2)], [1], 3, [fSEQ_ITEM_PER_COARSE, fSEQ_ITEM_PER_FINE]⟩
def aSEQ_START_OFS : Nat := 0x050006
def fSEQ_START_OFS_COARSE : Fld := ⟨aSEQ_START_OFS, 35, 10, .rw, .l, .ret, 1024⟩
def fSEQ_START_OFS_FINE : Fld := ⟨aSEQ_START_OFS, 9, 0, .rw, .l, .ret, 0⟩
def rSEQ_START_OFS : RegRow := ⟨aSEQ_START_OFS, [(1, 2)], [1], 3, [fSEQ_START_OFS_COARSE, fSEQ_START_OFS_FINE]⟩
def aSEQ_START_LO : Nat := 0x050008
def fSEQ_START_LO_COARSE : Fld := ⟨aSEQ_START_LO, 35, 10, .rw, .l, .zero, 0⟩
def fSEQ_START_LO_FINE : Fld := ⟨aSEQ_START_LO, 9, 0, .rw, .l, .zero, 0⟩
def rSEQ_START_LO : RegRow := ⟨aSEQ_START_LO, [(1, 2)], [1], 3, [fSEQ_START_LO_COARSE, fSEQ_START_LO_FINE]⟩
def aSEQ_START_HI : Nat := 0x05000A
def fSEQ_START_HI_EPOCH : Fld := ⟨aSEQ_START_HI, 35, 0, .rw, .l, .zero, 0⟩
def rSEQ_START_HI : RegRow := ⟨aSEQ_START_HI, [(1, 2)], [1], 3, [fSEQ_START_HI_EPOCH]⟩
def aSEQ_CMD : Nat := 0x05000C
def fSEQ_CMD_GO : Fld := ⟨aSEQ_CMD, 35, 35, .w1s, .l, .zero, 0⟩
def fSEQ_CMD_STOP : Fld := ⟨aSEQ_CMD, 34, 34, .w1s, .l, .zero, 0⟩
def fSEQ_CMD_STOP_AT : Fld := ⟨aSEQ_CMD, 33, 33, .rw, .l, .zero, 0⟩
def fSEQ_CMD_JUMP : Fld := ⟨aSEQ_CMD, 32, 32, .w1s, .l, .zero, 0⟩
def fSEQ_CMD_TARGET : Fld := ⟨aSEQ_CMD, 31, 22, .rw, .l, .zero, 0⟩
def fSEQ_CMD_RELEASE : Fld := ⟨aSEQ_CMD, 21, 21, .w1s, .l, .zero, 0⟩
def fSEQ_CMD_APPLY : Fld := ⟨aSEQ_CMD, 20, 20, .w1s, .l, .zero, 0⟩
def fSEQ_CMD_TAPPLY_ARM : Fld := ⟨aSEQ_CMD, 19, 19, .w1s, .l, .zero, 0⟩
def fSEQ_CMD_TAPPLY_PEND : Fld := ⟨aSEQ_CMD, 18, 18, .ro, .l, .zero, 0⟩
def fSEQ_CMD_TAPPLY_CANCEL : Fld := ⟨aSEQ_CMD, 17, 17, .w1s, .l, .zero, 0⟩
def fSEQ_CMD_TAPPLY_DONE : Fld := ⟨aSEQ_CMD, 16, 16, .w1c, .l, .zero, 0⟩
def fSEQ_CMD_ARM_BUSY : Fld := ⟨aSEQ_CMD, 15, 15, .w1c, .l, .zero, 0⟩
def rSEQ_CMD : RegRow := ⟨aSEQ_CMD, [(1, 2)], [1], 3, [fSEQ_CMD_GO, fSEQ_CMD_STOP, fSEQ_CMD_STOP_AT, fSEQ_CMD_JUMP, fSEQ_CMD_TARGET, fSEQ_CMD_RELEASE, fSEQ_CMD_APPLY, fSEQ_CMD_TAPPLY_ARM, fSEQ_CMD_TAPPLY_PEND, fSEQ_CMD_TAPPLY_CANCEL, fSEQ_CMD_TAPPLY_DONE, fSEQ_CMD_ARM_BUSY]⟩
def aSEQ_STATUS : Nat := 0x05000E
def fSEQ_STATUS_STATE : Fld := ⟨aSEQ_STATUS, 35, 33, .ro, .l, .zero, 0⟩
def fSEQ_STATUS_JUMP_PEND : Fld := ⟨aSEQ_STATUS, 32, 32, .ro, .l, .zero, 0⟩
def fSEQ_STATUS_JUMP_LATE : Fld := ⟨aSEQ_STATUS, 31, 31, .w1c, .l, .zero, 0⟩
def fSEQ_STATUS_JUMP_LOST : Fld := ⟨aSEQ_STATUS, 30, 30, .w1c, .l, .zero, 0⟩
def fSEQ_STATUS_START_LATE : Fld := ⟨aSEQ_STATUS, 29, 29, .w1c, .l, .zero, 0⟩
def fSEQ_STATUS_GO_IGNORED : Fld := ⟨aSEQ_STATUS, 28, 28, .w1c, .l, .zero, 0⟩
def fSEQ_STATUS_UNDERRUN : Fld := ⟨aSEQ_STATUS, 27, 27, .w1c, .l, .zero, 0⟩
def fSEQ_STATUS_ITEM_ERR : Fld := ⟨aSEQ_STATUS, 26, 26, .w1c, .l, .zero, 0⟩
def fSEQ_STATUS_SEG_ERR : Fld := ⟨aSEQ_STATUS, 25, 25, .w1c, .l, .zero, 0⟩
def fSEQ_STATUS_EDGE_ORDER : Fld := ⟨aSEQ_STATUS, 24, 24, .w1c, .l, .zero, 0⟩
def fSEQ_STATUS_EDGE_DISC : Fld := ⟨aSEQ_STATUS, 23, 23, .w1c, .l, .zero, 0⟩
def fSEQ_STATUS_WAIT_TO : Fld := ⟨aSEQ_STATUS, 22, 22, .w1c, .l, .zero, 0⟩
def fSEQ_STATUS_CLAMP : Fld := ⟨aSEQ_STATUS, 21, 21, .w1c, .l, .zero, 0⟩
def fSEQ_STATUS_APPLY_WAIT : Fld := ⟨aSEQ_STATUS, 20, 20, .ro, .l, .zero, 0⟩
def fSEQ_STATUS_HALT_LOCK : Fld := ⟨aSEQ_STATUS, 19, 19, .w1c, .l, .zero, 0⟩
def fSEQ_STATUS_FLUSH_SEEN : Fld := ⟨aSEQ_STATUS, 18, 18, .w1c, .l, .zero, 0⟩
def fSEQ_STATUS_CFG_BUSY : Fld := ⟨aSEQ_STATUS, 17, 17, .w1c, .l, .zero, 0⟩
def fSEQ_STATUS_ERR_CODE : Fld := ⟨aSEQ_STATUS, 16, 13, .ro, .l, .zero, 0⟩
def rSEQ_STATUS : RegRow := ⟨aSEQ_STATUS, [(1, 2)], [1], 3, [fSEQ_STATUS_STATE, fSEQ_STATUS_JUMP_PEND, fSEQ_STATUS_JUMP_LATE, fSEQ_STATUS_JUMP_LOST, fSEQ_STATUS_START_LATE, fSEQ_STATUS_GO_IGNORED, fSEQ_STATUS_UNDERRUN, fSEQ_STATUS_ITEM_ERR, fSEQ_STATUS_SEG_ERR, fSEQ_STATUS_EDGE_ORDER, fSEQ_STATUS_EDGE_DISC, fSEQ_STATUS_WAIT_TO, fSEQ_STATUS_CLAMP, fSEQ_STATUS_APPLY_WAIT, fSEQ_STATUS_HALT_LOCK, fSEQ_STATUS_FLUSH_SEEN, fSEQ_STATUS_CFG_BUSY, fSEQ_STATUS_ERR_CODE]⟩
def aSEQ_COUNT : Nat := 0x050010
def fSEQ_COUNT_UNDERRUN_COUNT : Fld := ⟨aSEQ_COUNT, 35, 20, .rc, .l, .zero, 0⟩
def fSEQ_COUNT_JUMP_LOSTS : Fld := ⟨aSEQ_COUNT, 19, 10, .rc, .l, .zero, 0⟩
def fSEQ_COUNT_ITEM_ERRS : Fld := ⟨aSEQ_COUNT, 9, 0, .rc, .l, .zero, 0⟩
def rSEQ_COUNT : RegRow := ⟨aSEQ_COUNT, [(1, 2)], [1], 3, [fSEQ_COUNT_UNDERRUN_COUNT, fSEQ_COUNT_JUMP_LOSTS, fSEQ_COUNT_ITEM_ERRS]⟩
def aSEQ_POS : Nat := 0x050012
def fSEQ_POS_ENTRY : Fld := ⟨aSEQ_POS, 35, 26, .ro, .l, .zero, 0⟩
def fSEQ_POS_SEG : Fld := ⟨aSEQ_POS, 25, 14, .ro, .l, .zero, 0⟩
def rSEQ_POS : RegRow := ⟨aSEQ_POS, [(1, 2)], [1], 3, [fSEQ_POS_ENTRY, fSEQ_POS_SEG]⟩
def aSEQ_INDEX : Nat := 0x050014
def fSEQ_INDEX_INDEX : Fld := ⟨aSEQ_INDEX, 25, 0, .ro, .l, .zero, 0⟩
def rSEQ_INDEX : RegRow := ⟨aSEQ_INDEX, [(1, 2)], [1], 3, [fSEQ_INDEX_INDEX]⟩
def aSEQ_PASS : Nat := 0x050016
def fSEQ_PASS_PASS : Fld := ⟨aSEQ_PASS, 35, 16, .ro, .l, .zero, 0⟩
def rSEQ_PASS : RegRow := ⟨aSEQ_PASS, [(1, 2)], [1], 3, [fSEQ_PASS_PASS]⟩
def aSEQ_UNDER_LO : Nat := 0x050018
def fSEQ_UNDER_LO_COARSE : Fld := ⟨aSEQ_UNDER_LO, 35, 10, .ro, .l, .zero, 0⟩
def fSEQ_UNDER_LO_FINE : Fld := ⟨aSEQ_UNDER_LO, 9, 0, .ro, .l, .zero, 0⟩
def rSEQ_UNDER_LO : RegRow := ⟨aSEQ_UNDER_LO, [(1, 2)], [1], 3, [fSEQ_UNDER_LO_COARSE, fSEQ_UNDER_LO_FINE]⟩
def aSEQ_UNDER_HI : Nat := 0x05001A
def fSEQ_UNDER_HI_EPOCH : Fld := ⟨aSEQ_UNDER_HI, 35, 0, .ro, .l, .zero, 0⟩
def rSEQ_UNDER_HI : RegRow := ⟨aSEQ_UNDER_HI, [(1, 2)], [1], 3, [fSEQ_UNDER_HI_EPOCH]⟩
def aSEQ_STREAM : Nat := 0x05001C
def fSEQ_STREAM_RESIDENT : Fld := ⟨aSEQ_STREAM, 35, 25, .ro, .l, .zero, 0⟩
def fSEQ_STREAM_DISCARD : Fld := ⟨aSEQ_STREAM, 15, 0, .rc, .l, .zero, 0⟩
def rSEQ_STREAM : RegRow := ⟨aSEQ_STREAM, [(1, 2)], [1], 3, [fSEQ_STREAM_RESIDENT, fSEQ_STREAM_DISCARD]⟩
def aSEQ_TAPPLY_LO : Nat := 0x05001E
def fSEQ_TAPPLY_LO_COARSE : Fld := ⟨aSEQ_TAPPLY_LO, 35, 10, .rw, .l, .zero, 0⟩
def fSEQ_TAPPLY_LO_FINE : Fld := ⟨aSEQ_TAPPLY_LO, 9, 0, .rw, .l, .zero, 0⟩
def rSEQ_TAPPLY_LO : RegRow := ⟨aSEQ_TAPPLY_LO, [(1, 2)], [1], 3, [fSEQ_TAPPLY_LO_COARSE, fSEQ_TAPPLY_LO_FINE]⟩
def aSEQ_TAPPLY_HI : Nat := 0x050020
def fSEQ_TAPPLY_HI_EPOCH : Fld := ⟨aSEQ_TAPPLY_HI, 35, 0, .rw, .l, .zero, 0⟩
def rSEQ_TAPPLY_HI : RegRow := ⟨aSEQ_TAPPLY_HI, [(1, 2)], [1], 3, [fSEQ_TAPPLY_HI_EPOCH]⟩
def aPATTERN_STORE : Nat := 0x800000
def fPATTERN_STORE_ITEM : Fld := ⟨aPATTERN_STORE, 35, 0, .rw, .l, .draft, 0⟩
def rPATTERN_STORE : RegRow := ⟨aPATTERN_STORE, [(1, 1048576)], [1], 3, [fPATTERN_STORE_ITEM]⟩
def aSEGMENT_TABLE : Nat := 0x900000
def fSEGMENT_TABLE_ENTRY : Fld := ⟨aSEGMENT_TABLE, 35, 0, .rw, .l, .draft, 0⟩
def rSEGMENT_TABLE : RegRow := ⟨aSEGMENT_TABLE, [(2, 4096), (1, 2)], [1], 3, [fSEGMENT_TABLE_ENTRY]⟩
def aSEQUENCE_TABLE : Nat := 0x904000
def fSEQUENCE_TABLE_ENTRY : Fld := ⟨aSEQUENCE_TABLE, 35, 0, .rw, .l, .draft, 0⟩
def rSEQUENCE_TABLE : RegRow := ⟨aSEQUENCE_TABLE, [(2, 1024), (1, 2)], [1], 3, [fSEQUENCE_TABLE_ENTRY]⟩
def aSTREAM_WINDOW : Nat := 0x910000
def fSTREAM_WINDOW_ITEM : Fld := ⟨aSTREAM_WINDOW, 35, 0, .ro, .l, .live, 0⟩
def rSTREAM_WINDOW : RegRow := ⟨aSTREAM_WINDOW, [(65536, 2), (1, 65536)], [1], 3, [fSTREAM_WINDOW_ITEM]⟩

/-- Every register word of chapter 06. -/
def regRows06 : List RegRow :=
  [rSEQ_CFG, rSEQ_MODE, rSEQ_ITEM_PER, rSEQ_START_OFS, rSEQ_START_LO, rSEQ_START_HI, rSEQ_CMD, rSEQ_STATUS, rSEQ_COUNT, rSEQ_POS, rSEQ_INDEX, rSEQ_PASS, rSEQ_UNDER_LO, rSEQ_UNDER_HI, rSEQ_STREAM, rSEQ_TAPPLY_LO, rSEQ_TAPPLY_HI, rPATTERN_STORE, rSEGMENT_TABLE, rSEQUENCE_TABLE, rSTREAM_WINDOW]

/-! Chapter 07: probe builders, transmit link and light limiter. -/

def aPROBE_CFG : Nat := 0x060000
def fPROBE_CFG_EN : Fld := ⟨aPROBE_CFG, 35, 35, .rw, .l, .ret, 0⟩
def fPROBE_CFG_RATIO : Fld := ⟨aPROBE_CFG, 34, 33, .rw, .s, .draft, 0⟩
def fPROBE_CFG_LINKSET : Fld := ⟨aPROBE_CFG, 32, 31, .rw, .s, .draft, 0⟩
def fPROBE_CFG_SHOT_EN : Fld := ⟨aPROBE_CFG, 30, 30, .rw, .s, .draft, 0⟩
def fPROBE_CFG_SHOT_MARK : Fld := ⟨aPROBE_CFG, 29, 28, .rw, .s, .draft, 0⟩
def fPROBE_CFG_SHAPE_SEL : Fld := ⟨aPROBE_CFG, 27, 27, .rw, .d, .ret, 0⟩
def fPROBE_CFG_GAIN : Fld := ⟨aPROBE_CFG, 26, 11, .rw, .d, .ret, 16384⟩
def rPROBE_CFG : RegRow := ⟨aPROBE_CFG, [(1, 2)], [1, 2], 3, [fPROBE_CFG_EN, fPROBE_CFG_RATIO, fPROBE_CFG_LINKSET, fPROBE_CFG_SHOT_EN, fPROBE_CFG_SHOT_MARK, fPROBE_CFG_SHAPE_SEL, fPROBE_CFG_GAIN]⟩
def aPROBE_TONE_CTRL : Nat := 0x060010
def fPROBE_TONE_CTRL_EN : Fld := ⟨aPROBE_TONE_CTRL, 35, 35, .rw, .d, .ret, 0⟩
def fPROBE_TONE_CTRL_AMP : Fld := ⟨aPROBE_TONE_CTRL, 34, 19, .rw, .d, .ret, 0⟩
def fPROBE_TONE_CTRL_PHASE_OFS : Fld := ⟨aPROBE_TONE_CTRL, 18, 3, .rw, .d, .ret, 0⟩
def rPROBE_TONE_CTRL : RegRow := ⟨aPROBE_TONE_CTRL, [(16, 2), (1, 16)], [1, 2], 3, [fPROBE_TONE_CTRL_EN, fPROBE_TONE_CTRL_AMP, fPROBE_TONE_CTRL_PHASE_OFS]⟩
def aPROBE_TONE_FTW_LO : Nat := 0x060030
def fPROBE_TONE_FTW_LO_FTW_LO : Fld := ⟨aPROBE_TONE_FTW_LO, 35, 0, .rw, .d, .ret, 0⟩
def rPROBE_TONE_FTW_LO : RegRow := ⟨aPROBE_TONE_FTW_LO, [(16, 2), (1, 16)], [1, 2], 3, [fPROBE_TONE_FTW_LO_FTW_LO]⟩
def aPROBE_TONE_FTW_HI : Nat := 0x060050
def fPROBE_TONE_FTW_HI_FTW_HI : Fld := ⟨aPROBE_TONE_FTW_HI, 11, 0, .rw, .d, .ret, 0⟩
def rPROBE_TONE_FTW_HI : RegRow := ⟨aPROBE_TONE_FTW_HI, [(16, 2), (1, 16)], [1, 2], 3, [fPROBE_TONE_FTW_HI_FTW_HI]⟩
def aPROBE_APPLY : Nat := 0x060070
def fPROBE_APPLY_GO : Fld := ⟨aPROBE_APPLY, 35, 35, .w1s, .l, .zero, 0⟩
def fPROBE_APPLY_FIBRE_MASK : Fld := ⟨aPROBE_APPLY, 34, 33, .rw, .l, .zero, 0⟩
def rPROBE_APPLY : RegRow := ⟨aPROBE_APPLY, [], [1, 2], 3, [fPROBE_APPLY_GO, fPROBE_APPLY_FIBRE_MASK]⟩
def aPROBE_TAPPLY_LO : Nat := 0x060071
def fPROBE_TAPPLY_LO_COARSE : Fld := ⟨aPROBE_TAPPLY_LO, 35, 10, .rw, .l, .zero, 0⟩
def fPROBE_TAPPLY_LO_FINE : Fld := ⟨aPROBE_TAPPLY_LO, 9, 0, .rw, .l, .zero, 0⟩
def rPROBE_TAPPLY_LO : RegRow := ⟨aPROBE_TAPPLY_LO, [], [1, 2], 3, [fPROBE_TAPPLY_LO_COARSE, fPROBE_TAPPLY_LO_FINE]⟩
def aPROBE_TAPPLY_HI : Nat := 0x060072
def fPROBE_TAPPLY_HI_EPOCH : Fld := ⟨aPROBE_TAPPLY_HI, 35, 0, .rw, .l, .zero, 0⟩
def rPROBE_TAPPLY_HI : RegRow := ⟨aPROBE_TAPPLY_HI, [], [1, 2], 3, [fPROBE_TAPPLY_HI_EPOCH]⟩
def aPROBE_TAPPLY_CTRL : Nat := 0x060073
def fPROBE_TAPPLY_CTRL_ARM : Fld := ⟨aPROBE_TAPPLY_CTRL, 35, 35, .w1s, .l, .zero, 0⟩
def fPROBE_TAPPLY_CTRL_FIBRE_MASK : Fld := ⟨aPROBE_TAPPLY_CTRL, 34, 33, .rw, .l, .zero, 0⟩
def fPROBE_TAPPLY_CTRL_PENDING : Fld := ⟨aPROBE_TAPPLY_CTRL, 32, 32, .ro, .l, .zero, 0⟩
def fPROBE_TAPPLY_CTRL_DONE : Fld := ⟨aPROBE_TAPPLY_CTRL, 31, 31, .w1c, .l, .zero, 0⟩
def fPROBE_TAPPLY_CTRL_CANCEL : Fld := ⟨aPROBE_TAPPLY_CTRL, 30, 30, .w1s, .l, .zero, 0⟩
def fPROBE_TAPPLY_CTRL_ARM_BUSY : Fld := ⟨aPROBE_TAPPLY_CTRL, 29, 29, .w1c, .l, .zero, 0⟩
def rPROBE_TAPPLY_CTRL : RegRow := ⟨aPROBE_TAPPLY_CTRL, [], [1, 2], 3, [fPROBE_TAPPLY_CTRL_ARM, fPROBE_TAPPLY_CTRL_FIBRE_MASK, fPROBE_TAPPLY_CTRL_PENDING, fPROBE_TAPPLY_CTRL_DONE, fPROBE_TAPPLY_CTRL_CANCEL, fPROBE_TAPPLY_CTRL_ARM_BUSY]⟩
def aPROBE_STATUS : Nat := 0x060074
def fPROBE_STATUS_APPLY_WAIT : Fld := ⟨aPROBE_STATUS, 35, 35, .ro, .l, .zero, 0⟩
def fPROBE_STATUS_SHOT_SEEN : Fld := ⟨aPROBE_STATUS, 34, 34, .w1c, .l, .zero, 0⟩
def fPROBE_STATUS_BAND_ERR : Fld := ⟨aPROBE_STATUS, 33, 33, .w1c, .l, .zero, 0⟩
def fPROBE_STATUS_SAT : Fld := ⟨aPROBE_STATUS, 32, 32, .w1c, .l, .zero, 0⟩
def fPROBE_STATUS_NO_LIGHT : Fld := ⟨aPROBE_STATUS, 31, 31, .ro, .l, .live, 0⟩
def fPROBE_STATUS_CFG_BUSY : Fld := ⟨aPROBE_STATUS, 30, 30, .w1c, .l, .zero, 0⟩
def rPROBE_STATUS : RegRow := ⟨aPROBE_STATUS, [(1, 2)], [1, 2], 3, [fPROBE_STATUS_APPLY_WAIT, fPROBE_STATUS_SHOT_SEEN, fPROBE_STATUS_BAND_ERR, fPROBE_STATUS_SAT, fPROBE_STATUS_NO_LIGHT, fPROBE_STATUS_CFG_BUSY]⟩
def aPROBE_COUNT : Nat := 0x060076
def fPROBE_COUNT_SAT_COUNT : Fld := ⟨aPROBE_COUNT, 35, 18, .rc, .l, .zero, 0⟩
def fPROBE_COUNT_SHOT_COUNT : Fld := ⟨aPROBE_COUNT, 17, 0, .rc, .l, .zero, 0⟩
def rPROBE_COUNT : RegRow := ⟨aPROBE_COUNT, [(1, 2)], [1, 2], 3, [fPROBE_COUNT_SAT_COUNT, fPROBE_COUNT_SHOT_COUNT]⟩
def aPROBE_TX_LAT : Nat := 0x060078
def fPROBE_TX_LAT_COARSE : Fld := ⟨aPROBE_TX_LAT, 35, 10, .rw, .l, .ret, 0⟩
def fPROBE_TX_LAT_FINE : Fld := ⟨aPROBE_TX_LAT, 9, 0, .rw, .l, .ret, 0⟩
def rPROBE_TX_LAT : RegRow := ⟨aPROBE_TX_LAT, [(1, 2)], [1, 2], 3, [fPROBE_TX_LAT_COARSE, fPROBE_TX_LAT_FINE]⟩
def aPROBE_LINK_CTRL : Nat := 0x06007A
def fPROBE_LINK_CTRL_LINK_EN : Fld := ⟨aPROBE_LINK_CTRL, 35, 35, .rw, .l, .ret, 0⟩
def rPROBE_LINK_CTRL : RegRow := ⟨aPROBE_LINK_CTRL, [(1, 2)], [1, 2], 3, [fPROBE_LINK_CTRL_LINK_EN]⟩
def aPROBE_LINK_STATUS : Nat := 0x06007C
def fPROBE_LINK_STATUS_STATE : Fld := ⟨aPROBE_LINK_STATUS, 35, 34, .ro, .l, .zero, 0⟩
def fPROBE_LINK_STATUS_CLK_ERR : Fld := ⟨aPROBE_LINK_STATUS, 33, 33, .w1c, .l, .zero, 0⟩
def fPROBE_LINK_STATUS_FIFO_ERR : Fld := ⟨aPROBE_LINK_STATUS, 32, 32, .w1c, .l, .zero, 0⟩
def fPROBE_LINK_STATUS_LINK_DROPS : Fld := ⟨aPROBE_LINK_STATUS, 15, 0, .rc, .l, .zero, 0⟩
def rPROBE_LINK_STATUS : RegRow := ⟨aPROBE_LINK_STATUS, [(1, 2)], [1, 2], 3, [fPROBE_LINK_STATUS_STATE, fPROBE_LINK_STATUS_CLK_ERR, fPROBE_LINK_STATUS_FIFO_ERR, fPROBE_LINK_STATUS_LINK_DROPS]⟩
def aSHAPE_BANK : Nat := 0x940000
def fSHAPE_BANK_COEF : Fld := ⟨aSHAPE_BANK, 17, 0, .rw, .l, .draft, 0⟩
def rSHAPE_BANK : RegRow := ⟨aSHAPE_BANK, [(4096, 2), (2048, 2), (32, 64), (1, 32)], [1], 3, [fSHAPE_BANK_COEF]⟩
def aLIGHT_CFG : Nat := 0x160000
def fLIGHT_CFG_GATE_EN : Fld := ⟨aLIGHT_CFG, 35, 35, .rwl, .s, .ret, 0⟩
def fLIGHT_CFG_GATE_CH : Fld := ⟨aLIGHT_CFG, 34, 29, .rwl, .s, .ret, 0⟩
def fLIGHT_CFG_CAP : Fld := ⟨aLIGHT_CFG, 28, 13, .rwl, .l, .ret, 0⟩
def rLIGHT_CFG : RegRow := ⟨aLIGHT_CFG, [(1, 2)], [0], 2, [fLIGHT_CFG_GATE_EN, fLIGHT_CFG_GATE_CH, fLIGHT_CFG_CAP]⟩
def aLIGHT_DEPTH : Nat := 0x160002
def fLIGHT_DEPTH_DEPTH : Fld := ⟨aLIGHT_DEPTH, 35, 10, .rwl, .l, .ret, 0⟩
def rLIGHT_DEPTH : RegRow := ⟨aLIGHT_DEPTH, [(1, 2)], [0], 2, [fLIGHT_DEPTH_DEPTH]⟩
def aLIGHT_MAX_ON : Nat := 0x160004
def fLIGHT_MAX_ON_MAX_ON : Fld := ⟨aLIGHT_MAX_ON, 35, 10, .rwl, .l, .ret, 0⟩
def rLIGHT_MAX_ON : RegRow := ⟨aLIGHT_MAX_ON, [(1, 2)], [0], 2, [fLIGHT_MAX_ON_MAX_ON]⟩
def aLIGHT_LOCK : Nat := 0x160006
def fLIGHT_LOCK_CAP_LOCK : Fld := ⟨aLIGHT_LOCK, 35, 35, .w1s, .l, .ret, 0⟩
def fLIGHT_LOCK_UNLOCKED_BOOT : Fld := ⟨aLIGHT_LOCK, 34, 34, .ro, .l, .zero, 0⟩
def fLIGHT_LOCK_IL_IN : Fld := ⟨aLIGHT_LOCK, 33, 33, .ro, .l, .live, 0⟩
def fLIGHT_LOCK_IL_LATCH : Fld := ⟨aLIGHT_LOCK, 32, 32, .ro, .l, .zero, 0⟩
def fLIGHT_LOCK_IL_CLEAR : Fld := ⟨aLIGHT_LOCK, 31, 31, .w1s, .l, .zero, 0⟩
def rLIGHT_LOCK : RegRow := ⟨aLIGHT_LOCK, [], [0], 2, [fLIGHT_LOCK_CAP_LOCK, fLIGHT_LOCK_UNLOCKED_BOOT, fLIGHT_LOCK_IL_IN, fLIGHT_LOCK_IL_LATCH, fLIGHT_LOCK_IL_CLEAR]⟩
def aLIGHT_STATUS : Nat := 0x160008
def fLIGHT_STATUS_LIMITING : Fld := ⟨aLIGHT_STATUS, 35, 35, .ro, .l, .zero, 0⟩
def fLIGHT_STATUS_LIMITED : Fld := ⟨aLIGHT_STATUS, 34, 34, .w1c, .l, .zero, 0⟩
def fLIGHT_STATUS_MAXON_CUT : Fld := ⟨aLIGHT_STATUS, 33, 33, .w1c, .l, .zero, 0⟩
def fLIGHT_STATUS_GATE_ERR : Fld := ⟨aLIGHT_STATUS, 32, 32, .w1c, .l, .zero, 0⟩
def fLIGHT_STATUS_LEVEL : Fld := ⟨aLIGHT_STATUS, 25, 0, .ro, .l, .zero, 0⟩
def rLIGHT_STATUS : RegRow := ⟨aLIGHT_STATUS, [(1, 2)], [0], 2, [fLIGHT_STATUS_LIMITING, fLIGHT_STATUS_LIMITED, fLIGHT_STATUS_MAXON_CUT, fLIGHT_STATUS_GATE_ERR, fLIGHT_STATUS_LEVEL]⟩
def aLIGHT_COUNT : Nat := 0x16000A
def fLIGHT_COUNT_CUTS : Fld := ⟨aLIGHT_COUNT, 35, 18, .rc, .l, .zero, 0⟩
def fLIGHT_COUNT_SUPPRESSED : Fld := ⟨aLIGHT_COUNT, 17, 0, .rc, .l, .zero, 0⟩
def rLIGHT_COUNT : RegRow := ⟨aLIGHT_COUNT, [(1, 2)], [0], 2, [fLIGHT_COUNT_CUTS, fLIGHT_COUNT_SUPPRESSED]⟩

/-- Every register word of chapter 07. -/
def regRows07 : List RegRow :=
  [rPROBE_CFG, rPROBE_TONE_CTRL, rPROBE_TONE_FTW_LO, rPROBE_TONE_FTW_HI, rPROBE_APPLY, rPROBE_TAPPLY_LO, rPROBE_TAPPLY_HI, rPROBE_TAPPLY_CTRL, rPROBE_STATUS, rPROBE_COUNT, rPROBE_TX_LAT, rPROBE_LINK_CTRL, rPROBE_LINK_STATUS, rSHAPE_BANK, rLIGHT_CFG, rLIGHT_DEPTH, rLIGHT_MAX_ON, rLIGHT_LOCK, rLIGHT_STATUS, rLIGHT_COUNT]

/-! Chapter 08: Reed. -/

def aREED_IN_CFG : Nat := 0x070000
def fREED_IN_CFG_EN : Fld := ⟨aREED_IN_CFG, 35, 35, .rw, .l, .ret, 0⟩
def fREED_IN_CFG_EDGE : Fld := ⟨aREED_IN_CFG, 34, 33, .rw, .l, .ret, 0⟩
def fREED_IN_CFG_ARM : Fld := ⟨aREED_IN_CFG, 32, 32, .rw, .l, .ret, 0⟩
def fREED_IN_CFG_GSEL : Fld := ⟨aREED_IN_CFG, 31, 30, .rw, .l, .ret, 0⟩
def fREED_IN_CFG_QSEL : Fld := ⟨aREED_IN_CFG, 29, 28, .rw, .s, .draft, 0⟩
def rREED_IN_CFG : RegRow := ⟨aREED_IN_CFG, [(1, 16)], [0], 2, [fREED_IN_CFG_EN, fREED_IN_CFG_EDGE, fREED_IN_CFG_ARM, fREED_IN_CFG_GSEL, fREED_IN_CFG_QSEL]⟩
def aREED_IN_CAL : Nat := 0x070010
def fREED_IN_CAL_DELAY : Fld := ⟨aREED_IN_CAL, 35, 18, .rw, .l, .live, 0⟩
def fREED_IN_CAL_RANKB : Fld := ⟨aREED_IN_CAL, 17, 6, .rw, .l, .live, 512⟩
def rREED_IN_CAL : RegRow := ⟨aREED_IN_CAL, [(1, 16)], [0], 2, [fREED_IN_CAL_DELAY, fREED_IN_CAL_RANKB]⟩
def aREED_IN_STATUS : Nat := 0x070020
def fREED_IN_STATUS_GAP_SEEN : Fld := ⟨aREED_IN_STATUS, 35, 35, .w1c, .l, .zero, 0⟩
def fREED_IN_STATUS_CLOSE : Fld := ⟨aREED_IN_STATUS, 34, 34, .w1c, .l, .zero, 0⟩
def fREED_IN_STATUS_BUBBLE : Fld := ⟨aREED_IN_STATUS, 33, 33, .w1c, .l, .zero, 0⟩
def fREED_IN_STATUS_CD_ACTIVE : Fld := ⟨aREED_IN_STATUS, 32, 32, .ro, .l, .zero, 0⟩
def fREED_IN_STATUS_LOCK_MISS : Fld := ⟨aREED_IN_STATUS, 31, 31, .w1c, .l, .zero, 0⟩
def fREED_IN_STATUS_FILL : Fld := ⟨aREED_IN_STATUS, 30, 24, .ro, .l, .zero, 0⟩
def fREED_IN_STATUS_LOST : Fld := ⟨aREED_IN_STATUS, 23, 12, .rc, .l, .zero, 0⟩
def fREED_IN_STATUS_CLOSE_COUNT : Fld := ⟨aREED_IN_STATUS, 11, 0, .rc, .l, .zero, 0⟩
def rREED_IN_STATUS : RegRow := ⟨aREED_IN_STATUS, [(1, 16)], [0], 2, [fREED_IN_STATUS_GAP_SEEN, fREED_IN_STATUS_CLOSE, fREED_IN_STATUS_BUBBLE, fREED_IN_STATUS_CD_ACTIVE, fREED_IN_STATUS_LOCK_MISS, fREED_IN_STATUS_FILL, fREED_IN_STATUS_LOST, fREED_IN_STATUS_CLOSE_COUNT]⟩
def aREED_Q_CFG : Nat := 0x070030
def fREED_Q_CFG_EN : Fld := ⟨aREED_Q_CFG, 35, 35, .rw, .s, .draft, 0⟩
def fREED_Q_CFG_QUEUE : Fld := ⟨aREED_Q_CFG, 34, 23, .rw, .s, .draft, 0⟩
def fREED_Q_CFG_FORM : Fld := ⟨aREED_Q_CFG, 22, 21, .rw, .s, .draft, 0⟩
def rREED_Q_CFG : RegRow := ⟨aREED_Q_CFG, [(1, 4)], [0], 2, [fREED_Q_CFG_EN, fREED_Q_CFG_QUEUE, fREED_Q_CFG_FORM]⟩
def aREED_GATE_CFG : Nat := 0x070040
def fREED_GATE_CFG_SRC : Fld := ⟨aREED_GATE_CFG, 35, 33, .rw, .l, .ret, 0⟩
def fREED_GATE_CFG_GIN : Fld := ⟨aREED_GATE_CFG, 32, 29, .rw, .l, .ret, 0⟩
def fREED_GATE_CFG_OPEN_LINE : Fld := ⟨aREED_GATE_CFG, 28, 23, .rw, .l, .ret, 0⟩
def fREED_GATE_CFG_CLOSE_LINE : Fld := ⟨aREED_GATE_CFG, 22, 17, .rw, .l, .ret, 0⟩
def fREED_GATE_CFG_CLOSE_EN : Fld := ⟨aREED_GATE_CFG, 16, 16, .rw, .l, .ret, 0⟩
def fREED_GATE_CFG_REPEAT : Fld := ⟨aREED_GATE_CFG, 15, 15, .rw, .l, .ret, 0⟩
def rREED_GATE_CFG : RegRow := ⟨aREED_GATE_CFG, [(1, 4)], [0], 2, [fREED_GATE_CFG_SRC, fREED_GATE_CFG_GIN, fREED_GATE_CFG_OPEN_LINE, fREED_GATE_CFG_CLOSE_LINE, fREED_GATE_CFG_CLOSE_EN, fREED_GATE_CFG_REPEAT]⟩
def aREED_GATE_LEN : Nat := 0x070044
def fREED_GATE_LEN_UNIT : Fld := ⟨aREED_GATE_LEN, 35, 34, .rw, .l, .ret, 0⟩
def fREED_GATE_LEN_LEN : Fld := ⟨aREED_GATE_LEN, 33, 0, .rw, .l, .ret, 0⟩
def rREED_GATE_LEN : RegRow := ⟨aREED_GATE_LEN, [(1, 4)], [0], 2, [fREED_GATE_LEN_UNIT, fREED_GATE_LEN_LEN]⟩
def aREED_GATE_START_LO : Nat := 0x070048
def fREED_GATE_START_LO_COARSE : Fld := ⟨aREED_GATE_START_LO, 35, 10, .rw, .l, .zero, 0⟩
def fREED_GATE_START_LO_FINE : Fld := ⟨aREED_GATE_START_LO, 9, 0, .rw, .l, .zero, 0⟩
def rREED_GATE_START_LO : RegRow := ⟨aREED_GATE_START_LO, [(1, 4)], [0], 2, [fREED_GATE_START_LO_COARSE, fREED_GATE_START_LO_FINE]⟩
def aREED_GATE_START_HI : Nat := 0x07004C
def fREED_GATE_START_HI_EPOCH : Fld := ⟨aREED_GATE_START_HI, 35, 0, .rw, .l, .zero, 0⟩
def rREED_GATE_START_HI : RegRow := ⟨aREED_GATE_START_HI, [(1, 4)], [0], 2, [fREED_GATE_START_HI_EPOCH]⟩
def aREED_GATE_CTRL : Nat := 0x070050
def fREED_GATE_CTRL_ARM : Fld := ⟨aREED_GATE_CTRL, 35, 35, .w1s, .l, .zero, 0⟩
def fREED_GATE_CTRL_OPEN : Fld := ⟨aREED_GATE_CTRL, 34, 34, .w1s, .l, .zero, 0⟩
def fREED_GATE_CTRL_CLOSE : Fld := ⟨aREED_GATE_CTRL, 33, 33, .w1s, .l, .zero, 0⟩
def fREED_GATE_CTRL_STOP : Fld := ⟨aREED_GATE_CTRL, 32, 32, .w1s, .l, .zero, 0⟩
def fREED_GATE_CTRL_IS_OPEN : Fld := ⟨aREED_GATE_CTRL, 31, 31, .ro, .l, .zero, 0⟩
def fREED_GATE_CTRL_LATE : Fld := ⟨aREED_GATE_CTRL, 30, 30, .w1c, .l, .zero, 0⟩
def fREED_GATE_CTRL_SHORT : Fld := ⟨aREED_GATE_CTRL, 29, 29, .w1c, .l, .zero, 0⟩
def fREED_GATE_CTRL_EXTRA : Fld := ⟨aREED_GATE_CTRL, 28, 28, .w1c, .l, .zero, 0⟩
def fREED_GATE_CTRL_CLK_EVT : Fld := ⟨aREED_GATE_CTRL, 27, 27, .w1c, .l, .zero, 0⟩
def fREED_GATE_CTRL_GATES : Fld := ⟨aREED_GATE_CTRL, 15, 0, .rc, .l, .zero, 0⟩
def rREED_GATE_CTRL : RegRow := ⟨aREED_GATE_CTRL, [(1, 4)], [0], 2, [fREED_GATE_CTRL_ARM, fREED_GATE_CTRL_OPEN, fREED_GATE_CTRL_CLOSE, fREED_GATE_CTRL_STOP, fREED_GATE_CTRL_IS_OPEN, fREED_GATE_CTRL_LATE, fREED_GATE_CTRL_SHORT, fREED_GATE_CTRL_EXTRA, fREED_GATE_CTRL_CLK_EVT, fREED_GATE_CTRL_GATES]⟩
def aREED_MU_CFG : Nat := 0x070060
def fREED_MU_CFG_MODE : Fld := ⟨aREED_MU_CFG, 35, 34, .rw, .l, .ret, 0⟩
def fREED_MU_CFG_INA : Fld := ⟨aREED_MU_CFG, 33, 30, .rw, .l, .ret, 0⟩
def fREED_MU_CFG_EDGE_A : Fld := ⟨aREED_MU_CFG, 29, 28, .rw, .l, .ret, 0⟩
def fREED_MU_CFG_INB : Fld := ⟨aREED_MU_CFG, 27, 24, .rw, .l, .ret, 0⟩
def fREED_MU_CFG_EDGE_B : Fld := ⟨aREED_MU_CFG, 23, 22, .rw, .l, .ret, 0⟩
def fREED_MU_CFG_GSEL : Fld := ⟨aREED_MU_CFG, 21, 20, .rw, .l, .ret, 0⟩
def fREED_MU_CFG_PRESCALE : Fld := ⟨aREED_MU_CFG, 19, 4, .rw, .l, .ret, 0⟩
def fREED_MU_CFG_RES_QEN : Fld := ⟨aREED_MU_CFG, 3, 3, .rw, .l, .ret, 0⟩
def fREED_MU_CFG_RES_Q : Fld := ⟨aREED_MU_CFG, 2, 1, .rw, .l, .ret, 0⟩
def rREED_MU_CFG : RegRow := ⟨aREED_MU_CFG, [(1, 4)], [0], 2, [fREED_MU_CFG_MODE, fREED_MU_CFG_INA, fREED_MU_CFG_EDGE_A, fREED_MU_CFG_INB, fREED_MU_CFG_EDGE_B, fREED_MU_CFG_GSEL, fREED_MU_CFG_PRESCALE, fREED_MU_CFG_RES_QEN, fREED_MU_CFG_RES_Q]⟩
def aREED_MU_STATUS : Nat := 0x070064
def fREED_MU_STATUS_NEW : Fld := ⟨aREED_MU_STATUS, 35, 35, .w1c, .l, .zero, 0⟩
def fREED_MU_STATUS_OVERWRITE : Fld := ⟨aREED_MU_STATUS, 34, 34, .w1c, .l, .zero, 0⟩
def fREED_MU_STATUS_INVALID : Fld := ⟨aREED_MU_STATUS, 33, 33, .ro, .l, .zero, 0⟩
def fREED_MU_STATUS_RANGE : Fld := ⟨aREED_MU_STATUS, 32, 32, .ro, .l, .zero, 0⟩
def fREED_MU_STATUS_CLK_EVT : Fld := ⟨aREED_MU_STATUS, 31, 31, .ro, .l, .zero, 0⟩
def fREED_MU_STATUS_ACTIVE : Fld := ⟨aREED_MU_STATUS, 30, 30, .ro, .l, .zero, 0⟩
def fREED_MU_STATUS_UNPAIRED : Fld := ⟨aREED_MU_STATUS, 15, 0, .rc, .l, .zero, 0⟩
def rREED_MU_STATUS : RegRow := ⟨aREED_MU_STATUS, [(1, 4)], [0], 2, [fREED_MU_STATUS_NEW, fREED_MU_STATUS_OVERWRITE, fREED_MU_STATUS_INVALID, fREED_MU_STATUS_RANGE, fREED_MU_STATUS_CLK_EVT, fREED_MU_STATUS_ACTIVE, fREED_MU_STATUS_UNPAIRED]⟩
def aREED_MU_RES : Nat := 0x070100
def fREED_MU_RES_VALUE : Fld := ⟨aREED_MU_RES, 35, 0, .ro, .l, .zero, 0⟩
def rREED_MU_RES : RegRow := ⟨aREED_MU_RES, [(8, 4), (1, 8)], [0], 2, [fREED_MU_RES_VALUE]⟩
def aREED_CD_CTRL : Nat := 0x070070
def fREED_CD_CTRL_GO : Fld := ⟨aREED_CD_CTRL, 35, 35, .w1s, .l, .zero, 0⟩
def fREED_CD_CTRL_ABORT : Fld := ⟨aREED_CD_CTRL, 34, 34, .w1s, .l, .zero, 0⟩
def fREED_CD_CTRL_MASK : Fld := ⟨aREED_CD_CTRL, 33, 18, .rw, .l, .zero, 0⟩
def fREED_CD_CTRL_LOG2N : Fld := ⟨aREED_CD_CTRL, 17, 13, .rw, .l, .zero, 0⟩
def rREED_CD_CTRL : RegRow := ⟨aREED_CD_CTRL, [], [0], 2, [fREED_CD_CTRL_GO, fREED_CD_CTRL_ABORT, fREED_CD_CTRL_MASK, fREED_CD_CTRL_LOG2N]⟩
def aREED_CD_STATUS : Nat := 0x070071
def fREED_CD_STATUS_BUSY : Fld := ⟨aREED_CD_STATUS, 35, 35, .ro, .l, .zero, 0⟩
def fREED_CD_STATUS_DONE : Fld := ⟨aREED_CD_STATUS, 34, 34, .w1c, .l, .zero, 0⟩
def fREED_CD_STATUS_FAIL : Fld := ⟨aREED_CD_STATUS, 33, 33, .w1c, .l, .zero, 0⟩
def fREED_CD_STATUS_REASON : Fld := ⟨aREED_CD_STATUS, 32, 29, .ro, .l, .zero, 0⟩
def fREED_CD_STATUS_CD_MISS : Fld := ⟨aREED_CD_STATUS, 15, 0, .rc, .l, .zero, 0⟩
def rREED_CD_STATUS : RegRow := ⟨aREED_CD_STATUS, [], [0], 2, [fREED_CD_STATUS_BUSY, fREED_CD_STATUS_DONE, fREED_CD_STATUS_FAIL, fREED_CD_STATUS_REASON, fREED_CD_STATUS_CD_MISS]⟩
def aREED_BIN : Nat := 0x071000
def fREED_BIN_W : Fld := ⟨aREED_BIN, 11, 0, .rw, .l, .live, 1024⟩
def rREED_BIN : RegRow := ⟨aREED_BIN, [(128, 16), (64, 2), (1, 64)], [0], 2, [fREED_BIN_W]⟩

/-- Every register word of chapter 08. -/
def regRows08 : List RegRow :=
  [rREED_IN_CFG, rREED_IN_CAL, rREED_IN_STATUS, rREED_Q_CFG, rREED_GATE_CFG, rREED_GATE_LEN, rREED_GATE_START_LO, rREED_GATE_START_HI, rREED_GATE_CTRL, rREED_MU_CFG, rREED_MU_STATUS, rREED_MU_RES, rREED_CD_CTRL, rREED_CD_STATUS, rREED_BIN]

/-! Chapter 09: calibration. -/

def aCAL_CFG : Nat := 0x080000
def fCAL_CFG_STORE : Fld := ⟨aCAL_CFG, 35, 35, .rw, .s, .draft, 0⟩
def fCAL_CFG_DELTA_T : Fld := ⟨aCAL_CFG, 34, 27, .rw, .l, .ret, 32⟩
def fCAL_CFG_INTERP_STEP : Fld := ⟨aCAL_CFG, 26, 21, .rw, .l, .ret, 4⟩
def fCAL_CFG_HANDOVER_LIMIT : Fld := ⟨aCAL_CFG, 20, 13, .rw, .l, .ret, 16⟩
def rCAL_CFG : RegRow := ⟨aCAL_CFG, [], [0], 2, [fCAL_CFG_STORE, fCAL_CFG_DELTA_T, fCAL_CFG_INTERP_STEP, fCAL_CFG_HANDOVER_LIMIT]⟩
def aCAL_CMD : Nat := 0x080001
def fCAL_CMD_GO : Fld := ⟨aCAL_CMD, 35, 35, .w1s, .l, .zero, 0⟩
def fCAL_CMD_ABORT : Fld := ⟨aCAL_CMD, 34, 34, .w1s, .l, .zero, 0⟩
def fCAL_CMD_KIND : Fld := ⟨aCAL_CMD, 33, 31, .rw, .l, .zero, 0⟩
def fCAL_CMD_TARGET : Fld := ⟨aCAL_CMD, 30, 23, .rw, .l, .zero, 0⟩
def fCAL_CMD_MASK : Fld := ⟨aCAL_CMD, 22, 7, .rw, .l, .zero, 0⟩
def rCAL_CMD : RegRow := ⟨aCAL_CMD, [], [0], 2, [fCAL_CMD_GO, fCAL_CMD_ABORT, fCAL_CMD_KIND, fCAL_CMD_TARGET, fCAL_CMD_MASK]⟩
def aCAL_STATUS : Nat := 0x080002
def fCAL_STATUS_BUSY : Fld := ⟨aCAL_STATUS, 35, 35, .ro, .l, .zero, 0⟩
def fCAL_STATUS_KIND : Fld := ⟨aCAL_STATUS, 34, 32, .ro, .l, .zero, 0⟩
def fCAL_STATUS_UNIT : Fld := ⟨aCAL_STATUS, 31, 24, .ro, .l, .zero, 0⟩
def fCAL_STATUS_DONE : Fld := ⟨aCAL_STATUS, 23, 23, .w1c, .l, .zero, 0⟩
def fCAL_STATUS_CAL_FAIL : Fld := ⟨aCAL_STATUS, 22, 22, .w1c, .l, .zero, 0⟩
def fCAL_STATUS_CAL_ABORT : Fld := ⟨aCAL_STATUS, 21, 21, .w1c, .l, .zero, 0⟩
def fCAL_STATUS_REFUSED : Fld := ⟨aCAL_STATUS, 20, 20, .w1c, .l, .zero, 0⟩
def fCAL_STATUS_SKEW_KEPT : Fld := ⟨aCAL_STATUS, 19, 19, .w1c, .l, .zero, 0⟩
def fCAL_STATUS_WR_BUSY : Fld := ⟨aCAL_STATUS, 18, 18, .w1c, .l, .zero, 0⟩
def fCAL_STATUS_REASON : Fld := ⟨aCAL_STATUS, 17, 14, .ro, .l, .zero, 0⟩
def rCAL_STATUS : RegRow := ⟨aCAL_STATUS, [], [0], 2, [fCAL_STATUS_BUSY, fCAL_STATUS_KIND, fCAL_STATUS_UNIT, fCAL_STATUS_DONE, fCAL_STATUS_CAL_FAIL, fCAL_STATUS_CAL_ABORT, fCAL_STATUS_REFUSED, fCAL_STATUS_SKEW_KEPT, fCAL_STATUS_WR_BUSY, fCAL_STATUS_REASON]⟩
def aCAL_DUE : Nat := 0x080003
def fCAL_DUE_BANK : Fld := ⟨aCAL_DUE, 35, 28, .ro, .l, .live, 0⟩
def fCAL_DUE_MOUT : Fld := ⟨aCAL_DUE, 27, 27, .ro, .l, .live, 0⟩
def fCAL_DUE_TI : Fld := ⟨aCAL_DUE, 26, 26, .ro, .l, .live, 0⟩
def fCAL_DUE_RX : Fld := ⟨aCAL_DUE, 25, 25, .ro, .l, .live, 0⟩
def fCAL_DUE_VALID_ALL : Fld := ⟨aCAL_DUE, 24, 24, .ro, .l, .live, 0⟩
def rCAL_DUE : RegRow := ⟨aCAL_DUE, [], [0], 2, [fCAL_DUE_BANK, fCAL_DUE_MOUT, fCAL_DUE_TI, fCAL_DUE_RX, fCAL_DUE_VALID_ALL]⟩
def aCAL_COUNT : Nat := 0x080004
def fCAL_COUNT_RUNS : Fld := ⟨aCAL_COUNT, 35, 18, .ro, .l, .ret, 0⟩
def fCAL_COUNT_FAILS : Fld := ⟨aCAL_COUNT, 17, 9, .ro, .l, .ret, 0⟩
def fCAL_COUNT_ABORTS : Fld := ⟨aCAL_COUNT, 8, 0, .ro, .l, .ret, 0⟩
def rCAL_COUNT : RegRow := ⟨aCAL_COUNT, [], [0], 2, [fCAL_COUNT_RUNS, fCAL_COUNT_FAILS, fCAL_COUNT_ABORTS]⟩
def aCAL_LAST_LO : Nat := 0x080005
def fCAL_LAST_LO_COARSE : Fld := ⟨aCAL_LAST_LO, 35, 10, .ro, .l, .zero, 0⟩
def fCAL_LAST_LO_FINE : Fld := ⟨aCAL_LAST_LO, 9, 0, .ro, .l, .zero, 0⟩
def rCAL_LAST_LO : RegRow := ⟨aCAL_LAST_LO, [], [0], 2, [fCAL_LAST_LO_COARSE, fCAL_LAST_LO_FINE]⟩
def aCAL_LAST_HI : Nat := 0x080006
def fCAL_LAST_HI_EPOCH : Fld := ⟨aCAL_LAST_HI, 35, 0, .ro, .l, .zero, 0⟩
def rCAL_LAST_HI : RegRow := ⟨aCAL_LAST_HI, [], [0], 2, [fCAL_LAST_HI_EPOCH]⟩
def aCAL_LAST_TEMP : Nat := 0x080007
def fCAL_LAST_TEMP_TEMP : Fld := ⟨aCAL_LAST_TEMP, 35, 24, .ro, .l, .ret, 0⟩
def rCAL_LAST_TEMP : RegRow := ⟨aCAL_LAST_TEMP, [], [0], 2, [fCAL_LAST_TEMP_TEMP]⟩
def aCAL_TEMP : Nat := 0x080008
def fCAL_TEMP_NOW : Fld := ⟨aCAL_TEMP, 35, 24, .ro, .l, .live, 0⟩
def fCAL_TEMP_INTERP : Fld := ⟨aCAL_TEMP, 23, 12, .ro, .l, .live, 0⟩
def rCAL_TEMP : RegRow := ⟨aCAL_TEMP, [], [0], 2, [fCAL_TEMP_NOW, fCAL_TEMP_INTERP]⟩
def aCAL_DISCARD : Nat := 0x080009
def fCAL_DISCARD_DISCARD : Fld := ⟨aCAL_DISCARD, 15, 0, .rc, .l, .zero, 0⟩
def rCAL_DISCARD : RegRow := ⟨aCAL_DISCARD, [], [0], 2, [fCAL_DISCARD_DISCARD]⟩
def aGENREC_TAP : Nat := 0xA00000
def fGENREC_TAP_C0 : Fld := ⟨aGENREC_TAP, 13, 7, .rw, .l, .live, 0⟩
def fGENREC_TAP_C1 : Fld := ⟨aGENREC_TAP, 6, 0, .rw, .l, .live, 0⟩
def rGENREC_TAP : RegRow := ⟨aGENREC_TAP, [(16384, 104), (2048, 8), (1, 1024)], [0], 1, [fGENREC_TAP_C0, fGENREC_TAP_C1]⟩
def aGENREC_HDR : Nat := 0xA00400
def fGENREC_HDR_VALID : Fld := ⟨aGENREC_HDR, 35, 35, .rw, .l, .live, 0⟩
def fGENREC_HDR_TEMP : Fld := ⟨aGENREC_HDR, 34, 23, .rw, .l, .live, 0⟩
def fGENREC_HDR_SKEW : Fld := ⟨aGENREC_HDR, 22, 13, .rw, .l, .live, 0⟩
def fGENREC_HDR_ECHO_OFS : Fld := ⟨aGENREC_HDR, 12, 3, .rw, .l, .live, 0⟩
def rGENREC_HDR : RegRow := ⟨aGENREC_HDR, [(16384, 104), (2048, 8)], [0], 1, [fGENREC_HDR_VALID, fGENREC_HDR_TEMP, fGENREC_HDR_SKEW, fGENREC_HDR_ECHO_OFS]⟩
def aTIREC_W : Nat := 0xBA0000
def fTIREC_W_W : Fld := ⟨aTIREC_W, 35, 0, .rw, .l, .live, 0⟩
def rTIREC_W : RegRow := ⟨aTIREC_W, [(2048, 16), (256, 8), (1, 128)], [0], 1, [fTIREC_W_W]⟩
def aTIREC_HDR : Nat := 0xBA0080
def fTIREC_HDR_VALID : Fld := ⟨aTIREC_HDR, 35, 35, .rw, .l, .live, 0⟩
def fTIREC_HDR_TEMP : Fld := ⟨aTIREC_HDR, 34, 23, .rw, .l, .live, 0⟩
def fTIREC_HDR_RANKB : Fld := ⟨aTIREC_HDR, 22, 11, .rw, .l, .live, 0⟩
def rTIREC_HDR : RegRow := ⟨aTIREC_HDR, [(2048, 16), (256, 8)], [0], 1, [fTIREC_HDR_VALID, fTIREC_HDR_TEMP, fTIREC_HDR_RANKB]⟩
def aTIREC_DELAY : Nat := 0xBA0081
def fTIREC_DELAY_DELAY : Fld := ⟨aTIREC_DELAY, 35, 18, .rw, .l, .live, 0⟩
def rTIREC_DELAY : RegRow := ⟨aTIREC_DELAY, [(2048, 16), (256, 8)], [0], 1, [fTIREC_DELAY_DELAY]⟩

/-- Every register word of chapter 09. -/
def regRows09 : List RegRow :=
  [rCAL_CFG, rCAL_CMD, rCAL_STATUS, rCAL_DUE, rCAL_COUNT, rCAL_LAST_LO, rCAL_LAST_HI, rCAL_LAST_TEMP, rCAL_TEMP, rCAL_DISCARD, rGENREC_TAP, rGENREC_HDR, rTIREC_W, rTIREC_HDR, rTIREC_DELAY]

/-! Chapter 10: receive and Weft. -/

def aRXW_LINK_CFG : Nat := 0x090000
def fRXW_LINK_CFG_RXSET : Fld := ⟨aRXW_LINK_CFG, 35, 34, .rw, .s, .draft, 0⟩
def fRXW_LINK_CFG_RATIO : Fld := ⟨aRXW_LINK_CFG, 33, 32, .rw, .s, .draft, 0⟩
def fRXW_LINK_CFG_RES : Fld := ⟨aRXW_LINK_CFG, 31, 30, .rw, .s, .draft, 0⟩
def fRXW_LINK_CFG_CS : Fld := ⟨aRXW_LINK_CFG, 29, 28, .rw, .s, .draft, 0⟩
def fRXW_LINK_CFG_RELEASE : Fld := ⟨aRXW_LINK_CFG, 27, 16, .rw, .s, .draft, 0⟩
def rRXW_LINK_CFG : RegRow := ⟨aRXW_LINK_CFG, [(1, 2)], [3], 7, [fRXW_LINK_CFG_RXSET, fRXW_LINK_CFG_RATIO, fRXW_LINK_CFG_RES, fRXW_LINK_CFG_CS, fRXW_LINK_CFG_RELEASE]⟩
def aRXW_LINK_CTRL : Nat := 0x090002
def fRXW_LINK_CTRL_LINK_EN : Fld := ⟨aRXW_LINK_CTRL, 35, 35, .rw, .l, .ret, 0⟩
def rRXW_LINK_CTRL : RegRow := ⟨aRXW_LINK_CTRL, [(1, 2)], [3], 7, [fRXW_LINK_CTRL_LINK_EN]⟩
def aRXW_LINK_STATUS : Nat := 0x090004
def fRXW_LINK_STATUS_STATE : Fld := ⟨aRXW_LINK_STATUS, 35, 34, .ro, .l, .zero, 0⟩
def fRXW_LINK_STATUS_CLK_ERR : Fld := ⟨aRXW_LINK_STATUS, 33, 33, .w1c, .l, .zero, 0⟩
def fRXW_LINK_STATUS_CRC_ERR : Fld := ⟨aRXW_LINK_STATUS, 32, 32, .w1c, .l, .zero, 0⟩
def fRXW_LINK_STATUS_LOCK_ERR : Fld := ⟨aRXW_LINK_STATUS, 31, 31, .w1c, .l, .zero, 0⟩
def fRXW_LINK_STATUS_RELEASE_ERR : Fld := ⟨aRXW_LINK_STATUS, 30, 30, .w1c, .l, .zero, 0⟩
def fRXW_LINK_STATUS_ARRIVE_MIN : Fld := ⟨aRXW_LINK_STATUS, 29, 18, .ro, .l, .zero, 0⟩
def fRXW_LINK_STATUS_CRC_COUNT : Fld := ⟨aRXW_LINK_STATUS, 17, 0, .rc, .l, .zero, 0⟩
def rRXW_LINK_STATUS : RegRow := ⟨aRXW_LINK_STATUS, [(1, 2)], [4], 7, [fRXW_LINK_STATUS_STATE, fRXW_LINK_STATUS_CLK_ERR, fRXW_LINK_STATUS_CRC_ERR, fRXW_LINK_STATUS_LOCK_ERR, fRXW_LINK_STATUS_RELEASE_ERR, fRXW_LINK_STATUS_ARRIVE_MIN, fRXW_LINK_STATUS_CRC_COUNT]⟩
def aRXW_LANE_STATUS : Nat := 0x090010
def fRXW_LANE_STATUS_LOCK : Fld := ⟨aRXW_LANE_STATUS, 35, 35, .ro, .l, .zero, 0⟩
def fRXW_LANE_STATUS_EMB_LOCK : Fld := ⟨aRXW_LANE_STATUS, 34, 34, .ro, .l, .zero, 0⟩
def fRXW_LANE_STATUS_LOCK_LOSS : Fld := ⟨aRXW_LANE_STATUS, 23, 12, .rc, .l, .zero, 0⟩
def fRXW_LANE_STATUS_CRC_ERRS : Fld := ⟨aRXW_LANE_STATUS, 11, 0, .rc, .l, .zero, 0⟩
def rRXW_LANE_STATUS : RegRow := ⟨aRXW_LANE_STATUS, [(1, 12)], [4], 7, [fRXW_LANE_STATUS_LOCK, fRXW_LANE_STATUS_EMB_LOCK, fRXW_LANE_STATUS_LOCK_LOSS, fRXW_LANE_STATUS_CRC_ERRS]⟩
def aRXW_CORR_OG : Nat := 0x090020
def fRXW_CORR_OG_OFS : Fld := ⟨aRXW_CORR_OG, 35, 20, .ro, .l, .live, 0⟩
def fRXW_CORR_OG_GAIN : Fld := ⟨aRXW_CORR_OG, 19, 2, .ro, .l, .live, 0⟩
def rRXW_CORR_OG : RegRow := ⟨aRXW_CORR_OG, [(1, 8)], [4], 7, [fRXW_CORR_OG_OFS, fRXW_CORR_OG_GAIN]⟩
def aRXW_CORR_XS : Nat := 0x090028
def fRXW_CORR_XS_XT : Fld := ⟨aRXW_CORR_XS, 35, 18, .ro, .l, .live, 0⟩
def fRXW_CORR_XS_SKEW : Fld := ⟨aRXW_CORR_XS, 17, 7, .ro, .l, .live, 0⟩
def rRXW_CORR_XS : RegRow := ⟨aRXW_CORR_XS, [(1, 8)], [4], 7, [fRXW_CORR_XS_XT, fRXW_CORR_XS_SKEW]⟩
def aRXW_SPARE_CTRL : Nat := 0x090030
def fRXW_SPARE_CTRL_CHECK_EN : Fld := ⟨aRXW_SPARE_CTRL, 35, 35, .rw, .l, .ret, 1⟩
def fRXW_SPARE_CTRL_FO_EN : Fld := ⟨aRXW_SPARE_CTRL, 34, 34, .rw, .l, .ret, 0⟩
def fRXW_SPARE_CTRL_FO_FORCE : Fld := ⟨aRXW_SPARE_CTRL, 33, 33, .w1s, .l, .zero, 0⟩
def fRXW_SPARE_CTRL_FO_RELEASE : Fld := ⟨aRXW_SPARE_CTRL, 32, 32, .w1s, .l, .zero, 0⟩
def fRXW_SPARE_CTRL_CLEAR_FAULTY : Fld := ⟨aRXW_SPARE_CTRL, 31, 31, .w1s, .l, .zero, 0⟩
def fRXW_SPARE_CTRL_POS : Fld := ⟨aRXW_SPARE_CTRL, 30, 27, .rw, .l, .zero, 0⟩
def fRXW_SPARE_CTRL_DWELL : Fld := ⟨aRXW_SPARE_CTRL, 26, 17, .rw, .l, .ret, 1000⟩
def rRXW_SPARE_CTRL : RegRow := ⟨aRXW_SPARE_CTRL, [], [4], 7, [fRXW_SPARE_CTRL_CHECK_EN, fRXW_SPARE_CTRL_FO_EN, fRXW_SPARE_CTRL_FO_FORCE, fRXW_SPARE_CTRL_FO_RELEASE, fRXW_SPARE_CTRL_CLEAR_FAULTY, fRXW_SPARE_CTRL_POS, fRXW_SPARE_CTRL_DWELL]⟩
def aRXW_SPARE_STATUS : Nat := 0x090031
def fRXW_SPARE_STATUS_ROLE : Fld := ⟨aRXW_SPARE_STATUS, 35, 33, .ro, .l, .zero, 0⟩
def fRXW_SPARE_STATUS_POS : Fld := ⟨aRXW_SPARE_STATUS, 32, 29, .ro, .l, .zero, 0⟩
def fRXW_SPARE_STATUS_MISMATCH : Fld := ⟨aRXW_SPARE_STATUS, 28, 28, .w1c, .l, .zero, 0⟩
def fRXW_SPARE_STATUS_SPARE_FAULTY : Fld := ⟨aRXW_SPARE_STATUS, 27, 27, .ro, .l, .ret, 0⟩
def fRXW_SPARE_STATUS_FO_ACTIVE : Fld := ⟨aRXW_SPARE_STATUS, 26, 26, .ro, .l, .zero, 0⟩
def fRXW_SPARE_STATUS_CHECK_LOST : Fld := ⟨aRXW_SPARE_STATUS, 25, 25, .ro, .l, .zero, 0⟩
def fRXW_SPARE_STATUS_FO_UNAVAIL : Fld := ⟨aRXW_SPARE_STATUS, 24, 24, .w1c, .l, .zero, 0⟩
def fRXW_SPARE_STATUS_CYCLES : Fld := ⟨aRXW_SPARE_STATUS, 15, 0, .rc, .l, .zero, 0⟩
def rRXW_SPARE_STATUS : RegRow := ⟨aRXW_SPARE_STATUS, [], [4], 7, [fRXW_SPARE_STATUS_ROLE, fRXW_SPARE_STATUS_POS, fRXW_SPARE_STATUS_MISMATCH, fRXW_SPARE_STATUS_SPARE_FAULTY, fRXW_SPARE_STATUS_FO_ACTIVE, fRXW_SPARE_STATUS_CHECK_LOST, fRXW_SPARE_STATUS_FO_UNAVAIL, fRXW_SPARE_STATUS_CYCLES]⟩
def aRXW_SLICE_STATUS : Nat := 0x090032
def fRXW_SLICE_STATUS_FAULTY : Fld := ⟨aRXW_SLICE_STATUS, 35, 28, .ro, .l, .ret, 0⟩
def fRXW_SLICE_STATUS_PLAUS : Fld := ⟨aRXW_SLICE_STATUS, 27, 20, .w1c, .l, .zero, 0⟩
def fRXW_SLICE_STATUS_STUCK : Fld := ⟨aRXW_SLICE_STATUS, 19, 12, .w1c, .l, .zero, 0⟩
def fRXW_SLICE_STATUS_OVR : Fld := ⟨aRXW_SLICE_STATUS, 11, 4, .w1c, .l, .zero, 0⟩
def fRXW_SLICE_STATUS_SPARE_PLAUS : Fld := ⟨aRXW_SLICE_STATUS, 3, 3, .w1c, .l, .zero, 0⟩
def rRXW_SLICE_STATUS : RegRow := ⟨aRXW_SLICE_STATUS, [], [4], 7, [fRXW_SLICE_STATUS_FAULTY, fRXW_SLICE_STATUS_PLAUS, fRXW_SLICE_STATUS_STUCK, fRXW_SLICE_STATUS_OVR, fRXW_SLICE_STATUS_SPARE_PLAUS]⟩
def aRXW_SHOT_CFG : Nat := 0x090034
def fRXW_SHOT_CFG_RANGE_LEN : Fld := ⟨aRXW_SHOT_CFG, 35, 17, .rw, .d, .ret, 0⟩
def rRXW_SHOT_CFG : RegRow := ⟨aRXW_SHOT_CFG, [(1, 2)], [4], 4, [fRXW_SHOT_CFG_RANGE_LEN]⟩
def aRXW_ZERO_OFS : Nat := 0x090036
def fRXW_ZERO_OFS_COARSE : Fld := ⟨aRXW_ZERO_OFS, 35, 10, .rw, .d, .ret, 0⟩
def fRXW_ZERO_OFS_FINE : Fld := ⟨aRXW_ZERO_OFS, 9, 0, .rw, .d, .ret, 0⟩
def rRXW_ZERO_OFS : RegRow := ⟨aRXW_ZERO_OFS, [(1, 2)], [4], 4, [fRXW_ZERO_OFS_COARSE, fRXW_ZERO_OFS_FINE]⟩
def aRXW_DIAG_CFG : Nat := 0x090038
def fRXW_DIAG_CFG_EN : Fld := ⟨aRXW_DIAG_CFG, 35, 35, .rw, .l, .zero, 0⟩
def fRXW_DIAG_CFG_FIBRE : Fld := ⟨aRXW_DIAG_CFG, 34, 34, .rw, .l, .zero, 0⟩
def fRXW_DIAG_CFG_TONE : Fld := ⟨aRXW_DIAG_CFG, 33, 30, .rw, .l, .zero, 0⟩
def rRXW_DIAG_CFG : RegRow := ⟨aRXW_DIAG_CFG, [], [4], 4, [fRXW_DIAG_CFG_EN, fRXW_DIAG_CFG_FIBRE, fRXW_DIAG_CFG_TONE]⟩
def aRXW_DIAG_PEAK : Nat := 0x090039
def fRXW_DIAG_PEAK_LAG : Fld := ⟨aRXW_DIAG_PEAK, 35, 24, .ro, .l, .zero, 0⟩
def fRXW_DIAG_PEAK_FRAC : Fld := ⟨aRXW_DIAG_PEAK, 23, 18, .ro, .l, .zero, 0⟩
def fRXW_DIAG_PEAK_MAG : Fld := ⟨aRXW_DIAG_PEAK, 17, 0, .ro, .l, .zero, 0⟩
def rRXW_DIAG_PEAK : RegRow := ⟨aRXW_DIAG_PEAK, [], [4], 4, [fRXW_DIAG_PEAK_LAG, fRXW_DIAG_PEAK_FRAC, fRXW_DIAG_PEAK_MAG]⟩
def aRXW_WEFT_STATUS : Nat := 0x090040
def fRXW_WEFT_STATUS_DEGRADED : Fld := ⟨aRXW_WEFT_STATUS, 35, 35, .ro, .l, .zero, 0⟩
def fRXW_WEFT_STATUS_RESIDUE : Fld := ⟨aRXW_WEFT_STATUS, 34, 34, .w1c, .l, .zero, 0⟩
def fRXW_WEFT_STATUS_ECC_DBE : Fld := ⟨aRXW_WEFT_STATUS, 33, 33, .w1c, .l, .zero, 0⟩
def fRXW_WEFT_STATUS_BLOCK_DROP : Fld := ⟨aRXW_WEFT_STATUS, 32, 32, .w1c, .l, .zero, 0⟩
def fRXW_WEFT_STATUS_CFG_BUSY : Fld := ⟨aRXW_WEFT_STATUS, 31, 31, .w1c, .l, .zero, 0⟩
def fRXW_WEFT_STATUS_APPLY_WAIT : Fld := ⟨aRXW_WEFT_STATUS, 30, 30, .ro, .l, .zero, 0⟩
def fRXW_WEFT_STATUS_FRACTION : Fld := ⟨aRXW_WEFT_STATUS, 29, 20, .ro, .l, .zero, 0⟩
def rRXW_WEFT_STATUS : RegRow := ⟨aRXW_WEFT_STATUS, [], [4], 4, [fRXW_WEFT_STATUS_DEGRADED, fRXW_WEFT_STATUS_RESIDUE, fRXW_WEFT_STATUS_ECC_DBE, fRXW_WEFT_STATUS_BLOCK_DROP, fRXW_WEFT_STATUS_CFG_BUSY, fRXW_WEFT_STATUS_APPLY_WAIT, fRXW_WEFT_STATUS_FRACTION]⟩
def aRXW_WEFT_COUNT : Nat := 0x090041
def fRXW_WEFT_COUNT_BLOCK_DROPS : Fld := ⟨aRXW_WEFT_COUNT, 35, 18, .rc, .l, .zero, 0⟩
def fRXW_WEFT_COUNT_RESID_ERRS : Fld := ⟨aRXW_WEFT_COUNT, 17, 9, .rc, .l, .zero, 0⟩
def fRXW_WEFT_COUNT_DBE_ERRS : Fld := ⟨aRXW_WEFT_COUNT, 8, 0, .rc, .l, .zero, 0⟩
def rRXW_WEFT_COUNT : RegRow := ⟨aRXW_WEFT_COUNT, [], [4], 4, [fRXW_WEFT_COUNT_BLOCK_DROPS, fRXW_WEFT_COUNT_RESID_ERRS, fRXW_WEFT_COUNT_DBE_ERRS]⟩
def aRXW_RESID_FIRST : Nat := 0x090042
def fRXW_RESID_FIRST_VALID : Fld := ⟨aRXW_RESID_FIRST, 35, 35, .w1c, .l, .zero, 0⟩
def fRXW_RESID_FIRST_CLUSTER : Fld := ⟨aRXW_RESID_FIRST, 34, 29, .ro, .l, .zero, 0⟩
def fRXW_RESID_FIRST_STAGE : Fld := ⟨aRXW_RESID_FIRST, 28, 25, .ro, .l, .zero, 0⟩
def fRXW_RESID_FIRST_FIBRE : Fld := ⟨aRXW_RESID_FIRST, 24, 24, .ro, .l, .zero, 0⟩
def fRXW_RESID_FIRST_SHOT : Fld := ⟨aRXW_RESID_FIRST, 23, 6, .ro, .l, .zero, 0⟩
def rRXW_RESID_FIRST : RegRow := ⟨aRXW_RESID_FIRST, [], [4], 4, [fRXW_RESID_FIRST_VALID, fRXW_RESID_FIRST_CLUSTER, fRXW_RESID_FIRST_STAGE, fRXW_RESID_FIRST_FIBRE, fRXW_RESID_FIRST_SHOT]⟩
def aRXW_APPLY : Nat := 0x090043
def fRXW_APPLY_GO : Fld := ⟨aRXW_APPLY, 35, 35, .w1s, .l, .zero, 0⟩
def fRXW_APPLY_FIBRE_MASK : Fld := ⟨aRXW_APPLY, 34, 33, .rw, .l, .zero, 0⟩
def rRXW_APPLY : RegRow := ⟨aRXW_APPLY, [], [4], 4, [fRXW_APPLY_GO, fRXW_APPLY_FIBRE_MASK]⟩
def aRXW_TAPPLY_LO : Nat := 0x090044
def fRXW_TAPPLY_LO_COARSE : Fld := ⟨aRXW_TAPPLY_LO, 35, 10, .rw, .l, .zero, 0⟩
def fRXW_TAPPLY_LO_FINE : Fld := ⟨aRXW_TAPPLY_LO, 9, 0, .rw, .l, .zero, 0⟩
def rRXW_TAPPLY_LO : RegRow := ⟨aRXW_TAPPLY_LO, [], [4], 4, [fRXW_TAPPLY_LO_COARSE, fRXW_TAPPLY_LO_FINE]⟩
def aRXW_TAPPLY_HI : Nat := 0x090045
def fRXW_TAPPLY_HI_EPOCH : Fld := ⟨aRXW_TAPPLY_HI, 35, 0, .rw, .l, .zero, 0⟩
def rRXW_TAPPLY_HI : RegRow := ⟨aRXW_TAPPLY_HI, [], [4], 4, [fRXW_TAPPLY_HI_EPOCH]⟩
def aRXW_TAPPLY_CTRL : Nat := 0x090046
def fRXW_TAPPLY_CTRL_ARM : Fld := ⟨aRXW_TAPPLY_CTRL, 35, 35, .w1s, .l, .zero, 0⟩
def fRXW_TAPPLY_CTRL_FIBRE_MASK : Fld := ⟨aRXW_TAPPLY_CTRL, 34, 33, .rw, .l, .zero, 0⟩
def fRXW_TAPPLY_CTRL_PENDING : Fld := ⟨aRXW_TAPPLY_CTRL, 32, 32, .ro, .l, .zero, 0⟩
def fRXW_TAPPLY_CTRL_DONE : Fld := ⟨aRXW_TAPPLY_CTRL, 31, 31, .w1c, .l, .zero, 0⟩
def fRXW_TAPPLY_CTRL_CANCEL : Fld := ⟨aRXW_TAPPLY_CTRL, 30, 30, .w1s, .l, .zero, 0⟩
def fRXW_TAPPLY_CTRL_ARM_BUSY : Fld := ⟨aRXW_TAPPLY_CTRL, 29, 29, .w1c, .l, .zero, 0⟩
def rRXW_TAPPLY_CTRL : RegRow := ⟨aRXW_TAPPLY_CTRL, [], [4], 4, [fRXW_TAPPLY_CTRL_ARM, fRXW_TAPPLY_CTRL_FIBRE_MASK, fRXW_TAPPLY_CTRL_PENDING, fRXW_TAPPLY_CTRL_DONE, fRXW_TAPPLY_CTRL_CANCEL, fRXW_TAPPLY_CTRL_ARM_BUSY]⟩
def aRXW_SHOT_COUNT : Nat := 0x090048
def fRXW_SHOT_COUNT_SHOTS : Fld := ⟨aRXW_SHOT_COUNT, 35, 18, .rc, .l, .zero, 0⟩
def fRXW_SHOT_COUNT_NO_CODE : Fld := ⟨aRXW_SHOT_COUNT, 17, 0, .rc, .l, .zero, 0⟩
def rRXW_SHOT_COUNT : RegRow := ⟨aRXW_SHOT_COUNT, [(1, 2)], [4], 4, [fRXW_SHOT_COUNT_SHOTS, fRXW_SHOT_COUNT_NO_CODE]⟩
def aRXW_CLUSTER : Nat := 0x090080
def fRXW_CLUSTER_LOAD : Fld := ⟨aRXW_CLUSTER, 35, 26, .ro, .s, .draft, 0⟩
def fRXW_CLUSTER_MEM : Fld := ⟨aRXW_CLUSTER, 25, 18, .ro, .s, .draft, 0⟩
def fRXW_CLUSTER_STAGE : Fld := ⟨aRXW_CLUSTER, 17, 14, .ro, .s, .draft, 0⟩
def fRXW_CLUSTER_FIBRE : Fld := ⟨aRXW_CLUSTER, 13, 13, .ro, .s, .draft, 0⟩
def rRXW_CLUSTER : RegRow := ⟨aRXW_CLUSTER, [(1, 64)], [4], 4, [fRXW_CLUSTER_LOAD, fRXW_CLUSTER_MEM, fRXW_CLUSTER_STAGE, fRXW_CLUSTER_FIBRE]⟩
def aRXREC_W0 : Nat := 0xBB0000
def fRXREC_W0_VALID : Fld := ⟨aRXREC_W0, 35, 35, .rw, .l, .live, 0⟩
def fRXREC_W0_TEMP : Fld := ⟨aRXREC_W0, 34, 23, .rw, .l, .live, 0⟩
def rRXREC_W0 : RegRow := ⟨aRXREC_W0, [(64, 9), (4, 8)], [4], 1, [fRXREC_W0_VALID, fRXREC_W0_TEMP]⟩
def aRXREC_W1 : Nat := 0xBB0001
def fRXREC_W1_OFS : Fld := ⟨aRXREC_W1, 35, 20, .rw, .l, .live, 0⟩
def fRXREC_W1_GAIN : Fld := ⟨aRXREC_W1, 19, 2, .rw, .l, .live, 0⟩
def rRXREC_W1 : RegRow := ⟨aRXREC_W1, [(64, 9), (4, 8)], [4], 1, [fRXREC_W1_OFS, fRXREC_W1_GAIN]⟩
def aRXREC_W2 : Nat := 0xBB0002
def fRXREC_W2_XT : Fld := ⟨aRXREC_W2, 35, 18, .rw, .l, .live, 0⟩
def fRXREC_W2_SKEW : Fld := ⟨aRXREC_W2, 17, 7, .rw, .l, .live, 0⟩
def rRXREC_W2 : RegRow := ⟨aRXREC_W2, [(64, 9), (4, 8)], [4], 1, [fRXREC_W2_XT, fRXREC_W2_SKEW]⟩

/-- Every register word of chapter 10. -/
def regRows10 : List RegRow :=
  [rRXW_LINK_CFG, rRXW_LINK_CTRL, rRXW_LINK_STATUS, rRXW_LANE_STATUS, rRXW_CORR_OG, rRXW_CORR_XS, rRXW_SPARE_CTRL, rRXW_SPARE_STATUS, rRXW_SLICE_STATUS, rRXW_SHOT_CFG, rRXW_ZERO_OFS, rRXW_DIAG_CFG, rRXW_DIAG_PEAK, rRXW_WEFT_STATUS, rRXW_WEFT_COUNT, rRXW_RESID_FIRST, rRXW_APPLY, rRXW_TAPPLY_LO, rRXW_TAPPLY_HI, rRXW_TAPPLY_CTRL, rRXW_SHOT_COUNT, rRXW_CLUSTER, rRXREC_W0, rRXREC_W1] ++
  [rRXREC_W2]

end Sys2Proof.Machine
end

