-- ==== Sys2Proof/Machine/RegsC.lean ====
section
/-! DEFINITION. The register map, part C: for every register word the manual lists, its base address, the layout of its
array, its owning islands and power domain, and every field with its bits, access type, change class, restore attribute and
start value (chapters 11, 12, 13, 14, 15, sections "Registers"; R474 gives the owners, R539 the domains). -/

namespace Sys2Proof.Machine

/-! Chapter 11: results. -/

def aRES_GAUGE_CFG : Nat := 0x0A0000
def fRES_GAUGE_CFG_NG : Fld := ⟨aRES_GAUGE_CFG, 35, 18, .rw, .s, .draft, 0⟩
def fRES_GAUGE_CFG_PITCH : Fld := ⟨aRES_GAUGE_CFG, 17, 2, .rw, .s, .draft, 0⟩
def rRES_GAUGE_CFG : RegRow := ⟨aRES_GAUGE_CFG, [(1, 2)], [4], 4, [fRES_GAUGE_CFG_NG, fRES_GAUGE_CFG_PITCH]⟩
def aRES_GAUGE_POS : Nat := 0x0A0002
def fRES_GAUGE_POS_X0 : Fld := ⟨aRES_GAUGE_POS, 35, 12, .rw, .d, .ret, 0⟩
def rRES_GAUGE_POS : RegRow := ⟨aRES_GAUGE_POS, [(1, 2)], [4], 4, [fRES_GAUGE_POS_X0]⟩
def aRES_GAUGE_CTRL : Nat := 0x0A0004
def fRES_GAUGE_CTRL_GL : Fld := ⟨aRES_GAUGE_CTRL, 35, 20, .rw, .d, .ret, 640⟩
def fRES_GAUGE_CTRL_FADE_MIN : Fld := ⟨aRES_GAUGE_CTRL, 19, 4, .rw, .d, .ret, 16⟩
def fRES_GAUGE_CTRL_OFS_SHIFT : Fld := ⟨aRES_GAUGE_CTRL, 3, 0, .rw, .d, .ret, 10⟩
def rRES_GAUGE_CTRL : RegRow := ⟨aRES_GAUGE_CTRL, [(1, 2)], [4], 4, [fRES_GAUGE_CTRL_GL, fRES_GAUGE_CTRL_FADE_MIN, fRES_GAUGE_CTRL_OFS_SHIFT]⟩
def aRES_FIBRE_CFG : Nat := 0x0A0006
def fRES_FIBRE_CFG_N_GROUP : Fld := ⟨aRES_FIBRE_CFG, 35, 20, .rw, .s, .draft, 0⟩
def fRES_FIBRE_CFG_EVT_EN : Fld := ⟨aRES_FIBRE_CFG, 19, 19, .rw, .s, .draft, 0⟩
def fRES_FIBRE_CFG_EVT_QUEUE : Fld := ⟨aRES_FIBRE_CFG, 18, 7, .rw, .s, .draft, 0⟩
def rRES_FIBRE_CFG : RegRow := ⟨aRES_FIBRE_CFG, [(1, 2)], [4], 4, [fRES_FIBRE_CFG_N_GROUP, fRES_FIBRE_CFG_EVT_EN, fRES_FIBRE_CFG_EVT_QUEUE]⟩
def aRES_FIBRE_STATUS : Nat := 0x0A0008
def fRES_FIBRE_STATUS_GAUGE_RANGE : Fld := ⟨aRES_FIBRE_STATUS, 35, 35, .w1c, .l, .zero, 0⟩
def fRES_FIBRE_STATUS_FRAME_DROP : Fld := ⟨aRES_FIBRE_STATUS, 34, 34, .w1c, .l, .zero, 0⟩
def fRES_FIBRE_STATUS_EVT_DROP : Fld := ⟨aRES_FIBRE_STATUS, 33, 33, .w1c, .l, .zero, 0⟩
def fRES_FIBRE_STATUS_CLAMP : Fld := ⟨aRES_FIBRE_STATUS, 32, 32, .w1c, .l, .zero, 0⟩
def rRES_FIBRE_STATUS : RegRow := ⟨aRES_FIBRE_STATUS, [(1, 2)], [4], 4, [fRES_FIBRE_STATUS_GAUGE_RANGE, fRES_FIBRE_STATUS_FRAME_DROP, fRES_FIBRE_STATUS_EVT_DROP, fRES_FIBRE_STATUS_CLAMP]⟩
def aRES_FIBRE_COUNT : Nat := 0x0A000A
def fRES_FIBRE_COUNT_NO_PHASE : Fld := ⟨aRES_FIBRE_COUNT, 35, 18, .rc, .l, .zero, 0⟩
def fRES_FIBRE_COUNT_FRAME_DROPS : Fld := ⟨aRES_FIBRE_COUNT, 17, 0, .rc, .l, .zero, 0⟩
def rRES_FIBRE_COUNT : RegRow := ⟨aRES_FIBRE_COUNT, [(1, 2)], [4], 4, [fRES_FIBRE_COUNT_NO_PHASE, fRES_FIBRE_COUNT_FRAME_DROPS]⟩
def aRES_STREAM_CFG : Nat := 0x0A0010
def fRES_STREAM_CFG_EN : Fld := ⟨aRES_STREAM_CFG, 35, 35, .rw, .l, .ret, 0⟩
def fRES_STREAM_CFG_FIBRE : Fld := ⟨aRES_STREAM_CFG, 34, 34, .rw, .s, .draft, 0⟩
def fRES_STREAM_CFG_SRC : Fld := ⟨aRES_STREAM_CFG, 33, 31, .rw, .s, .draft, 0⟩
def fRES_STREAM_CFG_FORM : Fld := ⟨aRES_STREAM_CFG, 30, 30, .rw, .s, .draft, 0⟩
def fRES_STREAM_CFG_BAND : Fld := ⟨aRES_STREAM_CFG, 29, 27, .rw, .s, .draft, 0⟩
def fRES_STREAM_CFG_QUEUE : Fld := ⟨aRES_STREAM_CFG, 26, 15, .rw, .s, .draft, 0⟩
def fRES_STREAM_CFG_FRAME_LEN : Fld := ⟨aRES_STREAM_CFG, 14, 2, .rw, .s, .draft, 0⟩
def rRES_STREAM_CFG : RegRow := ⟨aRES_STREAM_CFG, [(1, 16)], [4], 4, [fRES_STREAM_CFG_EN, fRES_STREAM_CFG_FIBRE, fRES_STREAM_CFG_SRC, fRES_STREAM_CFG_FORM, fRES_STREAM_CFG_BAND, fRES_STREAM_CFG_QUEUE, fRES_STREAM_CFG_FRAME_LEN]⟩
def aRES_STREAM_WIN : Nat := 0x0A0020
def fRES_STREAM_WIN_FIRST : Fld := ⟨aRES_STREAM_WIN, 35, 19, .rw, .d, .ret, 0⟩
def fRES_STREAM_WIN_COUNT : Fld := ⟨aRES_STREAM_WIN, 18, 1, .rw, .d, .ret, 0⟩
def rRES_STREAM_WIN : RegRow := ⟨aRES_STREAM_WIN, [(1, 16)], [4], 4, [fRES_STREAM_WIN_FIRST, fRES_STREAM_WIN_COUNT]⟩
def aRES_DEC_CFG : Nat := 0x0A0030
def fRES_DEC_CFG_FACTOR : Fld := ⟨aRES_DEC_CFG, 35, 24, .rw, .s, .draft, 0⟩
def fRES_DEC_CFG_NTAPS : Fld := ⟨aRES_DEC_CFG, 23, 14, .rw, .s, .draft, 0⟩
def rRES_DEC_CFG : RegRow := ⟨aRES_DEC_CFG, [(1, 2)], [4], 4, [fRES_DEC_CFG_FACTOR, fRES_DEC_CFG_NTAPS]⟩
def aRES_SPEC_CFG : Nat := 0x0A0032
def fRES_SPEC_CFG_EN : Fld := ⟨aRES_SPEC_CFG, 35, 35, .rw, .s, .draft, 0⟩
def fRES_SPEC_CFG_SPAN : Fld := ⟨aRES_SPEC_CFG, 34, 27, .rw, .s, .draft, 0⟩
def fRES_SPEC_CFG_LOG2AVG : Fld := ⟨aRES_SPEC_CFG, 26, 23, .rw, .s, .draft, 0⟩
def fRES_SPEC_CFG_UNIT : Fld := ⟨aRES_SPEC_CFG, 22, 22, .rw, .d, .ret, 0⟩
def fRES_SPEC_CFG_REBASE : Fld := ⟨aRES_SPEC_CFG, 21, 21, .w1s, .l, .zero, 0⟩
def rRES_SPEC_CFG : RegRow := ⟨aRES_SPEC_CFG, [(1, 2)], [4], 4, [fRES_SPEC_CFG_EN, fRES_SPEC_CFG_SPAN, fRES_SPEC_CFG_LOG2AVG, fRES_SPEC_CFG_UNIT, fRES_SPEC_CFG_REBASE]⟩
def aRES_SPEC_COEF : Nat := 0x0A0034
def fRES_SPEC_COEF_COEF : Fld := ⟨aRES_SPEC_COEF, 35, 0, .rw, .d, .ret, 0⟩
def rRES_SPEC_COEF : RegRow := ⟨aRES_SPEC_COEF, [(1, 2)], [4], 4, [fRES_SPEC_COEF_COEF]⟩
def aRES_BAND_CFG : Nat := 0x0A0040
def fRES_BAND_CFG_EN : Fld := ⟨aRES_BAND_CFG, 35, 35, .rw, .s, .draft, 0⟩
def fRES_BAND_CFG_LOG2WIN : Fld := ⟨aRES_BAND_CFG, 34, 30, .rw, .s, .draft, 0⟩
def rRES_BAND_CFG : RegRow := ⟨aRES_BAND_CFG, [(8, 2), (1, 8)], [4], 4, [fRES_BAND_CFG_EN, fRES_BAND_CFG_LOG2WIN]⟩
def aRES_DET_CFG : Nat := 0x0A0080
def fRES_DET_CFG_EN : Fld := ⟨aRES_DET_CFG, 35, 35, .rw, .l, .ret, 0⟩
def fRES_DET_CFG_KIND : Fld := ⟨aRES_DET_CFG, 34, 33, .rw, .s, .draft, 0⟩
def fRES_DET_CFG_SRC : Fld := ⟨aRES_DET_CFG, 32, 29, .rw, .s, .draft, 0⟩
def fRES_DET_CFG_INVERT : Fld := ⟨aRES_DET_CFG, 28, 28, .rw, .d, .ret, 0⟩
def fRES_DET_CFG_PERSIST : Fld := ⟨aRES_DET_CFG, 27, 16, .rw, .d, .ret, 0⟩
def fRES_DET_CFG_HOLD : Fld := ⟨aRES_DET_CFG, 15, 4, .rw, .d, .ret, 0⟩
def rRES_DET_CFG : RegRow := ⟨aRES_DET_CFG, [(16, 2), (1, 16)], [4], 4, [fRES_DET_CFG_EN, fRES_DET_CFG_KIND, fRES_DET_CFG_SRC, fRES_DET_CFG_INVERT, fRES_DET_CFG_PERSIST, fRES_DET_CFG_HOLD]⟩
def aRES_DET_WIN : Nat := 0x0A00A0
def fRES_DET_WIN_FIRST : Fld := ⟨aRES_DET_WIN, 35, 19, .rw, .s, .draft, 0⟩
def fRES_DET_WIN_COUNT : Fld := ⟨aRES_DET_WIN, 18, 1, .rw, .s, .draft, 0⟩
def rRES_DET_WIN : RegRow := ⟨aRES_DET_WIN, [(16, 2), (1, 16)], [4], 4, [fRES_DET_WIN_FIRST, fRES_DET_WIN_COUNT]⟩
def aRES_DET_ON : Nat := 0x0A00C0
def fRES_DET_ON_ON : Fld := ⟨aRES_DET_ON, 35, 0, .rw, .d, .ret, 0⟩
def rRES_DET_ON : RegRow := ⟨aRES_DET_ON, [(16, 2), (1, 16)], [4], 4, [fRES_DET_ON_ON]⟩
def aRES_DET_OFF : Nat := 0x0A00E0
def fRES_DET_OFF_OFF : Fld := ⟨aRES_DET_OFF, 35, 0, .rw, .d, .ret, 0⟩
def rRES_DET_OFF : RegRow := ⟨aRES_DET_OFF, [(16, 2), (1, 16)], [4], 4, [fRES_DET_OFF_OFF]⟩
def aRES_DET_TC : Nat := 0x0A0100
def fRES_DET_TC_LOG2STA : Fld := ⟨aRES_DET_TC, 35, 31, .rw, .d, .ret, 0⟩
def fRES_DET_TC_LOG2LTA : Fld := ⟨aRES_DET_TC, 30, 26, .rw, .d, .ret, 0⟩
def fRES_DET_TC_LOG2BASE : Fld := ⟨aRES_DET_TC, 25, 21, .rw, .d, .ret, 0⟩
def fRES_DET_TC_MIN_GAUGES : Fld := ⟨aRES_DET_TC, 20, 13, .rw, .d, .ret, 0⟩
def fRES_DET_TC_MERGE_GAP : Fld := ⟨aRES_DET_TC, 12, 5, .rw, .d, .ret, 0⟩
def rRES_DET_TC : RegRow := ⟨aRES_DET_TC, [(16, 2), (1, 16)], [4], 4, [fRES_DET_TC_LOG2STA, fRES_DET_TC_LOG2LTA, fRES_DET_TC_LOG2BASE, fRES_DET_TC_MIN_GAUGES, fRES_DET_TC_MERGE_GAP]⟩
def aRES_DET_ACT : Nat := 0x0A0120
def fRES_DET_ACT_FIRE_EN : Fld := ⟨aRES_DET_ACT, 35, 35, .rw, .l, .ret, 0⟩
def fRES_DET_ACT_LINE : Fld := ⟨aRES_DET_ACT, 34, 29, .rw, .l, .ret, 0⟩
def fRES_DET_ACT_MARK_EN : Fld := ⟨aRES_DET_ACT, 28, 28, .rw, .l, .ret, 0⟩
def fRES_DET_ACT_FIRE_OFS : Fld := ⟨aRES_DET_ACT, 27, 12, .rw, .l, .ret, 128⟩
def fRES_DET_ACT_HOLDOFF : Fld := ⟨aRES_DET_ACT, 11, 0, .rw, .l, .ret, 0⟩
def rRES_DET_ACT : RegRow := ⟨aRES_DET_ACT, [(16, 2), (1, 16)], [4], 4, [fRES_DET_ACT_FIRE_EN, fRES_DET_ACT_LINE, fRES_DET_ACT_MARK_EN, fRES_DET_ACT_FIRE_OFS, fRES_DET_ACT_HOLDOFF]⟩
def aRES_DET_STATUS : Nat := 0x0A0140
def fRES_DET_STATUS_OPEN : Fld := ⟨aRES_DET_STATUS, 35, 26, .ro, .l, .zero, 0⟩
def fRES_DET_STATUS_LOST : Fld := ⟨aRES_DET_STATUS, 25, 25, .w1c, .l, .zero, 0⟩
def fRES_DET_STATUS_FIRE_SKIPS : Fld := ⟨aRES_DET_STATUS, 24, 16, .rc, .l, .zero, 0⟩
def fRES_DET_STATUS_STARTS : Fld := ⟨aRES_DET_STATUS, 15, 0, .rc, .l, .zero, 0⟩
def rRES_DET_STATUS : RegRow := ⟨aRES_DET_STATUS, [(16, 2), (1, 16)], [4], 4, [fRES_DET_STATUS_OPEN, fRES_DET_STATUS_LOST, fRES_DET_STATUS_FIRE_SKIPS, fRES_DET_STATUS_STARTS]⟩
def aBAND_TABLE : Nat := 0x960000
def fBAND_TABLE_COEF : Fld := ⟨aBAND_TABLE, 17, 0, .rw, .l, .draft, 0⟩
def rBAND_TABLE : RegRow := ⟨aBAND_TABLE, [(128, 2), (16, 8), (1, 10)], [4], 4, [fBAND_TABLE_COEF]⟩
def aDEC_TABLE : Nat := 0x970000
def fDEC_TABLE_H : Fld := ⟨aDEC_TABLE, 17, 0, .rw, .l, .draft, 0⟩
def rDEC_TABLE : RegRow := ⟨aDEC_TABLE, [(512, 2), (1, 512)], [4], 4, [fDEC_TABLE_H]⟩

/-- Every register word of chapter 11. -/
def regRows11 : List RegRow :=
  [rRES_GAUGE_CFG, rRES_GAUGE_POS, rRES_GAUGE_CTRL, rRES_FIBRE_CFG, rRES_FIBRE_STATUS, rRES_FIBRE_COUNT, rRES_STREAM_CFG, rRES_STREAM_WIN, rRES_DEC_CFG, rRES_SPEC_CFG, rRES_SPEC_COEF, rRES_BAND_CFG, rRES_DET_CFG, rRES_DET_WIN, rRES_DET_ON, rRES_DET_OFF, rRES_DET_TC, rRES_DET_ACT, rRES_DET_STATUS, rBAND_TABLE, rDEC_TABLE]

/-! Chapter 12: Bolt. -/

def aBOLT_CFG : Nat := 0x0B0000
def fBOLT_CFG_SCRUB_EN : Fld := ⟨aBOLT_CFG, 35, 35, .rw, .l, .ret, 1⟩
def fBOLT_CFG_SCRUB_PERIOD : Fld := ⟨aBOLT_CFG, 34, 21, .rw, .l, .ret, 8000⟩
def rBOLT_CFG : RegRow := ⟨aBOLT_CFG, [], [5], 5, [fBOLT_CFG_SCRUB_EN, fBOLT_CFG_SCRUB_PERIOD]⟩
def aBOLT_POOL_STATUS : Nat := 0x0B0001
def fBOLT_POOL_STATUS_FREE : Fld := ⟨aBOLT_POOL_STATUS, 35, 16, .ro, .l, .live, 524288⟩
def rBOLT_POOL_STATUS : RegRow := ⟨aBOLT_POOL_STATUS, [], [5], 5, [fBOLT_POOL_STATUS_FREE]⟩
def aBOLT_POOL_LOW : Nat := 0x0B0002
def fBOLT_POOL_LOW_LOW_FREE : Fld := ⟨aBOLT_POOL_LOW, 35, 16, .rc, .l, .live, 524288⟩
def rBOLT_POOL_LOW : RegRow := ⟨aBOLT_POOL_LOW, [], [5], 5, [fBOLT_POOL_LOW_LOW_FREE]⟩
def aBOLT_SCRUB_STATUS : Nat := 0x0B0003
def fBOLT_SCRUB_STATUS_BUSY : Fld := ⟨aBOLT_SCRUB_STATUS, 35, 35, .ro, .l, .zero, 0⟩
def fBOLT_SCRUB_STATUS_PASS_DONE : Fld := ⟨aBOLT_SCRUB_STATUS, 34, 34, .w1c, .l, .zero, 0⟩
def fBOLT_SCRUB_STATUS_SCRUB_LATE : Fld := ⟨aBOLT_SCRUB_STATUS, 33, 33, .w1c, .l, .zero, 0⟩
def fBOLT_SCRUB_STATUS_SCRUB_WAIT : Fld := ⟨aBOLT_SCRUB_STATUS, 32, 32, .ro, .l, .zero, 0⟩
def fBOLT_SCRUB_STATUS_CFG_BUSY : Fld := ⟨aBOLT_SCRUB_STATUS, 31, 31, .w1c, .l, .zero, 0⟩
def fBOLT_SCRUB_STATUS_SBE_COUNT : Fld := ⟨aBOLT_SCRUB_STATUS, 23, 12, .rc, .l, .zero, 0⟩
def fBOLT_SCRUB_STATUS_DBE_COUNT : Fld := ⟨aBOLT_SCRUB_STATUS, 11, 0, .rc, .l, .zero, 0⟩
def rBOLT_SCRUB_STATUS : RegRow := ⟨aBOLT_SCRUB_STATUS, [], [5], 5, [fBOLT_SCRUB_STATUS_BUSY, fBOLT_SCRUB_STATUS_PASS_DONE, fBOLT_SCRUB_STATUS_SCRUB_LATE, fBOLT_SCRUB_STATUS_SCRUB_WAIT, fBOLT_SCRUB_STATUS_CFG_BUSY, fBOLT_SCRUB_STATUS_SBE_COUNT, fBOLT_SCRUB_STATUS_DBE_COUNT]⟩
def aBOLT_ERR_FIRST : Nat := 0x0B0004
def fBOLT_ERR_FIRST_VALID : Fld := ⟨aBOLT_ERR_FIRST, 35, 35, .w1c, .l, .zero, 0⟩
def fBOLT_ERR_FIRST_KIND : Fld := ⟨aBOLT_ERR_FIRST, 34, 33, .ro, .l, .zero, 0⟩
def fBOLT_ERR_FIRST_QUEUE : Fld := ⟨aBOLT_ERR_FIRST, 32, 21, .ro, .l, .zero, 0⟩
def fBOLT_ERR_FIRST_UNOWNED : Fld := ⟨aBOLT_ERR_FIRST, 20, 20, .ro, .l, .zero, 0⟩
def fBOLT_ERR_FIRST_CELL : Fld := ⟨aBOLT_ERR_FIRST, 19, 1, .ro, .l, .zero, 0⟩
def rBOLT_ERR_FIRST : RegRow := ⟨aBOLT_ERR_FIRST, [], [5], 5, [fBOLT_ERR_FIRST_VALID, fBOLT_ERR_FIRST_KIND, fBOLT_ERR_FIRST_QUEUE, fBOLT_ERR_FIRST_UNOWNED, fBOLT_ERR_FIRST_CELL]⟩
def aBOLT_PUSH_CTRL : Nat := 0x0B0010
def fBOLT_PUSH_CTRL_QUEUE : Fld := ⟨aBOLT_PUSH_CTRL, 35, 24, .rw, .l, .zero, 0⟩
def fBOLT_PUSH_CTRL_BAD : Fld := ⟨aBOLT_PUSH_CTRL, 23, 23, .w1s, .l, .zero, 0⟩
def fBOLT_PUSH_CTRL_PUSH_ERR : Fld := ⟨aBOLT_PUSH_CTRL, 22, 22, .w1c, .l, .zero, 0⟩
def fBOLT_PUSH_CTRL_OPEN : Fld := ⟨aBOLT_PUSH_CTRL, 21, 21, .ro, .l, .zero, 0⟩
def rBOLT_PUSH_CTRL : RegRow := ⟨aBOLT_PUSH_CTRL, [], [5], 5, [fBOLT_PUSH_CTRL_QUEUE, fBOLT_PUSH_CTRL_BAD, fBOLT_PUSH_CTRL_PUSH_ERR, fBOLT_PUSH_CTRL_OPEN]⟩
def aBOLT_PUSH_WORD : Nat := 0x0B0011
def fBOLT_PUSH_WORD_WORD : Fld := ⟨aBOLT_PUSH_WORD, 35, 0, .wo, .l, .live, 0⟩
def rBOLT_PUSH_WORD : RegRow := ⟨aBOLT_PUSH_WORD, [(1, 4)], [5], 5, [fBOLT_PUSH_WORD_WORD]⟩
def aBOLT_POP_CTRL : Nat := 0x0B0018
def fBOLT_POP_CTRL_QUEUE : Fld := ⟨aBOLT_POP_CTRL, 35, 24, .rw, .l, .zero, 0⟩
def fBOLT_POP_CTRL_POP_ERR : Fld := ⟨aBOLT_POP_CTRL, 23, 23, .w1c, .l, .zero, 0⟩
def fBOLT_POP_CTRL_LAST_SOP : Fld := ⟨aBOLT_POP_CTRL, 22, 22, .ro, .l, .zero, 0⟩
def fBOLT_POP_CTRL_LAST_EOP : Fld := ⟨aBOLT_POP_CTRL, 21, 21, .ro, .l, .zero, 0⟩
def fBOLT_POP_CTRL_LAST_EMPTY : Fld := ⟨aBOLT_POP_CTRL, 20, 20, .ro, .l, .zero, 0⟩
def fBOLT_POP_CTRL_LAST_DAMAGED : Fld := ⟨aBOLT_POP_CTRL, 19, 19, .ro, .l, .zero, 0⟩
def rBOLT_POP_CTRL : RegRow := ⟨aBOLT_POP_CTRL, [], [5], 5, [fBOLT_POP_CTRL_QUEUE, fBOLT_POP_CTRL_POP_ERR, fBOLT_POP_CTRL_LAST_SOP, fBOLT_POP_CTRL_LAST_EOP, fBOLT_POP_CTRL_LAST_EMPTY, fBOLT_POP_CTRL_LAST_DAMAGED]⟩
def aBOLT_POP_DATA : Nat := 0x0B0019
def fBOLT_POP_DATA_WORD : Fld := ⟨aBOLT_POP_DATA, 35, 0, .rc, .l, .live, 0⟩
def rBOLT_POP_DATA : RegRow := ⟨aBOLT_POP_DATA, [], [5], 5, [fBOLT_POP_DATA_WORD]⟩
def aBOLT_Q_CFG : Nat := 0x0B1000
def fBOLT_Q_CFG_EN : Fld := ⟨aBOLT_Q_CFG, 35, 35, .rw, .s, .draft, 0⟩
def fBOLT_Q_CFG_PROD : Fld := ⟨aBOLT_Q_CFG, 34, 31, .rw, .s, .draft, 0⟩
def fBOLT_Q_CFG_CONS : Fld := ⟨aBOLT_Q_CFG, 30, 27, .rw, .s, .draft, 0⟩
def fBOLT_Q_CFG_PRIO : Fld := ⟨aBOLT_Q_CFG, 26, 24, .rw, .s, .draft, 0⟩
def fBOLT_Q_CFG_CONS_SEL : Fld := ⟨aBOLT_Q_CFG, 23, 16, .rw, .s, .draft, 0⟩
def rBOLT_Q_CFG : RegRow := ⟨aBOLT_Q_CFG, [(1, 4096)], [5], 5, [fBOLT_Q_CFG_EN, fBOLT_Q_CFG_PROD, fBOLT_Q_CFG_CONS, fBOLT_Q_CFG_PRIO, fBOLT_Q_CFG_CONS_SEL]⟩
def aBOLT_Q_LIMIT : Nat := 0x0B2000
def fBOLT_Q_LIMIT_LIMIT : Fld := ⟨aBOLT_Q_LIMIT, 35, 16, .rw, .l, .ret, 0⟩
def fBOLT_Q_LIMIT_RESERVE : Fld := ⟨aBOLT_Q_LIMIT, 15, 0, .rw, .s, .draft, 0⟩
def rBOLT_Q_LIMIT : RegRow := ⟨aBOLT_Q_LIMIT, [(1, 4096)], [5], 5, [fBOLT_Q_LIMIT_LIMIT, fBOLT_Q_LIMIT_RESERVE]⟩
def aBOLT_Q_STATUS : Nat := 0x0B3000
def fBOLT_Q_STATUS_EMPTY : Fld := ⟨aBOLT_Q_STATUS, 35, 35, .ro, .l, .lit, 1⟩
def fBOLT_Q_STATUS_FULL : Fld := ⟨aBOLT_Q_STATUS, 34, 34, .ro, .l, .zero, 0⟩
def fBOLT_Q_STATUS_OVERRUN : Fld := ⟨aBOLT_Q_STATUS, 33, 33, .w1c, .l, .zero, 0⟩
def fBOLT_Q_STATUS_FLUSHED : Fld := ⟨aBOLT_Q_STATUS, 32, 32, .w1c, .l, .zero, 0⟩
def fBOLT_Q_STATUS_ORPHAN : Fld := ⟨aBOLT_Q_STATUS, 31, 31, .w1c, .l, .zero, 0⟩
def fBOLT_Q_STATUS_BAD_SEEN : Fld := ⟨aBOLT_Q_STATUS, 30, 30, .w1c, .l, .zero, 0⟩
def fBOLT_Q_STATUS_DBE : Fld := ⟨aBOLT_Q_STATUS, 29, 29, .w1c, .l, .zero, 0⟩
def fBOLT_Q_STATUS_CUT : Fld := ⟨aBOLT_Q_STATUS, 28, 28, .w1c, .l, .zero, 0⟩
def fBOLT_Q_STATUS_OPEN : Fld := ⟨aBOLT_Q_STATUS, 27, 27, .ro, .l, .zero, 0⟩
def fBOLT_Q_STATUS_CELLS : Fld := ⟨aBOLT_Q_STATUS, 19, 0, .ro, .l, .zero, 0⟩
def rBOLT_Q_STATUS : RegRow := ⟨aBOLT_Q_STATUS, [(1, 4096)], [5], 5, [fBOLT_Q_STATUS_EMPTY, fBOLT_Q_STATUS_FULL, fBOLT_Q_STATUS_OVERRUN, fBOLT_Q_STATUS_FLUSHED, fBOLT_Q_STATUS_ORPHAN, fBOLT_Q_STATUS_BAD_SEEN, fBOLT_Q_STATUS_DBE, fBOLT_Q_STATUS_CUT, fBOLT_Q_STATUS_OPEN, fBOLT_Q_STATUS_CELLS]⟩
def aBOLT_Q_WORDS : Nat := 0x0B4000
def fBOLT_Q_WORDS_WORDS : Fld := ⟨aBOLT_Q_WORDS, 24, 0, .ro, .l, .zero, 0⟩
def rBOLT_Q_WORDS : RegRow := ⟨aBOLT_Q_WORDS, [(1, 4096)], [5], 5, [fBOLT_Q_WORDS_WORDS]⟩
def aBOLT_Q_COUNT : Nat := 0x0B5000
def fBOLT_Q_COUNT_DROP_PKTS : Fld := ⟨aBOLT_Q_COUNT, 35, 24, .rc, .l, .zero, 0⟩
def fBOLT_Q_COUNT_BAD_PKTS : Fld := ⟨aBOLT_Q_COUNT, 23, 12, .rc, .l, .zero, 0⟩
def fBOLT_Q_COUNT_FLUSH_ORPHAN : Fld := ⟨aBOLT_Q_COUNT, 11, 0, .rc, .l, .zero, 0⟩
def rBOLT_Q_COUNT : RegRow := ⟨aBOLT_Q_COUNT, [(1, 4096)], [5], 5, [fBOLT_Q_COUNT_DROP_PKTS, fBOLT_Q_COUNT_BAD_PKTS, fBOLT_Q_COUNT_FLUSH_ORPHAN]⟩
def aBOLT_Q_CTRL : Nat := 0x0B6000
def fBOLT_Q_CTRL_FLUSH : Fld := ⟨aBOLT_Q_CTRL, 35, 35, .w1s, .l, .zero, 0⟩
def rBOLT_Q_CTRL : RegRow := ⟨aBOLT_Q_CTRL, [(1, 4096)], [5], 5, [fBOLT_Q_CTRL_FLUSH]⟩

/-- Every register word of chapter 12. -/
def regRows12 : List RegRow :=
  [rBOLT_CFG, rBOLT_POOL_STATUS, rBOLT_POOL_LOW, rBOLT_SCRUB_STATUS, rBOLT_ERR_FIRST, rBOLT_PUSH_CTRL, rBOLT_PUSH_WORD, rBOLT_POP_CTRL, rBOLT_POP_DATA, rBOLT_Q_CFG, rBOLT_Q_LIMIT, rBOLT_Q_STATUS, rBOLT_Q_WORDS, rBOLT_Q_COUNT, rBOLT_Q_CTRL]

/-! Chapter 13: DRAM and history. -/

def aHIST_MEM_SHARE : Nat := 0x0C0000
def fHIST_MEM_SHARE_WEFT : Fld := ⟨aHIST_MEM_SHARE, 35, 30, .rw, .s, .draft, 0⟩
def fHIST_MEM_SHARE_CAPT : Fld := ⟨aHIST_MEM_SHARE, 29, 24, .rw, .s, .draft, 0⟩
def fHIST_MEM_SHARE_RAW : Fld := ⟨aHIST_MEM_SHARE, 23, 18, .rw, .s, .draft, 0⟩
def fHIST_MEM_SHARE_REFILL : Fld := ⟨aHIST_MEM_SHARE, 17, 12, .rw, .s, .draft, 0⟩
def fHIST_MEM_SHARE_READ : Fld := ⟨aHIST_MEM_SHARE, 11, 6, .rw, .s, .draft, 0⟩
def fHIST_MEM_SHARE_SCRUB : Fld := ⟨aHIST_MEM_SHARE, 5, 0, .rw, .s, .draft, 0⟩
def rHIST_MEM_SHARE : RegRow := ⟨aHIST_MEM_SHARE, [], [6], 6, [fHIST_MEM_SHARE_WEFT, fHIST_MEM_SHARE_CAPT, fHIST_MEM_SHARE_RAW, fHIST_MEM_SHARE_REFILL, fHIST_MEM_SHARE_READ, fHIST_MEM_SHARE_SCRUB]⟩
def aHIST_MEM_CTRL : Nat := 0x0C0001
def fHIST_MEM_CTRL_CAPT_FIRST : Fld := ⟨aHIST_MEM_CTRL, 35, 35, .rw, .l, .ret, 0⟩
def fHIST_MEM_CTRL_SCRUB_EN : Fld := ⟨aHIST_MEM_CTRL, 34, 34, .rw, .l, .ret, 1⟩
def fHIST_MEM_CTRL_SCRUB_PERIOD : Fld := ⟨aHIST_MEM_CTRL, 33, 14, .rw, .l, .ret, 240000⟩
def rHIST_MEM_CTRL : RegRow := ⟨aHIST_MEM_CTRL, [], [6], 6, [fHIST_MEM_CTRL_CAPT_FIRST, fHIST_MEM_CTRL_SCRUB_EN, fHIST_MEM_CTRL_SCRUB_PERIOD]⟩
def aHIST_MEM_STATUS : Nat := 0x0C0002
def fHIST_MEM_STATUS_READY : Fld := ⟨aHIST_MEM_STATUS, 35, 35, .ro, .l, .zero, 0⟩
def fHIST_MEM_STATUS_DBE : Fld := ⟨aHIST_MEM_STATUS, 34, 34, .w1c, .l, .zero, 0⟩
def fHIST_MEM_STATUS_SCRUB_LATE : Fld := ⟨aHIST_MEM_STATUS, 33, 33, .w1c, .l, .zero, 0⟩
def fHIST_MEM_STATUS_WEFT_SHORT : Fld := ⟨aHIST_MEM_STATUS, 32, 32, .w1c, .l, .zero, 0⟩
def fHIST_MEM_STATUS_SBE_COUNT : Fld := ⟨aHIST_MEM_STATUS, 23, 12, .rc, .l, .zero, 0⟩
def fHIST_MEM_STATUS_DBE_COUNT : Fld := ⟨aHIST_MEM_STATUS, 11, 0, .rc, .l, .zero, 0⟩
def rHIST_MEM_STATUS : RegRow := ⟨aHIST_MEM_STATUS, [], [6], 6, [fHIST_MEM_STATUS_READY, fHIST_MEM_STATUS_DBE, fHIST_MEM_STATUS_SCRUB_LATE, fHIST_MEM_STATUS_WEFT_SHORT, fHIST_MEM_STATUS_SBE_COUNT, fHIST_MEM_STATUS_DBE_COUNT]⟩
def aHIST_TONE_MAP : Nat := 0x0C0004
def fHIST_TONE_MAP_BASE_PAGE : Fld := ⟨aHIST_TONE_MAP, 35, 22, .rw, .s, .draft, 0⟩
def fHIST_TONE_MAP_PAGES_M1 : Fld := ⟨aHIST_TONE_MAP, 21, 8, .rw, .s, .draft, 0⟩
def rHIST_TONE_MAP : RegRow := ⟨aHIST_TONE_MAP, [(1, 2)], [6], 6, [fHIST_TONE_MAP_BASE_PAGE, fHIST_TONE_MAP_PAGES_M1]⟩
def aHIST_STREAM_CFG : Nat := 0x0C0006
def fHIST_STREAM_CFG_BASE_PAGE : Fld := ⟨aHIST_STREAM_CFG, 35, 22, .rw, .s, .draft, 0⟩
def fHIST_STREAM_CFG_PAGES_M1 : Fld := ⟨aHIST_STREAM_CFG, 21, 8, .rw, .s, .draft, 0⟩
def fHIST_STREAM_CFG_MODE : Fld := ⟨aHIST_STREAM_CFG, 7, 7, .rw, .s, .draft, 0⟩
def rHIST_STREAM_CFG : RegRow := ⟨aHIST_STREAM_CFG, [(1, 2)], [6], 6, [fHIST_STREAM_CFG_BASE_PAGE, fHIST_STREAM_CFG_PAGES_M1, fHIST_STREAM_CFG_MODE]⟩
def aHIST_STREAM_STATUS : Nat := 0x0C0008
def fHIST_STREAM_STATUS_LEN_M1 : Fld := ⟨aHIST_STREAM_STATUS, 35, 16, .rw, .s, .draft, 0⟩
def fHIST_STREAM_STATUS_RESET : Fld := ⟨aHIST_STREAM_STATUS, 15, 15, .w1s, .l, .zero, 0⟩
def fHIST_STREAM_STATUS_FULL : Fld := ⟨aHIST_STREAM_STATUS, 14, 14, .ro, .l, .zero, 0⟩
def fHIST_STREAM_STATUS_DISCARD : Fld := ⟨aHIST_STREAM_STATUS, 13, 0, .rc, .l, .zero, 0⟩
def rHIST_STREAM_STATUS : RegRow := ⟨aHIST_STREAM_STATUS, [(1, 2)], [6], 6, [fHIST_STREAM_STATUS_LEN_M1, fHIST_STREAM_STATUS_RESET, fHIST_STREAM_STATUS_FULL, fHIST_STREAM_STATUS_DISCARD]⟩
def aHIST_MARK_CMD : Nat := 0x0C0010
def fHIST_MARK_CMD_GO : Fld := ⟨aHIST_MARK_CMD, 35, 35, .w1s, .l, .zero, 0⟩
def fHIST_MARK_CMD_OP : Fld := ⟨aHIST_MARK_CMD, 34, 34, .rw, .l, .zero, 0⟩
def fHIST_MARK_CMD_SKEIN : Fld := ⟨aHIST_MARK_CMD, 33, 28, .rw, .l, .zero, 0⟩
def fHIST_MARK_CMD_SLOT : Fld := ⟨aHIST_MARK_CMD, 27, 24, .rw, .l, .zero, 0⟩
def rHIST_MARK_CMD : RegRow := ⟨aHIST_MARK_CMD, [], [6], 6, [fHIST_MARK_CMD_GO, fHIST_MARK_CMD_OP, fHIST_MARK_CMD_SKEIN, fHIST_MARK_CMD_SLOT]⟩
def aHIST_MARK_LO : Nat := 0x0C0011
def fHIST_MARK_LO_COARSE : Fld := ⟨aHIST_MARK_LO, 35, 10, .rw, .l, .zero, 0⟩
def fHIST_MARK_LO_FINE : Fld := ⟨aHIST_MARK_LO, 9, 0, .rw, .l, .zero, 0⟩
def rHIST_MARK_LO : RegRow := ⟨aHIST_MARK_LO, [], [6], 6, [fHIST_MARK_LO_COARSE, fHIST_MARK_LO_FINE]⟩
def aHIST_MARK_HI : Nat := 0x0C0012
def fHIST_MARK_HI_EPOCH : Fld := ⟨aHIST_MARK_HI, 35, 0, .rw, .l, .zero, 0⟩
def rHIST_MARK_HI : RegRow := ⟨aHIST_MARK_HI, [], [6], 6, [fHIST_MARK_HI_EPOCH]⟩
def aHIST_RT_CTRL : Nat := 0x0C0018
def fHIST_RT_CTRL_GO : Fld := ⟨aHIST_RT_CTRL, 35, 35, .w1s, .l, .zero, 0⟩
def fHIST_RT_CTRL_BUSY : Fld := ⟨aHIST_RT_CTRL, 34, 34, .ro, .l, .zero, 0⟩
def fHIST_RT_CTRL_MAINT_BUSY : Fld := ⟨aHIST_RT_CTRL, 33, 33, .w1c, .l, .zero, 0⟩
def fHIST_RT_CTRL_TEST_PAGE : Fld := ⟨aHIST_RT_CTRL, 32, 19, .rw, .l, .zero, 0⟩
def fHIST_RT_CTRL_HOLD : Fld := ⟨aHIST_RT_CTRL, 18, 11, .rw, .l, .zero, 0⟩
def fHIST_RT_CTRL_WEAK_BITS : Fld := ⟨aHIST_RT_CTRL, 10, 0, .ro, .l, .zero, 0⟩
def rHIST_RT_CTRL : RegRow := ⟨aHIST_RT_CTRL, [], [6], 6, [fHIST_RT_CTRL_GO, fHIST_RT_CTRL_BUSY, fHIST_RT_CTRL_MAINT_BUSY, fHIST_RT_CTRL_TEST_PAGE, fHIST_RT_CTRL_HOLD, fHIST_RT_CTRL_WEAK_BITS]⟩
def aHIST_SK_CFG : Nat := 0x0C0100
def fHIST_SK_CFG_EN : Fld := ⟨aHIST_SK_CFG, 35, 35, .rw, .s, .draft, 0⟩
def fHIST_SK_CFG_KIND : Fld := ⟨aHIST_SK_CFG, 34, 34, .rw, .s, .draft, 0⟩
def fHIST_SK_CFG_FIBRE : Fld := ⟨aHIST_SK_CFG, 33, 33, .rw, .s, .draft, 0⟩
def fHIST_SK_CFG_MARK_F0 : Fld := ⟨aHIST_SK_CFG, 32, 32, .rw, .s, .draft, 0⟩
def fHIST_SK_CFG_MARK_F1 : Fld := ⟨aHIST_SK_CFG, 31, 31, .rw, .s, .draft, 0⟩
def fHIST_SK_CFG_FORM : Fld := ⟨aHIST_SK_CFG, 30, 30, .rw, .s, .draft, 0⟩
def fHIST_SK_CFG_INST_WORD : Fld := ⟨aHIST_SK_CFG, 29, 17, .rw, .s, .draft, 0⟩
def rHIST_SK_CFG : RegRow := ⟨aHIST_SK_CFG, [(1, 64)], [6], 6, [fHIST_SK_CFG_EN, fHIST_SK_CFG_KIND, fHIST_SK_CFG_FIBRE, fHIST_SK_CFG_MARK_F0, fHIST_SK_CFG_MARK_F1, fHIST_SK_CFG_FORM, fHIST_SK_CFG_INST_WORD]⟩
def aHIST_SK_MAP : Nat := 0x0C0140
def fHIST_SK_MAP_BASE_PAGE : Fld := ⟨aHIST_SK_MAP, 35, 22, .rw, .s, .draft, 0⟩
def fHIST_SK_MAP_PAGES_M1 : Fld := ⟨aHIST_SK_MAP, 21, 8, .rw, .s, .draft, 0⟩
def rHIST_SK_MAP : RegRow := ⟨aHIST_SK_MAP, [(1, 64)], [6], 6, [fHIST_SK_MAP_BASE_PAGE, fHIST_SK_MAP_PAGES_M1]⟩
def aHIST_SK_POL : Nat := 0x0C0180
def fHIST_SK_POL_POLICY : Fld := ⟨aHIST_SK_POL, 35, 35, .rw, .l, .ret, 0⟩
def fHIST_SK_POL_PRE : Fld := ⟨aHIST_SK_POL, 34, 18, .rw, .l, .ret, 0⟩
def fHIST_SK_POL_POST : Fld := ⟨aHIST_SK_POL, 17, 1, .rw, .l, .ret, 0⟩
def rHIST_SK_POL : RegRow := ⟨aHIST_SK_POL, [(1, 64)], [6], 6, [fHIST_SK_POL_POLICY, fHIST_SK_POL_PRE, fHIST_SK_POL_POST]⟩
def aHIST_SK_STATUS : Nat := 0x0C01C0
def fHIST_SK_STATUS_WRAPPED : Fld := ⟨aHIST_SK_STATUS, 35, 35, .ro, .l, .zero, 0⟩
def fHIST_SK_STATUS_PROTECT_HELD : Fld := ⟨aHIST_SK_STATUS, 34, 34, .w1c, .l, .zero, 0⟩
def fHIST_SK_STATUS_REWIND_LOST : Fld := ⟨aHIST_SK_STATUS, 33, 33, .w1c, .l, .zero, 0⟩
def fHIST_SK_STATUS_TOO_LONG : Fld := ⟨aHIST_SK_STATUS, 32, 32, .w1c, .l, .zero, 0⟩
def fHIST_SK_STATUS_MARKS : Fld := ⟨aHIST_SK_STATUS, 31, 27, .ro, .l, .zero, 0⟩
def fHIST_SK_STATUS_MARK_REFUSED : Fld := ⟨aHIST_SK_STATUS, 26, 18, .rc, .l, .zero, 0⟩
def fHIST_SK_STATUS_DROP_COUNT : Fld := ⟨aHIST_SK_STATUS, 17, 0, .rc, .l, .zero, 0⟩
def rHIST_SK_STATUS : RegRow := ⟨aHIST_SK_STATUS, [(1, 64)], [6], 6, [fHIST_SK_STATUS_WRAPPED, fHIST_SK_STATUS_PROTECT_HELD, fHIST_SK_STATUS_REWIND_LOST, fHIST_SK_STATUS_TOO_LONG, fHIST_SK_STATUS_MARKS, fHIST_SK_STATUS_MARK_REFUSED, fHIST_SK_STATUS_DROP_COUNT]⟩
def aHIST_SK_NEXT : Nat := 0x0C0200
def fHIST_SK_NEXT_NEXT : Fld := ⟨aHIST_SK_NEXT, 35, 0, .ro, .l, .zero, 0⟩
def rHIST_SK_NEXT : RegRow := ⟨aHIST_SK_NEXT, [(1, 64)], [6], 6, [fHIST_SK_NEXT_NEXT]⟩
def aHIST_SK_OLDEST : Nat := 0x0C0240
def fHIST_SK_OLDEST_OLDEST : Fld := ⟨aHIST_SK_OLDEST, 35, 0, .ro, .l, .zero, 0⟩
def rHIST_SK_OLDEST : RegRow := ⟨aHIST_SK_OLDEST, [(1, 64)], [6], 6, [fHIST_SK_OLDEST_OLDEST]⟩
def aHIST_RD_CFG : Nat := 0x0C0300
def fHIST_RD_CFG_SKEIN : Fld := ⟨aHIST_RD_CFG, 35, 30, .rw, .l, .ret, 0⟩
def fHIST_RD_CFG_QUEUE : Fld := ⟨aHIST_RD_CFG, 29, 18, .rw, .l, .ret, 0⟩
def fHIST_RD_CFG_FROM : Fld := ⟨aHIST_RD_CFG, 17, 16, .rw, .l, .ret, 0⟩
def fHIST_RD_CFG_SLOT : Fld := ⟨aHIST_RD_CFG, 15, 12, .rw, .l, .ret, 0⟩
def fHIST_RD_CFG_UNTIL : Fld := ⟨aHIST_RD_CFG, 11, 10, .rw, .l, .ret, 0⟩
def fHIST_RD_CFG_AUTO_REL : Fld := ⟨aHIST_RD_CFG, 9, 9, .rw, .l, .ret, 0⟩
def rHIST_RD_CFG : RegRow := ⟨aHIST_RD_CFG, [(1, 8)], [6], 6, [fHIST_RD_CFG_SKEIN, fHIST_RD_CFG_QUEUE, fHIST_RD_CFG_FROM, fHIST_RD_CFG_SLOT, fHIST_RD_CFG_UNTIL, fHIST_RD_CFG_AUTO_REL]⟩
def aHIST_RD_CTRL : Nat := 0x0C0308
def fHIST_RD_CTRL_GO : Fld := ⟨aHIST_RD_CTRL, 35, 35, .w1s, .l, .zero, 0⟩
def fHIST_RD_CTRL_STOP : Fld := ⟨aHIST_RD_CTRL, 34, 34, .w1s, .l, .zero, 0⟩
def fHIST_RD_CTRL_RUN : Fld := ⟨aHIST_RD_CTRL, 33, 33, .ro, .l, .zero, 0⟩
def fHIST_RD_CTRL_DONE : Fld := ⟨aHIST_RD_CTRL, 32, 32, .w1c, .l, .zero, 0⟩
def fHIST_RD_CTRL_LOST : Fld := ⟨aHIST_RD_CTRL, 31, 31, .w1c, .l, .zero, 0⟩
def fHIST_RD_CTRL_ERR : Fld := ⟨aHIST_RD_CTRL, 30, 30, .w1c, .l, .zero, 0⟩
def fHIST_RD_CTRL_LOST_FRAMES : Fld := ⟨aHIST_RD_CTRL, 17, 0, .rc, .l, .zero, 0⟩
def rHIST_RD_CTRL : RegRow := ⟨aHIST_RD_CTRL, [(1, 8)], [6], 6, [fHIST_RD_CTRL_GO, fHIST_RD_CTRL_STOP, fHIST_RD_CTRL_RUN, fHIST_RD_CTRL_DONE, fHIST_RD_CTRL_LOST, fHIST_RD_CTRL_ERR, fHIST_RD_CTRL_LOST_FRAMES]⟩
def aHIST_RD_POS : Nat := 0x0C0310
def fHIST_RD_POS_POS : Fld := ⟨aHIST_RD_POS, 35, 0, .ro, .l, .zero, 0⟩
def rHIST_RD_POS : RegRow := ⟨aHIST_RD_POS, [(1, 8)], [6], 6, [fHIST_RD_POS_POS]⟩
def aHIST_RD_T_LO : Nat := 0x0C0318
def fHIST_RD_T_LO_COARSE : Fld := ⟨aHIST_RD_T_LO, 35, 10, .rw, .l, .zero, 0⟩
def fHIST_RD_T_LO_FINE : Fld := ⟨aHIST_RD_T_LO, 9, 0, .rw, .l, .zero, 0⟩
def rHIST_RD_T_LO : RegRow := ⟨aHIST_RD_T_LO, [(1, 8)], [6], 6, [fHIST_RD_T_LO_COARSE, fHIST_RD_T_LO_FINE]⟩
def aHIST_RD_T_HI : Nat := 0x0C0320
def fHIST_RD_T_HI_EPOCH : Fld := ⟨aHIST_RD_T_HI, 35, 0, .rw, .l, .zero, 0⟩
def rHIST_RD_T_HI : RegRow := ⟨aHIST_RD_T_HI, [(1, 8)], [6], 6, [fHIST_RD_T_HI_EPOCH]⟩
def aMARK_W0 : Nat := 0x0C4000
def fMARK_W0_STATE : Fld := ⟨aMARK_W0, 35, 34, .ro, .l, .zero, 0⟩
def fMARK_W0_REWIND_LOST : Fld := ⟨aMARK_W0, 33, 33, .ro, .l, .zero, 0⟩
def fMARK_W0_PRE_SHORT : Fld := ⟨aMARK_W0, 32, 32, .ro, .l, .zero, 0⟩
def fMARK_W0_POST_SHORT : Fld := ⟨aMARK_W0, 31, 31, .ro, .l, .zero, 0⟩
def fMARK_W0_SRC : Fld := ⟨aMARK_W0, 30, 30, .ro, .l, .zero, 0⟩
def fMARK_W0_FIBRE : Fld := ⟨aMARK_W0, 29, 29, .ro, .l, .zero, 0⟩
def fMARK_W0_DET : Fld := ⟨aMARK_W0, 28, 25, .ro, .l, .zero, 0⟩
def fMARK_W0_ID : Fld := ⟨aMARK_W0, 24, 9, .ro, .l, .zero, 0⟩
def rMARK_W0 : RegRow := ⟨aMARK_W0, [(128, 64), (8, 16)], [6], 6, [fMARK_W0_STATE, fMARK_W0_REWIND_LOST, fMARK_W0_PRE_SHORT, fMARK_W0_POST_SHORT, fMARK_W0_SRC, fMARK_W0_FIBRE, fMARK_W0_DET, fMARK_W0_ID]⟩
def aMARK_INSTANT : Nat := 0x0C4001
def fMARK_INSTANT_INSTANT : Fld := ⟨aMARK_INSTANT, 35, 0, .ro, .l, .zero, 0⟩
def rMARK_INSTANT : RegRow := ⟨aMARK_INSTANT, [(128, 64), (8, 16)], [6], 6, [fMARK_INSTANT_INSTANT]⟩
def aMARK_EPOCH : Nat := 0x0C4002
def fMARK_EPOCH_INSTANT : Fld := ⟨aMARK_EPOCH, 35, 0, .ro, .l, .zero, 0⟩
def rMARK_EPOCH : RegRow := ⟨aMARK_EPOCH, [(128, 64), (8, 16)], [6], 6, [fMARK_EPOCH_INSTANT]⟩
def aMARK_START : Nat := 0x0C4003
def fMARK_START_START_FRAME : Fld := ⟨aMARK_START, 35, 0, .ro, .l, .zero, 0⟩
def rMARK_START : RegRow := ⟨aMARK_START, [(128, 64), (8, 16)], [6], 6, [fMARK_START_START_FRAME]⟩
def aMARK_END : Nat := 0x0C4004
def fMARK_END_END_FRAME : Fld := ⟨aMARK_END, 35, 0, .ro, .l, .zero, 0⟩
def rMARK_END : RegRow := ⟨aMARK_END, [(128, 64), (8, 16)], [6], 6, [fMARK_END_END_FRAME]⟩
def aMARK_LOST : Nat := 0x0C4005
def fMARK_LOST_LOST_FRAMES : Fld := ⟨aMARK_LOST, 35, 0, .ro, .l, .zero, 0⟩
def rMARK_LOST : RegRow := ⟨aMARK_LOST, [(128, 64), (8, 16)], [6], 6, [fMARK_LOST_LOST_FRAMES]⟩

/-- Every register word of chapter 13. -/
def regRows13 : List RegRow :=
  [rHIST_MEM_SHARE, rHIST_MEM_CTRL, rHIST_MEM_STATUS, rHIST_TONE_MAP, rHIST_STREAM_CFG, rHIST_STREAM_STATUS, rHIST_MARK_CMD, rHIST_MARK_LO, rHIST_MARK_HI, rHIST_RT_CTRL, rHIST_SK_CFG, rHIST_SK_MAP, rHIST_SK_POL, rHIST_SK_STATUS, rHIST_SK_NEXT, rHIST_SK_OLDEST, rHIST_RD_CFG, rHIST_RD_CTRL, rHIST_RD_POS, rHIST_RD_T_LO, rHIST_RD_T_HI, rMARK_W0, rMARK_INSTANT, rMARK_EPOCH] ++
  [rMARK_START, rMARK_END, rMARK_LOST]

/-! Chapter 14: chain. -/

def aCHAIN_CFG : Nat := 0x0D0000
def fCHAIN_CFG_ROLE : Fld := ⟨aCHAIN_CFG, 35, 35, .rw, .s, .draft, 0⟩
def fCHAIN_CFG_TOPO : Fld := ⟨aCHAIN_CFG, 34, 34, .rw, .s, .draft, 0⟩
def fCHAIN_CFG_ENUM_MODE : Fld := ⟨aCHAIN_CFG, 33, 33, .rw, .s, .draft, 0⟩
def fCHAIN_CFG_W_EN : Fld := ⟨aCHAIN_CFG, 32, 32, .rw, .s, .draft, 0⟩
def fCHAIN_CFG_E_EN : Fld := ⟨aCHAIN_CFG, 31, 31, .rw, .s, .draft, 0⟩
def fCHAIN_CFG_AUTO_ASSIGN : Fld := ⟨aCHAIN_CFG, 30, 30, .rw, .l, .ret, 1⟩
def rCHAIN_CFG : RegRow := ⟨aCHAIN_CFG, [], [7], 7, [fCHAIN_CFG_ROLE, fCHAIN_CFG_TOPO, fCHAIN_CFG_ENUM_MODE, fCHAIN_CFG_W_EN, fCHAIN_CFG_E_EN, fCHAIN_CFG_AUTO_ASSIGN]⟩
def aCHAIN_ADDR : Nat := 0x0D0001
def fCHAIN_ADDR_ADDR : Fld := ⟨aCHAIN_ADDR, 35, 26, .ro, .l, .ret, 1022⟩
def fCHAIN_ADDR_PLACED : Fld := ⟨aCHAIN_ADDR, 25, 25, .ro, .l, .ret, 0⟩
def fCHAIN_ADDR_HEAD : Fld := ⟨aCHAIN_ADDR, 24, 24, .ro, .l, .live, 0⟩
def fCHAIN_ADDR_POS : Fld := ⟨aCHAIN_ADDR, 23, 14, .ro, .l, .zero, 0⟩
def fCHAIN_ADDR_CHAIN_LEN : Fld := ⟨aCHAIN_ADDR, 13, 4, .ro, .l, .zero, 0⟩
def rCHAIN_ADDR : RegRow := ⟨aCHAIN_ADDR, [], [7], 7, [fCHAIN_ADDR_ADDR, fCHAIN_ADDR_PLACED, fCHAIN_ADDR_HEAD, fCHAIN_ADDR_POS, fCHAIN_ADDR_CHAIN_LEN]⟩
def aCHAIN_SIG : Nat := 0x0D0002
def fCHAIN_SIG_SIG : Fld := ⟨aCHAIN_SIG, 35, 0, .ro, .s, .live, 0⟩
def rCHAIN_SIG : RegRow := ⟨aCHAIN_SIG, [], [7], 7, [fCHAIN_SIG_SIG]⟩
def aCHAIN_STATUS : Nat := 0x0D0003
def fCHAIN_STATUS_TSTATE : Fld := ⟨aCHAIN_STATUS, 35, 33, .ro, .l, .zero, 0⟩
def fCHAIN_STATUS_UPSTREAM : Fld := ⟨aCHAIN_STATUS, 32, 31, .ro, .l, .zero, 0⟩
def fCHAIN_STATUS_RING_OK : Fld := ⟨aCHAIN_STATUS, 30, 30, .ro, .l, .zero, 0⟩
def fCHAIN_STATUS_FAILOVER : Fld := ⟨aCHAIN_STATUS, 29, 29, .ro, .l, .zero, 0⟩
def fCHAIN_STATUS_STEP_WAIT : Fld := ⟨aCHAIN_STATUS, 28, 28, .ro, .l, .zero, 0⟩
def fCHAIN_STATUS_PLAN_ERR : Fld := ⟨aCHAIN_STATUS, 27, 27, .ro, .l, .zero, 0⟩
def fCHAIN_STATUS_TIME_ERR : Fld := ⟨aCHAIN_STATUS, 26, 26, .w1c, .l, .zero, 0⟩
def fCHAIN_STATUS_TRIM_OWNED : Fld := ⟨aCHAIN_STATUS, 25, 25, .w1c, .l, .zero, 0⟩
def fCHAIN_STATUS_BREAK_SEEN : Fld := ⟨aCHAIN_STATUS, 24, 24, .w1c, .l, .zero, 0⟩
def fCHAIN_STATUS_GEN : Fld := ⟨aCHAIN_STATUS, 23, 12, .ro, .l, .zero, 0⟩
def rCHAIN_STATUS : RegRow := ⟨aCHAIN_STATUS, [], [7], 7, [fCHAIN_STATUS_TSTATE, fCHAIN_STATUS_UPSTREAM, fCHAIN_STATUS_RING_OK, fCHAIN_STATUS_FAILOVER, fCHAIN_STATUS_STEP_WAIT, fCHAIN_STATUS_PLAN_ERR, fCHAIN_STATUS_TIME_ERR, fCHAIN_STATUS_TRIM_OWNED, fCHAIN_STATUS_BREAK_SEEN, fCHAIN_STATUS_GEN]⟩
def aCHAIN_TT_CFG : Nat := 0x0D0004
def fCHAIN_TT_CFG_TT_PERIOD : Fld := ⟨aCHAIN_TT_CFG, 35, 28, .rw, .l, .ret, 120⟩
def fCHAIN_TT_CFG_SERVO_BW : Fld := ⟨aCHAIN_TT_CFG, 27, 26, .rw, .l, .ret, 1⟩
def fCHAIN_TT_CFG_SLEW_MAX : Fld := ⟨aCHAIN_TT_CFG, 25, 18, .rw, .l, .ret, 100⟩
def fCHAIN_TT_CFG_SYNC_THRESH : Fld := ⟨aCHAIN_TT_CFG, 17, 10, .rw, .l, .ret, 64⟩
def fCHAIN_TT_CFG_HEAL_HOLD : Fld := ⟨aCHAIN_TT_CFG, 9, 2, .rw, .l, .ret, 40⟩
def rCHAIN_TT_CFG : RegRow := ⟨aCHAIN_TT_CFG, [], [7], 7, [fCHAIN_TT_CFG_TT_PERIOD, fCHAIN_TT_CFG_SERVO_BW, fCHAIN_TT_CFG_SLEW_MAX, fCHAIN_TT_CFG_SYNC_THRESH, fCHAIN_TT_CFG_HEAL_HOLD]⟩
def aCHAIN_LEAD : Nat := 0x0D0005
def fCHAIN_LEAD_LEAD : Fld := ⟨aCHAIN_LEAD, 35, 10, .rw, .l, .ret, 88000⟩
def fCHAIN_LEAD_LOSS_THRESH : Fld := ⟨aCHAIN_LEAD, 9, 0, .rw, .l, .ret, 256⟩
def rCHAIN_LEAD : RegRow := ⟨aCHAIN_LEAD, [], [7], 7, [fCHAIN_LEAD_LEAD, fCHAIN_LEAD_LOSS_THRESH]⟩
def aCHAIN_ASYM : Nat := 0x0D0006
def fCHAIN_ASYM_ASYM : Fld := ⟨aCHAIN_ASYM, 35, 12, .rw, .l, .ret, 0⟩
def rCHAIN_ASYM : RegRow := ⟨aCHAIN_ASYM, [(1, 2)], [7], 7, [fCHAIN_ASYM_ASYM]⟩
def aCHAIN_LINK_STATUS : Nat := 0x0D0008
def fCHAIN_LINK_STATUS_STATE : Fld := ⟨aCHAIN_LINK_STATUS, 35, 34, .ro, .l, .zero, 0⟩
def fCHAIN_LINK_STATUS_LOSS : Fld := ⟨aCHAIN_LINK_STATUS, 33, 33, .w1c, .l, .zero, 0⟩
def fCHAIN_LINK_STATUS_CABLE_ERR : Fld := ⟨aCHAIN_LINK_STATUS, 32, 32, .w1c, .l, .zero, 0⟩
def fCHAIN_LINK_STATUS_NBR_CHANGED : Fld := ⟨aCHAIN_LINK_STATUS, 31, 31, .w1c, .l, .zero, 0⟩
def fCHAIN_LINK_STATUS_CRC_ERRS : Fld := ⟨aCHAIN_LINK_STATUS, 23, 12, .rc, .l, .zero, 0⟩
def fCHAIN_LINK_STATUS_LOSSES : Fld := ⟨aCHAIN_LINK_STATUS, 11, 4, .rc, .l, .zero, 0⟩
def rCHAIN_LINK_STATUS : RegRow := ⟨aCHAIN_LINK_STATUS, [(1, 2)], [7], 7, [fCHAIN_LINK_STATUS_STATE, fCHAIN_LINK_STATUS_LOSS, fCHAIN_LINK_STATUS_CABLE_ERR, fCHAIN_LINK_STATUS_NBR_CHANGED, fCHAIN_LINK_STATUS_CRC_ERRS, fCHAIN_LINK_STATUS_LOSSES]⟩
def aCHAIN_LINK_DELAY : Nat := 0x0D000A
def fCHAIN_LINK_DELAY_DELAY : Fld := ⟨aCHAIN_LINK_DELAY, 35, 0, .ro, .l, .zero, 0⟩
def rCHAIN_LINK_DELAY : RegRow := ⟨aCHAIN_LINK_DELAY, [(1, 2)], [7], 7, [fCHAIN_LINK_DELAY_DELAY]⟩
def aCHAIN_THETA : Nat := 0x0D000C
def fCHAIN_THETA_VALID : Fld := ⟨aCHAIN_THETA, 35, 35, .ro, .l, .zero, 0⟩
def fCHAIN_THETA_THETA : Fld := ⟨aCHAIN_THETA, 34, 0, .ro, .l, .zero, 0⟩
def rCHAIN_THETA : RegRow := ⟨aCHAIN_THETA, [(1, 2)], [7], 7, [fCHAIN_THETA_VALID, fCHAIN_THETA_THETA]⟩
def aCHAIN_PATH : Nat := 0x0D000E
def fCHAIN_PATH_HOPS : Fld := ⟨aCHAIN_PATH, 35, 26, .ro, .l, .zero, 0⟩
def fCHAIN_PATH_NBR_ADDR : Fld := ⟨aCHAIN_PATH, 25, 16, .ro, .l, .zero, 0⟩
def rCHAIN_PATH : RegRow := ⟨aCHAIN_PATH, [(1, 2)], [7], 7, [fCHAIN_PATH_HOPS, fCHAIN_PATH_NBR_ADDR]⟩
def aCHAIN_NBR_SIG : Nat := 0x0D0010
def fCHAIN_NBR_SIG_SIG : Fld := ⟨aCHAIN_NBR_SIG, 35, 0, .ro, .l, .ret, 0⟩
def rCHAIN_NBR_SIG : RegRow := ⟨aCHAIN_NBR_SIG, [(1, 2)], [7], 7, [fCHAIN_NBR_SIG_SIG]⟩
def aCHAIN_ENUM_CMD : Nat := 0x0D0012
def fCHAIN_ENUM_CMD_GO : Fld := ⟨aCHAIN_ENUM_CMD, 35, 35, .w1s, .l, .zero, 0⟩
def fCHAIN_ENUM_CMD_BUSY : Fld := ⟨aCHAIN_ENUM_CMD, 34, 34, .ro, .l, .zero, 0⟩
def fCHAIN_ENUM_CMD_DONE : Fld := ⟨aCHAIN_ENUM_CMD, 33, 33, .w1c, .l, .zero, 0⟩
def fCHAIN_ENUM_CMD_ERR : Fld := ⟨aCHAIN_ENUM_CMD, 32, 29, .ro, .l, .zero, 0⟩
def rCHAIN_ENUM_CMD : RegRow := ⟨aCHAIN_ENUM_CMD, [], [7], 7, [fCHAIN_ENUM_CMD_GO, fCHAIN_ENUM_CMD_BUSY, fCHAIN_ENUM_CMD_DONE, fCHAIN_ENUM_CMD_ERR]⟩
def aCHAIN_TRIG_LO : Nat := 0x0D0013
def fCHAIN_TRIG_LO_COARSE : Fld := ⟨aCHAIN_TRIG_LO, 35, 10, .rw, .l, .zero, 0⟩
def fCHAIN_TRIG_LO_FINE : Fld := ⟨aCHAIN_TRIG_LO, 9, 0, .rw, .l, .zero, 0⟩
def rCHAIN_TRIG_LO : RegRow := ⟨aCHAIN_TRIG_LO, [], [7], 7, [fCHAIN_TRIG_LO_COARSE, fCHAIN_TRIG_LO_FINE]⟩
def aCHAIN_TRIG_HI : Nat := 0x0D0014
def fCHAIN_TRIG_HI_EPOCH : Fld := ⟨aCHAIN_TRIG_HI, 35, 0, .rw, .l, .zero, 0⟩
def rCHAIN_TRIG_HI : RegRow := ⟨aCHAIN_TRIG_HI, [], [7], 7, [fCHAIN_TRIG_HI_EPOCH]⟩
def aCHAIN_TRIG_CTRL : Nat := 0x0D0015
def fCHAIN_TRIG_CTRL_GO : Fld := ⟨aCHAIN_TRIG_CTRL, 35, 35, .w1s, .l, .zero, 0⟩
def fCHAIN_TRIG_CTRL_DST : Fld := ⟨aCHAIN_TRIG_CTRL, 34, 25, .rw, .l, .zero, 0⟩
def fCHAIN_TRIG_CTRL_DLINE : Fld := ⟨aCHAIN_TRIG_CTRL, 24, 19, .rw, .l, .zero, 0⟩
def fCHAIN_TRIG_CTRL_ACTION : Fld := ⟨aCHAIN_TRIG_CTRL, 18, 15, .rw, .l, .zero, 0⟩
def fCHAIN_TRIG_CTRL_GROUP : Fld := ⟨aCHAIN_TRIG_CTRL, 14, 7, .rw, .l, .zero, 0⟩
def rCHAIN_TRIG_CTRL : RegRow := ⟨aCHAIN_TRIG_CTRL, [], [7], 7, [fCHAIN_TRIG_CTRL_GO, fCHAIN_TRIG_CTRL_DST, fCHAIN_TRIG_CTRL_DLINE, fCHAIN_TRIG_CTRL_ACTION, fCHAIN_TRIG_CTRL_GROUP]⟩
def aCHAIN_COUNT : Nat := 0x0D0016
def fCHAIN_COUNT_FRAME_ERRS : Fld := ⟨aCHAIN_COUNT, 35, 27, .rc, .l, .zero, 0⟩
def fCHAIN_COUNT_ROUTE_DROP : Fld := ⟨aCHAIN_COUNT, 26, 18, .rc, .l, .zero, 0⟩
def fCHAIN_COUNT_DUP_DROP : Fld := ⟨aCHAIN_COUNT, 17, 9, .rc, .l, .zero, 0⟩
def fCHAIN_COUNT_DAMAGED_RX : Fld := ⟨aCHAIN_COUNT, 8, 0, .rc, .l, .zero, 0⟩
def rCHAIN_COUNT : RegRow := ⟨aCHAIN_COUNT, [], [7], 7, [fCHAIN_COUNT_FRAME_ERRS, fCHAIN_COUNT_ROUTE_DROP, fCHAIN_COUNT_DUP_DROP, fCHAIN_COUNT_DAMAGED_RX]⟩
def aCHAIN_FAULT_RX : Nat := 0x0D0017
def fCHAIN_FAULT_RX_VALID : Fld := ⟨aCHAIN_FAULT_RX, 35, 35, .w1c, .l, .zero, 0⟩
def fCHAIN_FAULT_RX_SRC : Fld := ⟨aCHAIN_FAULT_RX, 34, 25, .ro, .l, .zero, 0⟩
def fCHAIN_FAULT_RX_COUNT : Fld := ⟨aCHAIN_FAULT_RX, 15, 0, .rc, .l, .zero, 0⟩
def rCHAIN_FAULT_RX : RegRow := ⟨aCHAIN_FAULT_RX, [], [7], 7, [fCHAIN_FAULT_RX_VALID, fCHAIN_FAULT_RX_SRC, fCHAIN_FAULT_RX_COUNT]⟩
def aCHAIN_MOD_CTRL : Nat := 0x0D0018
def fCHAIN_MOD_CTRL_GO : Fld := ⟨aCHAIN_MOD_CTRL, 35, 35, .w1s, .l, .zero, 0⟩
def fCHAIN_MOD_CTRL_RW : Fld := ⟨aCHAIN_MOD_CTRL, 34, 34, .rw, .l, .zero, 0⟩
def fCHAIN_MOD_CTRL_PAGE : Fld := ⟨aCHAIN_MOD_CTRL, 33, 26, .rw, .l, .zero, 0⟩
def fCHAIN_MOD_CTRL_OFFSET : Fld := ⟨aCHAIN_MOD_CTRL, 25, 18, .rw, .l, .zero, 0⟩
def fCHAIN_MOD_CTRL_DATA : Fld := ⟨aCHAIN_MOD_CTRL, 17, 10, .rw, .l, .zero, 0⟩
def fCHAIN_MOD_CTRL_BUSY : Fld := ⟨aCHAIN_MOD_CTRL, 9, 9, .ro, .l, .zero, 0⟩
def fCHAIN_MOD_CTRL_NACK : Fld := ⟨aCHAIN_MOD_CTRL, 8, 8, .w1c, .l, .zero, 0⟩
def fCHAIN_MOD_CTRL_RESET_L : Fld := ⟨aCHAIN_MOD_CTRL, 7, 7, .rw, .l, .lit, 1⟩
def fCHAIN_MOD_CTRL_LPMODE : Fld := ⟨aCHAIN_MOD_CTRL, 6, 6, .rw, .l, .zero, 0⟩
def fCHAIN_MOD_CTRL_PRESENT : Fld := ⟨aCHAIN_MOD_CTRL, 5, 5, .ro, .l, .live, 0⟩
def fCHAIN_MOD_CTRL_INT : Fld := ⟨aCHAIN_MOD_CTRL, 4, 4, .ro, .l, .live, 0⟩
def rCHAIN_MOD_CTRL : RegRow := ⟨aCHAIN_MOD_CTRL, [(1, 2)], [7], 7, [fCHAIN_MOD_CTRL_GO, fCHAIN_MOD_CTRL_RW, fCHAIN_MOD_CTRL_PAGE, fCHAIN_MOD_CTRL_OFFSET, fCHAIN_MOD_CTRL_DATA, fCHAIN_MOD_CTRL_BUSY, fCHAIN_MOD_CTRL_NACK, fCHAIN_MOD_CTRL_RESET_L, fCHAIN_MOD_CTRL_LPMODE, fCHAIN_MOD_CTRL_PRESENT, fCHAIN_MOD_CTRL_INT]⟩
def aCHAIN_EMIT : Nat := 0x0D0020
def fCHAIN_EMIT_EN : Fld := ⟨aCHAIN_EMIT, 35, 35, .rw, .l, .ret, 0⟩
def fCHAIN_EMIT_LINE : Fld := ⟨aCHAIN_EMIT, 34, 29, .rw, .l, .ret, 0⟩
def fCHAIN_EMIT_DST : Fld := ⟨aCHAIN_EMIT, 28, 19, .rw, .l, .ret, 0⟩
def fCHAIN_EMIT_DLINE : Fld := ⟨aCHAIN_EMIT, 18, 13, .rw, .l, .ret, 0⟩
def fCHAIN_EMIT_ACTION : Fld := ⟨aCHAIN_EMIT, 12, 9, .rw, .l, .ret, 0⟩
def fCHAIN_EMIT_GROUP : Fld := ⟨aCHAIN_EMIT, 8, 1, .rw, .l, .ret, 0⟩
def rCHAIN_EMIT : RegRow := ⟨aCHAIN_EMIT, [(1, 8)], [7], 7, [fCHAIN_EMIT_EN, fCHAIN_EMIT_LINE, fCHAIN_EMIT_DST, fCHAIN_EMIT_DLINE, fCHAIN_EMIT_ACTION, fCHAIN_EMIT_GROUP]⟩
def aCHAIN_TXMAP : Nat := 0x0D0100
def fCHAIN_TXMAP_EN : Fld := ⟨aCHAIN_TXMAP, 35, 35, .rw, .s, .draft, 0⟩
def fCHAIN_TXMAP_DST : Fld := ⟨aCHAIN_TXMAP, 34, 25, .rw, .s, .draft, 0⟩
def fCHAIN_TXMAP_TAG : Fld := ⟨aCHAIN_TXMAP, 24, 19, .rw, .s, .draft, 0⟩
def rCHAIN_TXMAP : RegRow := ⟨aCHAIN_TXMAP, [(1, 64)], [7], 7, [fCHAIN_TXMAP_EN, fCHAIN_TXMAP_DST, fCHAIN_TXMAP_TAG]⟩
def aCHAIN_RXMAP : Nat := 0x0D0140
def fCHAIN_RXMAP_EN : Fld := ⟨aCHAIN_RXMAP, 35, 35, .rw, .s, .draft, 0⟩
def fCHAIN_RXMAP_QUEUE : Fld := ⟨aCHAIN_RXMAP, 34, 23, .rw, .s, .draft, 0⟩
def rCHAIN_RXMAP : RegRow := ⟨aCHAIN_RXMAP, [(1, 64)], [7], 7, [fCHAIN_RXMAP_EN, fCHAIN_RXMAP_QUEUE]⟩

/-- Every register word of chapter 14. -/
def regRows14 : List RegRow :=
  [rCHAIN_CFG, rCHAIN_ADDR, rCHAIN_SIG, rCHAIN_STATUS, rCHAIN_TT_CFG, rCHAIN_LEAD, rCHAIN_ASYM, rCHAIN_LINK_STATUS, rCHAIN_LINK_DELAY, rCHAIN_THETA, rCHAIN_PATH, rCHAIN_NBR_SIG, rCHAIN_ENUM_CMD, rCHAIN_TRIG_LO, rCHAIN_TRIG_HI, rCHAIN_TRIG_CTRL, rCHAIN_COUNT, rCHAIN_FAULT_RX, rCHAIN_MOD_CTRL, rCHAIN_EMIT, rCHAIN_TXMAP, rCHAIN_RXMAP]

/-! Chapter 15: host port. -/

def aHOST_CFG : Nat := 0x0E0000
def fHOST_CFG_PERS : Fld := ⟨aHOST_CFG, 35, 34, .rw, .s, .draft, 0⟩
def fHOST_CFG_MAX_GEN : Fld := ⟨aHOST_CFG, 33, 31, .rw, .s, .draft, 0⟩
def fHOST_CFG_MTU : Fld := ⟨aHOST_CFG, 30, 30, .rw, .s, .draft, 0⟩
def fHOST_CFG_VLAN_EN : Fld := ⟨aHOST_CFG, 29, 29, .rw, .s, .draft, 0⟩
def fHOST_CFG_VLAN_ID : Fld := ⟨aHOST_CFG, 28, 17, .rw, .s, .draft, 0⟩
def fHOST_CFG_VLAN_PCP : Fld := ⟨aHOST_CFG, 16, 14, .rw, .s, .draft, 0⟩
def fHOST_CFG_IRQ_VEC : Fld := ⟨aHOST_CFG, 13, 8, .rw, .s, .draft, 0⟩
def rHOST_CFG : RegRow := ⟨aHOST_CFG, [], [7], 7, [fHOST_CFG_PERS, fHOST_CFG_MAX_GEN, fHOST_CFG_MTU, fHOST_CFG_VLAN_EN, fHOST_CFG_VLAN_ID, fHOST_CFG_VLAN_PCP, fHOST_CFG_IRQ_VEC]⟩
def aHOST_STATUS : Nat := 0x0E0001
def fHOST_STATUS_LINK_UP : Fld := ⟨aHOST_STATUS, 35, 35, .ro, .l, .zero, 0⟩
def fHOST_STATUS_GEN : Fld := ⟨aHOST_STATUS, 34, 32, .ro, .l, .zero, 0⟩
def fHOST_STATUS_ACC_ERR : Fld := ⟨aHOST_STATUS, 31, 31, .w1c, .l, .zero, 0⟩
def fHOST_STATUS_RD_TIMEOUT : Fld := ⟨aHOST_STATUS, 30, 30, .w1c, .l, .zero, 0⟩
def fHOST_STATUS_REMOTE_ERR : Fld := ⟨aHOST_STATUS, 29, 29, .w1c, .l, .zero, 0⟩
def fHOST_STATUS_RSP_STATUS : Fld := ⟨aHOST_STATUS, 28, 25, .ro, .l, .zero, 0⟩
def fHOST_STATUS_ETH_DROP : Fld := ⟨aHOST_STATUS, 24, 12, .rc, .l, .zero, 0⟩
def fHOST_STATUS_DUP_REQ : Fld := ⟨aHOST_STATUS, 11, 0, .rc, .l, .zero, 0⟩
def rHOST_STATUS : RegRow := ⟨aHOST_STATUS, [], [7], 7, [fHOST_STATUS_LINK_UP, fHOST_STATUS_GEN, fHOST_STATUS_ACC_ERR, fHOST_STATUS_RD_TIMEOUT, fHOST_STATUS_REMOTE_ERR, fHOST_STATUS_RSP_STATUS, fHOST_STATUS_ETH_DROP, fHOST_STATUS_DUP_REQ]⟩
def aHOST_REMOTE : Nat := 0x0E0002
def fHOST_REMOTE_DST : Fld := ⟨aHOST_REMOTE, 35, 26, .rw, .l, .ret, 1022⟩
def fHOST_REMOTE_ACK : Fld := ⟨aHOST_REMOTE, 25, 25, .rw, .l, .ret, 0⟩
def fHOST_REMOTE_TIMEOUT : Fld := ⟨aHOST_REMOTE, 24, 17, .rw, .l, .ret, 50⟩
def rHOST_REMOTE : RegRow := ⟨aHOST_REMOTE, [], [7], 7, [fHOST_REMOTE_DST, fHOST_REMOTE_ACK, fHOST_REMOTE_TIMEOUT]⟩
def aHOST_ETH_IP : Nat := 0x0E0003
def fHOST_ETH_IP_IP : Fld := ⟨aHOST_ETH_IP, 35, 4, .rw, .l, .ret, 0⟩
def rHOST_ETH_IP : RegRow := ⟨aHOST_ETH_IP, [], [7], 7, [fHOST_ETH_IP_IP]⟩
def aHOST_ETH_PORT : Nat := 0x0E0004
def fHOST_ETH_PORT_REG_PORT : Fld := ⟨aHOST_ETH_PORT, 35, 20, .rw, .l, .ret, 50593⟩
def fHOST_ETH_PORT_STREAM_PORT : Fld := ⟨aHOST_ETH_PORT, 19, 4, .rw, .l, .ret, 50594⟩
def rHOST_ETH_PORT : RegRow := ⟨aHOST_ETH_PORT, [], [7], 7, [fHOST_ETH_PORT_REG_PORT, fHOST_ETH_PORT_STREAM_PORT]⟩
def aHOST_MAC_HI : Nat := 0x0E0005
def fHOST_MAC_HI_MAC_HI : Fld := ⟨aHOST_MAC_HI, 35, 20, .ro, .s, .live, 0⟩
def rHOST_MAC_HI : RegRow := ⟨aHOST_MAC_HI, [], [7], 7, [fHOST_MAC_HI_MAC_HI]⟩
def aHOST_MAC_LO : Nat := 0x0E0006
def fHOST_MAC_LO_MAC_LO : Fld := ⟨aHOST_MAC_LO, 35, 4, .ro, .s, .live, 0⟩
def rHOST_MAC_LO : RegRow := ⟨aHOST_MAC_LO, [], [7], 7, [fHOST_MAC_LO_MAC_LO]⟩
def aHOST_STROBE_LO : Nat := 0x0E0008
def fHOST_STROBE_LO_COARSE : Fld := ⟨aHOST_STROBE_LO, 35, 10, .rw, .l, .zero, 0⟩
def fHOST_STROBE_LO_FINE : Fld := ⟨aHOST_STROBE_LO, 9, 0, .rw, .l, .zero, 0⟩
def rHOST_STROBE_LO : RegRow := ⟨aHOST_STROBE_LO, [], [7], 7, [fHOST_STROBE_LO_COARSE, fHOST_STROBE_LO_FINE]⟩
def aHOST_STROBE_HI : Nat := 0x0E0009
def fHOST_STROBE_HI_EPOCH : Fld := ⟨aHOST_STROBE_HI, 35, 0, .rw, .l, .zero, 0⟩
def rHOST_STROBE_HI : RegRow := ⟨aHOST_STROBE_HI, [], [7], 7, [fHOST_STROBE_HI_EPOCH]⟩
def aHOST_STROBE_CTRL : Nat := 0x0E000A
def fHOST_STROBE_CTRL_GO : Fld := ⟨aHOST_STROBE_CTRL, 35, 35, .w1s, .l, .zero, 0⟩
def fHOST_STROBE_CTRL_REL : Fld := ⟨aHOST_STROBE_CTRL, 34, 34, .rw, .l, .zero, 0⟩
def fHOST_STROBE_CTRL_LINE : Fld := ⟨aHOST_STROBE_CTRL, 33, 28, .rw, .l, .zero, 0⟩
def fHOST_STROBE_CTRL_ACTION : Fld := ⟨aHOST_STROBE_CTRL, 27, 24, .rw, .l, .zero, 0⟩
def rHOST_STROBE_CTRL : RegRow := ⟨aHOST_STROBE_CTRL, [], [7], 7, [fHOST_STROBE_CTRL_GO, fHOST_STROBE_CTRL_REL, fHOST_STROBE_CTRL_LINE, fHOST_STROBE_CTRL_ACTION]⟩
def aHOST_RING_CFG : Nat := 0x0E0040
def fHOST_RING_CFG_EN : Fld := ⟨aHOST_RING_CFG, 35, 35, .rw, .l, .ret, 0⟩
def fHOST_RING_CFG_SIZE : Fld := ⟨aHOST_RING_CFG, 34, 30, .rw, .l, .ret, 0⟩
def fHOST_RING_CFG_VEC : Fld := ⟨aHOST_RING_CFG, 29, 24, .rw, .l, .ret, 0⟩
def fHOST_RING_CFG_DEST : Fld := ⟨aHOST_RING_CFG, 23, 21, .rw, .l, .ret, 0⟩
def fHOST_RING_CFG_MOD_CNT : Fld := ⟨aHOST_RING_CFG, 20, 13, .rw, .l, .ret, 0⟩
def fHOST_RING_CFG_MOD_TIME : Fld := ⟨aHOST_RING_CFG, 12, 3, .rw, .l, .ret, 0⟩
def rHOST_RING_CFG : RegRow := ⟨aHOST_RING_CFG, [(1, 64)], [7], 7, [fHOST_RING_CFG_EN, fHOST_RING_CFG_SIZE, fHOST_RING_CFG_VEC, fHOST_RING_CFG_DEST, fHOST_RING_CFG_MOD_CNT, fHOST_RING_CFG_MOD_TIME]⟩
def aHOST_RING_BASE : Nat := 0x0E0080
def fHOST_RING_BASE_BASE : Fld := ⟨aHOST_RING_BASE, 35, 0, .rw, .l, .zero, 0⟩
def rHOST_RING_BASE : RegRow := ⟨aHOST_RING_BASE, [(1, 64)], [7], 7, [fHOST_RING_BASE_BASE]⟩
def aHOST_RING_WR : Nat := 0x0E00C0
def fHOST_RING_WR_FULL_WAIT : Fld := ⟨aHOST_RING_WR, 35, 35, .ro, .l, .zero, 0⟩
def fHOST_RING_WR_WR : Fld := ⟨aHOST_RING_WR, 29, 0, .ro, .l, .zero, 0⟩
def rHOST_RING_WR : RegRow := ⟨aHOST_RING_WR, [(1, 64)], [7], 7, [fHOST_RING_WR_FULL_WAIT, fHOST_RING_WR_WR]⟩
def aHOST_RING_RD : Nat := 0x0E0100
def fHOST_RING_RD_RD : Fld := ⟨aHOST_RING_RD, 29, 0, .rw, .l, .zero, 0⟩
def rHOST_RING_RD : RegRow := ⟨aHOST_RING_RD, [(1, 64)], [7], 7, [fHOST_RING_RD_RD]⟩
def aHOST_PUSHQ : Nat := 0x0E0140
def fHOST_PUSHQ_QUEUE : Fld := ⟨aHOST_PUSHQ, 35, 24, .rw, .l, .ret, 0⟩
def fHOST_PUSHQ_EN : Fld := ⟨aHOST_PUSHQ, 23, 23, .rw, .l, .ret, 0⟩
def fHOST_PUSHQ_PUSH_ERR : Fld := ⟨aHOST_PUSHQ, 22, 22, .w1c, .l, .zero, 0⟩
def rHOST_PUSHQ : RegRow := ⟨aHOST_PUSHQ, [(1, 64)], [7], 7, [fHOST_PUSHQ_QUEUE, fHOST_PUSHQ_EN, fHOST_PUSHQ_PUSH_ERR]⟩
def aHOST_ETH_DST_IP : Nat := 0x0E0180
def fHOST_ETH_DST_IP_IP : Fld := ⟨aHOST_ETH_DST_IP, 35, 4, .rw, .l, .ret, 0⟩
def rHOST_ETH_DST_IP : RegRow := ⟨aHOST_ETH_DST_IP, [(4, 8)], [7], 7, [fHOST_ETH_DST_IP_IP]⟩
def aHOST_ETH_DST_PORT : Nat := 0x0E0181
def fHOST_ETH_DST_PORT_PORT : Fld := ⟨aHOST_ETH_DST_PORT, 35, 20, .rw, .l, .ret, 0⟩
def fHOST_ETH_DST_PORT_MAC_HI : Fld := ⟨aHOST_ETH_DST_PORT, 19, 4, .rw, .l, .ret, 0⟩
def rHOST_ETH_DST_PORT : RegRow := ⟨aHOST_ETH_DST_PORT, [(4, 8)], [7], 7, [fHOST_ETH_DST_PORT_PORT, fHOST_ETH_DST_PORT_MAC_HI]⟩
def aHOST_ETH_DST_MAC : Nat := 0x0E0182
def fHOST_ETH_DST_MAC_MAC_LO : Fld := ⟨aHOST_ETH_DST_MAC, 35, 4, .rw, .l, .ret, 0⟩
def rHOST_ETH_DST_MAC : RegRow := ⟨aHOST_ETH_DST_MAC, [(4, 8)], [7], 7, [fHOST_ETH_DST_MAC_MAC_LO]⟩

/-- Every register word of chapter 15. -/
def regRows15 : List RegRow :=
  [rHOST_CFG, rHOST_STATUS, rHOST_REMOTE, rHOST_ETH_IP, rHOST_ETH_PORT, rHOST_MAC_HI, rHOST_MAC_LO, rHOST_STROBE_LO, rHOST_STROBE_HI, rHOST_STROBE_CTRL, rHOST_RING_CFG, rHOST_RING_BASE, rHOST_RING_WR, rHOST_RING_RD, rHOST_PUSHQ, rHOST_ETH_DST_IP, rHOST_ETH_DST_PORT, rHOST_ETH_DST_MAC]

end Sys2Proof.Machine
end

