-- ==== Sys2Proof/Machine/RegsD.lean ====
section
/-! DEFINITION. The register map, part D: for every register word the manual lists, its base address, the layout of its
array, its owning islands and power domain, and every field with its bits, access type, change class, restore attribute and
start value (chapters 16, 17, 18, 19, 20, 21, 22, sections "Registers"; R474 gives the owners, R539 the domains). -/

namespace Sys2Proof.Machine

/-! Chapter 16: drafts. -/

def aDRAFT_CTRL : Nat := 0x0F0000
def fDRAFT_CTRL_BEGIN : Fld := ⟨aDRAFT_CTRL, 35, 35, .w1s, .l, .zero, 0⟩
def fDRAFT_CTRL_ABORT : Fld := ⟨aDRAFT_CTRL, 34, 34, .w1s, .l, .zero, 0⟩
def fDRAFT_CTRL_APPLY : Fld := ⟨aDRAFT_CTRL, 33, 33, .w1s, .l, .zero, 0⟩
def fDRAFT_CTRL_COMMIT : Fld := ⟨aDRAFT_CTRL, 32, 32, .w1s, .l, .zero, 0⟩
def fDRAFT_CTRL_SRC : Fld := ⟨aDRAFT_CTRL, 31, 31, .rw, .l, .ret, 0⟩
def fDRAFT_CTRL_QUEUE : Fld := ⟨aDRAFT_CTRL, 30, 19, .rw, .l, .ret, 0⟩
def fDRAFT_CTRL_BUSY : Fld := ⟨aDRAFT_CTRL, 18, 18, .w1c, .l, .zero, 0⟩
def fDRAFT_CTRL_DATA_ERR : Fld := ⟨aDRAFT_CTRL, 17, 17, .w1c, .l, .zero, 0⟩
def rDRAFT_CTRL : RegRow := ⟨aDRAFT_CTRL, [], [8], 1, [fDRAFT_CTRL_BEGIN, fDRAFT_CTRL_ABORT, fDRAFT_CTRL_APPLY, fDRAFT_CTRL_COMMIT, fDRAFT_CTRL_SRC, fDRAFT_CTRL_QUEUE, fDRAFT_CTRL_BUSY, fDRAFT_CTRL_DATA_ERR]⟩
def aDRAFT_STATUS : Nat := 0x0F0001
def fDRAFT_STATUS_STATE : Fld := ⟨aDRAFT_STATUS, 35, 33, .ro, .l, .zero, 0⟩
def fDRAFT_STATUS_REASON : Fld := ⟨aDRAFT_STATUS, 32, 27, .ro, .l, .zero, 0⟩
def fDRAFT_STATUS_RECEIVED : Fld := ⟨aDRAFT_STATUS, 24, 0, .ro, .l, .zero, 0⟩
def rDRAFT_STATUS : RegRow := ⟨aDRAFT_STATUS, [], [8], 1, [fDRAFT_STATUS_STATE, fDRAFT_STATUS_REASON, fDRAFT_STATUS_RECEIVED]⟩
def aDRAFT_FAIL : Nat := 0x0F0002
def fDRAFT_FAIL_FAIL_ADDR : Fld := ⟨aDRAFT_FAIL, 35, 12, .ro, .l, .zero, 0⟩
def fDRAFT_FAIL_FAIL_ISLAND : Fld := ⟨aDRAFT_FAIL, 11, 8, .ro, .l, .zero, 0⟩
def rDRAFT_FAIL : RegRow := ⟨aDRAFT_FAIL, [], [8], 1, [fDRAFT_FAIL_FAIL_ADDR, fDRAFT_FAIL_FAIL_ISLAND]⟩
def aDRAFT_FAIL_OFS : Nat := 0x0F0003
def fDRAFT_FAIL_OFS_OFS : Fld := ⟨aDRAFT_FAIL_OFS, 24, 0, .ro, .l, .zero, 0⟩
def rDRAFT_FAIL_OFS : RegRow := ⟨aDRAFT_FAIL_OFS, [], [8], 1, [fDRAFT_FAIL_OFS_OFS]⟩
def aDRAFT_APPLIED : Nat := 0x0F0004
def fDRAFT_APPLIED_TARGETS : Fld := ⟨aDRAFT_APPLIED, 35, 26, .ro, .l, .live, 0⟩
def fDRAFT_APPLIED_PARTIAL : Fld := ⟨aDRAFT_APPLIED, 25, 25, .ro, .l, .live, 0⟩
def fDRAFT_APPLIED_KEY_SLOT : Fld := ⟨aDRAFT_APPLIED, 24, 23, .ro, .l, .live, 0⟩
def fDRAFT_APPLIED_UNSIGNED : Fld := ⟨aDRAFT_APPLIED, 22, 22, .ro, .l, .live, 0⟩
def fDRAFT_APPLIED_DIVERGED : Fld := ⟨aDRAFT_APPLIED, 21, 21, .ro, .l, .zero, 0⟩
def fDRAFT_APPLIED_LIGHT_SKIP : Fld := ⟨aDRAFT_APPLIED, 20, 20, .w1c, .l, .zero, 0⟩
def fDRAFT_APPLIED_RETUNE_REFUSED : Fld := ⟨aDRAFT_APPLIED, 19, 19, .w1c, .l, .zero, 0⟩
def rDRAFT_APPLIED : RegRow := ⟨aDRAFT_APPLIED, [], [8], 1, [fDRAFT_APPLIED_TARGETS, fDRAFT_APPLIED_PARTIAL, fDRAFT_APPLIED_KEY_SLOT, fDRAFT_APPLIED_UNSIGNED, fDRAFT_APPLIED_DIVERGED, fDRAFT_APPLIED_LIGHT_SKIP, fDRAFT_APPLIED_RETUNE_REFUSED]⟩
def aDRAFT_APPLIED_ID : Nat := 0x0F0005
def fDRAFT_APPLIED_ID_DRAFT_ID : Fld := ⟨aDRAFT_APPLIED_ID, 35, 4, .ro, .l, .live, 0⟩
def rDRAFT_APPLIED_ID : RegRow := ⟨aDRAFT_APPLIED_ID, [], [8], 1, [fDRAFT_APPLIED_ID_DRAFT_ID]⟩
def aDRAFT_COMMIT : Nat := 0x0F0006
def fDRAFT_COMMIT_PENDING : Fld := ⟨aDRAFT_COMMIT, 35, 35, .ro, .l, .zero, 0⟩
def fDRAFT_COMMIT_DONE : Fld := ⟨aDRAFT_COMMIT, 34, 34, .w1c, .l, .zero, 0⟩
def fDRAFT_COMMIT_FAIL : Fld := ⟨aDRAFT_COMMIT, 33, 33, .w1c, .l, .zero, 0⟩
def fDRAFT_COMMIT_CAUSE : Fld := ⟨aDRAFT_COMMIT, 32, 30, .ro, .l, .zero, 0⟩
def fDRAFT_COMMIT_SLOT : Fld := ⟨aDRAFT_COMMIT, 29, 29, .ro, .l, .live, 0⟩
def fDRAFT_COMMIT_ELEMENTS : Fld := ⟨aDRAFT_COMMIT, 28, 24, .ro, .l, .live, 0⟩
def fDRAFT_COMMIT_AUTO_RESUME : Fld := ⟨aDRAFT_COMMIT, 23, 23, .ro, .l, .live, 0⟩
def rDRAFT_COMMIT : RegRow := ⟨aDRAFT_COMMIT, [], [8], 1, [fDRAFT_COMMIT_PENDING, fDRAFT_COMMIT_DONE, fDRAFT_COMMIT_FAIL, fDRAFT_COMMIT_CAUSE, fDRAFT_COMMIT_SLOT, fDRAFT_COMMIT_ELEMENTS, fDRAFT_COMMIT_AUTO_RESUME]⟩
def aDRAFT_COMMIT_SEQ : Nat := 0x0F0007
def fDRAFT_COMMIT_SEQ_SEQ : Fld := ⟨aDRAFT_COMMIT_SEQ, 35, 4, .ro, .l, .live, 0⟩
def rDRAFT_COMMIT_SEQ : RegRow := ⟨aDRAFT_COMMIT_SEQ, [], [8], 1, [fDRAFT_COMMIT_SEQ_SEQ]⟩
def aDRAFT_KEYS : Nat := 0x0F0008
def fDRAFT_KEYS_PROG : Fld := ⟨aDRAFT_KEYS, 35, 32, .ro, .s, .live, 0⟩
def fDRAFT_KEYS_REVOKED : Fld := ⟨aDRAFT_KEYS, 31, 28, .ro, .s, .live, 0⟩
def rDRAFT_KEYS : RegRow := ⟨aDRAFT_KEYS, [], [8], 1, [fDRAFT_KEYS_PROG, fDRAFT_KEYS_REVOKED]⟩
def aDRAFT_SCAN : Nat := 0x0F0009
def fDRAFT_SCAN_SCAN_EN : Fld := ⟨aDRAFT_SCAN, 35, 35, .rw, .l, .ret, 1⟩
def fDRAFT_SCAN_CRC_FAIL : Fld := ⟨aDRAFT_SCAN, 34, 34, .w1c, .l, .zero, 0⟩
def fDRAFT_SCAN_FAIL_ISLAND : Fld := ⟨aDRAFT_SCAN, 33, 30, .ro, .l, .zero, 0⟩
def fDRAFT_SCAN_SUSPENDED : Fld := ⟨aDRAFT_SCAN, 29, 29, .ro, .l, .zero, 0⟩
def fDRAFT_SCAN_PASSES : Fld := ⟨aDRAFT_SCAN, 15, 0, .rc, .l, .zero, 0⟩
def rDRAFT_SCAN : RegRow := ⟨aDRAFT_SCAN, [], [8], 1, [fDRAFT_SCAN_SCAN_EN, fDRAFT_SCAN_CRC_FAIL, fDRAFT_SCAN_FAIL_ISLAND, fDRAFT_SCAN_SUSPENDED, fDRAFT_SCAN_PASSES]⟩
def aDRAFT_COUNT : Nat := 0x0F000A
def fDRAFT_COUNT_LOADS : Fld := ⟨aDRAFT_COUNT, 35, 24, .rc, .l, .zero, 0⟩
def fDRAFT_COUNT_REJECTS : Fld := ⟨aDRAFT_COUNT, 23, 12, .rc, .l, .zero, 0⟩
def rDRAFT_COUNT : RegRow := ⟨aDRAFT_COUNT, [], [8], 1, [fDRAFT_COUNT_LOADS, fDRAFT_COUNT_REJECTS]⟩
def aDRAFT_ISL_CRC : Nat := 0x0F0010
def fDRAFT_ISL_CRC_CRC : Fld := ⟨aDRAFT_ISL_CRC, 31, 0, .ro, .l, .live, 0⟩
def rDRAFT_ISL_CRC : RegRow := ⟨aDRAFT_ISL_CRC, [(1, 9)], [8], 1, [fDRAFT_ISL_CRC_CRC]⟩
def aDRAFT_DATA : Nat := 0x0F1000
def fDRAFT_DATA_BYTES : Fld := ⟨aDRAFT_DATA, 31, 0, .wo, .l, .live, 0⟩
def rDRAFT_DATA : RegRow := ⟨aDRAFT_DATA, [(1, 8192)], [8], 1, [fDRAFT_DATA_BYTES]⟩
def aCLUSTER_DESC : Nat := 0xC00000
def fCLUSTER_DESC_SLOT : Fld := ⟨aCLUSTER_DESC, 35, 0, .rw, .s, .draft, 0⟩
def rCLUSTER_DESC : RegRow := ⟨aCLUSTER_DESC, [(16, 64), (4, 4), (1, 4)], [4], 4, [fCLUSTER_DESC_SLOT]⟩
def aCORR_REF : Nat := 0xD00000
def fCORR_REF_REF : Fld := ⟨aCORR_REF, 35, 0, .rw, .s, .draft, 0⟩
def rCORR_REF : RegRow := ⟨aCORR_REF, [(262144, 2), (16384, 16), (1, 8192)], [4], 4, [fCORR_REF_REF]⟩
def aCORR_HDR : Nat := 0xD02000
def fCORR_HDR_REF : Fld := ⟨aCORR_HDR, 35, 0, .rw, .s, .draft, 0⟩
def rCORR_HDR : RegRow := ⟨aCORR_HDR, [(262144, 2), (16384, 16)], [4], 4, [fCORR_HDR_REF]⟩

/-- Every register word of chapter 16. -/
def regRows16 : List RegRow :=
  [rDRAFT_CTRL, rDRAFT_STATUS, rDRAFT_FAIL, rDRAFT_FAIL_OFS, rDRAFT_APPLIED, rDRAFT_APPLIED_ID, rDRAFT_COMMIT, rDRAFT_COMMIT_SEQ, rDRAFT_KEYS, rDRAFT_SCAN, rDRAFT_COUNT, rDRAFT_ISL_CRC, rDRAFT_DATA, rCLUSTER_DESC, rCORR_REF, rCORR_HDR]

/-! Chapter 17: holds, groups and maintenance. -/

def aISLAND_HOLD : Nat := 0x000040
def fISLAND_HOLD_REQ : Fld := ⟨aISLAND_HOLD, 35, 27, .rw, .l, .zero, 0⟩
def fISLAND_HOLD_HELD : Fld := ⟨aISLAND_HOLD, 26, 18, .ro, .l, .zero, 0⟩
def fISLAND_HOLD_HOLD_EXPIRED : Fld := ⟨aISLAND_HOLD, 17, 17, .w1c, .l, .zero, 0⟩
def fISLAND_HOLD_HOLD_LIMIT : Fld := ⟨aISLAND_HOLD, 16, 5, .rw, .l, .ret, 4000⟩
def rISLAND_HOLD : RegRow := ⟨aISLAND_HOLD, [], [0], 1, [fISLAND_HOLD_REQ, fISLAND_HOLD_HELD, fISLAND_HOLD_HOLD_EXPIRED, fISLAND_HOLD_HOLD_LIMIT]⟩
def aCFG_BUSY_LOG : Nat := 0x000041
def fCFG_BUSY_LOG_ISLAND : Fld := ⟨aCFG_BUSY_LOG, 35, 27, .w1c, .l, .zero, 0⟩
def fCFG_BUSY_LOG_COUNT : Fld := ⟨aCFG_BUSY_LOG, 15, 0, .rc, .l, .zero, 0⟩
def rCFG_BUSY_LOG : RegRow := ⟨aCFG_BUSY_LOG, [], [0], 1, [fCFG_BUSY_LOG_ISLAND, fCFG_BUSY_LOG_COUNT]⟩
def aCFG_BUSY_FIRST : Nat := 0x000042
def fCFG_BUSY_FIRST_FIRST_VALID : Fld := ⟨aCFG_BUSY_FIRST, 35, 35, .w1c, .l, .zero, 0⟩
def fCFG_BUSY_FIRST_PATH : Fld := ⟨aCFG_BUSY_FIRST, 34, 32, .ro, .l, .zero, 0⟩
def fCFG_BUSY_FIRST_ADDR : Fld := ⟨aCFG_BUSY_FIRST, 31, 8, .ro, .l, .zero, 0⟩
def rCFG_BUSY_FIRST : RegRow := ⟨aCFG_BUSY_FIRST, [], [0], 1, [fCFG_BUSY_FIRST_FIRST_VALID, fCFG_BUSY_FIRST_PATH, fCFG_BUSY_FIRST_ADDR]⟩
def aGROUP_TAPPLY_LO : Nat := 0x000050
def fGROUP_TAPPLY_LO_COARSE : Fld := ⟨aGROUP_TAPPLY_LO, 35, 10, .rw, .l, .zero, 0⟩
def fGROUP_TAPPLY_LO_FINE : Fld := ⟨aGROUP_TAPPLY_LO, 9, 0, .rw, .l, .zero, 0⟩
def rGROUP_TAPPLY_LO : RegRow := ⟨aGROUP_TAPPLY_LO, [], [0], 1, [fGROUP_TAPPLY_LO_COARSE, fGROUP_TAPPLY_LO_FINE]⟩
def aGROUP_TAPPLY_HI : Nat := 0x000051
def fGROUP_TAPPLY_HI_EPOCH : Fld := ⟨aGROUP_TAPPLY_HI, 35, 0, .rw, .l, .zero, 0⟩
def rGROUP_TAPPLY_HI : RegRow := ⟨aGROUP_TAPPLY_HI, [], [0], 1, [fGROUP_TAPPLY_HI_EPOCH]⟩
def aGROUP_TAPPLY_CTRL : Nat := 0x000052
def fGROUP_TAPPLY_CTRL_ARM : Fld := ⟨aGROUP_TAPPLY_CTRL, 35, 35, .w1s, .l, .zero, 0⟩
def fGROUP_TAPPLY_CTRL_GROUP : Fld := ⟨aGROUP_TAPPLY_CTRL, 34, 27, .rw, .l, .zero, 0⟩
def fGROUP_TAPPLY_CTRL_PENDING : Fld := ⟨aGROUP_TAPPLY_CTRL, 26, 26, .ro, .l, .zero, 0⟩
def fGROUP_TAPPLY_CTRL_DONE : Fld := ⟨aGROUP_TAPPLY_CTRL, 25, 25, .w1c, .l, .zero, 0⟩
def fGROUP_TAPPLY_CTRL_CANCEL : Fld := ⟨aGROUP_TAPPLY_CTRL, 24, 24, .w1s, .l, .zero, 0⟩
def fGROUP_TAPPLY_CTRL_ARM_BUSY : Fld := ⟨aGROUP_TAPPLY_CTRL, 23, 23, .w1c, .l, .zero, 0⟩
def fGROUP_TAPPLY_CTRL_GROUP_LATE : Fld := ⟨aGROUP_TAPPLY_CTRL, 22, 22, .w1c, .l, .zero, 0⟩
def fGROUP_TAPPLY_CTRL_GROUP_OFF : Fld := ⟨aGROUP_TAPPLY_CTRL, 21, 21, .w1c, .l, .zero, 0⟩
def rGROUP_TAPPLY_CTRL : RegRow := ⟨aGROUP_TAPPLY_CTRL, [], [0], 1, [fGROUP_TAPPLY_CTRL_ARM, fGROUP_TAPPLY_CTRL_GROUP, fGROUP_TAPPLY_CTRL_PENDING, fGROUP_TAPPLY_CTRL_DONE, fGROUP_TAPPLY_CTRL_CANCEL, fGROUP_TAPPLY_CTRL_ARM_BUSY, fGROUP_TAPPLY_CTRL_GROUP_LATE, fGROUP_TAPPLY_CTRL_GROUP_OFF]⟩
def aGROUP_COUNT : Nat := 0x000053
def fGROUP_COUNT_APPLIED : Fld := ⟨aGROUP_COUNT, 35, 18, .rc, .l, .zero, 0⟩
def fGROUP_COUNT_DISCARDED : Fld := ⟨aGROUP_COUNT, 17, 0, .rc, .l, .zero, 0⟩
def rGROUP_COUNT : RegRow := ⟨aGROUP_COUNT, [], [0], 1, [fGROUP_COUNT_APPLIED, fGROUP_COUNT_DISCARDED]⟩
def aMAINT_STATUS : Nat := 0x000070
def fMAINT_STATUS_MAINT_BUSY : Fld := ⟨aMAINT_STATUS, 35, 35, .w1c, .l, .zero, 0⟩
def fMAINT_STATUS_LAST_ACT : Fld := ⟨aMAINT_STATUS, 34, 31, .ro, .l, .zero, 0⟩
def fMAINT_STATUS_LAST_RES : Fld := ⟨aMAINT_STATUS, 30, 26, .ro, .l, .zero, 0⟩
def fMAINT_STATUS_REFUSALS : Fld := ⟨aMAINT_STATUS, 15, 0, .rc, .l, .zero, 0⟩
def rMAINT_STATUS : RegRow := ⟨aMAINT_STATUS, [], [0], 1, [fMAINT_STATUS_MAINT_BUSY, fMAINT_STATUS_LAST_ACT, fMAINT_STATUS_LAST_RES, fMAINT_STATUS_REFUSALS]⟩
def aMAINT_CLAIM : Nat := 0x000071
def fMAINT_CLAIM_GO : Fld := ⟨aMAINT_CLAIM, 35, 35, .w1s, .l, .zero, 0⟩
def fMAINT_CLAIM_RELEASE : Fld := ⟨aMAINT_CLAIM, 34, 34, .w1s, .l, .zero, 0⟩
def fMAINT_CLAIM_ACT : Fld := ⟨aMAINT_CLAIM, 33, 30, .rw, .l, .zero, 0⟩
def fMAINT_CLAIM_REFUSED : Fld := ⟨aMAINT_CLAIM, 29, 29, .w1c, .l, .zero, 0⟩
def fMAINT_CLAIM_ACTIVE : Fld := ⟨aMAINT_CLAIM, 28, 14, .ro, .l, .zero, 0⟩
def rMAINT_CLAIM : RegRow := ⟨aMAINT_CLAIM, [], [0], 1, [fMAINT_CLAIM_GO, fMAINT_CLAIM_RELEASE, fMAINT_CLAIM_ACT, fMAINT_CLAIM_REFUSED, fMAINT_CLAIM_ACTIVE]⟩
def aMAINT_HELD : Nat := 0x000072
def fMAINT_HELD_HELD : Fld := ⟨aMAINT_HELD, 31, 0, .ro, .l, .zero, 0⟩
def rMAINT_HELD : RegRow := ⟨aMAINT_HELD, [], [0], 1, [fMAINT_HELD_HELD]⟩
def aMAINT_OWNER : Nat := 0x000080
def fMAINT_OWNER_WRITER : Fld := ⟨aMAINT_OWNER, 35, 32, .ro, .l, .zero, 0⟩
def fMAINT_OWNER_READERS : Fld := ⟨aMAINT_OWNER, 31, 17, .ro, .l, .zero, 0⟩
def rMAINT_OWNER : RegRow := ⟨aMAINT_OWNER, [(1, 32)], [0], 1, [fMAINT_OWNER_WRITER, fMAINT_OWNER_READERS]⟩
def aAPPLY_GROUP : Nat := 0x000100
def fAPPLY_GROUP_EN : Fld := ⟨aAPPLY_GROUP, 35, 35, .rw, .l, .ret, 0⟩
def fAPPLY_GROUP_BANK_MASK : Fld := ⟨aAPPLY_GROUP, 34, 27, .rw, .l, .ret, 0⟩
def fAPPLY_GROUP_CH_MASK : Fld := ⟨aAPPLY_GROUP, 26, 19, .rw, .l, .ret, 0⟩
def fAPPLY_GROUP_OUT_MASK : Fld := ⟨aAPPLY_GROUP, 18, 11, .rw, .l, .ret, 0⟩
def fAPPLY_GROUP_SEQ_MASK : Fld := ⟨aAPPLY_GROUP, 10, 9, .rw, .l, .ret, 0⟩
def fAPPLY_GROUP_PROBE_MASK : Fld := ⟨aAPPLY_GROUP, 8, 7, .rw, .l, .ret, 0⟩
def fAPPLY_GROUP_RX_MASK : Fld := ⟨aAPPLY_GROUP, 6, 5, .rw, .l, .ret, 0⟩
def rAPPLY_GROUP : RegRow := ⟨aAPPLY_GROUP, [(1, 256)], [0], 1, [fAPPLY_GROUP_EN, fAPPLY_GROUP_BANK_MASK, fAPPLY_GROUP_CH_MASK, fAPPLY_GROUP_OUT_MASK, fAPPLY_GROUP_SEQ_MASK, fAPPLY_GROUP_PROBE_MASK, fAPPLY_GROUP_RX_MASK]⟩

/-- Every register word of chapter 17. -/
def regRows17 : List RegRow :=
  [rISLAND_HOLD, rCFG_BUSY_LOG, rCFG_BUSY_FIRST, rGROUP_TAPPLY_LO, rGROUP_TAPPLY_HI, rGROUP_TAPPLY_CTRL, rGROUP_COUNT, rMAINT_STATUS, rMAINT_CLAIM, rMAINT_HELD, rMAINT_OWNER, rAPPLY_GROUP]

/-! Chapter 18: management. -/

def aMGMT_CFG : Nat := 0x100000
def fMGMT_CFG_FW_EN : Fld := ⟨aMGMT_CFG, 35, 35, .rw, .l, .ret, 1⟩
def rMGMT_CFG : RegRow := ⟨aMGMT_CFG, [], [8], 1, [fMGMT_CFG_FW_EN]⟩
def aMGMT_STATUS : Nat := 0x100001
def fMGMT_STATUS_FW_STATE : Fld := ⟨aMGMT_STATUS, 35, 34, .ro, .l, .live, 0⟩
def fMGMT_STATUS_FW_SLOT : Fld := ⟨aMGMT_STATUS, 33, 33, .ro, .l, .live, 0⟩
def fMGMT_STATUS_BOOT_OK : Fld := ⟨aMGMT_STATUS, 32, 32, .w1s, .l, .zero, 0⟩
def fMGMT_STATUS_BOOT_FAILS : Fld := ⟨aMGMT_STATUS, 31, 30, .ro, .l, .live, 0⟩
def fMGMT_STATUS_FW_FALLBACK : Fld := ⟨aMGMT_STATUS, 29, 29, .w1c, .l, .zero, 0⟩
def fMGMT_STATUS_FW_AVOID : Fld := ⟨aMGMT_STATUS, 28, 27, .ro, .l, .live, 0⟩
def fMGMT_STATUS_RESET_CAUSE : Fld := ⟨aMGMT_STATUS, 26, 23, .ro, .l, .live, 0⟩
def fMGMT_STATUS_REBOOT : Fld := ⟨aMGMT_STATUS, 22, 22, .w1s, .l, .zero, 0⟩
def rMGMT_STATUS : RegRow := ⟨aMGMT_STATUS, [], [8], 1, [fMGMT_STATUS_FW_STATE, fMGMT_STATUS_FW_SLOT, fMGMT_STATUS_BOOT_OK, fMGMT_STATUS_BOOT_FAILS, fMGMT_STATUS_FW_FALLBACK, fMGMT_STATUS_FW_AVOID, fMGMT_STATUS_RESET_CAUSE, fMGMT_STATUS_REBOOT]⟩
def aMGMT_WDT : Nat := 0x100003
def fMGMT_WDT_EN : Fld := ⟨aMGMT_WDT, 35, 35, .rw, .l, .ret, 1⟩
def fMGMT_WDT_PERIOD : Fld := ⟨aMGMT_WDT, 34, 27, .rw, .l, .ret, 16⟩
def fMGMT_WDT_KICK : Fld := ⟨aMGMT_WDT, 26, 26, .w1s, .l, .zero, 0⟩
def fMGMT_WDT_EXPIRED : Fld := ⟨aMGMT_WDT, 25, 25, .w1c, .l, .zero, 0⟩
def rMGMT_WDT : RegRow := ⟨aMGMT_WDT, [], [8], 1, [fMGMT_WDT_EN, fMGMT_WDT_PERIOD, fMGMT_WDT_KICK, fMGMT_WDT_EXPIRED]⟩
def aMGMT_RESUME : Nat := 0x100004
def fMGMT_RESUME_RESUME : Fld := ⟨aMGMT_RESUME, 35, 35, .w1s, .l, .zero, 0⟩
def fMGMT_RESUME_HOLD_ACTIVE : Fld := ⟨aMGMT_RESUME, 34, 34, .ro, .l, .lit, 1⟩
def fMGMT_RESUME_AUTO_ARMED : Fld := ⟨aMGMT_RESUME, 33, 33, .ro, .l, .live, 0⟩
def fMGMT_RESUME_COND_CLK : Fld := ⟨aMGMT_RESUME, 32, 32, .ro, .l, .zero, 0⟩
def fMGMT_RESUME_COND_CHAIN : Fld := ⟨aMGMT_RESUME, 31, 31, .ro, .l, .zero, 0⟩
def fMGMT_RESUME_COND_CAL : Fld := ⟨aMGMT_RESUME, 30, 30, .ro, .l, .zero, 0⟩
def fMGMT_RESUME_RESUMED_BY : Fld := ⟨aMGMT_RESUME, 29, 28, .ro, .l, .zero, 0⟩
def fMGMT_RESUME_RESUME_EARLY : Fld := ⟨aMGMT_RESUME, 27, 27, .w1c, .l, .zero, 0⟩
def rMGMT_RESUME : RegRow := ⟨aMGMT_RESUME, [], [8], 1, [fMGMT_RESUME_RESUME, fMGMT_RESUME_HOLD_ACTIVE, fMGMT_RESUME_AUTO_ARMED, fMGMT_RESUME_COND_CLK, fMGMT_RESUME_COND_CHAIN, fMGMT_RESUME_COND_CAL, fMGMT_RESUME_RESUMED_BY, fMGMT_RESUME_RESUME_EARLY]⟩
def aMGMT_RESTORE : Nat := 0x100005
def fMGMT_RESTORE_RESTORE_DONE : Fld := ⟨aMGMT_RESTORE, 35, 35, .ro, .l, .zero, 0⟩
def fMGMT_RESTORE_FW_SRC : Fld := ⟨aMGMT_RESTORE, 34, 33, .ro, .l, .live, 0⟩
def fMGMT_RESTORE_DRAFT_SRC : Fld := ⟨aMGMT_RESTORE, 32, 31, .ro, .l, .live, 0⟩
def fMGMT_RESTORE_CAL_SRC : Fld := ⟨aMGMT_RESTORE, 30, 29, .ro, .l, .live, 0⟩
def fMGMT_RESTORE_CKPT_RES : Fld := ⟨aMGMT_RESTORE, 28, 27, .ro, .l, .live, 0⟩
def fMGMT_RESTORE_DRAFT_OLD : Fld := ⟨aMGMT_RESTORE, 26, 26, .ro, .l, .live, 0⟩
def fMGMT_RESTORE_CAL_OLD : Fld := ⟨aMGMT_RESTORE, 25, 25, .ro, .l, .live, 0⟩
def fMGMT_RESTORE_CKPT_OLD : Fld := ⟨aMGMT_RESTORE, 24, 24, .ro, .l, .live, 0⟩
def fMGMT_RESTORE_ELEMENTS : Fld := ⟨aMGMT_RESTORE, 23, 19, .ro, .l, .live, 0⟩
def fMGMT_RESTORE_WAKE_HANDOFF : Fld := ⟨aMGMT_RESTORE, 18, 18, .ro, .l, .live, 0⟩
def fMGMT_RESTORE_WAKE_TAKEOVER : Fld := ⟨aMGMT_RESTORE, 17, 17, .ro, .l, .live, 0⟩
def rMGMT_RESTORE : RegRow := ⟨aMGMT_RESTORE, [], [8], 1, [fMGMT_RESTORE_RESTORE_DONE, fMGMT_RESTORE_FW_SRC, fMGMT_RESTORE_DRAFT_SRC, fMGMT_RESTORE_CAL_SRC, fMGMT_RESTORE_CKPT_RES, fMGMT_RESTORE_DRAFT_OLD, fMGMT_RESTORE_CAL_OLD, fMGMT_RESTORE_CKPT_OLD, fMGMT_RESTORE_ELEMENTS, fMGMT_RESTORE_WAKE_HANDOFF, fMGMT_RESTORE_WAKE_TAKEOVER]⟩
def aMGMT_CKPT : Nat := 0x100006
def fMGMT_CKPT_GO : Fld := ⟨aMGMT_CKPT, 35, 35, .w1s, .l, .zero, 0⟩
def fMGMT_CKPT_BUSY : Fld := ⟨aMGMT_CKPT, 34, 34, .ro, .l, .zero, 0⟩
def fMGMT_CKPT_DONE : Fld := ⟨aMGMT_CKPT, 33, 33, .w1c, .l, .zero, 0⟩
def fMGMT_CKPT_FAIL : Fld := ⟨aMGMT_CKPT, 32, 32, .w1c, .l, .zero, 0⟩
def fMGMT_CKPT_CAUSE : Fld := ⟨aMGMT_CKPT, 31, 29, .ro, .l, .zero, 0⟩
def fMGMT_CKPT_ENTRIES : Fld := ⟨aMGMT_CKPT, 28, 16, .ro, .l, .zero, 0⟩
def rMGMT_CKPT : RegRow := ⟨aMGMT_CKPT, [], [8], 1, [fMGMT_CKPT_GO, fMGMT_CKPT_BUSY, fMGMT_CKPT_DONE, fMGMT_CKPT_FAIL, fMGMT_CKPT_CAUSE, fMGMT_CKPT_ENTRIES]⟩
def aMGMT_CKPT_SEQ : Nat := 0x100007
def fMGMT_CKPT_SEQ_SEQ : Fld := ⟨aMGMT_CKPT_SEQ, 35, 4, .ro, .l, .live, 0⟩
def rMGMT_CKPT_SEQ : RegRow := ⟨aMGMT_CKPT_SEQ, [], [8], 1, [fMGMT_CKPT_SEQ_SEQ]⟩
def aMGMT_CALSET : Nat := 0x100008
def fMGMT_CALSET_GO : Fld := ⟨aMGMT_CALSET, 35, 35, .w1s, .l, .zero, 0⟩
def fMGMT_CALSET_BUSY : Fld := ⟨aMGMT_CALSET, 34, 34, .ro, .l, .zero, 0⟩
def fMGMT_CALSET_DONE : Fld := ⟨aMGMT_CALSET, 33, 33, .w1c, .l, .zero, 0⟩
def fMGMT_CALSET_FAIL : Fld := ⟨aMGMT_CALSET, 32, 32, .w1c, .l, .zero, 0⟩
def fMGMT_CALSET_CAUSE : Fld := ⟨aMGMT_CALSET, 31, 29, .ro, .l, .zero, 0⟩
def fMGMT_CALSET_SET : Fld := ⟨aMGMT_CALSET, 28, 28, .ro, .l, .zero, 0⟩
def rMGMT_CALSET : RegRow := ⟨aMGMT_CALSET, [], [8], 1, [fMGMT_CALSET_GO, fMGMT_CALSET_BUSY, fMGMT_CALSET_DONE, fMGMT_CALSET_FAIL, fMGMT_CALSET_CAUSE, fMGMT_CALSET_SET]⟩
def aMGMT_FW_CTRL : Nat := 0x100009
def fMGMT_FW_CTRL_BEGIN : Fld := ⟨aMGMT_FW_CTRL, 35, 35, .w1s, .l, .zero, 0⟩
def fMGMT_FW_CTRL_ABORT : Fld := ⟨aMGMT_FW_CTRL, 34, 34, .w1s, .l, .zero, 0⟩
def fMGMT_FW_CTRL_STATE : Fld := ⟨aMGMT_FW_CTRL, 33, 32, .ro, .l, .zero, 0⟩
def fMGMT_FW_CTRL_RESULT : Fld := ⟨aMGMT_FW_CTRL, 31, 28, .ro, .l, .zero, 0⟩
def fMGMT_FW_CTRL_SLOT : Fld := ⟨aMGMT_FW_CTRL, 27, 27, .ro, .l, .zero, 0⟩
def fMGMT_FW_CTRL_RECEIVED : Fld := ⟨aMGMT_FW_CTRL, 21, 0, .ro, .l, .zero, 0⟩
def rMGMT_FW_CTRL : RegRow := ⟨aMGMT_FW_CTRL, [], [8], 1, [fMGMT_FW_CTRL_BEGIN, fMGMT_FW_CTRL_ABORT, fMGMT_FW_CTRL_STATE, fMGMT_FW_CTRL_RESULT, fMGMT_FW_CTRL_SLOT, fMGMT_FW_CTRL_RECEIVED]⟩
def aMGMT_MBX_CMD : Nat := 0x100010
def fMGMT_MBX_CMD_GO : Fld := ⟨aMGMT_MBX_CMD, 35, 35, .w1s, .l, .zero, 0⟩
def fMGMT_MBX_CMD_OPCODE : Fld := ⟨aMGMT_MBX_CMD, 34, 27, .rw, .l, .zero, 0⟩
def fMGMT_MBX_CMD_TAG : Fld := ⟨aMGMT_MBX_CMD, 26, 19, .rw, .l, .zero, 0⟩
def fMGMT_MBX_CMD_MBX_BUSY : Fld := ⟨aMGMT_MBX_CMD, 18, 18, .w1c, .l, .zero, 0⟩
def rMGMT_MBX_CMD : RegRow := ⟨aMGMT_MBX_CMD, [], [8], 1, [fMGMT_MBX_CMD_GO, fMGMT_MBX_CMD_OPCODE, fMGMT_MBX_CMD_TAG, fMGMT_MBX_CMD_MBX_BUSY]⟩
def aMGMT_MBX_ARG : Nat := 0x100011
def fMGMT_MBX_ARG_ARG : Fld := ⟨aMGMT_MBX_ARG, 35, 0, .rw, .l, .zero, 0⟩
def rMGMT_MBX_ARG : RegRow := ⟨aMGMT_MBX_ARG, [(1, 8)], [8], 1, [fMGMT_MBX_ARG_ARG]⟩
def aMGMT_MBX_RSP : Nat := 0x100019
def fMGMT_MBX_RSP_DONE : Fld := ⟨aMGMT_MBX_RSP, 35, 35, .w1c, .l, .zero, 0⟩
def fMGMT_MBX_RSP_TAG : Fld := ⟨aMGMT_MBX_RSP, 34, 27, .ro, .l, .zero, 0⟩
def fMGMT_MBX_RSP_STATUS : Fld := ⟨aMGMT_MBX_RSP, 26, 23, .ro, .l, .zero, 0⟩
def fMGMT_MBX_RSP_DCOUNT : Fld := ⟨aMGMT_MBX_RSP, 22, 19, .ro, .l, .zero, 0⟩
def rMGMT_MBX_RSP : RegRow := ⟨aMGMT_MBX_RSP, [], [8], 1, [fMGMT_MBX_RSP_DONE, fMGMT_MBX_RSP_TAG, fMGMT_MBX_RSP_STATUS, fMGMT_MBX_RSP_DCOUNT]⟩
def aMGMT_MBX_DATA : Nat := 0x10001A
def fMGMT_MBX_DATA_DATA : Fld := ⟨aMGMT_MBX_DATA, 35, 0, .ro, .l, .zero, 0⟩
def rMGMT_MBX_DATA : RegRow := ⟨aMGMT_MBX_DATA, [(1, 8)], [8], 1, [fMGMT_MBX_DATA_DATA]⟩
def aMGMT_ERR : Nat := 0x100030
def fMGMT_ERR_LOCKSTEP : Fld := ⟨aMGMT_ERR, 35, 35, .w1c, .l, .zero, 0⟩
def fMGMT_ERR_DBE : Fld := ⟨aMGMT_ERR, 34, 34, .w1c, .l, .zero, 0⟩
def fMGMT_ERR_SBE_COUNT : Fld := ⟨aMGMT_ERR, 23, 12, .rc, .l, .zero, 0⟩
def fMGMT_ERR_MGMT_RESETS : Fld := ⟨aMGMT_ERR, 11, 0, .rc, .l, .zero, 0⟩
def rMGMT_ERR : RegRow := ⟨aMGMT_ERR, [], [8], 1, [fMGMT_ERR_LOCKSTEP, fMGMT_ERR_DBE, fMGMT_ERR_SBE_COUNT, fMGMT_ERR_MGMT_RESETS]⟩
def aMGMT_POLICY : Nat := 0x100040
def fMGMT_POLICY_VALUE : Fld := ⟨aMGMT_POLICY, 35, 0, .rw, .l, .ret, 0⟩
def rMGMT_POLICY : RegRow := ⟨aMGMT_POLICY, [(1, 6)], [8], 1, [fMGMT_POLICY_VALUE]⟩
def aMGMT_FW_DATA : Nat := 0x101000
def fMGMT_FW_DATA_BYTES : Fld := ⟨aMGMT_FW_DATA, 31, 0, .wo, .l, .live, 0⟩
def rMGMT_FW_DATA : RegRow := ⟨aMGMT_FW_DATA, [(1, 8192)], [8], 1, [fMGMT_FW_DATA_BYTES]⟩

/-- Every register word of chapter 18. -/
def regRows18 : List RegRow :=
  [rMGMT_CFG, rMGMT_STATUS, rMGMT_WDT, rMGMT_RESUME, rMGMT_RESTORE, rMGMT_CKPT, rMGMT_CKPT_SEQ, rMGMT_CALSET, rMGMT_FW_CTRL, rMGMT_MBX_CMD, rMGMT_MBX_ARG, rMGMT_MBX_RSP, rMGMT_MBX_DATA, rMGMT_ERR, rMGMT_POLICY, rMGMT_FW_DATA]

/-! Chapter 19: power. -/

def aPWR_ENABLED : Nat := 0x110000
def fPWR_ENABLED_EN : Fld := ⟨aPWR_ENABLED, 35, 28, .rw, .s, .draft, 0⟩
def rPWR_ENABLED : RegRow := ⟨aPWR_ENABLED, [], [8], 1, [fPWR_ENABLED_EN]⟩
def aPWR_REQ : Nat := 0x110001
def fPWR_REQ_REQ : Fld := ⟨aPWR_REQ, 35, 20, .rw, .l, .zero, 0⟩
def rPWR_REQ : RegRow := ⟨aPWR_REQ, [], [8], 1, [fPWR_REQ_REQ]⟩
def aPWR_STATE : Nat := 0x110002
def fPWR_STATE_STATE : Fld := ⟨aPWR_STATE, 35, 12, .ro, .l, .live, 27⟩
def fPWR_STATE_TABLE_STALE : Fld := ⟨aPWR_STATE, 11, 11, .w1c, .l, .zero, 0⟩
def rPWR_STATE : RegRow := ⟨aPWR_STATE, [], [8], 1, [fPWR_STATE_STATE, fPWR_STATE_TABLE_STALE]⟩
def aPWR_REFUSE : Nat := 0x110003
def fPWR_REFUSE_REFUSED : Fld := ⟨aPWR_REFUSE, 35, 35, .w1c, .l, .zero, 0⟩
def fPWR_REFUSE_DOMAIN : Fld := ⟨aPWR_REFUSE, 34, 32, .ro, .l, .zero, 0⟩
def fPWR_REFUSE_REASON : Fld := ⟨aPWR_REFUSE, 31, 28, .ro, .l, .zero, 0⟩
def rPWR_REFUSE : RegRow := ⟨aPWR_REFUSE, [], [8], 1, [fPWR_REFUSE_REFUSED, fPWR_REFUSE_DOMAIN, fPWR_REFUSE_REASON]⟩
def aPWR_GOV : Nat := 0x110004
def fPWR_GOV_SLOPE : Fld := ⟨aPWR_GOV, 35, 28, .ro, .l, .zero, 0⟩
def fPWR_GOV_PEAK : Fld := ⟨aPWR_GOV, 27, 20, .rc, .l, .zero, 0⟩
def fPWR_GOV_QUEUED : Fld := ⟨aPWR_GOV, 19, 12, .ro, .l, .zero, 0⟩
def fPWR_GOV_WAITS : Fld := ⟨aPWR_GOV, 11, 0, .rc, .l, .zero, 0⟩
def rPWR_GOV : RegRow := ⟨aPWR_GOV, [], [8], 1, [fPWR_GOV_SLOPE, fPWR_GOV_PEAK, fPWR_GOV_QUEUED, fPWR_GOV_WAITS]⟩
def aPWR_THERM : Nat := 0x110008
def fPWR_THERM_TJ : Fld := ⟨aPWR_THERM, 35, 24, .ro, .l, .live, 0⟩
def fPWR_THERM_HOT_SITE : Fld := ⟨aPWR_THERM, 23, 21, .ro, .l, .live, 0⟩
def fPWR_THERM_THROTTLE : Fld := ⟨aPWR_THERM, 20, 20, .ro, .l, .zero, 0⟩
def fPWR_THERM_SHUTDOWN : Fld := ⟨aPWR_THERM, 19, 19, .ro, .l, .zero, 0⟩
def fPWR_THERM_SD_CLEAR : Fld := ⟨aPWR_THERM, 18, 18, .w1s, .l, .zero, 0⟩
def fPWR_THERM_SENSOR_ERR : Fld := ⟨aPWR_THERM, 17, 17, .w1c, .l, .zero, 0⟩
def fPWR_THERM_SITE_ERR : Fld := ⟨aPWR_THERM, 7, 0, .ro, .l, .zero, 0⟩
def rPWR_THERM : RegRow := ⟨aPWR_THERM, [], [8], 1, [fPWR_THERM_TJ, fPWR_THERM_HOT_SITE, fPWR_THERM_THROTTLE, fPWR_THERM_SHUTDOWN, fPWR_THERM_SD_CLEAR, fPWR_THERM_SENSOR_ERR, fPWR_THERM_SITE_ERR]⟩
def aPWR_TEMP : Nat := 0x110010
def fPWR_TEMP_A : Fld := ⟨aPWR_TEMP, 35, 24, .ro, .l, .live, 0⟩
def fPWR_TEMP_B : Fld := ⟨aPWR_TEMP, 23, 12, .ro, .l, .live, 0⟩
def fPWR_TEMP_SITE : Fld := ⟨aPWR_TEMP, 11, 0, .ro, .l, .live, 0⟩
def rPWR_TEMP : RegRow := ⟨aPWR_TEMP, [(1, 8)], [8], 1, [fPWR_TEMP_A, fPWR_TEMP_B, fPWR_TEMP_SITE]⟩
def aPWR_SUPPLY : Nat := 0x110018
def fPWR_SUPPLY_CORE : Fld := ⟨aPWR_SUPPLY, 35, 35, .w1c, .l, .zero, 0⟩
def fPWR_SUPPLY_RAIL : Fld := ⟨aPWR_SUPPLY, 34, 28, .w1c, .l, .zero, 0⟩
def rPWR_SUPPLY : RegRow := ⟨aPWR_SUPPLY, [], [8], 1, [fPWR_SUPPLY_CORE, fPWR_SUPPLY_RAIL]⟩
def aPWR_COUNT : Nat := 0x110019
def fPWR_COUNT_THROTTLES : Fld := ⟨aPWR_COUNT, 35, 24, .rc, .l, .zero, 0⟩
def fPWR_COUNT_SHUTDOWNS : Fld := ⟨aPWR_COUNT, 23, 16, .rc, .l, .zero, 0⟩
def fPWR_COUNT_SUPPLY_EVENTS : Fld := ⟨aPWR_COUNT, 15, 0, .rc, .l, .zero, 0⟩
def rPWR_COUNT : RegRow := ⟨aPWR_COUNT, [], [8], 1, [fPWR_COUNT_THROTTLES, fPWR_COUNT_SHUTDOWNS, fPWR_COUNT_SUPPLY_EVENTS]⟩

/-- Every register word of chapter 19. -/
def regRows19 : List RegRow :=
  [rPWR_ENABLED, rPWR_REQ, rPWR_STATE, rPWR_REFUSE, rPWR_GOV, rPWR_THERM, rPWR_TEMP, rPWR_SUPPLY, rPWR_COUNT]

/-! Chapter 20: faults. -/

def aFAULT_STATUS : Nat := 0x120000
def fFAULT_STATUS_FAULT_N : Fld := ⟨aFAULT_STATUS, 35, 35, .ro, .l, .zero, 0⟩
def fFAULT_STATUS_INT_N : Fld := ⟨aFAULT_STATUS, 34, 34, .ro, .l, .zero, 0⟩
def fFAULT_STATUS_FHOLD : Fld := ⟨aFAULT_STATUS, 33, 33, .ro, .l, .zero, 0⟩
def fFAULT_STATUS_REMOTE : Fld := ⟨aFAULT_STATUS, 32, 32, .w1c, .l, .zero, 0⟩
def fFAULT_STATUS_SVC_STALE : Fld := ⟨aFAULT_STATUS, 31, 31, .ro, .l, .live, 0⟩
def fFAULT_STATUS_CLEAR_REFUSED : Fld := ⟨aFAULT_STATUS, 30, 30, .w1c, .l, .zero, 0⟩
def fFAULT_STATUS_INJ_SEEN : Fld := ⟨aFAULT_STATUS, 29, 29, .w1c, .l, .zero, 0⟩
def fFAULT_STATUS_FIRST_VALID : Fld := ⟨aFAULT_STATUS, 28, 28, .w1c, .l, .zero, 0⟩
def rFAULT_STATUS : RegRow := ⟨aFAULT_STATUS, [], [8], 1, [fFAULT_STATUS_FAULT_N, fFAULT_STATUS_INT_N, fFAULT_STATUS_FHOLD, fFAULT_STATUS_REMOTE, fFAULT_STATUS_SVC_STALE, fFAULT_STATUS_CLEAR_REFUSED, fFAULT_STATUS_INJ_SEEN, fFAULT_STATUS_FIRST_VALID]⟩
def aFAULT_ACTIVE : Nat := 0x120001
def fFAULT_ACTIVE_ACTIVE : Fld := ⟨aFAULT_ACTIVE, 35, 5, .w1c, .l, .zero, 0⟩
def rFAULT_ACTIVE : RegRow := ⟨aFAULT_ACTIVE, [], [8], 1, [fFAULT_ACTIVE_ACTIVE]⟩
def aFAULT_PIN_EN : Nat := 0x120002
def fFAULT_PIN_EN_EN : Fld := ⟨aFAULT_PIN_EN, 35, 5, .rw, .l, .ret, 2147483647⟩
def rFAULT_PIN_EN : RegRow := ⟨aFAULT_PIN_EN, [], [8], 1, [fFAULT_PIN_EN_EN]⟩
def aFAULT_HOLD_EN : Nat := 0x120003
def fFAULT_HOLD_EN_EN : Fld := ⟨aFAULT_HOLD_EN, 35, 5, .rw, .l, .ret, 0⟩
def rFAULT_HOLD_EN : RegRow := ⟨aFAULT_HOLD_EN, [], [8], 1, [fFAULT_HOLD_EN_EN]⟩
def aFAULT_CFG : Nat := 0x120004
def fFAULT_CFG_FRAME_EN : Fld := ⟨aFAULT_CFG, 35, 35, .rw, .l, .ret, 1⟩
def fFAULT_CFG_REMOTE_INT : Fld := ⟨aFAULT_CFG, 34, 34, .rw, .l, .ret, 0⟩
def fFAULT_CFG_HOLD_RELEASE : Fld := ⟨aFAULT_CFG, 33, 33, .w1s, .l, .zero, 0⟩
def fFAULT_CFG_DET_PERIOD : Fld := ⟨aFAULT_CFG, 32, 21, .rw, .l, .ret, 4000⟩
def rFAULT_CFG : RegRow := ⟨aFAULT_CFG, [], [8], 1, [fFAULT_CFG_FRAME_EN, fFAULT_CFG_REMOTE_INT, fFAULT_CFG_HOLD_RELEASE, fFAULT_CFG_DET_PERIOD]⟩
def aFAULT_FIRST_LO : Nat := 0x120005
def fFAULT_FIRST_LO_COARSE : Fld := ⟨aFAULT_FIRST_LO, 35, 10, .ro, .l, .zero, 0⟩
def fFAULT_FIRST_LO_FINE : Fld := ⟨aFAULT_FIRST_LO, 9, 0, .ro, .l, .zero, 0⟩
def rFAULT_FIRST_LO : RegRow := ⟨aFAULT_FIRST_LO, [], [8], 1, [fFAULT_FIRST_LO_COARSE, fFAULT_FIRST_LO_FINE]⟩
def aFAULT_FIRST_HI : Nat := 0x120006
def fFAULT_FIRST_HI_EPOCH : Fld := ⟨aFAULT_FIRST_HI, 35, 0, .ro, .l, .zero, 0⟩
def rFAULT_FIRST_HI : RegRow := ⟨aFAULT_FIRST_HI, [], [8], 1, [fFAULT_FIRST_HI_EPOCH]⟩
def aFAULT_FIRST_INFO : Nat := 0x120007
def fFAULT_FIRST_INFO_RECORD : Fld := ⟨aFAULT_FIRST_INFO, 35, 0, .ro, .l, .zero, 0⟩
def rFAULT_FIRST_INFO : RegRow := ⟨aFAULT_FIRST_INFO, [], [8], 1, [fFAULT_FIRST_INFO_RECORD]⟩
def aFAULT_LOG_PTR : Nat := 0x120008
def fFAULT_LOG_PTR_WR : Fld := ⟨aFAULT_LOG_PTR, 35, 30, .ro, .l, .zero, 0⟩
def fFAULT_LOG_PTR_TOTAL : Fld := ⟨aFAULT_LOG_PTR, 29, 12, .ro, .l, .zero, 0⟩
def fFAULT_LOG_PTR_LOST : Fld := ⟨aFAULT_LOG_PTR, 11, 0, .rc, .l, .zero, 0⟩
def rFAULT_LOG_PTR : RegRow := ⟨aFAULT_LOG_PTR, [], [8], 1, [fFAULT_LOG_PTR_WR, fFAULT_LOG_PTR_TOTAL, fFAULT_LOG_PTR_LOST]⟩
def aFAULT_PREV : Nat := 0x120009
def fFAULT_PREV_VALID : Fld := ⟨aFAULT_PREV, 35, 35, .ro, .l, .live, 0⟩
def fFAULT_PREV_CLASS : Fld := ⟨aFAULT_PREV, 34, 30, .ro, .l, .live, 0⟩
def fFAULT_PREV_UNIT : Fld := ⟨aFAULT_PREV, 29, 19, .ro, .l, .live, 0⟩
def rFAULT_PREV : RegRow := ⟨aFAULT_PREV, [], [8], 1, [fFAULT_PREV_VALID, fFAULT_PREV_CLASS, fFAULT_PREV_UNIT]⟩
def aFAULT_SVC : Nat := 0x12000A
def fFAULT_SVC_TEST_FAIL : Fld := ⟨aFAULT_SVC, 35, 35, .w1c, .l, .zero, 0⟩
def fFAULT_SVC_FAIL_CLASS : Fld := ⟨aFAULT_SVC, 34, 30, .ro, .l, .zero, 0⟩
def fFAULT_SVC_FAIL_UNIT : Fld := ⟨aFAULT_SVC, 29, 19, .ro, .l, .zero, 0⟩
def fFAULT_SVC_PASSES : Fld := ⟨aFAULT_SVC, 15, 0, .rc, .l, .zero, 0⟩
def rFAULT_SVC : RegRow := ⟨aFAULT_SVC, [], [8], 1, [fFAULT_SVC_TEST_FAIL, fFAULT_SVC_FAIL_CLASS, fFAULT_SVC_FAIL_UNIT, fFAULT_SVC_PASSES]⟩
def aFAULT_INJ_CTRL : Nat := 0x120010
def fFAULT_INJ_CTRL_GO : Fld := ⟨aFAULT_INJ_CTRL, 35, 35, .w1s, .l, .zero, 0⟩
def fFAULT_INJ_CTRL_INJ_EN : Fld := ⟨aFAULT_INJ_CTRL, 34, 34, .rw, .l, .zero, 0⟩
def fFAULT_INJ_CTRL_TEST : Fld := ⟨aFAULT_INJ_CTRL, 33, 33, .rw, .l, .zero, 0⟩
def fFAULT_INJ_CTRL_KIND : Fld := ⟨aFAULT_INJ_CTRL, 32, 25, .rw, .l, .zero, 0⟩
def fFAULT_INJ_CTRL_UNIT : Fld := ⟨aFAULT_INJ_CTRL, 24, 14, .rw, .l, .zero, 0⟩
def fFAULT_INJ_CTRL_COUNT : Fld := ⟨aFAULT_INJ_CTRL, 13, 0, .rw, .l, .zero, 0⟩
def rFAULT_INJ_CTRL : RegRow := ⟨aFAULT_INJ_CTRL, [], [8], 1, [fFAULT_INJ_CTRL_GO, fFAULT_INJ_CTRL_INJ_EN, fFAULT_INJ_CTRL_TEST, fFAULT_INJ_CTRL_KIND, fFAULT_INJ_CTRL_UNIT, fFAULT_INJ_CTRL_COUNT]⟩
def aFAULT_INJ_ARG : Nat := 0x120011
def fFAULT_INJ_ARG_VALUE : Fld := ⟨aFAULT_INJ_ARG, 35, 0, .rw, .l, .zero, 0⟩
def rFAULT_INJ_ARG : RegRow := ⟨aFAULT_INJ_ARG, [], [8], 1, [fFAULT_INJ_ARG_VALUE]⟩
def aFAULT_INJ_STATUS : Nat := 0x120012
def fFAULT_INJ_STATUS_BUSY : Fld := ⟨aFAULT_INJ_STATUS, 35, 35, .ro, .l, .zero, 0⟩
def fFAULT_INJ_STATUS_DONE : Fld := ⟨aFAULT_INJ_STATUS, 34, 34, .w1c, .l, .zero, 0⟩
def fFAULT_INJ_STATUS_MISSED : Fld := ⟨aFAULT_INJ_STATUS, 33, 33, .w1c, .l, .zero, 0⟩
def fFAULT_INJ_STATUS_REFUSED : Fld := ⟨aFAULT_INJ_STATUS, 32, 32, .w1c, .l, .zero, 0⟩
def fFAULT_INJ_STATUS_REASON : Fld := ⟨aFAULT_INJ_STATUS, 31, 28, .ro, .l, .zero, 0⟩
def fFAULT_INJ_STATUS_LAT : Fld := ⟨aFAULT_INJ_STATUS, 19, 0, .ro, .l, .zero, 0⟩
def rFAULT_INJ_STATUS : RegRow := ⟨aFAULT_INJ_STATUS, [], [8], 1, [fFAULT_INJ_STATUS_BUSY, fFAULT_INJ_STATUS_DONE, fFAULT_INJ_STATUS_MISSED, fFAULT_INJ_STATUS_REFUSED, fFAULT_INJ_STATUS_REASON, fFAULT_INJ_STATUS_LAT]⟩
def aFAULT_COUNT : Nat := 0x120021
def fFAULT_COUNT_EVENTS : Fld := ⟨aFAULT_COUNT, 35, 18, .rc, .l, .zero, 0⟩
def fFAULT_COUNT_REPEATS : Fld := ⟨aFAULT_COUNT, 17, 0, .rc, .l, .zero, 0⟩
def rFAULT_COUNT : RegRow := ⟨aFAULT_COUNT, [(1, 31)], [8], 1, [fFAULT_COUNT_EVENTS, fFAULT_COUNT_REPEATS]⟩
def aFAULT_LOG : Nat := 0x120100
def fFAULT_LOG_WORD : Fld := ⟨aFAULT_LOG, 35, 0, .ro, .l, .zero, 0⟩
def rFAULT_LOG : RegRow := ⟨aFAULT_LOG, [(4, 64), (1, 4)], [8], 1, [fFAULT_LOG_WORD]⟩

/-- Every register word of chapter 20. -/
def regRows20 : List RegRow :=
  [rFAULT_STATUS, rFAULT_ACTIVE, rFAULT_PIN_EN, rFAULT_HOLD_EN, rFAULT_CFG, rFAULT_FIRST_LO, rFAULT_FIRST_HI, rFAULT_FIRST_INFO, rFAULT_LOG_PTR, rFAULT_PREV, rFAULT_SVC, rFAULT_INJ_CTRL, rFAULT_INJ_ARG, rFAULT_INJ_STATUS, rFAULT_COUNT, rFAULT_LOG]

/-! Chapter 21: ageing. -/

def aHEALTH_STRESS : Nat := 0x130000
def fHEALTH_STRESS_STRESS : Fld := ⟨aHEALTH_STRESS, 35, 0, .ro, .l, .live, 0⟩
def rHEALTH_STRESS : RegRow := ⟨aHEALTH_STRESS, [(1, 8)], [8], 1, [fHEALTH_STRESS_STRESS]⟩
def aHEALTH_STRESS_WEEK : Nat := 0x130008
def fHEALTH_STRESS_WEEK_WEEK : Fld := ⟨aHEALTH_STRESS_WEEK, 35, 0, .ro, .l, .live, 0⟩
def rHEALTH_STRESS_WEEK : RegRow := ⟨aHEALTH_STRESS_WEEK, [(1, 8)], [8], 1, [fHEALTH_STRESS_WEEK_WEEK]⟩
def aHEALTH_STRESS_PEAK : Nat := 0x130010
def fHEALTH_STRESS_PEAK_PEAK : Fld := ⟨aHEALTH_STRESS_PEAK, 35, 0, .ro, .l, .live, 0⟩
def rHEALTH_STRESS_PEAK : RegRow := ⟨aHEALTH_STRESS_PEAK, [(1, 8)], [8], 1, [fHEALTH_STRESS_PEAK_PEAK]⟩
def aHEALTH_DAYS : Nat := 0x130018
def fHEALTH_DAYS_DAYS : Fld := ⟨aHEALTH_DAYS, 16, 0, .ro, .l, .live, 0⟩
def rHEALTH_DAYS : RegRow := ⟨aHEALTH_DAYS, [], [8], 1, [fHEALTH_DAYS_DAYS]⟩
def aHEALTH_DAY_MT : Nat := 0x130019
def fHEALTH_DAY_MT_DAY_MT : Fld := ⟨aHEALTH_DAY_MT, 28, 0, .ro, .l, .live, 0⟩
def rHEALTH_DAY_MT : RegRow := ⟨aHEALTH_DAY_MT, [], [8], 1, [fHEALTH_DAY_MT_DAY_MT]⟩
def aHEALTH_ERASE : Nat := 0x130020
def fHEALTH_ERASE_MAX : Fld := ⟨aHEALTH_ERASE, 35, 19, .ro, .l, .live, 0⟩
def fHEALTH_ERASE_MAX_WEEK : Fld := ⟨aHEALTH_ERASE, 18, 2, .ro, .l, .live, 0⟩
def rHEALTH_ERASE : RegRow := ⟨aHEALTH_ERASE, [(1, 5)], [8], 1, [fHEALTH_ERASE_MAX, fHEALTH_ERASE_MAX_WEEK]⟩
def aHEALTH_TRIM : Nat := 0x130040
def fHEALTH_TRIM_REF_SET : Fld := ⟨aHEALTH_TRIM, 35, 35, .ro, .l, .live, 0⟩
def fHEALTH_TRIM_C_NOW : Fld := ⟨aHEALTH_TRIM, 34, 29, .ro, .l, .live, 0⟩
def fHEALTH_TRIM_C_REF : Fld := ⟨aHEALTH_TRIM, 28, 23, .ro, .l, .live, 0⟩
def fHEALTH_TRIM_H_NOW : Fld := ⟨aHEALTH_TRIM, 22, 5, .ro, .l, .live, 0⟩
def rHEALTH_TRIM : RegRow := ⟨aHEALTH_TRIM, [(1, 104)], [8], 1, [fHEALTH_TRIM_REF_SET, fHEALTH_TRIM_C_NOW, fHEALTH_TRIM_C_REF, fHEALTH_TRIM_H_NOW]⟩
def aHEALTH_TRIM_REF : Nat := 0x1300C0
def fHEALTH_TRIM_REF_H_REF : Fld := ⟨aHEALTH_TRIM_REF, 35, 18, .ro, .l, .live, 0⟩
def rHEALTH_TRIM_REF : RegRow := ⟨aHEALTH_TRIM_REF, [(1, 104)], [8], 1, [fHEALTH_TRIM_REF_H_REF]⟩
def aHEALTH_LAMP : Nat := 0x130140
def fHEALTH_LAMP_DRIFT : Fld := ⟨aHEALTH_LAMP, 35, 24, .ro, .l, .live, 0⟩
def fHEALTH_LAMP_DRIFT_WEEK : Fld := ⟨aHEALTH_LAMP, 23, 12, .ro, .l, .live, 0⟩
def fHEALTH_LAMP_VALID : Fld := ⟨aHEALTH_LAMP, 11, 11, .ro, .l, .live, 0⟩
def rHEALTH_LAMP : RegRow := ⟨aHEALTH_LAMP, [(1, 32)], [8], 1, [fHEALTH_LAMP_DRIFT, fHEALTH_LAMP_DRIFT_WEEK, fHEALTH_LAMP_VALID]⟩
def aHEALTH_LAMP_LIMIT : Nat := 0x130160
def fHEALTH_LAMP_LIMIT_LIMIT : Fld := ⟨aHEALTH_LAMP_LIMIT, 35, 24, .rw, .l, .ret, 0⟩
def rHEALTH_LAMP_LIMIT : RegRow := ⟨aHEALTH_LAMP_LIMIT, [], [8], 1, [fHEALTH_LAMP_LIMIT_LIMIT]⟩
def aHEALTH_CTRL : Nat := 0x130170
def fHEALTH_CTRL_TRIM_REREF : Fld := ⟨aHEALTH_CTRL, 35, 35, .w1s, .l, .zero, 0⟩
def fHEALTH_CTRL_LAMP_REREF : Fld := ⟨aHEALTH_CTRL, 34, 34, .w1s, .l, .zero, 0⟩
def fHEALTH_CTRL_AGE_LOST : Fld := ⟨aHEALTH_CTRL, 33, 33, .w1c, .l, .zero, 0⟩
def fHEALTH_CTRL_RECORD_OLD : Fld := ⟨aHEALTH_CTRL, 32, 32, .ro, .l, .zero, 0⟩
def rHEALTH_CTRL : RegRow := ⟨aHEALTH_CTRL, [], [8], 1, [fHEALTH_CTRL_TRIM_REREF, fHEALTH_CTRL_LAMP_REREF, fHEALTH_CTRL_AGE_LOST, fHEALTH_CTRL_RECORD_OLD]⟩
def aHEALTH_ID : Nat := 0x130180
def fHEALTH_ID_LOT : Fld := ⟨aHEALTH_ID, 35, 16, .ro, .s, .live, 0⟩
def fHEALTH_ID_WAFER : Fld := ⟨aHEALTH_ID, 15, 11, .ro, .s, .live, 0⟩
def fHEALTH_ID_TEST_WEEK : Fld := ⟨aHEALTH_ID, 10, 0, .ro, .s, .live, 0⟩
def rHEALTH_ID : RegRow := ⟨aHEALTH_ID, [], [8], 1, [fHEALTH_ID_LOT, fHEALTH_ID_WAFER, fHEALTH_ID_TEST_WEEK]⟩

/-- Every register word of chapter 21. -/
def regRows21 : List RegRow :=
  [rHEALTH_STRESS, rHEALTH_STRESS_WEEK, rHEALTH_STRESS_PEAK, rHEALTH_DAYS, rHEALTH_DAY_MT, rHEALTH_ERASE, rHEALTH_TRIM, rHEALTH_TRIM_REF, rHEALTH_LAMP, rHEALTH_LAMP_LIMIT, rHEALTH_CTRL, rHEALTH_ID]

/-! Chapter 22: monitors and lamps. -/

def aMON_SEQ : Nat := 0x140000
def fMON_SEQ_EN : Fld := ⟨aMON_SEQ, 35, 35, .rw, .s, .draft, 0⟩
def fMON_SEQ_CH : Fld := ⟨aMON_SEQ, 34, 29, .rw, .s, .draft, 0⟩
def fMON_SEQ_GAIN : Fld := ⟨aMON_SEQ, 28, 27, .rw, .s, .draft, 0⟩
def fMON_SEQ_S_TIME : Fld := ⟨aMON_SEQ, 26, 19, .rw, .s, .draft, 0⟩
def rMON_SEQ : RegRow := ⟨aMON_SEQ, [(16, 2), (1, 16)], [8], 1, [fMON_SEQ_EN, fMON_SEQ_CH, fMON_SEQ_GAIN, fMON_SEQ_S_TIME]⟩
def aMON_CFG : Nat := 0x140020
def fMON_CFG_PASS_PER : Fld := ⟨aMON_CFG, 35, 24, .rw, .s, .draft, 0⟩
def fMON_CFG_XCHK_TOL : Fld := ⟨aMON_CFG, 23, 12, .rw, .l, .ret, 256⟩
def rMON_CFG : RegRow := ⟨aMON_CFG, [], [8], 1, [fMON_CFG_PASS_PER, fMON_CFG_XCHK_TOL]⟩
def aMON_STATUS : Nat := 0x140021
def fMON_STATUS_XCHK_ERR : Fld := ⟨aMON_STATUS, 35, 35, .w1c, .l, .zero, 0⟩
def fMON_STATUS_XCHK_OFF : Fld := ⟨aMON_STATUS, 34, 34, .ro, .l, .zero, 0⟩
def fMON_STATUS_OVERRUN : Fld := ⟨aMON_STATUS, 33, 33, .w1c, .l, .zero, 0⟩
def fMON_STATUS_PASSES : Fld := ⟨aMON_STATUS, 15, 0, .rc, .l, .zero, 0⟩
def rMON_STATUS : RegRow := ⟨aMON_STATUS, [], [8], 1, [fMON_STATUS_XCHK_ERR, fMON_STATUS_XCHK_OFF, fMON_STATUS_OVERRUN, fMON_STATUS_PASSES]⟩
def aMON_SELFTEST : Nat := 0x140022
def fMON_SELFTEST_GO : Fld := ⟨aMON_SELFTEST, 35, 35, .w1s, .l, .zero, 0⟩
def fMON_SELFTEST_BUSY : Fld := ⟨aMON_SELFTEST, 34, 34, .ro, .l, .zero, 0⟩
def fMON_SELFTEST_DONE : Fld := ⟨aMON_SELFTEST, 33, 33, .w1c, .l, .zero, 0⟩
def fMON_SELFTEST_ST_FAIL : Fld := ⟨aMON_SELFTEST, 32, 32, .w1c, .l, .zero, 0⟩
def fMON_SELFTEST_MAINT_BUSY : Fld := ⟨aMON_SELFTEST, 31, 31, .w1c, .l, .zero, 0⟩
def rMON_SELFTEST : RegRow := ⟨aMON_SELFTEST, [], [8], 1, [fMON_SELFTEST_GO, fMON_SELFTEST_BUSY, fMON_SELFTEST_DONE, fMON_SELFTEST_ST_FAIL, fMON_SELFTEST_MAINT_BUSY]⟩
def aMON_RES : Nat := 0x140040
def fMON_RES_VALUE : Fld := ⟨aMON_RES, 35, 20, .ro, .l, .zero, 0⟩
def fMON_RES_SAT : Fld := ⟨aMON_RES, 19, 19, .ro, .l, .zero, 0⟩
def fMON_RES_PASS : Fld := ⟨aMON_RES, 18, 3, .ro, .l, .zero, 0⟩
def rMON_RES : RegRow := ⟨aMON_RES, [(16, 2), (1, 16)], [8], 1, [fMON_RES_VALUE, fMON_RES_SAT, fMON_RES_PASS]⟩
def aLAMP_FRAME_CFG : Nat := 0x150000
def fLAMP_FRAME_CFG_FS_SRC : Fld := ⟨aLAMP_FRAME_CFG, 35, 35, .rw, .s, .draft, 0⟩
def fLAMP_FRAME_CFG_FRAME_LEN : Fld := ⟨aLAMP_FRAME_CFG, 34, 15, .rw, .s, .draft, 0⟩
def fLAMP_FRAME_CFG_SUB_M1 : Fld := ⟨aLAMP_FRAME_CFG, 14, 9, .rw, .s, .draft, 0⟩
def fLAMP_FRAME_CFG_MATRIX : Fld := ⟨aLAMP_FRAME_CFG, 8, 8, .rw, .s, .draft, 0⟩
def fLAMP_FRAME_CFG_ROWS_M1 : Fld := ⟨aLAMP_FRAME_CFG, 7, 5, .rw, .s, .draft, 0⟩
def rLAMP_FRAME_CFG : RegRow := ⟨aLAMP_FRAME_CFG, [], [8], 1, [fLAMP_FRAME_CFG_FS_SRC, fLAMP_FRAME_CFG_FRAME_LEN, fLAMP_FRAME_CFG_SUB_M1, fLAMP_FRAME_CFG_MATRIX, fLAMP_FRAME_CFG_ROWS_M1]⟩
def aLAMP_SCAN_CFG : Nat := 0x150001
def fLAMP_SCAN_CFG_BLANK : Fld := ⟨aLAMP_SCAN_CFG, 35, 26, .rw, .s, .draft, 0⟩
def fLAMP_SCAN_CFG_STRETCH_N : Fld := ⟨aLAMP_SCAN_CFG, 25, 16, .rw, .s, .draft, 0⟩
def rLAMP_SCAN_CFG : RegRow := ⟨aLAMP_SCAN_CFG, [], [8], 1, [fLAMP_SCAN_CFG_BLANK, fLAMP_SCAN_CFG_STRETCH_N]⟩
def aLAMP_APPLY : Nat := 0x150002
def fLAMP_APPLY_GO : Fld := ⟨aLAMP_APPLY, 35, 35, .w1s, .l, .zero, 0⟩
def fLAMP_APPLY_APPLY_WAIT : Fld := ⟨aLAMP_APPLY, 34, 34, .ro, .l, .zero, 0⟩
def rLAMP_APPLY : RegRow := ⟨aLAMP_APPLY, [], [8], 1, [fLAMP_APPLY_GO, fLAMP_APPLY_APPLY_WAIT]⟩
def aLAMP_STATUS : Nat := 0x150003
def fLAMP_STATUS_FS_ERR : Fld := ⟨aLAMP_STATUS, 35, 35, .w1c, .l, .zero, 0⟩
def fLAMP_STATUS_FS_LOST : Fld := ⟨aLAMP_STATUS, 34, 34, .w1c, .l, .zero, 0⟩
def fLAMP_STATUS_LAMP_EVENT : Fld := ⟨aLAMP_STATUS, 33, 33, .w1c, .l, .zero, 0⟩
def fLAMP_STATUS_FORCED : Fld := ⟨aLAMP_STATUS, 32, 32, .ro, .l, .zero, 0⟩
def fLAMP_STATUS_FLYWHEEL : Fld := ⟨aLAMP_STATUS, 31, 20, .rc, .l, .zero, 0⟩
def fLAMP_STATUS_FRAME_COUNT : Fld := ⟨aLAMP_STATUS, 19, 0, .ro, .l, .zero, 0⟩
def rLAMP_STATUS : RegRow := ⟨aLAMP_STATUS, [], [8], 1, [fLAMP_STATUS_FS_ERR, fLAMP_STATUS_FS_LOST, fLAMP_STATUS_LAMP_EVENT, fLAMP_STATUS_FORCED, fLAMP_STATUS_FLYWHEEL, fLAMP_STATUS_FRAME_COUNT]⟩
def aLAMP_CFG : Nat := 0x150010
def fLAMP_CFG_CLASS : Fld := ⟨aLAMP_CFG, 35, 34, .rw, .s, .draft, 0⟩
def fLAMP_CFG_ON_LEVEL : Fld := ⟨aLAMP_CFG, 33, 33, .rw, .s, .draft, 0⟩
def fLAMP_CFG_IL_GATE : Fld := ⟨aLAMP_CFG, 32, 32, .rw, .s, .draft, 0⟩
def fLAMP_CFG_STRETCH : Fld := ⟨aLAMP_CFG, 31, 31, .rw, .s, .draft, 0⟩
def fLAMP_CFG_DUTY_CAP : Fld := ⟨aLAMP_CFG, 30, 19, .rw, .s, .draft, 0⟩
def rLAMP_CFG : RegRow := ⟨aLAMP_CFG, [(1, 32)], [8], 1, [fLAMP_CFG_CLASS, fLAMP_CFG_ON_LEVEL, fLAMP_CFG_IL_GATE, fLAMP_CFG_STRETCH, fLAMP_CFG_DUTY_CAP]⟩
def aLAMP_LIMIT : Nat := 0x150030
def fLAMP_LIMIT_I_OPEN : Fld := ⟨aLAMP_LIMIT, 35, 20, .rw, .s, .draft, 0⟩
def fLAMP_LIMIT_I_CAP : Fld := ⟨aLAMP_LIMIT, 19, 4, .rw, .s, .draft, 0⟩
def rLAMP_LIMIT : RegRow := ⟨aLAMP_LIMIT, [(1, 32)], [8], 1, [fLAMP_LIMIT_I_OPEN, fLAMP_LIMIT_I_CAP]⟩
def aLAMP_PULSE_A : Nat := 0x150050
def fLAMP_PULSE_A_OFFSET : Fld := ⟨aLAMP_PULSE_A, 35, 16, .rw, .d, .ret, 0⟩
def fLAMP_PULSE_A_WIDTH : Fld := ⟨aLAMP_PULSE_A, 15, 0, .rw, .d, .ret, 0⟩
def rLAMP_PULSE_A : RegRow := ⟨aLAMP_PULSE_A, [(1, 32)], [8], 1, [fLAMP_PULSE_A_OFFSET, fLAMP_PULSE_A_WIDTH]⟩
def aLAMP_PULSE_B : Nat := 0x150070
def fLAMP_PULSE_B_PERIOD : Fld := ⟨aLAMP_PULSE_B, 35, 16, .rw, .d, .ret, 0⟩
def fLAMP_PULSE_B_COUNT : Fld := ⟨aLAMP_PULSE_B, 15, 8, .rw, .d, .ret, 0⟩
def rLAMP_PULSE_B : RegRow := ⟨aLAMP_PULSE_B, [(1, 32)], [8], 1, [fLAMP_PULSE_B_PERIOD, fLAMP_PULSE_B_COUNT]⟩
def aLAMP_STAT : Nat := 0x150090
def fLAMP_STAT_STATUS : Fld := ⟨aLAMP_STAT, 35, 33, .ro, .l, .zero, 0⟩
def fLAMP_STAT_OC_LATCH : Fld := ⟨aLAMP_STAT, 32, 32, .ro, .l, .zero, 0⟩
def fLAMP_STAT_OC_CUT : Fld := ⟨aLAMP_STAT, 31, 31, .w1c, .l, .zero, 0⟩
def fLAMP_STAT_CLAMP : Fld := ⟨aLAMP_STAT, 30, 30, .w1c, .l, .zero, 0⟩
def fLAMP_STAT_D : Fld := ⟨aLAMP_STAT, 29, 14, .ro, .l, .zero, 0⟩
def fLAMP_STAT_STARVE : Fld := ⟨aLAMP_STAT, 13, 3, .ro, .l, .zero, 0⟩
def rLAMP_STAT : RegRow := ⟨aLAMP_STAT, [(1, 32)], [8], 1, [fLAMP_STAT_STATUS, fLAMP_STAT_OC_LATCH, fLAMP_STAT_OC_CUT, fLAMP_STAT_CLAMP, fLAMP_STAT_D, fLAMP_STAT_STARVE]⟩
def aLAMP_COUNT : Nat := 0x1500B0
def fLAMP_COUNT_OC_CUTS : Fld := ⟨aLAMP_COUNT, 35, 24, .rc, .l, .zero, 0⟩
def fLAMP_COUNT_STRETCH_DENIED : Fld := ⟨aLAMP_COUNT, 23, 12, .rc, .l, .zero, 0⟩
def rLAMP_COUNT : RegRow := ⟨aLAMP_COUNT, [(1, 32)], [8], 1, [fLAMP_COUNT_OC_CUTS, fLAMP_COUNT_STRETCH_DENIED]⟩
def aLAMP_CLR : Nat := 0x1500D0
def fLAMP_CLR_CLR : Fld := ⟨aLAMP_CLR, 35, 4, .w1s, .l, .zero, 0⟩
def rLAMP_CLR : RegRow := ⟨aLAMP_CLR, [], [8], 1, [fLAMP_CLR_CLR]⟩
def aFRAME_SHADOW : Nat := 0x980000
def fFRAME_SHADOW_LEVEL : Fld := ⟨aFRAME_SHADOW, 11, 0, .rw, .d, .ret, 0⟩
def rFRAME_SHADOW : RegRow := ⟨aFRAME_SHADOW, [(1, 256)], [8], 1, [fFRAME_SHADOW_LEVEL]⟩
def aFRAME_WORKING : Nat := 0x980100
def fFRAME_WORKING_LEVEL : Fld := ⟨aFRAME_WORKING, 11, 0, .ro, .l, .ret, 0⟩
def rFRAME_WORKING : RegRow := ⟨aFRAME_WORKING, [(1, 256)], [8], 1, [fFRAME_WORKING_LEVEL]⟩
def aMATRIX_STAT : Nat := 0x980200
def fMATRIX_STAT_STAT : Fld := ⟨aMATRIX_STAT, 35, 0, .ro, .l, .zero, 0⟩
def rMATRIX_STAT : RegRow := ⟨aMATRIX_STAT, [(1, 256)], [8], 1, [fMATRIX_STAT_STAT]⟩

/-- Every register word of chapter 22. -/
def regRows22 : List RegRow :=
  [rMON_SEQ, rMON_CFG, rMON_STATUS, rMON_SELFTEST, rMON_RES, rLAMP_FRAME_CFG, rLAMP_SCAN_CFG, rLAMP_APPLY, rLAMP_STATUS, rLAMP_CFG, rLAMP_LIMIT, rLAMP_PULSE_A, rLAMP_PULSE_B, rLAMP_STAT, rLAMP_COUNT, rLAMP_CLR, rFRAME_SHADOW, rFRAME_WORKING, rMATRIX_STAT]

end Sys2Proof.Machine
end

