-- ==== Sys2Proof/Machine/RegMap.lean ====
section
/-! DEFINITION. The register space: which register word an address names, the word it holds after reset, and the sparse store
of words in its one canonical form. -/

namespace Sys2Proof.Machine

/-- The register words that can lie in the 64 Ki-word region `r` (address bits 23 to 16). -/
def regRowsAt (r : Nat) : List RegRow :=
  if r = 0x00 then regRows00 ++ regRows01 ++ regRows17
  else if r = 0x01 then regRows02
  else if r = 0x02 then regRows03
  else if r = 0x03 then regRows04
  else if r = 0x04 then regRows05
  else if r = 0x05 then regRows06
  else if r = 0x06 then regRows07
  else if r = 0x07 then regRows08
  else if r = 0x08 then regRows09
  else if r = 0x09 then regRows10
  else if r = 0x0A then regRows11
  else if r = 0x0B then regRows12
  else if r = 0x0C then regRows13
  else if r = 0x0D then regRows14
  else if r = 0x0E then regRows15
  else if r = 0x0F then regRows16
  else if r = 0x10 then regRows18
  else if r = 0x11 then regRows19
  else if r = 0x12 then regRows20
  else if r = 0x13 then regRows21
  else if r = 0x14 ∨ r = 0x15 ∨ r = 0x98 then regRows22
  else if r = 0x16 ∨ r = 0x94 then regRows07
  else if r < 0x80 then []
  else if r < 0x93 then regRows06
  else if r = 0x96 ∨ r = 0x97 then regRows11
  else if 0xA0 ≤ r ∧ r ≤ 0xBA then regRows09
  else if r = 0xBB then regRows10
  else if 0xC0 ≤ r ∧ r ≤ 0xD7 then regRows16
  else []

/-- The register a word address names; `none` where the address is unmapped (R645). -/
def regAt (a : Nat) : Option RegRow := (regRowsAt (a / 65536)).find? (fun r => r.has a)

/-- Bare values of the firmware policies p = 0 to 5 (R521). Log: 1 DESIGN CHOICE. -/
def policyBare (p : Nat) : Word :=
  if p = 0 then 2400000 else if p = 1 then 1 else if p = 2 then 1 else if p = 3 then 16 else if p = 4 then 0x7654321 else 1600

/-- The word a register address holds right after reset: literal and bare values (R13, R14), fused values, zero otherwise. Log: 1 DESIGN CHOICE. -/
def regReset (a : Nat) : Word :=
  if a = aGLOBAL_ID then (match regAt a with | some r => fGLOBAL_ID_GRADE.set r.startWord Config.grade | none => 0)
  else if a = aCHAIN_SIG then Config.signature
  else if a = aHOST_MAC_HI then fHOST_MAC_HI_MAC_HI.set 0 (Config.macAddress / 2 ^ 32)
  else if a = aHOST_MAC_LO then fHOST_MAC_LO_MAC_LO.set 0 (Config.macAddress % 2 ^ 32)
  else if a = aDRAFT_KEYS then Config.draftKeys
  else if a = aHEALTH_ID then Config.healthId
  else if aREED_IN_CAL ≤ a ∧ a < aREED_IN_CAL + 16 then
    (match regAt a with | some r => fREED_IN_CAL_DELAY.set r.startWord (Config.nominalDelay (a - aREED_IN_CAL)) | none => 0)
  else if aMGMT_POLICY ≤ a ∧ a < aMGMT_POLICY + 6 then policyBare (a - aMGMT_POLICY)
  else match regAt a with | some r => r.startWord | none => 0

/-- A sparse store of words: addresses strictly rising, no entry equal to what an unlisted address reads as. -/
abbrev RegMap := List (Nat × Word)

/-- The word stored at `a`, if listed. -/
def RegMap.find (m : RegMap) (a : Nat) : Option Word :=
  match m with
  | [] => none
  | (b, w) :: t => if b = a then some w else RegMap.find t a

/-- The store with `a` unlisted. -/
def RegMap.erase (m : RegMap) (a : Nat) : RegMap := m.filter (fun e => e.1 ≠ a)

/-- `(a, w)` in its place before the first higher address. -/
def RegMap.place (m : RegMap) (a : Nat) (w : Word) : RegMap :=
  match m with
  | [] => [(a, w)]
  | (b, x) :: t => if a < b then (a, w) :: (b, x) :: t else (b, x) :: RegMap.place t a w

/-- The store with `a` listed, whatever the word. Log: 7 DESIGN CHOICE. -/
def RegMap.ins (m : RegMap) (a : Nat) (w : Word) : RegMap := (m.erase a).place a w

/-- The store with `a` holding `w`; `dflt` is what `a` reads as when unlisted. Log: 7 DESIGN CHOICE. -/
def RegMap.put (m : RegMap) (a : Nat) (w dflt : Word) : RegMap := if w = dflt then m.erase a else m.ins a w

/-- Every address of the store lies above `lo`, addresses rise strictly, and no entry equals its reset word. -/
def RegMap.wfFrom (lo : Option Nat) : RegMap → Bool
  | [] => true
  | (a, w) :: t => (match lo with | none => true | some l => decide (l < a)) && decide (w ≠ regReset a) && RegMap.wfFrom (some a) t

/-- The canonical form of the register store. Log: 7 DESIGN CHOICE. -/
def RegMap.wf (m : RegMap) : Bool := RegMap.wfFrom none m

end Sys2Proof.Machine
end

