-- ==== Sys2Proof/Machine/State.lean ====
section
/-! DEFINITION. The state of the PV-2436 as plain data: every register word in one sparse store, the shadow and staged copies of
the double-buffered and structural fields, and each block's own schedule, queue, counter and pin state. -/

namespace Sys2Proof.Machine

/-- A due-time command in the due-time store (R47 to R51): accepted in wc `acc`; committed 40 wc before its due time; for a group apply
the word of its group at acceptance (R502, R510). -/
structure Stored where
  cmd : DueCmd
  acc : Nat
  committed : Bool
  grp : Word := 0
  deriving DecidableEq, Repr, Inhabited

/-- One outstanding trigger of an output with the working values of its instant (R99). `first` is the leading edge of pulse 0,
`next` the first pulse not yet led, `cut` the instant at or after which leading edges are cancelled (a stop, R104) or, for a
gate, its scheduled close (R105). Modes: 0 SINGLE, 1 BURST, 3 GATE, 4 gated SYSREF. -/
structure Trig where
  inst : Nat
  first : Nat
  delay : Nat
  width : Nat
  period : Nat
  count : Nat
  next : Nat
  mode : Nat
  retrig : Nat
  stopLine : Option Nat
  cut : Option Nat
  deriving DecidableEq, Repr, Inhabited

/-- The active pulse of an output: `trail` none while a gate has no scheduled close; `shown` when it reaches the ball; `own` the
instant of its trigger; `barred` when the light-budget limiter or the interlock keeps it from the ball (R241, R246). -/
structure Pulse where
  lead : Nat
  trail : Option Nat
  shown : Bool
  own : Nat
  barred : Bool := false
  deriving DecidableEq, Repr, Inhabited

/-- The schedule of one output, edge channels 0 to 63 and master outputs 64 to 71. STATE, PENDING, DRV and APPLY_WAIT are its
status register's own fields. `pat` holds PATTERN pulses waiting for their edges, `enBall` is ENABLE as it stands at the ball
(R113), `gridFrom` the earliest next leading edge of a running grid (R163, R166), `echo` and `vote` the edges awaiting
classification, `admitted` whether the governor has admitted a waking driver, `awake` the instant at which the driver last reached armed idle
`chk` that of the last level check (R121), and `sent` the position of the latest edge at the ball with its working SKEW added (R279). -/
structure OutSt where
  trigs : List Trig := []
  act : Option Pulse := none
  lastLead : Option Nat := none
  lastTrail : Option Nat := none
  lastStart : Option Nat := none
  pat : List (Nat × Option Nat) := []
  enBall : Nat := 0
  gridFrom : Option Nat := none
  echo : List (Nat × Bool) := []
  vote : List (Nat × Bool) := []
  admitted : Bool := false
  awake : Nat := 0
  chk : Option Nat := none
  sent : Option Nat := none
  deriving DecidableEq, Repr, Inhabited

/-- A bank's spare (R125 to R130): when the failing edge was classified, whether the copy has ended, a failover that waits for a
carried ball to go back, a pending return of the ball after failover, and a carried ball to hand back after an aborted calibration
with whether the spare is then FAULTY (R288, R296). -/
structure BankSt where
  clsAt : Nat := 0
  copied : Bool := false
  waiting : Option Nat := none
  release : Bool := false
  back : Option Bool := none
  deriving DecidableEq, Repr, Inhabited

/-- Why a swap runs (R176 to R181). -/
inductive SwapWhy where
  | rotation | replacement
  deriving DecidableEq, Repr

/-- A swap in progress: incoming and outgoing generator, its cause, the end of its comparison, whether the outgoing one has
disagreed meanwhile, and a generator to be replaced after it. -/
structure Swap where
  inc : Nat
  out : Nat
  why : SwapWhy
  compFrom : Option Nat
  outDis : Bool
  after : Option Nat
  deriving DecidableEq, Repr

/-- A master output's voter: generators that have disagreed since they entered the vote, FAULTY marks (kept while voting,
R181), and the swap in progress. -/
structure VoterSt where
  dis : List Nat := []
  faulty : List Nat := []
  swap : Option Swap := none
  deriving DecidableEq, Repr, Inhabited

/-- A trigger input of Heddle (R135 to R138): the last edge kept by the dead-time step, the prescale counter, the prescales written since the
last edge with the wc from which each applies, whether the next crossing falls with a discarded glitch, and the conditioned levels with the
instants they began, newest first (R147). -/
structure HedIn where
  lastKept : Option Nat := none
  cnt : Nat := 0
  mods : List (Nat × Nat) := []
  dropNext : Bool := false
  hist : List (Nat × Bool) := []
  deriving DecidableEq, Repr, Inhabited

/-- A Heddle line (R144 to R149): an arm state with the instant it began and the end of its window, the events held for
coincidence (source, instant), the last firing (instant, source), and its instant on the present timebase. -/
structure HedLine where
  armFrom : Option Nat := none
  armEnd : Option Nat := none
  held : List (Nat × Nat) := []
  last : Option (Nat × Nat) := none
  firedAt : Option Nat := none
  deriving DecidableEq, Repr, Inhabited

/-- A rate-generator grid captured at GO (R139 to R141): next tick index, ticks emitted, and the instant its ticks end before. -/
structure RgGrid where
  start : Nat
  per : Nat
  count : Nat
  k : Nat
  emitted : Nat
  stopAt : Option Nat
  deriving DecidableEq, Repr, Inhabited

/-- A rate generator: its running grid, and the grids that GOs under RUN are replacing, oldest first, while they owe ticks. -/
structure RgSt where
  cur : Option RgGrid := none
  prev : List RgGrid := []
  deriving DecidableEq, Repr, Inhabited

/-- Clock and keeper state (chapters 01, 02): keeper accumulator in 2^-18 reference cycles, the timebase at the latest mt tick (R35), that
tick on the present timebase, the reference cycles of the present mt that passed under an earlier plan with the advance predicted for them
(R33), per-reference mt counts of qualification and losses of activity in the present mt, the reference to move to at the next mt tick,
previous PLL_W plan, drain and guard mt counters, the wc at which the frequency guard last counted from zero (R80), whether
the previous plan has been loaded after a revert, whether the correction follows a recovery, a relock of PLL_C after a change of
its plan, the wc of PLL_C's last loss or load, the WEFT clock waiting for a shot boundary, whether PLL_W has locked, the latest step of the phase watch (R272), where the TRIM ramp
started, whether the keeper can predict the next mt tick, and twice the sum of trim × wc since the last tick with where it was last brought
up to (R33, R86). -/
structure ClkSt where
  acc : Nat := 0
  stamp : Nat := 0
  tickAt : Nat := 0
  refUsed : Rat := 0
  advUsed : Rat := 0
  qualA : Nat := 0
  qualB : Nat := 0
  lossA : Bool := false
  lossB : Bool := false
  reref : Option Bool := none
  prevCfg : Word := 0
  prevFrac : Word := 0
  drainMt : Nat := 0
  guardMt : Nat := 0
  guardAt : Nat := 0
  reverted : Bool := false
  recover : Bool := false
  pllcRelock : Bool := false
  pllcAt : Nat := 0
  weftBackup : Bool := false
  lockedOnce : Bool := false
  stepAt : Option Nat := none
  rampAt : Nat := 0
  rampFrom : Int := 0
  ticked : Bool := false
  trimAt : Nat := 0
  trimLast : Int := 0
  trimSum : Int := 0
  deriving DecidableEq, Repr, Inhabited

/-- A source event of a line that lies ahead (R133, R149): its instant, the line, and the source code. -/
structure PinEvt where
  inst : Nat
  line : Nat
  src : Nat
  deriving DecidableEq, Repr, Inhabited

/-- What has set a field of access RC or W1C in the present wc (R10): the wc, the word and lowest bit of the field, its value before the
first such event, and what the events set (bits) or add (counts). -/
structure RegEvt where
  wc : Nat
  addr : Nat
  lo : Nat
  before : Nat
  amt : Nat
  deriving DecidableEq, Repr, Inhabited

/-- A word of a Bolt queue with its packet marks and the damage mark of R378. -/
structure BWord where
  w : Word
  sop : Bool
  eop : Bool
  dmg : Bool
  deriving DecidableEq, Repr, Inhabited

/-- What becomes of the later words of a packet that was rewound or flushed (R368, R369, R374). -/
inductive Ignore where
  | none_ | overrun | tooLong | orphan
  deriving DecidableEq, Repr, Inhabited

/-- A Bolt queue: committed words not yet consumed, the open packet, the treatment of later words, word places already consumed
in the head cell, whether the consumer is inside a packet (R361 to R375), and of the last committed words those a consumer port may not
see yet: the wc from which it does, and how many (R367). -/
structure BQueue where
  words : List BWord := []
  opn : Option (List BWord) := none
  ign : Ignore := .none_
  off : Nat := 0
  mid : Bool := false
  hid : List (Nat × Nat) := []
  deriving DecidableEq, Repr, Inhabited

/-- A fault detected and not yet taken by Selvedge: class, UNIT, SUB, DETAIL, MASKED, detection instant, and whether it answers
an injection (R569, R573). -/
structure Det where
  cls : Nat
  unit : Nat
  sub : Nat
  detail : Nat
  masked : Bool
  inst : Nat
  inj : Bool := false
  deriving DecidableEq, Repr, Inhabited

/-- An injection (R582 to R584): kind, target, extent and VALUE, whether it is a TEST, the instant from which it acts on edges and samples,
edges, samples, mt or passes left, the first leading edge a stuck ball met, whether its record or its window has come, and whether its record has. -/
structure InjSt where
  kind : Nat
  unit : Nat
  count : Nat
  value : Word
  test : Bool
  start : Nat
  left : Nat
  from_ : Option Nat := none
  done : Bool := false
  seen : Bool := false
  deriving DecidableEq, Repr, Inhabited

/-- Selvedge (R568 to R584): class and UNIT of the last 16 records logged, newest first, records of its own, records in the log since the
last reset, whether FAULT_PREV holds one of them, the injection, detector classes tested in the present pass, mt since the last complete
pass, and rails outside their window. -/
structure SelvSt where
  pairs : List (Nat × Nat) := []
  seq : Nat := 0
  written : Nat := 0
  prev : Bool := false
  inj : Option InjSt := none
  tested : List Nat := []
  svcMt : Nat := 0
  rails : Nat := 0
  deriving DecidableEq, Repr, Inhabited

/-- Bindings of Bolt queues that the manual gives to the draft without a register for them (log entry 5). -/
structure Binds where
  echo : Option Nat := none
  heddle : Option Nat := none
  seqLog : Option Nat := none
  dac : List (Option Nat) := [none, none]
  adc : List (Option Nat) := [none, none]
  deriving DecidableEq, Repr, Inhabited

/-- What a decision point has fixed (R202): nothing yet, an end of the run at the end of the pass, or the entry and pass that
follow with the words of the entry (R217), those of its segment, and whether a request chose them. -/
inductive SeqNext where
  | open_
  | stopped | done | aborted
  | play (entry pass : Nat) (ent : Word × Word) (w0 w1 : Word) (req : Bool)
  deriving DecidableEq, Repr, Inhabited

/-- A held request (R203, R204): a stop at segment end or a jump, and the instant of the firing that made it, if one did. -/
structure SeqReq where
  stop : Bool
  target : Nat
  line : Option Nat
  deriving DecidableEq, Repr

/-- A wait in progress (R200): slot of the WAIT item counted on the present grid, its mode and line, the release slot where
known, and the timeout slot. -/
structure SeqWait where
  k : Nat
  mode : Nat
  line : Nat
  rel : Option Nat
  limit : Option Nat
  deriving DecidableEq, Repr

/-- A pattern sequencer (chapter 06). Grid: base instant, next slot to issue, captured period. Position: entry, pass, segment
and its words, played index, item address, loop stack (address, passes left), and the same of the last slot issued. Stream:
items consumed, granules written, words toward the next granule, granule being idled, iteration played again (its first item,
or none when idled, and the offset), last complete iteration of the pass, first item of the pass. `level` is the pattern level
of every channel as a mask, `armFrom` the acceptance of a GO under START_MODE LINE, `timed` the due time of a timed apply of its own
and `group` those of group applies that wait for a boundary, `gov` the old SEQ_CFG while it still governs (R496),
`ent` holds the words of the entry that plays, as its decision read them (R217), `holed` whether an item of the present iteration was idled
(R211). Slots are issued 128 wc ahead of their instants (R187): `live` while slots are being issued, `bnd` the instant of a boundary whose first slot is issued
and whether a request chose what follows it, `ending` the instant at which the run ends and the STATE it ends in, `marks` the marker
bits on their way to WARP: slot instant, bits, TYPE of the item (R57, R189). -/
structure SeqSt where
  base : Nat := 0
  k : Nat := 0
  per : Nat := 0
  entry : Nat := 0
  pass : Nat := 0
  seg : Nat := 0
  w0 : Word := 0
  w1 : Word := 0
  idx : Nat := 0
  addr : Nat := 0
  stack : List (Nat × Nat) := []
  next : SeqNext := .open_
  req : Option SeqReq := none
  wait : Option SeqWait := none
  level : Nat := 0
  armFrom : Option Nat := none
  start : Option Nat := none
  timed : Option Nat := none
  group : List Nat := []
  live : Bool := false
  bnd : Option (Nat × Bool) := none
  ending : Option (Nat × Nat) := none
  marks : List (Nat × Nat × Nat) := []
  lastIdx : Nat := 0
  lastPass : Nat := 0
  pos : Nat := 0
  wr : Nat := 0
  part : List Word := []
  missing : Bool := false
  again : Option (Option Nat × Nat) := none
  lastIter : Option Nat := none
  ent : Word × Word := (0, 0)
  holed : Bool := false
  passFrom : Nat := 0
  gov : Option Word := none
  deriving DecidableEq, Repr, Inhabited

/-- A chip in flight (R190, R227): tone, symbol code, chip instant, and the shape bank once fixed. -/
structure Chip where
  tone : Nat
  sym : Nat
  inst : Nat
  bank : Option Nat
  deriving DecidableEq, Repr

/-- A probe builder (chapter 07): chips that still contribute, the next sample not computed, the last sample codes, the shot
boundaries issued and not yet reached, the code origins (tone, instant) of recent shots by boundary (R316), and the old
PROBE_CFG while it still governs (R496). -/
structure ProbeSt where
  chips : List Chip := []
  nextN : Nat := 0
  outI : Int := 0
  outQ : Int := 0
  shots : List Nat := []
  codes : List (Nat × List (Nat × Nat)) := []
  gov : Option Word := none
  deriving DecidableEq, Repr, Inhabited

/-- A transmit link: consecutive passing device-clock cycles (R237), and the instant up to which discarded extended multiblocks
have been counted. -/
structure LinkSt where
  good : Nat := 0
  at_ : Nat := 0
  deriving DecidableEq, Repr, Inhabited

/-- A light-budget limiter (R241, R242, R244): level B in wc/1024 × 2^-16, the instant it was last brought up to, the leading edge of the
active phase at its ball, and the instant from which its fields as they stand are in force. -/
structure LimSt where
  b : Int := 0
  at_ : Nat := 0
  act : Option Nat := none
  since : Nat := 0
  deriving DecidableEq, Repr, Inhabited

/-- An offered stamp (R262). -/
structure Stamp where
  t : Nat
  rising : Bool
  ca : Nat
  cb : Nat
  deriving DecidableEq, Repr

/-- A crossing that Reed has taken and that waits for its place among the gate events (R256): the input, its instant, the direction, the rank
codes of its stamp (none for an unstamped crossing), and whether WARP ran on the safe clock. -/
structure ReedX where
  input : Nat
  inst : Nat
  rising : Bool
  codes : Option (Nat × Nat)
  safe : Bool
  deriving DecidableEq, Repr, Inhabited

/-- A Reed input: the last stamped crossing, its FIFO of offered stamps, a gap to be marked, and when the merger last took
a stamp of it. -/
structure ReedIn where
  last : Option Nat := none
  fifo : List Stamp := []
  gap : Bool := false
  taken : Option Nat := none
  deriving DecidableEq, Repr, Inhabited

/-- A stamp binding: wc bits [61:19] of the last stamp written, none where an anchor is needed (R263). -/
structure BindSt where
  high : Option Nat := none
  deriving DecidableEq, Repr, Inhabited

/-- The boundary register (R637): its cells, and the balls that a scan drives with their levels; a ball not listed is not driven. -/
structure BscanSt where
  cells : List Bool := []
  drive : List (Nat × Bool) := []
  deriving DecidableEq, Repr, Inhabited

/-- A Reed gate unit (R256 to R259): instant it opened, opening events (instant, source) and close events not yet reached, whether a TIMED series stops,
its configuration while open, and the clock events it has met. -/
structure GateSt where
  opened : Option Nat := none
  opens : List (Nat × Nat) := []
  closes : List Nat := []
  stop : Bool := false
  cfg : Word := 0
  len : Word := 0
  clkEvt : Bool := false
  broken : Bool := false
  deriving DecidableEq, Repr, Inhabited

/-- One measured result waiting to be written, with the unit's configuration of its gate (R264, R268). -/
structure MuRes where
  cfg : Word
  words : List Word
  invalid : Bool
  range : Bool
  clkEvt : Bool
  deriving DecidableEq, Repr

/-- A measurement unit (R264 to R268): the configuration of the gate it accumulates over, crossings counted, the open start of
an interval, interval sums, regression sums in wc/1024 relative to the opening, results waiting, the latest words, and whether a read of word 0 holds a
snapshot of words 1 to 7 (R268). -/
structure MuSt where
  cfg : Word := 0
  active : Bool := false
  cnt : Nat := 0
  begin_ : Option Nat := none
  n : Nat := 0
  sx : Int := 0
  sxx : Int := 0
  lo : Int := 0
  hi : Int := 0
  sk : Int := 0
  skk : Int := 0
  skt : Int := 0
  k1 : Nat := 0
  kn : Nat := 0
  missed : Nat := 0
  results : List MuRes := []
  latest : List Word := []
  snap : Bool := false
  deriving DecidableEq, Repr, Inhabited

/-- A code-density run (R269): the inputs it holds, the captures per rank it counts as a power of 2, and T at its start. -/
structure CdRun where
  mask : Nat := 0
  log2n : Nat := 0
  t0 : Int := 0
  deriving DecidableEq, Repr, Inhabited

/-- An event of the wake governor (R548). Driver groups are the banks 0 to 7 and the master outputs, 8. -/
inductive GovEvt where
  | domain (d : Nat)
  | pllw
  | dram
  | cluster (c : Nat)
  | lane (l : Nat)
  | drivers (g : Nat)
  deriving DecidableEq, Repr, Inhabited

/-- The wake governor (R547 to R550), in 10 ns ticks: waiting events with whether each still awaits its first tick, events still ramping
(event, slope in 0.01 A/µs, end tick), last domain and driver admissions, and recent cluster admissions. -/
structure GovSt where
  tick : Nat := 0
  queue : List (GovEvt × Bool) := []
  ramps : List (GovEvt × Nat × Nat) := []
  lastDomain : Option Nat := none
  lastDrivers : Option Nat := none
  clusters : List Nat := []
  deriving DecidableEq, Repr, Inhabited

/-- A calibration run (R280 to R288). Phases: 0 none, 1 sampler pass, 2 spare run, 3 ball to the spare, 4 channel run, 5 ball back,
6 generator run of a master output, 7 swap, 8 trigger inputs, 11 ALL. `todo` lists the outputs left, `cur` what is measured (a channel
index, 4m + j of a master generator, or in an ALL run the generator unit), `gens` the generators calibrated at the present output, `t0` T at the start of the unit's run, `waitMt` mt spent waiting for an idle wc, `bad` whether
the spare was FAULTY at the start, `prev` the role of a master generator before CAL, `tiLeft` the TI part of an ALL run, `mask` the inputs held (for a MOUT run
`bank` is the mask of its outputs), and `held` the record temperature and tap corrections of the unit that carries a master output's ball, until its
ball values end with the output's sequence (R276, R279). -/
structure CalSt where
  phase : Nat := 0
  kind : Nat := 0
  bank : Nat := 0
  todo : List Nat := []
  cur : Nat := 0
  gens : List Nat := []
  t0 : Int := 0
  waitMt : Nat := 0
  bad : Bool := false
  prev : Nat := 0
  tiLeft : Bool := false
  mask : Nat := 0
  held : Option (Int × List (Int × Int)) := none
  deriving DecidableEq, Repr, Inhabited

/-- Reasons the model stops with a fault: none. Every fault the manual describes is a record the block makes and goes on from
(R569); the type has one constructor that no meaning raises, kept so that a later command may stop by name. Safe. -/
inductive Fault where
  /-- Raised by no meaning. Safe. -/
  | unused
  deriving DecidableEq, Repr

/-- Reasons the model has no meaning for a command. -/
inductive Refusal where
  /-- The command has no meaning in this model yet; raised by the arms of exec only. Safe. -/
  | notModelled (mnemonic : String)
  deriving DecidableEq, Repr

/-- The values in force of a generator unit: its tap corrections in the record layout, and its ball's skew and echo offset
(R277, R279, R292). -/
structure GenVals where
  taps : List Word := []
  skew : Int := 0
  echoOfs : Int := 0
  deriving DecidableEq, Repr, Inhabited

/-- A calibration run of the receive slices (R313): phase 0 none, 1 self-test, 2 estimate; the fibres left, the fibre measured, and T
at its start. -/
structure RxCal where
  phase : Nat := 0
  todo : List Nat := []
  cur : Nat := 0
  t0 : Int := 0
  deriving DecidableEq, Repr, Inhabited

/-- What a receive slice's input watch keeps at one position (R307): last raw value, its run length, the run of over-range samples,
and since when the input error lasts. -/
structure InWatch where
  last : Int := 0
  same : Nat := 0
  ovr : Nat := 0
  err : Option Nat := none
  deriving DecidableEq, Repr, Inhabited

/-- A span of label instants in which a condition held; no end while it lasts. -/
abbrev Span := Nat × Option Nat

/-- A raw frame waiting for its Skein (R396): label instant, GAP, payload. -/
structure RawFrame where
  inst : Nat
  gap : Bool
  words : List Word
  deriving DecidableEq, Repr, Inhabited

/-- The receive path of one fibre (chapter 10): passing clock cycles, next release boundary, since when labels are missing, spans with
zeroed or missing samples, with input errors and (by position) with slice errors, input watches and saturation counts by position
index, profiles not yet complete (code origin, tone, SHOTS) with the conditions WEFT has put on the next one (residue, missing range
samples), whether an apply waits, and the raw words gathered for the next raw frame with the frames waiting. -/
structure RxSt where
  good : Nat := 0
  next : Nat := 0
  gapFrom : Option Nat := some 0
  errs : List Span := []
  inErrs : List Span := []
  slErrs : List (Nat × Span) := []
  watch : List InWatch := List.replicate 4 {}
  sat : List Nat := List.replicate 4 0
  origins : List (Nat × Nat × Nat) := []
  residue : Bool := false
  missing : List (Nat × Nat) := []
  applyWait : Bool := false
  raw : List Word := []
  rawAt : Nat := 0
  rawGap : Bool := false
  rawFrames : List RawFrame := []
  deriving DecidableEq, Repr, Inhabited

/-- The rotating spare slice (R309 to R311): mt spent at its position, the position a mismatch accuses (`sole` when no other active
position exists), the position it carries from its fibre's next shot boundary, a return that waits for one, the first slice marked FAULTY
during a judgment, the dwell in force at its position, and the wc it joined there. -/
structure SpareSt where
  dwell : Nat := 0
  len : Nat := 1
  joinAt : Nat := 0
  judge : Option Nat := none
  sole : Bool := false
  carry : Option Nat := none
  back : Bool := false
  first : Option Nat := none
  deriving DecidableEq, Repr, Inhabited

/-- A gauge (R338, R340): last valid ψ′ with its tone, cumulative phase, and the tracked offsets of the 16 tones. -/
structure GaugeSt where
  last : Option (Nat × Nat) := none
  phi : Nat := 0
  offs : List Int := []
  deriving DecidableEq, Repr, Inhabited

/-- A row of a fibre (R335): code origin, tone, SHOTS, flags in the order of the frame header (RX_ERR highest of five), and per gauge
the rate (none for NO_PHASE), the amplitude, and whether it met R333. -/
structure Row where
  t : Nat
  tone : Nat
  shot : Nat
  flags : Nat
  cells : List (Option Int × Nat × Bool)
  deriving DecidableEq, Repr, Inhabited

/-- One gauge of a band filter (R348), in exact rationals: the two last inputs, outputs of section 0, and outputs of section 1, the
sum of squares and the greatest magnitude of the window, and whether a row of the window met R333. -/
structure BandG where
  x1 : Rat := 0
  x2 : Rat := 0
  y1 : Rat := 0
  y2 : Rat := 0
  z1 : Rat := 0
  z2 : Rat := 0
  sum : Rat := 0
  peak : Rat := 0
  range : Bool := false
  deriving DecidableEq, Repr, Inhabited

/-- A band of a fibre: its gauges, and the flags met in the window. -/
structure BandSt where
  gs : List BandG := []
  flags : Nat := 0
  deriving DecidableEq, Repr, Inhabited

/-- A spectral gauge (R349, R350): previous P_h, S_h, its sum over the window, and whether a sample of the window was NO_PHASE or met
R333. -/
structure SpecG where
  prev : Nat := 0
  acc : Int := 0
  sum : Int := 0
  faded : Bool := false
  range : Bool := false
  deriving DecidableEq, Repr, Inhabited

/-- SPEC of a fibre: its gauges, shots of the window, whether the next shot sets S_h to 0, a REBASE that waits, whether this window
outputs REBASED, and the flags met. -/
structure SpecSt where
  gs : List SpecG := []
  shots : Nat := 0
  zero : Bool := true
  rebase : Bool := false
  rebased : Bool := false
  flags : Nat := 0
  deriving DecidableEq, Repr, Inhabited

/-- A detector's gauge (R352, R353): ON, the count toward a change, and the three averages in exact rationals. -/
structure DetG where
  on : Bool := false
  cnt : Nat := 0
  sta : Rat := 0
  lta : Rat := 0
  base : Rat := 0
  v : Rat := 0
  deriving DecidableEq, Repr, Inhabited

/-- A started region (R354): identity, present extent, widest extent, extreme v, row of its START, and the flags it covers. -/
structure Region where
  id : Nat
  first : Nat
  last : Nat
  wFirst : Nat
  wLast : Nat
  ext : Int
  row : Nat
  order : Nat
  flags : Nat
  deriving DecidableEq, Repr, Inhabited

/-- A detector: its gauges, started regions, START records formed, rows of its source, a LOST mark for the next record, and the due
time of its last command. -/
structure DetSt where
  gs : List DetG := []
  regions : List Region := []
  ids : Nat := 0
  rows : Nat := 0
  lost : Bool := false
  lastDue : Option Nat := none
  deriving DecidableEq, Repr, Inhabited

/-- The result path of one fibre (chapter 11): rows so far, gauges, recent rows newest first, the instant from which a zeroing acts,
bands, SPEC, and detectors. -/
structure ResSt where
  rows : Nat := 0
  gauges : List GaugeSt := []
  hist : List Row := []
  zeroAt : Option Nat := none
  bands : List BandSt := List.replicate 8 {}
  spec : SpecSt := {}
  dets : List DetSt := List.replicate 16 {}
  deriving DecidableEq, Repr, Inhabited

/-- A result stream (R345): frames so far, and whether the next carries GAP. -/
structure StreamSt where
  seq : Nat := 0
  gap : Bool := false
  deriving DecidableEq, Repr, Inhabited

/-- A frame of a Skein (R394): its number, instant, payload, GAP and DAMAGED, header words replaced by R389, and its first line in
the ring. -/
structure Frame where
  no : Nat
  inst : Nat
  words : List Word
  gap : Bool
  damaged : Bool
  hdrBad : List Nat
  line : Nat
  deriving DecidableEq, Repr, Inhabited

/-- A rewind-mark slot (R398 to R400): STATE 0 FREE, 1 OPEN, 2 COMPLETE, with the instant, the PRE and POST of the request in
wc/1024, the first and last frame numbers, and whether START_FRAME has been located. -/
structure MarkSt where
  st : Nat := 0
  rewLost : Bool := false
  preShort : Bool := false
  postShort : Bool := false
  host : Bool := false
  fibre : Nat := 0
  det : Nat := 0
  id : Nat := 0
  inst : Nat := 0
  pre : Nat := 0
  post : Nat := 0
  start : Nat := 0
  end_ : Nat := 0
  lost : Nat := 0
  located : Bool := false
  deriving DecidableEq, Repr, Inhabited

/-- A Skein (R394 to R399): its valid frames oldest first, the next frame number and line, a GAP for the next frame, and its marks. -/
structure SkeinSt where
  frames : List Frame := []
  next : Nat := 0
  line : Nat := 0
  gapNext : Bool := false
  marks : List MarkSt := List.replicate 16 {}
  deriving DecidableEq, Repr, Inhabited

/-- A Skein reader (R401, R402): its configuration of the GO, the frame after the last of an ended range, a LOST for the next header, whether no
frame has been delivered yet, and whether its mark has been released under it (R407). -/
structure RdSt where
  cfg : Word := 0
  until_ : Option Nat := none
  lost : Bool := false
  fresh : Bool := false
  loose : Bool := false
  deriving DecidableEq, Repr, Inhabited

/-- A stream region (R393): items held, items written and read since it was emptied (in REPLAY the read position). -/
structure RegionSt where
  items : List Word := []
  written : Nat := 0
  rd : Nat := 0
  deriving DecidableEq, Repr, Inhabited

/-- A chain port (R413 to R432): whether an accepted HELLO has come since it went UP, its TIME count and its HELLO count, store-forward credit in
words, frames waiting for a HELLO or for credit with the port whose buffer a transit frame fills, whether the last store-forward frame sent was a
transit one, words of its own buffer freed and not yet returned, frames and CREDIT blocks sent in the present wc with their instant, its last
departures (SEQ, stamp), the latest TIME frame received (SEQ, arrival stamp), a HEAL that waits with the mt counted, and Θ in wc/1024. -/
structure PortSt where
  heard : Bool := false
  seq : Nat := 0
  hello : Nat := 0
  credit : Nat := 0
  waiting : List (ChFrame × Option Nat) := []
  lastTransit : Bool := false
  freed : Nat := 0
  sent : List (Nat × ChFrame) := []
  credits : List (Nat × Nat) := []
  deps : List (Nat × Nat) := []
  arr : Option (Nat × Nat) := none
  heal : Option Nat := none
  theta : Rat := 0
  deriving DecidableEq, Repr, Inhabited

/-- An enumeration walk of the head (R424): the ports whose WALK has not returned, and the entries (signature, retained address, HEAD) of
the EAST and WEST walks after the head's own, with whether a WALK came round the ring. -/
structure WalkSt where
  out_ : List Nat := []
  east : List (Word × Nat × Bool) := []
  west : List (Word × Nat × Bool) := []
  round : Bool := false
  deriving DecidableEq, Repr, Inhabited

/-- The chain (chapter 14): ports WEST and EAST, SEQ of frames originated, broadcast copies seen by originator (newest first), the
addresses and positions of the last ASSIGN, broken links (WEST end, EAST end), the walk, consecutive exchanges within and beyond the
thresholds, TRIM values of the last second, the page last set in each module, and the AON retained address. -/
structure ChainSt where
  ports : List PortSt := [{}, {}]
  seq : Nat := 0
  seen : List (Nat × List Nat) := []
  table : List (Nat × Nat) := []
  broken : List (Nat × Nat) := []
  walk : Option WalkSt := none
  okCnt : Nat := 0
  badCnt : Nat := 0
  trims : List (Nat × Int) := []
  pages : List (Option Nat) := [none, none]
  aonAddr : Nat := 1022
  deriving DecidableEq, Repr, Inhabited

/-- What the host port and the register paths send outward (chapter 15): bytes written to a ring in host memory, an MSI-X vector, the words
a read of a path returns, a BAR read's 64-bit completion, a stream datagram's bytes, an answer to an Ethernet request, an ARP answer, and
the SPI status byte. -/
inductive HostOut where
  | ring (n off : Nat) (bytes : List Nat)
  | msix (v : Nat)
  | words (path : Nat) (ws : List Word)
  | bar (v : Nat)
  | stream (n dest : Nat) (bytes : List Nat)
  | answer (src op reqId dev addr status : Nat) (ws : List Word)
  | arp (mac ip : Nat)
  | spiStatus (b : Nat)
  deriving DecidableEq, Repr, Inhabited

/-- A host ring (R457 to R459, R464): size of a record that waits for space, records since the last interrupt, the instant of the first of
them; under Ethernet the datagram being filled (bytes of its records, their number, the instant of the first) and SEQ. -/
structure RingSt where
  need : Nat := 0
  needQ : Option Nat := none
  cnt : Nat := 0
  first : Option Nat := none
  gram : List Nat := []
  recs : Nat := 0
  at_ : Option Nat := none
  seq : Nat := 0
  deriving DecidableEq, Repr, Inhabited

/-- An Ethernet request's source and header (R465). -/
structure EthReq where
  src : Nat
  id : Nat
  dev : Nat
  ack : Bool
  addr : Nat
  deriving DecidableEq, Repr, Inhabited

/-- A remote access that waits for its REG_RSP (R462): SEQ of its frame, the Ethernet request it answers (none for the remote window),
whether it is a write, and for a window read whether the whole slot, its lower or its upper half was asked for. -/
structure RemoteWait where
  seq : Nat
  eth : Option EthReq
  write : Bool
  half : Nat := 0
  at_ : Nat := 0
  deriving DecidableEq, Repr, Inhabited

/-- One of the last 8 Ethernet sources seen: its last REQ_ID, and its stored response while there is one (R465). -/
structure EthSrc where
  src : Nat
  id : Nat
  rsp : Option HostOut
  deriving DecidableEq, Repr, Inhabited

/-- The host port (chapter 15): rings, a record interrupted by the loss of the link (ring, queue, words), remote accesses waiting, Ethernet
sources, latest first, the REGACC data register, PERST_N, and what left in the present wc. -/
structure HostSt where
  rings : List RingSt := List.replicate 64 {}
  redo : Option (Nat × Nat × List BWord) := none
  waits : List RemoteWait := []
  srcs : List EthSrc := []
  jtag : Word := 0
  perst : Bool := false
  sent : List (Nat × HostOut) := []
  deriving DecidableEq, Repr, Inhabited

/-- A day snapshot (R589): every HEALTH_STRESS, every erase maximum, every lamp DRIFT. -/
structure Snap where
  stress : List Nat := []
  erase : List Nat := []
  lamp : List Int := []
  deriving DecidableEq, Repr, Inhabited

/-- The ageing counters in PD_AON (chapter 21): the u58 stress accumulators of the sites, the last seven day snapshots newest first, the
snapshot of DAYS = 0, the increments of the last seven days by site newest first, the erase count of every Bobbin sector that has one, and
B_REF of every lamp. -/
structure HealthSt where
  acc : List Nat := List.replicate 8 0
  snaps : List Snap := []
  base : Snap := {}
  hist : List (List Nat) := []
  erases : List (Nat × Nat) := []
  bref : List (Option Nat) := List.replicate 32 none
  deriving DecidableEq, Repr, Inhabited

/-- A lamp output or matrix lamp (chapter 22): its diagnosis code of R613 without the overcurrent, the capture that waits for converter A,
whether a period was commanded on, whether it had a valid capture and whether a force met it, and for outputs the next pulse and the next
row slot of the frame, the last window (lead and on-time in ticks) while it may be cut, whether the period has been cut, periods cut in
succession, the slot this frame stretches, and where the last window took a capture whether an earlier one of its period had. -/
structure LampSt where
  base : Nat := 0
  held : Option Nat := none
  lit : Bool := false
  got : Bool := false
  forced : Bool := false
  k : Nat := 0
  n : Nat := 0
  win : Option (Nat × Nat) := none
  cut : Bool := false
  cuts : Nat := 0
  stretch : Option Nat := none
  pre : Option Bool := none
  deriving DecidableEq, Repr, Inhabited

/-- The power controller (chapter 19): domains ON since power-up, PD_BOLT waking from RETAIN, domains to switch off after their wake and to
queue after their save, as masks; reads below 102 °C in succession; fibres still throttled, as a mask; reads in agreement of each sensor pair
under SITE_ERR. -/
structure PwrSt where
  ever : Nat := 3
  kept : Bool := false
  offAfter : Nat := 0
  onAfter : Nat := 0
  cool : Nat := 0
  thr : Nat := 0
  agree : List Nat := List.replicate 8 0
  deriving DecidableEq, Repr, Inhabited

/-- Island holds (R495 to R499): mt ticks since each island first showed HELD, and the islands a draft apply holds, as a mask. -/
structure HoldSt where
  mt : List Nat := List.replicate 9 0
  draft : Nat := 0
  deriving DecidableEq, Repr, Inhabited

/-- The lamps and monitor converters: outputs and matrix lamps, whether a frame has started since power-up, whether the next edge is
accepted wherever it falls, whether the next frame start is the first of a structure, and whether converter B is stopped for its
self-test. -/
structure LampsSt where
  outs : List LampSt := List.replicate 32 {}
  mats : List LampSt := List.replicate 256 {}
  running : Bool := false
  fresh : Bool := true
  first : Bool := true
  stopB : Bool := false
  deriving DecidableEq, Repr, Inhabited

/-- A draft element in Bobbin (R487): SEQ, the draft as loaded, and whether every byte was written and read back whole. -/
structure Elem where
  seq : Nat
  bytes : List Nat
  ok : Bool
  deriving DecidableEq, Repr, Inhabited

/-- A checkpoint record in its ring sector (R524): SEQ, SEQ of element 0 and of the newest element of the chain, MT, entries, whether it is
whole, and the FAULTY marks of the generators of each master output (R181). -/
structure CkptRec where
  sector : Nat
  seq : Nat
  base : Nat
  dseq : Nat
  mt : Nat
  words : List (Nat × Word)
  ok : Bool
  marks : List (List Nat) := []
  deriving DecidableEq, Repr, Inhabited

/-- A calibration set (R527): SEQ, the words of its records, and whether it is whole. -/
structure CalSetRec where
  seq : Nat
  words : List (Nat × Word)
  ok : Bool
  deriving DecidableEq, Repr, Inhabited

/-- An ageing record (R591): SEQ, the AON counters, and the words of the ageing registers. -/
structure AgeRec where
  seq : Nat
  health : HealthSt
  words : List (Nat × Word)
  deriving DecidableEq, Repr, Inhabited

/-- The Bobbin flash (R522): firmware slots A and B, draft slots A and B as chains of elements, the checkpoint ring, calibration sets A and B, the
newest ageing record, the number of ageing records written, whether a newer one is written in part, and the draft sectors that are not erased. -/
structure BobbinSt where
  fw : List (Option Elem) := [none, none]
  drafts : List (List Elem) := [[], []]
  ckpts : List CkptRec := []
  cals : List (Option CalSetRec) := [none, none]
  age : Option AgeRec := none
  ageCnt : Nat := 0
  ageBad : Bool := false
  dirty : List Nat := []
  deriving DecidableEq, Repr, Inhabited

/-- The draft loader (chapter 16): the staged bytes, whether the staged draft is the one last applied, whether the
draft last applied is committed, and the slot a commit writes. -/
structure DraftSt where
  bytes : List Nat := []
  applied : Bool := false
  saved : Bool := true
  slot : Option Nat := none
  deriving DecidableEq, Repr, Inhabited

/-- The management processor (chapter 18): image bytes received, mt since the last KICK, the mailbox command not yet answered with its arguments,
tries of a mailbox command and whether its calibration run has started, activities claimed by firmware as a mask, mt since step 9 of the
restore began, and whether VDD_AON has stayed up while the supplies are off. -/
structure MgmtSt where
  image : List Nat := []
  wdt : Nat := 0
  mbx : Option (Nat × List Word) := none
  tries : Nat := 0
  running : Bool := false
  claims : Nat := 0
  wakeMt : Nat := 0
  aonKept : Bool := false
  deriving DecidableEq, Repr, Inhabited

/-- The state of the block. `old` lists the words that a recent write replaced, each with the wc from which the new word applies
(R138, R217, R255); `fresh` lists shadows written in the present owner cycle, each as it stood before, with the wc of the first such write
(R7); `evts` lists what has set fields of access RC and W1C in the present wc (R10); `sentAt` gives the wc in which the commands of `hsf`
were committed by their senders (R57), and `pins` the source events of Heddle's lines that lie ahead (R149); `vals` and `loads` are the calibration values in force and the units that wait to load new ones, each with the temperature its values are formed at (R278, R293); `resOld` lists words that
a receive apply replaced, with the code origin from which the new ones act (R325); `rtMt` counts down the mt without refresh of a
retention test (R403); `dramMt` and `boltMt` count the mt of the present DRAM
and Bolt scrub passes (R379, R389). -/
structure State where
  regs : RegMap := []
  shadow : RegMap := []
  staged : RegMap := []
  now : Nat := 0
  freeIdx : Nat := 0
  pending : List Instr := []
  hsf : List DueCmd := []
  stalled : List DueCmd := []
  sentAt : List (DueCmd × Nat) := []
  store : List Stored := []
  clk : ClkSt := {}
  outs : List OutSt := List.replicate 72 {}
  banks : List BankSt := List.replicate 8 {}
  voters : List VoterSt := List.replicate 8 {}
  hin : List HedIn := List.replicate 16 {}
  lines : List HedLine := List.replicate 64 {}
  pins : List PinEvt := []
  rgs : List RgSt := List.replicate 8 {}
  old : List (Nat × Word × Nat) := []
  fresh : List (Nat × Option Word × Nat) := []
  evts : List RegEvt := []
  chain : ChainSt := {}
  seqs : List SeqSt := List.replicate 2 {}
  probes : List ProbeSt := List.replicate 2 {}
  lims : List LimSt := List.replicate 2 {}
  txLinks : List LinkSt := List.replicate 2 {}
  reedIn : List ReedIn := List.replicate 16 {}
  reedBind : List BindSt := List.replicate 4 {}
  reedPend : List ReedX := []
  bscan : BscanSt := {}
  gates : List GateSt := List.replicate 4 {}
  mus : List MuSt := List.replicate 4 {}
  cd : CdRun := {}
  gov : GovSt := {}
  cal : CalSt := {}
  vals : List (Nat × GenVals) := []
  loads : List (Nat × Int) := []
  rxCal : RxCal := {}
  rx : List RxSt := List.replicate 2 {}
  spare : SpareSt := {}
  res : List ResSt := List.replicate 2 {}
  resStreams : List StreamSt := List.replicate 16 {}
  resOld : List (Nat × Word × Nat) := []
  skeins : List SkeinSt := List.replicate 64 {}
  readers : List RdSt := List.replicate 8 {}
  regions : List RegionSt := List.replicate 2 {}
  dramMt : Nat := 0
  boltMt : Nat := 0
  rtMt : Nat := 0
  host : HostSt := {}
  queues : List (Nat × BQueue) := []
  served : List (Nat × Nat) := []
  detected : List Det := []
  selv : SelvSt := {}
  health : HealthSt := {}
  lamps : LampsSt := {}
  holds : HoldSt := {}
  pwr : PwrSt := {}
  draft : DraftSt := {}
  bobbin : BobbinSt := {}
  mgmt : MgmtSt := {}
  aonLock : Bool := false
  binds : Binds := {}
  deriving DecidableEq, Repr, Inhabited

/-- The state right after reset. Log: 1 DESIGN CHOICE, 92 DESIGN CHOICE. -/
def State.reset : State := {}

end Sys2Proof.Machine
end

