-- ==== Sys2Proof/Machine/Ops.lean ====
section
/-! DEFINITION. The named operations every meaning is written over: reading and writing register fields, applying shadows,
instants on the timebase, the warp plan, reporting a fault to Selvedge, and free values. -/

namespace Sys2Proof.Machine

/-- The outcome type of a meaning. -/
abbrev Out := Host.Outcome State Fault Refusal

/-- The state an outcome goes on to. -/
def Out.after (o : Out) (s : State) : State := match o with | .next t => t | _ => s

/-! ### Register fields -/

/-- The working word at a register address. -/
def State.word (s : State) (a : Nat) : Word := (s.regs.find a).getD (regReset a)

/-- The state with the working word at `a` replaced. Log: 7 DESIGN CHOICE. -/
def State.setWord (s : State) (a : Nat) (w : Word) : State := { s with regs := s.regs.put a w (regReset a) }

/-- The working value of field `f`, array offset `o`. -/
def State.get (s : State) (f : Fld) (o : Nat := 0) : Nat := f.get (s.word (f.base + o))

/-- The state with the working value of field `f` replaced. -/
def State.put (s : State) (f : Fld) (v : Nat) (o : Nat := 0) : State :=
  s.setWord (f.base + o) (f.set (s.word (f.base + o)) v)

/-- A one-bit field as a truth value. -/
def State.is (s : State) (f : Fld) (o : Nat := 0) : Bool := s.get f o == 1

/-- The signed working value of a field. -/
def State.geti (s : State) (f : Fld) (o : Nat := 0) : Int := sgn (fldWidth f) (s.get f o)

/-- The state with a signed value, saturated to the field, in field `f`. -/
def State.putSat (s : State) (f : Fld) (z : Int) (o : Nat := 0) : State :=
  s.put f (enc (fldWidth f) (satS (fldWidth f) z)) o

/-- An event that sets a field: of those of access RC and W1C the value before the first event of the wc is kept, with what the events of
the wc set or add (R10). -/
def State.noteEvt (s : State) (f : Fld) (o : Nat) (g : Nat → Nat) : State :=
  if f.acc != .rc && f.acc != .w1c then s
  else
    let l := s.evts.filter (fun e => e.wc == s.now)
    let here := fun (e : RegEvt) => e.addr == f.base + o && e.lo == f.lo
    if l.any here then { s with evts := l.map (fun e => if here e then { e with amt := g e.amt } else e) }
    else { s with evts := l ++ [⟨s.now, f.base + o, f.lo, s.get f o, g 0⟩] }

/-- The events of the present wc that set the field at bit `lo` of word `a` (R10). -/
def State.evtAt (s : State) (a lo : Nat) : Option RegEvt := s.evts.find? (fun e => e.wc == s.now && e.addr == a && e.lo == lo)

/-- The state with a flag set by an event. -/
def State.flag (s : State) (f : Fld) (o : Nat := 0) : State := (s.noteEvt f o (fun _ => 1)).put f 1 o

/-- The state with a flag cleared. -/
def State.unflag (s : State) (f : Fld) (o : Nat := 0) : State := s.put f 0 o

/-- The state with a saturating counter field advanced by `n`. -/
def State.bump (s : State) (f : Fld) (o : Nat := 0) (n : Nat := 1) : State :=
  (s.noteEvt f o (fun k => k + n)).put f (satU (fldWidth f) (s.get f o + n)) o

/-- A field `k` bits into a mask field: bit `i` of the field. -/
def State.bit (s : State) (f : Fld) (i : Nat) (o : Nat := 0) : Bool := (s.get f o).testBit i

/-- The state with bit `i` of a mask field set to `b`. -/
def State.putBit (s : State) (f : Fld) (i : Nat) (b : Bool) (o : Nat := 0) : State :=
  (if b then s.noteEvt f o (fun k => withBit k i true) else s).put f (withBit (s.get f o) i b) o

/-- The word that a write of class D has left in the shadow at `a`; the working word where none waits (R6). -/
def State.shadowWord (s : State) (a : Nat) : Word := (s.shadow.find a).getD (s.word a)

/-- The shadow value of a field. -/
def State.getSh (s : State) (f : Fld) (o : Nat := 0) : Nat := f.get (s.shadowWord (f.base + o))

/-- Put each field of `fs` that satisfies `p` from word `src` into word `dst`. -/
def mergeFields (fs : List Fld) (p : Fld → Bool) (dst src : Word) : Word :=
  fs.foldl (fun w f => if p f then f.set w (f.get src) else w) dst

/-- The fields of the register at an address. -/
def fieldsAt (a : Nat) : List Fld := match regAt a with | some r => r.fields | none => []

/-- The index of the next free value is used up. Log: 2 DESIGN CHOICE. -/
def State.free (s : State) : Nat × State := (Config.free s.freeIdx, { s with freeIdx := s.freeIdx + 1 })

/-! ### Instants (R22, R24, R25) -/

/-- Instants are 72-bit: EPOCH, COARSE and FINE in wc/1024. -/
def tMod : Nat := 2 ^ 72

/-- The sum of an instant and a span in wc/1024. -/
def tAdd (a b : Nat) : Nat := (a + b) % tMod

/-- The instant `b` wc/1024 before `a`. -/
def tSub (a b : Nat) : Nat := (a + (tMod - b % tMod)) % tMod

/-- The signed distance a - b of two instants (R22). -/
def tDiff (a b : Nat) : Int := sgn 72 (tSub a b)

/-- Is `a` before `b`? -/
def tLt (a b : Nat) : Bool := decide (tDiff a b < 0)

/-- Is `a` at or before `b`? -/
def tLe (a b : Nat) : Bool := decide (tDiff a b ≤ 0)

/-- `n` wc in wc/1024. -/
def wcs (n : Nat) : Nat := n * 1024

/-- The wc that contains an instant, as the instant of its start. -/
def tFloor (t : Nat) : Nat := t - t % 1024

/-- A SerDes lane starts: its enable waits for the wake governor (R547, R548). Lanes 0 to 5 are CTX, 6 to 17 CRX, 18 to 21 the host port, 22 to
29 the chain ports WEST and EAST. Log: 82 DEDUCED. -/
def State.wakeLane (s : State) (l : Nat) : State :=
  if s.gov.queue.any (fun e => e.1 == .lane l) then s
  else { s with gov := { s.gov with queue := s.gov.queue ++ [(.lane l, true)] } }

/-- The present instant: the start of the present wc. -/
def State.nowT (s : State) : Nat := wcs s.now

/-- Time passes up to the wc of instant `t`; it never runs back (log entry 4). Log: 4 DESIGN CHOICE. -/
def State.until_ (s : State) (t : Nat) : State :=
  if tLt s.nowT t then { s with now := (t % tMod) / 1024 } else s

/-- Word 0 of an instant in the time-stamp layout (R25). -/
def tsLo (t : Nat) : Word := BitVec.ofNat 36 (t % 2 ^ 36)

/-- Word 1 of an instant: its EPOCH. -/
def tsHi (t : Nat) : Word := BitVec.ofNat 36 (t / 2 ^ 36)

/-- The instant held in a pair of words. -/
def tsOf (lo hi : Word) : Nat := hi.toNat * 2 ^ 36 + lo.toNat

/-- The later of two instants. -/
def tMax (a b : Nat) : Nat := if tLt a b then b else a

/-- The smaller of two optional instants. -/
def tMin? (a b : Option Nat) : Option Nat :=
  match a, b with
  | none, x => x
  | x, none => x
  | some x, some y => some (if tLt y x then y else x)

/-- The earliest instant at or after `t` of the grid `phase + k * per` counted from timebase zero (R163). -/
def gridAt (t per phase : Nat) : Nat :=
  if per = 0 then t else
  let ph := phase % per
  if t ≤ ph then ph else ph + (t - ph + per - 1) / per * per

/-! ### The warp plan (R60 to R64) -/

/-- A PLL_W plan in two words: c × (N + F/2^24) / P as a fraction (R60, R64). -/
def planRatio (cfg frac : Word) : Nat × Nat :=
  let cond := fPLLW_CFG_COND.get cfg
  let n := fPLLW_CFG_N.get cfg * 2 ^ 24 + fPLLW_FRAC_F.get frac
  let p := (fPLLW_CFG_PDIV.get cfg + 1) * 2 ^ 24
  (if cond = 1 then 2 * n else n, if cond = 2 then 2 * p else p)

/-- KEEPER_MT_LEN as a number of 2^-18 reference cycles. -/
def State.mtLen (s : State) : Nat := (s.word aKEEPER_MT_LEN).toNat

/-- wc per mt of a plan as a fraction: KEEPER_MT_LEN × ratio (R64). -/
def State.planWc (s : State) (cfg frac : Word) : Nat × Nat :=
  let r := planRatio cfg frac
  (s.mtLen * r.1, 2 ^ 18 * r.2)

/-- wc per mt of the working plan as a fraction. -/
def State.wcPerMt (s : State) : Nat × Nat := s.planWc (s.word aPLLW_CFG) (s.word aPLLW_FRAC)

/-- TB_WC_PER_MT of a plan: rounded to the nearest 2^-12 wc (R64). -/
def State.wcPerMtWord (s : State) (cfg frac : Word) : Word :=
  let q := s.planWc cfg frac
  BitVec.ofNat 36 ((2 * q.1 * 4096 + q.2) / (2 * q.2))

/-- The smallest number of wc/1024 that lasts at least `ps` picoseconds at the warp frequency in force (R98, R134). -/
def State.psUp (s : State) (ps : Nat) : Nat :=
  let q := s.wcPerMt
  (ps * 4096 * q.1 + q.2 * 10 ^ 9 - 1) / (q.2 * 10 ^ 9)

/-- `ps` picoseconds in wc/1024 at the programmed warp frequency, rounded to nearest (R134). -/
def State.psNear (s : State) (ps : Nat) : Nat :=
  let q := s.wcPerMt
  (2 * ps * 4096 * q.1 + q.2 * 10 ^ 9) / (2 * q.2 * 10 ^ 9)

/-- Is a deviation of `d` wc/1024 within `ps` picoseconds at the warp frequency in force? -/
def State.within (s : State) (d : Int) (ps : Nat) : Bool :=
  let q := s.wcPerMt
  decide (d.natAbs * (q.2 * 10 ^ 9) ≤ ps * 4096 * q.1)

/-! ### Shadows (R6, R7) -/

/-- The island whose cycle an apply of word `a` keeps to (R7): its owner, for the probe registers SHUTTLE (R233). Log: 8 DEDUCED. -/
def cycleIsland (a : Nat) : Nat := match regAt a with | some r => r.owners.headD 0 | none => 0

/-- The longest cycle of an island whose cycles lie on no grid of the warp clock, in ps: WEFT on the slowest ring oscillator (R75), BOLT, and
MGMT (R74); 0 for the others, whose cycle is one wc or, in SHUTTLE, four. Log: 8 DEDUCED. -/
def islandCycle (i : Nat) : Nat := if i = 3 ∨ i = 4 then 1667 else if i = 5 then 2084 else if i = 8 then 2503 else 0

/-- Does the present wc lie in the cycle of island `i` that held wc `c` (R7)? SHUTTLE's cycles begin at every fourth wc (R45). Log: 8 DEDUCED. -/
def State.sameCycle (s : State) (i c : Nat) : Bool :=
  if c = s.now then true
  else if i = 1 then c / 4 == s.now / 4
  else if islandCycle i = 0 ∨ s.now < c ∨ s.psUp (islandCycle i) ≤ wcs (s.now - c) then false
  else Config.sameCycle i c s.now

/-- The shadow at `a` as it stood before the writes of the present owner cycle, where there were any (R7). Log: 8 DEDUCED. -/
def State.freshAt (s : State) (a : Nat) : Option (Option Word) :=
  (s.fresh.find? (fun e => e.1 == a && s.sameCycle (cycleIsland a) e.2.2)).map (·.2.1)

/-- A write reaches the shadow at `a` in the present owner cycle (R7). Log: 8 DEDUCED. -/
def State.noteShadow (s : State) (a : Nat) : State :=
  if (s.freshAt a).isSome then s
  else { s with fresh := s.fresh.filter (fun e => e.1 != a) ++ [(a, s.shadow.find a, s.now)] }

/-- The class-D fields of the word at `a` take the values of `w`. -/
def State.takeD (s : State) (a : Nat) (w : Word) : State :=
  s.setWord a (mergeFields (fieldsAt a) (fun f => f.cls == .d) (s.word a) w)

/-- The shadow of one word passes to its working copy: its class-D fields take the shadow values (R6). A write of the present owner
cycle is no part of it and stays in the shadow (R7). -/
def State.applyWord (s : State) (a : Nat) : State :=
  match s.freshAt a with
  | some none => s
  | some (some w) => s.takeD a w
  | none => match s.shadow.find a with
    | none => s
    | some w => { s.takeD a w with shadow := s.shadow.erase a }

/-- The shadows of several words pass to their working copies. -/
def State.applyWords (s : State) (as : List Nat) : State := as.foldl State.applyWord s

/-! ### Modes of the device that many blocks consult -/

/-- WARP runs on the safe clock. -/
def State.safe (s : State) : Bool := s.is fCLK_STATUS_WARP_SAFE

/-- A retune lasts: GO accepted and not yet returned to PLL_W (R55). -/
def State.retuning (s : State) : Bool :=
  let st := s.get fCLK_RETUNE_STATE
  st == 1 || st == 2 || st == 3 || st == 4 || st == 5 || st == 6

/-- WARP is on the safe clock or retuning (R55, R646). -/
def State.unlocked (s : State) : Bool := s.safe || s.retuning

/-- A calibration of every unit runs: commands and triggers to outputs are discarded, no grid is emitted (R285). -/
def State.calAll (s : State) : Bool := s.cal.phase != 0 && s.cal.kind == 4

/-- The restore hold is active (R115). -/
def State.restoreHold (s : State) : Bool := s.is fMGMT_RESUME_HOLD_ACTIVE

/-- The fault hold is active (R577). -/
def State.faultHold (s : State) : Bool := s.is fFAULT_STATUS_FHOLD

/-- The device is chain-synchronised: TRACK, SYNCED or HOLD (chapter 14). -/
def State.chainSynced (s : State) : Bool :=
  let t := s.get fCHAIN_STATUS_TSTATE
  t == 2 || t == 3 || t == 4

/-- Sequencer `q` is running: ARMED, RUN or WAITING (R207). -/
def State.seqRunning (s : State) (q : Nat) : Bool :=
  let t := s.get fSEQ_STATUS_STATE q
  t == 1 || t == 2 || t == 3

/-- State of power domain `d` (PWR_STATE, three bits each; 0 OFF, 3 ON). -/
def State.domState (s : State) (d : Nat) : Nat := natBits (s.get fPWR_STATE_STATE) (3 * d) 3

/-! ### Words a recent write replaced (R138, R217, R255) -/

/-- A write of word `a` that applies from wc `c` on: the word before it stays on the list of old words. -/
def State.setWordFrom (s : State) (a : Nat) (w : Word) (c : Nat) : State :=
  let keep := s.old.filter (fun e => s.now < e.2.2 + 64)
  { s.setWord a w with old := keep ++ [(a, s.word a, c)] }

/-- A write of word `a` that applies from the fourth wc after its acceptance (R138, R255). -/
def State.setWordDated (s : State) (a : Nat) (w : Word) : State := s.setWordFrom a w (s.now + 4)

/-- The word at `a` that applies to instant `t`. -/
def State.wordFor (s : State) (a t : Nat) : Word :=
  match s.old.find? (fun e => e.1 == a && tLt t (wcs e.2.2)) with
  | some e => e.2.1
  | none => s.word a

/-! ### Faults -/

/-- Is a fault of this class and UNIT what the injection causes (R583)? -/
def InjSt.hits (x : InjSt) (cls unit : Nat) : Bool :=
  let u := x.unit
  let k := x.kind
  !x.test &&
    (if k = 1 ∨ k = 2 then (if u < 72 then cls == 4 && unit / 8 == u / 9 && (u % 9 == 8 || unit % 8 == u % 9) else cls == 5 && unit == u - 72)
     else if k = 3 then (if u < 64 then cls == 4 && unit == u else cls == 6 && unit == u - 64)
     else if k = 4 ∨ k = 5 then cls == 1
     else if k = 6 then cls == 3 && unit == u
     else if k = 7 then cls == 7
     else if k = 8 then cls == 8
     else if k = 9 ∨ k = 10 then cls == 9
     else if k = 11 ∨ k = 12 then cls == 10
     else if k = 13 then cls == 11 && unit == u
     else if k = 14 then cls == 12 && unit == u
     else if k = 15 ∨ k = 16 then cls == 15 && (unit == u || unit == 8)
     else if k = 17 then cls == 16 && unit == u
     else if k = 18 then cls == 17
     else if k = 19 then cls == 18
     else if k = 20 then cls == 19 && unit == u
     else if k = 21 then cls == 20
     else if k = 22 then cls == 21 && unit == u
     else if k = 23 then cls == 23 && unit == u
     else k == 24 && cls == 24 && unit == u)

/-- Is a fault detected now of class `cls` and UNIT `unit` the injection's: while it is BUSY, or until its record has come; SLICE_CMP's second
record comes after its extent (R582 to R584). Log: 86 DEDUCED. -/
def State.injMarks (s : State) (cls unit : Nat) : Bool :=
  match s.selv.inj with
  | some x => x.hits cls unit && (s.is fFAULT_INJ_STATUS_BUSY || !x.seen || x.kind == 15)
  | none => false

/-- A fault is detected and waits for Selvedge (R569). -/
def State.detect (s : State) (cls unit sub detail : Nat) (masked : Bool) (inst : Nat) : State :=
  { s with detected := s.detected ++ [⟨cls, unit, sub, detail, masked, inst, s.injMarks cls unit⟩] }

/-- The injection in force that acts: BUSY, and no TEST (R581, R582). -/
def State.injActs (s : State) (kind : Nat) : Option InjSt :=
  match s.selv.inj with
  | some x => if x.kind = kind ∧ x.test = false ∧ s.is fFAULT_INJ_STATUS_BUSY then some x else none
  | none => none

/-- The state with the injection replaced. -/
def State.setInj (s : State) (x : InjSt) : State := { s with selv := { s.selv with inj := some x } }

/-- Does an injection of kind `k` act on an edge of generator unit `u` at instant `t` (R582, R583)? -/
def State.injGen (s : State) (k u t : Nat) : Option InjSt :=
  (s.injActs k).bind (fun x => if x.unit = u ∧ tLe x.start t ∧ 0 < x.left then some x else none)

/-- The deviation of an edge of generator unit `u` at instant `t` under GEN_SHIFT and GEN_MISS. -/
def State.injEdge (s : State) (u t : Nat) (d : Option Int) : Option Int :=
  if (s.injGen 2 u t).isSome then none
  else match s.injGen 1 u t with
    | some x => d.map (fun d => d + sgn 10 (getBits x.value 26 10))
    | none => d

/-- One edge of the extent of GEN_SHIFT or GEN_MISS is used up. -/
def State.injEdgeUsed (s : State) (u t : Nat) : State :=
  match s.injGen 1 u t, s.injGen 2 u t with
  | some x, _ => s.setInj { x with left := x.left - 1 }
  | none, some x => s.setInj { x with left := x.left - 1 }
  | none, none => s

/-- A fault detected now, not masked. -/
def State.report (s : State) (cls unit sub : Nat) : State := s.detect cls unit sub 0 false s.nowT

/-- A fault of a memory detected now: the word address in DETAIL is where the word lies physically, which nothing gives, so it is a free value
(R573). Log: 52 DESIGN CHOICE. -/
def State.reportMem (s : State) (sub : Nat) : State :=
  let r := s.free
  r.2.detect 9 0 sub (r.1 % 2 ^ 14) false s.nowT

/-! ### Lists of units -/

/-- Element `i` of a list of units. -/
def nth {α : Type} [Inhabited α] (l : List α) (i : Nat) : α := l.getD i default

/-- Output `o` of the 72. -/
def State.out (s : State) (o : Nat) : OutSt := nth s.outs o

/-- The state with output `o` changed. -/
def State.setOut (s : State) (o : Nat) (x : OutSt) : State := { s with outs := s.outs.set o x }

/-- The state with bank `b` changed. -/
def State.setBank (s : State) (b : Nat) (x : BankSt) : State := { s with banks := s.banks.set b x }

/-- The state with voter `m` changed. -/
def State.setVoter (s : State) (m : Nat) (x : VoterSt) : State := { s with voters := s.voters.set m x }

/-- A fold over the numbers below `n`. -/
def State.forN (s : State) (n : Nat) (f : State → Nat → State) : State := (List.range n).foldl f s

/-- An event whose precondition does not hold is no event: nothing changes (log entry 4). Log: 4 DESIGN CHOICE. -/
def noEvent (s : State) : Out := .next s

end Sys2Proof.Machine
end

