-- ==== Sys2Proof/Machine/Struct.lean ====
section
/-! DEFINITION. Structure and its copies (R5, R9, R471, R474, R484, R490 to R492, R497): which words hold class-S fields, the staged copies
of a hold, CRC-32C over bytes, and the structure CRC of an island. -/

namespace Sys2Proof.Machine

/-- Every register row of the manual. -/
def allRows : List RegRow :=
  regRows00 ++ regRows01 ++ regRows02 ++ regRows03 ++ regRows04 ++ regRows05 ++ regRows06 ++ regRows07 ++ regRows08 ++ regRows09 ++ regRows10 ++
    regRows11 ++ regRows12 ++ regRows13 ++ regRows14 ++ regRows15 ++ regRows16 ++ regRows17 ++ regRows18 ++ regRows19 ++ regRows20 ++
    regRows21 ++ regRows22

/-- Offsets of the words of an array with these strides and counts. -/
def dimOffsets : List (Nat × Nat) → List Nat
  | [] => [0]
  | (st, n) :: ds => (List.range n).flatMap (fun i => (dimOffsets ds).map (fun o => i * st + o))

/-- The word addresses of a register. -/
def RegRow.addrs (r : RegRow) : List Nat := (dimOffsets r.dims).map (fun o => r.base + o)

/-- Is a field of class S with access RW or RWL? -/
def Fld.struct (f : Fld) : Bool := f.cls == .s && (f.acc == .rw || f.acc == .rwl)

/-- Is a field of class D or L with access RW or RWL (R473)? -/
def Fld.init (f : Fld) : Bool := f.cls != .s && (f.acc == .rw || f.acc == .rwl)

/-- The fields of a word that are structure. -/
def structFields (a : Nat) : List Fld := (fieldsAt a).filter Fld.struct

/-- The owning islands of a word (R474). -/
def ownersAt (a : Nat) : List Nat := match regAt a with | some r => r.owners | none => []

/-- The islands whose holds stage a word: its owners (R474), for the probe registers SHUTTLE alone (R233). Log: 35 DEDUCED. -/
def structOwners (a : Nat) : List Nat := let os := ownersAt a; if os = [1, 2] then [1] else os

/-- Is a field one of the RW S fields of R484, R485 and R492? RWL fields are not among them (log entry 37). Log: 37 DEDUCED. -/
def Fld.rwS (f : Fld) : Bool := f.cls == .s && f.acc == .rw

/-- The power domain of a word (R539); 0 where the address is unmapped. -/
def domAt (a : Nat) : Nat := match regAt a with | some r => r.dom | none => 0

/-- A word with every bit that is not an RW S field cleared (R492). Log: 37 DEDUCED. -/
def structMask (a : Nat) (w : Word) : Word := mergeFields (fieldsAt a) Fld.rwS 0 w

/-- A word with its staged structure, as it reads (R497). -/
def State.structWord (s : State) (a : Nat) : Word :=
  match s.staged.find a with
  | some w => mergeFields (structFields a) (fun _ => true) (s.word a) w
  | none => s.word a

/-- The structure fields of a word are staged (R497). -/
def State.stage (s : State) (a : Nat) (w : Word) : State :=
  { s with staged := s.staged.ins a (mergeFields (structFields a) (fun _ => true) (s.structWord a) w) }

/-- A staged word passes to its working copy. -/
def State.unstage (s : State) (a : Nat) : State :=
  let w := s.structWord a
  { s.setWord a w with staged := s.staged.erase a }

/-- Insert into a rising list. -/
def insertNat (x : Nat) : List Nat → List Nat
  | [] => [x]
  | y :: t => if x ≤ y then x :: y :: t else y :: insertNat x t

/-- A list of numbers in rising order. -/
def sortNat (l : List Nat) : List Nat := l.foldr insertNat []

/-- The words of an island that hold structure, ascending (R492). -/
def islandWords (i : Nat) : List Nat :=
  sortNat ((allRows.filter (fun r => r.owners.contains i && r.fields.any Fld.rwS)).flatMap RegRow.addrs)

/-! ### CRC-32C (R412, R471) -/

/-- Eight shifts of the reflected register. Log: 68 PRESUMED. -/
def crcShift : Nat → Nat → Nat
  | 0, c => c
  | k + 1, c => crcShift k (if c % 2 = 1 then (c / 2) ^^^ 0x82F63B78 else c / 2)

/-- CRC-32C of bytes: polynomial 0x1EDC6F41, initial value and final XOR all ones, bits of a byte least significant first. Log: 68 PRESUMED. -/
def crc32c (bs : List Nat) : Nat := (bs.foldl (fun c b => crcShift 8 (c ^^^ (b % 256))) 0xFFFFFFFF) ^^^ 0xFFFFFFFF

/-- The five bytes a word contributes to a structure CRC. -/
def wordBytes5 (w : Word) : List Nat := (List.range 5).map (fun i => w.toNat / 256 ^ i % 256)

/-- The structure of a word that a scan reads: its new value once no hold stages it (R490, R497). Log: 72 DEDUCED. -/
def State.scanWord (s : State) (a : Nat) : Word :=
  if (structOwners a).any (fun i => s.bit fISLAND_HOLD_HELD i) then s.word a else s.structWord a

/-- The structure CRC of an island (R492). -/
def State.islandCrc (s : State) (i : Nat) : Nat :=
  crc32c ((islandWords i).flatMap (fun a => wordBytes5 (structMask a (s.scanWord a))))

/-- An island's golden CRC is recorded (R490, R498). -/
def State.goldenCrc (s : State) (i : Nat) : State := s.put fDRAFT_ISL_CRC_CRC (s.islandCrc i) i

/-- Does an island's structure differ from its golden CRC? Log: 72 DEDUCED. -/
def State.crcBad (s : State) (i : Nat) : Bool := s.islandCrc i != s.get fDRAFT_ISL_CRC_CRC i

end Sys2Proof.Machine
end

