-- ==== Sys2Proof/Machine/DraftFmt.lean ====
section
/-! DEFINITION. The bytes of a draft: header, frames and trailer, and the format checks on what has arrived (R470 to R479, R483, R489). -/

namespace Sys2Proof.Machine

/-- `n` bytes of a list from `p`, least significant first, as a number. -/
def leAt (bs : List Nat) (p n : Nat) : Nat := ((bs.drop p).take n).foldr (fun b x => b % 256 + 256 * x) 0

/-- A failure: REASON and the offset of the failing field (R483, R489). -/
abbrev FmtFail := Option (Nat × Nat)

/-- The first failure of two checks in order. -/
def FmtFail.orElse (a b : FmtFail) : FmtFail := match a with | some x => some x | none => b

/-- LENGTH of a draft. -/
def drLength (bs : List Nat) : Nat := leAt bs 12 4

/-- FRAMES of a draft. -/
def drFrames (bs : List Nat) : Nat := leAt bs 16 4

/-- TARGETS of a draft. -/
def drTargets (bs : List Nat) : Nat := leAt bs 10 2

/-- Is a draft partial? -/
def drPartial (bs : List Nat) : Bool := (leAt bs 24 4).testBit 0

/-- DRAFT_ID of a draft. -/
def drId (bs : List Nat) : Nat := leAt bs 20 4

/-- The header checks of R471 and R475, in byte order; none passes. Log: 64 DEDUCED. -/
def headerCheck (bs : List Nat) : FmtFail :=
  if leAt bs 0 4 ≠ 0x52445650 then some (1, 0)
  else if leAt bs 4 1 ≠ 0 then some (2, 4)
  else if leAt bs 5 1 ≠ 1 then some (2, 5)
  else if leAt bs 6 2 ≠ 0x2436 then some (3, 6)
  else if ¬ (leAt bs 8 2).testBit 2 then some (4, 8)
  else if 512 ≤ drTargets bs ∨ (¬ drPartial bs ∧ drTargets bs ≠ 0x1FF) ∨ (drPartial bs ∧ drTargets bs = 0) then some (7, 10)
  else if drLength bs % 8 ≠ 0 ∨ 25165808 < drLength bs ∨ drLength bs < 136 then some (5, 12)
  else if leAt bs 28 4 ≠ crc32c (bs.take 28) then some (6, 28)
  else none

/-! ### Where frames may write (R473, R474) -/

/-- Does an address lie in the WEFT structure windows? -/
def structWindow (a : Nat) : Bool := (decide (0xC00000 ≤ a) && decide (a < 0xC00400)) || (decide (0xD00000 ≤ a) && decide (a < 0xD80000))

/-- Does an address lie in the table windows of R474? -/
def tableWindow (a : Nat) : Bool :=
  (decide (0x800000 ≤ a) && decide (a < 0x900000)) ||
    (decide (aSEGMENT_TABLE ≤ a) && decide (a < aSEGMENT_TABLE + 8192)) || (decide (aSEQUENCE_TABLE ≤ a) && decide (a < aSEQUENCE_TABLE + 2048)) ||
    (decide (0x940000 ≤ a) && decide (a < 0x942000)) || (decide (0x960000 ≤ a) && decide (a < 0x960100)) ||
    (decide (0x970000 ≤ a) && decide (a < 0x970400))

/-- Is an address a register that a draft may write: below the windows and outside the DRAFT region? -/
def draftRegister (a : Nat) : Bool := decide (a < 0x800000) && a / 65536 != 0x0F && (regAt a).isSome

/-- May a frame of this TYPE write this address? Log: 64 DEDUCED. -/
def frameMay (ty a : Nat) : Bool :=
  if ty = 1 then (draftRegister a || structWindow a) && (fieldsAt a).any Fld.struct
  else if ty = 2 then draftRegister a && (fieldsAt a).any Fld.init
  else ty == 3 && tableWindow a

/-- The owners of an address in R474; the table windows own their unused words too. -/
def draftOwners (a : Nat) : List Nat :=
  if tableWindow a then (if a < 0x950000 then [1] else [4])
  else if draftRegister a || structWindow a then ownersAt a else []

/-! ### Frames (R472, R475) -/

/-- A frame as it stands in a draft. -/
structure DrFrame where
  typ : Nat
  island : Nat
  addr : Nat
  count : Nat
  ofs : Nat
  deriving DecidableEq, Repr

/-- The frame whose header begins at `p`. -/
def frameAt (bs : List Nat) (p : Nat) : DrFrame := ⟨leAt bs p 1, leAt bs (p + 1) 1, leAt bs (p + 4) 3, leAt bs (p + 8) 4, p⟩

/-- The payload bytes of `n` words, padded to 8-byte units (R470). -/
def framePay (n : Nat) : Nat := (9 * n + 15) / 16 * 8

/-- The size of a frame of `n` words (R472). -/
def frameSize (n : Nat) : Nat := 24 + framePay n

/-- Payload word `i` of the frame at `p` (R470). -/
def frameWord (bs : List Nat) (p i : Nat) : Word :=
  BitVec.ofNat 36 (leAt bs (p + 16 + 36 * i / 8) 5 >>> (36 * i % 8))

/-- The addresses of a frame. -/
def DrFrame.addrs (f : DrFrame) : List Nat := (List.range (min f.count 1048576)).map (fun i => f.addr + i)

/-- The checks of a frame header, whole when its 16 bytes have arrived (R472 to R474). Log: 64 DEDUCED. -/
def frameHead (bs : List Nat) (p : Nat) : FmtFail :=
  let f := frameAt bs p
  let t := drTargets bs
  let os := f.addrs.map draftOwners
  if f.typ < 1 ∨ 3 < f.typ then some (8, p)
  else if 8 < f.island ∨ ¬ t.testBit f.island ∨ os.any (fun o => o != [] && (!o.contains f.island || o.any (fun i => !t.testBit i))) then
    some (9, p + 1)
  else if leAt bs (p + 2) 2 ≠ 0 then some (8, p + 2)
  else if leAt bs (p + 7) 1 ≠ 0 then some (8, p + 7)
  else if f.count = 0 ∨ 1048576 < f.count then some (10, p + 8)
  else if leAt bs (p + 12) 4 ≠ 0 then some (8, p + 12)
  else if ¬ f.addrs.all (fun a => frameMay f.typ a) then some (10, p + 4)
  else none

/-- The checks behind a frame's payload: its CRC, then its zero bytes. -/
def frameTail (bs : List Nat) (p n : Nat) : FmtFail :=
  let e := p + 16 + framePay n
  if leAt bs e 4 ≠ crc32c ((bs.drop p).take (16 + framePay n)) then some (11, e)
  else if leAt bs (e + 4) 4 ≠ 0 then some (8, e + 4)
  else none

/-- The checks of `k` frames from offset `p` on the bytes that have arrived (R475, R483). -/
def framesCheck (bs : List Nat) : Nat → Nat → FmtFail
  | 0, p => if p + 104 = drLength bs then none else some (5, 12)
  | k + 1, p =>
    if drLength bs < p + 24 + 104 then some (5, 12)
    else if bs.length < p + 16 then none
    else match frameHead bs p with
      | some e => some e
      | none =>
        let n := (frameAt bs p).count
        if drLength bs < p + frameSize n + 104 then some (5, 12)
        else if bs.length < p + frameSize n then none
        else (frameTail bs p n).orElse (framesCheck bs k (p + frameSize n))

/-- FRAMES, as far as LENGTH can hold them. -/
def frameFuel (bs : List Nat) : Nat := min (drFrames bs) (drLength bs / 32 + 1)

/-- The format checks on the bytes that have arrived (R483). -/
def formatCheck (bs : List Nat) : FmtFail :=
  if bs.length < 32 then none
  else (headerCheck bs).orElse (framesCheck bs (frameFuel bs) 32)

/-- The frames of a whole draft, in file order. -/
def framesFrom (bs : List Nat) : Nat → Nat → List DrFrame
  | 0, _ => []
  | k + 1, p => let f := frameAt bs p; f :: framesFrom bs k (p + frameSize f.count)

/-- The frames of a draft. -/
def draftFrames (bs : List Nat) : List DrFrame := framesFrom bs (frameFuel bs) 32

/-- What the frames of one TYPE write, in file order: address and payload word. -/
def draftWrites (bs : List Nat) (ty : Nat) : List (Nat × Word) :=
  ((draftFrames bs).filter (fun f => f.typ == ty)).flatMap
    (fun f => (List.range f.count).map (fun i => (f.addr + i, frameWord bs f.ofs i)))

/-! ### The trailer (R478, R479) -/

/-- Offset of the trailer. -/
def trOfs (bs : List Nat) : Nat := drLength bs - 104

/-- The COMMIT word of the trailer. -/
def trCommit (bs : List Nat) : Nat := leAt bs (trOfs bs) 4

/-- COMMIT of a draft. -/
def drCommit (bs : List Nat) : Bool := (trCommit bs).testBit 0

/-- AUTO_RESUME of a draft. -/
def drAuto (bs : List Nat) : Bool := (trCommit bs).testBit 1

/-- KEY_SLOT of a draft. -/
def drKeySlot (bs : List Nat) : Nat := natBits (trCommit bs) 4 2

/-- SIGNED of a draft. Log: 67 DESIGN CHOICE. -/
def drSigned (bs : List Nat) : Bool := (trCommit bs).testBit 6

/-- The checks of the trailer (R478, R479). Log: 64 DEDUCED, 67 DESIGN CHOICE. -/
def trailerCheck (bs : List Nat) : FmtFail :=
  let t := trOfs bs
  let slot := drKeySlot bs
  let prog := fDRAFT_KEYS_PROG.get Config.draftKeys
  let pub := (bs.drop (t + 8)).take 32
  if trCommit bs &&& 0xFFFFFF8C ≠ 0 then some (12, t)
  else if leAt bs (t + 4) 4 ≠ crc32c (bs.take (t + 4)) then some (12, t + 4)
  else if prog = 0 then (if drSigned bs then some (13, t) else none)
  else if ¬ drSigned bs then some (15, t)
  else if ¬ prog.testBit slot ∨ (fDRAFT_KEYS_REVOKED.get Config.draftKeys).testBit slot then some (13, t)
  else if ¬ Config.keyHash slot pub then some (13, t + 8)
  else if ¬ Config.sigOk pub (bs.take (t + 40)) ((bs.drop (t + 40)).take 64) then some (14, t + 40)
  else none

/-- Is a draft accepted unsigned (R479)? -/
def drUnsigned (bs : List Nat) : Bool := !drSigned bs

end Sys2Proof.Machine
end

