-- ==== Sys2Proof/Machine/Queues.lean ====
section
/-! DEFINITION. The Bolt pool and its queues (chapter 12): words, packets, commit, rewind, reading and flush. -/

namespace Sys2Proof.Machine

/-- Queue `q`. -/
def State.queue (s : State) (q : Nat) : BQueue := ((s.queues.find? (fun e => e.1 == q)).map (·.2)).getD {}

/-- An entry in its place before the first higher key. -/
def placeKey {α : Type} (l : List (Nat × α)) (k : Nat) (v : α) : List (Nat × α) :=
  match l with
  | [] => [(k, v)]
  | (j, x) :: t => if k < j then (k, v) :: (j, x) :: t else (j, x) :: placeKey t k v

/-- Insert or replace one entry of a list kept in rising order of its key; the default value is not listed. -/
def putKey {α : Type} [DecidableEq α] (dflt : α) (l : List (Nat × α)) (k : Nat) (v : α) : List (Nat × α) :=
  let r := l.filter (fun e => e.1 ≠ k)
  if v = dflt then r else placeKey r k v

/-- The value under a key, or the default. -/
def getKey {α : Type} (dflt : α) (l : List (Nat × α)) (k : Nat) : α := ((l.find? (fun e => e.1 == k)).map (·.2)).getD dflt

/-- The state with queue `q` replaced. -/
def State.setQueue (s : State) (q : Nat) (x : BQueue) : State := { s with queues := putKey {} s.queues q x }

/-- Word places in use in a queue: committed words and the open packet's. -/
def BQueue.held (x : BQueue) : Nat := x.words.length + (x.opn.getD []).length

/-- Cells a queue owns, 32 word places each (R362). Log: 52 DESIGN CHOICE. -/
def BQueue.cells (x : BQueue) : Nat := (x.off + x.held + 31) / 32

/-- Cells owned by all queues. -/
def State.ownedCells (s : State) : Nat := (s.queues.map (fun e => e.2.cells)).sum

/-- Free cells of the pool (R361, R362). -/
def State.freeCells (s : State) : Nat := 524288 - s.ownedCells

/-- Reserved cells: what enabled queues have reserved and do not own (R363). -/
def State.reservedCells (s : State) : Nat :=
  ((s.regs.filter (fun e => aBOLT_Q_LIMIT ≤ e.1 && e.1 < aBOLT_Q_LIMIT + 4096)).map (fun e =>
    let q := e.1 - aBOLT_Q_LIMIT
    if s.is fBOLT_Q_CFG_EN q then fBOLT_Q_LIMIT_RESERVE.get e.2 - (s.queue q).cells else 0)).sum

/-- May queue `q` take a new cell (R363)? -/
def State.mayTake (s : State) (q : Nat) : Bool :=
  let c := (s.queue q).cells
  let lim := s.get fBOLT_Q_LIMIT_LIMIT q
  (lim == 0 || decide (c < lim)) &&
    (decide (c < s.get fBOLT_Q_LIMIT_RESERVE q) || decide (s.reservedCells < s.freeCells))

/-- FREE falls below the lowest count since the last read (LOW_FREE). -/
def State.trackLow (s : State) : State :=
  if s.freeCells < s.get fBOLT_POOL_LOW_LOW_FREE then s.put fBOLT_POOL_LOW_LOW_FREE s.freeCells else s

/-- The open packet of a queue is rewound: its words vanish (R368). -/
def State.rewind (s : State) (q : Nat) (ign : Ignore) : State := s.setQueue q { s.queue q with opn := none, ign := ign }

/-- Committed words show at a consumer port 1 to 4 BOLT cycles after the EOP word, at a point that is free, and not before those committed
earlier (R367, log entry 2). A BOLT cycle lasts at most 4.63 wc, and 9.17 wc on the ring oscillator (R73, R75). Log: 50 DEDUCED. -/
def State.hideWords (s : State) (x : BQueue) (n d : Nat) : List (Nat × Nat) :=
  let hid := x.hid.filter (fun h => decide (s.now < h.1))
  hid ++ [((hid.map (·.1)).foldl max (s.now + 1 + d % (if s.is fCLK_STATUS_DEGRADED then 36 else 18)), n)]

/-- Does power domain `d` run: ON, SAVING or LOADING? -/
def State.domOn (s : State) (d : Nat) : Bool := let t := s.domState d; t == 3 || t == 4 || t == 6

/-- The committed words of a queue that a consumer port sees now; none while PD_BOLT is off or retained (R367, R382). Log: 50 DEDUCED. -/
def State.visible (s : State) (x : BQueue) : Nat :=
  if s.domOn 5 then x.words.length - ((x.hid.filter (fun h => decide (s.now < h.1))).map (·.2)).sum else 0

/-- A word placed in the open packet of queue `q` (R367, R368). -/
def State.placeWord (s : State) (q : Nat) (w : Word) (sop eop bad : Bool) : State :=
  let x := s.queue q
  let pk := x.opn.getD []
  if 8192 ≤ pk.length then
    (((s.rewind q (if eop then .none_ else .tooLong)).flag fBOLT_Q_STATUS_BAD_SEEN q).bump fBOLT_Q_COUNT_DROP_PKTS q)
  else if (x.off + x.held) % 32 = 0 ∧ ¬ s.mayTake q then
    (((s.rewind q (if eop then .none_ else .overrun)).flag fBOLT_Q_STATUS_OVERRUN q).bump fBOLT_Q_COUNT_DROP_PKTS q)
  else
    let pk' := pk ++ [⟨w, sop, eop, false⟩]
    if !eop then (s.setQueue q { x with opn := some pk', ign := .none_ }).trackLow
    else if bad then ((s.rewind q .none_).flag fBOLT_Q_STATUS_BAD_SEEN q).bump fBOLT_Q_COUNT_BAD_PKTS q
    else
      let pk' := if pk'.any (·.dmg) then pk'.map (fun b => { b with dmg := true }) else pk'
      let d := s.free
      (d.2.setQueue q { x with words := x.words ++ pk', opn := none, ign := .none_, hid := s.hideWords x pk'.length d.1 }).trackLow

/-- A producer word reaches queue `q` with its marks (R367 to R369, R374). -/
def State.queueWord (s : State) (q : Nat) (w : Word) (sop eop bad : Bool) : State :=
  let x := s.queue q
  if sop then
    let s := if x.opn.isSome then ((s.rewind q .none_).flag fBOLT_Q_STATUS_BAD_SEEN q).bump fBOLT_Q_COUNT_BAD_PKTS q else s
    (s.setQueue q { s.queue q with opn := some [], ign := .none_ }).placeWord q w sop eop bad
  else if x.opn.isSome then s.placeWord q w sop eop bad
  else match x.ign with
    | .overrun => (if eop then s.setQueue q { x with ign := .none_ } else s).flag fBOLT_Q_STATUS_OVERRUN q
    | .tooLong => if eop then s.setQueue q { x with ign := .none_ } else s
    | _ => (s.flag fBOLT_Q_STATUS_ORPHAN q).bump fBOLT_Q_COUNT_FLUSH_ORPHAN q

/-- The open packet of a queue is marked bad by its producer and rewound (R368). -/
def State.markBad (s : State) (q : Nat) : State :=
  if (s.queue q).opn.isSome then ((s.rewind q .none_).flag fBOLT_Q_STATUS_BAD_SEEN q).bump fBOLT_Q_COUNT_BAD_PKTS q else s

/-- The words of a packet from word `i` on are written to queue `q`. -/
def State.writeWords (s : State) (q : Nat) (first : Bool) : List Word → State
  | [] => s
  | w :: ws => (s.queueWord q w first ws.isEmpty false).writeWords q false ws

/-- An internal producer writes one whole packet to queue `q`; the answer says whether it was committed. A queue that is not
enabled, or PD_BOLT off, commits nothing (R365, R545). Log: 5 DESIGN CHOICE. -/
def State.packet (s : State) (q : Nat) (ws : List Word) : State × Bool :=
  if ¬ s.is fBOLT_Q_CFG_EN q ∨ ¬ s.domOn 5 ∨ ws = [] then (s, false)
  else
    let n := (s.queue q).words.length
    let s' := s.writeWords q true ws
    (s', (s'.queue q).words.length == n + ws.length)

/-- A packet to a bound queue, if the binding exists. -/
def State.packet? (s : State) (q : Option Nat) (ws : List Word) : State :=
  match q with
  | none => s
  | some q => (s.packet q ws).1

/-- The idle item 0x8_0000_0000 (R371). -/
def idleItem : Word := 0x800000000#36

/-- The next committed word of queue `q` is consumed; its cell returns when its last place is (R362). -/
def State.popWord (s : State) (q : Nat) : Option BWord × State :=
  let x := s.queue q
  match x.words with
  | [] => (none, s)
  | b :: t => (some b, s.setQueue q { x with words := t, off := (x.off + 1) % 32, hid := x.hid.filter (fun h => decide (s.now < h.1)) })

/-- The words of the first committed packet of a queue. -/
def firstPacket : List BWord → List BWord
  | [] => []
  | b :: t => if b.eop then [b] else b :: firstPacket t

/-- `n` words leave the head of queue `q`; the port is partway through a packet where the last of them does not close one. -/
def State.popN (s : State) (q n : Nat) : State :=
  let x := s.queue q
  s.setQueue q { x with words := x.words.drop n, off := (x.off + min n x.words.length) % 32, hid := x.hid.filter (fun h => decide (s.now < h.1)),
                        mid := match (x.words.take n).getLast? with | some b => !b.eop | none => x.mid }

/-- Queue `q` is emptied; a flush of an empty queue sets FLUSHED and changes no cell (R373 to R375). Log: 52 DESIGN CHOICE. -/
def State.flushQueue (s : State) (q : Nat) : State :=
  let x := s.queue q
  let ign := if x.opn.isSome then Ignore.orphan else match x.ign with | .overrun => .orphan | .tooLong => .orphan | i => i
  let s := if x.mid then s.flag fBOLT_Q_STATUS_CUT q else s
  let off := if x.words = [] ∧ x.opn = none then x.off else 0
  (s.setQueue q { words := [], opn := none, ign := ign, off := off, mid := false, hid := [] }).flag fBOLT_Q_STATUS_FLUSHED q

/-- The live fields of the Bolt status registers, formed from the queues at a read (R363, R372). Log: 89 DEDUCED. -/
def State.boltLive (s : State) (a : Nat) (w : Word) : Word :=
  if a = aBOLT_POOL_STATUS then fBOLT_POOL_STATUS_FREE.set w s.freeCells
  else if aBOLT_Q_STATUS ≤ a ∧ a < aBOLT_Q_STATUS + 4096 then
    let q := a - aBOLT_Q_STATUS
    let x := s.queue q
    fBOLT_Q_STATUS_CELLS.set (fBOLT_Q_STATUS_OPEN.set (fBOLT_Q_STATUS_FULL.set
      (fBOLT_Q_STATUS_EMPTY.set w (b2n x.words.isEmpty)) (b2n (!s.mayTake q))) (b2n x.opn.isSome)) x.cells
  else if aBOLT_Q_WORDS ≤ a ∧ a < aBOLT_Q_WORDS + 4096 then
    fBOLT_Q_WORDS_WORDS.set w (s.queue (a - aBOLT_Q_WORDS)).words.length
  else w

end Sys2Proof.Machine
end

