-- ==== Sys2Proof/Machine/Health.lean ====
section
/-! DEFINITION. Ageing and wear (chapter 21): stress, powered days, erase use, trim and lamp drift, and the prediction formulas. -/

namespace Sys2Proof.Machine

/-! ### Stress (R587, R588) -/

/-- Fixed-point one: 2^80. -/
def fixOne : Int := 2 ^ 80

/-- Terms n, n − 1, … of the Taylor series of exp at `x` in 2^-80. -/
def expTaylor (x : Int) : Nat → Int → Int
  | 0, acc => acc
  | n + 1, acc => expTaylor x n (fixOne + x * acc / (((n + 1 : Nat) : Int) * fixOne))

/-- `n` squarings in 2^-80. -/
def squares : Nat → Int → Int
  | 0, y => y
  | n + 1, y => squares n (y * y / fixOne)

/-- exp of a fraction in 2^-80, by the series at a 64th and six squarings. Log: 24 DEDUCED. -/
def expFix (num den : Int) : Int := squares 6 (expTaylor (num * fixOne / (den * 64)) 20 fixOne)

/-- The weight of a temperature in 1/16 °C, from −40 °C to +125 °C. E_a/k is taken as 8123.53 K, which the manual rounds to 8123.5 K and
which gives its table of selected weights (R587). Log: 87 DEDUCED. -/
def stressWeight (t : Int) : Nat :=
  let t := max (-640) (min 2000 t)
  let u := 100 * t + 437040
  ((65536 * expFix (812353 * (100 * u - 1600 * 37815)) (100 * 37815 * u) + fixOne / 2) / fixOne).toNat

/-- HEALTH_STRESS shows bits 57 to 22 of the accumulators. -/
def State.showStress (s : State) : State := s.health.acc.zipIdx.foldl (fun s e => s.setWord (aHEALTH_STRESS + e.2) (BitVec.ofNat 36 (e.1 / 2 ^ 22))) s

/-- One mt adds each site's weight (R587). -/
def State.stressMt (s : State) (temps : List Int) : State :=
  let acc := s.health.acc.zipIdx.map (fun e => satU 58 (e.1 + stressWeight (temps.getD e.2 0)))
  { s with health := { s.health with acc := acc } }.showStress

/-! ### Erases (R590) -/

/-- The region of a Bobbin sector (R522, R590). -/
def eraseRegion (sec : Nat) : Nat := if sec < 64 then 0 else if sec < 832 then 1 else if sec < 960 then 2 else if sec < 1008 then 3 else 4

/-- The largest erase count of a region. -/
def State.eraseMax (s : State) (r : Nat) : Nat := ((s.health.erases.filter (fun e => eraseRegion e.1 == r)).map (·.2)).foldl max 0

/-- One erase of a sector is counted (R590). -/
def State.erased (s : State) (sec : Nat) : State :=
  let s := { s with health := { s.health with erases := putKey 0 s.health.erases sec (satU 17 (getKey 0 s.health.erases sec + 1)) } }
  s.put fHEALTH_ERASE_MAX (s.eraseMax (eraseRegion sec)) (eraseRegion sec)

/-! ### Powered days (R589) -/

/-- DRIFT of a lamp. Log: 87 DEDUCED. -/
def State.drift (s : State) (l : Nat) : Int := s.geti fHEALTH_LAMP_DRIFT l

/-- The snapshot of the present moment. -/
def State.snap (s : State) : Snap :=
  { stress := (List.range 8).map (fun i => s.get fHEALTH_STRESS_STRESS i), erase := (List.range 5).map (fun r => s.get fHEALTH_ERASE_MAX r),
    lamp := (List.range 32).map s.drift }

/-- The WEEK fields read the oldest of the seven snapshots, or the values at DAYS = 0 while DAYS is below 7; PEAK the largest entry of the
history. -/
def State.showWeek (s : State) : State :=
  let w := if s.get fHEALTH_DAYS_DAYS < 7 then s.health.base else (s.health.snaps.getLast?).getD s.health.base
  let s := s.forN 8 (fun s i =>
    (s.put fHEALTH_STRESS_WEEK_WEEK (w.stress.getD i 0) i).put fHEALTH_STRESS_PEAK_PEAK ((s.health.hist.map (fun d => d.getD i 0)).foldl max 0) i)
  let s := s.forN 5 (fun s r => s.put fHEALTH_ERASE_MAX_WEEK (w.erase.getD r 0) r)
  s.forN 32 (fun s l => s.putSat fHEALTH_LAMP_DRIFT_WEEK (w.lamp.getD l 0) l)

/-- Ticks of a powered day. -/
def dayTicks : Nat := 345600000

/-- DAY_CLOSE: DAY_MT reaches 24 h; a powered day closes and snapshots are taken (R589, R598). -/
def execDayClose (s : State) : Out :=
  let n := s.get fHEALTH_DAY_MT_DAY_MT
  if n < dayTicks then noEvent s
  else
    let sn := s.snap
    let last := ((s.health.snaps.head?).getD s.health.base).stress
    let inc := sn.stress.zipIdx.map (fun e => e.1 - last.getD e.2 0)
    let s := (s.put fHEALTH_DAY_MT_DAY_MT (n - dayTicks)).bump fHEALTH_DAYS_DAYS
    .next { s with health := { s.health with snaps := (sn :: s.health.snaps).take 7, hist := (inc :: s.health.hist).take 7 } }.showWeek

/-- The day counter takes one mt (R589). -/
def State.dayMt (s : State) : State := s.put fHEALTH_DAY_MT_DAY_MT (s.get fHEALTH_DAY_MT_DAY_MT + 1)

/-! ### Trim and lamp drift (R594, R595, R617) -/

/-- Equivalent hours of site 0. -/
def State.hours0 (s : State) : Nat := s.get fHEALTH_STRESS_STRESS 0 / 225000

/-- A passing generator run of unit `g` found largest correction `c` (R594). -/
def State.healthTrim (s : State) (g c : Nat) : State :=
  let h := s.hours0
  let s := (s.put fHEALTH_TRIM_C_NOW c g).put fHEALTH_TRIM_H_NOW h g
  if s.is fHEALTH_TRIM_REF_SET g then s
  else ((s.put fHEALTH_TRIM_C_REF c g).put fHEALTH_TRIM_REF_H_REF h g).flag fHEALTH_TRIM_REF_SET g

/-- A valid diagnosis `d` of lamp output `l` (R595, R617); DRIFT is free where B_REF is 0. Log: 87 DEDUCED. -/
def State.healthLamp (s : State) (l d : Nat) : State :=
  match s.health.bref.getD l none with
  | none => ({ s with health := { s.health with bref := s.health.bref.set l (some d) } }.flag fHEALTH_LAMP_VALID l).putSat fHEALTH_LAMP_DRIFT 0 l
  | some b =>
    if b = 0 then (let r := s.free; r.2.put fHEALTH_LAMP_DRIFT r.1 l)
    else s.putSat fHEALTH_LAMP_DRIFT ((2 * 4096 * ((d : Int) - (b : Nat)) + (b : Nat)) / (2 * (b : Nat))) l

/-- TRIM_REREF: clears REF_SET of every unit (R594). -/
def execTrimReref (s : State) : Out := .next (s.forN 104 (fun s g => s.unflag fHEALTH_TRIM_REF_SET g))

/-- LAMP_REREF: clears B_REF of every lamp (R595). -/
def execLampReref (s : State) : Out :=
  .next ({ s with health := { s.health with bref := List.replicate 32 none } }.forN 32 (fun s l => s.unflag fHEALTH_LAMP_VALID l))

/-! ### Predictions (R596, R597) -/

/-- None. -/
def noDays : Nat := 0x3FFFF

/-- Whole days of a numerator over a rate, limited; none where the rate is not above zero; a numerator at or below zero gives 0. -/
def daysOf (num rate : Rat) : Nat :=
  if rate ≤ 0 then noDays else if num ≤ 0 then 0 else (min 0x3FFFE ⌊num / rate⌋).toNat

/-- The span σ in powered days. -/
def State.span (s : State) : Nat := min (s.get fHEALTH_DAYS_DAYS) 7

/-- The mean stress rate of a site over the span. -/
def State.stressRate (s : State) (i : Nat) : Rat :=
  ((s.get fHEALTH_STRESS_STRESS i : Nat) - (s.get fHEALTH_STRESS_WEEK_WEEK i : Nat) : Rat) / (s.span : Nat)

/-- The higher of a site's mean rate and its highest day. -/
def State.stressTop (s : State) (i : Nat) : Rat := max (s.stressRate i) ((s.get fHEALTH_STRESS_PEAK_PEAK i : Nat) : Rat)

/-- The site with the largest stress. -/
def State.hotStress (s : State) : Nat :=
  (List.range 8).foldl (fun b i => if s.get fHEALTH_STRESS_STRESS b < s.get fHEALTH_STRESS_STRESS i then i else b) 0

/-- Stress: typical and bound. -/
def State.predStress (s : State) : Nat × Nat :=
  let i := s.hotStress
  let left : Rat := 22500000000 - (s.get fHEALTH_STRESS_STRESS i : Nat)
  if s.span = 0 ∨ (s.stressRate i = 0 ∧ s.get fHEALTH_STRESS_PEAK_PEAK i = 0) then (noDays, noDays)
  else (daysOf left (s.stressRate i), daysOf left (s.stressTop i))

/-- Erase use of region `r`. -/
def State.predErase (s : State) (r : Nat) : Nat × Nat :=
  let m : Rat := (s.get fHEALTH_ERASE_MAX r : Nat)
  let d : Rat := m - (s.get fHEALTH_ERASE_MAX_WEEK r : Nat)
  let sg : Rat := (s.span : Nat)
  if s.span = 0 then (noDays, noDays) else (daysOf (100000 - m) (d / sg), daysOf (100000 - m - 1) ((d + 1) / sg))

/-- Trim drift of unit `g`. -/
def State.predTrim (s : State) (g : Nat) : Nat × Nat :=
  let c : Rat := (s.get fHEALTH_TRIM_C_NOW g : Nat)
  let c0 : Rat := (s.get fHEALTH_TRIM_C_REF g : Nat)
  let h : Rat := (s.get fHEALTH_TRIM_H_NOW g : Nat) - (s.get fHEALTH_TRIM_REF_H_REF g : Nat)
  let eta := s.stressRate 0 / 225000
  let etaHi := s.stressTop 0 / 225000
  if ¬ s.is fHEALTH_TRIM_REF_SET g ∨ h = 0 ∨ s.span = 0 then (noDays, noDays)
  else (if c ≤ c0 then noDays else daysOf ((40 - c) * h) ((c - c0) * eta), daysOf ((39 - c) * h) ((c - c0 + 2) * etaHi))

/-- Bias drift of lamp `l`. -/
def State.predLamp (s : State) (l : Nat) : Nat × Nat :=
  let d : Rat := ((s.drift l).natAbs : Nat)
  let dw : Rat := ((s.geti fHEALTH_LAMP_DRIFT_WEEK l).natAbs : Nat)
  let lim : Rat := (s.get fHEALTH_LAMP_LIMIT_LIMIT : Nat)
  let sg : Rat := (s.span : Nat)
  if s.span = 0 ∨ s.get fHEALTH_LAMP_LIMIT_LIMIT = 0 then (noDays, noDays)
  else (daysOf (lim - d) ((d - dw) / sg), daysOf (lim - d - 1) ((d - dw + 2) / sg))

/-- The smallest of each field over several quantities; both none where there is none. -/
def minPred (l : List (Nat × Nat)) : Nat × Nat := l.foldl (fun a b => (min a.1 b.1, min a.2 b.2)) (noDays, noDays)

/-- The four words of the HEALTH response (R597). -/
def State.healthWords (s : State) : List Word :=
  let lamps := (List.range 32).filter (fun l => s.is fHEALTH_LAMP_VALID l)
  [s.predStress, minPred ((List.range 5).map s.predErase), minPred ((List.range 104).map s.predTrim), minPred (lamps.map s.predLamp)].map
    (fun p => BitVec.ofNat 36 (p.1 * 2 ^ 18 + p.2))

end Sys2Proof.Machine
end

