-- ==== Sys2Proof/Machine/Maint.lean ====
section
/-! DEFINITION. Maintenance resources and their holders (R505 to R509). -/

namespace Sys2Proof.Machine

/-- Is resource `r` free of a hold that conflicts with a hold of the given mode (R506)? -/
def State.resFree (s : State) (r : Nat) (w : Bool) : Bool :=
  s.get fMAINT_OWNER_WRITER r == 0 && (!w || s.get fMAINT_OWNER_READERS r == 0)

/-- HELD follows the holders of a resource. -/
def State.resShow (s : State) (r : Nat) : State :=
  s.putBit fMAINT_HELD_HELD r (s.get fMAINT_OWNER_WRITER r != 0 || s.get fMAINT_OWNER_READERS r != 0)

/-- Activity `act` takes resource `r`. -/
def State.resTake (s : State) (act r : Nat) (w : Bool) : State :=
  (if w then s.put fMAINT_OWNER_WRITER act r else s.putBit fMAINT_OWNER_READERS (act - 1) true r).resShow r

/-- Activity `act` lets resource `r` go. -/
def State.resDrop (s : State) (act r : Nat) : State :=
  let s := if s.get fMAINT_OWNER_WRITER r = act then s.put fMAINT_OWNER_WRITER 0 r else s
  (s.putBit fMAINT_OWNER_READERS (act - 1) false r).resShow r

/-- A claim is refused: MAINT_BUSY with the activity and the lowest conflicting resource (R507). -/
def State.claimRefused (s : State) (act r : Nat) : State :=
  (((s.flag fMAINT_STATUS_MAINT_BUSY).put fMAINT_STATUS_LAST_ACT act).put fMAINT_STATUS_LAST_RES r).bump fMAINT_STATUS_REFUSALS

/-- The lowest resource of a claim that conflicts. -/
def State.conflict (s : State) (res : List (Nat × Bool)) : Option Nat :=
  ((res.filter (fun e => !s.resFree e.1 e.2)).map (·.1)).foldl (fun a r => some (match a with | some x => min x r | none => r)) none

/-- The atomic claim of R507: every resource or none; the answer says whether it was granted. -/
def State.claim (s : State) (act : Nat) (res : List (Nat × Bool)) : State × Bool :=
  match s.conflict res with
  | some r => (s.claimRefused act r, false)
  | none => ((res.foldl (fun s e => s.resTake act e.1 e.2) s).putBit fMAINT_CLAIM_ACTIVE (act - 1) true, true)

/-- Activity `act` releases everything it holds. -/
def State.release (s : State) (act : Nat) : State :=
  (s.forN 32 (fun s r => s.resDrop act r)).putBit fMAINT_CLAIM_ACTIVE (act - 1) false

/-- The resources of a claimable activity (R506, R509). -/
def claimRes (act : Nat) : Option (List (Nat × Bool)) :=
  if act = 9 ∨ act = 10 ∨ act = 11 then some [(29, true)]
  else if act = 14 then some [(29, false), (30, false)]
  else if act = 15 then some [(29, false)]
  else none

/-- Does activity `act` hold its resources? -/
def State.actHeld (s : State) (act : Nat) : Bool := s.bit fMAINT_CLAIM_ACTIVE (act - 1)

/-- MAINT_CLAIM_GO: GO claims the resources of ACT, or is refused (R507, R509). -/
def execMaintClaimGo (act : Fin 16) (s : State) : Out :=
  let s := s.put fMAINT_CLAIM_ACT act.val
  match claimRes act.val with
  | none => .next (s.flag fMAINT_CLAIM_REFUSED)
  | some res =>
    let r := s.claim act.val res
    .next (if r.2 then r.1 else r.1.flag fMAINT_CLAIM_REFUSED)

/-- MAINT_CLAIM_RELEASE: RELEASE releases the resources of ACT (R380, R509). -/
def execMaintClaimRelease (act : Fin 16) (s : State) : Out :=
  let s := s.put fMAINT_CLAIM_ACT act.val
  .next (if (claimRes act.val).isSome then s.release act.val else s)

end Sys2Proof.Machine
end

