-- ==== Sys2Proof/Machine/Bobbin.lean ====
section
/-! DEFINITION. The Bobbin flash: sectors and erases, ageing records, and the commit of a draft (R487, R522, R523, R590 to R592). -/

namespace Sys2Proof.Machine

/-- Sectors erased in order. -/
def State.erasedAll (s : State) (secs : List Nat) : State := secs.foldl State.erased s

/-- The words of the ageing registers that a record holds (R591). -/
def State.ageWords (s : State) : List (Nat × Word) := s.regs.filter (fun e => e.1 / 65536 == 0x13 && e.1 != aHEALTH_LAMP_LIMIT && e.1 != aHEALTH_CTRL)

/-- An ageing record is written after a Bobbin activity; the erase its own ring needs is counted one record later (R591, R592). Log: 71 DEDUCED. -/
def State.ageRecord (s : State) : State :=
  let n := s.bobbin.ageCnt
  let seq := match s.bobbin.age with | some r => r.seq + 1 | none => 1
  let b : BobbinSt := { s.bobbin with age := some ⟨seq, s.health, s.ageWords⟩, ageCnt := n + 1, ageBad := false }
  let s := { s with bobbin := b }
  if n % 16 = 0 then s.erased (1009 + n / 16 % 15) else s

/-! ### Draft slots (R487) -/

/-- The first sector of draft slot `i`. -/
def slotSector (i : Nat) : Nat := 64 + 384 * i

/-- Bytes that the elements of a chain occupy. -/
def chainUsed (es : List Elem) : Nat := (es.map (fun e => 16 + e.bytes.length)).sum

/-- Element 0 of draft slot `i`, if it is whole. -/
def State.slotHead (s : State) (i : Nat) : Option Elem :=
  match nth s.bobbin.drafts i with
  | e :: _ => if e.ok then some e else none
  | [] => none

/-- The slot that holds the newest valid whole draft. -/
def State.newestSlot (s : State) : Option Nat :=
  match s.slotHead 0, s.slotHead 1 with
  | some a, some b => some (if a.seq < b.seq then 1 else 0)
  | some _, none => some 0
  | none, some _ => some 1
  | none, none => none

/-- One more than the highest SEQ in either draft slot. -/
def State.nextSeq (s : State) : Nat := ((s.bobbin.drafts.flatten.map (·.seq)).foldl max 0 + 1) % 2 ^ 32

/-- Sectors of slot `i` that bytes `from` to `upto` of it touch and that hold none of its earlier bytes. Log: 71 DEDUCED. -/
def slotSectors (i start upto : Nat) : List Nat :=
  (List.range 384).filterMap (fun k => if start ≤ k * 65536 ∧ k * 65536 < upto then some (slotSector i + k) else none)

/-- A commit fails (R487). -/
def State.commitFail (s : State) (cause : Nat) : State :=
  ((s.unflag fDRAFT_COMMIT_PENDING).flag fDRAFT_COMMIT_FAIL).put fDRAFT_COMMIT_CAUSE cause

/-- A commit of the staged draft starts, or fails (R487). Log: 71 DEDUCED. -/
def State.startCommit (s : State) : State :=
  let r := s.claim 8 [(29, true)]
  if ¬ r.2 then r.1.commitFail 1
  else
    let s := r.1
    let bs := s.draft.bytes
    let e : Elem := ⟨s.nextSeq, bs, false⟩
    let go := fun (s : State) (i : Nat) (es : List Elem) (dirty : List Nat) =>
      let b : BobbinSt := { s.bobbin with drafts := s.bobbin.drafts.set i es, dirty := dirty }
      let d : DraftSt := { s.draft with slot := some i }
      ({ s with bobbin := b, draft := d }.flag fDRAFT_COMMIT_PENDING).put fDRAFT_COMMIT_CAUSE 0
    if drPartial bs then
      match s.newestSlot with
      | none => (s.release 8).commitFail 3
      | some i =>
        let es := nth s.bobbin.drafts i
        let used := chainUsed es
        let secs := slotSectors i used (used + 16 + bs.length)
        if 16 ≤ es.length ∨ 25165824 < used + 16 + bs.length ∨ secs.any (fun x => s.bobbin.dirty.contains x) then (s.release 8).commitFail 2
        else go s i (es ++ [e]) (s.bobbin.dirty ++ secs)
    else
      let i := match s.newestSlot with | some 0 => 1 | _ => 0
      let secs := slotSectors i 0 (16 + bs.length)
      go (s.erasedAll secs) i [e] (s.bobbin.dirty.filter (fun x => !secs.contains x) ++ secs)

/-- The registers that describe the newest chain (R487). -/
def State.showChain (s : State) : State :=
  match s.newestSlot with
  | none => s
  | some i =>
    let es := nth s.bobbin.drafts i
    let good := es.takeWhile (fun e => e.ok)
    match good.getLast? with
    | none => s
    | some e =>
      (((s.put fDRAFT_COMMIT_SLOT i).put fDRAFT_COMMIT_ELEMENTS es.length).put fDRAFT_COMMIT_AUTO_RESUME (b2n (drAuto e.bytes))).put
        fDRAFT_COMMIT_SEQ_SEQ e.seq

/-- DRAFT_COMMIT_DONE: every byte is read back, or a mismatch fails the commit; an ageing record follows (R487, R592). -/
def execDraftCommitDone (ok : Bool) (s : State) : Out :=
  match s.draft.slot with
  | none => noEvent s
  | some i =>
    let es := nth s.bobbin.drafts i
    let es := es.zipIdx.map (fun e => if e.2 + 1 = es.length then { e.1 with ok := ok } else e.1)
    let b : BobbinSt := { s.bobbin with drafts := s.bobbin.drafts.set i es }
    let d : DraftSt := { s.draft with slot := none, saved := s.draft.saved || ok }
    let s := { s with bobbin := b, draft := d }
    let s := if ok then ((s.unflag fDRAFT_COMMIT_PENDING).flag fDRAFT_COMMIT_DONE).showChain else s.commitFail 4
    .next (s.ageRecord.release 8)

/-- DRAFT_COMMIT: COMMIT retries the commit of the applied draft still staged; any other COMMIT is ignored (R487). Log: 70 DEDUCED. -/
def execDraftCommit (s : State) : Out :=
  .next (if s.draft.applied ∧ s.draft.slot.isNone ∧ s.get fDRAFT_STATUS_STATE = 0 then s.startCommit else s.flag fDRAFT_CTRL_BUSY)

end Sys2Proof.Machine
end

