-- ==== Sys2Proof/Machine/Outputs.lean ====
section
/-! DEFINITION. The shared operations of the 72 outputs, edge channels 0 to 63 and master outputs 64 to 71: working values,
triggers, stops, applies and the schedule state (chapters 03 and 05). -/

namespace Sys2Proof.Machine

/-- A word that a restore writes at `a`: an ENABLE of 0b11 is taken as OFF (R112, R168). -/
def enableOf (a : Nat) (w : Word) : Word :=
  if aWARP_CH_CTRL ≤ a ∧ a < aWARP_CH_CTRL + 64 ∧ fWARP_CH_CTRL_ENABLE.get w = 3 then fWARP_CH_CTRL_ENABLE.set w 0
  else if aMOUT_CTRL ≤ a ∧ a < aMOUT_CTRL + 8 ∧ fMOUT_CTRL_ENABLE.get w = 3 then fMOUT_CTRL_ENABLE.set w 0
  else w

/-- A field of an output's own register: the edge channel's `fc` or the master output's `fm`. -/
def State.oGet (s : State) (o : Nat) (fc fm : Fld) : Nat := if o < 64 then s.get fc o else s.get fm (o - 64)

/-- Store a field of an output's own register. -/
def State.oPut (s : State) (o : Nat) (fc fm : Fld) (v : Nat) : State :=
  if o < 64 then s.put fc v o else s.put fm v (o - 64)

/-- Set a flag of an output. -/
def State.oFlag (s : State) (o : Nat) (fc fm : Fld) : State := if o < 64 then s.flag fc o else s.flag fm (o - 64)

/-- Advance a saturating count of an output. -/
def State.oBump (s : State) (o : Nat) (fc fm : Fld) : State := if o < 64 then s.bump fc o else s.bump fm (o - 64)

/-- The schedule state of an output (R111). -/
def State.oState (s : State) (o : Nat) : Nat := s.oGet o fWARP_CH_STATUS_STATE fMOUT_STATUS_STATE

/-- Outstanding triggers shown. -/
def State.oPending (s : State) (o : Nat) : Nat := s.oGet o fWARP_CH_STATUS_PENDING fMOUT_STATUS_PENDING

/-- ENABLE of an output (R112). -/
def State.oEnable (s : State) (o : Nat) : Nat := s.oGet o fWARP_CH_CTRL_ENABLE fMOUT_CTRL_ENABLE

/-- Driver state of an output (R114). -/
def State.oDrv (s : State) (o : Nat) : Nat := s.oGet o fWARP_CH_STATUS_DRV fMOUT_STATUS_DRV

/-- An output dropped a trigger or command: the flag and the count. Log: 11 DEDUCED. -/
def State.oDrop (s : State) (o : Nat) (fc fm : Fld) : State :=
  (s.oFlag o fc fm).oBump o fWARP_CH_COUNT_RETRIG_DROP fMOUT_COUNT_RETRIG_DROP

/-- A pulse was suppressed whole for overlap (R106, R108). -/
def State.oOverlap (s : State) (o : Nat) : State :=
  (s.oFlag o fWARP_CH_STATUS_OVERLAP fMOUT_STATUS_OVERLAP).oBump o fWARP_CH_COUNT_OVERLAP fMOUT_COUNT_OVERLAP

/-- A pulse was suppressed by HOLD, an enable, waking or a clock event (R113, R114, R120). -/
def State.oSuppress (s : State) (o : Nat) : State :=
  (s.oFlag o fWARP_CH_STATUS_SUPPRESSED fMOUT_STATUS_SUPPRESSED).oBump o fWARP_CH_COUNT_SUPPRESS fMOUT_COUNT_SUPPRESS

/-- What an output does with triggers: 0 SINGLE, 1 BURST or EDGE, 2 PATTERN, 3 GATE, 4 gated SYSREF, 5 a grid (R102, R160, R165). -/
def State.oMode (s : State) (o : Nat) : Nat :=
  if o < 64 then s.get fWARP_CH_CTRL_MODE o
  else
    let m := s.get fMOUT_CTRL_MODE (o - 64)
    if m = 1 then 5 else if m = 2 then (if s.is fMOUT_CTRL_SYS_GATED (o - 64) then 4 else 5) else 1

/-- Minimum active width in wc/1024 (R98, R164). -/
def State.oMinWidth (s : State) (o : Nat) : Nat :=
  if o < 64 then s.psUp 300
  else
    let f := s.get fMOUT_FMT_FMT (o - 64)
    s.psUp (if f = 3 then 1000 else if f = 4 then 2000 else 300)

/-- Minimum idle between pulses in wc/1024 (R95, R164). -/
def State.oMinIdle (s : State) (o : Nat) : Nat :=
  if o < 64 then s.psUp 200
  else
    let f := s.get fMOUT_FMT_FMT (o - 64)
    s.psUp (if f = 3 then 1000 else if f = 4 then 2000 else 200)

/-- The delay D of an output in wc/1024 (R96, R161). -/
def State.oDelay (s : State) (o : Nat) : Nat :=
  if o < 64 then s.get fWARP_CH_DELAY_EXT_EXT o * 2 ^ 36 + (s.word (aWARP_CH_DELAY + o)).toNat
  else (s.word (aMOUT_DELAY + (o - 64))).toNat

/-- The width held in the register, in wc/1024. -/
def State.oRawWidth (s : State) (o : Nat) : Nat :=
  (if o < 64 then s.word (aWARP_CH_WIDTH + o) else s.word (aMOUT_WIDTH + (o - 64))).toNat

/-- The period held in the register, in wc/1024. -/
def State.oRawPeriod (s : State) (o : Nat) : Nat :=
  (if o < 64 then s.word (aWARP_CH_PERIOD + o) else s.word (aMOUT_PERIOD + (o - 64))).toNat

/-- The working width: raised to its minimum (R98, R164). -/
def State.oWidth (s : State) (o : Nat) : Nat := max (s.oRawWidth o) (s.oMinWidth o)

/-- The least working period (R98, R164). -/
def State.oMinPeriod (s : State) (o : Nat) : Nat := max (s.oWidth o + s.oMinIdle o) (wcs 2)

/-- The working period: raised to its minimum, and in SYSREF mode to a multiple of 4 wc (R98, R164, R165). -/
def State.oPeriod (s : State) (o : Nat) : Nat :=
  let p := max (s.oRawPeriod o) (s.oMinPeriod o)
  if 64 ≤ o ∧ s.get fMOUT_CTRL_MODE (o - 64) = 2 then (p + 4095) / 4096 * 4096 else p

/-- Pulses per start trigger (R103, R104, R161). -/
def State.oCount (s : State) (o : Nat) : Nat :=
  if o < 64 then (if s.oMode o = 0 then 1 else s.get fWARP_CH_BURST_COUNT o) else s.get fMOUT_BURST_COUNT (o - 64)

/-- Grid phase of a master output (R163). -/
def State.oPhase (s : State) (o : Nat) : Nat := (s.word (aMOUT_PHASE + (o - 64))).toNat

/-- Does the working mode use a raised or clamped value (R98, R106, R164, R165, R169)? -/
def State.oClamps (s : State) (o : Nat) : Bool :=
  let w := decide (s.oRawWidth o < s.oMinWidth o)
  let p := decide (s.oRawPeriod o < s.oMinPeriod o)
  let md := s.oMode o
  if o < 64 then
    if md = 0 then w
    else if md = 1 then w || (p && s.get fWARP_CH_BURST_COUNT o != 1)
    else if md = 2 then decide (255 < s.get fWARP_CH_DELAY_COARSE o)
    else false
  else
    let sw := decide (12 < s.get fMOUT_FMT_SWING (o - 64))
    if md = 1 then w || (p && s.get fMOUT_BURST_COUNT (o - 64) != 1) || sw
    else w || p || sw || (s.get fMOUT_CTRL_MODE (o - 64) == 2 && s.oRawPeriod o % 4096 != 0)

/-- CLAMP is evaluated (R98, R164). -/
def State.oClampCheck (s : State) (o : Nat) : State :=
  if s.oClamps o then s.oFlag o fWARP_CH_STATUS_CLAMP fMOUT_STATUS_CLAMP else s

/-! ### Outstanding triggers -/

/-- The leading edge of the next pulse of a trigger, if one remains. -/
def Trig.nextLead (t : Trig) : Option Nat :=
  if t.mode = 3 then (if t.next = 0 then some t.first else none)
  else if t.count ≠ 0 ∧ t.count ≤ t.next then none
  else
    let l := tAdd t.first (t.next * t.period)
    match t.cut with
    | some c => if tLt l c then some l else none
    | none => some l

/-- Is a gate open or scheduled to open (R105)? -/
def Trig.gateOpen (t : Trig) : Bool := t.mode == 3 && t.cut.isNone

/-- Triggers whose output is not complete: a pulse remains or is active (R107). -/
def OutSt.outstanding (x : OutSt) : List Trig :=
  x.trigs.filter (fun t => t.nextLead.isSome || (match x.act with | some p => p.own == t.inst | none => false))

/-- The trailing edge of the last pulse a trigger produces as its schedule stands, where there is a last one. Log: 10 DESIGN CHOICE. -/
def Trig.endAt (t : Trig) : Option Nat :=
  if t.mode = 3 then t.cut
  else
    let n := match t.cut with
      | some c => if tLe c t.first then 0 else if t.period = 0 then 1 else (tSub c t.first + t.period - 1) / t.period
      | none => t.count
    let n := if t.cut.isSome ∧ t.count ≠ 0 then min n t.count else n
    if t.cut.isNone ∧ t.count = 0 then none
    else if n = 0 then some t.inst
    else some (tAdd t.first ((n - 1) * t.period + t.width))

/-- Is the output of a trigger still to end at instant `t` (R107)? A firing reaches an output ahead of its instant. Log: 10 DESIGN CHOICE. -/
def Trig.busyAt (g : Trig) (t : Nat) : Bool := match g.endAt with | some e => tLt t e | none => true

/-- Does a channel in STREAM stay there: its sequencer plays, or a pattern pulse has not ended (R111)? -/
def State.streams (s : State) (o : Nat) : Bool :=
  decide (o < 64) && s.oMode o == 2 &&
    (let q := s.get fWARP_CH_CTRL_SEQ_SEL o
     s.get fSEQ_STATUS_STATE q == 2 || s.get fSEQ_STATUS_STATE q == 3 || (s.out o).act.isSome || !(s.out o).pat.isEmpty)

/-- The driver group of an output: its bank, or 8 for the master outputs. -/
def driverGroup (o : Nat) : Nat := if o < 64 then o / 8 else 8

/-- A driver group wake is asked of the governor, once while it waits (R114, R550). -/
def State.wakeGroup (s : State) (g : Nat) : State :=
  if s.gov.queue.any (fun e => e.1 == .drivers g) then s
  else { s with gov := { s.gov with queue := s.gov.queue ++ [(.drivers g, true)] } }

/-- DRV of an output changes. -/
def State.setDrv (s : State) (o v : Nat) : State := s.oPut o fWARP_CH_STATUS_DRV fMOUT_STATUS_DRV v

/-- The words of an output that hold POL and FMT. -/
def outStruct (o : Nat) : List Nat := if o < 64 then [aWARP_CH_CTRL + o] else [aMOUT_CTRL + (o - 64), aMOUT_FMT + (o - 64)]

/-- Does a changed POL or FMT, released from a hold, wait for the output to be idle (R496)? -/
def State.reforming (s : State) (o : Nat) : Bool :=
  !s.staged.isEmpty && !s.bit fISLAND_HOLD_HELD 0 && (outStruct o).any (fun a => (s.staged.find a).isSome)

/-- With the output idle and nothing pending a changed POL or FMT takes effect: the driver is taken off and woken again (R114, R496). -/
def State.reform (s : State) (o : Nat) : State :=
  let same := (outStruct o).all (fun a => s.structWord a == s.word a)
  let s := (outStruct o).foldl State.unstage s
  if same ∨ s.oDrv o = 0 then s else ((s.setDrv o 1).setOut o { s.out o with admitted := false }).wakeGroup (driverGroup o)

/-- STATE and PENDING follow the schedule (R111). -/
def State.oRefresh (s : State) (o : Nat) : State :=
  let x := s.out o
  let ts := x.outstanding
  let cur := s.oState o
  let st :=
    if cur = 5 then 5
    else if s.streams o ∧ cur = 4 then 4
    else if s.oMode o = 5 then 4
    else if x.act.isSome then 2
    else if ts ≠ [] then (if cur = 2 ∨ cur = 3 then 3 else 1)
    else 0
  let s := ((s.setOut o { x with trigs := ts }).oPut o fWARP_CH_STATUS_STATE fMOUT_STATUS_STATE st).oPut o
    fWARP_CH_STATUS_PENDING fMOUT_STATUS_PENDING ts.length
  if st = 0 ∧ ts.isEmpty ∧ s.reforming o then s.reform o else s

/-! ### Applies -/

/-- The words whose class-D fields an output's apply moves. -/
def outWords (o : Nat) : List Nat :=
  if o < 64 then [aWARP_CH_CTRL + o, aWARP_CH_DELAY + o, aWARP_CH_DELAY_EXT + o, aWARP_CH_WIDTH + o, aWARP_CH_PERIOD + o, aWARP_CH_BURST + o]
  else
    let m := o - 64
    [aMOUT_CTRL + m, aMOUT_FMT + m, aMOUT_DELAY + m, aMOUT_WIDTH + m, aMOUT_PERIOD + m, aMOUT_PHASE + m, aMOUT_BURST + m]

/-- The trailing edge that a leading edge at or after instant `t` comes after: of the pulse in progress, or of one that ends within the wc of
`t`. -/
def State.trailAfter (s : State) (o t : Nat) : Option Nat :=
  match (s.out o).act with
  | some p => p.trail
  | none => (s.out o).lastTrail.filter (fun e => !tLt e t)

/-- The earliest leading edge of a grid that starts or changes at instant `t`: the minimum idle after the pulse in progress, or
after `t` (R166, R41). -/
def State.gridAfter (s : State) (o t : Nat) : Nat := tAdd ((s.trailAfter o t).getD t) (s.oMinIdle o)

/-- The earliest leading edge of a grid that resumes at the return to PLL_W: it continues from its first point, after the minimum idle of a
pulse still in progress (R163, R182). -/
def State.gridReturn (s : State) (o : Nat) : Nat :=
  match (s.out o).act with
  | some p => tAdd (p.trail.getD s.nowT) (s.oMinIdle o)
  | none => s.nowT

/-- The grids of the outputs in CLOCK and continuous SYSREF mode exist from now on, where they do not already: after a restore or a wake of
PD_WARP (R163, R533). -/
def State.gridsOn (s : State) : State :=
  s.forN 8 (fun s m => if s.oMode (64 + m) = 5 ∧ (s.out (64 + m)).gridFrom.isNone
    then (s.setOut (64 + m) { s.out (64 + m) with gridFrom := some s.nowT }).oRefresh (64 + m) else s)

/-- An output applies its shadows (R116, R117, R166). -/
def State.applyOut (s : State) (o : Nat) : State :=
  let s := ((s.applyWords (outWords o)).oPut o fWARP_CH_STATUS_APPLY_WAIT fMOUT_STATUS_APPLY_WAIT 0).oClampCheck o
  let s := if 64 ≤ o then
      s.setOut o { s.out o with gridFrom := if s.oMode o = 5 then some (s.gridAfter o s.nowT) else none }
    else s
  let s := if 64 ≤ o ∧ s.oMode o ≠ 5 ∧ s.oState o = 4 then s.oPut o fWARP_CH_STATUS_STATE fMOUT_STATUS_STATE 0 else s
  s.oRefresh o

/-- Is an output at its apply point: idle with nothing pending (R111, R166)? A grid's apply point is its trailing edge. -/
def State.atApplyPoint (s : State) (o : Nat) : Bool :=
  s.oMode o != 5 && s.oState o == 0 && s.oPending o == 0

/-- A selected output applies now if it is at its apply point and otherwise waits (R116). -/
def State.requestApply (s : State) (o : Nat) : State :=
  if s.atApplyPoint o then s.applyOut o else s.oPut o fWARP_CH_STATUS_APPLY_WAIT fMOUT_STATUS_APPLY_WAIT 1

/-- A waiting output that has reached its apply point applies (R116). -/
def State.applyIfWaiting (s : State) (o : Nat) : State :=
  if s.oGet o fWARP_CH_STATUS_APPLY_WAIT fMOUT_STATUS_APPLY_WAIT = 1 ∧ s.atApplyPoint o then s.applyOut o else s

/-! ### Triggers and stops -/

/-- The line a trigger's stop comes from, as the working values stand (R99). -/
def State.oStopLine (s : State) (o : Nat) : Option Nat :=
  if s.oGet o fWARP_CH_CTRL_STOP_EN fMOUT_CTRL_STOP_EN = 1 then some (s.oGet o fWARP_CH_CTRL_STOP_LINE fMOUT_CTRL_STOP_LINE) else none

/-- The trigger a start at instant `t` makes of the working values (R99, R103 to R105, R165). -/
def State.mkTrig (s : State) (o t : Nat) : Trig :=
  let md := s.oMode o
  let at_ := tAdd t (s.oDelay o)
  { inst := t, first := if md = 4 then gridAt at_ (s.oPeriod o) (s.oPhase o) else at_, delay := s.oDelay o,
    width := s.oWidth o, period := s.oPeriod o, count := s.oCount o, next := 0, mode := md,
    retrig := s.oGet o fWARP_CH_CTRL_RETRIG fMOUT_CTRL_RETRIG, stopLine := s.oStopLine o, cut := none }

/-- An accepted start trigger joins the outstanding ones; one whose output has ended by its instant is outstanding no more (R107, R111). -/
def State.acceptTrig (s : State) (o t : Nat) (keep : List Trig) : State :=
  let x := s.out o
  let keep := keep.filter (fun g => g.busyAt t || g.nextLead.isSome)
  (s.setOut o { x with trigs := keep ++ [s.mkTrig o t], lastStart := some t }).oRefresh o

/-- A trigger whose edges not yet emitted are cancelled (RESTART, R107). -/
def Trig.cancel (t : Trig) : Trig := { t with cut := some t.first, count := 1, next := 1 }

/-- A start trigger with instant `t` reaches output `o` (R100, R101, R105 to R107, R162, R165). Log: 11 DEDUCED. -/
def State.startTrigger (s : State) (o t : Nat) : State :=
  let md := s.oMode o
  let x := s.out o
  let ts := x.outstanding
  if md = 2 then s
  else if md = 5 then s.oDrop o fMOUT_STATUS_CMD_IGNORED fMOUT_STATUS_CMD_IGNORED
  else if (match x.lastStart with | some l => decide (tDiff t l < 4096) | none => false) then
    s.oDrop o fWARP_CH_STATUS_RATE_DROP fMOUT_STATUS_RATE_DROP
  else if md = 3 then
    if ts.any Trig.gateOpen then s.oFlag o fWARP_CH_STATUS_GATE_EXTRA fWARP_CH_STATUS_GATE_EXTRA
    else if (ts.map (fun g => g.cut) ++ [x.lastTrail]).any (fun c => match c with | some c => tLt (tAdd t (s.oDelay o)) (tAdd c (s.oMinIdle o)) | none => false)
    then s.oOverlap o
    else s.acceptTrig o t ts
  else if ¬ ts.any (fun g => g.busyAt t) then s.acceptTrig o t ts
  else if md = 4 then s.oDrop o fMOUT_STATUS_CMD_IGNORED fMOUT_STATUS_CMD_IGNORED
  else
    let rt := s.oGet o fWARP_CH_CTRL_RETRIG fMOUT_CTRL_RETRIG
    if rt = 1 then s.acceptTrig o t ((ts.map Trig.cancel).filter (fun t => match x.act with | some p => p.own == t.inst | none => false))
    else if rt = 2 then
      if (ts.filter (fun g => g.busyAt t)).length < 4 then s.acceptTrig o t ts else s.oDrop o fWARP_CH_STATUS_QUEUE_OVF fMOUT_STATUS_QUEUE_OVF
    else s.oDrop o fWARP_CH_STATUS_RETRIG_DROPPED fMOUT_STATUS_RETRIG_DROPPED

/-- A stop at instant `t` acts on one outstanding trigger started at or before it: a burst loses the pulses at or after t + D, a gate gets its close
(R104, R105, R165). -/
def State.stopTrig (s : State) (o t : Nat) (line : Option Nat) (g : Trig) : Trig :=
  if tLt t g.inst ∨ (line.isSome ∧ g.stopLine ≠ line) then g
  else if g.mode = 1 ∨ g.mode = 4 then { g with cut := tMin? g.cut (some (tAdd t g.delay)) }
  else if g.gateOpen then
    let c := tAdd t g.delay
    let m := tAdd g.first (s.oMinWidth o)
    { g with cut := some (if tLt c m then m else c) }
  else g

/-- The active gate pulse takes the close its trigger now has. -/
def closeAct (ts : List Trig) (a : Option Pulse) : Option Pulse :=
  match a with
  | some p => (match p.trail with
    | some _ => some p
    | none => some { p with trail := (ts.find? (fun g => g.inst == p.own)).bind (fun g => g.cut) })
  | none => none

/-- Would a stop at instant `t` act on this output: a burst is outstanding, or a gate is open or scheduled to open (R150)? -/
def State.stopActs (s : State) (o t : Nat) : Bool :=
  (s.out o).outstanding.any (fun g => !tLt t g.inst && g.busyAt t && (g.mode == 1 || g.mode == 4 || g.gateOpen))

/-- A stop with instant `t` reaches output `o`, from a command (`line` none) or from a Heddle line (R100, R104, R105, R162). -/
def State.stopOut (s : State) (o t : Nat) (line : Option Nat) : State :=
  let md := s.oMode o
  if md = 5 then s.oDrop o fMOUT_STATUS_CMD_IGNORED fMOUT_STATUS_CMD_IGNORED
  else if s.stopActs o t then
    let x := s.out o
    let ts := x.outstanding.map (s.stopTrig o t line)
    ((s.setOut o { x with trigs := ts, act := closeAct ts x.act }).oRefresh o).applyIfWaiting o
  else if o < 64 ∧ (md = 1 ∨ md = 3) then s.flag fWARP_CH_STATUS_GATE_EXTRA o
  else s

/-- A Heddle firing of line `l` with instant `t` reaches output `o` (R79, R100, R120, R132, R150, R162). -/
def State.lineToOut (s : State) (l t o : Nat) : State :=
  let isStart := s.oGet o fWARP_CH_CTRL_TRIG_EN fMOUT_CTRL_TRIG_EN = 1 ∧ s.oGet o fWARP_CH_CTRL_TRIG_LINE fMOUT_CTRL_TRIG_LINE = l
  let isStop := s.oStopLine o = some l ∨ (s.out o).outstanding.any (fun g => g.stopLine == some l)
  if ¬ isStart ∧ ¬ isStop then s
  else if s.calAll then s.bump fCAL_DISCARD_DISCARD
  else if s.retuning then
    if s.oMode o = 5 then s.oDrop o fMOUT_STATUS_CMD_IGNORED fMOUT_STATUS_CMD_IGNORED
    else
      let s := s.bump fCLK_STATUS_TRIG_DROP
      if o < 64 then s else s.flag fMOUT_STATUS_LOCK_DISCARD (o - 64)
  else if s.safe then s.oFlag o fWARP_CH_STATUS_LOCK_DISCARD fMOUT_STATUS_LOCK_DISCARD
  else if isStart ∧ isStop then (if s.stopActs o t then s.stopOut o t (some l) else s.startTrigger o t)
  else if isStart then s.startTrigger o t
  else s.stopOut o t (some l)

/-- A firing of line `l` reaches every output that names the line (R132). -/
def State.lineToOuts (s : State) (l t : Nat) : State := s.forN 72 (fun s o => s.lineToOut l t o)

/-! ### The next edge of the schedule -/

/-- The leading edge an output's schedule has next: of a trigger (with it), of a pattern pulse, or of the grid. -/
inductive NextLead where
  | none_
  | trig (t : Trig) (lead : Nat)
  | pat (lead : Nat) (trail : Option Nat)
  | grid (lead : Nat)
  deriving DecidableEq, Repr

/-- The earliest leading edge among outstanding triggers. -/
def earliestTrig : List Trig → Option (Trig × Nat)
  | [] => none
  | t :: ts =>
    match t.nextLead, earliestTrig ts with
    | none, r => r
    | some l, none => some (t, l)
    | some l, some (t', l') => if tLt l' l then some (t', l') else some (t, l)

/-- The instant of a leading edge, if any. -/
def NextLead.at_ : NextLead → Option Nat
  | .none_ => none
  | .trig _ l => some l
  | .pat l _ => some l
  | .grid l => some l

/-- The earlier of two leading edges, the first where they meet. -/
def NextLead.sooner (a b : NextLead) : NextLead :=
  match a.at_, b.at_ with
  | _, none => a
  | none, _ => b
  | some x, some y => if tLt y x then b else a

/-- The leading edge of a running grid (R163). -/
def State.gridLead (s : State) (o : Nat) : NextLead :=
  match (s.out o).gridFrom with
  | some g => if s.oMode o ≠ 5 ∨ s.retuning ∨ s.calAll then .none_ else .grid (gridAt g (s.oPeriod o) (s.oPhase o))
  | none => .none_

/-- The leading edge due next at output `o`: the earliest of its outstanding triggers, its pattern pulses and its grid (R96, R99, R104 to R106,
R163, R165). -/
def State.nextLead (s : State) (o : Nat) : NextLead :=
  let x := s.out o
  let trig : NextLead := match earliestTrig x.trigs with | some (t, l) => .trig t l | none => .none_
  let pat : NextLead := match x.pat with | (l, tr) :: _ => .pat l tr | [] => .none_
  (trig.sooner pat).sooner (s.gridLead o)

/-- The schedule moves past a pulse whose leading edge is taken or suppressed. -/
def State.consumeLead (s : State) (o : Nat) (n : NextLead) : State :=
  let x := s.out o
  match n with
  | .none_ => s
  | .trig t _ => s.setOut o { x with trigs := x.trigs.map (fun g => if g.inst = t.inst then { g with next := g.next + 1 } else g) }
  | .pat _ _ => s.setOut o { x with pat := x.pat.drop 1 }
  | .grid l => s.setOut o { x with gridFrom := some (tAdd l 1) }

/-- Leading and trailing edge of a pulse, and the trigger it belongs to. -/
def State.pulseOf (s : State) (o : Nat) : NextLead → Option Pulse
  | .none_ => none
  | .trig t l => some { lead := l, trail := if t.mode = 3 then t.cut else some (tAdd l t.width), shown := false, own := t.inst }
  | .pat l tr => some { lead := l, trail := tr, shown := false, own := l }
  | .grid l => some { lead := l, trail := some (tAdd l (s.oWidth o)), shown := false, own := l }

/-- Does a pulse leading at `l`, with the trailing edge `tr` where one is known, break R95 or R108 against the pulses before it? Leading edges
take one fine-delay line and trailing edges the other (R95). Of two pulses the one that leads first is the earlier. Log: 95 DEDUCED. -/
def State.breaks (s : State) (o l : Nat) (tr : Option Nat) : Bool :=
  let x := s.out o
  x.act.isSome ||
    (match x.lastTrail with | some t => tLt l (tAdd t (s.oMinIdle o)) | none => false) ||
    (match x.lastLead with | some t => tLt l (tAdd t (wcs 2)) | none => false) ||
    (match x.lastTrail, tr with | some t, some e => tLt e (tAdd t (wcs 2)) | _, _ => false)

/-- Does the output's driver show the schedule's pulses at the ball (R112 to R115, R577)? -/
def State.shows (s : State) (o : Nat) : Bool :=
  (s.out o).enBall == 2 && s.oDrv o == 2 && !s.restoreHold && !s.faultHold && !s.reforming o

/-- The transitions of the pulses that output `o`'s schedule has next, up to `fuel` of them. -/
def State.upcoming (o : Nat) : Nat → State → List Nat
  | 0, _ => []
  | k + 1, s =>
    let n := s.nextLead o
    match s.pulseOf o n with
    | none => []
    | some p => p.lead :: (p.trail.toList ++ State.upcoming o k (s.consumeLead o n))

/-- Are all outputs idle, with nothing pending: the end of DRAIN (R78)? -/
def State.drained (s : State) : Bool :=
  (List.range 72).all (fun o => (s.out o).act.isNone && (s.out o).outstanding.isEmpty && (s.out o).pat.isEmpty)

/-- The WARP edge plane is quiescent (R37). -/
def State.quiescent (s : State) : Bool :=
  (List.range 72).all (fun o =>
    if s.oMode o = 5 then s.oEnable o != 2 || s.restoreHold || s.faultHold
    else s.oState o == 0 && s.oPending o == 0) &&
  s.store.isEmpty && !s.seqRunning 0 && !s.seqRunning 1

end Sys2Proof.Machine
end

