-- ==== Sys2Proof/Machine/Trig.lean ====
section
/-! DEFINITION. Integer roots, rounded quotients and fixed-point sine and cosine, for the arithmetic the manual states in
real numbers (R228, R229, R267). -/

namespace Sys2Proof.Machine

/-- Integer square root: the bits from `i` down that can be added to `r` while its square stays at or below `n`. -/
def sqrtGo (n : Nat) : Nat → Nat → Nat
  | 0, r => r
  | i + 1, r => let c := r + 2 ^ i; if c * c ≤ n then sqrtGo n i c else sqrtGo n i r

/-- The floor of the square root. -/
def isqrt (n : Nat) : Nat := sqrtGo n (Nat.log2 n / 2 + 1) 0

/-- A quotient rounded to the nearest integer, halves up. Log: 22 DESIGN CHOICE, 24 DEDUCED. -/
def roundDiv (a : Int) (b : Nat) : Int := (2 * a + b) / (2 * b)

/-- The square root of num / den times 2^sh, rounded to nearest. Log: 24 DEDUCED. -/
def roundSqrt (num den sh : Nat) : Nat := if den = 0 then 0 else (isqrt (num * 2 ^ (2 * sh + 2) / den) + 1) / 2

/-- 2π in units of 2^-64. -/
def twoPi : Nat := 115904311329233965478

/-- Terms of an alternating power series of x² in fixed point of 2^-64: term, first divisor, count. -/
def seriesGo (x2 : Int) : Nat → Int → Nat → Int
  | 0, _, _ => 0
  | n + 1, term, d => term + seriesGo x2 n (-(term * x2 / (2 ^ 64 : Nat)) / (d * (d + 1) : Nat)) (d + 2)

/-- Cosine and sine, in 2^-64, of an angle in [0, π/4] given in 2^-64. -/
def cosSinSmall (x : Nat) : Int × Int :=
  let x2 : Int := ((x * x / 2 ^ 64 : Nat) : Int)
  (seriesGo x2 12 (2 ^ 64 : Nat) 1, seriesGo x2 12 x 2)

/-- Cosine and sine, in 2^-64, of an angle of p / 2^48 turns. Log: 24 DEDUCED. -/
def cosSin (p : Nat) : Int × Int :=
  let q := p % 2 ^ 48
  let oct := q / 2 ^ 45
  let r := q % 2 ^ 45
  let r' := if oct % 2 = 0 then r else 2 ^ 45 - r
  let cs := cosSinSmall (r' * twoPi / 2 ^ 48)
  let c := cs.1
  let n := cs.2
  match oct with
  | 0 => (c, n)
  | 1 => (n, c)
  | 2 => (-n, c)
  | 3 => (-c, n)
  | 4 => (-c, -n)
  | 5 => (-n, -c)
  | 6 => (n, -c)
  | _ => (c, -n)

end Sys2Proof.Machine
end

