-- ==== Sys2Proof/Machine/ReedOps.lean ====
section
/-! DEFINITION. The shared operations of Reed: stamps, gates, measurement units and the queue path (chapter 08). -/

namespace Sys2Proof.Machine

/-! ### Stamps (R252, R253) -/

/-- Position of a code within its wc in 2^-17 wc, with the bin widths in force at instant `t`: twice the widths of the bins below, and the width of
its own bin. -/
def State.binPos (s : State) (i r b t : Nat) : Nat :=
  let w := fun j => fREED_BIN_W.get (s.wordFor (aREED_BIN + 128 * i + 64 * r + j) t)
  2 * ((List.range b).map w).sum + w b

/-- Rank position of a capture in 2^-17 wc, with the widths in force at instant `t`. -/
def State.rankPos (s : State) (i r c b t : Nat) : Int := ((c * 2 ^ 17 + s.binPos i r b t : Nat) : Int)

/-- The wc that decides which widths and values a crossing is computed with: that of rank A's capture, or of rank B's where rank A is invalid
(R255). Log: 103 DEDUCED. -/
def capWc (cap : TiCap) : Nat := if cap.bA.isSome then cap.cA else cap.cB

/-- The stamp of a captured crossing in wc/1024, halves rounding up; none when both ranks are invalid (R252, R253). One set of widths and values
serves the whole crossing (R255). -/
def State.stampOf (s : State) (i : Nat) (cap : TiCap) : Option Nat :=
  let w := wcs (capWc cap)
  let cal := s.wordFor (aREED_IN_CAL + i) w
  let dly : Int := sgn 18 (fREED_IN_CAL_DELAY.get cal)
  let rb : Int := (fREED_IN_CAL_RANKB.get cal : Nat)
  let fin := fun (z : Int) => ((z + 128) / 256 % (tMod : Nat)).toNat
  match cap.bA, cap.bB with
  | some a, some b => some (fin (s.rankPos i 0 cap.cA a.val w + s.rankPos i 1 cap.cB b.val w - 2 * rb - 4 * dly))
  | some a, none => some (fin (2 * s.rankPos i 0 cap.cA a.val w - 4 * dly))
  | none, some b => some (fin (2 * s.rankPos i 1 cap.cB b.val w - 4 * rb - 4 * dly))
  | none, none => none

/-- Does an edge-select code keep this direction? -/
def edgeKept (code : Nat) (rising : Bool) : Bool := code == 2 || (if code == 1 then !rising else rising)

/-! ### Measurement units (R264 to R268) -/

/-- Unit `u`. -/
def State.mu (s : State) (u : Nat) : MuSt := nth s.mus u

/-- The state with unit `u` replaced. -/
def State.setMu (s : State) (u : Nat) (x : MuSt) : State := { s with mus := s.mus.set u x }

/-- Gate unit `g`. -/
def State.gate (s : State) (g : Nat) : GateSt := nth s.gates g

/-- The state with gate unit `g` replaced. -/
def State.setGate (s : State) (g : Nat) (x : GateSt) : State := { s with gates := s.gates.set g x }

/-- A gate opens: a unit that names it and is not accumulating starts with its present configuration (R264). -/
def State.muOpen (s : State) (g u : Nat) : State :=
  let w := s.word (aREED_MU_CFG + u)
  let x := s.mu u
  if x.active ∨ fREED_MU_CFG_GSEL.get w ≠ g ∨ fREED_MU_CFG_MODE.get w = 0 then s
  else (s.setMu u { cfg := w, active := true, results := x.results, latest := x.latest, snap := x.snap }).flag fREED_MU_STATUS_ACTIVE u

/-- An interval from `b` to `t` is counted (R266). -/
def MuSt.interval (x : MuSt) (b t : Nat) : MuSt :=
  let d := tDiff t b
  { x with n := x.n + 1, sx := x.sx + d, sxx := x.sxx + d * d, lo := if x.n = 0 then d else min x.lo d,
           hi := if x.n = 0 then d else max x.hi d, begin_ := none }

/-- A pair (k, t) enters the regression sums (R267); `t` relative to the opening. -/
def MuSt.pair (x : MuSt) (k : Nat) (t : Int) : MuSt :=
  let kz : Int := (k : Nat)
  { x with n := x.n + 1, sx := x.sx + t, sxx := x.sxx + t * t, sk := x.sk + kz, skk := x.skk + kz * kz, skt := x.skt + kz * t,
           k1 := if x.n = 0 then k else x.k1, kn := k }

/-- A crossing reaches unit `u` (R265 to R267). On the safe clock a start or a stop of an interval discards the interval (R273). Log: 104 DEDUCED. -/
def State.muCross (s : State) (c : ReedX) (u : Nat) : State :=
  let i := c.input
  let t := c.inst
  let rising := c.rising
  let stamped := c.codes.isSome
  let x := s.mu u
  let md := fREED_MU_CFG_MODE.get x.cfg
  let isA := fREED_MU_CFG_INA.get x.cfg == i && edgeKept (fREED_MU_CFG_EDGE_A.get x.cfg) rising
  let isB := fREED_MU_CFG_INB.get x.cfg == i && edgeKept (fREED_MU_CFG_EDGE_B.get x.cfg) rising
  let g := s.gate (fREED_MU_CFG_GSEL.get x.cfg)
  match x.active, g.opened with
  | true, some o =>
    if tLt t o then s
    else if md = 1 then (if isA then s.setMu u { x with cnt := x.cnt + 1 } else s)
    else if md = 2 then
      if c.safe then
        let s := if isA && !isB && x.begin_.isSome then s.bump fREED_MU_STATUS_UNPAIRED u else s
        if isA || isB then s.setMu u { x with begin_ := none } else s
      else if !stamped then s
      else
        let x := match isB, x.begin_ with
          | true, some b => if tLt b t then x.interval b t else x
          | _, _ => x
        if isA then
          let s := if x.begin_.isSome then s.bump fREED_MU_STATUS_UNPAIRED u else s
          s.setMu u { x with begin_ := some t }
        else s.setMu u x
    else if isA then
      let p := max 1 (fREED_MU_CFG_PRESCALE.get x.cfg)
      let x' := if !stamped then { x with missed := x.missed + 1 }
        else if x.cnt % p = 0 then x.pair x.cnt (tDiff t o) else x
      s.setMu u { x' with cnt := x.cnt + 1 }
    else s
  | _, _ => s

/-- Low 36 bits and the next 36 bits of an integer. -/
def words72 (z : Int) : List Word :=
  let n := enc 72 z
  [BitVec.ofNat 36 (n % 2 ^ 36), BitVec.ofNat 36 (n / 2 ^ 36)]

/-- A count saturated to u36. -/
def w36 (n : Nat) : Word := BitVec.ofNat 36 (satU 36 n)

/-- A signed count saturated to s36. -/
def w36s (z : Int) : Word := BitVec.ofNat 36 (enc 36 (satS 36 z))

/-- The result of a unit for the gate [o, c) (R265 to R268, R273); the free values stand for VAL, SPREAD and the extremes where
the manual states none (log entry 22): a mean of no interval, a regression over fewer than two points, a residual over two. Log: 22 DESIGN CHOICE. -/
def State.muResult (s : State) (u o c : Nat) (g : GateSt) : State :=
  let x := s.mu u
  let md := fREED_MU_CFG_MODE.get x.cfg
  let s := if md = 2 ∧ x.begin_.isSome then s.bump fREED_MU_STATUS_UNPAIRED u else s
  let f1 := s.free
  let f2 := f1.2.free
  let f3 := f2.2.free
  let f4 := f3.2.free
  let len := (tSub c o) / 1024
  let tail := [tsLo o, tsHi o]
  let n : Int := (x.n : Nat)
  let r : MuRes × State :=
    if md = 1 then
      (⟨x.cfg, [w36 x.cnt] ++ words72 (x.cnt : Nat) ++ [0, w36 len, 0] ++ tail, false, decide (2 ^ 36 ≤ x.cnt ∨ 2 ^ 36 ≤ len), g.clkEvt⟩, s)
    else if md = 2 then
      if x.n = 0 then
        (⟨x.cfg, [0] ++ words72 (f1.1 : Nat) ++ [BitVec.ofNat 36 f2.1, BitVec.ofNat 36 f3.1, BitVec.ofNat 36 f4.1] ++ tail,
          g.broken, false, g.clkEvt⟩, f4.2)
      else
        let mean := roundDiv (x.sx * (2 ^ 26 : Nat)) x.n
        let sp := roundSqrt (n * x.sxx - x.sx * x.sx).toNat (x.n * x.n) 14
        (⟨x.cfg, [w36 x.n] ++ words72 mean ++ [w36 sp, w36s x.lo, w36s x.hi] ++ tail, g.broken,
          decide (2 ^ 36 ≤ x.n ∨ 2 ^ 36 ≤ sp ∨ satS 36 x.lo ≠ x.lo ∨ satS 36 x.hi ≠ x.hi), g.clkEvt⟩, s)
    else
      let dk := n * x.skk - x.sk * x.sk
      let dt := n * x.skt - x.sk * x.sx
      let dd := n * x.sxx - x.sx * x.sx
      let sat : Bool := decide (2 ^ 36 ≤ x.n ∨ 2 ^ 36 ≤ x.kn - x.k1 ∨ 2 ^ 36 ≤ x.missed)
      let per := roundDiv (dt * (2 ^ 26 : Nat)) dk.toNat
      if x.n < 2 then
        (⟨x.cfg, [w36 x.n] ++ words72 (f1.1 : Nat) ++ [BitVec.ofNat 36 f2.1, w36 (x.kn - x.k1), w36 x.missed] ++ tail, true, sat,
          g.clkEvt⟩, f2.2)
      else if x.n = 2 then
        (⟨x.cfg, [w36 x.n] ++ words72 per ++ [BitVec.ofNat 36 f1.1, w36 (x.kn - x.k1), w36 x.missed] ++ tail, true, sat, g.clkEvt⟩, f1.2)
      else
        let sp := roundSqrt (dd * dk - dt * dt).toNat (x.n * dk.toNat * (x.n - 2)) 14
        (⟨x.cfg, [w36 x.n] ++ words72 per ++ [w36 sp, w36 (x.kn - x.k1), w36 x.missed] ++ tail, g.broken,
          sat || decide (2 ^ 36 ≤ sp), g.clkEvt⟩, s)
  r.2.setMu u { results := x.results ++ [r.1], latest := x.latest, snap := x.snap }

/-- The units of a gate form their results at its close (R268). -/
def State.muClose (s : State) (g o c u : Nat) (gs : GateSt) : State :=
  let x := s.mu u
  if x.active ∧ fREED_MU_CFG_GSEL.get x.cfg = g then (s.muResult u o c gs).unflag fREED_MU_STATUS_ACTIVE u else s

/-! ### Gates (R256 to R259) -/

/-- The configuration of a gate: as captured while it is open (R258). -/
def State.gateCfg (s : State) (g : Nat) : Word :=
  let x := s.gate g
  if x.opened.isSome then x.cfg else s.word (aREED_GATE_CFG + g)

/-- LEN in wc (R258). -/
def gateLen (cfg len : Word) : Nat :=
  let n := fREED_GATE_LEN_LEN.get len * 2 ^ (8 * min 2 (fREED_GATE_LEN_UNIT.get len))
  if fREED_GATE_CFG_SRC.get cfg = 3 ∧ n = 0 then 4096 else n

/-- The earlier of a list of instants. -/
def earliest : List Nat → Option Nat
  | [] => none
  | t :: ts => tMin? (some t) (earliest ts)

/-- The close event of an open gate, before the 4 096 wc of R258, where one is known. -/
def GateSt.closeEvent (x : GateSt) (o : Nat) : Option Nat :=
  let src := fREED_GATE_CFG_SRC.get x.cfg
  let n := gateLen x.cfg x.len
  let byLen := if src ≠ 1 ∧ n ≠ 0 then some (tAdd o (wcs n)) else none
  tMin? byLen (if src = 3 then none else earliest x.closes)

/-- The close instant of an open gate. -/
def GateSt.closeAt (x : GateSt) (o : Nat) : Option Nat :=
  (x.closeEvent o).map (fun c => let m := tAdd o (wcs 4096); if tLt c m then m else c)

/-- The earliest opening event of a gate. -/
def GateSt.openAt (x : GateSt) : Option Nat := earliest (x.opens.map (·.1))

/-- The opening event at instant `o` takes place: a closed gate whose source still is the event's opens; an open gate ignores it
(R257, R258). -/
def State.gateOpenStep (s : State) (g o : Nat) : State :=
  let x := s.gate g
  let ev := x.opens.find? (fun e => e.1 == o)
  let rest := x.opens.eraseP (fun e => e.1 == o)
  let s := s.setGate g { x with opens := rest }
  if x.opened.isSome then s.flag fREED_GATE_CTRL_EXTRA g
  else
    let cfg := s.word (aREED_GATE_CFG + g)
    if (ev.map (·.2)) ≠ some (fREED_GATE_CFG_SRC.get cfg) then s
    else
      let y : GateSt := { opened := some o, opens := rest, closes := x.closes.filter (fun c => tLe o c), stop := x.stop,
                          cfg := cfg, len := s.word (aREED_GATE_LEN + g), clkEvt := s.safe, broken := false }
      let s := (s.setGate g y).flag fREED_GATE_CTRL_IS_OPEN g
      let s := if s.safe then s.flag fREED_GATE_CTRL_CLK_EVT g else s
      s.forN 4 (fun s u => s.muOpen g u)

/-- An open gate closes at `c` (R257 to R259). -/
def State.gateCloseStep (s : State) (g c : Nat) : State :=
  let x := s.gate g
  match x.opened with
  | none => s
  | some o =>
    let short := match x.closeEvent o with | some e => tLt e (tAdd o (wcs 4096)) | none => false
    let s := if short then s.flag fREED_GATE_CTRL_SHORT g else s
    let s := s.forN 4 (fun s u => s.muClose g o c u x)
    let again := fREED_GATE_CFG_SRC.get x.cfg = 3 ∧ fREED_GATE_CFG_REPEAT.get x.cfg = 1 ∧ x.stop = false
    let y : GateSt := { opens := if again then x.opens ++ [(c, 3)] else x.opens,
                        closes := x.closes.filter (fun e => tLt c e), stop := if again then x.stop else false }
    ((s.setGate g y).unflag fREED_GATE_CTRL_IS_OPEN g).bump fREED_GATE_CTRL_GATES g

/-- The next event of gate `g`: its instant, and whether it closes the gate. At equal instants a gate closes first (R256, R258). Log: 40 DEDUCED. -/
def State.gateNext (s : State) (g : Nat) : Option (Nat × Bool) :=
  let x := s.gate g
  match x.opened.bind x.closeAt, x.openAt with
  | some c, some o => some (if tLt o c then (o, false) else (c, true))
  | some c, none => some (c, true)
  | none, some o => some (o, false)
  | none, none => none

/-- Events of gate `g` up to instant `t` take place, at most `n` of them (R256). Log: 40 DEDUCED. -/
def State.gateSync (s : State) (g t : Nat) : Nat → State
  | 0 => s
  | n + 1 => match s.gateNext g with
    | none => s
    | some (e, cl) => if tLe e t then (if cl then s.gateCloseStep g e else s.gateOpenStep g e).gateSync g t n else s

/-- No more events of gate `g` than these take place up to instant `t`: those that wait, a close of each opening, and those of a series, whose gates
last at least 4 096 wc (R258, R259). -/
def State.gateEvents (s : State) (g t : Nat) : Nat :=
  let x := s.gate g
  let from_ := match tMin? x.opened x.openAt with | some o => (tDiff t o).toNat | none => 0
  2 * (x.opens.length + x.closes.length + from_ / (4096 * 1024)) + 4

/-- All gate units come up to instant `t`. -/
def State.gatesSync (s : State) (t : Nat) : State := s.forN 4 (fun s g => s.gateSync g t (s.gateEvents g t))

/-- An opening event for gate `g`. -/
def State.gateOpening (s : State) (g t src : Nat) : State :=
  let x := s.gate g
  s.setGate g { x with opens := x.opens ++ [(t, src)] }

/-- A close event for gate `g`. -/
def State.gateClosing (s : State) (g t : Nat) : State :=
  let x := s.gate g
  s.setGate g { x with closes := x.closes ++ [t] }

/-- A stamp of input `i` moves LEVEL gates (R257). -/
def State.gateStamp (s : State) (i t : Nat) (rising : Bool) : State :=
  s.forN 4 (fun s g =>
    let cfg := s.gateCfg g
    if fREED_GATE_CFG_SRC.get cfg = 1 ∧ fREED_GATE_CFG_GIN.get cfg = i then
      (if rising then s.gateOpening g t 1 else s.gateClosing g t)
    else s)

/-- Open gates meet a clock event (R273). -/
def State.gatesClkEvt (s : State) (broken : Bool) : State :=
  s.forN 4 (fun s g =>
    let x := s.gate g
    if x.opened.isSome then (s.setGate g { x with clkEvt := true, broken := x.broken || broken }).flag fREED_GATE_CTRL_CLK_EVT g
    else s)

/-! ### The queue path (R260 to R263) -/

/-- Does instant `t` lie in gate `g` (R256)? The gates have been brought up to `t`. -/
def State.inGate (s : State) (g t : Nat) : Bool :=
  match (s.gate g).opened with | some o => tLe o t | none => false

/-- A stamp is offered to the queue path (R254, R260 to R262). -/
def State.offerStamp (s : State) (i : Nat) (st : Stamp) : State :=
  let cfg := s.wordFor (aREED_IN_CFG + i) st.t
  if fREED_IN_CFG_EN.get cfg = 0 ∨ edgeKept (fREED_IN_CFG_EDGE.get cfg) st.rising = false then s
  else if fREED_IN_CFG_ARM.get cfg = 1 ∧ s.inGate (fREED_IN_CFG_GSEL.get cfg) st.t = false then s
  else
    let x := nth s.reedIn i
    if 64 ≤ x.fifo.length then
      ({ s with reedIn := s.reedIn.set i { x with gap := true } }.bump fREED_IN_STATUS_LOST i).flag fREED_IN_STATUS_GAP_SEEN i
    else { s with reedIn := s.reedIn.set i { x with fifo := x.fifo ++ [st] } }

/-- FILL is formed at a read. Log: 89 DEDUCED. -/
def State.reedLive (s : State) (a : Nat) (w : Word) : Word :=
  if aREED_IN_STATUS ≤ a ∧ a < aREED_IN_STATUS + 16 then
    fREED_IN_STATUS_FILL.set w (nth s.reedIn (a - aREED_IN_STATUS)).fifo.length
  else w

/-- A crossing takes its place among the gate events (R256): the gates come up to its instant, a stamp moves LEVEL gates, the units take it, and a
stamp is offered to the queue path. -/
def State.reedTake (s : State) (c : ReedX) : State :=
  let s := s.gatesSync c.inst
  let s := if c.codes.isSome then (s.gateStamp c.input c.inst c.rising).gatesSync c.inst else s
  let s := s.forN 4 (fun s u => s.muCross c u)
  match c.codes with
  | some k => s.offerStamp c.input ⟨c.inst, c.rising, k.1, k.2⟩
  | none => s

/-- Reed comes up to instant `t`: the crossings before it and the gate events up to it take place in the order of their instants (R256). Log: 40 DEDUCED. -/
def State.reedTo (s : State) (t : Nat) : State :=
  let s' := { s with reedPend := s.reedPend.dropWhile (fun c => tLt c.inst t) }
  ((s.reedPend.takeWhile (fun c => tLt c.inst t)).foldl State.reedTake s').gatesSync t

/-- All crossings taken so far have their place among the gate events. -/
def State.reedAll (s : State) : State := (s.reedPend.foldl State.reedTake { s with reedPend := [] }).gatesSync s.nowT

/-- A crossing in its place among those that wait: by instant, the earlier taken first. -/
def insertX (x : ReedX) : List ReedX → List ReedX
  | [] => [x]
  | y :: t => if tLe y.inst x.inst then y :: insertX x t else x :: y :: t

/-- A firing of line `l` with instant `t` moves LINE gates (R257). -/
def State.lineToGates (s : State) (l t : Nat) : State :=
  (s.reedTo t).forN 4 (fun s g =>
    let cfg := s.gateCfg g
    if fREED_GATE_CFG_SRC.get cfg ≠ 2 then s
    else
      let s := if fREED_GATE_CFG_OPEN_LINE.get cfg = l then s.gateOpening g t 2 else s
      if fREED_GATE_CFG_CLOSE_EN.get cfg = 1 ∧ fREED_GATE_CFG_CLOSE_LINE.get cfg = l then s.gateClosing g t else s)

/-- A crossing at TI_i as Reed takes it; `st` its stamp, none when no rank is valid (R252 to R254, R265 to R267). -/
def State.reedCross (s : State) (i : Nat) (cap : TiCap) (st : Option Nat) (rising : Bool) : State :=
  let s := if cap.bA.isNone ∨ cap.bB.isNone then s.flag fREED_IN_STATUS_BUBBLE i else s
  let x := nth s.reedIn i
  match st with
  | none => { s with reedPend := insertX ⟨i, wcs (capWc cap), rising, none, false⟩ s.reedPend }
  | some t =>
    let close := match x.last with | some l => decide (tDiff t l < 4096) | none => false
    if close then
      let s := (s.flag fREED_IN_STATUS_CLOSE i).bump fREED_IN_STATUS_CLOSE_COUNT i
      { s with reedPend := insertX ⟨i, t, rising, none, false⟩ s.reedPend }
    else
      let code := fun (b : Option (Fin 64)) => match b with | some b => b.val | none => 63
      let c : ReedX := ⟨i, t, rising, some (code cap.bA, code cap.bB), false⟩
      { s with reedIn := s.reedIn.set i { x with last := some t }, reedPend := insertX c s.reedPend }

/-- A crossing while WARP runs on the safe clock: it has no stamp, and TOTAL counters count it (R273). -/
def State.reedSafe (s : State) (i : Nat) (rising : Bool) : State :=
  { s.flag fREED_IN_STATUS_LOCK_MISS i with reedPend := insertX ⟨i, s.nowT, rising, none, true⟩ s.reedPend }

/-- Does a word of Reed depend on its gates and units having come up to the present? -/
def isReedWord (a : Nat) : Bool := decide (aREED_IN_CFG ≤ a) && decide (a < aREED_IN_CFG + 0x1000)

end Sys2Proof.Machine
end

