-- ==== Sys2Proof/Machine/Due.lean ====
section
/-! DEFINITION. Due-time commands: sending, the due-time store, lateness and the discards at the due time (chapter 01), with the
timebase loads of R37 to R41. -/

namespace Sys2Proof.Machine

/-- Depth of the channel FIFO into WARP of a source (R57). Log: 28 DEDUCED. -/
def fifoDepth (src : Nat) : Nat := if src = 1 ∨ src = 2 then 16 else 8

/-- The cycle of the island a source sends from, in ps (chapter 01, Cross-island latencies): WEFT, LINK, MGMT; SHUTTLE's is four wc. -/
def senderCycle (src : Nat) : Nat := if src = 3 then 800 else if src = 4 ∨ src = 5 then 2560 else 2500

/-- The least and the greatest number of wc from a sender's commit of a command to its acceptance in WARP (R57): SHUTTLE's is fixed at 12 wc,
the others' one to two sender cycles and 5 to 8 wc. -/
def State.crossing (s : State) (src : Nat) : Nat × Nat :=
  if src = 1 ∨ src = 2 then (12, 12)
  else (5 + s.psUp (senderCycle src) / 1024, 8 + (s.psUp (2 * senderCycle src) + 1023) / 1024)

/-- The greatest lag of a source's timebase view, and of its crossing's sender part, together in ps (R57, R58). -/
def lagAndSend (src : Nat) : Nat := if src = 1 ∨ src = 2 then 0 else 6 * senderCycle src

/-- The minimum safe offset of a source: 64 wc, the greatest view lag and the greatest crossing latency, rounded up to a whole wc (R59). -/
def State.minSafeOffset (s : State) (src : Nat) : Nat :=
  64 + (if src = 1 ∨ src = 2 then 12 else 8) + (s.psUp (lagAndSend src) + 1023) / 1024

/-- The lag of an island's timebase view in wc, within two to four of its cycles of `ps` picoseconds (R46, R58), and the state without the
free value used. Log: 10 DESIGN CHOICE. -/
def State.viewLag (s : State) (ps : Nat) : Nat × State :=
  let lo := s.psUp (2 * ps) / 1024
  let hi := (s.psUp (4 * ps) + 1023) / 1024
  let r := s.free
  (lo + r.1 % (hi - lo + 1), r.2)

/-- The wc in which the command `c` of a sender can be accepted now (R47, R57): no sooner than its crossing allows, and no later, unless it
has found the store full (R51) or WARP runs on the safe clock. A command with no recorded commit is accepted now. Log: 10 DESIGN CHOICE. -/
def State.acceptWc (s : State) (c : DueCmd) : Nat :=
  match s.sentAt.find? (fun e => e.1 == c) with
  | none => s.now
  | some e =>
    let b := s.crossing c.src
    let lo := (e.2 + b.1) % 2 ^ 62
    let hi := (e.2 + b.2) % 2 ^ 62
    if tLt s.nowT (wcs lo) then lo else if tLe s.nowT (wcs hi) ∨ s.stalled.contains c ∨ s.safe then s.now else hi

/-- A sender hands a due-time command to its handshake channel; a full FIFO stalls it and is counted (R43). Log: 28 DEDUCED. -/
def State.sendDue (s : State) (c : DueCmd) : State :=
  let s := if fifoDepth c.src ≤ (s.hsf.filter (fun d => d.src == c.src)).length then s.bump fHSF_STALL_STALLS c.src else s
  { s with hsf := s.hsf ++ [c], sentAt := s.sentAt ++ [(c, s.now)] }

/-- Does stored command `a` come before `b`: due wc, then acceptance wc, then source priority (R49, R50)? -/
def Stored.before (a b : Stored) : Bool :=
  let d := tDiff (tFloor a.cmd.due) (tFloor b.cmd.due)
  decide (d < 0) || (decide (d = 0) && (decide (a.acc < b.acc) || (a.acc == b.acc && decide (a.cmd.src ≤ b.cmd.src))))

/-- A timely command enters the store in its place. -/
def insertStored (x : Stored) : List Stored → List Stored
  | [] => [x]
  | y :: t => if y.before x then y :: insertStored x t else x :: y :: t

/-- The late record of R52, R53: LATE, its count, and the first late command since LATE was clear. -/
def State.lateRecord (s : State) (c : DueCmd) : State :=
  let s := if s.is fLEAD_STATUS_LATE then s
    else ((s.setWord aLEAD_FIRST_LO (tsLo c.due)).setWord aLEAD_FIRST_HI (tsHi c.due)).put fLEAD_STATUS_FIRST_SRC c.src
  (s.flag fLEAD_STATUS_LATE).bump fLEAD_COUNT_LATE_COUNT

/-- PENDING of a timed apply clears (it was withdrawn, late, discarded or done). -/
def State.tapplyOver (s : State) (t : DueTarget) (src : Nat) : State :=
  match t with
  | .chApply _ _ => s.unflag fWARP_TAPPLY_CTRL_PENDING
  | .moApply _ => s.unflag fMOUT_TAPPLY_CTRL_PENDING
  | .seqApply q => s.unflag fSEQ_CMD_TAPPLY_PEND q.val
  | .probeApply _ => s.unflag fPROBE_TAPPLY_CTRL_PENDING
  | .rxwApply _ => s.unflag fRXW_TAPPLY_CTRL_PENDING
  | .group _ => if src = 6 then s.unflag fGROUP_TAPPLY_CTRL_PENDING else s
  | _ => s

/-- Does a command name an apply group? -/
def isGroup : DueTarget → Bool
  | .group _ => true
  | _ => false

/-- A group apply that is not performed is counted (R504). -/
def State.groupDiscard (s : State) (c : DueCmd) : State := if isGroup c.target then s.bump fGROUP_COUNT_DISCARDED else s

/-- A late timed apply is not performed (R54, R503). -/
def State.tapplyLate (s : State) (c : DueCmd) : State :=
  let s := (((s.lateRecord c).flag fLEAD_STATUS_TAPPLY_LATE).tapplyOver c.target c.src).groupDiscard c
  if isGroup c.target then s.flag fGROUP_TAPPLY_CTRL_GROUP_LATE else s

/-- The members of the group a command names, as they stood when this wc began (R502); 0 for other commands. Log: 74 DEDUCED. -/
def State.groupWord (s : State) (c : DueCmd) : Word :=
  match c.target with
  | .group g => s.wordFor (aAPPLY_GROUP + g.val) s.nowT
  | _ => 0

/-- Does a command name a group whose EN is 0 (R503)? Log: 74 DEDUCED. -/
def State.groupOff (s : State) (c : DueCmd) : Bool := isGroup c.target && fAPPLY_GROUP_EN.get (s.groupWord c) == 0

/-- LATE_POL of a target output or line is ASAP. -/
def State.latePol (s : State) (t : DueTarget) : Bool :=
  match t with
  | .chan n => s.is fWARP_CH_CTRL_LATE_POL n.val
  | .mout m => s.is fMOUT_CTRL_LATE_POL m.val
  | .line l => s.is fHEDDLE_LINE_CFG_LATE_POL l.val
  | _ => false

/-- The late flag and count of a target (R110, R143). Log: 107 DESIGN CHOICE. -/
def State.lateAtTarget (s : State) (t : DueTarget) : State :=
  match t with
  | .chan n => (s.flag fWARP_CH_STATUS_LATE n.val).bump fWARP_CH_COUNT_LATE n.val
  | .mout m => (s.flag fMOUT_STATUS_LATE m.val).bump fMOUT_COUNT_LATE m.val
  | .line l => s.flag fHEDDLE_LINE_STATUS_CMD_LATE l.val
  | _ => s

/-- The flag of a target that a late command was emitted under ASAP. -/
def State.asapAtTarget (s : State) (t : DueTarget) : State :=
  match t with
  | .chan n => s.flag fWARP_CH_STATUS_ASAP_USED n.val
  | .mout m => s.flag fMOUT_STATUS_ASAP_USED m.val
  | _ => s

/-- Is a command a timed apply? Action 0x3 is one at an output (R100). -/
def isApply (c : DueCmd) : Bool :=
  match c.target with
  | .chan _ => c.action == 3
  | .mout _ => c.action == 3
  | .line _ => false
  | _ => true

/-- A command accepted in wc `acc` is stored, emitted late, or dropped (R48, R52 to R54, R110, R143). -/
def State.acceptDue (s : State) (c : DueCmd) (acc : Nat) : State :=
  let lim := acc + 64
  if 0 ≤ tDiff (tFloor c.due) (wcs lim) then
    if s.groupOff c then ((s.flag fGROUP_TAPPLY_CTRL_GROUP_OFF).groupDiscard c).tapplyOver c.target c.src
    else { s with store := insertStored ⟨c, acc, false, s.groupWord c⟩ s.store }
  else
    let s := s.lateAtTarget c.target
    if isApply c then s.tapplyLate c
    else
      let s := s.lateRecord c
      if s.latePol c.target ∧ tDiff (wcs lim) c.due ≤ (wcs (s.get fLEAD_CFG_ASAP_LIMIT) : Nat) then
        let c' := { c with due := (wcs lim + c.due % 1024) % tMod }
        let s := ((s.asapAtTarget c.target).flag fLEAD_STATUS_ASAP_USED).bump fLEAD_COUNT_ASAP_COUNT
        { s with store := insertStored ⟨c', acc, false, 0⟩ s.store }
      else s

/-- May a line take this command: its source's bit of CMD_MASK is set and its action is used (R142)? -/
def State.lineAccepts (s : State) (l : Nat) (c : DueCmd) : Bool :=
  decide (3 ≤ c.src ∧ c.src ≤ 6) && s.bit fHEDDLE_LINE_CFG_CMD_MASK (c.src - 3) l && (c.action == 1 || c.action == 2 || c.action == 3)

/-- A waiting SYNC_IN load (R39). A write of MODE without GO leaves it waiting. Log: 94 DESIGN CHOICE. -/
def State.loadWaits (s : State) : Bool := s.is fTB_LOAD_CTRL_GO

/-- A load is refused for a reason: GO clears, REFUSE records it (R646). -/
def State.loadRefuse (s : State) (r : Nat) : State := (s.put fTB_LOAD_CTRL_REFUSE r).unflag fTB_LOAD_CTRL_GO

/-- A waiting SYNC_IN load meets a safe clock, a retune, or an edge plane that is not quiescent (R39, R646). -/
def State.checkLoad (s : State) : State :=
  if ¬ s.loadWaits then s
  else if s.unlocked then s.loadRefuse 3
  else if ¬ s.quiescent then s.loadRefuse 1
  else s

/-- First index of a grid whose tick lies at or after instant `t` (R140). -/
def gridIndex (start per t : Nat) : Nat :=
  if tLe t start then 0 else if per = 0 then 0 else ((tSub t start) + per - 1) / per

/-- A running rate generator after a step of the timebase by `d` continues with the first tick at least 16 wc ahead; its stop point keeps
its distance from the present (R41, R141). -/
def RgGrid.afterStep (g : RgGrid) (d t : Nat) : RgGrid :=
  { g with k := gridIndex g.start g.per (tAdd t (wcs 16)), stopAt := g.stopAt.map (fun e => tAdd e d) }

/-- Does a grid have a tick left (R140, R141)? -/
def RgGrid.alive (g : RgGrid) : Bool :=
  (g.count == 0 || (decide (g.k < g.count) && decide (g.emitted < g.count))) &&
    (match g.stopAt with | some e => tLt (tAdd g.start (g.k * g.per)) e | none => true)

/-- An instant kept only to count elapsed time goes with a step of the timebase by `d`. -/
def shiftAt (d : Nat) (x : Option Nat) : Option Nat := x.map (fun e => tAdd e d)

/-- What an output keeps of elapsed time, moved by a step. -/
def OutSt.shift (d : Nat) (x : OutSt) : OutSt :=
  let pul (p : Pulse) : Pulse := { p with lead := tAdd p.lead d, trail := shiftAt d p.trail }
  let mov (e : Nat × Bool) : Nat × Bool := (tAdd e.1 d, e.2)
  let y : OutSt := { x with act := x.act.map pul, echo := x.echo.map mov, vote := x.vote.map mov }
  { y with lastLead := shiftAt d x.lastLead, lastTrail := shiftAt d x.lastTrail, lastStart := shiftAt d x.lastStart, awake := tAdd x.awake d, chk := shiftAt d x.chk }

/-- What a trigger input of Heddle keeps of elapsed time, moved by a step. -/
def HedIn.shift (d : Nat) (x : HedIn) : HedIn :=
  { x with lastKept := shiftAt d x.lastKept, mods := x.mods.map (fun e => ((e.1 + d / 1024) % 2 ^ 62, e.2)), hist := x.hist.map (fun e => (tAdd e.1 d, e.2)) }

/-- What counts elapsed time outside WARP, the host port's timers, its waiting accesses and an injection, moved by a step. -/
def State.shiftTimers (s : State) (d : Nat) : State :=
  let rings : List RingSt := s.host.rings.map (fun x => { x with first := shiftAt d x.first, at_ := shiftAt d x.at_ })
  let waits : List RemoteWait := s.host.waits.map (fun x => { x with at_ := tAdd x.at_ d })
  let inj : Option InjSt := s.selv.inj.map (fun x => { x with start := tAdd x.start d, from_ := shiftAt d x.from_ })
  { s with host := { s.host with rings := rings, waits := waits }, selv := { s.selv with inj := inj } }

/-- What counts elapsed time at the inputs, outputs and banks, and since which a replaced word acts, keeps its distance from the
present across a step by `d` wc/1024 (R41). -/
def State.shiftElapsed (s : State) (d : Nat) : State :=
  let os : List OutSt := s.outs.map (OutSt.shift d)
  let bs : List BankSt := s.banks.map (fun b => { b with clsAt := tAdd b.clsAt d })
  let hs : List HedIn := s.hin.map (HedIn.shift d)
  let rs : List ReedIn := s.reedIn.map (fun x => { x with last := shiftAt d x.last, taken := shiftAt d x.taken })
  let ws := s.old.map (fun e => (e.1, e.2.1, (e.2.2 + d / 1024) % 2 ^ 62))
  let fs := s.fresh.map (fun e => (e.1, e.2.1, (e.2.2 + d / 1024) % 2 ^ 62))
  let ts := s.sentAt.map (fun e => (e.1, (e.2 + d / 1024) % 2 ^ 62))
  let qs := s.queues.map (fun e => (e.1, { e.2 with hid := e.2.hid.map (fun h => ((h.1 + d / 1024) % 2 ^ 62, h.2)) }))
  { s.shiftTimers d with outs := os, banks := bs, hin := hs, reedIn := rs, old := ws, fresh := fs, sentAt := ts, queues := qs }

/-! ### The receive sample grid (R299, R302) -/

/-- The receive path of fibre `f`. -/
def State.rxOf (s : State) (f : Nat) : RxSt := nth s.rx f

/-- The state with the receive path of fibre `f` replaced. -/
def State.setRx (s : State) (f : Nat) (x : RxSt) : State := { s with rx := s.rx.set f x }

/-- T_S of the receive grid in wc as a fraction. -/
def State.rxTs (s : State) (f : Nat) : Nat × Nat :=
  let r := s.get fRXW_LINK_CFG_RATIO f
  if r = 0 then (5, 3) else if r = 1 then (2, 1) else (5, 2)

/-- Samples per extended multiblock. -/
def State.rxBlock (s : State) (f : Nat) : Nat := if s.get fRXW_LINK_CFG_RXSET f = 1 then 128 else 192

/-- The first release boundary at or after the present wc. -/
def State.nextBoundary (s : State) (f : Nat) : Nat :=
  let ab := s.rxTs f
  let n := (s.now * ab.2 + ab.1 - 1) / ab.1
  (n - s.get fRXW_LINK_CFG_RELEASE f + s.rxBlock f - 1) / s.rxBlock f

/-- The effects of a step of the timebase to wc `new` on grids, rate generators, held coincidence events, arm windows, the
keeper's prediction and Reed's open gates (R41). -/
def State.stepTimebase (s : State) (new : Nat) : State :=
  let s := s.reedAll.gatesClkEvt true
  let old := s.nowT
  let d := tSub (wcs new) old
  let s := { s with now := new % 2 ^ 62 }
  let ck : ClkSt := { s.clk with tickAt := tAdd s.clk.tickAt d, guardAt := (s.clk.guardAt + d / 1024) % 2 ^ 62, pllcAt := (s.clk.pllcAt + d / 1024) % 2 ^ 62, rampAt := (s.clk.rampAt + d / 1024) % 2 ^ 62, stepAt := shiftAt d s.clk.stepAt, trimAt := (s.clk.trimAt + d / 1024) % 2 ^ 62 }
  let ls : List HedLine := s.lines.map (fun l => { l with held := [], armFrom := l.armFrom.map (fun e => tAdd e d), armEnd := l.armEnd.map (fun e => tAdd e d), firedAt := shiftAt d l.firedAt })
  let lm : List LimSt := s.lims.map (fun x => { x with at_ := tAdd x.at_ d, since := tAdd x.since d, act := x.act.map (fun e => tAdd e d) })
  let pb : List ProbeSt := s.probes.map (fun p => { p with chips := p.chips.map (fun c => { c with inst := tAdd c.inst d }) })
  let pn : List PinEvt := s.pins.map (fun p => { p with inst := tAdd p.inst d })
  let s := { s.shiftElapsed d with clk := ck, lines := ls, lims := lm, probes := pb, pins := pn }
  let s := { s with spare := { s.spare with joinAt := (s.spare.joinAt + d / 1024) % 2 ^ 62 } }
  let s := s.forN 2 (fun s f => s.setRx f { s.rxOf f with next := s.nextBoundary f })
  let s := s.forN 8 (fun s m =>
    if s.oMode (64 + m) = 5 then s.setOut (64 + m) { s.out (64 + m) with gridFrom := some (s.gridAfter (64 + m) s.nowT) } else s)
  s.forN 8 (fun s g =>
    let prev := ((nth s.rgs g).prev.map (fun r => r.afterStep d s.nowT)).filter RgGrid.alive
    let s := { s with rgs := s.rgs.set g { nth s.rgs g with prev := prev } }
    match (nth s.rgs g).cur with
    | none => s.put fHEDDLE_RG_CTRL_RUN (b2n (!prev.isEmpty)) g
    | some r =>
      let r' := r.afterStep d s.nowT
      let s := if r.k < r'.k then s.flag fHEDDLE_RG_CTRL_SKIPPED g else s
      let s := { s with rgs := s.rgs.set g { nth s.rgs g with cur := if r'.alive then some r' else none } }
      if r'.alive then s else s.put fHEDDLE_RG_CTRL_RUN (b2n (!prev.isEmpty)) g)

/-- The value a timebase load takes: EPOCH and COARSE of TB_LOAD (R38, R40). -/
def State.loadValue (s : State) : Nat := s.get fTB_LOAD_HI_EPOCH * 2 ^ 26 + s.get fTB_LOAD_LO_COARSE

/-- Why a load requested now is refused, in the order of R646 after MODE; 0 where it is not. -/
def State.loadReason (s : State) : Nat :=
  if s.chainSynced then 2 else if s.unlocked then 3 else if ¬ s.quiescent then 1 else 0

/-- GO clears what the last load left (TB_LOAD_CTRL). -/
def State.loadGo (s : State) (mode : Nat) : State :=
  (((s.put fTB_LOAD_CTRL_MODE mode).unflag fTB_LOAD_CTRL_DONE).put fTB_LOAD_CTRL_REFUSE 0).unflag fTB_LOAD_CTRL_GO

/-- A due command that meets the safe clock or a retune is discarded and counted (R55). -/
def State.lockDrop (s : State) (c : DueCmd) : State :=
  (((s.flag fLEAD_STATUS_LOCK_DROP).bump fLEAD_STATUS_LOCK_DROP_COUNT).tapplyOver c.target c.src).groupDiscard c

/-- Does a timed apply of the same wc as the head of the store wait there (R99)? -/
def State.applyFirst (s : State) (c : Stored) : Bool := s.store.any (fun e => isApply e.cmd && tFloor e.cmd.due == tFloor c.cmd.due)

/-- The output a command is addressed to. -/
def outOf : DueTarget → Option Nat
  | .chan n => some n.val
  | .mout m => some (64 + m.val)
  | _ => none

/-- TB_LOAD_SYNC_IN: GO with MODE SYNC_IN arms a load for the next SYNC_IN edge, replacing one that waits (R39, R646). -/
def execTbLoadSyncIn (s : State) : Out :=
  let s := s.loadGo 2
  let r := s.loadReason
  .next (if r ≠ 0 then s.loadRefuse r else s.flag fTB_LOAD_CTRL_GO)

/-- TB_LOAD_MODE_NONE: GO with MODE none or not used is refused with reason 0x4 (R646). -/
def execTbLoadModeNone (mode3 : Bool) (s : State) : Out := .next ((s.loadGo (if mode3 then 3 else 0)).loadRefuse 4)

/-- Mark the first uncommitted command committed. -/
def commitFirst : List Stored → List Stored
  | [] => []
  | c :: t => if c.committed then c :: commitFirst t else { c with committed := true } :: t

/-- TB_NOW_READ: a read of TB_NOW_LO snapshots the timebase (R23). -/
def execTbNowRead (s : State) : Out :=
  .next ((s.setWord aTB_NOW_LO (tsLo s.nowT)).setWord aTB_NOW_HI (tsHi s.nowT))

/-- TB_MT_STAMP_READ: a read of TB_MT_STAMP_LO snapshots both words of the latest mt stamp (R35). -/
def execTbMtStampRead (s : State) : Out :=
  .next ((s.setWord aTB_MT_STAMP_LO (tsLo s.clk.stamp)).setWord aTB_MT_STAMP_HI (tsHi s.clk.stamp))

end Sys2Proof.Machine
end

