-- ==== Sys2Proof/Machine/Wire.lean ====
section
/-! DEFINITION. Chain frames on the wire (R411, R412, R416): header words, the bit stream, data blocks with their padding, the CRC-32C that
TERMINATE carries, and reading a frame back from its blocks. -/

namespace Sys2Proof.Machine

/-! ### Words and bits (R412, R416) -/

/-- The two header words of a frame (R416). -/
def frHeader (f : ChFrame) : List Word :=
  [BitVec.ofNat 36 (f.typ * 2 ^ 32 + f.dst * 2 ^ 22 + f.src * 2 ^ 12 + f.hops * 2 ^ 3),
   BitVec.ofNat 36 (f.seq * 2 ^ 24 + f.words.length * 2 ^ 10 + f.arg)]

/-- The words of a frame, header first (R412). -/
def frWords (f : ChFrame) : List Word := frHeader f ++ f.words

/-- The bits of a word, bit 35 first (R412). -/
def wordBits (w : Word) : List Bool := (List.range 36).map (fun i => w.getLsbD (35 - i))

/-- The bit stream of a frame: 36 × (LEN + 2) bits (R412). -/
def frBits (f : ChFrame) : List Bool := (frWords f).flatMap wordBits

/-- The number whose bits, most significant first, are given. -/
def bitsNat (l : List Bool) : Nat := l.foldl (fun n b => 2 * n + b.toNat) 0

/-! ### The CRC (R412) -/

/-- One bit of the stream enters the CRC register of polynomial 0x1EDC_6F41. Log: 68 PRESUMED. -/
def crcBit (c : Nat) (b : Bool) : Nat :=
  let c' := c % 2 ^ 31 * 2
  if (c / 2 ^ 31 % 2 == 1) != b then c' ^^^ 0x1EDC6F41 else c'

/-- CRC-32C of a frame, over its frame bits and no padding: initial value and final XOR all ones (R412). Log: 68 PRESUMED. -/
def frCrc (f : ChFrame) : Nat := (frBits f).foldl crcBit 0xFFFFFFFF ^^^ 0xFFFFFFFF

/-- Is a frame received with the CRC it should carry (R418, R422)? -/
def frCrcOk (f : ChFrame) (crc : Nat) : Bool := crc == frCrc f

/-! ### Blocks (R411, R412) -/

/-- A block: its sync header, 0b01 for data and 0b10 for control, and its 64 bits. -/
structure Block where
  sync : Nat
  bits : Nat
  deriving DecidableEq, Repr, Inhabited

/-- Payload bits 63 down to 0 of successive data blocks, the last padded with zeros, `n` of them. -/
def dataBlocks : Nat → List Bool → List Block
  | 0, _ => []
  | n + 1, l => ⟨1, bitsNat ((l.take 64) ++ List.replicate (64 - (l.take 64).length) false)⟩ :: dataBlocks n (l.drop 64)

/-- The START and TERMINATE blocks, the latter with the frame's CRC in bits [55:24] (R411). -/
def startBlock : Block := ⟨2, 0x33 * 2 ^ 56⟩
def terminateBlock (crc : Nat) : Block := ⟨2, 0x87 * 2 ^ 56 + crc * 2 ^ 24⟩

/-- The CREDIT block that returns `n` units of 32 words (R411). -/
def creditBlock (n : Nat) : Block := ⟨2, 0x2D * 2 ^ 56 + n % 2 ^ 16 * 2 ^ 40⟩

/-- Data blocks of a frame with `n` payload words. -/
def frDataCount (n : Nat) : Nat := (36 * (n + 2) + 63) / 64

/-- A frame as its port sends it: START, the data blocks, TERMINATE (R412). -/
def frBlocks (f : ChFrame) : List Block :=
  startBlock :: (dataBlocks (frDataCount f.words.length) (frBits f) ++ [terminateBlock (frCrc f)])

/-- The blocks that leave port `p` at the present instant: its frames in the order in which they were handed to it, and its CREDIT blocks. -/
def State.portBlocks (s : State) (p : Nat) : List Block :=
  (((nth s.chain.ports p).sent.filter (fun e => e.1 == s.nowT)).map (·.2)).flatMap frBlocks ++
    ((nth s.chain.ports p).credits.filter (fun e => e.1 == s.nowT)).map (fun e => creditBlock e.2)

/-! ### Reading a frame back -/

/-- The 64 bits of a data block, bit 63 first. -/
def blockBits (b : Block) : List Bool := (List.range 64).map (fun i => b.bits.testBit (63 - i))

/-- Words from a bit stream, `n` of them. -/
def streamWords : Nat → List Bool → List Word
  | 0, _ => []
  | n + 1, l => BitVec.ofNat 36 (bitsNat (l.take 36)) :: streamWords n (l.drop 36)

/-- The frame of a list of words, header first; none where LEN does not fit. -/
def wordsFrame (ws : List Word) : Option ChFrame :=
  match ws with
  | a :: b :: rest =>
    let n := getBits b 10 14
    if n ≤ rest.length then
      some ⟨getBits a 32 4, getBits a 22 10, getBits a 12 10, getBits a 3 9, getBits b 24 12, getBits b 0 10, rest.take n⟩
    else none
  | _ => none

/-- The frame and the CRC of a run of blocks from START to TERMINATE; none for any other run (R411, R412). -/
def blocksFrame (bs : List Block) : Option (ChFrame × Nat) :=
  match bs with
  | [] => none
  | b :: t =>
    let data := t.takeWhile (fun x => x.sync == 1)
    match t.dropWhile (fun x => x.sync == 1) with
    | [e] =>
      if b = startBlock ∧ e.sync = 2 ∧ e.bits / 2 ^ 56 = 0x87 ∧ e.bits % 2 ^ 24 = 0 then
        let bits := data.flatMap blockBits
        (wordsFrame (streamWords (bits.length / 36) bits)).map (fun f => (f, e.bits / 2 ^ 24 % 2 ^ 32))
      else none
    | _ => none

end Sys2Proof.Machine
end

