-- ==== Sys2Proof/Machine/ChainOps.lean ====
section
/-! DEFINITION. The Kalnel chain's shared operations (chapter 14): frames and their headers, routes, ports, copies, originating and
forwarding, triggers, and a frame's reception. Ports are 0 WEST and 1 EAST. -/

namespace Sys2Proof.Machine

/-! ### The device in the chain (R409, R410, R423) -/

/-- Does the device take part in a chain? -/
def State.chained (s : State) : Bool := s.is fCHAIN_CFG_ROLE

/-- Is the device the head? -/
def State.isHead (s : State) : Bool := s.chained && s.is fCHAIN_ADDR_HEAD

/-- The device's address. -/
def State.addr (s : State) : Nat := s.get fCHAIN_ADDR_ADDR

/-- Is the device placed? -/
def State.placed (s : State) : Bool := s.is fCHAIN_ADDR_PLACED

/-- Is the chain a RING? -/
def State.ring (s : State) : Bool := s.is fCHAIN_CFG_TOPO

/-- CHAIN_LEN. -/
def State.chainLen (s : State) : Nat := s.get fCHAIN_ADDR_CHAIN_LEN

/-- The device's signature. -/
def State.sig (s : State) : Word := s.word aCHAIN_SIG

/-- Port `p`. -/
def State.port (s : State) (p : Nat) : PortSt := nth s.chain.ports p

/-- The state with port `p` replaced. -/
def State.setPort (s : State) (p : Nat) (x : PortSt) : State := { s with chain := { s.chain with ports := s.chain.ports.set p x } }

/-- Is port `p` UP? -/
def State.portUp (s : State) (p : Nat) : Bool := s.get fCHAIN_LINK_STATUS_STATE p == 2

/-- A frame was not forwarded or delivered (R418). -/
def State.routeDrop (s : State) : State := s.bump fCHAIN_COUNT_ROUTE_DROP

/-! ### Ports (R414, R415, R420, R421) -/

/-- Is a frame of a priority class (R417)? -/
def frPriority (f : ChFrame) : Bool := f.typ == 1 || f.typ == 2 || f.typ == 3

/-- Is a frame a HELLO? -/
def frHello (f : ChFrame) : Bool := f.typ == 5 && f.arg == 0

/-- Does LINK_DROP keep port `p` from transmitting (R583)? Log: 53 DEDUCED. -/
def State.linkDrop (s : State) (p : Nat) : Bool := match s.injActs 13 with | some i => i.unit == p | none => false

/-- A frame leaves port `p` now; frames of earlier wc leave the record. Log: 53 DEDUCED. -/
def State.emit (s : State) (p : Nat) (f : ChFrame) : State :=
  let x := s.port p
  if s.linkDrop p then s else s.setPort p { x with sent := x.sent.filter (fun e => e.1 == s.nowT) ++ [(s.nowT, f)] }

/-- Words a frame takes of a store-forward buffer: header and payload; none for a priority frame or a HELLO (R421). Log: 57 DEDUCED. -/
def frBuffer (f : ChFrame) : Nat := if frPriority f ∨ frHello f then 0 else f.words.length + 2

/-- A frame received at port `src` leaves that port's buffer; CREDIT blocks return what is free in units of 32 words (R411, R421). Log: 57 DEDUCED. -/
def State.freeBuf (s : State) (src : Option Nat) (f : ChFrame) : State :=
  match src with
  | none => s
  | some q =>
    let x := s.port q
    let k := x.freed + frBuffer f
    if k < 32 ∨ ¬ s.portUp q ∨ s.linkDrop q then s.setPort q { x with freed := k }
    else s.setPort q { x with freed := k % 32, credits := x.credits.filter (fun e => e.1 == s.nowT) ++ [(s.nowT, k / 32)] }

/-- The waiting frame that leaves a port next: a priority frame in transit, then one of this device; else a store-forward frame that the credit
covers, transit and local ones in turn, of the local ones a FAULT frame first (R420, R421, R572). -/
def PortSt.pick (x : PortSt) : Option (ChFrame × Option Nat) :=
  let transit := x.waiting.find? (fun e => !frPriority e.1 && e.2.isSome)
  let mine := (x.waiting.find? (fun e => e.1.typ == 4 && e.2.isNone)).or (x.waiting.find? (fun e => !frPriority e.1 && e.2.isNone))
  let fits := fun (e : ChFrame × Option Nat) => decide (frBuffer e.1 ≤ x.credit)
  let a := (if x.lastTransit then mine else transit).filter fits
  let b := (if x.lastTransit then transit else mine).filter fits
  (x.waiting.find? (fun e => frPriority e.1 && e.2.isSome)).or ((x.waiting.find? (fun e => frPriority e.1)).or (a.or b))

/-- Frames waiting at a port leave it, as far as an accepted HELLO and credit allow. -/
def State.drainPort (s : State) (p : Nat) : Nat → State
  | 0 => s
  | n + 1 =>
    let x := s.port p
    if ¬ s.portUp p ∨ ¬ x.heard then s
    else match x.pick with
      | none => s
      | some e =>
        let x := { x with waiting := x.waiting.erase e, credit := x.credit - frBuffer e.1,
                          lastTransit := if frPriority e.1 then x.lastTransit else e.2.isSome }
        (((s.setPort p x).emit p e.1).freeBuf e.2 e.1).drainPort p n

/-- A frame is handed to port `p`, with the port whose buffer it fills where it is in transit: it leaves, waits for an accepted HELLO or for
credit, or is dropped where the port is not UP (R415, R420, R421, R446). -/
def State.sendVia (s : State) (p : Nat) (f : ChFrame) (src : Option Nat) : State :=
  if ¬ s.portUp p then s.routeDrop.freeBuf src f
  else if frHello f then s.emit p f
  else
    let x := s.port p
    (s.setPort p { x with waiting := x.waiting ++ [(f, src)] }).drainPort p (x.waiting.length + 1)

/-- A frame that originates here is handed to port `p`. -/
def State.sendPort (s : State) (p : Nat) (f : ChFrame) : State := s.sendVia p f none

/-! ### Routes (R418, R445, R446) -/

/-- Position of an address in the last ASSIGN. -/
def State.posOf (s : State) (a : Nat) : Option Nat := (s.chain.table.find? (fun e => e.1 == a)).map (·.2)

/-- Positions of the WEST ends of broken links. -/
def State.brokenAt (s : State) : List Nat := s.chain.broken.filterMap (fun e => s.posOf e.1)

/-- Do `n` EAST-going hops from position `a` cross a broken link? -/
def State.crosses (s : State) (a n : Nat) : Bool := (List.range n).any (fun i => s.brokenAt.contains ((a + i) % max 1 s.chainLen))

/-- The port toward an address, none without a route. -/
def State.route (s : State) (dst : Nat) : Option Nat :=
  match s.posOf dst with
  | none => none
  | some d =>
    let me := s.get fCHAIN_ADDR_POS
    let n := max 1 s.chainLen
    if ¬ s.ring then (if d = me then none else some (b2n (decide (me < d))))
    else
      let east := (d + n - me % n) % n
      let west := n - east
      let okE := !s.crosses me east
      let okW := !s.crosses d west
      if okE && okW then some (b2n (decide (east ≤ west)))
      else if okE then some 1 else if okW then some 0 else none

/-- A unicast frame leaves by its route; a frame routed to a port that is UP but has no accepted HELLO takes the other port of an unbroken
RING (R415, R445). `src` as in sendVia. -/
def State.routeVia (s : State) (f : ChFrame) (src : Option Nat) : State :=
  match s.route f.dst with
  | none => s.routeDrop.freeBuf src f
  | some p =>
    let alt := s.ring && s.chain.broken.isEmpty && !(s.port p).heard && (s.port (1 - p)).heard
    s.sendVia (if alt then 1 - p else p) f src

/-- A unicast frame that originates here leaves by its route. -/
def State.sendRoute (s : State) (f : ChFrame) : State := s.routeVia f none

/-- A frame in the buffer of port `src` is forwarded out port `p` with one more hop; HOPS 511 is dropped (R418). -/
def State.forwardVia (s : State) (p : Nat) (f : ChFrame) (src : Nat) : State :=
  if 511 ≤ f.hops then s.routeDrop.freeBuf (some src) f
  else if s.portUp p then s.sendVia p { f with hops := f.hops + 1 } (some src)
  else s.freeBuf (some src) f

/-- A frame received at the other port is forwarded out port `p` (R418). -/
def State.forward (s : State) (p : Nat) (f : ChFrame) : State := s.forwardVia p f (1 - p)

/-! ### Copies (R419) -/

/-- The key of a frame's originator: SRC, or the signature of an unplaced device's FAULT frame. -/
def frKey (f : ChFrame) : Nat := if f.src = 1022 then 1024 + (f.words.getD 4 0).toNat else f.src

/-- Has a copy of this frame been seen? -/
def State.seenFrame (s : State) (f : ChFrame) : Bool := (getKey [] s.chain.seen (frKey f)).contains f.seq

/-- Do two SEQ values lie within 1 024 of each other, modulo 4 096? -/
def seqNear (a b : Nat) : Bool := decide ((a + 4096 - b) % 4096 < 1024 ∨ (b + 4096 - a) % 4096 < 1024)

/-- The frame is remembered, with those of its originator whose SEQ lies within the last 1 024 values (R419). -/
def State.noteFrame (s : State) (f : ChFrame) : State :=
  { s with chain := { s.chain with seen := putKey [] s.chain.seen (frKey f) (f.seq :: (getKey [] s.chain.seen (frKey f)).filter (seqNear f.seq)) } }

/-! ### Originating (R416, R418, R423, R438) -/

/-- A frame originated here, with the next SEQ. -/
def State.newFrame (s : State) (typ dst arg : Nat) (ws : List Word) : ChFrame × State :=
  (⟨typ, dst, s.addr, 0, s.chain.seq % 4096, arg, ws⟩, { s with chain := { s.chain with seq := (s.chain.seq + 1) % 4096 } })

/-- A frame out every port that is UP. -/
def State.sendBoth (s : State) (f : ChFrame) : State := s.forN 2 (fun s p => if s.portUp p then s.sendPort p f else s)

/-- A broadcast originated here leaves every port that is UP; its own copies are known. -/
def State.broadcast (s : State) (f : ChFrame) : State := (s.noteFrame f).sendBoth f

/-- The due-time command a TRIG payload makes (R439). -/
def trigCmd (ws : List Word) : DueCmd :=
  let w := ws.getD 2 0
  let due := tsOf (ws.getD 0 0) (ws.getD 1 0)
  if getBits w 26 4 = 4 then ⟨.group (Fin.ofNat 256 (getBits w 18 8)), 3, due, 4⟩
  else ⟨.line (Fin.ofNat 64 (getBits w 30 6)), getBits w 26 4, due, 4⟩

/-- A TRIG originated here: to every device itself included, to one device by both ports of a RING, or to this device (R438, R439). -/
def State.sendTrig (s : State) (dst due dline action group : Nat) : State :=
  if ¬ s.chained ∨ ¬ s.placed then s
  else
    let r := s.newFrame 3 dst 0 [tsLo due, tsHi due, BitVec.ofNat 36 (dline * 2 ^ 30 + action * 2 ^ 26 + group * 2 ^ 18)]
    let f := r.1
    let s := r.2
    if dst = 1023 then (s.broadcast f).sendDue (trigCmd f.words)
    else if dst = s.addr then s.sendDue (trigCmd f.words)
    else if s.ring then (s.noteFrame f).sendBoth f
    else s.sendRoute f

/-- Each enabled emitter that watches a line sends TRIG at its firing with instant `t` (R438). -/
def State.chainEmit (s : State) (l t : Nat) : State :=
  s.forN 8 (fun s e =>
    if s.is fCHAIN_EMIT_EN e ∧ s.get fCHAIN_EMIT_LINE e = l then
      s.sendTrig (s.get fCHAIN_EMIT_DST e) (tAdd t (wcs (s.get fCHAIN_LEAD_LEAD))) (s.get fCHAIN_EMIT_DLINE e) (s.get fCHAIN_EMIT_ACTION e)
        (s.get fCHAIN_EMIT_GROUP e)
    else s)

/-! ### Receiving (R409, R414, R417 to R419, R422, R423) -/

/-- Does LEN keep the rule of the frame's type (R417)? -/
def frLenOk (f : ChFrame) : Bool :=
  let n := f.words.length
  match f.typ with
  | 1 => n == 6
  | 2 => if f.arg = 0 then n == 2 else decide (f.arg < 4) && n == 1
  | 3 => n == 3
  | 4 => n == 5
  | 5 => if f.arg = 0 then n == 2 else if f.arg = 1 then n % 2 == 0 && decide (2 ≤ n ∧ n ≤ 8192) else f.arg == 2 && n % 2 == 1 && decide (n ≤ 8192)
  | 6 => if bitOf (f.words.getD 0 0) 11 then decide (3 ≤ n ∧ n ≤ 8192) else decide (2 ≤ n ∧ n ≤ 8191)
  | 7 => n == 1
  | 8 => decide (1 ≤ n ∧ n ≤ 8192)
  | 9 => decide (1 ≤ n ∧ n ≤ 8192)
  | _ => false

/-- Does a TRIG to one device travel both ways round a RING (R438)? -/
def State.bothWays (s : State) (f : ChFrame) : Bool := f.typ == 3 && f.dst != 1023 && s.ring

/-- A frame for another device travels on from port `p`: both ways round a RING, or by its route (R418, R438). -/
def State.passOn (s : State) (p : Nat) (f : ChFrame) : State :=
  if s.bothWays f then s.forwardVia (1 - p) f p
  else if 511 ≤ f.hops then s.routeDrop.freeBuf (some p) f
  else s.routeVia { f with hops := f.hops + 1 } (some p)

/-- A frame received whole at port `p`: `deliver` acts on a copy for this device; broadcasts, TRIG copies and others are forwarded
(R418, R419, R423). -/
def State.receive (s : State) (p : Nat) (f : ChFrame) (deliver : State → State) : State :=
  if f.dst = 1023 then
    if s.seenFrame f then (s.bump fCHAIN_COUNT_DUP_DROP).freeBuf (some p) f
    else deliver ((s.noteFrame f).forwardVia (1 - p) f p)
  else if s.placed ∧ f.dst = s.addr then
    if s.bothWays f then (if s.seenFrame f then s.bump fCHAIN_COUNT_DUP_DROP else deliver (s.noteFrame f)) else (deliver s).freeBuf (some p) f
  else s.passOn p f

/-- A frame with a CRC-32C error is discarded and counted; a priority frame has been forwarded by then (R422). Log: 53 DEDUCED. -/
def State.badCrc (s : State) (p : Nat) (f : ChFrame) : State :=
  let s := s.bump fCHAIN_LINK_STATUS_CRC_ERRS p
  if ¬ frPriority f ∨ f.typ = 1 then s.freeBuf (some p) f
  else if f.dst = 1023 then (if s.seenFrame f then s else s.forwardVia (1 - p) f p)
  else if s.placed ∧ f.dst = s.addr then s
  else s.passOn p f

/-- The reception of a frame of type `typ`, and where `arg` is given of that ARG, at port `p`, with the CRC-32C that its TERMINATE block
carries (R409, R412, R414, R418, R422). -/
def State.chainRecv (s : State) (p : Nat) (f : ChFrame) (crc : Nat) (typ : Nat) (arg : Option Nat) (deliver : State → State) : Out :=
  let other : Bool := match arg with | some a => f.arg != a | none => false
  if ¬ s.chained ∨ ¬ s.portUp p ∨ f.typ ≠ typ ∨ other then noEvent s
  else if ¬ (s.port p).heard then .next s
  else if ¬ frCrcOk f crc then .next (s.badCrc p f)
  else if ¬ frLenOk f then .next ((s.bump fCHAIN_COUNT_FRAME_ERRS).freeBuf (some p) f)
  else if typ = 1 then .next (deliver s)
  else .next (s.receive p f deliver)

end Sys2Proof.Machine
end

