-- ==== Sys2Proof/Machine/SeqOps.lean ====
section
/-! DEFINITION. The shared operations of the pattern sequencers: slots, table entries, requests, stream residency, the apply point,
line firings and the end of a run (chapter 06). -/

namespace Sys2Proof.Machine

/-- Sequencer `q`. -/
def State.seq (s : State) (q : Nat) : SeqSt := nth s.seqs q

/-- The state with sequencer `q` replaced. -/
def State.setSeq (s : State) (q : Nat) (x : SeqSt) : State := { s with seqs := s.seqs.set q x }

/-- STATE of a sequencer (R209). -/
def State.seqState (s : State) (q : Nat) : Nat := s.get fSEQ_STATUS_STATE q

/-- The state with STATE of a sequencer replaced. -/
def State.setSeqState (s : State) (q st : Nat) : State := s.put fSEQ_STATUS_STATE st q

/-- ITEM_PER as held, in wc/1024. -/
def State.rawPer (s : State) (q : Nat) : Nat := (s.word (aSEQ_ITEM_PER + q)).toNat

/-- The working ITEM_PER is held between 4 wc and 65 535 + 1 023/1 024 wc (R186). -/
def holdPer (p : Nat) : Nat := max 4096 (min p 67108863)

/-- CLAMP is set where a pass takes another ITEM_PER than the held one (R186). -/
def State.perClamp (s : State) (q p : Nat) : State := if holdPer p = p then s else s.flag fSEQ_STATUS_CLAMP q

/-- The instant of slot `k` of the present grid (R185). -/
def SeqSt.slotT (x : SeqSt) (k : Nat) : Nat := tAdd x.base (k * x.per)

/-- The issue cycle of a slot instant: the SHUTTLE cycle that contains t - 128 wc (R187). Log: 23 DEDUCED. -/
def issueAt (t : Nat) : Nat := let i := tSub t (wcs 128); i - i % 4096

/-- Item error: ITEM_ERR, its code and its count (R198). -/
def State.itemErr (s : State) (q code : Nat) : State :=
  ((s.flag fSEQ_STATUS_ITEM_ERR q).put fSEQ_STATUS_ERR_CODE code q).bump fSEQ_COUNT_ITEM_ERRS q

/-- Segment error (R196, R197). -/
def State.segErr (s : State) (q code : Nat) : State := (s.flag fSEQ_STATUS_SEG_ERR q).put fSEQ_STATUS_ERR_CODE code q

/-! ### Segment and sequence tables (R194, R195) -/

/-- Word `w` of sequence entry `e`, as a read at instant `t` has it (R217). -/
def State.entryWord (s : State) (e w t : Nat) : Word := s.wordFor (aSEQUENCE_TABLE + 2 * e + w) t

/-- The words of sequence entry `e`, as a read at instant `t` has them. -/
def State.entryWords (s : State) (e t : Nat) : Word × Word := (s.entryWord e 0 t, s.entryWord e 1 t)

/-- Segment of a sequence entry. -/
def entrySeg (ent : Word × Word) : Nat := getBits ent.1 24 12

/-- Length L of a segment in items. -/
def segLen (w1 : Word) : Nat := 64 * (getBits w1 16 20 + 1)

/-- Is a segment streamed? -/
def segStream (w0 : Word) : Bool := bitOf w0 21

/-- Iteration length of a streamed segment in items. -/
def segIter (w0 : Word) : Nat := 64 * (getBits w0 11 8 + 1)

/-- UPOL of a streamed segment. -/
def segUpol (w0 : Word) : Nat := getBits w0 19 2

/-- First item address of a resident segment. -/
def segStart (w0 : Word) : Nat := 64 * getBits w0 22 14

/-- SEQ_CFG as it governs the sequencer (R496). -/
def State.seqCfg (s : State) (q : Nat) : Word := ((s.seq q).gov).getD (s.word (aSEQ_CFG + q))

/-- The check of R195 and R196: 0, or the error code (log entry 20 gives the order). Log: 20 DESIGN CHOICE. -/
def State.segCheck (s : State) (q : Nat) (w0 w1 : Word) : Nat :=
  let n := getBits w1 16 20
  if segStream w0 then
    if fSEQ_CFG_STREAM_SRC.get (s.word (aSEQ_CFG + q)) = 0 then 8
    else if segUpol w0 = 3 then 12
    else if n < 3 ∨ segIter w0 < 256 ∨ segLen w1 % segIter w0 ≠ 0 then 11
    else 0
  else if n < 3 ∨ 65535 < n then 11 else 0

/-! ### Requests (R203 to R205) -/

/-- JUMP_PEND shows a request held, or one fixed and not yet in effect (R204). -/
def State.jumpPend (s : State) (q : Nat) : State :=
  let x := s.seq q
  let fixed := match x.next with | .play _ _ _ _ _ r => r | .stopped => true | _ => false
  s.put fSEQ_STATUS_JUMP_PEND (b2n (x.req.isSome || fixed || x.bnd.any (·.2))) q

/-- A held request is discarded and counted (R205). -/
def State.jumpLost (s : State) (q : Nat) : State := (s.flag fSEQ_STATUS_JUMP_LOST q).bump fSEQ_COUNT_JUMP_LOSTS q

/-- A request reaches a sequencer: it replaces a held one; after the pass's decision it is late (R203 to R205). -/
def State.seqRequest (s : State) (q : Nat) (r : SeqReq) : State :=
  let x := s.seq q
  let s := if x.req.isSome then s.jumpLost q else s
  let s := if x.next ≠ .open_ then s.flag fSEQ_STATUS_JUMP_LATE q else s
  (s.setSeq q { x with req := some r }).jumpPend q

/-! ### Applies (R215, R216) -/

/-- The shadows of a sequencer pass to the working copies. -/
def State.seqApply (s : State) (q : Nat) : State :=
  ((s.applyWords [aSEQ_ITEM_PER + q, aSEQ_MODE + q]).unflag fSEQ_STATUS_APPLY_WAIT q)

/-- Does this stored command apply sequencer `q`, as its own timed apply or as a member of a group? -/
def seqApplies (q : Nat) (c : Stored) : Bool :=
  match c.cmd.target with
  | .seqApply n => n.val == q
  | .group _ => (fAPPLY_GROUP_SEQ_MASK.get c.grp).testBit q
  | _ => false

/-- Is a timed apply due at or before `t` still in the store? -/
def State.seqStored (s : State) (q t : Nat) : Bool := s.store.any (fun c => seqApplies q c && tLe c.cmd.due t)

/-- A timed apply, own or of a group, waits for a boundary at or after its due time. -/
def State.seqDue (s : State) (q t : Nat) : Bool :=
  (s.seq q).timed.any (fun d => tLe d t) || (s.seq q).group.any (fun d => tLe d t)

/-- The ITEM_PER that a pass takes whose first slot lies at `t`, as its first issue finds it (R185, R186, R215, R216). Log: 23 DEDUCED. -/
def State.perFor (s : State) (q t : Nat) : Nat :=
  let a := aSEQ_ITEM_PER + q
  match s.shadow.find a with
  | some w =>
    if s.is fSEQ_STATUS_APPLY_WAIT q ∨ s.seqDue q t ∨ s.seqStored q t then
      (mergeFields (fieldsAt a) (fun f => f.cls == .d) (s.word a) w).toNat
    else s.rawPer q
  | none => s.rawPer q

/-- A timed apply has been done (R216). -/
def State.seqTapplyDone (s : State) (q : Nat) : State :=
  (s.flag fSEQ_CMD_TAPPLY_DONE q).unflag fSEQ_CMD_TAPPLY_PEND q

/-- At a segment boundary with instant `t` a waiting APPLY and the timed applies due at or before `t` take place, once (R215, R216). Log: 23 DEDUCED. -/
def State.seqBoundaryApply (s : State) (q t : Nat) : State :=
  let x := s.seq q
  let own := x.timed.any (fun d => tLe d t)
  let s' := s.setSeq q { x with timed := if own then none else x.timed, group := x.group.filter (fun d => !tLe d t) }
  let s' := if s.seqDue q t ∨ s.is fSEQ_STATUS_APPLY_WAIT q then s'.seqApply q else s'
  if own ∧ s'.is fSEQ_CMD_TAPPLY_PEND q then s'.seqTapplyDone q else s'

/-- A waiting timed apply is withdrawn before its commit: from its channel or from the store (R117). -/
def State.cancelDue (s : State) (p : DueCmd → Bool) : Option State :=
  if s.hsf.any p then some { s with hsf := s.hsf.eraseP p, stalled := s.stalled.eraseP p, sentAt := s.sentAt.eraseP (fun e => p e.1) }
  else if s.store.any (fun c => p c.cmd && !c.committed) then
    some { s with store := s.store.eraseP (fun c => p c.cmd && !c.committed) }
  else none

/-! ### The stream window (R210 to R214) -/

/-- The first stream item that refill must keep: the iteration being played or the last complete one of the pass (R211). -/
def SeqSt.keepFrom (x : SeqSt) : Nat :=
  let cur := if segStream x.w0 then max x.passFrom (x.pos - x.idx % segIter x.w0) else x.pos
  match x.lastIter with
  | some i => min i cur
  | none => min cur x.pos

/-- Are the stream items from `a` to below `b` all in the window? -/
def SeqSt.resident (x : SeqSt) (b : Nat) : Bool := decide (b ≤ 64 * x.wr)

/-- The window word of stream item `i` of sequencer `q`. -/
def winAddr (q i : Nat) : Nat := aSTREAM_WINDOW + 65536 * q + i % 65536

/-- Resident granules not yet played (SEQ_STREAM); one that is being idled is discarded and does not count (R212). Log: 27 DEDUCED. -/
def SeqSt.residentGranules (x : SeqSt) : Nat := x.wr - x.pos / 64 - b2n (x.missing && x.pos % 64 != 0)

/-- RESIDENT is formed at a read. Log: 89 DEDUCED. -/
def State.seqLive (s : State) (a : Nat) (w : Word) : Word :=
  if a = aSEQ_STREAM ∨ a = aSEQ_STREAM + 1 then
    fSEQ_STREAM_RESIDENT.set w (s.seq (a - aSEQ_STREAM)).residentGranules
  else w

/-- A read of SEQ_POS snapshots SEQ_INDEX and SEQ_PASS of the last slot issued. Log: 27 DEDUCED. -/
def State.seqPosRead (s : State) (q : Nat) : State :=
  (s.setWord (aSEQ_INDEX + q) (BitVec.ofNat 36 ((s.seq q).lastIdx % 2 ^ 26))).put fSEQ_PASS_PASS (s.seq q).lastPass q

/-- The stream of a new run begins at the next granule (log entry 21). Log: 21 DEDUCED. -/
def SeqSt.freshStream (x : SeqSt) : SeqSt :=
  let p := (x.pos + 63) / 64 * 64
  { x with pos := p, passFrom := p, missing := false, again := none, lastIter := none, holed := false }

/-! ### The end of a run (R192, R205, R209, R219) -/

/-- A pattern edge reaches a channel (R106, R191): a leading edge opens a pulse, a trailing edge closes the one open; a pair
closer than the minimum width is suppressed whole. -/
def State.patternEdge (s : State) (o t : Nat) (lead : Bool) : State :=
  let x := s.out o
  let d := if 255 < s.get fWARP_CH_DELAY_COARSE o then 262143 else (s.word (aWARP_CH_DELAY + o)).toNat
  let e := tAdd t d
  let s := if 255 < s.get fWARP_CH_DELAY_COARSE o then s.flag fWARP_CH_STATUS_CLAMP o else s
  if lead then s.setOut o { x with pat := x.pat ++ [(e, none)] }
  else match x.pat.getLast? with
    | some (l, none) =>
      if tLt e (tAdd l (s.oMinWidth o)) then (s.setOut o { x with pat := x.pat.dropLast }).oOverlap o
      else s.setOut o { x with pat := x.pat.dropLast ++ [(l, some e)] }
    | some (_, some _) => s
    | none => match x.act with
      | some p => if p.trail.isNone then s.setOut o { x with act := some { p with trail := some e } } else s
      | none => s

/-- Does channel `o` take the edges of sequencer `q` (R191)? -/
def State.takesEdges (s : State) (q o : Nat) : Bool := s.oMode o == 2 && s.get fWARP_CH_CTRL_SEQ_SEL o == q

/-- Trailing edges for every channel whose pattern level is active (R192). -/
def State.closeLevels (s : State) (q t : Nat) : State :=
  let lv := (s.seq q).level
  let s := (bitList lv 64).foldl (fun s o => if s.takesEdges q o then s.patternEdge o t false else s) s
  s.setSeq q { s.seq q with level := 0 }

/-- The channels of a sequencer leave STREAM once their last pulse has ended (R111). -/
def State.streamsEnd (s : State) (q : Nat) : State :=
  s.forN 64 (fun s o => if s.takesEdges q o ∧ s.oState o = 4 then (s.oRefresh o).applyIfWaiting o else s)

/-- No further slot is issued: the run will end at `t`, the first slot after the last played item, with STATE `st` (R192, R209). -/
def State.seqEnding (s : State) (q st t : Nat) : State :=
  let s := s.closeLevels q t
  s.setSeq q { s.seq q with live := false, ending := some (t, st) }

/-- The run ends with STATE `st`; `t` is the first slot after the last played item, none where R219 closes nothing. -/
def State.seqEnd (s : State) (q st : Nat) (t : Option Nat) : State :=
  let s := match t with | some t => s.closeLevels q t | none => s
  let x := s.seq q
  let fixed := match x.next with | .play _ _ _ _ _ r => r | _ => false
  let s := if x.req.isSome then s.jumpLost q else s
  let s := if fixed then s.jumpLost q else s
  let s := s.setSeq q { (s.seq q).freshStream with
    req := none, next := .open_, wait := none, armFrom := none, start := none, live := false, bnd := none, ending := none }
  (((s.setSeqState q st).jumpPend q).seqBoundaryApply q s.nowT).streamsEnd q

/-- Marker bits of issued slots still on their way. -/
def State.marksAhead (s : State) : Nat := ((s.seqs.flatMap (·.marks)).map (fun e => (bitList e.2.1 4).length)).sum

/-- At WARP's switch to the safe clock the markers of issued slots still ahead are discarded, each as a command (R55, R219). Log: 23 DEDUCED. -/
def State.marksDrop (s : State) : State :=
  let n := s.marksAhead
  let s := { s with seqs := s.seqs.map (fun x => { x with marks := [] }) }
  if n = 0 then s else (s.flag fLEAD_STATUS_LOCK_DROP).bump fLEAD_STATUS_LOCK_DROP_COUNT 0 n

/-- At WARP's switch to the safe clock a running sequencer halts (R219). -/
def State.seqHalt (s : State) (q : Nat) : State :=
  if s.seqRunning q then
    let s := s.seqEnd q 4 none
    (s.setSeq q { s.seq q with level := 0 }).flag fSEQ_STATUS_HALT_LOCK q
  else s

/-! ### Firings of a line (R132, R200, R203, R206) -/

/-- The first slot of the grid after `k` whose instant is at or after `t`. -/
def SeqSt.slotAfter (x : SeqSt) (k t : Nat) : Nat :=
  let j := if x.per = 0 then k + 1 else if tLe t x.base then 0 else (tSub t x.base + x.per - 1) / x.per
  max (k + 1) j

/-- A wait learns its release slot (R200). -/
def SeqWait.release (w : SeqWait) (k : Nat) : SeqWait :=
  match w.rel with
  | some _ => w
  | none => { w with rel := some k }

/-- A firing of line `l` with instant `t` fixes t_start of a sequencer armed in LINE mode (R206, R221). -/
def State.lineStart (s : State) (l t q : Nat) : State :=
  let x := s.seq q
  match x.armFrom, x.start with
  | some a, none =>
    if s.get fSEQ_MODE_START_LINE q = l ∧ tLe a t then
      let ofs := (s.word (aSEQ_START_OFS + q)).toNat
      let s := if ofs < wcs 1024 then s.flag fSEQ_STATUS_CLAMP q else s
      s.setSeq q { x with start := some (tAdd t (max ofs (wcs 1024))), base := tAdd t (max ofs (wcs 1024)), live := true }
    else s
  | _, _ => s

/-- A firing of line `l` with instant `t` reaches sequencer `q` (R132, R200, R203, R206). A line's jump is asked of a running sequencer. Log: 102 DESIGN CHOICE. -/
def State.lineToSeq (s : State) (l t q : Nat) : State :=
  let x := s.seq q
  let s := s.lineStart l t q
  let s : State := match x.wait with
    | some w =>
      if w.mode = 1 ∧ w.line = l ∧ tLe (x.slotT w.k) t ∧ w.rel.isNone then
        s.setSeq q { s.seq q with wait := some (w.release (x.slotAfter w.k (tAdd t (wcs 160)))) }
      else s
    | none => s
  if s.seqRunning q ∧ s.is fSEQ_MODE_JLINE_EN q ∧ s.get fSEQ_MODE_JUMP_LINE q = l then
    s.seqRequest q ⟨false, s.get fSEQ_MODE_JUMP_TARGET q, some t⟩
  else s

end Sys2Proof.Machine
end

