-- ==== Sys2Proof/Machine/Heddle.lean ====
section
/-! DEFINITION. Heddle: conditioning, coincidence, arming, firing and delivery, rate generators and line commands (chapter 04), and
the crossing of a trigger input in Heddle and Reed. -/

namespace Sys2Proof.Machine

/-- Line `l`. -/
def State.line (s : State) (l : Nat) : HedLine := nth s.lines l

/-- The state with line `l` replaced. -/
def State.setLine (s : State) (l : Nat) (x : HedLine) : State := { s with lines := s.lines.set l x }

/-- PATH: express for one selected source, a trigger input, COMB_K 1 and ALWAYS (R152). -/
def State.express (s : State) (l : Nat) : Bool :=
  let src := s.word (aHEDDLE_LINE_SRC + l)
  popCount (fHEDDLE_LINE_SRC_TI_MASK.get src) 16 == 1 && getBits src 4 16 == 0 &&
    decide (s.get fHEDDLE_LINE_CFG_COMB_K l ≤ 1) && s.get fHEDDLE_LINE_CFG_ARM_MODE l == 0

/-- L_line in wc/1024 for instants about `t` (R153). -/
def State.lineLatency (s : State) (l t : Nat) : Nat :=
  let g := ((bitList (s.get fHEDDLE_LINE_SRC_TI_MASK l) 16).map
    (fun i => fHEDDLE_IN_CFG_DEGLITCH.get (s.wordFor (aHEDDLE_IN_CFG + i) t))).foldl max 0
  wcs ((if s.express l then 5 else 8) + g) + s.psNear 620

/-- EN of a line for instant `t`. -/
def State.lineEn (s : State) (l t : Nat) : Bool := fHEDDLE_LINE_CFG_EN.get (s.wordFor (aHEDDLE_LINE_CFG + l) t) == 1

/-- The conditioned level of an input at instant `t`, once it has one (R147, R156). Log: 108 DESIGN CHOICE. -/
def State.levelAt (s : State) (i t : Nat) : Option Bool := ((nth s.hin i).hist.find? (fun e => tLe e.1 t)).map (·.2)

/-- Is line `l` armed at instant `t` (R147)? -/
def State.armedAt (s : State) (l t : Nat) : Bool :=
  let md := s.get fHEDDLE_LINE_CFG_ARM_MODE l
  let x := s.line l
  if md = 0 then true
  else if md = 1 then
    let i := s.get fHEDDLE_LINE_CFG_ARM_IN l
    let low := fHEDDLE_IN_CFG_EDGE.get (s.wordFor (aHEDDLE_IN_CFG + i) t) == 1
    s.levelAt i (tSub t (s.lineLatency l t)) == some (!low)
  else
    match x.armFrom with
    | none => false
    | some a => tLe a t && (match x.armEnd with | some e => tLt t e | none => true)

/-- An arm event of a line at instant `t` (R144, R147). -/
def State.armLine (s : State) (l t : Nat) : State :=
  let md := s.get fHEDDLE_LINE_CFG_ARM_MODE l
  let x := s.line l
  if md = 2 then s.setLine l { x with armFrom := some t, armEnd := none }
  else if md = 3 then
    s.setLine l { x with armFrom := some t, armEnd := some (tAdd t (wcs (s.get fHEDDLE_LINE_ARM_LEN_LEN l))) }
  else s

/-- A disarm event of a line at instant `t`. -/
def State.disarmLine (s : State) (l t : Nat) : State :=
  let md := s.get fHEDDLE_LINE_CFG_ARM_MODE l
  let x := s.line l
  if (md = 2 ∨ md = 3) ∧ x.armFrom.isSome then
    s.setLine l { x with armEnd := tMin? x.armEnd (some t), armFrom := if tLe t s.nowT then none else x.armFrom }
  else s

/-- ARMED and PATH are formed at a read. Log: 89 DEDUCED. -/
def State.heddleLive (s : State) (a : Nat) (w : Word) : Word :=
  if aHEDDLE_LINE_STATUS ≤ a ∧ a < aHEDDLE_LINE_STATUS + 64 then
    fHEDDLE_LINE_STATUS_ARMED.set w (b2n (s.armedAt (a - aHEDDLE_LINE_STATUS) s.nowT))
  else if aHEDDLE_LINE_CFG ≤ a ∧ a < aHEDDLE_LINE_CFG + 64 then
    fHEDDLE_LINE_CFG_PATH.set w (b2n (!s.express (a - aHEDDLE_LINE_CFG)))
  else w

/-- Word 2 of a firing record (R158). -/
def firingWord (l src comb : Nat) : Word := BitVec.ofNat 36 (l * 2 ^ 30 + src * 2 ^ 24 + comb * 2 ^ 23)

/-- A line fires with instant `t` and source code `src`, and the firing reaches every consumer; it may end a waiting timebase load (R39, R132, R146, R147, R155, R158). Log: 10 DESIGN CHOICE. -/
def State.fireLine (s : State) (l t src : Nat) : State :=
  let x := s.line l
  let y := if s.get fHEDDLE_LINE_CFG_ARM_MODE l = 2 then { x with armFrom := none, armEnd := none } else x
  let s := s.setLine l { y with held := [], last := some (t, src), firedAt := some t }
  let s := (s.flag fHEDDLE_LINE_STATUS_FIRED l).bump fHEDDLE_LINE_STATUS_FIRE_COUNT l
  let s := if s.safe then s.flag fHEDDLE_LINE_STATUS_LOCK_FIRE l else s
  let s := if s.is fHEDDLE_LINE_CFG_LOG_EN l then
      s.packet? s.binds.heddle [tsLo t, tsHi t, firingWord l src (b2n (decide (1 < s.get fHEDDLE_LINE_CFG_COMB_K l)))]
    else s
  let s := s.forN 64 (fun s m => if s.get fHEDDLE_LINE_CFG_ARM_LINE m = l then s.armLine m t else s)
  let s := s.lineToOuts l t
  let s := s.lineToGates l t
  (((s.lineToSeq l t 0).lineToSeq l t 1).chainEmit l t).checkLoad

/-- Is an event absorbed: less than 4 wc after the line's previous firing (R149)? Log: 29 DEDUCED. -/
def HedLine.absorbs (x : HedLine) (t : Nat) : Bool :=
  match x.firedAt with | some l => decide (0 ≤ tDiff t l ∧ tDiff t l < 4096) | none => false

/-- Number of distinct sources among held events. -/
def distinctSources (es : List (Nat × Nat)) : Nat := (es.map (·.1)).dedup.length

/-- A source event of line `l` at instant `t` (R145, R146, R149). Log: 29 DEDUCED. -/
def State.sourceEvent (s : State) (l src t : Nat) : State :=
  if ¬ s.lineEn l t then s
  else if ¬ s.armedAt l t then s.flag fHEDDLE_LINE_STATUS_DISARMED_EV l
  else
    let x := s.line l
    if x.absorbs t then s.flag fHEDDLE_LINE_STATUS_MERGED l
    else
      let win := min 192 (s.get fHEDDLE_LINE_CFG_WINDOW l) * 16
      let held := x.held.filter (fun e => tLe (tSub t win) e.2 && tLe e.2 t) ++ [(src, t)]
      if max 1 (s.get fHEDDLE_LINE_CFG_COMB_K l) ≤ distinctSources held then
        s.fireLine l t (((held.filter (fun e => e.2 == t)).map (·.1)).foldl min src)
      else s.setLine l { x with held := held }

/-- A FIRE command's line fires, whatever its arming (R144, R149). -/
def State.fireCmd (s : State) (l t : Nat) : State :=
  if ¬ s.lineEn l t then s
  else if (s.line l).absorbs t then s.flag fHEDDLE_LINE_STATUS_MERGED l
  else s.fireLine l t 32

/-! ### Events in the order of their instants (R133, R149) -/

/-- Does event `a` come before `b`: by instant, then source code, then line? -/
def PinEvt.before (a b : PinEvt) : Bool :=
  tLt a.inst b.inst || (a.inst == b.inst && (decide (a.src < b.src) || (a.src == b.src && decide (a.line ≤ b.line))))

/-- An event in its place among those that lie ahead. -/
def insertPin (p : PinEvt) : List PinEvt → List PinEvt
  | [] => [p]
  | q :: t => if q.before p then q :: insertPin p t else p :: q :: t

/-- The next event: of those with the earliest instant the first whose line is armed, so that a firing that arms a line comes before an event
of that line with its instant (R147, R149). -/
def State.nextPin (s : State) : Option PinEvt :=
  match s.pins with
  | [] => none
  | p :: _ => some ((s.pins.find? (fun e => e.inst == p.inst && s.armedAt e.line e.inst)).getD p)

/-- The event `p` takes place in its wc. -/
def State.pinStep (s : State) (p : PinEvt) : State :=
  ({ s with pins := s.pins.erase p }.until_ p.inst).sourceEvent p.line p.src p.inst

/-- The events that lie ahead and whose instants meet `ok` take place, at most `n` of them. -/
def State.flowGo (ok : Nat → Bool) : Nat → State → State
  | 0, s => s
  | n + 1, s => match s.nextPin with
    | none => s
    | some p => if ok p.inst then State.flowGo ok n (s.pinStep p) else s

/-- Time passes to the wc of instant `t`; the events of Heddle's lines up to that instant take place on the way, in the order of their
instants (R149). Log: 4 DESIGN CHOICE. -/
def State.flowTo (s : State) (t : Nat) : State := (State.flowGo (fun i => tLe i t) s.pins.length s).until_ t

/-- Time passes to the wc of instant `t` and the events before that instant take place. Log: 4 DESIGN CHOICE. -/
def State.flowBefore (s : State) (t : Nat) : State := (State.flowGo (fun i => tLt i t) s.pins.length s).until_ t

/-- The events that lie ahead take place up to the instant `at_` gives, which they may change, at most `n` of them; all of them where it gives
none (R149). Log: 4 DESIGN CHOICE. -/
def State.settle (at_ : State → Option Nat) : Nat → State → State
  | 0, s => s
  | n + 1, s => match s.nextPin with
    | none => s
    | some p =>
      let first := match at_ s with | some l => tLe p.inst l | none => true
      if first then State.settle at_ n (s.pinStep p) else s

/-- A source event is known for every line that selects bit `bit` of HEDDLE_LINE_SRC; trigger inputs add each line's latency, and take place
when time reaches the instants (R133, R149). -/
def State.sourceToLines (s : State) (bit src t : Nat) (pin : Bool) : State :=
  let ls := (List.range 64).filter (fun l => bitOf (s.word (aHEDDLE_LINE_SRC + l)) bit)
  let at_ := fun (l : Nat) => if pin then tAdd t (s.lineLatency l t) else t
  let s := { s with pins := ls.foldl (fun ps l => insertPin ⟨at_ l, l, src⟩ ps) s.pins }
  s.flowTo (if pin then s.nowT else t)

/-- The marker bits of an item fire the marker sources of sequencer `q` at slot instant `t` (R189). -/
def State.markers (s : State) (q marks t : Nat) : State :=
  (bitList marks 4).foldl (fun s m => s.sourceToLines ((if q = 0 then 8 else 4) + m) (24 + 4 * q + m) t false) s

/-! ### Trigger inputs (R135 to R138) -/

/-- The prescale counter of an input for a crossing sampled in wc `c`: every prescale that has come into force since the last edge reduces
it; 0 acts as 1 (R135, R138). -/
def HedIn.count (x : HedIn) (c : Nat) : Nat :=
  (x.mods.filter (fun e => tLe (wcs e.1) (wcs c))).foldl (fun n e => n % max 1 e.2) x.cnt

/-- The opposite crossing of a discarded glitch has come (R135). -/
def State.glitchOver (s : State) (i : Nat) : State := { s with hin := s.hin.set i { nth s.hin i with dropNext := false } }

/-- A crossing at TI_i with stamp `t`, sampled in wc `c`, passes the conditioning steps; `hold` is how long the new level lasted, in
wc/1024. -/
def State.heddleCross (s : State) (i t c : Nat) (rising : Bool) (hold : Nat) : State :=
  let cfg := s.wordFor (aHEDDLE_IN_CFG + i) (wcs c)
  let x := nth s.hin i
  if fHEDDLE_IN_CFG_EN.get cfg = 0 then s.glitchOver i
  else if x.dropNext then { s with hin := s.hin.set i { x with dropNext := false } }
  else if hold < wcs (fHEDDLE_IN_CFG_DEGLITCH.get cfg) then
    ({ s with hin := s.hin.set i { x with dropNext := true } }.flag fHEDDLE_IN_STATUS_GLITCH i).bump fHEDDLE_IN_STATUS_GLITCHES i
  else
    let x := { x with hist := (t, rising) :: x.hist.take 31 }
    let s := { s with hin := s.hin.set i x }.put fHEDDLE_IN_STATUS_LEVEL (b2n rising) i
    if ¬ edgeKept (fHEDDLE_IN_CFG_EDGE.get cfg) rising then s
    else if (match x.lastKept with | some l => decide (tDiff t l < 4096) | none => false) then
      (s.flag fHEDDLE_IN_STATUS_TOO_CLOSE i).bump fHEDDLE_IN_STATUS_CLOSE_COUNT i
    else
      let p := fHEDDLE_IN_CFG_PRESCALE.get cfg
      let n := x.count c
      let ms := x.mods.filter (fun e => !tLe (wcs e.1) (wcs c))
      let s := { s with hin := s.hin.set i { x with lastKept := some t, mods := ms, cnt := (n + 1) % max 1 p } }
      if n % max 1 p = 0 then s.sourceToLines (20 + i) i t true else s

/-- The crossing in Reed and in Heddle, or what takes their place on the safe clock (R155,
R273) and during a code-density run (R270). -/
def State.tiCross (s : State) (i : Nat) (cap : TiCap) (rising : Bool) (hold : Nat) : State :=
  let t := s.stampOf i cap
  let s := s.flowTo (t.getD (wcs (capWc cap)))
  if s.is fREED_IN_STATUS_CD_ACTIVE i then (s.glitchOver i).bump fREED_CD_STATUS_CD_MISS
  else if s.safe then
    (((s.reedSafe i rising).glitchOver i).flag fHEDDLE_IN_STATUS_LOCK_MISS i).bump fHEDDLE_IN_STATUS_MISS_COUNT i
  else
    let s := s.reedCross i cap t rising
    match t with
    | some t => s.heddleCross i t (capWc cap) rising hold
    | none => s

/-! ### Rate generators (R139 to R141) -/

/-- The period a GO captures (R139). -/
def State.rgPeriod (s : State) (g : Nat) : Nat :=
  s.get fHEDDLE_RG_CTRL_PERIOD_EXT g * 2 ^ 36 + (s.word (aHEDDLE_RG_PERIOD + g)).toNat

/-- Does a generator run: ticks of its grid, or of one it replaces, are still to come (R141)? -/
def RgSt.runs (x : RgSt) : Bool := x.cur.isSome || !x.prev.isEmpty

/-- RG_GO: GO starts the grid at its first tick at least 16 wc ahead (R139 to R141). -/
def execRgGo (g : Fin 8) (s : State) : Out :=
  let g := g.val
  let raw := s.rgPeriod g
  let per := max 4096 raw
  let s := if raw < 4096 then s.flag fHEDDLE_RG_CTRL_RG_CLAMP g else s
  let start := tsOf (s.word (aHEDDLE_RG_START_LO + g)) (s.word (aHEDDLE_RG_START_HI + g))
  let lim := tAdd s.nowT (wcs 16)
  let c := s.get fHEDDLE_RG_CTRL_COUNT g
  let k := gridIndex start per lim
  let s := if 0 < k then s.flag fHEDDLE_RG_CTRL_SKIPPED g else s
  let new : RgGrid := ⟨start, per, c, k, 0, none⟩
  let x := nth s.rgs g
  let prev := (x.prev ++ x.cur.toList).map (fun r => { r with stopAt := tMin? r.stopAt (some lim) }) |>.filter RgGrid.alive
  let y : RgSt := ⟨if new.alive then some new else none, prev⟩
  .next ({ s with rgs := s.rgs.set g y }.put fHEDDLE_RG_CTRL_RUN (b2n y.runs) g)

/-- RG_STOP: STOP ends the grid for ticks at least 16 wc later (R141). -/
def execRgStop (g : Fin 8) (s : State) : Out :=
  let g := g.val
  let lim := tAdd s.nowT (wcs 16)
  let f := fun (r : RgGrid) => { r with stopAt := tMin? r.stopAt (some lim) }
  let x := nth s.rgs g
  let y : RgSt := ⟨(x.cur.map f).filter RgGrid.alive, (x.prev.map f).filter RgGrid.alive⟩
  .next ({ s with rgs := s.rgs.set g y }.put fHEDDLE_RG_CTRL_RUN (b2n y.runs) g)

/-- The grid of a generator after its next tick, and the instant of that tick. -/
def RgGrid.tick (r : RgGrid) : Nat × Option RgGrid :=
  let r' := { r with k := r.k + 1, emitted := r.emitted + 1 }
  (tAdd r.start (r.k * r.per), if r'.alive then some r' else none)

/-- The next tick of a generator: the replaced grid's ticks come first. -/
def RgSt.tick (x : RgSt) : Option (Nat × RgSt) :=
  match x.prev, x.cur with
  | p :: ps, c => let r := p.tick; some (r.1, ⟨c, r.2.toList ++ ps⟩)
  | [], some c => let r := c.tick; some (r.1, ⟨r.2, []⟩)
  | [], none => none

/-- The next tick of generator `g`. -/
def State.rgTick (s : State) (g : Nat) : Option State :=
  match (nth s.rgs g).tick with
  | none => none
  | some (t, y) =>
    let s := { s with rgs := s.rgs.set g y }
    let s := s.put fHEDDLE_RG_CTRL_RUN (b2n y.runs) g
    some (s.sourceToLines (12 + g) (16 + g) t false)

/-! ### Line commands and registers (R137, R142 to R144, R147) -/

/-- TI_CROSSING: a crossing at a trigger input is sampled, stamped and conditioned for Heddle and Reed (R135 to R138, R155, R251 to
R255, R270, R273). -/
def execTiCrossing (i : Fin 16) (cap : TiCap) (rising : Bool) (hold : Nat) (s : State) : Out := .next (s.tiCross i.val cap rising hold)

/-- RG_TICK: a rate generator's tick is due and acts as a Heddle source event (R140). -/
def execRgTick (g : Fin 8) (s : State) : Out :=
  match s.rgTick g.val with | some s => .next s | none => noEvent s

/-- HEDDLE_ARM_CMD_ARM: GO with OP 0 arms a line at the acceptance wc (R147). -/
def execHeddleArmCmdArm (l : Fin 64) (s : State) : Out := .next (s.armLine l.val s.nowT)

/-- HEDDLE_ARM_CMD_DISARM: GO with OP 1 disarms a line at the acceptance wc (R147). -/
def execHeddleArmCmdDisarm (l : Fin 64) (s : State) : Out := .next (s.disarmLine l.val s.nowT)

/-- ARM_WINDOW_EXPIRY: the LEN window of a WINDOW line ends (R147). -/
def execArmWindowExpiry (l : Fin 64) (s : State) : Out :=
  match (s.line l.val).armEnd with
  | none => noEvent s
  | some e =>
    let s := s.flowBefore e
    .next (if (s.line l.val).armEnd = some e then s.setLine l.val { s.line l.val with armFrom := none, armEnd := none } else s)

/-- HEDDLE_FIRE_CTRL_GO: a due-time line command of source 0x6 is sent (R142, R143). -/
def execHeddleFireCtrlGo (l : Fin 64) (action : Fin 16) (s : State) : Out :=
  .next (s.sendDue ⟨.line l, action.val, tsOf (s.word aHEDDLE_FIRE_LO) (s.word aHEDDLE_FIRE_HI), 6⟩)

/-- HEDDLE_IN_PS_SYNC: prescale counters of the selected inputs are set to zero (R137). -/
def execHeddleInPsSync (mask : Fin 65536) (s : State) : Out :=
  .next { s with hin := (List.range 16).map (fun i =>
    let x := nth s.hin i
    if mask.val.testBit i then { x with cnt := 0 } else x) }

/-- HEDDLE_LAST_READ: a read of HEDDLE_LAST_LO returns the selected line's latest firing and snapshots HEDDLE_LAST_HI (R132). -/
def execHeddleLastRead (s : State) : Out :=
  let t := match (s.line (s.get fHEDDLE_LAST_SEL_LINE)).last with | some (t, _) => t | none => 0
  .next ((s.setWord aHEDDLE_LAST_LO (tsLo t)).setWord aHEDDLE_LAST_HI (tsHi t))

/-- At the switch to the safe clock the events held for coincidence are dropped (R155). -/
def State.heddleSwitch (s : State) : State := { s with lines := s.lines.map (fun x => { x with held := [] }) }

/-- At the return to PLL_W the prescale counters are set to zero (R137). -/
def State.heddleReturn (s : State) : State := { s with hin := s.hin.map (fun x => { x with cnt := 0 }) }

end Sys2Proof.Machine
end

