-- ==== Sys2Proof/Machine/Light.lean ====
section
/-! DEFINITION. The light-budget limiter of each fibre and the interlock latch (R240 to R247). Levels are in wc/1024 × 2^-16. -/

namespace Sys2Proof.Machine

/-- Does fibre `f` designate channel `o` as its gate (R240)? -/
def State.isGate (s : State) (f o : Nat) : Bool := s.is fLIGHT_CFG_GATE_EN f && s.get fLIGHT_CFG_GATE_CH f == o

/-- The fibres whose gate is channel `o`. -/
def State.gateFibres (s : State) (o : Nat) : List Nat := (List.range 2).filter (fun f => s.isGate f o)

/-- The interlock latch (R246). -/
def State.ilLatch (s : State) : Bool := s.is fLIGHT_LOCK_IL_LATCH

/-- Minimum width of R98 in wc/1024, as a gate's edge channel has it. -/
def State.limMin (s : State) (f : Nat) : Nat := s.oMinWidth (s.get fLIGHT_CFG_GATE_CH f)

/-- DEPTH as a level, as it applies to instant `t` (R244). -/
def State.limDepth (s : State) (f t : Nat) : Int :=
  ((fLIGHT_DEPTH_DEPTH.get (s.wordFor (aLIGHT_DEPTH + f) t) * 1024 * 65536 : Nat) : Int)

/-- What one wc/1024 adds to B from instant `t` on: credit at CAP except on the safe clock, less the charge while the ball is active (R241, R244,
R248). -/
def State.limRate (s : State) (f t : Nat) : Int :=
  (if s.safe then 0 else (fLIGHT_CFG_CAP.get (s.wordFor (aLIGHT_CFG + f) t) : Nat)) - (if (nth s.lims f).act.isSome then 65536 else 0)

/-- Level B of fibre `f` at an instant `t` before which its fields do not change. -/
def State.levelFrom (s : State) (f : Nat) (b : Int) (from_ t : Nat) : Int :=
  min (s.limDepth f from_) (b + s.limRate f from_ * max 0 (tDiff t from_))

/-- Does a write of the limiter's fields come into force after it was last brought up, and by instant `t` (R244)? -/
def LimSt.turns (x : LimSt) (t : Nat) : Bool := tLt x.at_ x.since && tLe x.since t

/-- Level B of fibre `f` at instant `t` (R241, R244, R248). -/
def State.levelB (s : State) (f t : Nat) : Int :=
  let x := nth s.lims f
  if x.turns t then s.levelFrom f (min (s.limDepth f x.since) (s.levelFrom f x.b x.at_ x.since)) x.since t else s.levelFrom f x.b x.at_ t

/-- The limiter of `f` is brought up to instant `t`. -/
def State.limTo (s : State) (f t : Nat) : State :=
  let x := nth s.lims f
  { s with lims := s.lims.set f { x with b := s.levelB f t, at_ := if tLt x.at_ t then t else x.at_ } }

/-- May a leading edge at `t` reach the ball of channel `o` (R241, R246)? -/
def State.gateAdmits (s : State) (o t : Nat) : Bool :=
  (s.gateFibres o).all (fun f => decide (((s.limMin f * 65536 : Nat) : Int) ≤ s.levelB f t)) &&
    !(s.ilLatch && !(s.gateFibres o).isEmpty)

/-- The limiters of channel `o` judge a leading edge at `t` that the schedule would show: each that withholds it counts it, and if
it passes each begins to charge (R240, R241). -/
def State.gateLead (s : State) (o t : Nat) : State × Bool :=
  let ok := s.gateAdmits o t
  let s := (s.gateFibres o).foldl (fun s f =>
    let s := s.limTo f t
    let s := if s.levelB f t < ((s.limMin f * 65536 : Nat) : Int) ∧ ¬ s.ilLatch then s.bump fLIGHT_COUNT_SUPPRESSED f else s
    if ok then { s with lims := s.lims.set f { nth s.lims f with act := some t } } else s) s
  (s, ok)

/-- The active phase at the ball of channel `o` ends at `t`. -/
def State.gateTrail (s : State) (o t : Nat) : State :=
  (s.gateFibres o).foldl (fun s f =>
    let s := s.limTo f t
    { s with lims := s.lims.set f { nth s.lims f with act := none } }) s

/-- The instant at which a level B that stands at `b` at instant `t` reaches zero. -/
def State.dryAt (s : State) (f : Nat) (b : Int) (t : Nat) : Nat :=
  let r := -s.limRate f t
  if b ≤ 0 then t else tAdd t ((b + r - 1) / r).toNat

/-- The instant at which B ends the active phase of `f` (R241). -/
def State.limitCutAt (s : State) (f : Nat) : Option Nat :=
  let x := nth s.lims f
  x.act.map (fun l =>
    let dry := s.dryAt f x.b x.at_
    let dry := if x.turns dry then s.dryAt f (s.levelB f x.since) x.since else dry
    tMax dry (tAdd l (s.limMin f)))

/-- The instant at which MAX_ON ends the active phase of `f`, as it stood until a write came into force, or as it stands since (R242, R244). -/
def State.maxOnCutAt (s : State) (f : Nat) : Option Nat :=
  let x := nth s.lims f
  x.act.map (fun l =>
    let cut := fun (t : Nat) => tAdd l (max (wcs (fLIGHT_MAX_ON_MAX_ON.get (s.wordFor (aLIGHT_MAX_ON + f) t))) (s.limMin f))
    if x.turns (cut x.at_) then tMax (cut x.since) x.since else cut x.at_)

/-- The scheduled trailing edge of channel `o`'s active pulse lies at or before `t`. -/
def State.trailsBy (s : State) (o t : Nat) : Bool :=
  match (s.out o).act with
  | some p => (match p.trail with | some e => tLe e t | none => false)
  | none => false

/-- The ball of channel `o` returns to idle at `t` while its schedule runs on; the echo checker expects it (R241, R242, R247). Log: 36 DEDUCED. -/
def State.gateCut (s : State) (o t : Nat) : State :=
  let x := s.out o
  let act := x.act.map (fun p => { p with shown := false })
  (s.setOut o { x with act := act, lastTrail := some t, echo := x.echo ++ [(t, false)] }).gateTrail o t

/-- The instant at which the limiter of `f` ends its active phase, whichever cause comes first. -/
def State.endsAt (s : State) (f : Nat) : Option Nat := tMin? (s.limitCutAt f) (s.maxOnCutAt f)

/-- The causes for which the limiter of `f` ends a phase that ends at `t`: B at zero, MAX_ON, or both in one wc (R241, R242, R249). -/
def State.cutCauses (s : State) (f t : Nat) : Bool × Bool :=
  let in_ := fun (e : Option Nat) => match e with | some e => tFloor e == tFloor t | none => false
  (in_ (s.limitCutAt f), in_ (s.maxOnCutAt f))

/-- The limiter of `f` ends its phase: its flags and its count. -/
def State.cutFlags (s : State) (f : Nat) (c : Bool × Bool) : State :=
  let s := if c.1 then s.flag fLIGHT_STATUS_LIMITED f else s
  let s := if c.2 then s.flag fLIGHT_STATUS_MAXON_CUT f else s
  s.bump fLIGHT_COUNT_CUTS f

/-- The phase of channel `o` ends at `t`; every limiter that ends it at that instant sets its own flags and count (R240, R249). -/
def State.limitCut (s : State) (o t : Nat) : State :=
  let cs := ((s.gateFibres o).filter (fun f => s.endsAt f == some t)).map (fun f => (f, s.cutCauses f t))
  cs.foldl (fun s c => s.cutFlags c.1 c.2) ((s.flowTo t).gateCut o t)

/-- The limiter of `f` would end its phase at `a` for one cause, and at `b` for the other: the phase ends there if the schedule, the other cause
and the other limiter of the ball do not end it before (R240 to R242). -/
def State.cutBy (s : State) (f : Nat) (a b : Option Nat) : Out :=
  let o := s.get fLIGHT_CFG_GATE_CH f
  match a, b with
  | some a, some b =>
    let first := (s.gateFibres o).all (fun g => match s.endsAt g with | some e => tLe (tFloor a) e | none => true)
    let t := if tFloor a = tFloor b then (if tLt b a then b else a) else a
    if s.trailsBy o t ∨ ¬ first ∨ tLt b (tFloor a) then noEvent s else .next (s.limitCut o ((s.endsAt f).getD t))
  | _, _ => noEvent s

/-- LIMITER_CUT: B reaches zero and ends the gate's active phase (R241, R249). -/
def execLimiterCut (f : Fin 2) (s : State) : Out := s.cutBy f.val (s.limitCutAt f.val) (s.maxOnCutAt f.val)

/-- MAXON_CUT: an active phase reaches MAX_ON (R242, R249). -/
def execMaxonCut (f : Fin 2) (s : State) : Out := s.cutBy f.val (s.maxOnCutAt f.val) (s.limitCutAt f.val)

/-- A write of CAP, DEPTH or MAX_ON: B is brought up to the write, and the new value is in force from the next wc (R244). -/
def State.lightWrite (s : State) (f a : Nat) (w : Word) : State :=
  let s := (s.limTo f s.nowT).setWordFrom a w (s.now + 1)
  { s with lims := s.lims.set f { nth s.lims f with since := tAdd s.nowT 1024 } }

/-- The gate that LIGHT_CFG of `f` designates from now on: a phase already active at its ball is charged from now and counts from its leading edge
(R240 to R243). -/
def State.designate (s : State) (f : Nat) : State :=
  let act : Option Nat := if s.is fLIGHT_CFG_GATE_EN f then
      (match (s.out (s.get fLIGHT_CFG_GATE_CH f)).act with | some p => if p.shown then some p.lead else none | none => none)
    else none
  { s with lims := s.lims.set f { nth s.lims f with act := act } }

/-- Gate balls are driven to idle by the interlock, each not before its minimum width (R246). Log: 36 DEDUCED. -/
def State.interlockGates (s : State) : State :=
  s.forN 2 (fun s f =>
    if s.is fLIGHT_CFG_GATE_EN f then
      let o := s.get fLIGHT_CFG_GATE_CH f
      match (nth s.lims f).act with
      | some l => let m := tAdd l (s.limMin f); s.gateCut o (if tLt s.nowT m then m else s.nowT)
      | none => s
    else s)

/-- The latch clears: a scheduled pulse that it holds off at a gate ball is suppressed, and later ones pass (R113, R246). -/
def State.ilRelease (s : State) : State :=
  let held := fun (o : Nat) => !(s.gateFibres o).isEmpty && (match (s.out o).act with | some p => p.barred | none => false)
  let s' := if s.ilLatch then s.forN 64 (fun t o => if held o then t.oSuppress o else t) else s
  s'.unflag fLIGHT_LOCK_IL_LATCH

/-- CAP_LOCK: a 1 written locks the LIGHT fields (R245). -/
def execCapLock (s : State) : Out := .next { s.flag fLIGHT_LOCK_CAP_LOCK with aonLock := true }

/-- LEVEL and LIMITING are formed at a read. Log: 89 DEDUCED. -/
def State.lightLive (s : State) (a : Nat) (w : Word) : Word :=
  if aLIGHT_STATUS ≤ a ∧ a < aLIGHT_STATUS + 2 then
    let f := a - aLIGHT_STATUS
    let b := s.levelB f s.nowT
    fLIGHT_STATUS_LIMITING.set (fLIGHT_STATUS_LEVEL.set w (b.toNat / (1024 * 65536)))
      (b2n (decide (b < ((s.limMin f * 65536 : Nat) : Int))))
  else w

end Sys2Proof.Machine
end

