-- ==== Sys2Proof/Machine/CalOps.lean ====
section
/-! DEFINITION. Calibration operations that other blocks call: outcomes, aborts, and the roles of master-output generators (R176,
R179, R288, R296). -/

namespace Sys2Proof.Machine

/-- The role field of generator `g` (MOUT_GEN). -/
def roleFld (g : Nat) : Fld :=
  if g = 0 then fMOUT_GEN_ROLE_G0 else if g = 1 then fMOUT_GEN_ROLE_G1 else if g = 2 then fMOUT_GEN_ROLE_G2 else fMOUT_GEN_ROLE_G3

/-- Role of generator `g` of output `m`: 0 to 2 voting, 3 SPARE, 4 CAL, 5 SHADOW, 6 FAULTY, 7 UNCAL. -/
def State.role (s : State) (m g : Nat) : Nat := s.get (roleFld g) m

/-- Generators of output `m` that vote. -/
def State.voting (s : State) (m : Nat) : List Nat := (List.range 4).filter (fun g => decide (s.role m g < 3))

/-- The generator outside the vote. -/
def State.fourth (s : State) (m : Nat) : Nat := ((List.range 4).find? (fun g => decide (3 ≤ s.role m g))).getD 3

/-- REDUNDANCY follows the roles and the disagreements (R179, R181). Log: 30 DESIGN CHOICE. -/
def State.redundancy (s : State) (m : Nat) : State :=
  let v := nth s.voters m
  let bad := ((s.voting m).filter (fun g => v.dis.contains g || v.faulty.contains g)).length
  let f := s.role m (s.fourth m)
  let many := decide (2 ≤ ((List.range 4).filter (fun g => v.faulty.contains g)).length)
  s.put fMOUT_GEN_REDUNDANCY
    (if 2 ≤ bad ∨ (many ∧ bad ≠ 0) then 3 else if bad = 1 then 2 else if f = 6 ∨ f = 7 then 1 else 0) m

/-- The role of a generator changes. -/
def State.setRole (s : State) (m g r : Nat) : State := (s.put (roleFld g) r m).redundancy m

/-- The roles of the generators of output `m` at power-up, from their FAULTY marks (R181). -/
def State.startRoles (s : State) (m : Nat) (faulty : List Nat) : State :=
  let good := (List.range 4).filter (fun g => !faulty.contains g)
  let bad := (List.range 4).filter (fun g => faulty.contains g)
  let order := good ++ bad
  let s := s.setVoter m { nth s.voters m with faulty := bad }
  (order.zipIdx.foldl (fun s e => s.put (roleFld e.1) (if e.2 < 3 then e.2 else if bad.contains e.1 then 6 else 3) m) s).redundancy m

/-- Present T in 1/16 °C (R289). -/
def State.calT (s : State) : Int := s.geti fCAL_TEMP_NOW

/-- The activity code of a calibration kind (R506). -/
def calAct (kind : Nat) : Nat := kind + 2

/-- Inputs held by a calibration behave as R270 states; `on` sets or clears their CD_ACTIVE. -/
def State.holdInputs (s : State) (mask : Nat) (on : Bool) : State :=
  (bitList mask 16).foldl (fun s i => s.put fREED_IN_STATUS_CD_ACTIVE (b2n on) i) s

/-- BUSY follows the runs in progress. -/
def State.calBusy (s : State) : State :=
  s.put fCAL_STATUS_BUSY (b2n (s.cal.phase != 0 || s.rxCal.phase != 0))

/-- A run of the present kind ends: resources and inputs are released, BUSY clears. -/
def State.calEnd (s : State) : State :=
  let act := calAct s.cal.kind
  ({ ((s.holdInputs s.cal.mask false).release act) with cal := {} }).calBusy

/-- A run reached its end: DONE, RUNS, and the time and temperature of CAL_LAST (R281). -/
def State.calDone (s : State) : State :=
  let s := (s.flag fCAL_STATUS_DONE).bump fCAL_COUNT_RUNS
  let s := (s.setWord aCAL_LAST_LO (tsLo s.nowT)).setWord aCAL_LAST_HI (tsHi s.nowT)
  s.put fCAL_LAST_TEMP_TEMP (s.get fCAL_TEMP_NOW)

/-- A unit fails its checks (R288). Log: 41 DESIGN CHOICE. -/
def State.calFail (s : State) (unit reason : Nat) : State :=
  (((s.flag fCAL_STATUS_CAL_FAIL).put fCAL_STATUS_REASON reason).put fCAL_STATUS_UNIT unit).bump fCAL_COUNT_FAILS

/-- A receive-slice run ends and releases the estimator. -/
def State.rxCalEnd (s : State) : State := ({ s.release 5 with rxCal := {} }).calBusy

/-- A receive-slice run is aborted (R288, R313). -/
def State.rxCalAbort (s : State) (reason : Nat) : State :=
  if s.rxCal.phase = 0 then s
  else (((s.flag fCAL_STATUS_CAL_ABORT).put fCAL_STATUS_REASON reason).bump fCAL_COUNT_ABORTS).rxCalEnd

/-- The spare of a bank leaves a calibration: FREE, or FAULTY as it was (R281, R288). -/
def State.spareBack (s : State) (b : Nat) (faulty : Bool) : State := s.put fWARP_BANK_STATUS_SPARE_STATE (if faulty then 5 else 0) b

/-- A run is aborted: a carried ball is handed back later, everything else is released (R288, R296, R508). -/
def State.calAbort (s : State) (reason : Nat) : State :=
  let c := s.cal
  if c.phase = 0 then s
  else
    let kind := c.kind
    let s := ((s.flag fCAL_STATUS_CAL_ABORT).put fCAL_STATUS_REASON reason).bump fCAL_COUNT_ABORTS
    let carried := kind = 0 ∧ s.get fWARP_BANK_STATUS_SPARE_STATE c.bank = 2
    let s := if kind = 0 ∧ (c.phase = 2 ∨ c.phase = 3 ∨ c.phase = 4) ∧ ¬ carried then s.spareBack c.bank (c.bad && c.phase == 2) else s
    let s := if kind = 1 ∧ c.phase = 6 then s.setRole (c.cur / 4) (c.cur % 4) c.prev else s
    let s := s.calEnd
    if carried then s.setBank c.bank { (nth s.banks c.bank) with back := some false } else s

/-- A code-density run ends with no width changed (R269). -/
def State.cdFail (s : State) (reason : Nat) : State :=
  if s.is fREED_CD_STATUS_BUSY then
    let s := ({ s.holdInputs s.cd.mask false with cd := {} }).release 1
    ((s.unflag fREED_CD_STATUS_BUSY).flag fREED_CD_STATUS_FAIL).put fREED_CD_STATUS_REASON reason
  else s

/-- Does a calibration run hold the spare of bank `b`? -/
def State.calHoldsBank (s : State) (b : Nat) : Bool :=
  s.cal.phase != 0 &&
    (s.cal.kind == 4 || (s.cal.kind == 0 && s.cal.bank == b))

end Sys2Proof.Machine
end

