-- ==== Sys2Proof/Machine/Triggers.lean ====
section
/-! DEFINITION. Due-time commands from their acceptance to their due times (chapter 01): acceptance, commit, and the commands addressed to
outputs and to Heddle's lines (chapters 03 to 05). -/

namespace Sys2Proof.Machine

/-- COMMAND_ACCEPT: the oldest command of a source is written into the store and judged timely or late; `fw` is a command a
sender outside this model's blocks hands over at that moment (R43, R47, R48, R50 to R54, R142, R143). Log: 10 DESIGN CHOICE, 28 DEDUCED, 74 DEDUCED. -/
def execCommandAccept (src : Nat) (fw : Option DueCmd) (s : State) : Out :=
  let s := match fw with | some c => s.sendDue { c with src := src } | none => s
  match s.hsf.find? (fun c => c.src == src) with
  | none => noEvent s
  | some c =>
    if 256 ≤ s.store.length then
      .next (if s.stalled.contains c then s else { s with stalled := s.stalled ++ [c] }.bump fHSF_STALL_STALLS src)
    else
      let acc := s.acceptWc c
      let s := s.flowTo (wcs acc)
      let s := { s with hsf := s.hsf.erase c, stalled := s.stalled.erase c, sentAt := s.sentAt.eraseP (fun e => e.1 == c) }
      match c.target with
      | .line l =>
        .next ((if s.lineAccepts l.val c then s.acceptDue c acc else s.flag fHEDDLE_LINE_STATUS_CMD_REJECT l.val).checkLoad)
      | _ => .next (s.acceptDue c acc).checkLoad

/-- COMMAND_COMMIT: the next timely command is committed 40 wc before its due time (R49, R117). -/
def execCommandCommit (s : State) : Out :=
  match s.store.find? (fun c => !c.committed) with
  | none => noEvent s
  | some c => .next { s.flowTo (tSub (tFloor c.cmd.due) (wcs 40)) with store := commitFirst s.store }

/-- The command at the head of the store falls due: time passes to it and it leaves the store. -/
def State.popDue (s : State) (c : Stored) : State := { s.flowTo c.cmd.due with store := s.store.drop 1 }

/-- The head of the store, when it is addressed to an output with action `a`, runs `f` on that output and instant; on the safe
clock or during a retune it is discarded (R49, R50, R55, R100). -/
def State.dueAtOut (s : State) (a : Nat) (f : State → Nat → Nat → State) : Out :=
  match s.store with
  | [] => noEvent s
  | c :: _ =>
    match outOf c.cmd.target with
    | none => noEvent s
    | some o =>
      if c.cmd.action ≠ a ∨ s.applyFirst c then noEvent s
      else
        let s := s.popDue c
        .next (if s.unlocked then s.lockDrop c.cmd else if s.calAll then s.bump fCAL_DISCARD_DISCARD else f s o c.cmd.due)

/-- TRIGGER: a start trigger command falls due at an output (R50, R55, R96, R99 to R101, R103 to R105, R107 to R109, R161,
R162, R165). -/
def execTrigger (s : State) : Out := s.dueAtOut 1 (fun s o t => s.startTrigger o t)

/-- STOP: a stop command falls due at an output (R55, R100, R103 to R105, R161, R162, R165). -/
def execStop (s : State) : Out := s.dueAtOut 2 (fun s o t => s.stopOut o t none)

/-- ACTION_NOT_USED: a command with an unused action code is discarded and counted in RETRIG_DROP (R100). -/
def execActionNotUsed (s : State) : Out :=
  match s.store with
  | [] => noEvent s
  | c :: _ =>
    match outOf c.cmd.target with
    | none => noEvent s
    | some o =>
      if 1 ≤ c.cmd.action ∧ c.cmd.action ≤ 3 then noEvent s
      else
        let s := s.popDue c
        .next (if s.unlocked then s.lockDrop c.cmd else if s.calAll then s.bump fCAL_DISCARD_DISCARD else s.oBump o fWARP_CH_COUNT_RETRIG_DROP fMOUT_COUNT_RETRIG_DROP)

/-- The head of the store, when it is a line command with action `a`, runs `f` on its line and instant; an event of the line at the instant of
an ARM or DISARM command comes after it (R55, R142, R147). -/
def State.dueAtLine (s : State) (a : Nat) (f : State → Nat → Nat → State) : Option State :=
  match s.store with
  | [] => none
  | c :: _ =>
    match c.cmd.target with
    | .line l =>
      if c.cmd.action ≠ a then none
      else
        let s := if a = 1 then s.popDue c else { s.flowBefore c.cmd.due with store := s.store.drop 1 }
        some (if s.unlocked then s.lockDrop c.cmd else f s l.val c.cmd.due)
    | _ => none

/-- FIRE: a FIRE command at its due time fires its line (R55, R142, R144, R149). -/
def execFire (s : State) : Out :=
  match s.dueAtLine 1 (fun s l t => s.fireCmd l t) with | some s => .next s | none => noEvent s

/-- ARM: an ARM command falls due (R55, R142, R144, R147). -/
def execArm (s : State) : Out :=
  match s.dueAtLine 2 (fun s l t => s.armLine l t) with | some s => .next s | none => noEvent s

/-- DISARM: a DISARM command falls due (R55, R142, R144, R147). -/
def execDisarm (s : State) : Out :=
  match s.dueAtLine 3 (fun s l t => s.disarmLine l t) with | some s => .next s | none => noEvent s

end Sys2Proof.Machine
end

