-- ==== Sys2Proof/Machine/Edges.lean ====
section
/-! DEFINITION. Edges at the balls, output enables, the echo checker and bank-spare failover (chapter 03, and chapter 05 for the
master outputs' balls). -/

namespace Sys2Proof.Machine

/-! ### Enables and drivers (R112 to R115, R168) -/

/-- The driver of an output goes off. -/
def State.driverOff (s : State) (o : Nat) : State :=
  (s.setDrv o 0).setOut o { s.out o with enBall := 0, admitted := false, echo := [], chk := none }

/-- The value of ENABLE takes effect (R112 to R114): out of OFF the driver wakes, and a pulse in progress is suppressed; a lowering during a
shown pulse waits for its trailing edge; a raising to ON suppresses the pulse in progress, which HOLD has counted. -/
def State.enable (s : State) (o v : Nat) : State :=
  if v = 3 then s
  else
    let old := s.oEnable o
    let s := s.oPut o fWARP_CH_CTRL_ENABLE fMOUT_CTRL_ENABLE v
    let s := if old = 0 ∧ v ≠ 0 ∧ (s.out o).act.isSome then s.oSuppress o else s
    let x := s.out o
    let shown : Bool := match x.act with | some p => p.shown | none => false
    if old = 0 ∧ v ≠ 0 ∧ s.oDrv o = 0 then
      ((s.setDrv o 1).setOut o { x with enBall := v, admitted := false }).wakeGroup (driverGroup o)
    else if shown ∧ v < old then s
    else if v = 0 then s.driverOff o
    else s.setOut o { x with enBall := v }

/-- ENABLE_WRITE: a write of ENABLE (R39, R112 to R114, R168). -/
def execEnableWrite (o : Fin 72) (v : Fin 4) (s : State) : Out := .next ((s.enable o.val v.val).checkLoad)

/-- DRIVER_AWAKE: an admitted driver reaches armed idle (R114, R168). -/
def execDriverAwake (o : Fin 72) (s : State) : Out :=
  if s.oDrv o.val = 1 ∧ (s.out o.val).admitted then .next ((s.setDrv o.val 2).setOut o.val { s.out o.val with awake := s.nowT, chk := none })
  else noEvent s

/-! ### Edges at the ball (R95 to R98, R106, R108, R163, R165, R240, R241) -/

/-- The working ball values of output `o`: those of its own unit, whichever generator drives the ball (R276, R279). -/
def State.ballVals (s : State) (o : Nat) : GenVals := getKey {} s.vals (if o < 64 then 9 * (o / 8) + o % 8 else 72 + 4 * (o - 64))

/-- The working ECHO_OFS of the ball of output `o`, which is removed from every echo and voter stamp (R279). -/
def State.echoOfs (s : State) (o : Nat) : Int := (s.ballVals o).echoOfs

/-- Instant `t` moved by `d` wc/1024. -/
def tShift (t : Nat) (d : Int) : Nat := (((t : Int) + d) % (tMod : Nat)).toNat

/-- An edge scheduled for `t` leaves at the ball with the working SKEW added (R279). -/
def State.emitEdge (s : State) (o t : Nat) : State := s.setOut o { s.out o with sent := some (tShift t (s.ballVals o).skew) }

/-- A scheduled edge: the voter of a master output expects it, and where the ball shows it the echo checker does (R121, R172, R175). -/
def State.expectEdge (s : State) (o t : Nat) (lead shown : Bool) : State :=
  let x := s.out o
  s.setOut o { x with echo := if shown then x.echo ++ [(t, lead)] else x.echo, vote := if 64 ≤ o then x.vote ++ [(t, lead)] else x.vote }

/-- A leading edge of output `o` is due (R96, R108, R111, R113, R114, R120, R163, R165, R182, R241). -/
def State.leadEdge (s : State) (o : Nat) (n : NextLead) (l : Nat) : State :=
  let s := s.until_ l
  let tr := (s.pulseOf o n).bind (·.trail)
  if s.safe then (((s.consumeLead o n).oSuppress o).oRefresh o).applyIfWaiting o
  else if s.breaks o l tr then (((s.consumeLead o n).oOverlap o).oRefresh o).applyIfWaiting o
  else
    match s.pulseOf o n with
    | none => s
    | some p =>
      let shows := s.shows o
      let gate := if shows ∧ o < 64 then s.gateLead o l else (s, true)
      let shown := shows && gate.2
      let s := gate.1.consumeLead o n
      let x := s.out o
      let s := s.setOut o { x with act := some { p with shown := shown, barred := shows && !shown }, lastLead := some l }
      let s := s.expectEdge o l true shown
      let s := if shown then s.emitEdge o l else if shows then s else if 1 ≤ (s.out o).enBall then s.oSuppress o else s
      s.oRefresh o

/-- LEADING_EDGE: the schedule's next leading edge at a ball, as the events up to it leave the schedule. -/
def execLeadingEdge (o : Fin 72) (s : State) : Out :=
  let s' := State.settle (fun s => (s.nextLead o.val).at_) s.pins.length s
  let n := s'.nextLead o.val
  match n.at_ with
  | none => noEvent s
  | some l => .next (s'.leadEdge o.val n l)

/-- A trailing edge of output `o` at `t`: the pulse ends, a waiting change of ENABLE and a waiting apply take effect (R97, R98,
R111, R113, R116, R166). -/
def State.trailEdge (s : State) (o t : Nat) (p : Pulse) : State :=
  let s := s.until_ t
  let s := s.expectEdge o t false p.shown
  let s := if p.shown then (s.gateTrail o t).emitEdge o t else s
  let x := s.out o
  let s := s.setOut o { x with act := none, lastTrail := some t }
  let e := s.oEnable o
  let s := if e = 0 ∧ s.oDrv o ≠ 0 then s.driverOff o else s.setOut o { s.out o with enBall := e }
  let s := s.oRefresh o
  if s.oMode o = 5 ∧ s.oGet o fWARP_CH_STATUS_APPLY_WAIT fMOUT_STATUS_APPLY_WAIT = 1 then s.applyOut o else s.applyIfWaiting o

/-- The trailing edge of the active pulse of an output, where it is known. -/
def State.nextTrail (s : State) (o : Nat) : Option Nat := (s.out o).act.bind (·.trail)

/-- TRAILING_EDGE: the trailing edge of the active pulse, as the events up to it leave it. -/
def execTrailingEdge (o : Fin 72) (s : State) : Out :=
  let s' := if (s.out o.val).act.isSome then State.settle (fun s => s.nextTrail o.val) s.pins.length s else s
  match (s'.out o.val).act with
  | none => noEvent s
  | some p => match p.trail with
    | none => noEvent s
    | some t => .next (s'.trailEdge o.val t p)

/-! ### Failover (R125 to R130) -/

/-- The spare starts to copy channel index `k` of bank `b` (R126). -/
def State.failoverCopy (s : State) (b k : Nat) : State :=
  let s := (s.put fWARP_BANK_STATUS_SPARE_STATE 3 b).put fWARP_BANK_STATUS_SPARE_CH k b
  s.setBank b { (nth s.banks b) with copied := false, waiting := none, release := false }

/-- A failover of channel `n` starts, waits for a calibration to hand its channel back, or is not available (R125, R128, R508). -/
def State.failoverStart (s : State) (n : Nat) : State :=
  let b := n / 8
  let k := n % 8
  let st := s.get fWARP_BANK_STATUS_SPARE_STATE b
  if st = 0 ∨ st = 1 then
    let s := (if s.calHoldsBank b then s.calAbort 11 else s).failoverCopy b k
    s.setBank b { (nth s.banks b) with clsAt := s.nowT }
  else if st = 2 then
    match (nth s.banks b).waiting with
    | some w => if w = k then s else s.flag fWARP_BANK_STATUS_FO_UNAVAIL b
    | none =>
      let s := s.calAbort 11
      s.setBank b { (nth s.banks b) with waiting := some k, clsAt := s.nowT }
  else if st = 3 ∧ s.get fWARP_BANK_STATUS_SPARE_CH b = k then s
  else s.flag fWARP_BANK_STATUS_FO_UNAVAIL b

/-- Does the bank spare drive the ball of channel `n`: after failover, or carried for calibration? -/
def State.spareDrives (s : State) (n : Nat) : Bool :=
  let st := s.get fWARP_BANK_STATUS_SPARE_STATE (n / 8)
  s.is fWARP_CH_STATUS_FO_ACTIVE n || (st == 2 && s.get fWARP_BANK_STATUS_SPARE_CH (n / 8) == n % 8)

/-- Would an echo error of channel `n` start a failover now (R125, R126)? -/
def State.failoverStarts (s : State) (n : Nat) : Bool :=
  let b := n / 8
  let st := s.get fWARP_BANK_STATUS_SPARE_STATE b
  s.is fWARP_CH_CTRL_FO_EN n && !s.spareDrives n && (st == 0 || st == 1 || st == 2)

/-- FAILOVER_COPY_DONE: the spare follows the channel's schedule (R126). -/
def execFailoverCopyDone (b : Fin 8) (s : State) : Out :=
  let x := nth s.banks b.val
  if s.get fWARP_BANK_STATUS_SPARE_STATE b.val = 3 ∧ ¬ x.copied then .next (s.setBank b.val { x with copied := true }) else noEvent s

/-- Is the schedule of output `o` at idle through the whole present wc? -/
def State.idleWc (s : State) (o : Nat) : Bool :=
  (s.out o).act.isNone && (match (s.out o).lastTrail with | some e => tLe e s.nowT | none => true) && (match (s.nextLead o).at_ with | some l => tLe (tAdd s.nowT 1024) l | none => true)

/-- FAILOVER_SWITCH: the ball switches to the spare in the first idle wc after the copy (R126, R249). -/
def execFailoverSwitch (b : Fin 8) (s : State) : Out :=
  let b := b.val
  let x := nth s.banks b
  let n := 8 * b + s.get fWARP_BANK_STATUS_SPARE_CH b
  if s.get fWARP_BANK_STATUS_SPARE_STATE b = 3 ∧ x.copied ∧ s.idleWc n then
    let s := if tLt (tAdd x.clsAt (s.psUp 2000000)) s.nowT then s.flag fWARP_BANK_STATUS_FO_LATE b else s
    .next (((s.put fWARP_BANK_STATUS_SPARE_STATE 4 b).flag fWARP_CH_STATUS_FO_ACTIVE n).bump fWARP_BANK_STATUS_FO_COUNT b)
  else noEvent s

/-- FO_RELEASE: the ball returns to its generator at the next idle wc, or a copy is abandoned (R130). -/
def execFoRelease (b k : Fin 8) (s : State) : Out :=
  let s := s.put fWARP_BANK_CTRL_FO_CH k.val b.val
  let st := s.get fWARP_BANK_STATUS_SPARE_STATE b.val
  if s.get fWARP_BANK_STATUS_SPARE_CH b.val ≠ k.val then .next s
  else if st = 4 then .next (s.setBank b.val { (nth s.banks b.val) with release := true })
  else if st = 3 then .next ((s.put fWARP_BANK_STATUS_SPARE_STATE 0 b.val).setBank b.val {})
  else .next s

/-- FO_RELEASE_SWITCH: at the channel's next idle wc its own generator drives the ball again (R130). -/
def execFoReleaseSwitch (b : Fin 8) (s : State) : Out :=
  let b := b.val
  let n := 8 * b + s.get fWARP_BANK_STATUS_SPARE_CH b
  if (nth s.banks b).release ∧ s.idleWc n then
    .next (((s.put fWARP_BANK_STATUS_SPARE_STATE 0 b).unflag fWARP_CH_STATUS_FO_ACTIVE n).setBank b {})
  else noEvent s

/-- FO_FORCE: starts failover of a channel whose FO_EN is 1, with no report (R125, R130). Log: 32 DEDUCED. -/
def execFoForce (b k : Fin 8) (s : State) : Out :=
  let s := s.put fWARP_BANK_CTRL_FO_CH k.val b.val
  let n := 8 * b.val + k.val
  .next (if s.is fWARP_CH_CTRL_FO_EN n ∧ ¬ s.spareDrives n then s.failoverStart n else s)

/-! ### The echo checker (R121 to R124, R129, R175, R247) -/

/-- A deviation as s10, saturated. -/
def dev10 (d : Int) : Nat := enc 10 (satS 10 d)

/-- The WARP_ECHO_FIRST_INFO layout of an error, VALID set. -/
def echoInfo (n cause spare : Nat) (d : Int) : Word :=
  BitVec.ofNat 36 (2 ^ 35 + n * 2 ^ 29 + cause * 2 ^ 26 + spare * 2 ^ 25 + dev10 d * 2 ^ 15)

/-- An echo error of an edge channel for expected time `t`, classified at instant `at_` (R122, R123, R125, R129, R296). -/
def State.echoErrorCh (s : State) (n cause : Nat) (d : Int) (t at_ : Nat) : State :=
  let spare := b2n (s.spareDrives n)
  let starts := s.failoverStarts n
  let s := ((s.flag fWARP_CH_STATUS_ECHO_ERR n).put fWARP_CH_STATUS_ECHO_CAUSE cause n).bump fWARP_ECHO_COUNT_ERRORS
  let info := echoInfo n cause spare d
  let s := if s.is fWARP_ECHO_FIRST_INFO_VALID then s
    else ((s.setWord aWARP_ECHO_FIRST_LO (tsLo t)).setWord aWARP_ECHO_FIRST_HI (tsHi t)).setWord aWARP_ECHO_FIRST_INFO info
  let s := s.detect 4 n cause (spare * 2 ^ 13 + b2n starts * 2 ^ 12 + dev10 d) false at_
  let s := s.packet? s.binds.echo [tsLo t, tsHi t, info]
  if s.is fWARP_CH_STATUS_FO_ACTIVE n then s.flag fWARP_BANK_STATUS_POST_FO_ERR (n / 8)
  else if spare = 1 then
    let s := s.calAbort 11
    s.setBank (n / 8) { (nth s.banks (n / 8)) with back := some true }
  else if s.is fWARP_CH_CTRL_FO_EN n then s.failoverStart n
  else s

/-- An echo error of a master output's ball (R175). -/
def State.echoErrorMo (s : State) (m cause : Nat) (d : Int) (t at_ : Nat) : State :=
  let s := ((s.flag fMOUT_STATUS_ECHO_ERR m).put fMOUT_STATUS_ECHO_CAUSE cause m).bump fMOUT_VOTE_COUNT_ECHO_ERRS
  let s := if s.is fMOUT_VOTE_FIRST_INFO_VALID then s
    else ((s.setWord aMOUT_VOTE_FIRST_LO (tsLo t)).setWord aMOUT_VOTE_FIRST_HI (tsHi t)).setWord aMOUT_VOTE_FIRST_INFO
      (BitVec.ofNat 36 (2 ^ 35 + m * 2 ^ 32 + 2 ^ 31 + cause * 2 ^ 26 + dev10 d * 2 ^ 16))
  s.detect 6 m cause (dev10 d) false at_

/-- An echo error of an output. -/
def State.echoError (s : State) (o cause : Nat) (d : Int) (t at_ : Nat) : State :=
  if o < 64 then s.echoErrorCh o cause d t at_ else s.echoErrorMo (o - 64) cause d t at_

/-- Does the checker run at output `o` (R121)? -/
def State.echoRuns (s : State) (o : Nat) : Bool := (s.oEnable o == 1 || s.oEnable o == 2) && s.oDrv o == 2

/-- Is channel `o` a gate whose ball the limiter or the interlock holds idle (R247)? -/
def State.heldIdle (s : State) (o : Nat) : Bool :=
  decide (o < 64) && !(s.gateFibres o).isEmpty &&
    (s.ilLatch || (match (s.out o).act with | some p => p.barred | none => false))

/-- A gate ball is found active while held idle (R247). -/
def State.gateErr (s : State) (o : Nat) : State :=
  ((s.gateFibres o).foldl (fun s f => s.flag fLIGHT_STATUS_GATE_ERR f) s).detect 4 o 7 (b2n (s.spareDrives o) * 2 ^ 13) false s.nowT

/-- The calibration unit of the generator that drives the ball of channel `o` (R276). -/
def State.genUnit (s : State) (o : Nat) : Nat := if s.spareDrives o then 9 * (o / 8) + 8 else 9 * (o / 8) + o % 8

/-- What the checker sees of the oldest expected edge under an injection: a shifted or missing edge of its generator, or a ball held at
idle from its first leading edge on (R583). -/
def State.injSeen (s : State) (o t : Nat) (lead : Bool) (obs : EdgeObs) : EdgeObs × State :=
  let d : Option Int := match obs with | .seen d => some d | _ => none
  let r : Option Int × State := if o < 64 then (s.injEdge (s.genUnit o) t d, s.injEdgeUsed (s.genUnit o) t) else (d, s)
  let s := r.2
  match s.injActs 3 with
  | none => (match r.1 with | some d => .seen d | none => .none_, s)
  | some x =>
    if x.unit ≠ o ∨ tLt t x.start ∨ (x.from_.isNone ∧ ¬ lead) then (match r.1 with | some d => .seen d | none => .none_, s)
    else
      let f := x.from_.getD t
      let s := s.setInj { x with from_ := some f }
      if tLt t (tAdd f (wcs x.count)) then (.none_, s) else (match r.1 with | some d => .seen d | none => .none_, s)

/-- The edges expected at output `o` after one has been classified. -/
def State.echoTaken (s : State) (o : Nat) (rest : List (Nat × Bool)) : State := s.setOut o { s.out o with echo := rest }

/-- ECHO_CLASSIFY: an expected edge, or a transition that no edge explains, is classified 1 wc after it; the working ECHO_OFS is removed from its
stamp (R121 to R124, R279). -/
def execEchoClassify (o : Fin 72) (obs : EdgeObs) (s : State) : Out :=
  let o := o.val
  let x := s.out o
  let r : EdgeObs × State := match obs, x.echo with
    | .extra _ _, _ => (obs, s)
    | _, [] => (obs, s)
    | _, (t, lead) :: _ => s.injSeen o t lead obs
  let s := r.2
  if ¬ s.echoRuns o then noEvent s
  else match r.1 with
    | .extra t rising =>
      let t := tShift t (-s.echoOfs o)
      if s.safe then noEvent s
      else
        let s := s.flowTo (tAdd t 1024)
        if s.heldIdle o ∧ rising ≠ s.is fWARP_CH_CTRL_POL o then .next (s.gateErr o) else .next (s.echoError o 2 0 t s.nowT)
    | .seen d =>
      match x.echo with
      | [] => noEvent s
      | (t, _) :: rest =>
        let d := d - s.echoOfs o
        let s := (s.flowTo (tAdd t 1024)).echoTaken o rest
        if s.safe ∨ s.within d 20 then .next s
        else if d.natAbs ≤ 1024 then .next (s.echoError o 4 d t s.nowT)
        else .next (s.echoError o 1 0 t s.nowT)
    | .none_ =>
      match x.echo with
      | [] => noEvent s
      | (t, lead) :: rest =>
        let s := (s.flowTo (tAdd t 1024)).echoTaken o rest
        if s.safe ∧ lead then .next s else .next (s.echoError o 1 0 t s.nowT)

/-- The level the schedule has at the ball of output `o`: active or idle, by POL. -/
def State.scheduledHigh (s : State) (o : Nat) : Bool :=
  let active := match (s.out o).act with | some p => p.shown | none => false
  active != (s.oGet o fWARP_CH_CTRL_POL fMOUT_CTRL_POL == 1)

/-- The steady interval of the schedule that runs now, as a checker that has run since `from_` sees it: its start, and its end where the
schedule knows it (R121). -/
def State.steady (s : State) (o from_ : Nat) : Nat × Option Nat :=
  let x := s.out o
  let late := fun (e : Option Nat) => match e with | some t => if tLt from_ t then t else from_ | none => from_
  match x.act with
  | some p => (late (some p.lead), p.trail)
  | none => (late x.lastTrail, (s.nextLead o).at_)

/-- The level check that follows check `last` in a steady interval (R121): the first at the earlier of its middle and 40 wc after its start, then
every 1 024 wc from its start, while it lasts 8 wc or more. -/
def checkAfter (iv : Nat × Option Nat) (last : Option Nat) : Option Nat :=
  let len := iv.2.map (fun e => (tDiff e iv.1).toNat)
  if (match len with | some n => decide (n < wcs 8) | none => false) then none
  else
    let first := tAdd iv.1 (match len with | some n => min (n / 2) (wcs 40) | none => wcs 40)
    let at_ : Nat := match last with
      | some c => if tLt c first then first else tAdd iv.1 (((tDiff c iv.1).toNat / wcs 1024 + 1) * wcs 1024)
      | none => first
    match iv.2 with
    | some e => if tLt at_ e then some at_ else none
    | none => some at_

/-- The instant of the echo checker's next level check at output `o` (R121). -/
def State.nextCheck (s : State) (o : Nat) : Option Nat := checkAfter (s.steady o (s.out o).awake) (s.out o).chk

/-- The level check at instant `t` is classified (R121, R122, R125, R175, R247). Log: 96 DEDUCED. -/
def State.levelCheck (s : State) (o t : Nat) (high : Bool) : State :=
  let s := s.setOut o { s.out o with chk := some t }
  if high = s.scheduledHigh o then s
  else if s.heldIdle o then s.gateErr o
  else s.echoError o 3 0 t t

/-- ECHO_LEVEL_CHECK: the next level check of a steady interval (R121 to R125, R175, R247). -/
def execEchoLevelCheck (o : Fin 72) (high : Bool) (s : State) : Out :=
  let s' := State.settle (fun s => s.nextCheck o.val) s.pins.length s
  if ¬ s'.echoRuns o.val then noEvent s
  else match s'.nextCheck o.val with
    | none => noEvent s
    | some t => .next ((s'.until_ t).levelCheck o.val t high)

end Sys2Proof.Machine
end

