-- ==== Sys2Proof/Machine/Sequencer.lean ====
section
/-! DEFINITION. The pattern sequencers: requests, starting and stopping, fetching and issuing items, waits, decisions and segment
boundaries (chapter 06). An item's step happens in its issue cycle, and its markers fire at its slot instant (log entry 23). -/

namespace Sys2Proof.Machine

/-! ### Fetching (R197, R211 to R213) -/

/-- What the next slot plays: a stored item (`counted` when it counts toward L), an inserted IDLE item, or an end of the run. -/
inductive SeqFetch where
  | item (w : Word) (counted under : Bool)
  | idle (counted under : Bool)
  | beyond
  | starved
  deriving DecidableEq, Repr

/-- The item of the next slot, by the segment's kind and its underrun policy; a stored item as its issue cycle reads it (R217). -/
def State.seqFetch (s : State) (q : Nat) : SeqFetch :=
  let x := s.seq q
  if ¬ segStream x.w0 then
    (if 1048576 ≤ x.addr then .beyond else .item (s.wordFor (aPATTERN_STORE + x.addr) (issueAt (x.slotT x.k))) true false)
  else
    let it := segIter x.w0
    let here := SeqFetch.item (s.word (winAddr q x.pos)) true false
    match segUpol x.w0 with
    | 0 =>
      if x.idx % 64 = 0 then (if x.resident (x.pos + 64) then here else .idle true true)
      else if x.missing then .idle true false else here
    | 1 =>
      match x.again with
      | some (some st, off) => .item (s.word (winAddr q (st + off))) false false
      | some (none, _) => .idle false false
      | none =>
        if x.idx % it = 0 ∧ ¬ x.resident (x.pos + it) then
          (match x.lastIter with
           | some st => .item (s.word (winAddr q st)) false true
           | none => .idle false true)
        else here
    | _ => if x.idx % 64 = 0 ∧ ¬ x.resident (x.pos + 64) then .starved else here

/-- Is the pass's decision point due before the next item is issued (R202, R213)? A JUMP item at L - 128 registers first. -/
def State.decisionDue (s : State) (q : Nat) : Bool :=
  let x := s.seq q
  let l := segLen x.w1
  let jump := match s.seqFetch q with | .item w counted _ => getBits w 32 4 == 5 && counted | _ => false
  x.next == .open_ && (x.idx == l - 127 || (x.idx == l - 128 && !jump)) && x.again.isNone

/-- May a sequencer issue its next slot? -/
def State.mayIssue (s : State) (q : Nat) : Bool :=
  let x := s.seq q
  x.live && x.wait.isNone && !s.decisionDue q && decide (x.idx < segLen x.w1)

/-- Is the pass played out, with every slot of it issued (R199)? -/
def SeqSt.passOut (x : SeqSt) : Bool := x.live && x.wait.isNone && x.idx == segLen x.w1 && x.again.isNone

/-- The first slot of the next pass, or of the run, is due: its grid starts at the boundary, with the ITEM_PER that applies there as it is known
(R185, R199, R202, R215, R496). The boundary's own effects come at its instant, by SEGMENT_BOUNDARY. Log: 23 DEDUCED. -/
def State.roll (s : State) (q : Nat) : State :=
  let x := s.seq q
  match x.passOut && x.bnd.isNone, x.next with
  | true, .play e p ent w0 w1 r =>
    let t := x.slotT x.k
    let y := { x with base := t, k := 0, per := holdPer (s.perFor q t), entry := e, pass := p, ent := ent, seg := entrySeg ent, w0 := w0, w1 := w1,
                      idx := 0, addr := segStart w0, stack := [], next := .open_, missing := false, again := none, holed := false,
                      lastIter := none, passFrom := x.pos, gov := none, bnd := some (t, r) }
    (s.perClamp q (s.perFor q t)).setSeq q y
  | _, _ =>
    if x.start.isSome ∧ x.live ∧ x.k = 0 then (s.perClamp q (s.perFor q x.base)).setSeq q { x with per := holdPer (s.perFor q x.base) } else s

/-- A new ITEM_PER is in force at the boundary from which the grid counts: the slots not yet issued move to it, none before the last one issued
(R185, R215, R216, R221). Log: 23 DEDUCED. -/
def State.regrid (s : State) (q : Nat) : State :=
  let x := s.seq q
  let p := holdPer (s.rawPer q)
  if p = x.per then s
  else
    let last := x.slotT (x.k - 1)
    let want := tAdd x.base (x.k * p)
    let at_ := if 1 < x.k ∧ tLt want (tAdd last p) then tAdd last p else want
    (s.perClamp q (s.rawPer q)).setSeq q { x with per := p, base := tSub at_ (x.k * p) }

/-- After the last item of a pass that nothing follows no further slot is issued (R192, R196, R202, R209). -/
def State.lastSlot (s : State) (q : Nat) : State :=
  let x := s.seq q
  if x.passOut then
    match x.next with
    | .stopped => s.seqEnding q 0 (x.slotT x.k)
    | .done => s.seqEnding q 6 (x.slotT x.k)
    | .aborted => s.seqEnding q 5 (x.slotT x.k)
    | _ => s
  else s

/-- The first missing item of an underrun is recorded (R212). -/
def State.underrun (s : State) (q t : Nat) : State :=
  let s := if s.is fSEQ_STATUS_UNDERRUN q then s
    else (s.setWord (aSEQ_UNDER_LO + q) (tsLo t)).setWord (aSEQ_UNDER_HI + q) (tsHi t)
  (s.flag fSEQ_STATUS_UNDERRUN q).bump fSEQ_COUNT_UNDERRUN_COUNT q

/-- The position after a slot (R185, R197, R212). -/
def SeqSt.advance (x : SeqSt) (counted : Bool) (missing : Bool) (next : Nat) : SeqSt :=
  let y := { x with k := x.k + 1, addr := next, lastIdx := x.idx, lastPass := x.pass }
  if ¬ segStream x.w0 then { y with idx := x.idx + 1 }
  else
    let it := segIter x.w0
    if counted then
      { y with idx := x.idx + 1, pos := x.pos + 1, missing := missing,
               holed := (x.idx + 1) % it != 0 && (x.holed || missing),
               lastIter := if (x.idx + 1) % it = 0 ∧ ¬ (x.holed || missing) then some (x.pos + 1 - it) else x.lastIter }
    else
      let cur : Option Nat × Nat := x.again.getD (x.lastIter, 0)
      { y with again := if cur.2 + 1 = it then none else some (cur.1, cur.2 + 1) }

/-- SEQ_POS shows the last slot issued. -/
def State.seqShowPos (s : State) (q : Nat) : State :=
  let x := s.seq q
  (s.put fSEQ_POS_ENTRY x.entry q).put fSEQ_POS_SEG x.seg q

/-- Fibres that a FIBRE code selects (R190). -/
def fibresOf (code : Nat) : List Nat := bitList code 2

/-- PROBE_CFG as it governs the builder (R496). -/
def State.probeCfg (s : State) (f : Nat) : Word := ((nth s.probes f).gov).getD (s.word (aPROBE_CFG + f))

/-- The shot markers of an item: shot boundaries of the fibres that the sequencer feeds (R223). Log: 26 DEDUCED. -/
def State.shotMarks (s : State) (q marks t : Nat) : State :=
  (fibresOf (fSEQ_CFG_FIBRE.get (s.seqCfg q))).foldl (fun s f =>
    let c := s.probeCfg f
    if fPROBE_CFG_SHOT_EN.get c = 1 ∧ marks.testBit (fPROBE_CFG_SHOT_MARK.get c) then
      let p := nth s.probes f
      { s with probes := s.probes.set f { p with shots := p.shots ++ [t], codes := (p.codes ++ [(t, [])]).drop (p.codes.length - 3) } }
    else s) s

/-- The run of a sequencer meets an address beyond the store or a starved ABORT segment (R197, R212). -/
def State.seqBreak (s : State) (q : Nat) (f : SeqFetch) : State :=
  let t := (s.seq q).slotT (s.seq q).k
  let s := s.until_ (issueAt t)
  match f with
  | .beyond => (s.segErr q 7).seqEnding q 5 t
  | _ => (s.underrun q t).seqEnding q 5 t

/-- The marker bits of an issued item wait for its slot instant (R187, R189). -/
def State.sendMarks (s : State) (q : Nat) (w : Word) (t : Nat) : State :=
  if getBits w 28 4 = 0 then s
  else s.setSeq q { s.seq q with marks := (s.seq q).marks ++ [(t, getBits w 28 4, getBits w 32 4)] }

/-- Do markers of an item of these types come before `date`, the issue of the next one where there is one? -/
def State.markFirst (s : State) (q : Nat) (tys : List Nat) (date : Option Nat) : Bool :=
  match (s.seq q).marks with
  | (t, _, ty) :: _ => tys.contains ty && (match date with | some d => tLe t d | none => true)
  | [] => false

/-- The oldest waiting markers fire at their slot instant (R189). Log: 23 DEDUCED. -/
def State.fireMarks (s : State) (q : Nat) : State :=
  match (s.seq q).marks with
  | (t, b, _) :: rest => let s := s.flowTo t; (s.setSeq q { s.seq q with marks := rest }).markers q b t
  | [] => s

/-- A slot is issued: its item's own effect `act` (state, item, slot instant → state, next address), its markers sent on, and the
position moves on (R187, R189). Log: 23 DEDUCED. -/
def State.playItem (s : State) (q : Nat) (w : Word) (counted under : Bool) (act : State → Word → Nat → State × Nat) : State :=
  let x := s.seq q
  let t := x.slotT x.k
  let s := s.until_ (issueAt t)
  let s := if under then s.underrun q t else s
  let s := (s.shotMarks q (getBits w 28 4) t).sendMarks q w t
  let r := act s w t
  ((r.1.setSeq q ((r.1.seq q).advance counted false r.2)).seqShowPos q).lastSlot q

/-- What an item's command does where no slot is issued: waiting markers of its types fire, or nothing happens. -/
def State.elseMarks (s : State) (q : Nat) (tys : List Nat) : Out := if s.markFirst q tys none then .next (s.fireMarks q) else noEvent s

/-- The issue date of the next slot. -/
def State.issueDate (s : State) (q : Nat) : Nat := issueAt ((s.seq q).slotT (s.seq q).k)

/-- The events of lines take place up to the issue of the next slot (R149, R200). -/
def State.toIssue (s : State) (q : Nat) : State :=
  State.settle (fun s => let r := s.roll q; if r.mayIssue q then some (r.issueDate q) else none) s.pins.length s

/-- Issue the next item if its TYPE is one of `tys`, or fire the markers of an earlier one where they come first; a fetch beyond the
store ends the run instead. -/
def State.issue (s : State) (q : Nat) (tys : List Nat) (act : State → Word → Nat → State × Nat) : Out :=
  let r := (s.toIssue q).roll q
  if ¬ r.mayIssue q then s.elseMarks q tys
  else if s.markFirst q tys (some (r.issueDate q)) then .next (s.fireMarks q)
  else match r.seqFetch q with
    | .item w counted under =>
      if tys.contains (getBits w 32 4) then .next (r.playItem q w counted under act) else s.elseMarks q tys
    | .beyond => .next (r.seqBreak q .beyond)
    | _ => s.elseMarks q tys

/-- An item with no effect of its own; the next item follows it. -/
def plainItem (q : Nat) (s : State) (_ : Word) (_ : Nat) : State × Nat := (s, (s.seq q).addr + 1)

/-- NOP: only its markers (R187 to R189, R197). -/
def execNop (q : Fin 2) (s : State) : Out := s.issue q.val [0] (plainItem q.val)

/-- IDLE: an IDLE item, an inserted one under an underrun policy, or the end of an ABORT segment that starves (R188, R212). -/
def execIdle (q : Fin 2) (s : State) : Out :=
  let q := q.val
  let r := (s.toIssue q).roll q
  if ¬ r.mayIssue q then s.elseMarks q [8]
  else if s.markFirst q [8] (some (r.issueDate q)) then .next (s.fireMarks q)
  else match r.seqFetch q with
    | .idle counted under =>
      let x := r.seq q
      let t := x.slotT x.k
      let r := r.until_ (issueAt t)
      let r := if under then r.underrun q t else r
      .next (((r.setSeq q (x.advance counted true x.addr)).seqShowPos q).lastSlot q)
    | .starved => .next (r.seqBreak q .starved)
    | .beyond => .next (r.seqBreak q .beyond)
    | .item _ _ _ => s.issue q [8] (plainItem q)

/-- ITEM_NOT_USED: acts as NOP with ITEM_ERR, code 0x1 (R188). -/
def execItemNotUsed (q : Fin 2) (s : State) : Out :=
  s.issue q.val [9, 10, 11, 12, 13, 14, 15] (fun s w t => plainItem q.val (s.itemErr q.val 1) w t)

/-! ### CHIP (R190, R222, R227, R316) -/

/-- The present entries of a CHIP item, in order: tone and symbol. -/
def chipEntries (w : Word) : List (Nat × Nat) :=
  (List.range 4).filterMap (fun j =>
    let b := 27 - 7 * j
    if bitOf w b then some (getBits w (b - 4) 4, getBits w (b - 6) 2) else none)

/-- The entry used for each tone: the higher-numbered one. -/
def chipTones : List (Nat × Nat) → List (Nat × Nat)
  | [] => []
  | e :: t => if t.any (fun o => o.1 == e.1) then chipTones t else e :: chipTones t

/-- A chip joins the builder of a fibre, and is its tone's code origin when it is the first of the shot (R190, R316). -/
def State.addChip (s : State) (f tone sym t : Nat) : State :=
  let p := nth s.probes f
  let r : List (Nat × List (Nat × Nat)) × Bool := match p.codes.getLast? with
    | some (b, l) => if l.any (fun e => e.1 == tone) then (p.codes, false) else (p.codes.dropLast ++ [(b, l ++ [(tone, t)])], true)
    | none => (p.codes, false)
  let x := nth s.rx f
  let rx := if r.2 then s.rx.set f { x with origins := x.origins ++ [(t, tone, s.get fRXW_SHOT_COUNT_SHOTS f + p.shots.length)] } else s.rx
  { s with probes := s.probes.set f { p with chips := p.chips ++ [⟨tone, sym, t, none⟩], codes := r.1 }, rx := rx }

/-- The effect of a CHIP item. -/
def chipItem (q : Nat) (s : State) (w : Word) (t : Nat) : State × Nat :=
  let es := chipEntries w
  let us := chipTones es
  let s := if us.length < es.length then s.itemErr q 2 else s
  let fs := fibresOf (fSEQ_CFG_FIBRE.get (s.seqCfg q))
  let s := if fs = [] then s.itemErr q 3 else s
  (fs.foldl (fun s f => us.foldl (fun s e => s.addChip f e.1 e.2 t) s) s, (s.seq q).addr + 1)

/-! ### EDGE (R191, R192) -/

/-- The present edges of an EDGE item: instant and direction. -/
def edgeEntries (w : Word) (t : Nat) : List (Nat × Bool) :=
  let ps := (List.range 4).filter (fun j => bitOf w (19 - 5 * j))
  ps.zipIdx.map (fun e =>
    (tAdd t (wcs e.1 + getBits w (15 - 5 * e.1) 4 * 64), if e.2 % 2 = 0 then bitOf w 21 else !bitOf w 21))

/-- One edge of sequencer `q` for channel `o`. -/
def State.seqEdge (s : State) (q o : Nat) (e : Nat × Bool) : State :=
  let x := s.seq q
  if ¬ s.takesEdges q o then s.flag fSEQ_STATUS_EDGE_DISC q
  else if x.level.testBit o = e.2 then s.flag fSEQ_STATUS_EDGE_ORDER q
  else (s.patternEdge o e.1 e.2).setSeq q { x with level := withBit x.level o e.2 }

/-- EDGE: up to four edges on one channel (R95, R106, R191, R192). -/
def execEdge (q : Fin 2) (s : State) : Out :=
  s.issue q.val [2] (fun s w t =>
    ((edgeEntries w t).foldl (fun s e => s.seqEdge q.val (getBits w 22 6) e) s, (s.seq q.val).addr + 1))

/-! ### WAIT, LOOP, JUMP, MARK, END -/

/-- A WAIT item's effect: the wait of R200 begins; a wait of one slot holds nothing (R189, R200). -/
def waitItem (q : Nat) (s : State) (w : Word) (_ : Nat) : State × Nat :=
  let x := s.seq q
  let n := getBits w 0 20
  let md := getBits w 26 2
  let s := if md = 3 then s.itemErr q 10 else s
  let wt : SeqWait :=
    if md = 0 then ⟨x.k, 0, 0, some (x.k + max 1 n), none⟩
    else ⟨x.k, md, getBits w 20 6, none, if n = 0 then none else some (x.k + n)⟩
  if md = 3 ∨ (md = 0 ∧ n ≤ 1) then (s, x.addr + 1)
  else (s.setSeq q { x with wait := some wt }, x.addr + 1)

/-- WAIT: a WAIT item is issued; where its wait holds past its first slot, STATE reads WAITING from the next slot's instant (R189, R200,
R201). Log: 23 DEDUCED. -/
def execWait (q : Fin 2) (s : State) : Out :=
  let q := q.val
  match (s.seq q).wait with
  | none => s.issue q [3] (waitItem q)
  | some w =>
    if s.markFirst q [3] none then .next (s.fireMarks q)
    else if s.seqState q = 2 then .next ((s.flowTo ((s.seq q).slotT (w.k + 1))).setSeqState q 3) else noEvent s

/-- The slot at which a wait ends: of its release or its timeout, the earlier. -/
def SeqWait.endSlot (w : SeqWait) : Option Nat :=
  match w.rel, w.limit with
  | some a, some b => some (min a b)
  | some a, none => some a
  | none, b => b

/-- The issue of the slot at which the wait of sequencer `q` ends, where it is known. -/
def State.releaseDate (q : Nat) (s : State) : Option Nat := ((s.seq q).wait.bind (·.endSlot)).map (fun k => issueAt ((s.seq q).slotT k))

/-- WAIT_RELEASE: the release or timeout slot of a wait is reached (R200). -/
def execWaitRelease (q : Fin 2) (s : State) : Out :=
  let q := q.val
  let s' := State.settle (State.releaseDate q) s.pins.length s
  let x := s'.seq q
  match x.wait with
  | none => noEvent s
  | some w =>
    match w.endSlot with
    | none => noEvent s
    | some k =>
      let tmo := match w.rel, w.limit with
        | none, some _ => true
        | some a, some b => decide (b < a)
        | _, _ => false
      let s := s'.until_ (issueAt (x.slotT k))
      let s := if tmo then s.flag fSEQ_STATUS_WAIT_TO q else s
      let s := (s.setSeq q { x with wait := none, k := k }).lastSlot q
      .next (if s.seqState q = 3 then s.setSeqState q 2 else s)

/-- The loop step of R198 for a LOOP item at address `a`: the state and the next address. -/
def State.loopStep (s : State) (q : Nat) (w : Word) : State × Nat :=
  let x := s.seq q
  let a := x.addr
  let cnt := getBits w 14 14
  let back := getBits w 0 14
  let top := match x.stack with | e :: _ => e.1 == a | [] => false
  let early := decide (a < segStart x.w0 + back)
  let s := if !top ∧ cnt = 0 then s.itemErr q 4 else s
  let s := if early then s.itemErr q 6 else s
  let s := if !top ∧ 4 ≤ x.stack.length then s.itemErr q 5 else s
  let once := early || (!top && (decide (cnt ≤ 1) || decide (4 ≤ x.stack.length)))
  if once then (s.setSeq q { x with stack := if top then x.stack.drop 1 else x.stack }, a + 1)
  else
    let stack := if top then x.stack else (a, cnt) :: x.stack
    match stack with
    | (b, left) :: rest =>
      if 1 < left then (s.setSeq q { x with stack := (b, left - 1) :: rest }, a - back)
      else (s.setSeq q { x with stack := rest }, a + 1)
    | [] => (s, a + 1)

/-- LOOP: closes a loop body; in a streamed segment acts as NOP (R198). -/
def execLoop (q : Fin 2) (s : State) : Out :=
  s.issue q.val [4] (fun s w _ =>
    if segStream (s.seq q.val).w0 then (s.itemErr q.val 9, (s.seq q.val).addr + 1) else s.loopStep q.val w)

/-- JUMP: registers a jump request (R203 to R205). -/
def execJump (q : Fin 2) (s : State) : Out :=
  s.issue q.val [5] (fun s w _ => (s.seqRequest q.val ⟨false, getBits w 18 10, none⟩, (s.seq q.val).addr + 1))

/-- Word 2 of a sequencer log record (R193). -/
def logWord (q tag : Nat) : Word := BitVec.ofNat 36 (q * 2 ^ 35 + tag * 2 ^ 7)

/-- MARK: writes a log record (R193). -/
def execMark (q : Fin 2) (s : State) : Out :=
  s.issue q.val [6] (fun s w t =>
    let s' := if s.is fSEQ_MODE_LOG_EN q.val then s.packet? s.binds.seqLog [tsLo t, tsHi t, logWord q.val (getBits w 0 28)] else s
    (s', (s.seq q.val).addr + 1))

/-- The end of a run whose last slot is issued, at the instant of the first slot after it (R192, R209). -/
def State.seqEnded (s : State) (q : Nat) : Out :=
  match (s.seq q).ending with
  | some (t, st) =>
    if (s.seqState q = 2 ∨ s.seqState q = 3) ∧ (s.seq q).bnd.isNone then .next ((s.flowTo t).seqEnd q st none) else noEvent s
  | none => noEvent s

/-- An END item's effect: it is the last item played (R209). -/
def endItem (q : Nat) (s : State) (_ : Word) (_ : Nat) : State × Nat :=
  let x := s.seq q
  (s.seqEnding q 6 (x.slotT (x.k + 1)), x.addr + 1)

/-- END: an END item is issued, and at the end of its slot the run ends with DONE (R192, R209). Log: 23 DEDUCED. -/
def execEnd (q : Fin 2) (s : State) : Out :=
  if (s.seq q.val).ending.isSome then (if s.markFirst q.val [7] none then .next (s.fireMarks q.val) else s.seqEnded q.val) else s.issue q.val [7] (endItem q.val)

/-! ### Decisions and boundaries (R202 to R204) -/

/-- The entry and pass that follow, checked against R195, as a read at the present wc has them (R217). -/
def State.follow (s : State) (q e p : Nat) (req : Bool) : State × SeqNext :=
  let t := s.nowT
  let ent := s.entryWords e t
  let g := entrySeg ent
  let w0 := s.wordFor (aSEGMENT_TABLE + 2 * g) t
  let w1 := s.wordFor (aSEGMENT_TABLE + 2 * g + 1) t
  let err := s.segCheck q w0 w1
  if err ≠ 0 then (s.segErr q err, .aborted) else (s, .play e p ent w0 w1 req)

/-- The slot instant of the decision point that is due, where one is (R202). -/
def State.decisionAt (q : Nat) (s : State) : Option Nat :=
  let x := s.seq q
  if x.live ∧ x.wait.isNone ∧ s.decisionDue q then some (x.slotT (if x.idx = segLen x.w1 - 127 then x.k - 1 else x.k)) else none

/-- DECISION_POINT: what plays after the pass is fixed; REPEAT, LAST and NEXT are those of the entry as it was selected (R195, R196, R202 to R205,
R213, R217). -/
def execDecisionPoint (q : Fin 2) (s : State) : Out :=
  let q := q.val
  let s' := State.settle (fun s => (State.decisionAt q s).map issueAt) s.pins.length s
  match State.decisionAt q s' with
  | none => noEvent s
  | some t =>
    let s := s'.until_ (issueAt t)
    let x := s.seq q
    let ok : Bool := match x.req with
      | some r => (match r.line with | some f => tLe (tAdd f (wcs 160)) t | none => true)
      | none => false
    let s := if x.req.isSome ∧ ¬ ok then s.flag fSEQ_STATUS_JUMP_LATE q else s
    let late := x.req.map (fun r => { r with line := none })
    let pend := if ok then none else late
    let w0 := x.ent.1
    let rep := getBits x.ent.2 16 20
    let r : State × SeqNext :=
      match ok, x.req with
      | true, some r => if r.stop then (s, .stopped) else s.follow q r.target 1 true
      | _, _ =>
        if rep = 0 ∨ x.pass < rep then s.follow q x.entry (x.pass + 1) false
        else if bitOf w0 13 then (s, .done)
        else s.follow q (getBits w0 14 10) 1 false
    .next ((r.1.setSeq q { r.1.seq q with next := r.2, req := pend }).jumpPend q)

/-- SEGMENT_BOUNDARY: the boundary's instant is reached: the request that chose what follows takes effect and the shadows apply, once no
timed apply due by then is still to be done; or the run ends (R185, R186, R192, R199, R202, R204, R209, R215, R216). Log: 23 DEDUCED. -/
def execSegmentBoundary (q : Fin 2) (s : State) : Out :=
  let q := q.val
  if (s.seq q).ending.isSome ∧ (s.seq q).bnd.isNone then s.seqEnded q
  else
    let s' := s.roll q
    match (s'.seq q).bnd with
    | none => noEvent s
    | some (t, _) =>
      if s.seqStored q t ∨ s.seqState q = 1 then noEvent s
      else
        let s' := s'.flowTo t
        .next ((((s'.setSeq q { s'.seq q with bnd := none }).jumpPend q).seqBoundaryApply q t).regrid q)

/-! ### Starting and stopping (R203, R206 to R208) -/

/-- RUN_START: an armed sequencer reaches t_start, its first boundary, where waiting applies take place; its channels stream (R111, R206, R209,
R215, R216). Log: 23 DEDUCED. -/
def execRunStart (q : Fin 2) (s : State) : Out :=
  let q := q.val
  match (s.seq q).start with
  | none => noEvent s
  | some t =>
    if s.seqState q ≠ 1 ∨ s.seqStored q t then noEvent s
    else
      let s := s.flowTo t
      let s := (s.setSeq q { s.seq q with start := none, armFrom := none }).setSeqState q 2
      let s := (s.seqBoundaryApply q t).regrid q
      .next (s.forN 64 (fun s o =>
        if s.takesEdges q o ∧ s.oState o = 0 then s.oPut o fWARP_CH_STATUS_STATE fMOUT_STATUS_STATE 4 else s))

/-- The GO of R206 without the stream's part: `s` is the state whose stream stands at the run's first item. A firing of START_LINE in the wc of the
GO starts the run (R221). Log: 26 DEDUCED. -/
def State.seqGo (s : State) (q : Nat) : State :=
  if s.seqRunning q then s.flag fSEQ_STATUS_GO_IGNORED q
  else
    let md := s.get fSEQ_MODE_START_MODE q
    let ts := tsOf (s.word (aSEQ_START_LO + q)) (s.word (aSEQ_START_HI + q))
    let soon := tAdd s.nowT (wcs 1024)
    if md = 3 ∨ (md = 1 ∧ tLt ts soon) then s.flag fSEQ_STATUS_START_LATE q
    else
      let e := s.get fSEQ_MODE_START_ENTRY q
      let x := { s.seq q with req := none, next := .open_, gov := none }
      let s := (s.setSeq q x).jumpPend q
      let r := s.follow q e 1 false
      match r.2 with
      | .play _ _ ent w0 w1 _ =>
        let at_ := if md = 0 then some soon else if md = 1 then some ts else none
        let y := { x with entry := e, pass := 1, ent := ent, seg := entrySeg ent, w0 := w0, w1 := w1, wait := none, level := 0, start := at_,
                          armFrom := if md = 2 then some s.nowT else none, base := at_.getD x.base, live := at_.isSome, k := 0,
                          per := holdPer (s.rawPer q), idx := 0, addr := segStart w0, stack := [], missing := false, again := none,
                          lastIter := none, holed := false, passFrom := x.pos }
        let s := ((r.1.perClamp q (s.rawPer q)).setSeq q y).setSeqState q 1
        let l := s.get fSEQ_MODE_START_LINE q
        match (nth s.lines l).firedAt with
        | some f => if md = 2 ∧ tFloor f = s.nowT then s.lineStart l f q else s
        | none => s
      | _ => r.1.setSeqState q 5

/-- The first slot not yet issued, where slots are being issued (R208). Log: 26 DEDUCED. -/
def State.seqUnissued (s : State) (q : Nat) : Option Nat :=
  let x := s.seq q
  if x.live then some (x.slotT (match x.wait with | some w => x.slotAfter w.k (tAdd s.nowT (wcs 129)) | none => x.k)) else none

/-- A stop of a sequencer that is armed disarms it; one that is not running goes to STOPPED (R208, R209). -/
def State.seqStopIdle (s : State) (q : Nat) : State :=
  if s.seqState q = 1 then s.seqEnd q 0 (s.seqUnissued q) else s.setSeqState q 0

/-- SEQ_STOP: STOP with STOP_AT 0 (R192, R208). Log: 26 DEDUCED. -/
def execSeqStop (q : Fin 2) (s : State) : Out :=
  let q := q.val
  let s := s.put fSEQ_CMD_STOP_AT 0 q
  .next (if s.seqState q = 2 ∨ s.seqState q = 3 then s.seqEnd q 0 (s.seqUnissued q) else s.seqStopIdle q)

/-- SEQ_STOP_AT_END: STOP with STOP_AT 1 registers a stop request (R203, R205, R208). -/
def execSeqStopAtEnd (q : Fin 2) (s : State) : Out :=
  let q := q.val
  let s := s.put fSEQ_CMD_STOP_AT 1 q
  if s.seqState q = 2 ∨ s.seqState q = 3 then .next (s.seqRequest q ⟨true, 0, none⟩)
  else .next (s.seqStopIdle q)

/-- SEQ_JUMP: JUMP registers a jump request, held until it takes effect, another replaces it, a run ends or a GO clears it (R203 to R205). -/
def execSeqJump (q : Fin 2) (target : Fin 1024) (s : State) : Out :=
  let q := q.val
  let s := s.put fSEQ_CMD_TARGET target.val q
  .next (s.seqRequest q ⟨false, target.val, none⟩)

/-- SEQ_RELEASE: RELEASE frees a HOST-mode wait (R200). -/
def execSeqRelease (q : Fin 2) (s : State) : Out :=
  let q := q.val
  let x := s.seq q
  match x.wait with
  | some w =>
    if w.mode = 2 ∧ w.rel.isNone then
      .next (s.setSeq q { x with wait := some (w.release (x.slotAfter w.k (tAdd s.nowT (wcs 128)))) })
    else .next s
  | none => .next s

/-- SEQ_APPLY: at the next segment boundary, or at once when not running (R215). -/
def execSeqApply (q : Fin 2) (s : State) : Out :=
  .next (if s.seqRunning q.val then s.flag fSEQ_STATUS_APPLY_WAIT q.val else s.seqApply q.val)

/-- SEQ_TAPPLY_ARM (R117, R216). -/
def execSeqTapplyArm (q : Fin 2) (s : State) : Out :=
  if s.is fSEQ_CMD_TAPPLY_PEND q.val then .next (s.flag fSEQ_CMD_ARM_BUSY q.val)
  else
    let due := tsOf (s.word (aSEQ_TAPPLY_LO + q.val)) (s.word (aSEQ_TAPPLY_HI + q.val))
    .next ((s.flag fSEQ_CMD_TAPPLY_PEND q.val).sendDue ⟨.seqApply q, 3, due, 6⟩)

/-- SEQ_TAPPLY_CANCEL (R117, R216). -/
def execSeqTapplyCancel (q : Fin 2) (s : State) : Out :=
  match s.cancelDue (fun c => c.target == .seqApply q) with
  | some s => .next (s.unflag fSEQ_CMD_TAPPLY_PEND q.val)
  | none => .next s

end Sys2Proof.Machine
end

