-- ==== Sys2Proof/Machine/Probe.lean ====
section
/-! DEFINITION. The probe waveform builders and the transmit links (chapter 07): sample grid, NCO, chips, sample codes, applies and
link states. Sine and cosine are evaluated in fixed point of 2^-64 (log entry 24). -/

namespace Sys2Proof.Machine

/-- T_S in wc as a fraction (R224). -/
def sampleStep (ratio : Nat) : Nat × Nat := if ratio = 0 then (3, 2) else if ratio = 1 then (5, 3) else (2, 1)

/-- T_S of fibre `f` as it governs the builder. -/
def State.ts (s : State) (f : Nat) : Nat × Nat := sampleStep (fPROBE_CFG_RATIO.get (s.probeCfg f))

/-- FTW of a tone, s48 (R226). -/
def State.ftw (s : State) (f t : Nat) : Nat :=
  s.get fPROBE_TONE_FTW_HI_FTW_HI (16 * f + t) * 2 ^ 36 + (s.word (aPROBE_TONE_FTW_LO + 16 * f + t)).toNat

/-- Is a tone in band: |FTW| ≤ 0.45 × 2^48 (R226)? -/
def State.inBand (s : State) (f t : Nat) : Bool := decide (20 * (sgn 48 (s.ftw f t)).natAbs ≤ 9 * 2 ^ 48)

/-- The NCO phase of a tone at sample `n`, in 2^-48 cycles (R225). -/
def State.ncoPhase (s : State) (f t n : Nat) : Nat :=
  (s.ftw f t * n + s.get fPROBE_TONE_CTRL_PHASE_OFS (16 * f + t) * 2 ^ 32) % 2 ^ 48

/-- q of a chip at `inst` for sample `n`: its distance in 1/64 samples, halves rounding up (R227). Log: 33 DEDUCED. -/
def chipQ (ab : Nat × Nat) (n inst : Nat) : Int :=
  let u : Int := ((1024 * ab.1 : Nat) : Int)
  (128 * ((n * 1024 * ab.1 : Nat) - (inst * ab.2 : Nat) : Int) + u) / (2 * u)

/-- The first sample at or after an instant (R224). -/
def sampleAt (ab : Nat × Nat) (t : Nat) : Nat := (t * ab.2 + 1024 * ab.1 - 1) / (1024 * ab.1)

/-- The first sample with q ≥ 0 for an instant. -/
def firstSample (ab : Nat × Nat) (inst : Nat) : Nat := (128 * inst * ab.2 - 1024 * ab.1 + 128 * 1024 * ab.1 - 1) / (128 * 1024 * ab.1)

/-- The coefficient h_b[p][i] as it applies to a contribution computed at instant `t` (R227, R233). -/
def State.shape (s : State) (f b q t : Nat) : Int :=
  sgn 18 (s.wordFor (aSHAPE_BANK + 4096 * f + 2048 * b + 32 * (q % 64) + q / 64) t).toNat

/-- The contribution of one chip to sample `n` as (real, imaginary) in 2^-96 (R227, R228): AMP × e^(jφ) × symbol × h. Log: 33 DEDUCED. -/
def State.chipPart (s : State) (f n : Nat) (c : Chip) : Int × Int :=
  let q := chipQ (s.ts f) n c.inst
  if q < 0 ∨ 2048 ≤ q ∨ ¬ s.is fPROBE_TONE_CTRL_EN (16 * f + c.tone) ∨ ¬ s.inBand f c.tone then (0, 0)
  else
    let cs := cosSin (s.ncoPhase f c.tone n)
    let k : Int := (s.get fPROBE_TONE_CTRL_AMP (16 * f + c.tone) : Nat) * s.shape f (c.bank.getD (s.get fPROBE_CFG_SHAPE_SEL f)) q.toNat (n * 1024 * (s.ts f).1 / (s.ts f).2 % tMod)
    let re := k * cs.1
    let im := k * cs.2
    match c.sym with
    | 0 => (re, im)
    | 1 => (-im, re)
    | 2 => (-re, -im)
    | _ => (im, -re)

/-- A component of w(n) as a sample code (R229): round(2^15 × w), within ±32 767; and whether it saturated. Log: 33 DEDUCED. -/
def sampleCode (gain : Nat) (z : Int) : Int × Bool :=
  let v := roundDiv ((gain : Nat) * z) (2 ^ 95)
  (max (-32767) (min 32767 v), decide (v < -32767 ∨ 32767 < v))

/-- Does the builder emit zero samples (R230, R248, R557)? -/
def State.probeZero (s : State) (f : Nat) : Bool :=
  !s.is fPROBE_CFG_EN f || !s.is fLIGHT_CFG_GATE_EN f || s.ilLatch || s.is fPWR_THERM_SHUTDOWN || s.safe

/-- Sample `n` of fibre `f` is computed (R228 to R230). Log: 24 DEDUCED, 33 DEDUCED. -/
def State.probeSample (s : State) (f n : Nat) : State :=
  let p := nth s.probes f
  if s.probeZero f then { s with probes := s.probes.set f { p with nextN := n + 1, outI := 0, outQ := 0 } }
  else
    let sum := p.chips.foldl (fun a c => let x := s.chipPart f n c; (a.1 + x.1, a.2 + x.2)) ((0 : Int), (0 : Int))
    let g := s.get fPROBE_CFG_GAIN f
    let i := sampleCode g sum.1
    let q := sampleCode g sum.2
    let s := { s with probes := s.probes.set f { p with nextN := n + 1, outI := i.1, outQ := q.1 } }
    if i.2 ∨ q.2 then (s.flag fPROBE_STATUS_SAT f).bump fPROBE_COUNT_SAT_COUNT f else s

/-- Tones out of band with EN 1 set BAND_ERR (R226). -/
def State.bandCheck (s : State) (f : Nat) : State :=
  if (List.range 16).any (fun t => s.is fPROBE_TONE_CTRL_EN (16 * f + t) && !s.inBand f t) then s.flag fPROBE_STATUS_BAND_ERR f else s

/-- The samples of fibre `f` before instant `t` are computed; chips that have ended leave. -/
def State.probeTo (s : State) (f t : Nat) : State :=
  let ab := s.ts f
  let stop := sampleAt ab t
  let p := nth s.probes f
  let from_ := match p.chips with
    | [] => stop
    | c :: _ => max p.nextN (min stop (firstSample ab c.inst))
  let s := { s with probes := s.probes.set f { p with nextN := max p.nextN from_ } }
  let s := (List.range (stop - from_)).foldl (fun s i => s.probeSample f (from_ + i)) s
  let p := nth s.probes f
  { s with probes := s.probes.set f { p with chips := p.chips.filter (fun c => chipQ ab stop c.inst < 2048), nextN := max p.nextN stop } }

/-- Both builders compute the samples before the present instant. -/
def State.probesNow (s : State) : State := (s.probeTo 0 s.nowT).probeTo 1 s.nowT

/-- The sample count of the builders goes on from the present instant: after a timebase load, or a change of RATIO (R224). -/
def State.probeGrid (s : State) (f : Nat) : State :=
  { s with probes := s.probes.set f { nth s.probes f with nextN := sampleAt (s.ts f) s.nowT } }

/-- IL_CLEAR: the latch clears if INTERLOCK_N is high, `high` the filtered level; samples before it are zero (R230, R246, R249). Log: 36 DEDUCED. -/
def execIlClear (high : Bool) (s : State) : Out :=
  let s := s.probesNow.put fLIGHT_LOCK_IL_IN (b2n high)
  .next (if high then s.ilRelease else s)

/-- NO_LIGHT is formed at a read (R230). Log: 89 DEDUCED. -/
def State.probeLive (s : State) (a : Nat) (w : Word) : Word :=
  if aPROBE_STATUS ≤ a ∧ a < aPROBE_STATUS + 2 then
    fPROBE_STATUS_NO_LIGHT.set w (b2n (s.ilLatch || !s.is fLIGHT_CFG_GATE_EN (a - aPROBE_STATUS)))
  else w

/-! ### Applies (R231, R232) -/

/-- The words of a builder with class-D fields. -/
def probeWords (f : Nat) : List Nat :=
  (aPROBE_CFG + f) :: (List.range 16).flatMap (fun t =>
    [aPROBE_TONE_CTRL + 16 * f + t, aPROBE_TONE_FTW_LO + 16 * f + t, aPROBE_TONE_FTW_HI + 16 * f + t])

/-- The shadows of a builder apply for samples at or after instant `t`; chips before it keep their shape bank (R227, R231). -/
def State.applyProbe (s : State) (f t : Nat) : State :=
  let s := s.probeTo f t
  let p := nth s.probes f
  let b := s.get fPROBE_CFG_SHAPE_SEL f
  let chips := p.chips.map (fun c => if c.bank.isNone ∧ tLt c.inst t then { c with bank := some b } else c)
  let s := { s with probes := s.probes.set f { p with chips := chips } }
  ((s.applyWords (probeWords f)).unflag fPROBE_STATUS_APPLY_WAIT f).bandCheck f

/-- Is a running sequencer bound to fibre `f` (R222, R231)? -/
def State.feedRuns (s : State) (f : Nat) : Bool :=
  (List.range 2).any (fun q => (fibresOf (fSEQ_CFG_FIBRE.get (s.seqCfg q))).contains f && s.seqRunning q)

/-- PROBE_APPLY: GO applies the selected builders at their shot boundaries, or from the first sample not yet computed (R231). -/
def execProbeApply (mask : Fin 4) (s : State) : Out :=
  let s := s.put fPROBE_APPLY_FIBRE_MASK mask.val
  .next ((bitList mask.val 2).foldl (fun s f =>
    if s.feedRuns f then s.flag fPROBE_STATUS_APPLY_WAIT f else s.applyProbe f s.nowT) s)

/-- PROBE_TAPPLY_ARM: a timed apply of source 0x6 (R117, R232). -/
def execProbeTapplyArm (mask : Fin 4) (s : State) : Out :=
  let s := s.put fPROBE_TAPPLY_CTRL_FIBRE_MASK mask.val
  if s.is fPROBE_TAPPLY_CTRL_PENDING then .next (s.flag fPROBE_TAPPLY_CTRL_ARM_BUSY)
  else .next ((s.flag fPROBE_TAPPLY_CTRL_PENDING).sendDue
    ⟨.probeApply mask.val, 3, tsOf (s.word aPROBE_TAPPLY_LO) (s.word aPROBE_TAPPLY_HI), 6⟩)

/-- Is a target a probe apply? -/
def isProbeApply : DueTarget → Bool
  | .probeApply _ => true
  | _ => false

/-- PROBE_TAPPLY_CANCEL (R117, R232). -/
def execProbeTapplyCancel (s : State) : Out :=
  match s.cancelDue (fun c => isProbeApply c.target) with
  | some s => .next (s.unflag fPROBE_TAPPLY_CTRL_PENDING)
  | none => .next s

/-- The probe part of a shot boundary of fibre `f` at instant `t` (R6, R223, R231, R496). -/
def State.probeShot (s : State) (f t : Nat) : State :=
  let s := s.probeTo f t
  let s := if s.is fPROBE_STATUS_APPLY_WAIT f then s.applyProbe f t else s
  let p := nth s.probes f
  let s := { s with probes := s.probes.set f { p with gov := none } }
  (s.flag fPROBE_STATUS_SHOT_SEEN f).bump fPROBE_COUNT_SHOT_COUNT f

/-- CHIP: chips for the tones of the bound fibres; samples up to the present are computed (R189, R190, R222, R227 to R229, R316). -/
def execChip (q : Fin 2) (s : State) : Out :=
  match s.issue q.val [1] (chipItem q.val) with
  | .next s' => .next ((s'.probeTo 0 s'.nowT).probeTo 1 s'.nowT)
  | r => r

/-! ### The transmit link (R234 to R237, R248) -/

/-- T_LEMC of the transmit link in wc (R234). -/
def State.txLemc (s : State) (f : Nat) : Nat :=
  let c := s.word (aPROBE_CFG + f)
  let n := if fPROBE_CFG_LINKSET.get c = 1 then 128 else 192
  let ab := sampleStep (fPROBE_CFG_RATIO.get c)
  n * ab.1 / ab.2

/-- Extended multiblocks discarded since the last count are counted while the link is not UP (R237). -/
def State.txDrops (s : State) (f : Nat) : State :=
  let x := nth s.txLinks f
  let n := s.now / s.txLemc f - x.at_ / s.txLemc f
  let s := { s with txLinks := s.txLinks.set f { x with at_ := s.now } }
  if s.get fPROBE_LINK_STATUS_STATE f = 2 then s else s.bump fPROBE_LINK_STATUS_LINK_DROPS f n

/-- The state of a transmit link changes; its passing cycles start again. -/
def State.txState (s : State) (f st : Nat) : State :=
  let s := s.txDrops f
  { s with txLinks := s.txLinks.set f { nth s.txLinks f with good := 0 } }.put fPROBE_LINK_STATUS_STATE st f

/-- TX_LINK_ENABLE: LINK_EN set takes a link that is DOWN to CLK_WAIT (R237). -/
def execTxLinkEnable (f : Fin 2) (s : State) : Out :=
  let s := s.flag fPROBE_LINK_CTRL_LINK_EN f.val
  let n := if s.get fPROBE_CFG_LINKSET f.val = 0 then 3 else 2
  .next (if s.get fPROBE_LINK_STATUS_STATE f.val = 0 then (s.txState f.val 1).forN n (fun s i => s.wakeLane (3 * f.val + i)) else s)

/-- TX_LINK_DISABLE: LINK_EN cleared takes the link DOWN at once (R237). -/
def execTxLinkDisable (f : Fin 2) (s : State) : Out := .next ((s.unflag fPROBE_LINK_CTRL_LINK_EN f.val).txState f.val 0)

/-- A failed device-clock check of a transmit link (R235). -/
def State.txClockFail (s : State) (f : Nat) : State := ((s.txState f 1).flag fPROBE_LINK_STATUS_CLK_ERR f).report 13 f 0

/-- The wc of one device-clock period of a transmit link (R234). -/
def State.txPeriod (s : State) (f : Nat) : Nat :=
  let c := s.word (aPROBE_CFG + f)
  if fPROBE_CFG_LINKSET.get c = 1 then 8 else if fPROBE_CFG_RATIO.get c = 0 then 6 else if fPROBE_CFG_RATIO.get c = 1 then 10 else 8

/-- Do 64 device-clock cycles of `p` wc that lasted `span` wc/1024 pass the check; none where the clock was absent for 4 nominal periods (R235)? -/
def clockOk (p : Nat) (span : Option Nat) : Bool :=
  match span with
  | some n => decide (((n : Int) - (wcs (64 * p) : Nat)).natAbs ≤ 1024)
  | none => false

/-- TX_CLOCK_CHECK: the check of 64 device-clock cycles, which lasted `span` wc/1024, or of a clock that is absent (R235, R237). No clock derived
from the warp clock passes while WARP runs on the safe clock (R248). -/
def execTxClockCheck (f : Fin 2) (span : Option Nat) (s : State) : Out :=
  let st := s.get fPROBE_LINK_STATUS_STATE f.val
  if st = 0 then noEvent s
  else if clockOk (s.txPeriod f.val) span ∧ ¬ s.safe then
    let x := nth s.txLinks f.val
    .next { s with txLinks := s.txLinks.set f.val { x with good := x.good + 64 } }
  else .next (s.txClockFail f.val)

/-- TX_LINK_UP: after 1 024 passing cycles the link goes UP at the next multiblock boundary (R236, R237). -/
def execTxLinkUp (f : Fin 2) (s : State) : Out :=
  let n := s.txLemc f.val
  if s.get fPROBE_LINK_STATUS_STATE f.val = 1 ∧ 1024 ≤ (nth s.txLinks f.val).good ∧ ¬ s.safe then
    .next ((s.flowTo (wcs ((s.now + n - 1) / n * n))).txState f.val 2)
  else noEvent s

/-- At WARP's switch to the safe clock the device clocks stop, and each link that is UP fails its check (R235, R248). -/
def State.txSwitch (s : State) : State :=
  s.forN 2 (fun s f => if s.get fPROBE_LINK_STATUS_STATE f = 2 then s.txClockFail f else s)

/-- What an access to word `a` finds brought up to its instant: the flags and counts of the builders and the links (R229, R237), and Reed's gates,
units and FIFOs (R256). -/
def State.bringUp (s : State) (a : Nat) : State :=
  if aPROBE_STATUS ≤ a ∧ a < aPROBE_STATUS + 2 then s.probeTo (a - aPROBE_STATUS) s.nowT
  else if aPROBE_COUNT ≤ a ∧ a < aPROBE_COUNT + 2 then s.probeTo (a - aPROBE_COUNT) s.nowT
  else if aPROBE_LINK_STATUS ≤ a ∧ a < aPROBE_LINK_STATUS + 2 then s.txDrops (a - aPROBE_LINK_STATUS)
  else if isReedWord a then s.reedTo s.nowT
  else s

/-- TX_FIFO_ERROR: the crossing into CONVTX over- or underflows (R237). -/
def execTxFifoError (f : Fin 2) (s : State) : Out :=
  let s := (s.flag fPROBE_LINK_STATUS_FIFO_ERR f.val).report 13 f.val 1
  .next (if s.get fPROBE_LINK_STATUS_STATE f.val = 2 then s.txState f.val 1 else s)

end Sys2Proof.Machine
end

