-- ==== Sys2Proof/Machine/CalVals.lean ====
section
/-! DEFINITION. Calibration records and the values in force: validity, interpolation between temperatures, recomputation, and the
placing of a new record (R276, R289 to R295, R306, R315). -/

namespace Sys2Proof.Machine

/-- Address of the header word of record `r` of unit `u`. -/
def recHdr (u r : Nat) : Nat :=
  if u < 104 then aGENREC_HDR + 0x4000 * u + 0x800 * r
  else if u < 120 then aTIREC_HDR + 0x800 * (u - 104) + 0x100 * r
  else aRXREC_W0 + 0x40 * (u - 120) + 4 * r

/-- Records a unit may hold: 8, or record 0 only under VOLATILE (R294). -/
def State.recSlots (s : State) : Nat := if s.is fCAL_CFG_STORE then 1 else 8

/-- The valid records of a unit: temperature and number. -/
def State.recs (s : State) (u : Nat) : List (Int × Nat) :=
  (List.range s.recSlots).filterMap (fun r =>
    let w := s.word (recHdr u r)
    if bitOf w 35 then some (sgn 12 (getBits w 23 12), r) else none)

/-- DELTA_T in 1/16 °C. -/
def State.deltaT (s : State) : Int := (max 1 (s.get fCAL_CFG_DELTA_T) : Nat)

/-- The stream indices that a fibre's receive parameter set uses (R298, R299). -/
def State.usedPos (s : State) (f : Nat) : List Nat := if s.get fRXW_LINK_CFG_RXSET f = 2 then [0, 1] else [0, 1, 2, 3]

/-- Is the position of a receive unit used? -/
def State.posUsed (s : State) (p : Nat) : Bool := (s.usedPos (p / 4)).contains (p % 4)

/-- Is a unit's calibration valid at temperature `t` (R291, R315)? -/
def State.unitValid (s : State) (u : Nat) (t : Int) : Bool :=
  let d := s.deltaT
  let rs := s.recs u
  (decide (120 ≤ u ∧ u < 128) && !s.posUsed (u - 120)) || rs.any (fun e => decide ((e.1 - t).natAbs ≤ d.natAbs)) ||
    rs.any (fun a => decide (a.1 ≤ t) && rs.any (fun b => decide (t ≤ b.1 ∧ b.1 - a.1 ≤ 4 * d)))

/-- The record with the highest temperature at or below `t`. -/
def recBelow (rs : List (Int × Nat)) (t : Int) : Option (Int × Nat) :=
  rs.foldl (fun a e => if t < e.1 then a else match a with | some b => if b.1 < e.1 then some e else a | none => some e) none

/-- The record with the lowest temperature above `t`. -/
def recAbove (rs : List (Int × Nat)) (t : Int) : Option (Int × Nat) :=
  rs.foldl (fun a e => if e.1 ≤ t then a else match a with | some b => if e.1 < b.1 then some e else a | none => some e) none

/-- A value in force at temperature `t` from the values `v r` of the valid records (R292). -/
def interp (rs : List (Int × Nat)) (t : Int) (v : Nat → Int) (dflt : Int) : Int :=
  match recBelow rs t, recAbove rs t with
  | none, none => dflt
  | some a, none => v a.2
  | none, some b => v b.2
  | some a, some b => v a.2 + roundDiv ((v b.2 - v a.2) * (t - a.1)) (b.1 - a.1).toNat

/-- The values in force of generator unit `u` at temperature `t`. -/
def State.genVals (s : State) (u : Nat) (t : Int) : GenVals :=
  let rs := s.recs u
  let tap := fun r f => s.word (recHdr u r - 0x400 + f)
  { taps := (List.range 1024).map (fun f =>
      BitVec.ofNat 36 (enc 7 (interp rs t (fun r => sgn 7 (fGENREC_TAP_C0.get (tap r f))) 0) * 128 +
        enc 7 (interp rs t (fun r => sgn 7 (fGENREC_TAP_C1.get (tap r f))) 0))),
    skew := interp rs t (fun r => sgn 10 (fGENREC_HDR_SKEW.get (s.word (recHdr u r)))) 0,
    echoOfs := interp rs t (fun r => sgn 10 (fGENREC_HDR_ECHO_OFS.get (s.word (recHdr u r)))) 0 }

/-- Reed input `i` takes its values in force at temperature `t` (R255, R292, R293). -/
def State.tiLoad (s : State) (i : Nat) (t : Int) : State :=
  let u := 104 + i
  let rs := s.recs u
  let word := fun r k => s.word (recHdr u r - 0x80 + k)
  let dly := interp rs t (fun r => sgn 18 (fTIREC_DELAY_DELAY.get (word r 0x81))) (Config.nominalDelay i : Nat)
  let rb := interp rs t (fun r => (fTIREC_HDR_RANKB.get (word r 0x80) : Nat)) 512
  let s' := s.forN 128 (fun s' k =>
    s'.setWordDated (aREED_BIN + 128 * i + k) (BitVec.ofNat 36 (interp rs t (fun r => ((word r k).toNat : Nat)) 1024).toNat))
  s'.setWordDated (aREED_IN_CAL + i) (BitVec.ofNat 36 (enc 18 dly * 2 ^ 18 + rb.toNat % 4096 * 64))

/-- Receive position `p` takes its values in force at temperature `t` (R292, R306, R315). Log: 39 DEDUCED. -/
def State.rxLoad (s : State) (p : Nat) (t : Int) : State :=
  let rs := s.recs (120 + p)
  let w1 := fun r => s.word (recHdr (120 + p) r + 1)
  let w2 := fun r => s.word (recHdr (120 + p) r + 2)
  let ofs := interp rs t (fun r => sgn 16 (fRXREC_W1_OFS.get (w1 r))) 0
  let gain := interp rs t (fun r => (fRXREC_W1_GAIN.get (w1 r) : Nat)) 65536
  let xt := if p % 4 = 0 ∨ p % 4 = 2 then 0 else interp rs t (fun r => sgn 18 (fRXREC_W2_XT.get (w2 r))) 0
  let sk := interp rs t (fun r => sgn 11 (fRXREC_W2_SKEW.get (w2 r))) 0
  (s.setWord (aRXW_CORR_OG + p) (BitVec.ofNat 36 (enc 16 ofs * 2 ^ 20 + gain.toNat % 2 ^ 18 * 4))).setWord (aRXW_CORR_XS + p)
    (BitVec.ofNat 36 (enc 18 xt * 2 ^ 18 + enc 11 sk * 2 ^ 7))

/-- INTERP, the temperature of the last recomputation. -/
def State.interpT (s : State) : Int := s.geti fCAL_TEMP_INTERP

/-- Does a run hold unit `u` (R293, R295)? -/
def State.unitHeld (s : State) (u : Nat) : Bool :=
  let c := s.cal
  let on := c.phase != 0
  if u < 72 then on && (c.kind == 4 || (c.kind == 0 && c.bank == u / 9))
  else if u < 104 then on && (c.kind == 4 || (c.kind == 1 && c.bank.testBit ((u - 72) / 4)))
  else if u < 120 then s.is fREED_IN_STATUS_CD_ACTIVE (u - 104)
  else s.rxCal.phase != 0 && (u == 128 || (s.rxCal.cur :: s.rxCal.todo).contains ((u - 120) / 4))

/-- The temperature at which the values that unit `u` waits to load are formed. -/
def State.loadT (s : State) (u : Nat) : Option Int := (s.loads.find? (fun e => e.1 == u)).map (·.2)

/-- Unit `u` waits no more. -/
def State.loadOver (s : State) (u : Nat) : State := { s with loads := s.loads.filter (fun e => e.1 != u) }

/-- A unit's values in force wait to be recomputed for temperature `t` and loaded. -/
def State.loadWait (s : State) (u : Nat) (t : Int) : State := { s.loadOver u with loads := (s.loadOver u).loads ++ [(u, t)] }

/-- A Reed input loads at once unless it is held (R255, R293). Log: 39 DEDUCED. -/
def State.tiLoadNow (s : State) (u : Nat) (t : Int) : State :=
  if 104 ≤ u ∧ u < 120 ∧ s.unitHeld u = false then (s.loadOver u).tiLoad (u - 104) t else s.loadWait u t

/-- Every unit's values in force are recomputed at the present temperature (R293). Log: 39 DEDUCED. -/
def State.recompute (s : State) : State :=
  (s.put fCAL_TEMP_INTERP (s.get fCAL_TEMP_NOW)).forN 129 (fun s u => s.tiLoadNow u s.calT)

/-- Where a new record of unit `u` at temperature `t` goes (R294). -/
def State.recSlot (s : State) (u : Nat) (t : Int) : Nat :=
  if s.is fCAL_CFG_STORE then 0
  else
    let rs := s.recs u
    match rs.find? (fun e => decide (2 * (e.1 - t).natAbs ≤ s.deltaT.natAbs)) with
    | some e => e.2
    | none =>
      match (List.range 8).find? (fun r => rs.all (fun e => e.2 != r)) with
      | some r => r
      | none => (rs.foldl (fun (a : Nat × Nat) e => if (e.1 - t).natAbs < a.1 then ((e.1 - t).natAbs, e.2) else a) (100000, 0)).2

/-- The mean of T at the start and the end of a unit's run, halves rounding up (R290). Log: 42 DEDUCED. -/
def meanT (a b : Int) : Int := roundDiv (a + b) 2

/-- Did T move by more than DELTA_T/2 during a unit's run (R290)? -/
def State.drifted (s : State) (t0 : Int) : Bool := decide (s.deltaT < 2 * (s.calT - t0).natAbs)

/-- The header word of a record: VALID, TEMP and further bits. -/
def hdrWord (t : Int) (rest : Nat) : Word := BitVec.ofNat 36 (2 ^ 35 + enc 12 t * 2 ^ 23 + rest)

/-- The record of a generator unit at temperature `t`: its corrections and, where it carries a ball, SKEW and ECHO_OFS; its values at the present
temperature wait to be loaded (R278, R290, R293, R294). -/
def State.genRecord (s : State) (u : Nat) (t : Int) (cs : List (Int × Int)) (skew echo : Int) : State :=
  let h := recHdr u (s.recSlot u t)
  let s := cs.zipIdx.foldl (fun s e => s.setWord (h - 0x400 + e.2) (BitVec.ofNat 36 (enc 7 e.1.1 * 128 + enc 7 e.1.2))) s
  (s.setWord h (hdrWord t (enc 10 skew * 2 ^ 13 + enc 10 echo * 2 ^ 3))).loadWait u s.calT

/-- The sequence of output `m` ends with no ball values: the record held for its unit keeps those in force (R276, R279). -/
def State.heldRecord (s : State) (m : Nat) : State :=
  match s.cal.held with
  | none => s
  | some (t, cs) =>
    let v := getKey {} s.vals (72 + 4 * m)
    { (s.flag fCAL_STATUS_SKEW_KEPT).genRecord (72 + 4 * m) t cs v.skew v.echoOfs with cal := { s.cal with held := none } }

/-- CAL_DUE is formed at a read (R291). Log: 89 DEDUCED. -/
def State.calLive (s : State) (a : Nat) (w : Word) : Word :=
  if a = aCAL_DUE then
    let t := s.calT
    let bad := fun lo n => (List.range n).any (fun i => !s.unitValid (lo + i) t)
    let banks := ((List.range 8).map (fun b => if bad (9 * b) 9 then 2 ^ b else 0)).sum
    let m := bad 72 32
    let i := bad 104 16
    let r := bad 120 9
    let w := fCAL_DUE_BANK.set w banks
    let w := fCAL_DUE_RX.set (fCAL_DUE_TI.set (fCAL_DUE_MOUT.set w (b2n m)) (b2n i)) (b2n r)
    fCAL_DUE_VALID_ALL.set w (b2n (banks == 0 && !m && !i && !r))
  else w

end Sys2Proof.Machine
end

