-- ==== Sys2Proof/Machine/Rx.lean ====
section
/-! DEFINITION. The coherent receive path (chapter 10): links and releases, receive slices, the rotating spare, applies, shots and the
Weft array's errors. -/

namespace Sys2Proof.Machine

/-! ### The sample grid (R299, R302) -/

/-- The label instant of sample `n`, to the nearest wc/1024. Log: 44 DEDUCED. -/
def State.labelT (s : State) (f n : Nat) : Nat :=
  let ab := s.rxTs f
  ((2 * n * 1024 * ab.1 + ab.2) / (2 * ab.2)) % tMod

/-- The first label of release boundary `m`. -/
def State.blockLabel (s : State) (f m : Nat) : Nat := m * s.rxBlock f + s.get fRXW_LINK_CFG_RELEASE f

/-! ### Spans -/

/-- Does a span meet the instants from `a` to `b`? -/
def spanMeets (a b : Nat) (p : Span) : Bool := tLe p.1 b && (match p.2 with | some e => tLe a e | none => true)

/-- Slice errors of position `p` begin at `t`. -/
def State.slErrOpen (s : State) (p t : Nat) : State :=
  let x := s.rxOf (p / 4)
  if x.slErrs.any (fun e => e.1 == p && e.2.2.isNone) then s
  else s.setRx (p / 4) { x with slErrs := x.slErrs ++ [(p, (t, none))] }

/-- Slice errors of position `p` end at `t`. -/
def State.slErrClose (s : State) (p t : Nat) : State :=
  let x := s.rxOf (p / 4)
  s.setRx (p / 4) { x with slErrs := x.slErrs.map (fun e => if e.1 = p ∧ e.2.2.isNone then (p, (e.2.1, some t)) else e) }

/-! ### The rotating spare (R309 to R312) -/

/-- ROLE of the spare. -/
def State.spareRole (s : State) : Nat := s.get fRXW_SPARE_STATUS_ROLE

/-- POS of the spare. -/
def State.sparePos (s : State) : Nat := s.get fRXW_SPARE_STATUS_POS

/-- Is slice `p` marked FAULTY? -/
def State.sliceFaulty (s : State) (p : Nat) : Bool := if p = 8 then s.is fRXW_SPARE_STATUS_SPARE_FAULTY else s.bit fRXW_SLICE_STATUS_FAULTY p

/-- The active positions: used, of a fibre whose link is UP, with a slice that is not FAULTY (R309). -/
def State.activePos (s : State) : List Nat :=
  (List.range 8).filter (fun p => s.posUsed p && s.get fRXW_LINK_STATUS_STATE (p / 4) == 3 && !s.sliceFaulty p)

/-- The spare takes a role and a position. -/
def State.setSpare (s : State) (role pos : Nat) : State := (s.put fRXW_SPARE_STATUS_ROLE role).put fRXW_SPARE_STATUS_POS pos

/-- The spare joins position `p` to check it, for the DWELL that is in the register now (R309, R327). -/
def State.spareJoin (s : State) (p : Nat) : State :=
  { s with spare := { s.spare with dwell := 0, len := max 1 (s.get fRXW_SPARE_CTRL_DWELL), joinAt := s.now } }.setSpare 1 p

/-- The active position after `p`, wrapping to the lowest. -/
def State.posAfter (s : State) (p : Nat) : Option Nat :=
  match s.activePos.find? (fun q => decide (p < q)) with
  | some q => some q
  | none => s.activePos.head?

/-- The spare goes to CHECK or to IDLE as CHECK_EN and the active positions say; other roles stay. From IDLE it goes on at the position it
left, its dwell with it, where that is active (R309, R328). Log: 45 DEDUCED. -/
def State.spareRest (s : State) : State :=
  if s.spareRole = 0 ∨ s.spareRole = 1 then
    if ¬ s.is fRXW_SPARE_CTRL_CHECK_EN ∨ s.activePos = [] then s.setSpare 0 s.sparePos
    else if s.activePos.contains s.sparePos then
      if s.spareRole = 1 then s
      else if s.spare.dwell = 0 then s.spareJoin s.sparePos
      else { s with spare := { s.spare with joinAt := s.now } }.setSpare 1 s.sparePos
    else s.spareJoin ((s.posAfter s.sparePos).getD 0)
  else s

/-- CHECK_LOST is formed at a read (R312), and FRACTION reads 1 023 while not degraded (R324). Log: 89 DEDUCED. -/
def State.rxLive (s : State) (a : Nat) (w : Word) : Word :=
  if a = aRXW_SPARE_STATUS then
    fRXW_SPARE_STATUS_CHECK_LOST.set w (b2n ((s.spareRole == 0 || s.spareRole == 3 || s.spareRole == 5) && !s.activePos.isEmpty))
  else if a = aRXW_WEFT_STATUS then
    let w := fRXW_WEFT_STATUS_DEGRADED.set w (b2n (s.clk.weftBackup || s.is fCLK_STATUS_DEGRADED))
    fRXW_WEFT_STATUS_APPLY_WAIT.set (if s.clk.weftBackup then w else fRXW_WEFT_STATUS_FRACTION.set w 1023)
      (b2n ((s.rxOf 0).applyWait || (s.rxOf 1).applyWait))
  else w

/-- Failover of position `p` to the spare, from the next shot boundary of its fibre; not available while the spare carries or is
FAULTY (R311). A position that it carries already stays. -/
def State.spareCarry (s : State) (p : Nat) : State :=
  if s.spareRole = 3 ∧ s.sparePos = p then s
  else if s.spareRole = 3 ∨ s.spareRole = 5 ∨ s.sliceFaulty 8 then s.flag fRXW_SPARE_STATUS_FO_UNAVAIL
  else { s with spare := { carry := some p } }.setSpare 3 p

/-- The instant of the latest shot boundary of fibre `f`, or now. -/
def State.shotStart (s : State) (f : Nat) : Nat :=
  match ((nth s.probes f).codes.filter (fun e => tLe e.1 s.nowT)).getLast? with
  | some e => e.1
  | none => s.nowT

/-- Slice `p` is marked FAULTY: its profiles carry SLICE_ERR from the present shot, and failover starts when FO_EN is 1 (R308, R311,
R329). -/
def State.markFaulty (s : State) (p : Nat) : State :=
  if s.sliceFaulty p then s
  else
  let s := (s.putBit fRXW_SLICE_STATUS_FAULTY p true).slErrOpen p (s.shotStart (p / 4))
  if ¬ s.is fRXW_SPARE_CTRL_FO_EN then s.spareRest
  else if s.spare.judge.isSome then { s with spare := { s.spare with first := some (s.spare.first.getD p) } }
  else s.spareCarry p

/-- The spare is marked FAULTY; a position it carries returns to its own slice, flagged, and an RX run aborts (R310, R313, R329). -/
def State.spareFaulty (s : State) : State :=
  let p := s.sparePos
  let carried := s.is fRXW_SPARE_STATUS_FO_ACTIVE
  let s := if s.spare.first.isSome then s.flag fRXW_SPARE_STATUS_FO_UNAVAIL else s
  let s := ((s.flag fRXW_SPARE_STATUS_SPARE_FAULTY).setSpare 5 p).unflag fRXW_SPARE_STATUS_FO_ACTIVE
  let s := { s with spare := {} }
  let s := if carried ∧ s.sliceFaulty p then s.slErrOpen p (s.shotStart (p / 4)) else s
  s.rxCalAbort 11

/-- What the spare starts with as CONVRX comes up: retired where it is FAULTY, else it carries the first FAULTY slice from its fibre's first shot
when FO_EN is 1; profiles of positions with a FAULTY slice carry SLICE_ERR until then (R308, R311). Log: 45 DEDUCED. -/
def State.spareUp (s : State) : State :=
  let fs := (List.range 8).filter s.sliceFaulty
  let s := fs.foldl (fun s p => s.slErrOpen p s.nowT) { s with spare := {} }
  if s.sliceFaulty 8 then s.setSpare 5 s.sparePos
  else if s.is fRXW_SPARE_CTRL_FO_EN ∧ fs ≠ [] then fs.foldl State.spareCarry s
  else s.spareRest

/-! ### Links (R301 to R304, R328) -/

/-- STATE of a receive link changes; leaving UP opens a gap of labels. -/
def State.rxState (s : State) (f st : Nat) : State :=
  let x := s.rxOf f
  let up := s.get fRXW_LINK_STATUS_STATE f == 3
  let x := if up ∧ st ≠ 3 then { x with gapFrom := some s.nowT, rawGap := true, raw := [] } else x
  let x := if st = 1 ∨ st = 0 then { x with good := 0 } else x
  ((s.setRx f x).put fRXW_LINK_STATUS_STATE st f).spareRest

/-- Lanes that a fibre's parameter set uses (R299). -/
def State.rxLanes (s : State) (f : Nat) : List Nat :=
  let r := s.get fRXW_LINK_CFG_RXSET f
  (List.range (if r = 0 then 6 else if r = 1 then 4 else 3)).map (fun l => 6 * f + l)

/-- LOCK and EMB_LOCK of a fibre's used lanes. -/
def State.laneLocks (s : State) (f : Nat) (on : Bool) : State :=
  (s.rxLanes f).foldl (fun s l => (s.put fRXW_LANE_STATUS_LOCK (b2n on) l).put fRXW_LANE_STATUS_EMB_LOCK (b2n on) l) s

/-- RX_LINK_ENABLE: LINK_EN set moves a link that is DOWN to CLK_WAIT (R303, R304). -/
def execRxLinkEnable (f : Fin 2) (s : State) : Out :=
  let s := (s.flag fRXW_LINK_CTRL_LINK_EN f.val).put fRXW_LINK_STATUS_ARRIVE_MIN 4095 f.val
  .next (if s.get fRXW_LINK_STATUS_STATE f.val = 0 then (s.rxLanes f.val).foldl (fun s l => s.wakeLane (6 + l)) (s.rxState f.val 1) else s)

/-- RX_LINK_DISABLE: LINK_EN cleared takes the link DOWN at once, its lanes off (R303). -/
def execRxLinkDisable (f : Fin 2) (s : State) : Out :=
  .next (((s.unflag fRXW_LINK_CTRL_LINK_EN f.val).laneLocks f.val false).rxState f.val 0)

/-- The wc of one device-clock period of a receive link (R299). -/
def State.rxPeriod (s : State) (f : Nat) : Nat := if s.get fRXW_LINK_CFG_RATIO f = 1 then 8 else 10

/-- A failed device-clock check of a receive link (R301). -/
def State.rxClockFail (s : State) (f : Nat) : State :=
  (((s.laneLocks f false).rxState f 1).flag fRXW_LINK_STATUS_CLK_ERR f).report 14 f 0

/-- RX_CLOCK_CHECK: the check of 64 device-clock cycles, which lasted `span` wc/1024, or of a clock that is absent, by the rule of R235; 1 024
passing cycles lead to LOCKING (R301, R303). No clock derived from the warp clock passes while WARP runs on the safe clock (R328). -/
def execRxClockCheck (f : Fin 2) (span : Option Nat) (s : State) : Out :=
  let f := f.val
  let st := s.get fRXW_LINK_STATUS_STATE f
  if st = 0 then noEvent s
  else if ¬ clockOk (s.rxPeriod f) span ∨ s.safe then .next (s.rxClockFail f)
  else
    let x := s.rxOf f
    let s := s.setRx f { x with good := x.good + 64 }
    .next (if st = 1 ∧ 1024 ≤ x.good + 64 then s.rxState f 2 else s)

/-- RX_LINK_UP: every lane is locked and holds a complete multiblock at a release boundary (R302, R303). -/
def execRxLinkUp (f : Fin 2) (s : State) : Out :=
  let f := f.val
  if s.get fRXW_LINK_STATUS_STATE f ≠ 2 then noEvent s
  else
    let m := s.nextBoundary f
    let t := s.labelT f (s.blockLabel f m)
    let s := s.flowTo t
    let x := s.rxOf f
    let x := { x with next := m, gapFrom := none, errs := match x.gapFrom with | some g => x.errs ++ [(g, some t)] | none => x.errs }
    .next (((s.setRx f x).laneLocks f true).rxState f 3)

/-- A lane loses lock or holds no complete multiblock: the link returns to LOCKING (R304). -/
def State.rxUnlock (s : State) (f lane sub : Nat) : State :=
  let s := s.report 12 lane sub
  if s.get fRXW_LINK_STATUS_STATE f = 3 then s.rxState f 2 else s

/-- LANE_LOCK_LOSS: a lane sees 16 invalid sync headers in 64 (R304). -/
def execLaneLockLoss (l : Fin 12) (s : State) : Out :=
  let f := l.val / 6
  let s := ((s.unflag fRXW_LANE_STATUS_LOCK l.val).unflag fRXW_LANE_STATUS_EMB_LOCK l.val).bump fRXW_LANE_STATUS_LOCK_LOSS l.val
  .next ((s.flag fRXW_LINK_STATUS_LOCK_ERR f).rxUnlock f l.val 1)

/-! ### Releases and slices (R300, R302, R304, R305, R307, R396) -/

/-- The greatest value of a container with the fibre's resolution. -/
def State.rawMax (s : State) (f : Nat) : Int :=
  let r := s.get fRXW_LINK_CFG_RES f
  if r = 0 then 32767 else if r = 1 then 32764 else 32752

/-- One sample passes the input watch (R307): the watch, and whether STUCK and OVR hold. -/
def InWatch.step (x : InWatch) (mx v : Int) (ov : Bool) (t : Nat) : InWatch :=
  let same := if v = x.last then x.same + 1 else 1
  let ovr := if ov ∨ v = -32768 ∨ v = mx then x.ovr + 1 else 0
  let bad := decide (256 ≤ same ∨ 1024 ≤ ovr)
  { last := v, same := same, ovr := ovr, err := if bad then some (x.err.getD t) else none }

/-- The slice output of R305 for x at a position, u_I given for a Q position, a saturated one counted; with a non-zero SKEW the value
before saturation is free. Log: 44 DEDUCED. -/
def State.sliceOut (s : State) (p : Nat) (x uI : Int) : Int × State :=
  let g : Int := (s.get fRXW_CORR_OG_GAIN p : Nat)
  let u := x - s.geti fRXW_CORR_OG_OFS p
  let z := g * (u * 2 ^ 17 - (if p % 4 = 1 ∨ p % 4 = 3 then s.geti fRXW_CORR_XS_XT p * uI else 0))
  let lim : Int := 131071
  let fr := s.free
  let vs : Int × State := if s.get fRXW_CORR_XS_SKEW p = 0 then (roundDiv z (2 ^ 31), s) else ((fr.1 % 2 ^ 20 : Nat) - 2 ^ 19, fr.2)
  let y := max (-lim) (min lim vs.1)
  (y, if y = vs.1 then vs.2
    else let r := vs.2.rxOf (p / 4); vs.2.setRx (p / 4) { r with sat := r.sat.set (p % 4) (r.sat.getD (p % 4) 0 + 1) })

/-- The error SLICE_CMP adds to the output of slice `p` at instant `t` (R583). Log: 86 DEDUCED. -/
def State.sliceErr (s : State) (p t : Nat) : Int :=
  match s.injActs 15 with
  | some x => if x.unit = p ∧ tLe x.start t ∧ 0 < x.left then sgn 18 (getBits x.value 18 18) else 0
  | none => 0

/-- One sample of the extent of SLICE_CMP on a slice of fibre `f` is used up. -/
def State.sliceErrUsed (s : State) (f t : Nat) : State :=
  match s.injActs 15 with
  | some x => if x.unit / 4 = f ∧ tLe x.start t then s.setInj { x with left := x.left - 1 } else s
  | none => s

/-- The RAW Skein of a fibre, if one is enabled (R396). -/
def State.rawSkein (s : State) (f : Nat) : Option Nat :=
  (List.range 64).find? (fun k => s.is fHIST_SK_CFG_EN k && s.is fHIST_SK_CFG_KIND k && s.get fHIST_SK_CFG_FIBRE k == f)

/-- Raw words of one label from its used positions, two to a word. -/
def rawWords : List Int → List Word
  | a :: b :: t => BitVec.ofNat 36 (enc 18 a * 2 ^ 18 + enc 18 b) :: rawWords t
  | _ => []

/-- Raw words join the frame being gathered; a full frame of 1 036 words waits for its Skein, or is dropped where the 8 192 lines of
buffer are full (R391, R396). -/
def State.rawAdd (s : State) (f k t : Nat) (ws : List Word) : State :=
  let x := s.rxOf f
  let at_ := if x.raw = [] then t else x.rawAt
  let raw := x.raw ++ ws
  if raw.length < 1036 then s.setRx f { x with raw := raw, rawAt := at_ }
  else if 8192 / 80 ≤ x.rawFrames.length then
    (s.setRx f { x with raw := [], rawGap := true }).bump fHIST_SK_STATUS_DROP_COUNT k
  else s.setRx f { x with raw := [], rawGap := false, rawFrames := x.rawFrames ++ [⟨at_, x.rawGap, raw.take 1036⟩] }

/-- One label of a released multiblock: the input watches, the slices, and the raw capture. -/
def State.rxLabel (s : State) (f n : Nat) (xs : List (Int × Bool)) : State :=
  let t := s.labelT f n
  let cs := s.usedPos f
  let mx := s.rawMax f
  let v := fun c => (xs.getD c (0, false))
  let s := cs.foldl (fun s c =>
    let r := s.rxOf f
    let w := nth r.watch c
    let w' := w.step mx (v c).1 (v c).2 t
    let s := s.setRx f { r with watch := r.watch.set c w',
                                inErrs := match w.err, w'.err with | some a, none => r.inErrs ++ [(a, some t)] | _, _ => r.inErrs }
    let s := if 256 ≤ w'.same then s.putBit fRXW_SLICE_STATUS_STUCK (4 * f + c) true else s
    if 1024 ≤ w'.ovr then s.putBit fRXW_SLICE_STATUS_OVR (4 * f + c) true else s) s
  let r := cs.foldl (fun (a : State × List Int) c =>
    let i := if c % 2 = 1 then c - 1 else c
    let o := a.1.sliceOut (4 * f + c) (v c).1 ((v i).1 - a.1.geti fRXW_CORR_OG_OFS (4 * f + i))
    (o.2, a.2 ++ [o.1 + s.sliceErr (4 * f + c) t])) (s, [])
  let s' := r.1.sliceErrUsed f t
  match s.rawSkein f with
  | none => s'
  | some k => s'.rawAdd f k t (rawWords (if s.is fHIST_SK_CFG_FORM k then cs.map (fun c => 4 * (v c).1) else r.2))

/-- RX_RELEASE: the oldest complete extended multiblock is released and labelled; a CRC-12 mismatch zeroes it, and a lane without a
complete multiblock sends the link to LOCKING (R302, R304, R305, R307, R396). Log: 44 DEDUCED. -/
def execRxRelease (f : Fin 2) (obs : RelObs) (s : State) : Out :=
  let f := f.val
  if s.get fRXW_LINK_STATUS_STATE f ≠ 3 then noEvent s
  else
    let m := (s.rxOf f).next
    let n0 := s.blockLabel f m
    let n := s.rxBlock f
    let s := s.flowTo (s.labelT f n0)
    match obs.late with
    | some l => .next ((s.flag fRXW_LINK_STATUS_RELEASE_ERR f).rxUnlock f (6 * f + l.val) 2)
    | none =>
      let s := s.put fRXW_LINK_STATUS_ARRIVE_MIN (min (s.get fRXW_LINK_STATUS_ARRIVE_MIN f) obs.margin) f
      let s := s.setRx f { s.rxOf f with next := m + 1 }
      let inj : Option Nat := match s.injActs 14 with
        | some x => if 0 < x.left ∧ x.unit / 6 = f then some (x.unit % 6) else none
        | none => none
      let s : State := match inj, s.injActs 14 with
        | some _, some x => s.setInj { x with left := x.left - 1 }
        | _, _ => s
      let bad := (List.range 6).filter (fun l => (obs.crc.val.testBit l || inj == some l) && (s.rxLanes f).contains (6 * f + l))
      let s := if bad = [] then s
        else
          let x := s.rxOf f
          let s := s.setRx f { x with errs := x.errs ++ [(s.labelT f n0, some (s.labelT f (n0 + n - 1)))] }
          bad.foldl (fun s l => (s.bump fRXW_LANE_STATUS_CRC_ERRS (6 * f + l)).report 12 (6 * f + l) 0)
            ((s.flag fRXW_LINK_STATUS_CRC_ERR f).bump fRXW_LINK_STATUS_CRC_COUNT f)
      .next (s.forN n (fun s i =>
        s.rxLabel f (n0 + i) ((s.usedPos f).map (fun c => if bad = [] then (obs.samples.getD c []).getD i (0, false) else (0, false)))))

/-- SLICE_PLAUS_FAULT: a residue or parity mismatch in RS_p, p = 8 the spare (R308, R311, R329). -/
def execSlicePlausFault (p : Fin 9) (s : State) : Out :=
  let s := s.report 15 p.val 0
  if p.val = 8 then .next (s.flag fRXW_SLICE_STATUS_SPARE_PLAUS).spareFaulty
  else .next ((s.putBit fRXW_SLICE_STATUS_PLAUS p.val true).markFaulty p.val)

/-- SPARE_DWELL: the dwell at a position ends and the spare moves to the next active position (R309). -/
def execSpareDwell (s : State) : Out :=
  if s.spareRole = 1 ∧ s.spare.len ≤ s.spare.dwell then
    match s.posAfter s.sparePos with
    | none => .next s.spareRest
    | some q => .next ((if q ≤ s.sparePos then s.bump fRXW_SPARE_STATUS_CYCLES else s).spareJoin q)
  else noEvent s

/-- Has the spare compared at its position, 64 samples after it joined (R309)? -/
def State.spareComparing (s : State) : Bool :=
  s.spareRole == 1 && decide (s.spare.joinAt * (s.rxTs (s.sparePos / 4)).2 + 64 * (s.rxTs (s.sparePos / 4)).1 ≤ s.now * (s.rxTs (s.sparePos / 4)).2)

/-- MISMATCH: the spare and RS_p differ at a label; the spare judges at the next active position, or, alone, after a self-test
(R310). Log: 45 DEDUCED. -/
def execMismatch (s : State) : Out :=
  if ¬ s.spareComparing then noEvent s
  else
    let p := s.sparePos
    let s := (s.flag fRXW_SPARE_STATUS_MISMATCH).detect 15 p 1 8 false s.nowT
    match s.posAfter p with
    | some q =>
      let s := { s with spare := { dwell := 0, judge := some p, sole := q == p } }
      .next (if q = p then s.setSpare 4 p else s.setSpare 2 q)
    | none => .next ({ s with spare := { dwell := 0, judge := some p, sole := true } }.setSpare 4 p)

/-- JUDGE_END: after 4 mt at the second position the judgment marks RS_p or the spare FAULTY. `bad`: the second position disagrees, or with no second position the
self-test fails; `recur`: with no second position, the mismatch recurs (R310, R311, R329). Log: 45 DEDUCED. -/
def execJudgeEnd (bad : Bool) (recur : Bool) (s : State) : Out :=
  match s.spare.judge with
  | none => noEvent s
  | some p =>
    let sp := s.spare
    if s.spareRole = 2 ∧ sp.dwell < 4 then noEvent s
    else if bad then .next ((s.report 15 8 2).spareFaulty)
    else
      let s := { s with spare := {} }.spareJoin p
      let s := match sp.first with
        | some q => s.spareCarry q
        | none => s
      .next ((if sp.sole ∧ ¬ recur then s else (s.report 15 p 2).markFaulty p).spareRest)

/-- RX_FO_FORCE: starts spare carrying of a position with no report (R311). Log: 32 DEDUCED, 45 DEDUCED. -/
def execRxFoForce (p : Fin 9) (s : State) : Out :=
  let s := s.put fRXW_SPARE_CTRL_POS p.val
  .next (if p.val < 8 then s.spareCarry p.val else s)

/-- RX_FO_RELEASE: a carried position returns to its slice at the next shot boundary (R311). -/
def execRxFoRelease (p : Fin 9) (s : State) : Out :=
  let s := s.put fRXW_SPARE_CTRL_POS p.val
  .next (if s.spareRole = 3 ∧ s.sparePos = p.val then { s with spare := { s.spare with back := true } } else s)

/-- RX_CLEAR_FAULTY: removes the FAULTY mark of a slice, 8 the spare (R311). -/
def execRxClearFaulty (p : Fin 9) (s : State) : Out :=
  let s := s.put fRXW_SPARE_CTRL_POS p.val
  if p.val = 8 then
    let s := s.unflag fRXW_SPARE_STATUS_SPARE_FAULTY
    .next ((if s.spareRole = 5 then s.setSpare 0 s.sparePos else s).spareRest)
  else .next (((s.putBit fRXW_SLICE_STATUS_FAULTY p.val false).slErrClose p.val s.nowT).spareRest)

/-! ### Applies (R325, R326, R358) -/

/-- The words of a fibre whose class-D fields its receive apply moves. -/
def State.resWords (s : State) (f : Nat) : List Nat :=
  [aRXW_SHOT_CFG + f, aRXW_ZERO_OFS + f, aRES_GAUGE_POS + f, aRES_GAUGE_CTRL + f, aRES_SPEC_CFG + f, aRES_SPEC_COEF + f] ++
    ((List.range 16).filter (fun k => s.get fRES_STREAM_CFG_FIBRE k == f)).map (fun k => aRES_STREAM_WIN + k) ++
    (List.range 16).flatMap (fun d => [aRES_DET_CFG + 16 * f + d, aRES_DET_ON + 16 * f + d, aRES_DET_OFF + 16 * f + d, aRES_DET_TC + 16 * f + d])

/-- The word that acts on a row whose code origin is `t`. -/
def State.resWord (s : State) (a t : Nat) : Word :=
  match s.resOld.find? (fun e => e.1 == a && tLt t e.2.2) with
  | some e => e.2.1
  | none => s.word a

/-- One shadow of a fibre passes to its working copy for rows with code origins from `t` on. -/
def State.resApplyWord (s : State) (t a : Nat) : State :=
  let old := s.word a
  let s := s.applyWord a
  if s.word a = old then s else { s with resOld := s.resOld ++ [(a, old, t)] }

/-- A fibre's receive shadows apply from instant `t`; a change of X0 or GL zeroes the gauges (R325, R341). -/
def State.applyRes (s : State) (f t : Nat) : State :=
  let x0 := s.get fRES_GAUGE_POS_X0 f
  let gl := s.get fRES_GAUGE_CTRL_GL f
  let s := (s.resWords f).foldl (fun s a => s.resApplyWord t a) s
  let s := s.setRx f { s.rxOf f with applyWait := false }
  if s.get fRES_GAUGE_POS_X0 f = x0 ∧ s.get fRES_GAUGE_CTRL_GL f = gl then s
  else
    let r := nth s.res f
    { s with res := s.res.set f { r with zeroAt := some (r.zeroAt.getD t), spec := { r.spec with zero := true } } }

/-- RXW_APPLY: GO applies receive shadows at shot boundaries; a fibre with no running sequencer applies at once (R325). -/
def execRxwApply (fibres : Fin 4) (s : State) : Out :=
  let s := s.put fRXW_APPLY_FIBRE_MASK fibres.val
  .next ((bitList fibres.val 2).foldl (fun s f =>
    if s.feedRuns f then s.setRx f { s.rxOf f with applyWait := true } else s.applyRes f s.nowT) s)

/-- RXW_TAPPLY_ARM: a timed apply of source 0x6 (R117, R326). -/
def execRxwTapplyArm (fibres : Fin 4) (s : State) : Out :=
  let s := s.put fRXW_TAPPLY_CTRL_FIBRE_MASK fibres.val
  if s.is fRXW_TAPPLY_CTRL_PENDING then .next (s.flag fRXW_TAPPLY_CTRL_ARM_BUSY)
  else .next ((s.flag fRXW_TAPPLY_CTRL_PENDING).sendDue
    ⟨.rxwApply fibres.val, 3, tsOf (s.word aRXW_TAPPLY_LO) (s.word aRXW_TAPPLY_HI), 6⟩)

/-- Is a target a receive apply? -/
def isRxwApply : DueTarget → Bool
  | .rxwApply _ => true
  | _ => false

/-- RXW_TAPPLY_CANCEL (R117, R326). -/
def execRxwTapplyCancel (s : State) : Out :=
  match s.cancelDue (fun c => isRxwApply c.target) with
  | some s => .next (s.unflag fRXW_TAPPLY_CTRL_PENDING)
  | none => .next s

/-! ### Shots (R306, R309, R311, R316, R329) -/

/-- Tones of the shot before boundary `t` that had no code origin, among the enabled ones (R316). Log: 34 DEDUCED. -/
def State.noCode (s : State) (f t : Nat) : Nat :=
  match ((nth s.probes f).codes.filter (fun e => tLt e.1 t)).getLast? with
  | none => 0
  | some e => ((List.range 16).filter (fun n => s.is fPROBE_TONE_CTRL_EN (16 * f + n) && !e.2.any (fun o => o.1 == n))).length

/-- At a shot boundary of fibre `f` the spare takes or returns a position, after an apply at the same boundary (R311, R329). Log: 45 DEDUCED. -/
def State.spareShot (s : State) (f t : Nat) : State :=
  let s : State := match s.spare.carry with
    | some p => if p / 4 = f then
        (({ s with spare := { s.spare with carry := none } }.flag fRXW_SPARE_STATUS_FO_ACTIVE).slErrClose p t) else s
    | none => s
  if s.spare.back ∧ s.spareRole = 3 ∧ s.sparePos / 4 = f then
    let p := s.sparePos
    let s := ({ s with spare := {} }.unflag fRXW_SPARE_STATUS_FO_ACTIVE).spareJoin p
    (if s.sliceFaulty p then s.slErrOpen p t else s).spareRest
  else s

/-- The receive part of a shot boundary: SHOTS, NO_CODE, applies, values in force, the spare, and WEFT's return to PLL_C (R75, R306,
R316, R325). -/
def State.rxShot (s : State) (f t : Nat) : State :=
  let s := (s.bump fRXW_SHOT_COUNT_NO_CODE f (s.noCode f t)).bump fRXW_SHOT_COUNT_SHOTS f
  let s := if (s.rxOf f).applyWait then s.applyRes f t else s
  let s := (List.range 4).foldl (fun s c =>
    let u := 120 + 4 * f + c
    match s.loadT u with
    | some t => if s.unitHeld u then s else (s.loadOver u).rxLoad (4 * f + c) t
    | none => s) s
  let s := s.spareShot f t
  if s.is fCLK_STATUS_DEGRADED then s else { s with clk := { s.clk with weftBackup := false } }

/-- From the switch to the safe clock the receive device clock stops, and each link fails its check and moves to CLK_WAIT (R248, R301,
R328). Log: 45 DEDUCED. -/
def State.rxSwitch (s : State) : State :=
  s.forN 2 (fun s f => if s.get fRXW_LINK_STATUS_STATE f ≤ 1 then s else s.rxClockFail f)

/-! ### The Weft array (R320, R323, R324) -/

/-- ECC_DBE: a double-bit error at word `a` of a cluster's memory discards the block a stage was processing, the range samples `lost`
of its fibre (R320). -/
def execEccDbe (c : Fin 64) (f : Fin 2) (a : Nat) (lost : Nat × Nat) (s : State) : Out :=
  let x := s.rxOf f.val
  let s := s.setRx f.val { x with missing := x.missing ++ [lost] }
  .next (((s.flag fRXW_WEFT_STATUS_ECC_DBE).bump fRXW_WEFT_COUNT_DBE_ERRS).detect 9 c.val 1 (a % 2 ^ 14) false s.nowT)

/-- RESIDUE: a residue mismatch is recorded, flagged and reported (R323). -/
def execResidue (c : Fin 64) (stage : Fin 16) (f : Fin 2) (s : State) : Out :=
  let s := s.setRx f.val { s.rxOf f.val with residue := true }
  let s := (s.flag fRXW_WEFT_STATUS_RESIDUE).bump fRXW_WEFT_COUNT_RESID_ERRS
  let s := if s.is fRXW_RESID_FIRST_VALID then s
    else s.setWord aRXW_RESID_FIRST (BitVec.ofNat 36 (2 ^ 35 + c.val * 2 ^ 29 + stage.val * 2 ^ 25 + f.val * 2 ^ 24 +
      s.get fRXW_SHOT_COUNT_SHOTS f.val * 2 ^ 6))
  .next (s.detect 16 c.val 0 (stage.val * 2 ^ 10 + f.val * 2 ^ 9) false s.nowT)

end Sys2Proof.Machine
end

