-- ==== Sys2Proof/Machine/Clock.lean ====
section
/-! DEFINITION. Warp clock synthesis: references and holdover, PLL_C, retuning, the switch to the safe clock and the return, trim,
loss of lock and phase steps (chapter 02), with the keeper's part in them (R28 to R33). -/

namespace Sys2Proof.Machine

/-! ### References (R67 to R72) -/

/-- Is reference `b` qualified (false REFCLK_A, true REFCLK_B)? -/
def State.refQual (s : State) (b : Bool) : Bool := if b then s.is fCLK_REF_STATUS_B_QUAL else s.is fCLK_REF_STATUS_A_QUAL

/-- Is any reference qualified? -/
def State.anyQual (s : State) : Bool := s.refQual false || s.refQual true

/-- The reference in use. -/
def State.refInUse (s : State) : Bool := s.is fCLK_REF_STATUS_IN_USE

/-- STATE and REF_SEL of the keeper follow the references and the safe clock (R30). -/
def State.keeperShow (s : State) : State :=
  (s.put fKEEPER_STATUS_STATE (if s.anyQual then b2n s.safe else 2)).put fKEEPER_STATUS_REF_SEL (b2n s.refInUse)

/-- The frequency guard counts from zero (R80, R93). -/
def State.guardAfresh (s : State) : State := { s with clk := { s.clk with guardAt := s.now } }

/-- QUAL of a reference changes; a reference that loses it starts its qualification afresh. -/
def State.setQual (s : State) (b v : Bool) : State :=
  let s := s.put (if b then fCLK_REF_STATUS_B_QUAL else fCLK_REF_STATUS_A_QUAL) (b2n v)
  if v then s else { s with clk := if b then { s.clk with qualB := 0 } else { s.clk with qualA := 0 } }

/-- The loops and the keeper move to reference `b` with build-out (R70, R72). -/
def State.refSwitch (s : State) (b : Bool) : State :=
  let s := if s.refInUse = b then s else (s.flag fCLK_STATUS_REF_SWITCH).bump fCLK_COUNT_REF_SWITCHES
  ((s.put fCLK_REF_STATUS_IN_USE (b2n b)).unflag fCLK_REF_STATUS_HOLD).keeperShow

/-- Reference `b` loses its qualification: failover or holdover, and a REFERENCE fault that is masked unless the loops held over
(R67, R70, R71, R573). -/
def State.refLost (s : State) (b : Bool) (sub : Nat) : State :=
  let was := s.refQual b
  let s := s.setQual b false
  let inUse := s.refInUse == b && !s.is fCLK_REF_STATUS_HOLD
  let fo := inUse && s.is fCLK_REF_CFG_FAILOVER && s.refQual (!b)
  let s := if fo then s.refSwitch (!b) else if inUse then s.put fCLK_REF_STATUS_HOLD 1 else s
  let s := if inUse then s.keeperShow.guardAfresh else s.keeperShow
  if was then s.detect 3 (b2n b) sub 0 (fo || !inUse) s.nowT else s

/-- REF_ACTIVITY_LOSS: no rising edge for 4 nominal periods (R67 to R71). -/
def execRefActivityLoss (b : Bool) (s : State) : Out :=
  let act := if b then fCLK_REF_STATUS_B_ACT else fCLK_REF_STATUS_A_ACT
  if ¬ s.is act then noEvent s
  else
    let s := (s.unflag act).bump (if b then fCLK_REF_STATUS_B_LOSS else fCLK_REF_STATUS_A_LOSS)
    let s := { s with clk := if b then { s.clk with lossB := true } else { s.clk with lossA := true } }
    .next (s.refLost b 0)

/-- Mt counts of qualification of a reference. -/
def State.qualCount (s : State) (b : Bool) : Nat := if b then s.clk.qualB else s.clk.qualA

/-- The reference that a re-reference out of holdover goes to when `b` becomes qualified: `b`, or where another waits already the one PREF
names (R72). Log: 97 DESIGN CHOICE. -/
def State.holdTo (s : State) (b : Bool) : Bool :=
  match s.clk.reref with
  | some c => if s.refQual c then s.is fCLK_REF_CFG_PREF else b
  | none => b

/-- REF_QUALIFY: a reference has met the conditions for QUAL_TIME mt (R67, R72). -/
def execRefQualify (b : Bool) (s : State) : Out :=
  if s.refQual b ∨ s.qualCount b < max 1 (s.get fCLK_REF_CFG_QUAL_TIME) then noEvent s
  else
    let s := (s.setQual b true).keeperShow
    let pref := s.is fCLK_REF_CFG_PREF
    let go := s.is fCLK_REF_STATUS_HOLD || (pref == b && s.is fCLK_REF_CFG_REVERT && s.refInUse != b)
    .next (if go then { s with clk := { s.clk with reref := some (if s.is fCLK_REF_STATUS_HOLD then s.holdTo b else b) } } else s)

/-- PREF_WRITE: a write of PREF that names a qualified reference not in use switches at the next mt tick; one that names the reference in use
takes back a switch that waits (R72). -/
def execPrefWrite (b : Bool) (s : State) : Out :=
  let s := s.put fCLK_REF_CFG_PREF (b2n b)
  .next (if s.refQual b ∧ (s.refInUse ≠ b ∨ s.is fCLK_REF_STATUS_HOLD) then { s with clk := { s.clk with reref := some b } }
    else if s.is fCLK_REF_STATUS_HOLD then s
    else { s with clk := { s.clk with reref := none } })

/-- The re-reference that waits for the mt tick takes place (R72). -/
def State.rereference (s : State) : State :=
  match s.clk.reref with
  | none => s
  | some b =>
    let s := { s with clk := { s.clk with reref := none } }
    if s.refQual b then s.refSwitch b else s

/-- REF_REREFERENCE: at the mt tick the loops move to a newly qualified or preferred reference (R72). Log: 18 DEDUCED. -/
def execRefRereference (s : State) : Out := .next s.rereference

/-! ### The trim in force and the keeper's prediction (R33, R85, R86) -/

/-- TRIM as written. -/
def State.trim (s : State) : Int := s.geti fPLLW_TRIM_TRIM

/-- The offset in force in wc `w`, since the latest ramp started (R85, R86): 5 000 units per µs from there. -/
def State.trimOf (s : State) (w : Nat) : Int :=
  if s.is fPLLW_TRIM_NOW_RAMP then
    let q := s.wcPerMt
    let d : Int := (((w - s.clk.rampAt) * 250 * 5000 * q.2 / q.1 : Nat) : Int)
    if s.clk.rampFrom ≤ s.trim then min s.trim (s.clk.rampFrom + d) else max s.trim (s.clk.rampFrom - d)
  else s.geti fPLLW_TRIM_NOW_TRIM_NOW

/-- The offset in force at the present wc. -/
def State.trimNow (s : State) : Int := s.trimOf s.now

/-- The sum of trim × wc since the last mt tick is brought up to the present wc; on the safe clock the keeper advances the timebase by the
programmed number, without trim (R32, R86). Log: 19 DEDUCED. -/
def State.trimTo (s : State) : State :=
  if s.clk.trimAt = s.now then s
  else
    let v := if s.safe then 0 else s.trimNow
    let ck : ClkSt := { s.clk with trimAt := s.now, trimLast := v, trimSum := s.clk.trimSum + (s.clk.trimLast + v) * ((s.now - s.clk.trimAt : Nat) : Int) }
    { s with clk := ck }

/-- How far the timebase has advanced since the last tick, the trim's part taken off, in wc/1024. Log: 19 DEDUCED. -/
def State.mtAdvance (s : State) (at_ : Nat) : Rat := ((tSub at_ s.clk.tickAt : Nat) : Rat) - 1024 * (s.clk.trimSum : Rat) / (2 * 10 ^ 11)

/-- The plan in force ends at the divider-alignment instant: the advance since the last tick stands for the reference cycles that passed under
it (R33, R78). Log: 19 DEDUCED. -/
def State.planEnds (s : State) : State :=
  let s := s.trimTo
  let r := planRatio (s.word aPLLW_CFG) (s.word aPLLW_FRAC)
  let adv := s.mtAdvance s.nowT
  let used := s.clk.refUsed + (adv - s.clk.advUsed) * (r.2 : Nat) / (1024 * (r.1 : Nat))
  { s with clk := { s.clk with refUsed := used, advUsed := adv } }

/-! ### The safe clock (R73, R75, R88, R89, R93, R120) -/

/-- Whole safe-clock cycles that last at least `rem` wc/1024 of the timebase, and the state without the free value used when the
safe clock is the ring oscillator, whose frequency is only bounded (R75). Log: 16 DEDUCED. -/
def State.safeCycles (s : State) (rem : Nat) : Nat × State :=
  let w := s.word aPLLC_CFG
  let den := 1024 * 2 * (s.get fPLLW_CFG_N * 2 ^ 24 + s.get fPLLW_FRAC_F)
  let num := rem * (fPLLC_CFG_NC.get w * 2 ^ 24 + fPLLC_CFG_FC.get w)
  if s.is fCLK_STATUS_SAFE_SRC ∨ fPLLC_CFG_NC.get w = 0 then
    let f := s.free
    (rem / 3755 + f.1 % (rem / 1844 + 1 - rem / 3755), f.2)
  else ((num + den - 1) / den, s)

/-- The timebase span of `n` safe-clock cycles in wc/1024 (R32, R73). Log: 16 DEDUCED. -/
def State.safeSpan (s : State) (n : Nat) : Nat × State :=
  let w := s.word aPLLC_CFG
  let num := n * 1024 * 2 * (s.get fPLLW_CFG_N * 2 ^ 24 + s.get fPLLW_FRAC_F)
  let den := fPLLC_CFG_NC.get w * 2 ^ 24 + fPLLC_CFG_FC.get w
  if s.is fCLK_STATUS_SAFE_SRC ∨ fPLLC_CFG_NC.get w = 0 then
    let f := s.free
    (n * 1844 + f.1 % (n * 1910 + 1), f.2)
  else ((num + den - 1) / den, s)

/-- The trailing edge of output `o`'s active pulse moves to `n` safe-clock cycles from now. Log: 16 DEDUCED. -/
def State.retimeTo (s : State) (o n : Nat) : State :=
  match (s.out o).act with
  | none => s
  | some p =>
    let r := s.safeSpan n
    r.2.setOut o { r.2.out o with act := some { p with trail := some (tAdd s.nowT r.1) } }

/-- At the switch the remaining whole wc of the pulse in progress are counted as safe-clock cycles, a fine remainder rounding up;
an open gate pulse without a scheduled stop closes at the switch or at its minimum width (R89, R120). Log: 16 DEDUCED. -/
def State.pulseSwitch (s : State) (o : Nat) : State :=
  match (s.out o).act with
  | none => s
  | some p =>
    match p.trail with
    | some e => s.retimeTo o ((tDiff e s.nowT).toNat / 1024 + b2n (decide ((tDiff e s.nowT).toNat % 1024 ≠ 0)))
    | none =>
      let m := tAdd p.lead (s.oMinWidth o)
      let c := if tLt s.nowT m then m else s.nowT
      let x := s.out o
      let s := s.setOut o { x with act := some { p with trail := some c }, trigs := x.trigs.map (fun g => if g.inst = p.own then { g with cut := some c } else g) }
      if o < 64 then s.flag fWARP_CH_STATUS_GATE_CUT o else s

/-- A gate that is scheduled to open with no scheduled stop closes like an open one: its whole pulse would lie on the safe clock's
side of the switch, and its leading edge is suppressed when due (R120). Log: 17 DEDUCED. -/
def State.outSwitch (s : State) (o : Nat) : State :=
  let idle := s.oState o == 0
  let s := s.pulseSwitch o
  if idle then s else s.oPut o fWARP_CH_STATUS_STATE fMOUT_STATUS_STATE 5

/-- WARP switches to the safe clock (R32, R88, R89, R111, R120, R155, R219, R248, R273). Log: 17 DEDUCED. -/
def State.toSafe (s : State) : State :=
  if s.safe then s
  else
    let s := ((s.limTo 0 s.nowT).limTo 1 s.nowT)
    let s := ((s.probeTo 0 s.nowT).probeTo 1 s.nowT).reedTo s.nowT
    let s := (s.trimTo.put fCLK_STATUS_WARP_SAFE 1).keeperShow.guardAfresh
    let s := s.forN 72 State.outSwitch
    (((s.heddleSwitch.gatesClkEvt false).seqHalt 0).seqHalt 1).marksDrop.rxSwitch.txSwitch

/-- An output takes up its schedule at the return to PLL_W: with output outstanding it is PENDING, else IDLE (R98, R111, R163, R182). CLAMP is
evaluated where the return ends a retune, and for a master output at every return (R164). -/
def State.outReturn (s : State) (retune : Bool) (o : Nat) : State :=
  let s := if s.oState o = 5 then s.oPut o fWARP_CH_STATUS_STATE fMOUT_STATUS_STATE 0 else s
  let s := if s.oMode o = 5 then s.setOut o { s.out o with gridFrom := some (s.gridReturn o) } else s
  let s := s.oRefresh o
  let s := if s.oState o = 2 then s.oPut o fWARP_CH_STATUS_STATE fMOUT_STATUS_STATE 1 else s
  (if retune ∨ 64 ≤ o then s.oClampCheck o else s).applyIfWaiting o

/-- WARP switches back to PLL_W: outputs take up their schedules, grids resume, prescale counters start again and a waiting trim
ramp begins (R32, R82, R85, R111, R137, R163). -/
def State.toPllw (s : State) (retune : Bool) : State :=
  let s := ((s.limTo 0 s.nowT).limTo 1 s.nowT)
  let s := ((s.probeTo 0 s.nowT).probeTo 1 s.nowT).reedTo s.nowT
  let s := ((s.trimTo.unflag fCLK_STATUS_WARP_SAFE).flag fKEEPER_STATUS_RESUMED).keeperShow
  (s.forN 72 (State.outReturn · retune ·)).heddleReturn

/-- The safe clock changes source while WARP runs on it: pulses in progress keep counting in the new safe-clock cycles (R93). -/
def State.safeSource (s : State) (ring : Bool) : State :=
  if s.is fCLK_STATUS_SAFE_SRC = ring then s
  else if ¬ s.safe then s.put fCLK_STATUS_SAFE_SRC (b2n ring)
  else
    let r := (List.range 72).foldl (fun (a : State × List (Nat × Nat)) o =>
      match (a.1.out o).act with
      | some p => (match p.trail with
        | some e => let c := a.1.safeCycles (tDiff e a.1.nowT).toNat; (c.2, a.2 ++ [(o, c.1)])
        | none => a)
      | none => a) (s, [])
    r.2.foldl (fun s e => s.retimeTo e.1 e.2) (r.1.put fCLK_STATUS_SAFE_SRC (b2n ring))

/-- f_PD as a fraction in Hz (R60, R62). Log: 18 DEDUCED. -/
def State.fPd (s : State) : Nat × Nat :=
  let f := 4000 * s.mtLen
  let cond := s.get fPLLW_CFG_COND
  let p := s.get fPLLW_CFG_PDIV + 1
  (if cond = 1 then 2 * f else f, (if cond = 2 then 2 * p else p) * 2 ^ 18)

/-- f_C in Hz (R73). -/
def State.fC (s : State) : Rat :=
  (s.fPd.1 * (s.get fPLLC_CFG_NC * 2 ^ 24 + s.get fPLLC_CFG_FC) : Nat) / (max 1 (s.fPd.2 * 2 ^ 24) : Nat)

/-- FRACTION while WEFT runs at `ro` / 4 kHz: the smallest part of its blocks that a cluster keeps, in 1/1024 to the nearest, by the loads of
RXW_CLUSTER and f_C of the working plan (R324). -/
def State.weftFraction (s : State) (ro : Nat) : Nat :=
  (List.range 64).foldl (fun a c =>
    let l := s.get fRXW_CLUSTER_LOAD c
    if l = 0 ∨ s.fC.num ≤ 0 then a
    else min a ((1000 * ro : Nat) * 1024 * 1024 / (l * s.fC) + 1 / 2 : Rat).floor.toNat) 1023

/-- WEFT and BOLT run on the ring oscillator, whose frequency is free between 2.4 and 4.0 GHz, and FRACTION with it (R75, R324). -/
def State.toRing (s : State) (relock : Bool) : State :=
  let r := s.free
  let s := r.2.put fRXW_WEFT_STATUS_FRACTION (r.2.weftFraction (2400000 + r.1 % 1600001))
  { s with clk := { s.clk with weftBackup := true, pllcRelock := relock, pllcAt := s.now } }

/-- PLLC_LOST: WEFT and BOLT move to the ring oscillator and the safe clock to f_RO/2 (R75, R93). -/
def execPllcLost (s : State) : Out :=
  if ¬ s.is fCLK_STATUS_PLLC_LOCK then noEvent s
  else
    let s := (((s.unflag fCLK_STATUS_PLLC_LOCK).flag fCLK_STATUS_PLLC_LOST).flag fCLK_STATUS_DEGRADED).safeSource true
    .next ((s.toRing false).report 2 0 0)

/-- The wc of `n` reference cycles after wc `a`, at the working plan (R60). -/
def State.refCycles (s : State) (a n : Nat) : Nat :=
  let r := planRatio (s.word aPLLW_CFG) (s.word aPLLW_FRAC)
  a + (n * r.1 + r.2 - 1) / r.2

/-- PLLC_RETURN: PLL_C has held lock for 4 096 reference cycles; BOLT returns at once, WEFT at its next shot boundary (R73, R75). Log: 12 DEDUCED. -/
def execPllcReturn (s : State) : Out :=
  let s := if s.is fCLK_STATUS_PLLC_LOCK then s else s.flowTo (wcs (s.refCycles s.clk.pllcAt 4096))
  let s := ((s.put fCLK_STATUS_PLLC_LOCK 1).unflag fCLK_STATUS_DEGRADED).safeSource false
  .next { s with clk := { s.clk with pllcRelock := false } }

/-! ### Retuning (R60 to R64, R76 to R83) -/

/-- The plan limits of R61 on a pair of plan words, with f_ref from KEEPER_MT_LEN (R62): 4 000 × mtLen / 2^18 Hz. -/
def State.planOk (s : State) (cfg frac : Word) : Bool :=
  let f := 4000 * s.mtLen
  let cond := fPLLW_CFG_COND.get cfg
  let p := fPLLW_CFG_PDIV.get cfg + 1
  let n := fPLLW_CFG_N.get cfg
  let ff := fPLLW_FRAC_F.get frac
  let num := if cond = 1 then 2 * f else f
  let den := (if cond = 2 then 2 * p else p) * 2 ^ 18
  cond != 3 && decide (10000000 * 2 ^ 18 ≤ f ∧ f ≤ 750000000 * 2 ^ 18) &&
    decide (12500000 * den ≤ num ∧ num ≤ 500000000 * den) && decide (8 ≤ n ∧ n ≤ 352) &&
    decide (3600000000 * (den * 2 ^ 24) ≤ num * (n * 2 ^ 24 + ff) ∧ num * (n * 2 ^ 24 + ff) ≤ 4400000000 * (den * 2 ^ 24)) &&
    (fPLLW_CFG_MODE.get cfg == 1 || ff == 0)

/-- Why a retune GO is refused, 0 where it is not (R77). -/
def State.retuneRefusal (s : State) : Nat :=
  let st := s.get fCLK_RETUNE_STATE
  let cfg := s.shadowWord aPLLW_CFG
  if 1 ≤ st ∧ st ≤ 5 then 6
  else if s.seqRunning 0 ∨ s.seqRunning 1 then 2
  else if ¬ s.anyQual then 3
  else if ¬ s.planOk cfg (s.shadowWord aPLLW_FRAC) then 4
  else if fPLLW_CFG_MODE.get cfg = 1 ∧ s.chainSynced then 5
  else 0

/-- RETUNE_GO: GO in CLK_RETUNE is refused, or starts a retune: in DRAIN, or in ALIGN from RECOVER and HELD (R76 to R78, R93,
R119, R269, R296, R437). Log: 82 DEDUCED. -/
def execRetuneGo (s : State) : Out :=
  let r := s.retuneRefusal
  if r ≠ 0 then .next (s.put fCLK_RETUNE_RESULT r)
  else
    let ck : ClkSt := { s.clk with prevCfg := s.word aPLLW_CFG, prevFrac := s.word aPLLW_FRAC, drainMt := 0, guardMt := 0, reverted := false, recover := false }
    let s := { s with clk := ck }
    let s := s.put fCLK_RETUNE_STATE (if s.safe then 2 else 1)
    .next (((s.calAbort 12).rxCalAbort 12).cdFail 4).checkLoad

/-- DRAIN_COMPLETE: every output is idle; WARP switches to the safe clock and STATE becomes ALIGN (R78, R119). -/
def execDrainComplete (s : State) : Out :=
  if s.get fCLK_RETUNE_STATE = 1 ∧ s.drained then .next (s.toSafe.put fCLK_RETUNE_STATE 2) else noEvent s

/-- What TRIG_DROP counts of a trigger that DRAIN_LIMIT discards: the pulses of a finite burst that remain to be led, one for an output without
end, and one for a single pulse or a gate not yet led (R79). Log: 98 DESIGN CHOICE. -/
def Trig.remaining (t : Trig) : Nat :=
  if t.nextLead.isNone then 0
  else if t.mode = 3 then 1
  else
    let n := if t.count = 0 then 1 else t.count - t.next
    match t.cut with
    | some c => if t.count = 0 ∨ t.period = 0 then n else min n (((tDiff c t.first).toNat + t.period - 1) / t.period - t.next)
    | none => n

/-- What DRAIN_LIMIT discards at output `o`: its pending and burst pulses, counted as R79 says; an open gate without a stop closes. Log: 16 DEDUCED. -/
def State.drainCut (s : State) (o : Nat) : State :=
  let x := s.out o
  let n := (x.trigs.map Trig.remaining).sum
  let keep := x.trigs.filter (fun g => match x.act with | some p => p.own == g.inst | none => false)
  let s := (s.setOut o { x with trigs := keep.map (fun g => if g.mode = 3 then g else { g with count := 1, next := 1, cut := some g.first }), pat := [] }).bump fCLK_STATUS_TRIG_DROP 0 n
  let s : State := match x.act with
    | some p => if p.trail.isNone then s.pulseSwitch o else s
    | none => s
  (s.oRefresh o).applyIfWaiting o

/-- DRAIN_LIMIT_EXPIRY: DRAIN_LIMIT mt after GO each output completes only its pulse in progress (R79). Log: 14 DESIGN CHOICE. -/
def execDrainLimitExpiry (s : State) : Out :=
  if s.get fCLK_RETUNE_STATE = 1 ∧ max 1 (s.get fCLK_RETUNE_DRAIN_LIMIT) ≤ s.clk.drainMt then .next (s.forN 72 State.drainCut) else noEvent s

/-- DIVIDER_ALIGN: the shadowed dividers load together, or after a failed guard the previous plan; the guard starts (R60, R64, R76,
R78, R81, R134, R273). Log: 12 DEDUCED. -/
def execDividerAlign (s : State) : Out :=
  let st := s.get fCLK_RETUNE_STATE
  if st = 2 ∨ (st = 5 ∧ s.clk.reverted = false) then
    let s := s.planEnds
    let s := if st = 2 then s.applyWords [aPLLW_CFG, aPLLW_FRAC]
      else
        let sh := (s.shadow.ins aPLLW_CFG (s.shadowWord aPLLW_CFG)).ins aPLLW_FRAC (s.shadowWord aPLLW_FRAC)
        ({ s with shadow := sh }.setWord aPLLW_CFG s.clk.prevCfg).setWord aPLLW_FRAC s.clk.prevFrac
    let s := s.setWord aTB_WC_PER_MT (s.wcPerMtWord (s.word aPLLW_CFG) (s.word aPLLW_FRAC))
    let ck : ClkSt := { s.clk with guardMt := 0, reverted := st == 5 }
    let s := (({ s with clk := ck }.unflag fCLK_STATUS_PLLW_LOCK).reedAll.gatesClkEvt true).guardAfresh
    .next (if st = 2 then s.put fCLK_RETUNE_STATE 3 else s)
  else noEvent s

/-- Does the frequency guard run: in GUARD, in REVERT once the previous plan is loaded, or in RECOVER before the correction (R80, R91)? -/
def State.guarding (s : State) : Bool :=
  let st := s.get fCLK_RETUNE_STATE
  st == 3 || (st == 5 && s.clk.reverted) || (st == 7 && !s.clk.recover)

/-- GUARD_PASS: the guard has counted 4 096 passing cycles since it last counted from zero, with a qualified reference; STATE becomes CORRECT, or
stays RECOVER while the correction follows a recovery (R80 to R83, R91, R93). Log: 12 DEDUCED. -/
def execGuardPass (s : State) : Out :=
  if s.anyQual ∧ s.guarding ∧ (s.injActs 4).isNone then
    let s := s.flowTo (wcs (s.refCycles s.clk.guardAt 4096))
    let s := s.put fCLK_STATUS_PLLW_LOCK 1
    .next (if s.get fCLK_RETUNE_STATE = 7 then { s with clk := { s.clk with recover := true } } else s.put fCLK_RETUNE_STATE 4)
  else noEvent s

/-- GUARD_LIMIT_EXPIRY: the previous plan is reverted to, or WARP is held on the safe clock (R81). Log: 14 DESIGN CHOICE. -/
def execGuardLimitExpiry (s : State) : Out :=
  let st := s.get fCLK_RETUNE_STATE
  if s.clk.guardMt < max 1 (s.get fCLK_RETUNE_GUARD_LIMIT) then noEvent s
  else if st = 3 ∧ s.clk.reverted = false then .next ((({ s with clk := { s.clk with guardMt := 0, reverted := false } }).flag fCLK_STATUS_GUARD_FAIL).put fCLK_RETUNE_STATE 5)
  else if (st = 3 ∨ st = 5) ∧ s.clk.reverted = true then .next (((s.put fCLK_RETUNE_STATE 6).put fCLK_RETUNE_RESULT 8).report 1 0 3)
  else noEvent s

/-! ### Trim (R84 to R86, R433) -/

/-- Does the servo of a chain member own TRIM: ROLE is member and TSTATE is ACQUIRE or later (R433)? -/
def State.servoOwns (s : State) : Bool :=
  decide (1 ≤ s.get fCHAIN_STATUS_TSTATE ∧ s.get fCHAIN_STATUS_TSTATE ≤ 4) && s.is fCHAIN_CFG_ROLE

/-- A ramp towards TRIM starts from the offset in force. -/
def State.rampStart (s : State) (from_ : Int) : State :=
  let s := s.trimTo
  let s := { s with clk := { s.clk with rampAt := s.now, rampFrom := from_ } }
  if from_ = s.trim then (s.unflag fPLLW_TRIM_NOW_RAMP).putSat fPLLW_TRIM_NOW_TRIM_NOW from_ else s.flag fPLLW_TRIM_NOW_RAMP

/-- A TRIM value is taken: clamped, then ramped to, or stored during a retune or on the safe clock (R84, R85, R93). A ramp in progress when a
retune or the safe clock begins runs on; a TRIM written meanwhile freezes it. Log: 99 DESIGN CHOICE. -/
def State.takeTrim (s : State) (v : Int) : State :=
  let s := s.trimTo
  let now := s.trimNow
  let w := max (-5000000) (min 5000000 v)
  let s := if w = v then s else s.flag fCLK_STATUS_TRIM_CLAMP
  let s := s.putSat fPLLW_TRIM_TRIM w
  if s.unlocked then (s.unflag fPLLW_TRIM_NOW_RAMP).putSat fPLLW_TRIM_NOW_TRIM_NOW now else s.rampStart now

/-- TRIM_WRITE: a write of TRIM by the host (R84, R85, R93, R433). -/
def execTrimWrite (trim : Int) (s : State) : Out :=
  .next (if s.servoOwns then s.flag fCHAIN_STATUS_TRIM_OWNED else s.takeTrim (satS 24 trim))

/-- TRIM_RAMP_DONE: a ramp reaches the written offset (R85). -/
def execTrimRampDone (s : State) : Out :=
  if ¬ s.is fPLLW_TRIM_NOW_RAMP then noEvent s
  else
    let q := s.wcPerMt
    let n := ((s.trim - s.clk.rampFrom).natAbs * q.1 + 250 * 5000 * q.2 - 1) / (250 * 5000 * q.2)
    let s := (s.flowTo (wcs (s.clk.rampAt + n))).trimTo
    .next ((s.unflag fPLLW_TRIM_NOW_RAMP).putSat fPLLW_TRIM_NOW_TRIM_NOW s.trim)

/-- TRIM_NOW is formed at a read. While PLL_W acquires lock after a load or a loss, whether it indicates lock is open until the guard passes. Log: 12 DEDUCED, 89 DEDUCED. -/
def State.clockLive (s : State) (a : Nat) (w : Word) : Word :=
  if a = aPLLW_TRIM_NOW then fPLLW_TRIM_NOW_TRIM_NOW.set w (enc 24 s.trimNow)
  else if a = aCLK_STATUS ∧ s.guarding ∧ fCLK_STATUS_PLLW_LOCK.get w = 0 then fCLK_STATUS_PLLW_LOCK.set w s.free.1
  else w

/-- PLLW_RETURN: the residual is corrected and WARP switches back to PLL_W (R32, R78, R81, R82, R85, R91, R437). -/
def execPllwReturn (resid : Int) (s : State) : Out :=
  if s.get fCLK_RETUNE_STATE ≠ 4 ∧ ¬ (s.get fCLK_RETUNE_STATE = 7 ∧ s.clk.recover = true) then noEvent s
  else
    let s := s.putSat fTB_RESUME_ERR_ERR resid
    let s := (s.toPllw (!s.clk.recover)).put fCLK_RETUNE_STATE 0
    let s := if s.clk.recover then s else s.put fCLK_RETUNE_RESULT (if s.clk.reverted then 7 else 1)
    let s := { s with clk := { s.clk with recover := false, reverted := false } }
    let s := if s.servoOwns then s.put fCHAIN_STATUS_TSTATE 1 else s
    .next (s.rampStart s.trimNow)

/-! ### Losing PLL_W (R87 to R93) -/

/-- A loss of lock is recorded and reported (R89, R93). -/
def State.lockLossCount (s : State) : State := (s.bump fCLK_COUNT_LOCK_LOSS).report 1 0 0

/-- What a loss of lock does (R88, R89, R91, R93, R269, R296). In REVERT and HELD, which the table of R93 does not list, it is counted and
reported and STATE stays. Log: 13 DESIGN CHOICE, 100 DESIGN CHOICE. -/
def State.lockLoss (s : State) : State :=
  let st := s.get fCLK_RETUNE_STATE
  let s := s.unflag fCLK_STATUS_PLLW_LOCK
  if s.safe then
    let s := s.lockLossCount.guardAfresh
    let s := { s with clk := { s.clk with recover := false } }
    if st = 4 then s.put fCLK_RETUNE_STATE 3 else s
  else
    let s := if s.is fCLK_STATUS_LOCK_LOST then s else (s.setWord aCLK_EVENT_LO (tsLo s.nowT)).setWord aCLK_EVENT_HI (tsHi s.nowT)
    let s := (s.flag fCLK_STATUS_LOCK_LOST).lockLossCount.trimTo
    let s := (((s.calAbort 12).rxCalAbort 12).cdFail 4).toSafe
    (s.put fCLK_RETUNE_STATE (if st = 1 then 2 else 7)).checkLoad

/-- LOCK_LOST: PLL_W loss of lock is detected (R87 to R91, R93). Log: 13 DESIGN CHOICE. -/
def execLockLost (s : State) : Out := .next s.lockLoss

/-! ### The phase watch (R92, R272) -/

/-- M: the reference cycles in 0.4 µs, bounded to 4 to 64 (R272); f_ref from KEEPER_MT_LEN (R62). -/
def State.watchLen (s : State) : Nat := max 4 (min 64 (s.mtLen / (2 ^ 18 * 625)))

/-- How far the timebase advances in one reference cycle at instant `t`, as the keeper predicts it, in wc/1024: the working plan's ratio with the
trim in force, its ramp included (R272). -/
def State.refStep (s : State) (t : Nat) : Rat :=
  let r := planRatio (s.word aPLLW_CFG) (s.word aPLLW_FRAC)
  1024 * (r.1 : Nat) / (r.2 : Nat) * (1 + (s.trimOf (t / 1024) : Rat) / 10 ^ 11)

/-- The errors of stamps of successive rising edges on REF: each stamp less the instant predicted for it, both counted from `t0`, where `pred` is
predicted for the first of them (R272). -/
def State.watchErrs (s : State) (t0 : Nat) (pred : Rat) : List Nat → List Rat
  | [] => []
  | t :: ts => (((tDiff t t0 : Int) : Rat) - pred) :: s.watchErrs t0 (pred + s.refStep t) ts

/-- The mean of the latest M errors less the mean of the M errors before them, in wc/1024 (R272). -/
def State.watchDiff (s : State) (stamps : List Nat) : Rat :=
  let es := s.watchErrs (stamps.headD 0) 0 stamps
  ((es.drop s.watchLen).sum - (es.take s.watchLen).sum) / (s.watchLen : Nat)

/-- Is a difference more than 3.5 ps at the warp frequency in force (R272)? -/
def State.isStep (s : State) (d : Rat) : Bool :=
  let q := s.wcPerMt
  decide (((14336 * q.1 : Nat) : Rat) < (if d < 0 then -d else d) * ((q.2 * 10 ^ 9 : Nat) : Rat))

/-- Does the watch judge at instant `t`: WARP runs on PLL_W outside CORRECT (R92), and 2M reference cycles have passed since the last step
(R272)? -/
def State.watches (s : State) (t : Nat) : Bool :=
  !s.safe && s.get fCLK_RETUNE_STATE != 4 &&
    (match s.clk.stepAt with | some p => tLe (tAdd p (wcs (s.refCycles 0 (2 * s.watchLen)))) t | none => true)

/-- A step of `d` wc/1024 is recorded, counted and reported at instant `t`, and may act as a loss of lock (R92). -/
def State.phaseFlag (s : State) (d : Int) (t : Nat) : State :=
  let s := if s.is fCLK_STATUS_PHASE_STEP then s else s.putSat fCLK_PHASE_WATCH_STEP d
  let s := (s.flag fCLK_STATUS_PHASE_STEP).bump fCLK_COUNT_PHASE_STEPS
  let s := { s with clk := { s.clk with stepAt := some t } }.detect 1 0 1 (enc 14 (satS 14 d)) false s.nowT
  if s.is fCLK_PHASE_WATCH_PS_ACTION then s.lockLoss else s

/-- PHASE_STEP: the watch compares the means of the latest 2M stamps of the reference's rising edges, oldest first, and flags a step of more than
3.5 ps (R92, R272). Log: 15 DEDUCED. -/
def execPhaseStep (stamps : List Nat) (s : State) : Out :=
  let t := stamps.getLastD 0
  if stamps.length ≠ 2 * s.watchLen ∨ s.watches t = false ∨ s.isStep (s.watchDiff stamps) = false then noEvent s
  else .next ((s.flowTo t).phaseFlag (s.watchDiff stamps + 1 / 2).floor t)

/-- PLLW_FIRST_LOCK: PLL_W first locks after PD_WARP powers up; the timebase starts at zero, with the grids counted from it, and the keeper takes over
(R20, R31, R163); not while its start waits for the governor (R548). Log: 12 DEDUCED. -/
def execPllwFirstLock (s : State) : Out :=
  if s.clk.lockedOnce ∨ s.gov.queue.any (fun x => x.1 == .pllw) then noEvent s
  else
    let ck : ClkSt := { s.clk with lockedOnce := true, acc := 0, stamp := 0, tickAt := 0, ticked := false, trimAt := 0, refUsed := 0, advUsed := 0 }
    let outs := s.outs.map (fun (x : OutSt) => { x with gridFrom := x.gridFrom.map (fun _ => 0) })
    .next (({ s.shiftTimers (tSub 0 s.nowT) with now := 0, clk := ck, outs := outs }.put fCLK_STATUS_PLLW_LOCK 1).keeperShow)

end Sys2Proof.Machine
end

