-- ==== Sys2Proof/Machine/LampOps.lean ====
section
/-! DEFINITION. Lamp outputs (chapter 22): on-times, offsets, row slots, the force of R615, status and frame starts. -/

namespace Sys2Proof.Machine

/-- Lamp output `l`, and lamp `i` of the matrix. -/
def State.lamp (s : State) (l : Nat) : LampSt := nth s.lamps.outs l
def State.setLamp (s : State) (l : Nat) (x : LampSt) : State := { s with lamps := { s.lamps with outs := s.lamps.outs.set l x } }
def State.mat (s : State) (i : Nat) : LampSt := nth s.lamps.mats i
def State.setMat (s : State) (i : Nat) (x : LampSt) : State := { s with lamps := { s.lamps with mats := s.lamps.mats.set i x } }

/-- CLASS of an output: 0 UNUSED, 1 A, 2 B (R604). -/
def State.lampClass (s : State) (l : Nat) : Nat := s.get fLAMP_CFG_CLASS l

/-- Does matrix scanning run (R608)? -/
def State.matrix (s : State) : Bool := s.is fLAMP_FRAME_CFG_MATRIX

/-- ROWS of R608. -/
def State.lampRows (s : State) : Nat := s.get fLAMP_FRAME_CFG_ROWS_M1 + 1

/-- Ticks of a frame (R605). -/
def State.frameTicks (s : State) : Nat := 400 * s.get fLAMP_FRAME_CFG_FRAME_LEN

/-- Spans of a frame (R607). -/
def State.lampSpans (s : State) : Nat := s.get fLAMP_FRAME_CFG_SUB_M1 + 1

/-- W of R607. -/
def State.spanTicks (s : State) : Nat := s.frameTicks / s.lampSpans

/-- Ticks of a row slot (R608). -/
def State.slotTicks (s : State) : Nat := s.spanTicks / s.lampRows

/-- Ticks in which an on-time may lie: W, or in matrix mode the slot less its blanking. -/
def State.lampW (s : State) : Nat := if s.matrix then s.slotTicks - s.get fLAMP_SCAN_CFG_BLANK else s.spanTicks

/-- Windows of one output in a frame. -/
def State.lampSlots (s : State) : Nat := if s.matrix then s.lampSpans * s.lampRows else s.lampSpans

/-- Frame-memory entry and phase index of output `l` in window `n`: lamp (r, c) is entry 32r + c (R607, R608, R614). -/
def State.lampEntry (s : State) (l n : Nat) : Nat := if s.matrix then 32 * (n % s.lampRows) + (l - s.lampRows) else l
def State.lampPhase (s : State) (l : Nat) : Nat := if s.matrix then l - s.lampRows else l

/-- The on-time of a level (R607). The word at 0x98_0000 + i holds the working level, which a read returns there and at 0x98_0100 + i; a level written
and not yet applied is in its shadow (R6, R9, R614). -/
def State.onTicks (s : State) (l n : Nat) : Nat :=
  min (s.get fFRAME_SHADOW_LEVEL (s.lampEntry l n)) (s.get fLAMP_CFG_DUTY_CAP l) * s.lampW / 4096

/-- The start of window `n`, counted from the frame start: of the span, or of the slot after its blanking. -/
def State.slotStart (s : State) (n : Nat) : Nat :=
  if s.matrix then n / s.lampRows * s.spanTicks + n % s.lampRows * s.slotTicks + s.get fLAMP_SCAN_CFG_BLANK else n * s.spanTicks

/-- The offset of an on-time in its window (R607). -/
def State.lampOffset (s : State) (l on : Nat) : Nat := (5 * s.lampPhase l) % 32 * (s.lampW - on) / 32

/-- Is output `l` forced to its off level (R615)? -/
def State.lampForced (s : State) (l : Nat) : Bool :=
  s.restoreHold || s.faultHold || s.is fPWR_THERM_SHUTDOWN ||
    (s.is fLIGHT_LOCK_IL_LATCH && (s.lampClass l == 1 || (s.lampClass l == 2 && s.is fLAMP_CFG_IL_GATE l)))

/-- The row whose select is active `t` ticks after the frame start: from BLANK/2 after its slot start to BLANK/2 after the next (R608). -/
def State.rowSelected (s : State) (t : Nat) : Option Nat :=
  let half := s.get fLAMP_SCAN_CFG_BLANK / 2
  if t < half ∨ s.slotTicks = 0 ∨ s.spanTicks = 0 then none
  else
    let u := (t - half) % s.spanTicks
    some (min (u / s.slotTicks) (s.lampRows - 1))

/-- Is LD_l on `t` ticks after the frame start: its window or pulse covers `t`, or it is the row select in force; a forced output is off (R604, R608,
R615)? -/
def State.ldOn (s : State) (l t : Nat) : Bool :=
  s.lamps.running && !s.restoreHold && !s.faultHold && !s.is fPWR_THERM_SHUTDOWN &&
    (if s.matrix && decide (l < s.lampRows) then
      s.rowSelected t == some l && !((List.range 32).any (fun c => decide (s.lampRows ≤ c) && s.lampForced c))
    else !s.lampForced l && !s.is fLAMP_STAT_OC_LATCH l && (match (s.lamp l).win with
      | some w => decide (w.1 ≤ t ∧ t < w.1 + w.2)
      | none => false))

/-- The level LD_l drives: ON_LEVEL while on, its opposite while off (R604). -/
def State.ldLevel (s : State) (l t : Nat) : Bool := if s.ldOn l t then s.is fLAMP_CFG_ON_LEVEL l else !s.is fLAMP_CFG_ON_LEVEL l

/-- FORCED: some output is forced off. -/
def State.anyForced (s : State) : Bool := (List.range 32).any s.lampForced

/-- The force of R615 acts: windows are cut at once and the period is a forced one. Log: 88 DEDUCED. -/
def State.forceLamps (s : State) : State :=
  s.forN 32 (fun s l => if s.lampForced l then s.setLamp l { s.lamp l with win := none, forced := true } else s)

/-- STATUS of R613 from a lamp's diagnosis, class and overcurrent latch. -/
def lampStatus (latch : Bool) (cls base : Nat) : Nat := if latch then 3 else if cls = 0 then 5 else base

/-- STATUS of output `l` follows its cause; a change sets LAMP_EVENT (R613). Log: 88 DEDUCED. -/
def State.showLamp (s : State) (l : Nat) : State :=
  let v := lampStatus (s.is fLAMP_STAT_OC_LATCH l) (s.lampClass l) (s.lamp l).base
  if v = s.get fLAMP_STAT_STATUS l then s else (s.put fLAMP_STAT_STATUS v l).flag fLAMP_STATUS_LAMP_EVENT

/-- The field `f` of LAMP_STAT in the word of matrix lamp `i`. -/
def State.putMat (s : State) (f : Fld) (v i : Nat) : State := s.setWord (aMATRIX_STAT + i) (f.set (s.word (aMATRIX_STAT + i)) v)
def State.getMat (s : State) (f : Fld) (i : Nat) : Nat := f.get (s.word (aMATRIX_STAT + i))

/-- STATUS of matrix lamp `i`, whose column output holds the latch. -/
def State.showMat (s : State) (i : Nat) : State :=
  let latch := s.is fLAMP_STAT_OC_LATCH (s.lampRows + i % 32)
  (s.putMat fLAMP_STAT_OC_LATCH (b2n latch) i).putMat fLAMP_STAT_STATUS (lampStatus latch 2 (s.mat i).base) i

/-- A period that output `l` was commanded on in ends without a valid capture: STARVE counts it (R613). -/
def State.starved (s : State) (l : Nat) : State :=
  let s := s.bump fLAMP_STAT_STARVE l
  (s.setLamp l { s.lamp l with base := if s.get fLAMP_STAT_STARVE l = 1024 then 4 else (s.lamp l).base }).showLamp l

/-- A period of an output ends: STARVE counts it where it was commanded on without a valid capture, and a period without a cut ends the
succession of cuts (R610, R613, R615). Log: 88 DEDUCED. -/
def State.closePeriod (s : State) (l : Nat) : State :=
  let x := s.lamp l
  let y := { x with lit := false, got := false, forced := false, cut := false,
                    cuts := if x.forced ∨ ¬ x.lit ∨ x.cut then x.cuts else 0 }
  if ¬ x.lit ∨ x.got ∨ x.forced then s.setLamp l y
  else (s.setLamp l y).starved l

/-- A frame of a matrix lamp ends. -/
def State.closeMat (s : State) (i : Nat) : State :=
  let x := s.mat i
  let y := { x with lit := false, got := false, forced := false }
  if ¬ x.lit ∨ x.got ∨ x.forced then s.setMat i y
  else
    let n := satU 11 (s.getMat fLAMP_STAT_STARVE i + 1)
    ((s.putMat fLAMP_STAT_STARVE n i).setMat i { y with base := if n = 1024 then 4 else y.base }).showMat i

/-- A lamp restarts at a structure change: UNKNOWN, STARVE 0 (R616). -/
def State.resetLamp (s : State) (l : Nat) : State :=
  let x := s.lamp l
  ((s.setLamp l { x with base := 0, held := none, lit := false, got := false, forced := false, win := none, cut := false, cuts := 0 }).put
    fLAMP_STAT_STARVE 0 l).showLamp l
def State.resetMat (s : State) (i : Nat) : State := ((s.setMat i {}).putMat fLAMP_STAT_STARVE 0 i).putMat fLAMP_STAT_STATUS 0 i

/-- The lamp structure words (R616). -/
def lampWords : List Nat :=
  [aLAMP_FRAME_CFG, aLAMP_SCAN_CFG] ++ (List.range 32).map (fun l => aLAMP_CFG + l) ++ (List.range 32).map (fun l => aLAMP_LIMIT + l)

/-- The apply point of R614: the shadow buffer becomes the working one and holds its copy, and class A shadows apply. -/
def State.lampApplyPoint (s : State) : State :=
  if ¬ s.is fLAMP_APPLY_APPLY_WAIT then s
  else
    let s := s.forN 256 (fun s i => s.applyWord (aFRAME_SHADOW + i))
    let s := s.forN 32 (fun s l => (s.applyWord (aLAMP_PULSE_A + l)).applyWord (aLAMP_PULSE_B + l))
    s.unflag fLAMP_APPLY_APPLY_WAIT

/-- Does output `l` emit class B windows: class B, and in matrix mode a column? -/
def State.emitsB (s : State) (l : Nat) : Bool := s.lampClass l == 2 && (!s.matrix || decide (s.lampRows ≤ l))

/-- The stretch of one output, decided at the start of its frame (R612). -/
def State.planStretch (s : State) (l : Nat) : State :=
  let s := s.setLamp l { s.lamp l with stretch := none }
  if ¬ (s.emitsB l ∧ s.is fLAMP_CFG_STRETCH l) ∨ s.get fLAMP_STATUS_FRAME_COUNT % max 1 (s.get fLAMP_SCAN_CFG_STRETCH_N) ≠ 0 then s
  else
    let ons := (List.range s.lampSlots).map (s.onTicks l)
    let total := (ons.filter (8 ≤ ·)).foldl (· + ·) 0
    match ons.findIdx? (fun on => 8 ≤ on && on < 480) with
    | none => s.bump fLAMP_COUNT_STRETCH_DENIED l
    | some n =>
      if s.lampW < 480 ∨ s.get fLAMP_CFG_DUTY_CAP l * s.frameTicks < 4096 * (total - ons.getD n 0 + 480) then s.bump fLAMP_COUNT_STRETCH_DENIED l
      else s.setLamp l { s.lamp l with stretch := some n }

/-- The window of an output where a frame starts `el` ticks after the one before: a class A pulse that is active goes on to its width, a class B
window ends (R606, R607). -/
def LampSt.carried (x : LampSt) (clsA : Bool) (el : Nat) : LampSt :=
  { x with win := match x.win with
      | some w => if clsA ∧ w.1 < el ∧ el < w.1 + w.2 then some (0, w.1 + w.2 - el) else none
      | none => none }

/-- A frame starts `el` ticks after the one before (R605, R612, R614, R616): the periods of class B end, a released structure takes effect, an apply
point applies, and the pulses and windows of the frame begin. -/
def State.frameStart (s : State) (el : Nat) : State :=
  let s := s.forN 32 (fun s l => s.setLamp l ((s.lamp l).carried (s.lampClass l == 1) el))
  let s := s.forN 32 (fun s l => if s.lampClass l = 2 then s.closePeriod l else s)
  let s := if s.matrix then s.forN 256 State.closeMat else s
  let change := lampWords.any (fun a => (s.staged.find a).isSome && !s.bit fISLAND_HOLD_HELD 8)
  let s := if change then lampWords.foldl State.unstage s else s
  let first := s.lamps.first || change
  let s := if first then (s.forN 32 State.resetLamp).forN 256 State.resetMat else s
  let s := s.put fLAMP_STATUS_FRAME_COUNT (if first then 0 else (s.get fLAMP_STATUS_FRAME_COUNT + 1) % 2 ^ 20)
  let s := s.lampApplyPoint
  let s := { s with lamps := { s.lamps with running := true, first := false, fresh := s.lamps.fresh || change } }
  s.forN 32 (fun s l => (s.setLamp l { s.lamp l with k := 0, n := 0 }).planStretch l)

/-- Output `l` turns on in window `n` for `on` ticks at `lead` from its frame start; a sense code is captured where the on-time reaches the end of the
aperture (R611). -/
def State.lampOn (s : State) (l n lead on : Nat) (sense : Option Nat) : State :=
  let x := s.lamp l
  if s.matrix then
    let i := s.lampEntry l n
    let s := s.setLamp l { x with win := some (lead, on), lit := true, got := true }
    let cap : Bool := decide (480 ≤ on) && sense.isSome
    let s := if cap then (List.range s.lampRows).foldl (fun s r => s.setMat (32 * r + i % 32) { s.mat (32 * r + i % 32) with held := none }) s else s
    let m := s.mat i
    s.setMat i { m with lit := true, got := m.got || cap, held := if cap then sense else m.held, pre := if cap then some m.got else none }
  else
    let cap : Bool := decide (480 ≤ on) && sense.isSome
    s.setLamp l { x with win := some (lead, on), lit := true, got := x.got || cap, held := if cap then sense else x.held,
                          pre := if cap then some x.got else none }

/-- A capture that has not been converted is lost where its output is cut in the same window (R611). -/
def LampSt.uncapture (x : LampSt) : LampSt :=
  match x.held, x.pre with
  | some _, some g => { x with held := none, got := g, pre := none }
  | _, _ => x

/-- Output `l` is cut: its capture is not valid, nor that of the matrix lamp it drives (R610, R611); a class A pulse has then none (R613). Log: 88 DEDUCED. -/
def State.captureCut (s : State) (l : Nat) : State :=
  if s.matrix then (List.range s.lampRows).foldl (fun s r => s.setMat (32 * r + (l - s.lampRows)) (s.mat (32 * r + (l - s.lampRows))).uncapture) s
  else
    let x := (s.lamp l).uncapture
    let lost : Bool := (s.lamp l).got && !x.got
    let s := s.setLamp l x
    if lost ∧ s.lampClass l = 1 then s.starved l else s

/-- A converted capture of output `l` is a valid diagnosis (R611, R613, R617). -/
def State.diagnose (s : State) (l : Nat) : State :=
  let x := s.lamp l
  match x.held with
  | none => s
  | some c =>
    let d := 16 * c
    let s := (s.put fLAMP_STAT_D d l).put fLAMP_STAT_STARVE 0 l
    ((s.setLamp l { x with held := none, base := if d < s.get fLAMP_LIMIT_I_OPEN l then 2 else 1 }).showLamp l).healthLamp l d

/-- A converted capture of matrix lamp `i`; its thresholds are the column output's. Log: 88 DEDUCED. -/
def State.diagnoseMat (s : State) (i : Nat) : State :=
  let x := s.mat i
  match x.held with
  | none => s
  | some c =>
    let d := 16 * c
    let s := (s.putMat fLAMP_STAT_D d i).putMat fLAMP_STAT_STARVE 0 i
    (s.setMat i { x with held := none, base := if d < s.get fLAMP_LIMIT_I_OPEN (s.lampRows + i % 32) then 2 else 1 }).showMat i

end Sys2Proof.Machine
end

