-- ==== Sys2Proof/Machine/LoadCheck.lean ====
section
/-! DEFINITION. The load checks of a draft on its prospective state (R484, R489 and the rules R489 names), and the fields an apply derives
from the graph (R322, R476). -/

namespace Sys2Proof.Machine

/-! ### The prospective state (R484) -/

/-- Is a word of a window restored by a draft (R485 step 2)? -/
def windowDraft (a : Nat) : Bool := tableWindow a && (fieldsAt a).any (fun f => f.rst == .draft && f.acc == .rw)

/-- A word with its RW S fields zero, and whole words of the draft-restored windows zero (R484, R485). Log: 37 DEDUCED. -/
def zeroWord (a : Nat) (w : Word) : Word := if windowDraft a then 0 else mergeFields (fieldsAt a) Fld.rwS w 0

/-- Words that may hold structure other than zero: those listed, and those whose reset word has some. -/
def State.zeroAddrs (s : State) : List Nat :=
  s.regs.map (·.1) ++ s.staged.map (·.1) ++
    (allRows.filter (fun r => zeroWord r.base r.startWord != r.startWord)).flatMap RegRow.addrs

/-- The state with its staged structure in place. -/
def State.present (s : State) : State := s.staged.foldl (fun t e => t.setWord e.1 (s.structWord e.1)) s

/-- The bindings a draft carries take effect (R123, R158, R193, R236, R301). Log: 5 DESIGN CHOICE. -/
def State.takeBinds (s : State) (bs : List Nat) : State :=
  let b := s.binds
  let g (i : Nat) (x : Option Nat) : Option Nat := (Config.draftBind bs i).getD x
  let dac := [g 3 (b.dac.getD 0 none), g 4 (b.dac.getD 1 none)]
  let adc := [g 5 (b.adc.getD 0 none), g 6 (b.adc.getD 1 none)]
  { s with binds := { echo := g 0 b.echo, heddle := g 1 b.heddle, seqLog := g 2 b.seqLog, dac := dac, adc := adc } }

/-- The state a draft gives: structure, tables, and what its INIT frames set, in the words that satisfy `p`. -/
def State.putDraft (s : State) (bs : List Nat) (p : Nat → Bool) : State :=
  let t := s.present
  let t := if drPartial bs then t else (t.zeroAddrs).foldl (fun t a => t.setWord a (zeroWord a (t.word a))) t
  let t := ((draftWrites bs 1).filter (fun e => p e.1)).foldl (fun t e => t.setWord e.1 (mergeFields (fieldsAt e.1) Fld.struct (t.word e.1) e.2)) t
  let t := ((draftWrites bs 2).filter (fun e => p e.1)).foldl (fun t e => t.setWord e.1 (enableOf e.1 (mergeFields (fieldsAt e.1) Fld.init (t.word e.1) e.2))) t
  ((draftWrites bs 3).foldl (fun t e => if (regAt e.1).isSome then t.setWord e.1 e.2 else t) t).takeBinds bs

/-- The prospective state of R484. Log: 65 DEDUCED. -/
def State.prospect (s : State) (bs : List Nat) : State := s.putDraft bs (fun _ => true)

/-! ### Checks -/

/-- A failed load check: REASON and FAIL_ADDR. -/
abbrev Chk := Option (Nat × Nat)

/-- A check that fails when `bad` holds. -/
def chk (bad : Bool) (reason addr : Nat) : Chk := if bad then some (reason, addr) else none

/-- The first failure of a list of checks. -/
def firstBad (l : List Chk) : Chk := l.findSome? id

/-- The first failure over the numbers below `n`. -/
def eachN (n : Nat) (f : Nat → Chk) : Chk := (List.range n).findSome? f

/-- f_W in Hz. -/
def State.fW (s : State) : Rat := let q := s.wcPerMt; (4000 * q.1 : Nat) / (max 1 q.2 : Nat)

/-- PLAN (R29, R61, R63, R73). -/
def State.planCheck (s : State) : Chk :=
  let int := s.get fKEEPER_MT_LEN_INT
  let nc := s.get fPLLC_CFG_NC
  firstBad [
    chk (decide (int < 2500) || decide (187500 < int)) 0x10 aKEEPER_MT_LEN,
    chk (!s.planOk (s.word aPLLW_CFG) (s.word aPLLW_FRAC)) 0x10 aPLLW_CFG,
    chk (s.is fCHAIN_CFG_ROLE && s.is fPLLW_CFG_MODE) 0x10 aPLLW_CFG,
    chk (decide (nc < 9) || decide (404 < nc) || decide (s.fC < 4750000000) || decide (5050000000 < s.fC) ||
      (!s.is fPLLC_CFG_MODE && s.get fPLLC_CFG_FC != 0)) 0x10 aPLLC_CFG]

/-- Sources a line selects. -/
def State.lineSources (s : State) (l : Nat) : Nat :=
  popCount (s.get fHEDDLE_LINE_SRC_TI_MASK l) 16 + popCount (s.get fHEDDLE_LINE_SRC_RG_MASK l) 8 + popCount (s.get fHEDDLE_LINE_SRC_MK0_MASK l) 4 +
    popCount (s.get fHEDDLE_LINE_SRC_MK1_MASK l) 4

/-- The last INIT value a draft gives a field. -/
def initValue (bs : List Nat) (f : Fld) (o : Nat) : Option Nat :=
  (((draftWrites bs 2).filter (fun e => e.1 == f.base + o)).getLast?).map (fun e => f.get e.2)

/-- R148 for line `l` of a draft. Log: 65 DEDUCED. -/
def State.lineCheck (s : State) (bs : List Nat) (l : Nat) : Chk :=
  let mode := s.get fHEDDLE_LINE_CFG_ARM_MODE l
  let wr := (draftWrites bs 1).any (fun e => e.1 == aHEDDLE_LINE_CFG + l)
  chk ((decide (2 ≤ mode) && s.get fHEDDLE_LINE_CFG_ARM_LINE l == l) ||
      decide (s.lineSources l < s.get fHEDDLE_LINE_CFG_COMB_K l) ||
      (wr && mode == 1 && initValue bs fHEDDLE_IN_CFG_EN (s.get fHEDDLE_LINE_CFG_ARM_IN l) != some 1)) 0x11 (aHEDDLE_LINE_CFG + l)

/-- Nanoseconds of a converter's enabled entries (R600). -/
def State.monTime (s : State) (c : Nat) : Nat :=
  ((List.range 16).map (fun e => if s.is fMON_SEQ_EN (16 * c + e) then (max 2 (s.get fMON_SEQ_S_TIME (16 * c + e)) + 14) * 25 else 0)).sum

/-- Metres of gauge pitch in 10⁻¹⁸ m terms: P_m of fibre `f` (R332). -/
def State.pitchM (s : State) (f : Nat) : Rat :=
  let r := s.get fRXW_LINK_CFG_RATIO f
  let ts : Rat := if r = 0 then 5 / 3 else if r = 1 then 2 else 5 / 2
  if s.fW = 0 ∨ s.get fRES_FIBRE_CFG_N_GROUP f = 0 then 0
  else (s.get fRES_GAUGE_CFG_PITCH f : Nat) / 64 * (8 * ts / s.fW) * 299792458 / (2 * ((s.get fRES_FIBRE_CFG_N_GROUP f : Nat) / 16384))

/-- FIELD (R148, R332, R342, and the encodings a draft must not set). Log: 65 DEDUCED. -/
def State.fieldCheck (s : State) (bs : List Nat) : Chk :=
  firstBad [
    eachN 16 (fun i => chk (s.get fHEDDLE_IN_CFG_STD i == 3) 0x11 (aHEDDLE_IN_CFG + i)),
    eachN 64 (s.lineCheck bs),
    eachN 8 (fun m => chk (decide (5 ≤ s.get fMOUT_FMT_FMT m)) 0x11 (aMOUT_FMT + m)),
    eachN 8 (fun m => chk (initValue bs fMOUT_CTRL_MODE m == some 3) 0x11 (aMOUT_CTRL + m)),
    eachN 2 (fun q => chk (s.get fSEQ_CFG_STREAM_SRC q == 3) 0x11 (aSEQ_CFG + q)),
    eachN 2 (fun f => chk (s.get fPROBE_CFG_RATIO f == 3 || decide (2 ≤ s.get fPROBE_CFG_LINKSET f)) 0x11 (aPROBE_CFG + f)),
    eachN 4 (fun b => chk (s.get fREED_Q_CFG_FORM b == 3) 0x11 (aREED_Q_CFG + b)),
    eachN 2 (fun f => chk (s.get fRXW_LINK_CFG_RES f == 3 || s.get fRXW_LINK_CFG_CS f == 3) 0x11 (aRXW_LINK_CFG + f)),
    eachN 2 (fun f => chk (let ng := s.get fRES_GAUGE_CFG_NG f; ng == 0 || decide (131072 < ng) || s.get fRES_GAUGE_CFG_PITCH f == 0 ||
      decide (s.pitchM f < 1 / 2) || decide (10 < s.pitchM f)) 0x11 (aRES_GAUGE_CFG + f)),
    eachN 16 (fun k => chk (decide (5 ≤ s.get fRES_STREAM_CFG_SRC k) || (s.is fRES_STREAM_CFG_FORM k && decide (2 ≤ s.get fRES_STREAM_CFG_SRC k)))
      0x11 (aRES_STREAM_CFG + k)),
    eachN 32 (fun i => chk (let src := s.get fRES_DET_CFG_SRC i; let f := i / 16
      s.get fRES_DET_CFG_KIND i == 3 || decide (11 ≤ src) || (src == 10 && !s.is fRES_SPEC_CFG_EN f) ||
        (decide (2 ≤ src) && decide (src < 10) && !s.is fRES_BAND_CFG_EN (8 * f + (src - 2)))) 0x11 (aRES_DET_CFG + i)),
    eachN 4096 (fun q => chk (decide (8 ≤ s.get fBOLT_Q_CFG_PROD q) || decide (6 ≤ s.get fBOLT_Q_CFG_CONS q) ||
      (s.is fBOLT_Q_CFG_EN q && s.get fBOLT_Q_CFG_CONS q == 1 && decide (64 ≤ s.get fBOLT_Q_CFG_CONS_SEL q))) 0x11 (aBOLT_Q_CFG + q)),
    chk (s.get fHOST_CFG_PERS == 3) 0x11 aHOST_CFG,
    eachN 32 (fun i => chk (s.is fMON_SEQ_EN i && decide (40 ≤ s.get fMON_SEQ_CH i)) 0x11 (aMON_SEQ + i)),
    eachN 2 (fun c => chk (!s.is fMON_SEQ_EN (16 * c) || s.get fMON_SEQ_CH (16 * c) != 39) 0x11 (aMON_SEQ + 16 * c)),
    chk (max 2 (s.get fMON_SEQ_S_TIME 0) != max 2 (s.get fMON_SEQ_S_TIME 16) || s.get fMON_SEQ_GAIN 0 != s.get fMON_SEQ_GAIN 16) 0x11 aMON_SEQ,
    chk (decide (1000 * s.get fMON_CFG_PASS_PER < s.monTime 1) || decide (1000 * s.get fMON_CFG_PASS_PER < s.monTime 0 + 17600)) 0x11 aMON_CFG,
    eachN 32 (fun l => chk (s.get fLAMP_CFG_CLASS l == 3 || (s.is fLAMP_FRAME_CFG_MATRIX && s.get fLAMP_CFG_CLASS l != 2)) 0x11 (aLAMP_CFG + l)),
    chk (s.is fLAMP_FRAME_CFG_MATRIX && s.get fLAMP_FRAME_CFG_ROWS_M1 == 0) 0x11 aLAMP_FRAME_CFG,
    chk (s.is fLAMP_FRAME_CFG_MATRIX && decide (s.slotTicks - s.get fLAMP_SCAN_CFG_BLANK < 64)) 0x11 aLAMP_SCAN_CFG,
    eachN 256 (fun i => let w := s.word (aCLUSTER_DESC + 4 * i)
      chk (bitOf w 35 && (decide (9 ≤ getBits w 31 4) || getBits w 22 2 == 3)) 0x11 (aCLUSTER_DESC + 4 * i))]

/-! ### Bindings (R240, R260, R365, R394, R442, R477) -/

/-- Is queue `q` one that producer port `p` may write? -/
def State.prodOk (s : State) (q p : Nat) : Bool := s.is fBOLT_Q_CFG_EN q && s.get fBOLT_Q_CFG_PROD q == p

/-- The check of a queue's consumer (R365, R394, R442). -/
def State.consCheck (s : State) (q : Nat) : Chk :=
  let c := s.get fBOLT_Q_CFG_CONS q
  let k := s.get fBOLT_Q_CFG_CONS_SEL q
  chk (s.is fBOLT_Q_CFG_EN q &&
    ((c == 3 && !(if k < 64 then s.is fHIST_SK_CFG_EN k && !s.is fHIST_SK_CFG_KIND k else k == 0x80 || k == 0x81)) ||
      (c == 2 && !(decide (k < 64) && s.is fCHAIN_TXMAP_EN k)))) 0x12 (aBOLT_Q_CFG + q)

/-- The tones that a CORR slot selects and whose header is disabled (R477). -/
def State.corrBad (s : State) (i : Nat) : Bool :=
  let w := s.word (aCLUSTER_DESC + 4 * i)
  bitOf w 35 && getBits w 31 4 == 1 &&
    (bitList (getBits w 6 16) 16).any (fun t => !bitOf (s.word (aCORR_HDR + 0x4000 * (16 * getBits w 30 1 + t))) 35)

/-- A producer binding that is no register field: the queue of the echo records, the Heddle firings or the sequencer log (R123, R158, R193,
R365). Log: 5 DESIGN CHOICE. -/
def State.bindQueue (s : State) (q : Option Nat) (p : Nat) : Chk :=
  match q with
  | none => none
  | some q => chk (!s.prodOk q p) 0x12 (aBOLT_Q_CFG + q)

/-- BINDING (R240, R260, R365, R394, R442, R477, R489). Log: 65 DEDUCED. -/
def State.bindCheck (s : State) : Chk :=
  firstBad [
    chk (s.is fLIGHT_CFG_GATE_EN 0 && s.is fLIGHT_CFG_GATE_EN 1 && s.get fLIGHT_CFG_GATE_CH 0 == s.get fLIGHT_CFG_GATE_CH 1) 0x12 aLIGHT_CFG,
    eachN 16 (fun i => chk (s.get fREED_Q_CFG_FORM (s.get fREED_IN_CFG_QSEL i) == 2) 0x12 (aREED_IN_CFG + i)),
    chk ((s.get fSEQ_CFG_FIBRE 0 &&& s.get fSEQ_CFG_FIBRE 1) != 0) 0x12 aSEQ_CFG,
    eachN 4 (fun b => chk (s.is fREED_Q_CFG_EN b && !s.prodOk (s.get fREED_Q_CFG_QUEUE b) 1) 0x12 (aREED_Q_CFG + b)),
    eachN 2 (fun q => let k := s.get fSEQ_CFG_STREAM_QUEUE q
      chk (s.get fSEQ_CFG_STREAM_SRC q == 1 &&
        !(s.is fBOLT_Q_CFG_EN k && s.get fBOLT_Q_CFG_CONS k == 4 && s.get fBOLT_Q_CFG_CONS_SEL k == q)) 0x12 (aSEQ_CFG + q)),
    eachN 16 (fun k => chk (s.is fRES_STREAM_CFG_EN k && !s.prodOk (s.get fRES_STREAM_CFG_QUEUE k) 3) 0x12 (aRES_STREAM_CFG + k)),
    eachN 2 (fun f => chk (s.is fRES_FIBRE_CFG_EVT_EN f && !s.prodOk (s.get fRES_FIBRE_CFG_EVT_QUEUE f) 3) 0x12 (aRES_FIBRE_CFG + f)),
    eachN 64 (fun t => chk (s.is fCHAIN_RXMAP_EN t && !s.prodOk (s.get fCHAIN_RXMAP_QUEUE t) 5) 0x12 (aCHAIN_RXMAP + t)),
    s.bindQueue s.binds.echo 1, s.bindQueue s.binds.heddle 1, s.bindQueue s.binds.seqLog 2,
    eachN 4096 s.consCheck,
    eachN 256 (fun i => chk (s.corrBad i) 0x12 (aCLUSTER_DESC + 4 * i))]

/-! ### The graph (R319, R321, R322, R476) -/

/-- An instance slot in use. -/
structure Slot where
  c : Nat
  j : Nat
  stage : Nat
  fib : Nat
  inst : Nat
  pol : Nat
  tones : Nat
  count : Nat
  ins : List Nat
  mem : Nat
  deriving DecidableEq, Repr

/-- The slots of cluster `c` in use (R476). -/
def State.slotsOf (s : State) (c : Nat) : List Slot :=
  (List.range 4).filterMap (fun j =>
    let a := aCLUSTER_DESC + 16 * c + 4 * j
    let w := s.word a
    if bitOf w 35 then
      some ⟨c, j, getBits w 31 4, getBits w 30 1, getBits w 24 6, getBits w 22 2, getBits w 6 16, getBits (s.word (a + 1)) 0 18,
        bitList (s.word (a + 2)).toNat 36 ++ (bitList (getBits (s.word (a + 3)) 8 28) 28).map (· + 36), getBits (s.word (a + 3)) 0 8⟩
    else none)

/-- Every slot in use. -/
def State.slots (s : State) : List Slot := (List.range 64).flatMap s.slotsOf

/-- Do two slots belong to one instance? -/
def Slot.same (a b : Slot) : Bool := a.stage == b.stage && a.fib == b.fib && a.inst == b.inst

/-- The clusters of a slot's instance. -/
def Slot.clusters (x : Slot) (all : List Slot) : List Nat := (all.filter (Slot.same x)).map (·.c)

/-- f_S of the receive grid of fibre `f` in Hz (R299). -/
def State.fS (s : State) (f : Nat) : Rat :=
  let r := s.get fRXW_LINK_CFG_RATIO f
  s.fW * (if r = 0 then 3 / 5 else if r = 1 then 1 / 2 else 2 / 5)

/-- Lane-cycles per second a slot's instance asks of one of its clusters (R321, R322). Log: 66 DESIGN CHOICE. -/
def State.slotDemand (s : State) (all : List Slot) (x : Slot) : Rat :=
  let f := x.fib
  let row : Rat := ((x.count * Config.rowRate f : Nat) : Rat)
  let d : Rat :=
    if x.stage = 0 then 12 * s.fS f
    else if x.stage = 1 then (if x.pol = 2 then 2 else 1) * 24 * (s.fS f / 8)
    else if x.stage = 2 then ((popCount x.tones 16 : Nat) : Rat) * 22 * (s.fS f / 8)
    else if x.stage = 3 then 4 * row
    else if x.stage = 4 then 6 * row
    else if x.stage = 5 then 10 * row
    else if x.stage = 6 then 3 * row
    else if x.stage = 7 then 48 * row
    else 8 * row
  d / ((max 1 (x.clusters all).length : Nat) : Rat)

/-- The load of cluster `c` (R322). Log: 66 DESIGN CHOICE. -/
def State.clusterLoad (s : State) (all : List Slot) (c : Nat) : Rat :=
  if s.fC = 0 then 0 else ((all.filter (fun x => x.c == c)).map (s.slotDemand all)).sum / (16 * (s.fC / 4))

/-- Stages that may feed a stage: CHAN from the array inputs, then CORR, PHASE, DIFF; UNWRAP, BAND and DEC from DIFF; SPEC from UNWRAP; EVENT
from DIFF, BAND or SPEC (R321, R322). Log: 66 DESIGN CHOICE. -/
def feeders (stage : Nat) : List Nat :=
  if stage = 1 then [0] else if stage = 2 then [1] else if stage = 3 then [2]
  else if stage = 4 ∨ stage = 5 ∨ stage = 8 then [3] else if stage = 7 then [4] else if stage = 6 then [3, 5, 7] else []

/-- Are a slot's inputs of the kind its stage requires? -/
def Slot.inputsOk (x : Slot) (all : List Slot) : Bool :=
  if x.stage = 0 then x.ins.isEmpty
  else !x.ins.isEmpty && x.ins.all (fun c => all.any (fun y => y.c == c && y.fib == x.fib && (feeders x.stage).contains y.stage))

/-- Does a slot break a rule of R322 that its own cluster shows? -/
def Slot.bad (x : Slot) (all : List Slot) : Bool :=
  let mine := all.filter (fun y => y.c == x.c)
  let cs := sortNat (x.clusters all)
  mine.any (fun y => y.fib != x.fib) ||
    (x.stage == 1 && (mine.length != 1 || x.j != 0 || cs.length != 1)) ||
    (x.stage == 0 && !((x.pol == 0 && cs == [4 * x.fib, 4 * x.fib + 1]) || (x.pol == 1 && cs == [4 * x.fib + 2, 4 * x.fib + 3]))) ||
    !x.inputsOk all

/-- Every descriptor word in address order. -/
def State.descWords (s : State) : List Nat := (List.range 1024).map (fun i => (s.word (aCLUSTER_DESC + i)).toNat)

/-- MAPPING (R322). Log: 66 DESIGN CHOICE. -/
def State.mapCheck (s : State) : Chk :=
  let all := s.slots
  firstBad [
    (all.find? (fun x => x.bad all)).map (fun x => (0x13, aCLUSTER_DESC + 16 * x.c + 4 * x.j)),
    eachN 64 (fun c => chk (decide (9 / 10 < s.clusterLoad all c) || decide (240 < ((all.filter (fun x => x.c == c)).map (·.mem)).sum))
      0x13 (aCLUSTER_DESC + 16 * c)),
    chk (!all.isEmpty && !Config.meshOk s.descWords) 0x13 aCLUSTER_DESC]

/-- RXW_CLUSTER of cluster `c`: load in 1/1024 rounded down, memory, the stage of its largest instance, and its fibre (R322). Log: 66 DESIGN CHOICE. -/
def State.clusterWord (s : State) (c : Nat) : Word :=
  let all := s.slots
  let mine := all.filter (fun x => x.c == c)
  let top := mine.foldl (fun (b : Option Slot) x =>
    match b with
    | none => some x
    | some y => if s.slotDemand all y < s.slotDemand all x then some x else some y) none
  let w := fRXW_CLUSTER_MEM.set (fRXW_CLUSTER_LOAD.set 0 (min 1023 (s.clusterLoad all c * 1024).floor.toNat)) (min 255 (mine.map (·.mem)).sum)
  match top with
  | none => fRXW_CLUSTER_STAGE.set w 15
  | some x => fRXW_CLUSTER_FIBRE.set (fRXW_CLUSTER_STAGE.set w x.stage) x.fib

/-! ### Converters (R234, R236, R299 to R301) -/

/-- T_LEMC of a fibre's receive link in wc (R299). -/
def State.rxLemcOf (s : State) (f : Nat) : Nat :=
  let r := s.get fRXW_LINK_CFG_RATIO f
  if s.get fRXW_LINK_CFG_RXSET f = 1 then (if r = 1 then 256 else 320) else if r = 0 then 320 else if r = 1 then 384 else 480

/-- Does a master output that the draft names for SYSREF fail R236 for a period of `t` wc? Log: 5 DESIGN CHOICE. -/
def State.sysrefBad (s : State) (m : Option Nat) (t : Nat) : Bool :=
  match m with
  | none => false
  | some m =>
    let p := s.get fMOUT_PERIOD_COARSE m * 1024 + s.get fMOUT_PERIOD_FINE m
    s.get fMOUT_CTRL_MODE m != 2 || p == 0 || p % (1024 * t) != 0

/-- CONVERTER. -/
def State.convCheck (s : State) : Chk :=
  firstBad [
    eachN 2 (fun f => let r := s.get fPROBE_CFG_RATIO f
      chk (if s.get fPROBE_CFG_LINKSET f = 1 then r != 2 || decide (32500000000 < 33 / 2 * (s.fW / 2))
        else decide (32500000000 < 11 * (s.fW * (if r = 0 then 2 / 3 else if r = 1 then 3 / 5 else 1 / 2)))) 0x14 (aPROBE_CFG + f)),
    eachN 2 (fun f => let r := s.get fRXW_LINK_CFG_RATIO f; let x := s.get fRXW_LINK_CFG_RXSET f
      chk (r == 3 || x == 3 || decide (2400000000 < s.fS f) || (x == 1 && r == 0) ||
        decide (32500000000 < (if x = 1 then 33 / 2 else 11) * s.fS f)) 0x14 (aRXW_LINK_CFG + f)),
    eachN 2 (fun f => chk (s.get fRXW_LINK_CFG_RES f == 0 && s.get fRXW_LINK_CFG_CS f != 0) 0x14 (aRXW_LINK_CFG + f)),
    eachN 2 (fun f => chk (s.sysrefBad (s.binds.dac.getD f none) (s.txLemc f)) 0x14 (aPROBE_CFG + f)),
    eachN 2 (fun f => chk (s.sysrefBad (s.binds.adc.getD f none) (s.rxLemcOf f)) 0x14 (aRXW_LINK_CFG + f))]

/-! ### Memory (R364, R388, R390, R392, R481) -/

/-- The page ranges a draft names: first page, last page, word. -/
def State.pageRanges (s : State) : List (Nat × Nat × Nat) :=
  (List.range 2).map (fun f => (s.get fHIST_TONE_MAP_BASE_PAGE f, s.get fHIST_TONE_MAP_BASE_PAGE f + s.get fHIST_TONE_MAP_PAGES_M1 f, aHIST_TONE_MAP + f)) ++
    (List.range 2).map (fun q =>
      (s.get fHIST_STREAM_CFG_BASE_PAGE q, s.get fHIST_STREAM_CFG_BASE_PAGE q + s.get fHIST_STREAM_CFG_PAGES_M1 q, aHIST_STREAM_CFG + q)) ++
    ((List.range 64).filter (fun k => s.is fHIST_SK_CFG_EN k)).map (fun k =>
      (s.get fHIST_SK_MAP_BASE_PAGE k, s.get fHIST_SK_MAP_BASE_PAGE k + s.get fHIST_SK_MAP_PAGES_M1 k, aHIST_SK_MAP + k))

/-- The first range that meets an earlier one. -/
def overlapOf : List (Nat × Nat × Nat) → List (Nat × Nat × Nat) → Option Nat
  | _, [] => none
  | seen, r :: t => if seen.any (fun x => decide (x.1 ≤ r.2.1) && decide (r.1 ≤ x.2.1)) then some r.2.2 else overlapOf (r :: seen) t

/-- RESERVE of the enabled queues. -/
def State.reserveSum (s : State) : Nat :=
  ((List.range 4096).map (fun q => if s.is fBOLT_Q_CFG_EN q then s.get fBOLT_Q_LIMIT_RESERVE q else 0)).sum

/-- MEMORY. Log: 65 DEDUCED. -/
def State.memCheck (s : State) : Chk :=
  firstBad [
    chk (decide (524288 < s.reserveSum)) 0x15 aBOLT_Q_LIMIT,
    eachN 4096 (fun q => let l := s.get fBOLT_Q_LIMIT_LIMIT q
      chk (s.is fBOLT_Q_CFG_EN q && l != 0 && decide (l < s.get fBOLT_Q_LIMIT_RESERVE q)) 0x15 (aBOLT_Q_LIMIT + q)),
    (s.pageRanges.find? (fun r => decide (16372 ≤ r.2.1))).map (fun r => (0x15, r.2.2)),
    (overlapOf [] s.pageRanges).map (fun a => (0x15, a)),
    chk (decide (64 < s.get fHIST_MEM_SHARE_WEFT + s.get fHIST_MEM_SHARE_CAPT + s.get fHIST_MEM_SHARE_RAW + s.get fHIST_MEM_SHARE_REFILL +
      s.get fHIST_MEM_SHARE_READ + s.get fHIST_MEM_SHARE_SCRUB)) 0x15 aHIST_MEM_SHARE,
    eachN 2 (fun f => chk (decide ((s.get fHIST_TONE_MAP_PAGES_M1 f + 1) * 32768 < 8 * ((s.get fRES_GAUGE_CFG_NG f + 12) / 13))) 0x15 (aHIST_TONE_MAP + f))]

/-- The load checks of a draft, in the order of their reason codes (R484, R489). Log: 65 DEDUCED. -/
def State.loadCheck (s : State) (bs : List Nat) : Chk :=
  let t := s.prospect bs
  firstBad [t.planCheck, t.fieldCheck bs, t.bindCheck, t.mapCheck, t.convCheck, t.memCheck]

end Sys2Proof.Machine
end

