-- ==== Sys2Proof/Machine/Master.lean ====
section
/-! DEFINITION. The median voter, roles, swaps and replacement of master-output generators (R171 to R181), and the requests for
applies and timed applies of channels and master outputs (R116, R117, R167). -/

namespace Sys2Proof.Machine

/-! ### Calibration of master outputs as swaps meet it (R284) -/

/-- A MOUT run goes on with the next output that can rotate, or ends; an output whose fourth generator is FAULTY, or stands in a replacement
swap, cannot (R176, R284, R288). -/
def State.calMoutNext (s : State) : List Nat → State
  | [] => s.calDone.calEnd
  | m :: rest =>
    let g := s.fourth m
    let r := s.role m g
    if r = 5 ∨ r = 6 then
      ((s.put fCAL_STATUS_REASON 14).put fCAL_STATUS_UNIT (72 + 4 * m + g)).calMoutNext rest
    else
      let s := { s with cal := { s.cal with phase := 6, todo := rest, cur := 4 * m + g, gens := [], t0 := s.calT, prev := if r = 4 then 3 else r, held := none } }
      (s.put fCAL_STATUS_UNIT (72 + 4 * m + g)).setRole m g 4

/-- The output being calibrated cannot rotate further: it is skipped (R284). -/
def State.calMoutSkip (s : State) : State := ((s.heldRecord (s.cal.cur / 4)).put fCAL_STATUS_REASON 14).calMoutNext s.cal.todo

/-- Is a MOUT run working on output `m`? -/
def State.calOnMout (s : State) (m : Nat) : Bool := (s.cal.phase == 6 || s.cal.phase == 7) && s.cal.cur / 4 == m

/-! ### Swaps and replacement (R177, R178, R180, R181) -/

/-- A swap starts: the incoming generator loads the output's values as SHADOW (R177). -/
def State.startSwap (s : State) (m inc out : Nat) (why : SwapWhy) : State :=
  let v := nth s.voters m
  (s.setVoter m { v with swap := some ⟨inc, out, why, none, false, none⟩ }).setRole m inc 5

/-- The replacement of voting generator `g` of output `m` starts, waits for a rotation swap, or is not available (R178, R180). -/
def State.replaceGen (s : State) (m g : Nat) : State :=
  let v := nth s.voters m
  match v.swap with
  | some w =>
    if w.why = .rotation then
      if w.out = g then s.setVoter m { v with swap := some { w with outDis := true } }
      else s.setVoter m { v with swap := some { w with after := some (w.after.getD g) } }
    else s.flag fMOUT_GEN_REPLACE_UNAVAIL m
  | none =>
    let f := s.fourth m
    let r := s.role m f
    if r = 3 then
      let s := if s.calOnMout m ∧ s.cal.phase = 7 then s.calMoutSkip else s
      s.startSwap m f g .replacement
    else if r = 4 then
      let busy := s.calOnMout m
      let s := (s.flag fCAL_STATUS_CAL_ABORT).put fCAL_STATUS_REASON 11
      let s := s.startSwap m f g .replacement
      if busy then s.calMoutSkip else s
    else s.flag fMOUT_GEN_REPLACE_UNAVAIL m

/-! ### Voting (R171 to R174, R182) -/

/-- The record of a voter disagreement (R174). -/
def State.voteErr (s : State) (m g cause : Nat) (d : Int) (t : Nat) : State :=
  let s := (s.flag fMOUT_STATUS_VOTE_ERR m).bump fMOUT_VOTE_COUNT_VOTE_ERRS
  let s := if s.is fMOUT_VOTE_FIRST_INFO_VALID then s
    else ((s.setWord aMOUT_VOTE_FIRST_LO (tsLo t)).setWord aMOUT_VOTE_FIRST_HI (tsHi t)).setWord aMOUT_VOTE_FIRST_INFO
      (BitVec.ofNat 36 (2 ^ 35 + m * 2 ^ 32 + g * 2 ^ 29 + cause * 2 ^ 26 + dev10 d * 2 ^ 16))
  s.detect 5 (4 * m + g) cause (dev10 d) (s.get fMOUT_GEN_REDUNDANCY m != 3) s.nowT

/-- The outgoing generator of a rotation swap disagrees (R180). -/
def Swap.outDisagrees (w : Swap) (gs : List Nat) : Swap :=
  { w with outDis := w.outDis || (w.why == .rotation && gs.contains w.out) }

/-- Generators classified as disagreeing at one edge or check with reference `t`: marks, reports, then the replacement of the
lowest-numbered one that had not disagreed before; the outgoing one of a rotation swap leaves as FAULTY (R174, R178 to R180). -/
def State.disagree (s : State) (m : Nat) (es : List (Nat × Nat × Int)) (t : Nat) : State :=
  let v := nth s.voters m
  let gs := es.map (·.1)
  let new := gs.filter (fun g => !v.dis.contains g)
  let s := (s.setVoter m { v with dis := v.dis ++ new.dedup, swap := v.swap.map (·.outDisagrees gs) }).redundancy m
  let s := es.foldl (fun s e => s.voteErr m e.1 e.2.1 e.2.2 t) s
  match new.filter (fun g => !v.swap.any (fun w => w.why == .rotation && w.out == g)) with
  | [] => s
  | g :: gs => if s.is fMOUT_CTRL_REPLACE_EN m then s.replaceGen m (gs.foldl min g) else s

/-- Insert a number into a rising list. -/
def insertInt (a : Int) : List Int → List Int
  | [] => [a]
  | b :: t => if a ≤ b then a :: b :: t else b :: insertInt a t

/-- The second of the arrivals present, of three voting generators. -/
def secondArrival (ds : List Int) : Option Int :=
  match ds.foldr insertInt [] with
  | _ :: b :: _ => some b
  | _ => none

/-- The classification of one arrival against the reference at deviation `ref` from the scheduled edge (R172, R173): cause and
deviation. A deviation between 14 ps and 20 ps is reported where the free bit `seen` says so. Log: 15 DEDUCED. -/
def State.classify (s : State) (seen : Bool) (ref : Int) (a : Option Int) : Option (Nat × Int) :=
  match a with
  | none => some (1, 0)
  | some a =>
    let d := a - ref
    if s.within d 14 || (s.within d 20 && !seen) then none
    else if d < -1024 then some (1, 0)
    else if d < 0 then some (5, d)
    else if d ≤ 1024 then some (4, d)
    else some (1, 0)

/-- A generator whose two fellows deviate beyond 20 ps on the same side of it, where it keeps to the schedule and they do not: the two are the
deviant ones (R172). Answered with its arrival. Log: 31 DEDUCED. -/
def State.loneKeeper (s : State) (vs : List (Nat × Option Int)) : Option Int :=
  (vs.find? (fun e => match e.2 with
    | some a => s.within a 20 && (vs.all (fun f => f.1 == e.1 || f.2.any (fun b => decide (a < b ∧ b ≤ 1024) && !s.within (b - a) 20 && !s.within b 20)) ||
        vs.all (fun f => f.1 == e.1 || f.2.any (fun b => decide (b < a ∧ -1024 ≤ b) && !s.within (b - a) 20 && !s.within b 20)))
    | none => false)).bind (·.2)

/-- The arrivals of the voting generators at one edge with reference deviation `ref`: the generators that disagree, each with cause and deviation
(R172, R173). -/
def State.voteOutcome (s : State) (seen : Nat) (ref : Int) (vs : List (Nat × Option Int)) : List (Nat × Nat × Int) :=
  match if vs.length = 3 then s.loneKeeper vs else none with
  | some z => vs.filterMap (fun e => e.2.bind (fun a => if s.within (a - z) 20 then none else some (e.1, if a < z then 5 else 4, a - z)))
  | none => vs.filterMap (fun e => (s.classify (seen.testBit e.1) ref e.2).map (fun c => (e.1, c.1, c.2)))

/-- A shadow that disagrees during its comparison abandons its swap (R177); a replacement that waited for a rotation swap cannot start (R178). Log: 31 DEDUCED. -/
def State.shadowFails (s : State) (m g : Nat) (t : Nat) : State :=
  let v := nth s.voters m
  let rot : Bool := match v.swap with | some w => w.why == .rotation | none => false
  let owed : Bool := match v.swap with | some w => rot && (w.outDis || w.after.isSome) | none => false
  let s := (s.setVoter m { v with swap := none, faulty := v.faulty ++ [g] }).setRole m g 6
  let s := (s.flag fMOUT_GEN_SWAP_FAIL m).voteErr m g 6 0 t
  let s := if owed then s.flag fMOUT_GEN_REPLACE_UNAVAIL m else s
  if rot ∧ s.cal.phase = 7 ∧ s.calOnMout m then s.calMoutSkip else s

/-- The generator under comparison at output `m`. -/
def State.comparing (s : State) (m : Nat) : Option Nat :=
  match (nth s.voters m).swap with
  | some w => if w.compFrom.isSome then some w.inc else none
  | none => none

/-- A generator of output `m` shows cause `cause` at instant `t`: it disagrees while it votes, and fails its comparison as a shadow. -/
def State.voteOne (s : State) (m g cause t : Nat) : Out :=
  if s.role m g < 3 then .next (s.disagree m [(g, cause, 0)] t)
  else if s.comparing m = some g then .next (s.shadowFails m g t) else noEvent s

/-- Is `t` an instant of a level check in the steady interval that runs (R121)? -/
def isCheck (iv : Nat × Option Nat) (t : Nat) : Bool :=
  match checkAfter iv none with
  | some c => t == c || (tLt c t && (tDiff t iv.1).toNat % wcs 1024 == 0 && iv.2.all (fun e => tLt t e))
  | none => false

/-- The generators that came more than 1 wc early are reported at their transitions, before the scheduled edge at `t` is classified (R172). -/
def State.earlyExtras (s : State) (m t : Nat) (ref : Int) (vs : List (Nat × Option Int)) : State :=
  vs.foldl (fun s e => match e.2 with
    | some a => if a - ref < -1024 then
        let x := ((t : Int) + a).toNat % tMod
        (s.flowTo x).disagree m [(e.1, 2, 0)] x
      else s
    | none => s) s

/-- VOTE_CLASSIFY: the arrivals of a scheduled edge, a stray transition, or a level that differs from the voted one at a level check; the working
ECHO_OFS is removed from every stamp (R171 to R174, R177 to R180, R182, R279). Log: 30 DESIGN CHOICE, 31 DEDUCED, 96 DEDUCED. -/
def execVoteClassify (m : Fin 8) (obs : VoteObs) (s : State) : Out :=
  let m := m.val
  let o := 64 + m
  let x := s.out o
  match obs with
  | .extra g t =>
    let t := tShift t (-s.echoOfs o)
    if s.safe then noEvent s else (s.flowTo (tAdd t 1024)).voteOne m g.val 2 t
  | .stuck g t =>
    let s := s.flowTo t
    if isCheck (s.steady o ((s.out o).lastLead.getD 0)) t then s.voteOne m g.val 3 t else noEvent s
  | .arrivals ds shadow =>
    match x.vote with
    | [] => noEvent s
    | (t, lead) :: rest =>
      let vs := (s.voting m).map (fun g => (g, s.injEdge (72 + 4 * m + g) t (((ds.find? (fun e => e.1.val == g)).bind (·.2)).map (· - s.echoOfs o))))
      let s := (s.voting m).foldl (fun s g => s.injEdgeUsed (72 + 4 * m + g) t) s
      let second := secondArrival (vs.filterMap (·.2))
      let ref : Int := match second with | some z => if z.natAbs ≤ 1024 then z else 0 | none => 0
      let t' := ((t : Int) + ref).toNat % tMod
      let f := s.free
      let s := if s.safe then f.2 else f.2.earlyExtras m t ref vs
      let s := s.flowTo (tAdd t 1024)
      let s := s.setOut o { s.out o with vote := rest }
      let counts := fun (c : Nat) => !s.safe || (!lead && c == 1)
      let es := (s.voteOutcome f.1 ref vs).filter (fun e => counts e.2.1)
      let s := if es = [] then s else s.disagree m es t'
      match s.comparing m, shadow with
      | some g, some a =>
        let a := s.injEdge (72 + 4 * m + g) t (a.map (· - s.echoOfs o))
        let s := s.injEdgeUsed (72 + 4 * m + g) t
        .next (if (s.classify (f.1.testBit g) ref a).any (fun c => counts c.1) then s.shadowFails m g t' else s)
      | _, _ => .next s

/-- SWAP_COPY_DONE: the incoming generator follows the schedule and its comparison starts (R177). -/
def execSwapCopyDone (m : Fin 8) (s : State) : Out :=
  let v := nth s.voters m.val
  match v.swap with
  | some w => if w.compFrom.isNone then .next (s.setVoter m.val { v with swap := some { w with compFrom := some s.nowT } }) else noEvent s
  | none => noEvent s

/-- The scheduled transitions of output `o` around the present: the latest two, the end of the active pulse, and those to come. A window of
32 wc holds at most 16 pulses (R164). -/
def State.transitions (s : State) (o : Nat) : List Nat :=
  let x := s.out o
  x.lastLead.toList ++ x.lastTrail.toList ++ (x.act.bind (·.trail)).toList ++ State.upcoming o 20 s

/-- The instant at which a swap whose comparison ends at `lo` takes over: the first one, no more than 32 wc ahead, at least 100 ps from every
scheduled transition (R177). -/
def State.quietFrom (s : State) (o lo : Nat) : Option Nat :=
  let xs := s.transitions o
  let gap := s.psUp 100
  let ok := (lo :: xs.map (tAdd · gap)).filter (fun y =>
    tLe lo y && tLe y (tAdd lo (wcs 32)) && xs.all (fun x => decide ((gap : Int) ≤ (tDiff x y).natAbs)))
  ok.foldl (fun a y => match a with | some z => some (if tLt y z then y else z) | none => some y) none

/-- A generator that reached SPARE replaces a FAULTY one that votes (R181). -/
def State.faultyLeaves (s : State) (m : Nat) : State :=
  let v := nth s.voters m
  let f := s.fourth m
  if s.role m f = 3 ∧ v.swap.isNone then
    match (s.voting m).find? (fun g => v.faulty.contains g) with
    | some g => s.startSwap m f g .replacement
    | none => s
  else s

/-- The swap of output `m` is complete: roles change over, and what waited for it starts (R176 to R181, R284). -/
def State.swapDone (s : State) (m : Nat) (w : Swap) : State :=
  let v := nth s.voters m
  let r := s.role m w.out
  let faulty := w.why = .replacement ∨ w.outDis = true ∨ v.faulty.contains w.out = true
  let rest := v.dis.filter (fun g => g != w.out && g != w.inc)
  let s := s.setVoter m { dis := rest, faulty := if faulty ∧ ¬ v.faulty.contains w.out then v.faulty ++ [w.out] else v.faulty, swap := none }
  let cal := s.calOnMout m && s.cal.phase == 7
  let s := s.put (roleFld w.inc) r m
  let s := s.setRole m w.out (if faulty then 6 else if cal ∧ w.after.isNone then 4 else 3)
  let s := if cal then
      (if faulty ∨ w.after.isSome then s.calMoutSkip
       else ({ s with cal := { s.cal with phase := 6, cur := 4 * m + w.out, t0 := s.calT, prev := 3 } }).put fCAL_STATUS_UNIT (72 + 4 * m + w.out))
    else s
  match w.after with
  | some g => s.replaceGen m g
  | none => s

/-- SWAP_TAKEOVER: after at least 64 wc of comparison the incoming generator takes the voter input at a quiet instant of the next 32 wc; with
none, the comparison goes on over them and the choice repeats (R177). -/
def execSwapTakeover (m : Fin 8) (s : State) : Out :=
  match (nth s.voters m.val).swap with
  | none => noEvent s
  | some w => match w.compFrom with
    | none => noEvent s
    | some c =>
      let s := s.flowTo (tAdd c (wcs 64))
      match s.quietFrom (64 + m.val) s.nowT with
      | some y => .next ((s.flowTo y).swapDone m.val w)
      | none =>
        let v := nth s.voters m.val
        .next ((s.setVoter m.val { v with swap := some { w with compFrom := some (tSub s.nowT (wcs 32)) } }).flowTo (tAdd s.nowT (wcs 32)))

/-- REPLACE: replaces voting generator GEN while REPLACE_EN is 1 (R178, R180, R181). -/
def execReplace (m : Fin 8) (g : Fin 4) (s : State) : Out :=
  let s := s.put fMOUT_CMD_GEN g.val m.val
  .next (if 3 ≤ s.role m.val g.val then s.flag fMOUT_GEN_REPLACE_UNAVAIL m.val
    else if s.is fMOUT_CTRL_REPLACE_EN m.val then s.replaceGen m.val g.val else s)

/-- CLEAR_FAULTY: a FAULTY generator moves to UNCAL (R181). -/
def execClearFaulty (m : Fin 8) (g : Fin 4) (s : State) : Out :=
  let s := s.put fMOUT_CMD_GEN g.val m.val
  if s.role m.val g.val = 6 then
    let v := nth s.voters m.val
    .next ((s.setVoter m.val { v with faulty := v.faulty.filter (fun x => x != g.val) }).setRole m.val g.val 7)
  else .next s

/-! ### Requests for applies (R116, R117, R167) -/

/-- The channels that a bank mask and an index mask select. -/
def chansOf (banks chans : Nat) : List Nat := (List.range 64).filter (fun n => banks.testBit (n / 8) && chans.testBit (n % 8))

/-- WARP_APPLY: GO selects channels to apply at their next apply point (R116). -/
def execWarpApply (banks chans : Fin 256) (s : State) : Out :=
  let s := (s.put fWARP_APPLY_BANK_MASK banks.val).put fWARP_APPLY_CH_MASK chans.val
  .next ((chansOf banks.val chans.val).foldl (fun s o => s.requestApply o) s)

/-- MOUT_APPLY: GO selects master outputs to apply at their apply points; a grid applies at its trailing edge; an output that
becomes a running grid ends a waiting load (R39, R166, R167). -/
def execMoutApply (outs : Fin 256) (s : State) : Out :=
  let s := s.put fMOUT_APPLY_OUT_MASK outs.val
  .next ((bitList outs.val 8).foldl (fun s m =>
    if s.oMode (64 + m) = 5 ∧ (s.out (64 + m)).act.isNone ∧ (s.out (64 + m)).gridFrom.isNone then s.applyOut (64 + m)
    else s.requestApply (64 + m)) s).checkLoad

/-- WARP_TAPPLY_ARM: a timed apply of source 0x6 with its masks (R117). -/
def execWarpTapplyArm (banks chans : Fin 256) (s : State) : Out :=
  let s := (s.put fWARP_TAPPLY_CTRL_BANK_MASK banks.val).put fWARP_TAPPLY_CTRL_CH_MASK chans.val
  if s.is fWARP_TAPPLY_CTRL_PENDING then .next (s.flag fWARP_TAPPLY_CTRL_ARM_BUSY)
  else .next ((s.flag fWARP_TAPPLY_CTRL_PENDING).sendDue
    ⟨.chApply banks.val chans.val, 3, tsOf (s.word aWARP_TAPPLY_LO) (s.word aWARP_TAPPLY_HI), 6⟩)

/-- Is a target a timed apply of channels? -/
def isChApply : DueTarget → Bool
  | .chApply _ _ => true
  | _ => false

/-- Is a target a timed apply of master outputs? -/
def isMoApply : DueTarget → Bool
  | .moApply _ => true
  | _ => false

/-- WARP_TAPPLY_CANCEL: the pending timed apply is withdrawn before its commit (R117). -/
def execWarpTapplyCancel (s : State) : Out :=
  match s.cancelDue (fun c => isChApply c.target) with
  | some s => .next (s.unflag fWARP_TAPPLY_CTRL_PENDING)
  | none => .next s

/-- MOUT_TAPPLY_ARM (R167). -/
def execMoutTapplyArm (outs : Fin 256) (s : State) : Out :=
  let s := s.put fMOUT_TAPPLY_CTRL_OUT_MASK outs.val
  if s.is fMOUT_TAPPLY_CTRL_PENDING then .next (s.flag fMOUT_TAPPLY_CTRL_ARM_BUSY)
  else .next ((s.flag fMOUT_TAPPLY_CTRL_PENDING).sendDue
    ⟨.moApply outs.val, 3, tsOf (s.word aMOUT_TAPPLY_LO) (s.word aMOUT_TAPPLY_HI), 6⟩)

/-- MOUT_TAPPLY_CANCEL (R167). -/
def execMoutTapplyCancel (s : State) : Out :=
  match s.cancelDue (fun c => isMoApply c.target) with
  | some s => .next (s.unflag fMOUT_TAPPLY_CTRL_PENDING)
  | none => .next s

end Sys2Proof.Machine
end

