-- ==== Sys2Proof/Machine/Apply.lean ====
section
/-! DEFINITION. Timed applies and group applies at their due times (R117, R167, R216, R232, R326, R501 to R504). -/

namespace Sys2Proof.Machine

/-- The timed apply that acts next: among the commands of the wc of the store's head the first apply (R99). -/
def State.nextApply (s : State) : Option Stored :=
  match s.store with
  | [] => none
  | c :: _ => s.store.find? (fun e => isApply e.cmd && tFloor e.cmd.due == tFloor c.cmd.due)

/-- A sequencer takes a timed apply at its first segment boundary, or at once when it does not run (R215, R216). -/
def State.seqTimed (s : State) (q : Nat) (own : Bool) (due : Nat) : State :=
  let x := s.seq q
  if s.seqRunning q then s.setSeq q (if own then { x with timed := some due } else { x with group := x.group ++ [due] })
  else
    let s := s.seqApply q
    if own then s.seqTapplyDone q else s

/-- Outputs apply at their due wc, whatever their state; during an ALL run the command is discarded (R117, R167, R285). Log: 41 DESIGN CHOICE. -/
def State.outsTimed (s : State) (os : List Nat) : State := os.foldl State.applyOut s

/-- The head apply leaves the store and time passes to its due wc, the events before it taking place; those of the wc come after it (R99). -/
def State.takeApply (s : State) (c : Stored) : State := 
  let s := s.flowBefore (tFloor c.cmd.due)
  { s with store := s.store.erase c }

/-- A timed apply other than a group's acts (R117, R167, R216, R232, R326). -/
def State.timedApply (s : State) (c : DueCmd) : State :=
  match c.target with
  | .chan n => if s.calAll then s.bump fCAL_DISCARD_DISCARD else s.applyOut n.val
  | .mout m => if s.calAll then s.bump fCAL_DISCARD_DISCARD else s.applyOut (64 + m.val)
  | .chApply b k =>
    if s.calAll then (s.bump fCAL_DISCARD_DISCARD).unflag fWARP_TAPPLY_CTRL_PENDING
    else ((s.outsTimed (chansOf b k)).unflag fWARP_TAPPLY_CTRL_PENDING).flag fWARP_TAPPLY_CTRL_DONE
  | .moApply k =>
    if s.calAll then (s.bump fCAL_DISCARD_DISCARD).unflag fMOUT_TAPPLY_CTRL_PENDING
    else ((s.outsTimed ((bitList k 8).map (64 + ·))).unflag fMOUT_TAPPLY_CTRL_PENDING).flag fMOUT_TAPPLY_CTRL_DONE
  | .seqApply q => s.seqTimed q.val true c.due
  | .probeApply k =>
    (((bitList k 2).foldl (fun s f => s.applyProbe f c.due) s).unflag fPROBE_TAPPLY_CTRL_PENDING).flag fPROBE_TAPPLY_CTRL_DONE
  | .rxwApply k =>
    (((bitList k 2).foldl (fun s f => s.applyRes f c.due) s).unflag fRXW_TAPPLY_CTRL_PENDING).flag fRXW_TAPPLY_CTRL_DONE
  | .line _ => s
  | .group _ => s

/-- Every target a group selects applies under its own rule (R502, R503). -/
def State.groupApply (s : State) (g : Word) (due : Nat) : State :=
  let outs := chansOf (fAPPLY_GROUP_BANK_MASK.get g) (fAPPLY_GROUP_CH_MASK.get g) ++ (bitList (fAPPLY_GROUP_OUT_MASK.get g) 8).map (64 + ·)
  let s := if outs.isEmpty then s else if s.calAll then s.bump fCAL_DISCARD_DISCARD else s.outsTimed outs
  let s := (bitList (fAPPLY_GROUP_SEQ_MASK.get g) 2).foldl (fun s q => s.seqTimed q false due) s
  let s := (bitList (fAPPLY_GROUP_PROBE_MASK.get g) 2).foldl (fun s f => s.applyProbe f due) s
  let s := (bitList (fAPPLY_GROUP_RX_MASK.get g) 2).foldl (fun s f => s.applyRes f due) s
  s.bump fGROUP_COUNT_APPLIED

/-- TAPPLY: a timed apply at its due time applies the shadows it selects; on the safe clock or in a retune it is discarded (R55, R99, R117,
R167, R216, R232, R326). -/
def execTapply (s : State) : Out :=
  match s.nextApply with
  | none => noEvent s
  | some c =>
    if isGroup c.cmd.target then noEvent s
    else
      let s := s.takeApply c
      .next (if s.unlocked then s.lockDrop c.cmd else s.timedApply c.cmd)

/-- GROUP_TAPPLY: a group apply at its due time applies every selected target, or is discarded (R502 to R504). Log: 74 DEDUCED. -/
def execGroupTapply (s : State) : Out :=
  match s.nextApply with
  | none => noEvent s
  | some c =>
    if ¬ isGroup c.cmd.target then noEvent s
    else
      let s := s.takeApply c
      if s.unlocked then .next (s.lockDrop c.cmd)
      else
        let s := s.groupApply c.grp c.cmd.due
        .next (if c.cmd.src = 6 then (s.unflag fGROUP_TAPPLY_CTRL_PENDING).flag fGROUP_TAPPLY_CTRL_DONE else s)

/-- GROUP_TAPPLY_ARM: ARM sends a group apply of source 0x6, or sets ARM_BUSY (R117, R503). -/
def execGroupTapplyArm (g : Fin 256) (s : State) : Out :=
  let s := s.put fGROUP_TAPPLY_CTRL_GROUP g.val
  if s.is fGROUP_TAPPLY_CTRL_PENDING then .next (s.flag fGROUP_TAPPLY_CTRL_ARM_BUSY)
  else .next ((s.flag fGROUP_TAPPLY_CTRL_PENDING).sendDue ⟨.group g, 3, tsOf (s.word aGROUP_TAPPLY_LO) (s.word aGROUP_TAPPLY_HI), 6⟩)

/-- GROUP_TAPPLY_CANCEL: the pending local group apply is withdrawn before its commit (R117, R503). -/
def execGroupTapplyCancel (s : State) : Out :=
  match s.cancelDue (fun c => isGroup c.target && c.src == 6) with
  | some s => .next (s.unflag fGROUP_TAPPLY_CTRL_PENDING)
  | none => .next s

end Sys2Proof.Machine
end

