-- ==== Sys2Proof/Machine/Reed.lean ====
section
/-! DEFINITION. Reed's commands: the merger and its records, gates, and the results of measurement units (R256 to R268). -/

namespace Sys2Proof.Machine

/-! ### The merger (R261 to R263) -/

/-- The oldest stamp held in any FIFO, equal times by input number. -/
def oldestStamp : List (Nat × Stamp) → Option (Nat × Stamp)
  | [] => none
  | e :: t =>
    match oldestStamp t with
    | none => some e
    | some f => if tLt f.2.t e.2.t then some f else some e

/-- The heads of the 16 FIFOs. -/
def State.stampHeads (s : State) : List (Nat × Stamp) :=
  (List.range 16).filterMap (fun i => ((nth s.reedIn i).fifo.head?).map (fun st => (i, st)))

/-- Word 2 of a STAMP3 record (R262). -/
def stamp3Word (i : Nat) (st : Stamp) (gap : Bool) : Word :=
  BitVec.ofNat 36 (i * 2 ^ 32 + b2n st.rising * 2 ^ 31 + b2n gap * 2 ^ 30 + st.ca * 2 ^ 24 + st.cb * 2 ^ 18)

/-- A STAMP1 stamp word (R262). -/
def stamp1Word (i : Nat) (st : Stamp) (gap : Bool) : Word :=
  BitVec.ofNat 36 (i * 2 ^ 31 + b2n st.rising * 2 ^ 30 + b2n gap * 2 ^ 29 + natBits st.t 10 19 * 2 ^ 10 + natBits st.t 0 10)

/-- Anchors A and B of a stamp (R262, R263). -/
def anchors (t : Nat) : List Word :=
  [BitVec.ofNat 36 (2 * 2 ^ 34 + natBits t 29 34), BitVec.ofNat 36 (3 * 2 ^ 34 + natBits t 63 9)]

/-- The record of a stamp for its binding: the words, or none where the binding takes no stamps. -/
def State.stampRecord (s : State) (b i : Nat) (st : Stamp) (gap : Bool) : List Word :=
  let cfg := s.word (aREED_Q_CFG + b)
  if fREED_Q_CFG_EN.get cfg = 0 then []
  else if fREED_Q_CFG_FORM.get cfg = 1 then [tsLo st.t, tsHi st.t, stamp3Word i st gap]
  else if fREED_Q_CFG_FORM.get cfg = 0 then
    (if (nth s.reedBind b).high = some (natBits st.t 29 43) then [] else anchors st.t) ++ [stamp1Word i st gap]
  else []

/-- The instant of the oldest stamp, among those offered and those that still wait for their place among the gate events. -/
def State.stampAhead (s : State) : Option Nat :=
  earliest (s.stampHeads.map (fun e => e.2.t) ++ (s.reedPend.filter (fun c => c.codes.isSome)).map (fun c => c.inst))

/-- The queue's previous stamp is now one with wc bits [61:19] `v`, or its next stamp needs an anchor (R263). -/
def State.bindHigh (s : State) (q : Nat) (v : Option Nat) : State :=
  s.forN 4 (fun s b => if s.get fREED_Q_CFG_QUEUE b = q then { s with reedBind := s.reedBind.set b { high := v } } else s)

/-- The merger takes the oldest held stamp, at least 32 wc old and 16 wc after the last of its input, and writes its record (R261 to R263). -/
def State.mergeOldest (s : State) : State :=
  match oldestStamp s.stampHeads with
  | none => s
  | some (i, st) =>
    let x := nth s.reedIn i
    let s := s.flowTo (tAdd st.t (wcs 32))
    let s := match x.taken with | some k => s.flowTo (tAdd k (wcs 16)) | none => s
    let b := s.get fREED_IN_CFG_QSEL i
    let ws := s.stampRecord b i st x.gap
    let y := { x with fifo := x.fifo.drop 1, taken := some s.nowT }
    let q := s.get fREED_Q_CFG_QUEUE b
    let r := s.packet q ws
    let wrote := r.2 && !ws.isEmpty
    let s := { r.1 with reedIn := s.reedIn.set i { y with gap := if wrote then false else y.gap } }
    if ws = [] then s else s.bindHigh q (if wrote then some (natBits st.t 29 43) else none)

/-- STAMP_MERGE: the merger takes the oldest stamp of the inputs (R261 to R263). -/
def execStampMerge (s : State) : Out :=
  match s.stampAhead with
  | none => noEvent s
  | some t => .next ((s.flowTo (tAdd t (wcs 32))).reedAll.mergeOldest)

/-! ### Gates (R256 to R259) -/

/-- The next event of a gate takes place if it is of this kind: the crossings and gate events before it come first. -/
def State.gateEvent (s : State) (g : Nat) (close : Bool) : Out :=
  let s' := s.reedTo s.nowT
  match s'.gateNext g with
  | some (e, cl) => if cl = close then .next ((s'.flowTo e).reedTo e) else noEvent s
  | none => noEvent s

/-- GATE_OPEN: the next opening event of a gate takes place, its earlier close first (R257, R258). Log: 40 DEDUCED. -/
def execGateOpen (g : Fin 4) (s : State) : Out := s.gateEvent g.val false

/-- GATE_CLOSE: an open gate closes at its close event or length (R257, R258, R268). Log: 40 DEDUCED. -/
def execGateClose (g : Fin 4) (s : State) : Out := s.gateEvent g.val true

/-- GATE_ARM: ARM schedules the opening of a TIMED gate at START, is ignored while a REPEAT series runs, or is refused (R259, R274). -/
def execGateArm (g : Fin 4) (s : State) : Out :=
  let g := g.val
  let s := s.reedTo s.nowT
  let start := tsOf (s.word (aREED_GATE_START_LO + g)) (s.word (aREED_GATE_START_HI + g))
  let x := s.gate g
  let cfg := s.gateCfg g
  if fREED_GATE_CFG_SRC.get cfg ≠ 3 then .next s
  else if x.opened.isSome ∧ fREED_GATE_CFG_REPEAT.get cfg = 1 then .next (s.flag fREED_GATE_CTRL_EXTRA g)
  else if tLt start (tAdd s.nowT (wcs 64)) then .next (s.flag fREED_GATE_CTRL_LATE g)
  else .next (s.gateOpening g start 3)

/-- GATE_HOST_OPEN: OPEN opens a HOST gate in the acceptance wc (R257, R258). -/
def execGateHostOpen (g : Fin 4) (s : State) : Out :=
  let s := s.reedTo s.nowT
  if fREED_GATE_CFG_SRC.get (s.gateCfg g.val) ≠ 4 then .next s
  else .next ((s.gateOpening g.val s.nowT 4).gatesSync s.nowT)

/-- GATE_HOST_CLOSE: CLOSE closes a HOST gate (R257, R258). -/
def execGateHostClose (g : Fin 4) (s : State) : Out :=
  let s := s.reedTo s.nowT
  if fREED_GATE_CFG_SRC.get (s.gateCfg g.val) ≠ 4 then .next s
  else .next ((s.gateClosing g.val s.nowT).gatesSync s.nowT)

/-- Is a TIMED gate open or armed? -/
def GateSt.timed (x : GateSt) : Bool :=
  (x.opened.isSome && fREED_GATE_CFG_SRC.get x.cfg == 3) || x.opens.any (fun e => e.2 == 3)

/-- GATE_STOP: STOP lets the open gate of a TIMED series run to its close, and no more open; a gate that is armed but not yet open opens, and is the
last (R259). Log: 105 DESIGN CHOICE. -/
def execGateStop (g : Fin 4) (s : State) : Out :=
  let s := s.reedTo s.nowT
  let x := s.gate g.val
  .next (if x.timed then s.setGate g.val { x with stop := true } else s)

/-! ### Results (R268) -/

/-- MU_RESULT: a unit writes its eight result words after a gate close; words 1 to 7 keep a snapshot that a read of word 0 holds (R267, R268, R273,
R274). -/
def execMuResult (u : Fin 4) (s : State) : Out :=
  let u := u.val
  let s' := s.reedTo s.nowT
  let x := s'.mu u
  match x.results with
  | [] => noEvent s
  | r :: rest =>
    let s := s'.setMu u { x with results := rest, latest := r.words }
    let s := s.forN (if x.snap then 1 else 8) (fun s i => s.setWord (aREED_MU_RES + 8 * u + i) (r.words.getD i 0))
    let s := if s.is fREED_MU_STATUS_NEW u then s.flag fREED_MU_STATUS_OVERWRITE u else s
    let b := fREED_MU_CFG_RES_Q.get r.cfg
    let q := s.word (aREED_Q_CFG + b)
    let qen := fREED_MU_CFG_RES_QEN.get r.cfg == 1
    let ok := fREED_Q_CFG_FORM.get q == 2
    let s := if qen ∧ ok ∧ fREED_Q_CFG_EN.get q = 1 then (s.packet (fREED_Q_CFG_QUEUE.get q) r.words).1 else s
    .next ((((s.flag fREED_MU_STATUS_NEW u).put fREED_MU_STATUS_INVALID (b2n (r.invalid || (qen && !ok))) u).put
      fREED_MU_STATUS_RANGE (b2n r.range) u).put fREED_MU_STATUS_CLK_EVT (b2n r.clkEvt) u)

/-- MU_RESULT_READ: a read of word 0 snapshots words 1 to 7 of the latest result (R268). -/
def execMuResultRead (u : Fin 4) (s : State) : Out :=
  let x := s.mu u.val
  let ws := x.latest
  .next ((s.setMu u.val { x with snap := true }).forN 7 (fun s i => s.setWord (aREED_MU_RES + 8 * u.val + i + 1) (ws.getD (i + 1) 0)))

end Sys2Proof.Machine
end

