-- ==== Sys2Proof/Machine/Hist.lean ====
section
/-! DEFINITION. Package memory (chapter 13): stream regions, Skeins and their frames, rewind marks, readers, double-bit errors, the
patrol scrubber, and the retention test. -/

namespace Sys2Proof.Machine

/-- Skein `k`. -/
def State.skein (s : State) (k : Nat) : SkeinSt := nth s.skeins k

/-- The state with Skein `k` replaced. -/
def State.setSkein (s : State) (k : Nat) (x : SkeinSt) : State := { s with skeins := s.skeins.set k x }

/-- Reader `r`. -/
def State.reader (s : State) (r : Nat) : RdSt := nth s.readers r

/-- The state with reader `r` replaced. -/
def State.setReader (s : State) (r : Nat) (x : RdSt) : State := { s with readers := s.readers.set r x }

/-- Stream region `q`. -/
def State.region (s : State) (q : Nat) : RegionSt := nth s.regions q

/-- The state with stream region `q` replaced. -/
def State.setRegion (s : State) (q : Nat) (x : RegionSt) : State := { s with regions := s.regions.set q x }

/-- Is island `n` held (R496)? -/
def State.islandHeld (s : State) (n : Nat) : Bool := s.bit fISLAND_HOLD_HELD n

/-- Does MEMC serve its clients: trained, powered and not held (R404, R405)? -/
def State.memcRuns (s : State) : Bool := s.is fHIST_MEM_STATUS_READY && s.domOn 6 && !s.islandHeld 6

/-- Does MEMC hold the tone memory, trained and powered? Until then UNWRAP stalls (R391, R404). -/
def State.toneRuns (s : State) : Bool := s.is fHIST_MEM_STATUS_READY && s.domOn 6

/-- The enabled Bolt queue whose consumer is MEMC under number `sel` and that has a committed word. -/
def State.memcQueue (s : State) (sel : Nat) : Option Nat :=
  ((s.queues.filter (fun e => decide (0 < s.visible e.2))).map (·.1)).find? (fun q =>
    s.is fBOLT_Q_CFG_EN q && s.get fBOLT_Q_CFG_CONS q == 3 && s.get fBOLT_Q_CFG_CONS_SEL q == sel)

/-! ### Marks (R398 to R400) -/

/-- FRAME_NO of the oldest valid frame; of the next one where none is valid (R397). -/
def SkeinSt.oldest (x : SkeinSt) : Nat := match x.frames with | f :: _ => f.no | [] => x.next

/-- The first frame in write order at or after `t`, else the next to be written. -/
def SkeinSt.firstAt (x : SkeinSt) (t : Nat) : Nat :=
  match x.frames.find? (fun f => tLe t f.inst) with | some f => f.no | none => x.next

/-- PRE of a Skein in wc/1024. -/
def State.pre (s : State) (k : Nat) : Nat := wcs (s.get fHIST_SK_POL_PRE k * 2 ^ 17)

/-- POST of a Skein in wc/1024. -/
def State.post (s : State) (k : Nat) : Nat := wcs (s.get fHIST_SK_POL_POST k * 2 ^ 17)

/-- Frame numbers have 36 bits. -/
def frameMod : Nat := 2 ^ 36

/-- A frame with instant at or after M + POST completes an OPEN mark (R398). -/
def MarkSt.see (m : MarkSt) (f : Frame) : MarkSt :=
  if m.st = 1 ∧ tLe (tAdd m.inst m.post) f.inst then { m with st := 2, end_ := f.no } else m

/-- Does the oldest valid frame of a Skein lie after M − PRE (R398)? -/
def SkeinSt.short (x : SkeinSt) (m : MarkSt) : Bool := match x.frames with | f :: _ => tLt (tSub m.inst m.pre) f.inst | [] => false

/-- A mark request reaches Skein `k`: the lowest FREE slot holds the oldest valid frame until START_FRAME is located, or the request is
refused. A frame already written at or after M + POST completes it (R398). Log: 55 DEDUCED. -/
def State.placeMark (s : State) (k : Nat) (m : MarkSt) : State :=
  if ¬ s.is fHIST_SK_CFG_EN k then s
  else
    let x := s.skein k
    match (List.range 16).find? (fun j => (nth x.marks j).st == 0) with
    | none => s.bump fHIST_SK_STATUS_MARK_REFUSED k
    | some j =>
      let m := { m with st := 1, pre := s.pre k, post := s.post k, start := x.oldest }
      s.setSkein k { x with marks := x.marks.set j (x.frames.foldl MarkSt.see { m with preShort := x.short m }) }

/-- A detector's request reaches every Skein that accepts its fibre (R357, R398). -/
def State.detectorMark (s : State) (inst fibre det id : Nat) : State :=
  s.forN 64 (fun s k =>
    if s.is (if fibre = 0 then fHIST_SK_CFG_MARK_F0 else fHIST_SK_CFG_MARK_F1) k then
      s.placeMark k { inst := inst, fibre := fibre, det := det, id := id % 65536 }
    else s)

/-- Does reader `r` run on Skein `k`? -/
def State.readsSkein (s : State) (r k : Nat) : Bool := s.is fHIST_RD_CTRL_RUN r && fHIST_RD_CFG_SKEIN.get (s.reader r).cfg == k

/-- Does reader `r` follow slot `j` of Skein `k`? -/
def State.followsMark (s : State) (r k j : Nat) : Bool :=
  s.readsSkein r k && !(s.reader r).loose && fHIST_RD_CFG_SLOT.get (s.reader r).cfg == j &&
    (fHIST_RD_CFG_FROM.get (s.reader r).cfg == 1 || fHIST_RD_CFG_UNTIL.get (s.reader r).cfg == 0)

/-- Slot `j` of Skein `k` becomes FREE; a reader on it continues to the mark's END_FRAME where it has one (R400, R407). Log: 55 DEDUCED. -/
def State.freeMark (s : State) (k j : Nat) : State :=
  let x := s.skein k
  let m := nth x.marks j
  let s := s.forN 8 (fun s r =>
    if s.followsMark r k j then s.setReader r { s.reader r with loose := true, until_ := if m.st = 2 then some (m.end_ + 1) else none } else s)
  s.setSkein k { x with marks := x.marks.set j {} }

/-- Raw words gathered for Skein `k` under a structure that no longer governs are dropped (R396, R405). -/
def State.rawDrop (s : State) (k : Nat) (cfg : Word) : State :=
  if fHIST_SK_CFG_EN.get cfg = 0 ∨ fHIST_SK_CFG_KIND.get cfg = 0 then s
  else
    let f := fHIST_SK_CFG_FIBRE.get cfg
    let x := s.rxOf f
    (s.setRx f { x with raw := [], rawFrames := [], rawGap := x.rawGap || x.raw != [] }).bump fHIST_SK_STATUS_DROP_COUNT k x.rawFrames.length

/-- A Skein is emptied: its marks are FREE and a reader on it stops with ERR (R400, R405, R407). -/
def State.emptySkein (s : State) (k : Nat) : State :=
  let s := s.forN 8 (fun s r => if s.readsSkein r k then (s.unflag fHIST_RD_CTRL_RUN r).flag fHIST_RD_CTRL_ERR r else s)
  (s.setSkein k {}).unflag fHIST_SK_STATUS_WRAPPED k

/-- HIST_MARK: GO with OP 0 places a host mark at the instant in HIST_MARK_LO and HIST_MARK_HI (R398). -/
def execHistMark (k : Fin 64) (s : State) : Out :=
  let s := (s.put fHIST_MARK_CMD_OP 0).put fHIST_MARK_CMD_SKEIN k.val
  .next (s.placeMark k.val { host := true, inst := tsOf (s.word aHIST_MARK_LO) (s.word aHIST_MARK_HI) })

/-- HIST_RELEASE: GO with OP 1 frees a slot (R400, R407). -/
def execHistRelease (k : Fin 64) (j : Fin 16) (s : State) : Out :=
  let s := ((s.put fHIST_MARK_CMD_OP 1).put fHIST_MARK_CMD_SKEIN k.val).put fHIST_MARK_CMD_SLOT j.val
  .next (s.freeMark k.val j.val)

/-- MARK_LOCATED: START_FRAME of a mark is found (R398). -/
def execMarkLocated (k : Fin 64) (j : Fin 16) (s : State) : Out :=
  let x := s.skein k.val
  let m := nth x.marks j.val
  if m.st = 0 ∨ m.located then noEvent s
  else
    .next (s.setSkein k.val { x with marks := x.marks.set j.val { m with located := true, start := x.firstAt (tSub m.inst m.pre) } })

/-! ### Writing frames (R394 to R399, R402) -/

/-- Lines of a frame with `n` payload words. -/
def frameLines (n : Nat) : Nat := (n + 4 + 12) / 13

/-- Lines of a Skein's ring. -/
def State.skeinLines (s : State) (k : Nat) : Nat := (s.get fHIST_SK_MAP_PAGES_M1 k + 1) * 32768

/-- The oldest frames that must go so that `n` lines are free of `cap`. -/
def victims (cap n : Nat) : List Frame → List Frame
  | [] => []
  | f :: t => if n + ((f :: t).map (fun g => frameLines g.words.length)).sum ≤ cap then [] else f :: victims cap n t

/-- Does a mark or, under PROTECT, a running reader hold one of these frames of Skein `k` (R399, R402)? -/
def State.heldFrames (s : State) (k : Nat) (vs : List Frame) : Bool :=
  let has := fun n => vs.any (fun f => f.no == n)
  (s.skein k).marks.any (fun m => m.st != 0 && has m.start) ||
    (List.range 8).any (fun r => s.readsSkein r k && !(s.reader r).loose && has (s.word (aHIST_RD_POS + r)).toNat)

/-- A mark that loses the frames `vs` (R399). Log: 55 DEDUCED. -/
def MarkSt.lose (m : MarkSt) (vs : List Frame) (oldest : Nat) : MarkSt :=
  if m.st = 0 ∨ vs.all (fun f => f.no != m.start) then m
  else
    let mine := vs.filter (fun f => decide (m.start ≤ f.no) && (m.st == 1 || decide (f.no ≤ m.end_)) && (m.located || tLe (tSub m.inst m.pre) f.inst))
    { m with start := oldest, rewLost := m.rewLost || !mine.isEmpty, lost := satU 36 (m.lost + mine.length) }

/-- The oldest frames `vs` of Skein `k` are invalidated: marks and readers that lose frames record it (R397, R399, R402). Log: 55 DEDUCED. -/
def State.invalidate (s : State) (k : Nat) (vs : List Frame) : State :=
  if vs = [] then s
  else
    let x := s.skein k
    let y := { x with frames := x.frames.drop vs.length }
    let ms := x.marks.map (fun m => m.lose vs y.oldest)
    let s := (s.setSkein k { y with marks := ms }).flag fHIST_SK_STATUS_WRAPPED k
    let s := if ms = x.marks ∨ (ms.map (·.lost)) = x.marks.map (·.lost) then s else s.flag fHIST_SK_STATUS_REWIND_LOST k
    s.forN 8 (fun s r =>
      let p := (s.word (aHIST_RD_POS + r)).toNat
      if s.readsSkein r k ∧ vs.any (fun f => f.no == p) then
        (((s.setReader r { s.reader r with lost := true }).flag fHIST_RD_CTRL_LOST r).bump fHIST_RD_CTRL_LOST_FRAMES r (y.oldest - p)).setWord
          (aHIST_RD_POS + r) (BitVec.ofNat 36 y.oldest)
      else s)

/-- A frame is written to Skein `k`, or under PROTECT dropped where a mark or reader holds the writer (R394, R397 to R399). -/
def State.writeFrame (s : State) (k inst : Nat) (ws : List Word) (damaged gap : Bool) : State :=
  let x := s.skein k
  let cap := s.skeinLines k
  let n := frameLines ws.length
  let vs := victims cap n x.frames
  if s.is fHIST_SK_POL_POLICY k ∧ s.heldFrames k vs then
    let ms := x.marks.map (fun m =>
      if m.st = 1 ∧ vs.any (fun f => f.no == m.start) then { m with st := 2, postShort := true, end_ := x.next - 1 } else m)
    ((s.setSkein k { x with gapNext := true, marks := ms }).flag fHIST_SK_STATUS_PROTECT_HELD k).bump fHIST_SK_STATUS_DROP_COUNT k
  else
    let s := s.invalidate k vs
    let x := s.skein k
    let f : Frame := ⟨x.next, inst, ws, gap || x.gapNext, damaged, [], x.line⟩
    s.setSkein k { x with frames := x.frames ++ [f], next := (x.next + 1) % frameMod, line := (x.line + n) % cap, gapNext := false,
                          marks := x.marks.map (fun m => m.see f) }

/-- The instant of a captured packet: its own, or MEMC's view as its EOP word is read (R58, R395). Log: 10 DESIGN CHOICE. -/
def State.captureInst (s : State) (k : Nat) (ws : List Word) : Nat × State :=
  let i := s.get fHIST_SK_CFG_INST_WORD k
  if i + 2 ≤ ws.length then (tsOf (ws.getD i 0) (ws.getD (i + 1) 0), s)
  else
    let v := s.viewLag Config.memcPs
    (tSub s.nowT (wcs v.1), v.2)

/-- The first committed packet of queue `q` becomes a frame of Skein `k` (R378, R394, R395). -/
def State.capture (s : State) (k q : Nat) : State :=
  let p := firstPacket (s.queue q).words
  let s := s.popN q p.length
  if 8188 < p.length then s.flag fHIST_SK_STATUS_TOO_LONG k
  else
    let ws := p.map (·.w)
    let i := s.captureInst k ws
    i.2.writeFrame k i.1 ws (p.any (·.dmg)) false

/-- SKEIN_FRAME_WRITE: the oldest committed packet of the queue bound to a CAPTURE Skein is written (R394, R395, R397 to R399). -/
def execSkeinFrameWrite (k : Fin 64) (s : State) : Out :=
  match s.memcQueue k.val with
  | none => noEvent s
  | some q =>
    if s.memcRuns ∧ s.is fHIST_SK_CFG_EN k.val ∧ ¬ s.is fHIST_SK_CFG_KIND k.val then .next (s.capture k.val q) else noEvent s

/-- RAW_FRAME_WRITE: a gathered raw frame of fibre `f` is written to its RAW Skein (R391, R396, R399). -/
def execRawFrameWrite (f : Fin 2) (s : State) : Out :=
  let x := s.rxOf f.val
  match x.rawFrames, s.rawSkein f.val with
  | r :: rest, some k =>
    if s.memcRuns then .next ((s.setRx f.val { x with rawFrames := rest }).writeFrame k r.inst r.words false r.gap) else noEvent s
  | _, _ => noEvent s

/-! ### Readers (R400 to R402) -/

/-- READER_GO: GO starts a reader, is ignored while it runs, or is refused with ERR (R401). -/
def execReaderGo (r : Fin 8) (s : State) : Out :=
  let r := r.val
  if s.is fHIST_RD_CTRL_RUN r then .next s
  else
    let cfg := s.word (aHIST_RD_CFG + r)
    let k := fHIST_RD_CFG_SKEIN.get cfg
    let x := s.skein k
    let m := nth x.marks (fHIST_RD_CFG_SLOT.get cfg)
    let fr := fHIST_RD_CFG_FROM.get cfg
    let un := fHIST_RD_CFG_UNTIL.get cfg
    if fr = 3 ∨ un = 3 ∨ (fr = 1 ∧ m.st = 0) then .next (s.flag fHIST_RD_CTRL_ERR r)
    else
      let p := if fr = 0 then x.oldest else if fr = 1 then m.start
        else x.firstAt (tsOf (s.word (aHIST_RD_T_LO + r)) (s.word (aHIST_RD_T_HI + r)))
      let s := s.setReader r { cfg := cfg, until_ := if un = 1 then some x.next else none, fresh := true }
      .next ((s.flag fHIST_RD_CTRL_RUN r).setWord (aHIST_RD_POS + r) (BitVec.ofNat 36 p))

/-- READER_STOP: STOP ends a reader after the frame it is delivering (R401). -/
def execReaderStop (r : Fin 8) (s : State) : Out := .next (s.unflag fHIST_RD_CTRL_RUN r.val)

/-- Is frame `no` the START_FRAME of the mark that reader `r` follows? A reader with FROM MARK begins there, and the mark advances with it
(R394, R400). -/
def State.atMarkStart (s : State) (r no : Nat) : Bool :=
  let x := s.reader r
  let k := fHIST_RD_CFG_SKEIN.get x.cfg
  let j := fHIST_RD_CFG_SLOT.get x.cfg
  s.followsMark r k j && (nth (s.skein k).marks j).start == no && (x.fresh || fHIST_RD_CFG_FROM.get x.cfg != 1)

/-- The packet of a frame as reader `x` of Skein `k` delivers it, `first` at the START_FRAME of its mark (R394). -/
def readerPacket (k : Nat) (x : RdSt) (first : Bool) (f : Frame) : List Word :=
  let h1 := b2n f.gap * 2 ^ 35 + b2n x.lost * 2 ^ 34 + b2n f.damaged * 2 ^ 33 + b2n first * 2 ^ 32 + k * 2 ^ 26 + f.words.length * 2 ^ 13
  let h := [BitVec.ofNat 36 f.no, BitVec.ofNat 36 h1, tsLo f.inst, tsHi f.inst]
  (h.zipIdx.map (fun e => if f.hdrBad.contains e.2 then idleItem else e.1)) ++ f.words

/-- The frame after the last of reader `r`, where it is known (R401, R407). -/
def State.readerEnd (s : State) (r : Nat) : Option Nat :=
  let x := s.reader r
  let m := nth (s.skein (fHIST_RD_CFG_SKEIN.get x.cfg)).marks (fHIST_RD_CFG_SLOT.get x.cfg)
  if fHIST_RD_CFG_UNTIL.get x.cfg = 0 ∧ ¬ x.loose then (if m.st = 2 then some (m.end_ + 1) else none) else x.until_

/-- Reader `r` reaches its last frame: it sets DONE and stops (R401). -/
def State.readerDone (s : State) (r : Nat) : State := (s.flag fHIST_RD_CTRL_DONE r).unflag fHIST_RD_CTRL_RUN r

/-- After frame `no` a mark read by a reader with FROM MARK protects only what is still unread; with AUTO_REL the reader's delivery of
END_FRAME frees the mark (R400). -/
def State.markRead (s : State) (r no : Nat) : State :=
  let x := s.reader r
  let k := fHIST_RD_CFG_SKEIN.get x.cfg
  let j := fHIST_RD_CFG_SLOT.get x.cfg
  let y := s.skein k
  let m := nth y.marks j
  if ¬ s.followsMark r k j ∨ m.st = 0 then s
  else if fHIST_RD_CFG_AUTO_REL.get x.cfg = 1 ∧ m.st = 2 ∧ m.end_ = no then s.freeMark k j
  else if fHIST_RD_CFG_FROM.get x.cfg = 1 then s.setSkein k { y with marks := y.marks.set j { m with start := no + 1 } }
  else s

/-- READER_FRAME: a reader delivers its next frame as one packet; it stalls where its queue cannot take it (R43, R394, R400 to R402). Log: 55 DEDUCED. -/
def execReaderFrame (r : Fin 8) (s : State) : Out :=
  let r := r.val
  let x := s.reader r
  let k := fHIST_RD_CFG_SKEIN.get x.cfg
  let p := (s.word (aHIST_RD_POS + r)).toNat
  if ¬ s.is fHIST_RD_CTRL_RUN r ∨ ¬ s.memcRuns then noEvent s
  else
    let past : Bool := match s.readerEnd r with | some e => decide (e ≤ p) | none => false
    if past then .next (s.readerDone r)
    else match (s.skein k).frames.find? (fun f => f.no == p) with
      | none => noEvent s
      | some f =>
        let q := fHIST_RD_CFG_QUEUE.get x.cfg
        let w := s.packet q (readerPacket k x (s.atMarkStart r p) f)
        if s.get fBOLT_Q_CFG_PROD q ≠ 7 ∨ w.2 = false then noEvent s
        else
          let s := (w.1.setReader r { x with lost := false, fresh := false }).setWord (aHIST_RD_POS + r) (BitVec.ofNat 36 (p + 1))
          let last := s.readerEnd r == some (p + 1)
          let s := s.markRead r p
          .next (if last then s.readerDone r else s)

/-! ### Stream regions (R393) -/

/-- Words that a region's pages hold. -/
def State.regionCap (s : State) (q : Nat) : Nat := (s.get fHIST_STREAM_CFG_PAGES_M1 q + 1) * 32768 * 13

/-- REPLAY length of a region in items. -/
def State.replayLen (s : State) (q : Nat) : Nat := 64 * (s.get fHIST_STREAM_STATUS_LEN_M1 q + 1)

/-- Items a region takes before it is full. -/
def State.regionRoom (s : State) (q : Nat) : Nat :=
  (if s.is fHIST_STREAM_CFG_MODE q then s.replayLen q else s.regionCap q) - (s.region q).items.length

/-- STREAM_REGION_RESET: RESET empties a region; a running REPLAY goes on at its place, where the items are missing until the region is
filled again (R393, R407). -/
def execStreamRegionReset (q : Fin 2) (s : State) : Out :=
  .next (s.setRegion q.val { rd := if s.is fHIST_STREAM_CFG_MODE q.val then (s.region q.val).rd else 0 })

/-- The words `ws` at the head of queue `b` enter region `q` as far as it has room (R393). -/
def State.regionTake (s : State) (q b : Nat) (ws : List BWord) : State :=
  let x := s.region q
  let n := min (s.regionRoom q) ws.length
  let s := s.setRegion q { x with items := x.items ++ (ws.take n).map (·.w), written := x.written + n }
  if s.is fHIST_STREAM_CFG_MODE q then (s.popN b ws.length).bump fHIST_STREAM_STATUS_DISCARD q (ws.length - n)
  else s.popN b n

/-- STREAM_REGION_WRITE: committed words of the bound queue enter the region; in REPLAY those beyond its length are discarded (R393). Log: 55 DEDUCED. -/
def execStreamRegionWrite (q : Fin 2) (s : State) : Out :=
  match s.memcQueue (0x80 + q.val) with
  | none => noEvent s
  | some b =>
    if ¬ s.memcRuns then noEvent s else .next (s.regionTake q.val b ((s.queue b).words.take (s.visible (s.queue b))))

/-- The next granule of a region for the refill, where it holds one (R393). -/
def State.regionGranule (s : State) (q : Nat) : Option (List Word × State) :=
  if ¬ s.memcRuns then none
  else
    let x := s.region q
    if s.is fHIST_STREAM_CFG_MODE q then
      let g := (x.items.drop x.rd).take 64
      if g.length < 64 then none else some (g, s.setRegion q { x with rd := if s.replayLen q ≤ x.rd + 64 then 0 else x.rd + 64 })
    else
      let g := x.items.take 64
      if g.length < 64 then none else some (g, s.setRegion q { x with items := x.items.drop 64, rd := x.rd + 64 })

/-- A GO of sequencer `q` reads a REPLAY region from item 0 (R393). -/
def State.regionGo (s : State) (q : Nat) : State :=
  if s.is fHIST_STREAM_CFG_MODE q then s.setRegion q { s.region q with rd := 0 } else s

/-! ### Errors, scrubbing and start-up (R389, R403, R404) -/

/-- Is page `p` in the range of a BASE_PAGE and PAGES_M1? -/
def inPages (base m1 p : Nat) : Bool := decide (base ≤ p ∧ p ≤ base + m1)

/-- Is page `p` the tone memory of fibre `f`? -/
def State.tonePage (s : State) (f p : Nat) : Bool :=
  s.get fRES_GAUGE_CFG_NG f != 0 && inPages (s.get fHIST_TONE_MAP_BASE_PAGE f) (s.get fHIST_TONE_MAP_PAGES_M1 f) p

/-- Is page `p` in stream region `q`? -/
def State.regionPage (s : State) (q p : Nat) : Bool :=
  fSEQ_CFG_STREAM_SRC.get (s.seqCfg q) == 2 && inPages (s.get fHIST_STREAM_CFG_BASE_PAGE q) (s.get fHIST_STREAM_CFG_PAGES_M1 q) p

/-- Is page `p` in Skein `k`? -/
def State.skeinPage (s : State) (k p : Nat) : Bool :=
  s.is fHIST_SK_CFG_EN k && inPages (s.get fHIST_SK_MAP_BASE_PAGE k) (s.get fHIST_SK_MAP_PAGES_M1 k) p

/-- Is page `p` owned by a range of R388? -/
def State.ownedPage (s : State) (p : Nat) : Bool :=
  (List.range 2).any (fun f => s.tonePage f p || s.regionPage f p) || (List.range 64).any (fun k => s.skeinPage k p)

/-- The words `ws` of line `l` of a Skein's ring are replaced: the frame that holds the line is DAMAGED (R389). -/
def Frame.dbe (f : Frame) (cap l : Nat) (ws : List Nat) : Frame :=
  let n := frameLines f.words.length
  let i := (l + cap - f.line) % cap
  if n ≤ i then f
  else
    let at_ := ws.map (fun w => 13 * i + w)
    if at_.all (fun w => decide (f.words.length + 4 ≤ w)) then f
    else { f with damaged := true, hdrBad := f.hdrBad ++ at_.filter (fun w => decide (w < 4)),
                  words := f.words.zipIdx.map (fun e => if at_.contains (e.2 + 4) then idleItem else e.1) }

/-- The words `ws` of line `l` of a stream region are replaced. -/
def RegionSt.dbe (x : RegionSt) (cap first l : Nat) (ws : List Nat) : RegionSt :=
  { x with items := x.items.zipIdx.map (fun e =>
      let o := (first + e.2) % cap
      if o / 13 = l ∧ ws.contains (o % 13) then idleItem else e.1) }

/-- Tones `2w` and `2w + 1` of a gauge's offsets read as zero. -/
def GaugeSt.dbe (g : GaugeSt) (w : Nat) : GaugeSt := { g with offs := (g.offs.set (2 * w) 0).set (2 * w + 1) 0 }

/-- The words `ws` of line `l` of fibre `f`'s tone memory are replaced (R389, R392). Log: 54 DEDUCED. -/
def State.toneDbe (s : State) (f l : Nat) (ws : List Nat) : State :=
  let per := (s.get fRES_GAUGE_CFG_NG f + 12) / 13
  let x := nth s.res f
  let w := l / per
  let gs := ws.map (fun i => 13 * (l % per) + i)
  { s with res := s.res.set f { x with gauges := x.gauges.zipIdx.map (fun e => if gs.contains e.2 then e.1.dbe w else e.1) } }

/-- DRAM_DBE: a codeword of a line has a double-bit error; `ws` are the words of the line that lie in it (R389). Log: 54 DEDUCED. -/
def execDramDbe (page : Fin 16384) (line : Fin 32768) (ws : List (Fin 13)) (patrol : Bool) (s : State) : Out :=
  let p := page.val
  let ns := ws.map (·.val)
  let s := s.forN 64 (fun s k =>
    if s.skeinPage k p then
      let x := s.skein k
      let cap := s.skeinLines k
      let l := (p - s.get fHIST_SK_MAP_BASE_PAGE k) * 32768 + line.val
      s.setSkein k { x with frames := x.frames.map (fun f => f.dbe cap l ns) }
    else s)
  let s := s.forN 2 (fun s q =>
    if s.regionPage q p then
      let x := s.region q
      let first := if s.is fHIST_STREAM_CFG_MODE q then 0 else x.rd
      s.setRegion q (x.dbe (s.regionCap q) first ((p - s.get fHIST_STREAM_CFG_BASE_PAGE q) * 32768 + line.val) ns)
    else s)
  let s := s.forN 2 (fun s f =>
    if s.tonePage f p then s.toneDbe f ((p - s.get fHIST_TONE_MAP_BASE_PAGE f) * 32768 + line.val) ns else s)
  .next (((s.flag fHIST_MEM_STATUS_DBE).bump fHIST_MEM_STATUS_DBE_COUNT).detect 10 0 (b2n patrol) p false s.nowT)

/-- DRAM_SCRUB_PASS: a patrol pass ends, `sbe` single-bit errors corrected; one that ran beyond SCRUB_PERIOD is late (R389). -/
def execDramScrubPass (sbe : Nat) (s : State) : Out :=
  if ¬ s.is fHIST_MEM_CTRL_SCRUB_EN ∨ ¬ s.is fHIST_MEM_STATUS_READY then noEvent s
  else
    let late := decide (s.get fHIST_MEM_CTRL_SCRUB_PERIOD < s.dramMt)
    let s := { s.bump fHIST_MEM_STATUS_SBE_COUNT 0 sbe with dramMt := 0 }
    .next (if late then s.flag fHIST_MEM_STATUS_SCRUB_LATE else s)

/-- Every tone offset of fibre `f` reads zero. -/
def State.toneZero (s : State) (f : Nat) : State :=
  let x := nth s.res f
  { s with res := s.res.set f { x with gauges := x.gauges.map (fun g => { g with offs := List.replicate 16 0 }) } }

/-- DRAM contents are gone: regions and Skeins are empty, tone memories zero, every mark FREE (R404). -/
def State.dramClear (s : State) : State :=
  let s := (s.forN 64 State.emptySkein).forN 2 State.toneZero
  { s with regions := [{}, {}], dramMt := 0 }

/-- DRAM_READY: training and initialisation end after PD_MEM powered up and the governor admitted the start (R404, R548). -/
def execDramReady (s : State) : Out :=
  if s.is fHIST_MEM_STATUS_READY ∨ ¬ s.domOn 6 ∨ s.gov.queue.any (fun x => x.1 == .dram) then noEvent s else .next (s.dramClear.flag fHIST_MEM_STATUS_READY)

/-- RETENTION_TEST_GO: GO tests a page outside every range, or is refused with MAINT_BUSY (R403, R506). -/
def execRetentionTestGo (page : Fin 16384) (hold : Fin 256) (s : State) : Out :=
  let s := (s.put fHIST_RT_CTRL_TEST_PAGE page.val).put fHIST_RT_CTRL_HOLD hold.val
  if s.ownedPage page.val then .next (s.flag fHIST_RT_CTRL_MAINT_BUSY)
  else
    let r := s.claim 12 [(31, true)]
    .next (if r.2 then { r.1.flag fHIST_RT_CTRL_BUSY with rtMt := max 1 hold.val } else r.1.flag fHIST_RT_CTRL_MAINT_BUSY)

/-- RETENTION_TEST_DONE: after HOLD mt without refresh the page has been read back with `weak` failing bits (R403). -/
def execRetentionTestDone (weak : Nat) (s : State) : Out :=
  if ¬ s.is fHIST_RT_CTRL_BUSY ∨ 0 < s.rtMt then noEvent s
  else .next (((s.put fHIST_RT_CTRL_WEAK_BITS (satU 11 weak)).unflag fHIST_RT_CTRL_BUSY).release 12)

/-- NEXT, OLDEST, MARKS, FULL and the mark table are formed at a read. Log: 89 DEDUCED. -/
def State.histLive (s : State) (a : Nat) (w : Word) : Word :=
  if aHIST_SK_NEXT ≤ a ∧ a < aHIST_SK_NEXT + 64 then BitVec.ofNat 36 (s.skein (a - aHIST_SK_NEXT)).next
  else if aHIST_SK_OLDEST ≤ a ∧ a < aHIST_SK_OLDEST + 64 then BitVec.ofNat 36 (s.skein (a - aHIST_SK_OLDEST)).oldest
  else if aHIST_SK_STATUS ≤ a ∧ a < aHIST_SK_STATUS + 64 then
    fHIST_SK_STATUS_MARKS.set w ((s.skein (a - aHIST_SK_STATUS)).marks.filter (fun m => m.st != 0)).length
  else if aHIST_STREAM_STATUS ≤ a ∧ a < aHIST_STREAM_STATUS + 2 then
    fHIST_STREAM_STATUS_FULL.set w (b2n (s.regionRoom (a - aHIST_STREAM_STATUS) == 0))
  else if aMARK_W0 ≤ a ∧ a < aMARK_W0 + 8192 then
    let m := nth (s.skein ((a - aMARK_W0) / 128)).marks ((a - aMARK_W0) / 8 % 16)
    match (a - aMARK_W0) % 8 with
    | 0 => BitVec.ofNat 36 (m.st * 2 ^ 34 + b2n m.rewLost * 2 ^ 33 + b2n m.preShort * 2 ^ 32 + b2n m.postShort * 2 ^ 31 +
        b2n m.host * 2 ^ 30 + m.fibre * 2 ^ 29 + m.det * 2 ^ 25 + m.id * 2 ^ 9)
    | 1 => tsLo m.inst
    | 2 => tsHi m.inst
    | 3 => BitVec.ofNat 36 m.start
    | 4 => BitVec.ofNat 36 m.end_
    | 5 => BitVec.ofNat 36 m.lost
    | _ => w
  else w

end Sys2Proof.Machine
end

