-- ==== Sys2Proof/Machine/ResOps.lean ====
section
/-! DEFINITION. The arithmetic of the result path (chapter 11): interpolation, differential phase and amplitude, unwrapping, decimation,
band energy, and spectral shift. Exact sums are kept as integers or rationals and rounded once (log entry 24). -/

namespace Sys2Proof.Machine

/-! ### Phase (R331, R333, R336, R337) -/

/-- Catmull-Rom weights, times 2 × 128³, of the four taps about a position `n`/128 past its sample. -/
def crWeights (n : Int) : List Int :=
  let d : Int := 128
  [-n ^ 3 + 2 * n ^ 2 * d - n * d ^ 2, 3 * n ^ 3 - 5 * n ^ 2 * d + 2 * d ^ 3, -3 * n ^ 3 + 4 * n ^ 2 * d + n * d ^ 2, n ^ 3 - n ^ 2 * d]

/-- The range samples an end at `pos`/128 takes, with their weights; those of weight zero are not needed (log entry 25). Log: 25 DEDUCED. -/
def crTaps (pos : Int) : List (Int × Int) :=
  ((crWeights (pos % 128)).zipIdx.map (fun e => (pos / 128 - 1 + (e.2 : Int), e.1))).filter (fun e => e.2 != 0)

/-- Are the range samples of an end present (R333)? Log: 25 DEDUCED. -/
def crPresent (len : Nat) (lost : List (Nat × Nat)) (pos : Int) : Bool :=
  (crTaps pos).all (fun e => decide (0 ≤ e.1 ∧ e.1 < (len : Nat)) && lost.all (fun l => !decide ((l.1 : Int) ≤ e.1 ∧ e.1 ≤ (l.2 : Nat))))

/-- z at `pos`/128, times 2 × 128³. -/
def crValue (z : List (Int × Int)) (pos : Int) : Int × Int :=
  (crTaps pos).foldl (fun a e => let v := z.getD e.1.toNat (0, 0); (a.1 + e.2 * v.1, a.2 + e.2 * v.2)) (0, 0)

/-- Does the angle of (x, y) lie at or above `p` / 2^48 turns, both in [0, 1)? -/
def angGe (x y : Int) (p : Nat) : Bool :=
  let up := decide (0 < y) || (y == 0 && decide (0 ≤ x))
  let hp := decide (p < 2 ^ 47)
  if up = hp then (let cs := cosSin p; decide (0 ≤ cs.1 * y - cs.2 * x)) else !up

/-- The angle in 2^-19 turns, rounded down, by its bits from `i` down. -/
def angGo (x y : Int) : Nat → Nat → Nat
  | 0, r => r
  | i + 1, r => let c := r + 2 ^ i; if angGe x y (c * 2 ^ 29) then angGo x y i c else angGo x y i r

/-- ψ in 2^-18 cycle, rounded to nearest. Log: 47 DEDUCED, 48 DEDUCED. -/
def phaseOf (x y : Int) : Nat := (angGo x y 19 0 + 1) / 2 % 2 ^ 18

/-- A of two ends held times 2 × 128³, saturated to u18 (R337). -/
def ampOf (a b : Int × Int) : Nat :=
  let n := fun (z : Int × Int) => (z.1 * z.1 + z.2 * z.2).toNat
  satU 18 ((isqrt (isqrt (n a * n b * 16)) / (2 * 128 ^ 3) + 1) / 2)

/-! ### Unwrapping (R338 to R340) -/

/-- r of R338: wrapped into ±(2^17 - 1). -/
def rateWrap (d : Int) : Int := let r := sgn 18 (enc 18 d); if r = -131072 then -131071 else r

/-- The offsets of a gauge, 16 of them. -/
def GaugeSt.offsets (g : GaugeSt) : List Int := if g.offs.length = 16 then g.offs else List.replicate 16 0

/-- UNWRAP of one sample: `valid` when it fails no condition but, perhaps, a missing ψ′_last (R338 to R340). -/
def GaugeSt.unwrap (g : GaugeSt) (psi tone shift : Nat) (valid : Bool) : Option Int × GaugeSt :=
  let os := g.offsets
  let p : Int := ((psi : Nat) : Int) - os.getD tone 0
  if ¬ valid then (none, g)
  else match g.last with
    | none => (none, { g with last := some (enc 18 p, tone) })
    | some (l, t') =>
      let r := rateWrap (p - (l : Nat))
      let dl := roundDiv r (2 ^ (shift + 1))
      let os := os.set tone (sgn 18 (enc 18 (os.getD tone 0 + dl)))
      let os := os.set t' (sgn 18 (enc 18 (os.getD t' 0 - dl)))
      (some r, { last := some (enc 18 (p - dl), tone), phi := enc 30 ((g.phi : Nat) + r), offs := os })

/-! ### Decimation (R347) -/

/-- Rate of gauge `g` in a row; none where the row has none. -/
def Row.rate (r : Row) (g : Nat) : Option Int := (r.cells.getD g (none, 0, false)).1

/-- A of gauge `g` in a row. -/
def Row.amp (r : Row) (g : Nat) : Nat := (r.cells.getD g (none, 0, false)).2.1

/-- Did gauge `g` meet R333 in a row? -/
def Row.range (r : Row) (g : Nat) : Bool := (r.cells.getD g (none, 0, false)).2.2

/-- The decimated rate of gauge `g` over the rows, newest first. Log: 91 DEDUCED. -/
def decRate (rows : List Row) (taps : List Int) (g : Nat) : Option Int :=
  let xs := (List.range taps.length).map (fun k => (rows[k]?).bind (fun r => r.rate g))
  let y := roundDiv ((xs.zip taps).map (fun e => e.1.getD 0 * e.2)).sum (2 ^ 17)
  if taps.length < 2 * (xs.filter (·.isNone)).length then none else some (max (-131071) (min 131071 y))

/-- The mean amplitude of gauge `g` over `n` rows. -/
def decAmp (rows : List Row) (n g : Nat) : Nat := (roundDiv ((rows.take n).map (fun r => ((r.amp g : Nat) : Int))).sum n).toNat

/-! ### Band energy (R348) -/

/-- One input of a band filter with its ten coefficients. Log: 47 DEDUCED. -/
def BandG.step (b : BandG) (c : List Rat) (x : Rat) : BandG :=
  let k := fun i => c.getD i 0
  let y := k 0 * x + k 1 * b.x1 + k 2 * b.x2 - k 3 * b.y1 - k 4 * b.y2
  let z := k 5 * y + k 6 * b.y1 + k 7 * b.y2 - k 8 * b.z1 - k 9 * b.z2
  { x1 := x, x2 := b.x1, y1 := y, y2 := b.y1, z1 := z, z2 := b.z1, sum := b.sum + z * z, peak := max b.peak (if z < 0 then -z else z) }

/-- Is 1 024 × (10 log₁₀ (n/d) + 60) at least c - 1/2? -/
def eCodeGe (n d c : Nat) : Bool :=
  if 122880 < 2 * c then decide (d ^ 20480 * 10 ^ (2 * c - 1 - 122880) ≤ n ^ 20480)
  else decide (d ^ 20480 ≤ n ^ 20480 * 10 ^ (122881 - 2 * c))

/-- E_CODE by its bits from `i` down. -/
def eCodeGo (n d : Nat) : Nat → Nat → Nat
  | 0, r => r
  | i + 1, r => let c := r + 2 ^ i; if eCodeGe n d c then eCodeGo n d i c else eCodeGo n d i r

/-- E_CODE of an energy. Log: 47 DEDUCED. -/
def eCode (e : Rat) : Nat := if e ≤ 0 then 0 else eCodeGo e.num.toNat e.den 18 0

/-- A non-negative rational rounded to nearest. Log: 24 DEDUCED. -/
def ratRound (x : Rat) : Int := roundDiv x.num x.den

/-! ### Rows and instants (R333, R334) -/

/-- Working GL for rows with code origin `t`. -/
def State.glAt (s : State) (f t : Nat) : Nat :=
  max 64 (min 16384 (fRES_GAUGE_CTRL_GL.get (s.resWord (aRES_GAUGE_CTRL + f) t)))

/-- X0 for rows with code origin `t`. -/
def State.x0At (s : State) (f t : Nat) : Nat := fRES_GAUGE_POS_X0.get (s.resWord (aRES_GAUGE_POS + f) t)

/-- RXW_ZERO_OFS for rows with code origin `t`, in wc/1024. -/
def State.zeroOfs (s : State) (f t : Nat) : Nat := (s.resWord (aRXW_ZERO_OFS + f) t).toNat

/-- PROBE_TX_LAT in wc/1024. -/
def State.txLat (s : State) (f : Nat) : Nat := (s.word (aPROBE_TX_LAT + f)).toNat

/-- s_g of gauge `g` in a profile with code origin `t`, to the nearest wc/1024 (R334). -/
def State.gaugeT (s : State) (f t g : Nat) : Nat :=
  let ab := s.rxTs f
  let x := s.x0At f t + g * s.get fRES_GAUGE_CFG_PITCH f
  ((2 * ab.2 * (t + s.txLat f) + ab.2 * s.zeroOfs f t + 128 * ab.1 * x + ab.2) / (2 * ab.2)) % tMod

/-- One gauge of a profile: ψ, A, and whether R333 gives NO_PHASE. Log: 46 DESIGN CHOICE. -/
def gaugeSample (z : List (Int × Int)) (len : Nat) (lost : List (Nat × Nat)) (x gl : Nat) : (Int × Int) × Nat × Bool :=
  let lo : Int := 2 * (x : Nat) - (gl : Nat)
  let hi : Int := 2 * (x : Nat) + (gl : Nat)
  if crPresent len lost lo && crPresent len lost hi then
    let a := crValue z hi
    let b := crValue z lo
    ((a.1 * b.1 + a.2 * b.2, a.2 * b.1 - a.1 * b.2), ampOf a b, false)
  else ((0, 0), 0, true)

/-! ### Spectral shift (R349, R351) -/

/-- D × 2^16 in MHz from the sum of S_h over a window, to nearest, saturated to s34. Log: 24 DEDUCED, 49 DEDUCED. -/
def State.specD (s : State) (f gl lg span : Nat) (sum : Int) : Int :=
  let ab := s.rxTs f
  let q := s.wcPerMt
  satS 34 (roundDiv (-sum * (2 ^ 16 * 64 * ab.2 * q.1 : Nat)) (2 ^ (lg + 18) * span * gl * 8 * ab.1 * 250 * q.2))

end Sys2Proof.Machine
end

