-- ==== Sys2Proof/Machine/Results.lean ====
section
/-! DEFINITION. The result path of each fibre (chapter 11): rows, frames of the result streams, band and spectral windows, and event
detectors with their records, FIRE commands and rewind marks. -/

namespace Sys2Proof.Machine

/-- The result path of fibre `f`. -/
def State.resOf (s : State) (f : Nat) : ResSt := nth s.res f

/-- The state with the result path of fibre `f` replaced. -/
def State.setRes (s : State) (f : Nat) (x : ResSt) : State := { s with res := s.res.set f x }

/-! ### Frames (R342 to R345) -/

/-- What a row of a stream sends: KIND, tone, band, flags, SHOT, the instant of an index, whether an index met R333, and the words of
a stretch of indices. -/
structure FrameRow where
  kind : Nat
  tone : Nat
  band : Nat
  flags : Nat
  shot : Nat
  inst : Nat → Nat
  range : Nat → Bool
  words : List Nat → List Word

/-- One frame of stream `k` for indices `is` (R343, R345). -/
def State.sendFrame (s : State) (k f : Nat) (r : FrameRow) (is : List Nat) : State :=
  let st := nth s.resStreams k
  let g := is.headD 0
  let w0 := r.kind * 2 ^ 32 + f * 2 ^ 31 + r.tone * 2 ^ 27 + r.band * 2 ^ 24 + r.flags * 2 ^ 19 + b2n st.gap * 2 ^ 18 +
    b2n (is.any r.range) * 2 ^ 17 + k * 2 ^ 13
  let h := [BitVec.ofNat 36 w0, BitVec.ofNat 36 (g * 2 ^ 19 + is.length * 2), tsLo (r.inst g), tsHi (r.inst g),
    BitVec.ofNat 36 (st.seq * 2 ^ 18 + r.shot % 2 ^ 18)]
  let p := s.packet (s.get fRES_STREAM_CFG_QUEUE k) (h ++ r.words is)
  let s := { p.1 with resStreams := p.1.resStreams.set k { seq := (st.seq + 1) % 2 ^ 18, gap := !p.2 } }
  if p.2 then s else (s.flag fRES_FIBRE_STATUS_FRAME_DROP f).bump fRES_FIBRE_COUNT_FRAME_DROPS f

/-- The frames of one row, `n` indices each. -/
def State.sendFrames (s : State) (k f n : Nat) (r : FrameRow) : Nat → List Nat → State
  | 0, _ => s
  | fuel + 1, is => if is = [] then s else (s.sendFrame k f r (is.take n)).sendFrames k f n r fuel (is.drop n)

/-- A row of every enabled stream of fibre `f` with source `src` that satisfies `p`; indices at or above `top` are left out. -/
def State.sendRow (s : State) (f src t top : Nat) (p : Nat → Bool) (r : Nat → FrameRow) : State :=
  s.forN 16 (fun s k =>
    if s.is fRES_STREAM_CFG_EN k ∧ s.get fRES_STREAM_CFG_FIBRE k = f ∧ s.get fRES_STREAM_CFG_SRC k = src ∧ p k then
      let w := s.resWord (aRES_STREAM_WIN + k) t
      let a := fRES_STREAM_WIN_FIRST.get w
      let n := min (fRES_STREAM_WIN_COUNT.get w) (top - a)
      s.sendFrames k f (max 1 (s.get fRES_STREAM_CFG_FRAME_LEN k)) (r k) n ((List.range n).map (· + a))
    else s)

/-- A rate as its 18-bit code. -/
def rateCode (r : Option Int) : Nat := match r with | some z => enc 18 z | none => 0x20000

/-- Words of a full frame of rates and amplitudes. -/
def fullWords (v : Nat → Option Int × Nat) (is : List Nat) : List Word :=
  is.map (fun g => BitVec.ofNat 36 (rateCode (v g).1 * 2 ^ 18 + (v g).2))

/-- Words of a compact frame (R343, R344). -/
def compactWords (v : Nat → Option Int × Nat) : List Nat → List Word
  | a :: b :: t => BitVec.ofNat 36 (rateCode (v a).1 * 2 ^ 18 + rateCode (v b).1) :: compactWords v t
  | [a] => [BitVec.ofNat 36 (rateCode (v a).1 * 2 ^ 18 + 0x20000)]
  | [] => []

/-- A row of rates and amplitudes in the form of stream `k`. -/
def State.rateRow (s : State) (k kind tone flags shot : Nat) (inst : Nat → Nat) (range : Nat → Bool) (v : Nat → Option Int × Nat) : FrameRow :=
  let c := s.is fRES_STREAM_CFG_FORM k
  ⟨kind + b2n c, tone, 0, flags, shot, inst, range, if c then compactWords v else fullWords v⟩

/-! ### Detectors (R352 to R357) -/

/-- One input of a detector's gauge: its value and its averages (R352). Log: 47 DEDUCED, 48 DEDUCED. -/
def DetG.input (d : DetG) (kind ls ll lb : Nat) (x : Int) : DetG :=
  let xr : Rat := x
  if kind = 1 then
    let sta := d.sta + (xr - d.sta) / (2 ^ ls : Nat)
    let lta := d.lta + (xr - d.lta) / (2 ^ ll : Nat)
    { d with sta := sta, lta := lta, v := ((4096 * sta / max lta 1).floor : Int) }
  else if kind = 2 then
    { d with v := (ratRound (xr - d.base) : Int), base := if d.on then d.base else d.base + (xr - d.base) / (2 ^ lb : Nat) }
  else { d with v := xr }

/-- The test of a gauge after its input (R353). Log: 48 DEDUCED. -/
def DetG.judge (d : DetG) (inv : Bool) (on off : Int) (persist hold : Nat) : DetG :=
  if ¬ d.on then
    let pass := if inv then decide (d.v ≤ on) else decide ((on : Rat) ≤ d.v)
    if ¬ pass then { d with cnt := 0 } else if persist ≤ d.cnt + 1 then { d with on := true, cnt := 0 } else { d with cnt := d.cnt + 1 }
  else
    let rel := if inv then decide ((off : Rat) < d.v) else decide (d.v < off)
    if ¬ rel then { d with cnt := 0 } else if hold ≤ d.cnt + 1 then { d with on := false, cnt := 0 } else { d with cnt := d.cnt + 1 }

/-- Regions of ON gauges (index, v) in rising order: extents with the gauges in them (R354). -/
def groupOn (gap : Nat) : List (Nat × Rat) → List (List (Nat × Rat))
  | [] => []
  | e :: t =>
    match groupOn gap t with
    | (f :: r) :: rs => if f.1 - e.1 - 1 ≤ gap then (e :: f :: r) :: rs else [e] :: (f :: r) :: rs
    | rs => [e] :: rs

/-- FIRST of a region's gauges. -/
def gFirst (g : List (Nat × Rat)) : Nat := (g.headD (0, 0)).1

/-- LAST of a region's gauges. -/
def gLast (g : List (Nat × Rat)) : Nat := (g.getLastD (0, 0)).1

/-- The extreme v of a region: the greatest, or the least with INVERT 1. -/
def gExt (inv : Bool) (g : List (Nat × Rat)) : Int :=
  (g.map (fun e => e.2.floor)).foldl (fun a v => if inv then min a v else max a v) ((g.headD (0, 0)).2.floor)

/-- Do a started region and a region of this row share a gauge? -/
def Region.shares (r : Region) (g : List (Nat × Rat)) : Bool := decide (gFirst g ≤ r.last ∧ r.first ≤ gLast g)

/-- A record to be written: END, MERGED, the region, its instant index, extreme and duration. -/
structure DetRec where
  end_ : Bool
  merged : Bool
  reg : Region
  ext : Int
  rows : Nat

/-- The regions after a row, and the records it makes (R354): `gs` are this row's regions, `prev` those started. -/
def regionStep (prev : List Region) (gs : List (List (Nat × Rat))) (inv : Bool) (minG row flags ids : Nat) : List Region × List DetRec × Nat :=
  let owner := fun (p : Region) => gs.findIdx? (fun g => p.shares g)
  let ends := prev.filter (fun p => (owner p).isNone)
  let r := gs.zipIdx.foldl (fun (a : List Region × List DetRec × List DetRec × Nat) e =>
    let g := e.1
    let mine := prev.filter (fun p => owner p == some e.2)
    match mine with
    | [] =>
      if max 1 minG ≤ gLast g - gFirst g + 1 then
        let n : Region := ⟨(a.2.2.2 + 1) % 65536, gFirst g, gLast g, gFirst g, gLast g, gExt inv g, row, a.2.2.2, flags⟩
        (a.1 ++ [n], a.2.1, a.2.2.1 ++ [⟨false, false, n, (g.headD (0, 0)).2.floor, 0⟩], a.2.2.2 + 1)
      else a
    | p :: ps =>
      let keep := ps.foldl (fun k q => if q.order < k.order then q else k) p
      let x := gExt inv g
      let k := { keep with first := gFirst g, last := gLast g, wFirst := min keep.wFirst (gFirst g), wLast := max keep.wLast (gLast g),
                           ext := if inv then min keep.ext x else max keep.ext x, flags := keep.flags ||| flags }
      let gone := (mine.filter (fun q => q.order != keep.order)).map (fun q => (⟨true, true, q, q.ext, row - q.row⟩ : DetRec))
      (a.1 ++ [k], a.2.1 ++ gone, a.2.2.1, a.2.2.2)) ([], ends.map (fun q => ⟨true, false, q, q.ext, row - q.row⟩), [], ids)
  (r.1, r.2.1 ++ r.2.2.1, r.2.2.2)

/-- Insert a record by FIRST. -/
def insertRec (x : DetRec) : List DetRec → List DetRec
  | [] => [x]
  | y :: t => if x.reg.wFirst < y.reg.wFirst then x :: y :: t else y :: insertRec x t

/-- END records before START records, each in ascending FIRST (R355). -/
def sortRecs (rs : List DetRec) : List DetRec :=
  (rs.filter (·.end_)).foldl (fun a r => insertRec r a) [] ++ (rs.filter (fun r => !r.end_)).foldl (fun a r => insertRec r a) []

/-- A detector writes a record (R355). -/
def State.writeRec (s : State) (f d : Nat) (inst : Nat → Nat) (r : DetRec) : State :=
  if ¬ s.is fRES_FIBRE_CFG_EVT_EN f then s
  else
    let x := s.resOf f
    let y := nth x.dets d
    let t := inst r.reg.wFirst
    let w2 := f * 2 ^ 35 + d * 2 ^ 31 + b2n r.end_ * 2 ^ 30 + b2n r.merged * 2 ^ 29 + b2n y.lost * 2 ^ 28 + r.reg.flags * 2 ^ 23 + r.reg.id * 2 ^ 7
    let p := s.packet (s.get fRES_FIBRE_CFG_EVT_QUEUE f)
      [tsLo t, tsHi t, BitVec.ofNat 36 w2, BitVec.ofNat 36 (r.reg.wFirst * 2 ^ 19 + r.reg.wLast * 2 ^ 2), BitVec.ofNat 36 (enc 36 r.ext),
       BitVec.ofNat 36 r.rows]
    let s := p.1.setRes f { x with dets := x.dets.set d { y with lost := !p.2 } }
    if p.2 then s else (s.flag fRES_FIBRE_STATUS_EVT_DROP f).flag fRES_DET_STATUS_LOST (16 * f + d)

/-- What a START record does besides: its count, the FIRE command at WEFT's view plus the offset, and the mark request (R58, R356, R357). -/
def State.startRec (s : State) (f d : Nat) (inst : Nat → Nat) (r : DetRec) : State :=
  let n := 16 * f + d
  let s := s.bump fRES_DET_STATUS_STARTS n
  let s := if s.is fRES_DET_ACT_FIRE_EN n then
      let v := s.viewLag 800
      let s := v.2
      let due := tAdd (tSub s.nowT (wcs v.1)) (wcs (s.get fRES_DET_ACT_FIRE_OFS n))
      let x := s.resOf f
      let y := nth x.dets d
      let near : Bool := match y.lastDue with
        | some l => decide (tDiff due l < (wcs (s.get fRES_DET_ACT_HOLDOFF n * 1024) : Nat))
        | none => false
      if near then s.bump fRES_DET_STATUS_FIRE_SKIPS n
      else (s.setRes f { x with dets := x.dets.set d { y with lastDue := some due } }).sendDue
        ⟨.line (Fin.ofNat 64 (s.get fRES_DET_ACT_LINE n)), 1, due, 3⟩
    else s
  if s.is fRES_DET_ACT_MARK_EN n then s.detectorMark (inst r.reg.wFirst) f d r.reg.id else s

/-- A row of detector `d`: `inp` gives the input of an index, none for none (R352 to R357). -/
def State.detRow (s : State) (f d t flags : Nat) (inst : Nat → Nat) (inp : Nat → Option Int) : State :=
  let n := 16 * f + d
  let x := s.resOf f
  let y := nth x.dets d
  let first := s.get fRES_DET_WIN_FIRST n
  let count := s.get fRES_DET_WIN_COUNT n
  let cfg := s.resWord (aRES_DET_CFG + n) t
  let tc := s.resWord (aRES_DET_TC + n) t
  let inv := fRES_DET_CFG_INVERT.get cfg == 1
  let on := sgn 36 (s.resWord (aRES_DET_ON + n) t).toNat
  let off := sgn 36 (s.resWord (aRES_DET_OFF + n) t).toNat
  let row := y.rows + 1
  let en := s.is fRES_DET_CFG_EN n
  let gs := if ¬ en then y.gs.map (fun g => { g with on := false, cnt := 0 }) else
    (List.range count).map (fun i =>
      let g := y.gs.getD i {}
      match inp (first + i) with
      | none => g
      | some v => (g.input (s.get fRES_DET_CFG_KIND n) (fRES_DET_TC_LOG2STA.get tc) (fRES_DET_TC_LOG2LTA.get tc) (fRES_DET_TC_LOG2BASE.get tc) v).judge
          inv on off (max 1 (fRES_DET_CFG_PERSIST.get cfg)) (max 1 (fRES_DET_CFG_HOLD.get cfg)))
  let ons := gs.zipIdx.filterMap (fun e => if e.1.on then some (first + e.2, e.1.v) else none)
  let r := regionStep y.regions (groupOn (fRES_DET_TC_MERGE_GAP.get tc) ons) inv (fRES_DET_TC_MIN_GAUGES.get tc) row flags y.ids
  let s := s.setRes f { x with dets := x.dets.set d { y with gs := gs, regions := r.1, ids := r.2.2, rows := row } }
  let s := (sortRecs r.2.1).foldl (fun s e =>
    let s := s.writeRec f d inst e
    if e.end_ then s else s.startRec f d inst e) s
  s.put fRES_DET_STATUS_OPEN (satU 10 r.1.length) n

/-- A row of every detector of fibre `f` whose SRC satisfies `p`. -/
def State.detRows (s : State) (f t flags : Nat) (p : Nat → Bool) (inst : Nat → Nat) (inp : Nat → Nat → Option Int) : State :=
  s.forN 16 (fun s d => let src := s.get fRES_DET_CFG_SRC (16 * f + d); if p src then s.detRow f d t flags inst (inp src) else s)

/-! ### A row (R316, R333 to R341, R347, R348) -/

/-- The zeroing of R341: offsets, ψ′_last and Φ. -/
def State.zeroGauges (s : State) (f : Nat) : State :=
  let x := s.resOf f
  s.setRes f { x with gauges := List.replicate (s.get fRES_GAUGE_CFG_NG f) {}, zeroAt := none }

/-- The flags of a profile with code origin `t` and last label `upTo` (R304, R308, R323, R324, R328). -/
def State.rowFlags (s : State) (f t upTo : Nat) : Nat :=
  let x := s.rxOf f
  let a := tAdd t (tAdd (s.txLat f) (s.zeroOfs f t))
  let open_ := fun (g : Option Nat) => match g with | some g => tLe g upTo | none => false
  let rx := x.errs.any (spanMeets a upTo) || open_ x.gapFrom
  let inp := x.inErrs.any (spanMeets a upTo) || (s.usedPos f).any (fun c => open_ (nth x.watch c).err)
  let sl := x.slErrs.any (fun e => s.posUsed e.1 && tLe e.2.1 t && (match e.2.2 with | some b => tLt t b | none => true))
  b2n rx * 16 + b2n inp * 8 + b2n sl * 4 + b2n x.residue * 2 + b2n (s.clk.weftBackup || s.is fCLK_STATUS_DEGRADED || s.pwr.thr != 0)

/-- The samples of a row: each gauge unwrapped in turn, NO_PHASE counted (R333, R336 to R340). -/
def State.formRow (s : State) (f t tone flags : Nat) (p : Profile) (lost : List (Nat × Nat)) : State × List (Option Int × Nat × Bool) :=
  let ctrl := s.resWord (aRES_GAUGE_CTRL + f) t
  let gl := s.glAt f t
  let x0 := s.x0At f t
  let len := fRXW_SHOT_CFG_RANGE_LEN.get (s.resWord (aRXW_SHOT_CFG + f) t)
  let bad := flags.testBit 4 || flags.testBit 2 || flags.testBit 1
  let s := if fRES_GAUGE_CTRL_GL.get ctrl = gl then s else s.flag fRES_FIBRE_STATUS_CLAMP f
  (List.range (s.get fRES_GAUGE_CFG_NG f)).foldl (fun (a : State × List (Option Int × Nat × Bool)) g =>
    let s := a.1
    let m := gaugeSample p.z len lost (x0 + g * s.get fRES_GAUGE_CFG_PITCH f) gl
    let ps : Nat × State := if m.1 = (0, 0) ∧ ¬ m.2.2 then (let r := s.free; (r.1 % 2 ^ 18, r.2)) else (phaseOf m.1.1 m.1.2, s)
    let s := ps.2
    let x := s.resOf f
    let valid := !bad && !m.2.2 && decide (fRES_GAUGE_CTRL_FADE_MIN.get ctrl ≤ m.2.1)
    let u := (nth x.gauges g).unwrap ps.1 tone (fRES_GAUGE_CTRL_OFS_SHIFT.get ctrl) valid
    let s := s.setRes f { x with gauges := x.gauges.set g u.2 }
    let s := if m.2.2 then s.flag fRES_FIBRE_STATUS_GAUGE_RANGE f else s
    let s := if u.1.isNone then s.bump fRES_FIBRE_COUNT_NO_PHASE f else s
    (s, a.2 ++ [(u.1, m.2.1, m.2.2)])) (s, [])

/-- FACTOR and NTAPS of a fibre, 0 acting as 1. -/
def State.decLens (s : State) (f : Nat) : Nat × Nat := (max 1 (s.get fRES_DEC_CFG_FACTOR f), max 1 (s.get fRES_DEC_CFG_NTAPS f))

/-- The DEC streams of a row that ends a decimation (R347): the instant is that of the row half the filter back, a free value where
there is none. Log: 47 DEDUCED. -/
def State.decFrames (s : State) (f : Nat) (rows : List Row) (row : Row) : State :=
  let fn := s.decLens f
  let taps := (List.range fn.2).map (fun k => sgn 18 (fDEC_TABLE_H.get (s.word (aDEC_TABLE + 512 * f + k))))
  let used := rows.take (max fn.1 fn.2)
  let fl := used.foldl (fun a r => a ||| r.flags) 0
  let at_ := rows[(fn.2 - 1) / 2]?
  let fr := s.free
  let s := if at_.isSome then s else fr.2
  let inst := fun g => match at_ with | some r => s.gaugeT f r.t g | none => fr.1 % tMod
  s.sendRow f 1 row.t (s.get fRES_GAUGE_CFG_NG f) (fun _ => true) (fun k =>
    s.rateRow k 3 0 fl row.shot inst (fun g => used.any (fun r => r.range g)) (fun g => (decRate rows taps g, decAmp rows fn.1 g)))

/-- Band `b` of fibre `f` takes a row; at its window's end it outputs E_CODE and PEAK (R348, R352). -/
def State.bandRow (s : State) (f b i : Nat) (row : Row) : State :=
  if ¬ s.is fRES_BAND_CFG_EN (8 * f + b) then s
  else
    let ng := s.get fRES_GAUGE_CFG_NG f
    let cs : List Rat := (List.range 10).map (fun w => (sgn 18 (fBAND_TABLE_COEF.get (s.word (aBAND_TABLE + 128 * f + 16 * b + w))) : Rat) / 32768)
    let x := s.resOf f
    let y := nth x.bands b
    let gs := (List.range ng).map (fun g =>
      let b := y.gs.getD g {}
      { b.step cs ((row.rate g).getD 0 : Int) with range := b.range || row.range g })
    let y := { gs := gs, flags := y.flags ||| row.flags }
    let lg := s.get fRES_BAND_CFG_LOG2WIN (8 * f + b)
    if (i + 1) % 2 ^ lg ≠ 0 then s.setRes f { x with bands := x.bands.set b y }
    else
      let s := s.setRes f { x with bands := x.bands.set b { gs := gs.map (fun g => { g with sum := 0, peak := 0, range := false }) } }
      let code := fun g => eCode ((gs.getD g {}).sum / (2 ^ lg : Nat))
      let inst := s.gaugeT f row.t
      let words := fun (is : List Nat) => is.map (fun g => BitVec.ofNat 36 (code g * 2 ^ 18 + satU 18 (ratRound (gs.getD g {}).peak).toNat))
      let s := s.sendRow f 3 row.t ng (fun k => s.get fRES_STREAM_CFG_BAND k == b) (fun _ =>
        ⟨6, 0, b, y.flags, row.shot, inst, fun g => (gs.getD g {}).range, words⟩)
      s.detRows f row.t y.flags (fun src => src == b + 2) inst (fun _ g => if g < ng then some ((code g : Nat) : Int) else none)

/-- What a complete row feeds: RATE, CUM and DEC streams, bands, detectors, and SPEC's FADED marks. -/
def State.rowOut (s : State) (f i : Nat) (row : Row) : State :=
  let x := s.resOf f
  let ng := s.get fRES_GAUGE_CFG_NG f
  let inst := s.gaugeT f row.t
  let s := s.sendRow f 0 row.t ng (fun _ => true) (fun k =>
    s.rateRow k 1 row.tone row.flags row.shot inst row.range (fun g => (row.rate g, row.amp g)))
  let s := s.sendRow f 2 row.t ng (fun _ => true) (fun _ =>
    ⟨5, row.tone, 0, row.flags, row.shot, inst, row.range,
      fun is => is.map (fun g => BitVec.ofNat 36 (enc 36 (sgn 30 (nth x.gauges g).phi)))⟩)
  let s := if (i + 1) % (s.decLens f).1 = 0 then s.decFrames f x.hist row else s
  let s := s.forN 8 (fun s b => s.bandRow f b i row)
  let bad := row.flags.testBit 4 || row.flags.testBit 2 || row.flags.testBit 1
  s.detRows f row.t row.flags (fun src => src == 0 || src == 1) inst (fun src g =>
    if bad ∨ ng ≤ g then none else if src = 0 then (row.rate g).map (fun r => (r.natAbs : Int)) else some ((row.amp g : Nat) : Int))

/-- SPEC notes the NO_PHASE samples, the gauges that met R333, and the flags of a row (R343, R350). -/
def State.specRow (s : State) (f : Nat) (row : Row) : State :=
  let x := s.resOf f
  let sp := max 1 (s.get fRES_SPEC_CFG_SPAN f)
  let ns := s.get fRES_GAUGE_CFG_NG f / sp
  let gs := (List.range ns).map (fun h =>
    let g := x.spec.gs.getD h {}
    { g with faded := g.faded || (List.range sp).any (fun j => (row.rate (h * sp + j)).isNone),
             range := g.range || (List.range sp).any (fun j => row.range (h * sp + j)) })
  if s.is fRES_SPEC_CFG_EN f then s.setRes f { x with spec := { x.spec with gs := gs, flags := x.spec.flags ||| row.flags } } else s

/-- Insert a code origin in its place: by instant, then tone (R335). -/
def earliestOrigin : List (Nat × Nat × Nat) → Option (Nat × Nat × Nat)
  | [] => none
  | e :: t => match earliestOrigin t with
    | none => some e
    | some f => if tLt f.1 e.1 ∨ (f.1 = e.1 ∧ f.2.1 < e.2.1) then some f else some e

/-- ROW_COMPLETE: the profile of the earliest code origin is complete and forms one row; UNWRAP stalls while
MEMC does not hold the tone memory (R316, R324, R333 to R348, R352 to R357, R391, R404). Log: 46 DESIGN CHOICE. -/
def execRowComplete (f : Fin 2) (p : Profile) (s : State) : Out :=
  let f := f.val
  match earliestOrigin (s.rxOf f).origins with
  | none => noEvent s
  | some (t, tone, shot) =>
    if ¬ s.toneRuns then noEvent s
    else
    let s := s.flowTo p.upTo
    let x := s.rxOf f
    let flags := s.rowFlags f t p.upTo
    let lost := p.lost ++ x.missing
    let s := s.setRx f { x with origins := x.origins.erase (t, tone, shot), residue := false, missing := [] }
    let s := if p.lost = [] then s else
      let s := (s.flag fRXW_WEFT_STATUS_BLOCK_DROP).bump fRXW_WEFT_COUNT_BLOCK_DROPS 0 p.lost.length
      if s.clk.weftBackup then s else s.flag fHIST_MEM_STATUS_WEFT_SHORT
    let y := s.resOf f
    let due : Bool := match y.zeroAt with | some z => tLe z t | none => false
    let s := if due ∨ y.gauges.length ≠ s.get fRES_GAUGE_CFG_NG f then s.zeroGauges f else s
    let r := s.formRow f t tone flags p lost
    let row : Row := ⟨t, tone, shot, flags, r.2⟩
    let s := r.1
    let y := s.resOf f
    let fn := s.decLens f
    let i := y.rows
    let s := s.setRes f { y with rows := i + 1, hist := row :: y.hist.take (max fn.1 fn.2) }
    let s := if s.is fRXW_DIAG_CFG_EN ∧ s.get fRXW_DIAG_CFG_FIBRE = f ∧ s.get fRXW_DIAG_CFG_TONE = tone then
        ((s.put fRXW_DIAG_PEAK_LAG p.peak.1).put fRXW_DIAG_PEAK_FRAC p.peak.2.1).put fRXW_DIAG_PEAK_MAG p.peak.2.2
      else s
    .next ((s.specRow f row).rowOut f i row)

/-! ### SPEC (R349 to R351) -/

/-- REBASE: S_h starts again at the next window (R350). -/
def execRebase (f : Fin 2) (s : State) : Out :=
  let x := s.resOf f.val
  .next (s.setRes f.val { x with spec := { x.spec with rebase := true } })

/-- P_h of a spectral gauge. -/
def specP (gs : List GaugeSt) (sp h : Nat) : Nat := (((List.range sp).map (fun j => (nth gs (h * sp + j)).phi)).sum) % 2 ^ 30

/-- The output of a spectral gauge for its window's sum (R349, R351). -/
def State.specOut (s : State) (f t lg sp : Nat) (sum : Int) : Int :=
  let d := s.specD f (s.glAt f t) lg sp sum
  if fRES_SPEC_CFG_UNIT.get (s.resWord (aRES_SPEC_CFG + f) t) = 0 then d
  else satS 34 (roundDiv (d * sgn 36 (s.resWord (aRES_SPEC_COEF + f) t).toNat) (2 ^ 24))

/-- The end of SPEC's window: its frames and detectors (R343, R349 to R352). Log: 49 DEDUCED. -/
def State.specEnd (s : State) (f t : Nat) : State :=
  let x := s.resOf f
  let lg := s.get fRES_SPEC_CFG_LOG2AVG f
  let sp := max 1 (s.get fRES_SPEC_CFG_SPAN f)
  let row := x.hist.head?
  let t0 := (row.map (·.t)).getD t
  let inst := fun h => s.gaugeT f t0 (h * sp)
  let g := fun h => x.spec.gs.getD h {}
  let v := fun h => s.specOut f t lg sp (g h).sum
  let s := s.sendRow f 4 t0 x.spec.gs.length (fun _ => true) (fun _ =>
    ⟨7, 0, 0, x.spec.flags, (row.map (·.shot)).getD (s.get fRXW_SHOT_COUNT_SHOTS f), inst, fun h => (g h).range,
      fun is => is.map (fun h => BitVec.ofNat 36 (enc 34 (v h) * 4 + b2n (g h).faded * 2 + b2n x.spec.rebased))⟩)
  let s := s.detRows f t0 x.spec.flags (fun src => src == 10) inst (fun _ h => if h < x.spec.gs.length then some (v h) else none)
  let y := s.resOf f
  s.setRes f { y with spec := { y.spec with shots := 0, flags := 0, rebased := false, rebase := false, zero := y.spec.zero || y.spec.rebase,
                                            gs := y.spec.gs.map (fun g => { g with sum := 0, faded := false, range := false }) } }

/-- SPEC at a shot boundary of fibre `f` with instant `t` (R349, R350). Log: 49 DEDUCED. -/
def State.specShot (s : State) (f t : Nat) : State :=
  let x := s.resOf f
  if ¬ s.is fRES_SPEC_CFG_EN f then s.setRes f { x with spec := { zero := true, rebase := x.spec.rebase } }
  else
    let sp := max 1 (s.get fRES_SPEC_CFG_SPAN f)
    let ns := s.get fRES_GAUGE_CFG_NG f / sp
    let c := x.spec
    let gs := (List.range ns).map (fun h =>
      let g := c.gs.getD h {}
      let p := specP x.gauges sp h
      let acc := if c.zero then 0 else sgn 48 (enc 48 (g.acc + sgn 30 (enc 30 ((p : Nat) - (g.prev : Nat) : Int))))
      { g with prev := p, acc := acc, sum := g.sum + acc })
    let c' := { c with gs := gs, shots := c.shots + 1, zero := c.zero && x.zeroAt.isSome, rebased := c.rebased || c.zero }
    let s := s.setRes f { x with spec := c' }
    if 2 ^ s.get fRES_SPEC_CFG_LOG2AVG f ≤ c'.shots then s.specEnd f t else s

end Sys2Proof.Machine
end

