-- ==== Sys2Proof/Machine/Cal.lean ====
section
/-! DEFINITION. Calibration runs (chapter 09, with the code-density run of R269 and the receive run of R313): starting, refusing, the
checks of each measurement, records, hand-overs and ends. -/

namespace Sys2Proof.Machine

/-! ### Starting and aborting (R280, R283, R285, R288) -/

/-- The command fields of a GO. -/
def State.calCmd (s : State) (kind target mask : Nat) : State :=
  ((s.put fCAL_CMD_KIND kind).put fCAL_CMD_TARGET target).put fCAL_CMD_MASK mask

/-- A GO is refused. -/
def State.calRefuse (s : State) (reason : Nat) : State := (s.flag fCAL_STATUS_REFUSED).put fCAL_STATUS_REASON reason

/-- A GO claims `res` and, if granted, starts the run `c` (R280). -/
def State.calGo (s : State) (c : CalSt) (res : List (Nat × Bool)) : State :=
  let r := s.claim (calAct c.kind) res
  if r.2 then ((({ r.1 with cal := { c with t0 := s.calT } }.holdInputs c.mask true).put fCAL_STATUS_KIND c.kind).put fCAL_STATUS_REASON 0).calBusy
  else r.1.calRefuse 1

/-- The trigger inputs of a mask as resources. -/
def inputRes (mask : Nat) : List (Nat × Bool) := (bitList mask 16).map (fun i => (1 + i, true))

/-- CAL_GO_BANK: a BANK run starts with the sampler pass, or is refused (R280, R281, R283). -/
def execCalGoBank (b : Fin 8) (s : State) : Out :=
  let s := s.calCmd 0 b.val 0
  let st := s.get fWARP_BANK_STATUS_SPARE_STATE b.val
  if st = 2 ∨ st = 3 ∨ st = 4 then .next (s.calRefuse 13)
  else .next (s.calGo { phase := 1, kind := 0, bank := b.val, bad := st == 5 } [(25, true), (26, true), (17 + b.val, true), (0, true)])

/-- CAL_GO_MOUT: a MOUT run of the selected outputs (R280, R284). -/
def execCalGoMout (outs : Fin 256) (s : State) : Out :=
  .next ((s.calCmd 1 outs.val 0).calGo { phase := 1, kind := 1, bank := outs.val, todo := bitList outs.val 8 }
    [(25, true), (26, true), (0, true)])

/-- CAL_GO_TI: a TI run of the selected inputs (R280, R286). -/
def execCalGoTi (mask : Fin 65536) (s : State) : Out :=
  .next ((s.calCmd 2 0 mask.val).calGo { phase := 8, kind := 2, mask := mask.val, tiLeft := true } ([(26, true), (0, true)] ++ inputRes mask.val))

/-- CAL_GO_RX: an RX run starts with the spare's self-test (R280, R287, R313). -/
def execCalGoRx (fibres : Fin 4) (s : State) : Out :=
  let s := s.calCmd 3 fibres.val 0
  let r := s.claim 5 [(27, true)]
  if ¬ r.2 then .next (r.1.calRefuse 1)
  else
    let s := { r.1 with rxCal := { phase := 1, todo := bitList fibres.val 2, t0 := s.calT } }
    let s : State := (((s.put fCAL_STATUS_KIND 3).put fCAL_STATUS_REASON 0).put fCAL_STATUS_UNIT 128).calBusy
    .next (if s.get fRXW_SPARE_STATUS_ROLE ≤ 1 then s.setSpare 4 s.sparePos else s)

/-- May an ALL run start (R285)? -/
def State.calAllOk (s : State) : Bool :=
  ((List.range 72).all (fun o => s.oEnable o == 0 || s.oEnable o == 1) || s.restoreHold) && !s.seqRunning 0 && !s.seqRunning 1 && !s.unlocked

/-- CAL_GO_ALL: an ALL run of units 0 to 119, or its refusal (R280, R285). -/
def execCalGoAll (s : State) : Out :=
  let s := s.calCmd 4 0 0
  if ¬ s.calAllOk then .next (s.calRefuse 13)
  else .next (s.calGo { phase := 1, kind := 4, mask := 65535, tiLeft := true }
    ([(25, true), (26, true), (0, true)] ++ (List.range 8).map (fun b => (17 + b, true)) ++ inputRes 65535))

/-- CAL_KIND_NOT_USED: a GO with an unused KIND is refused (R288). -/
def execCalKindNotUsed (kind : Fin 3) (s : State) : Out := .next ((s.calCmd (5 + kind.val) 0 0).calRefuse 13)

/-- CAL_ABORT: ABORT ends the runs in progress (R288). -/
def execCalAbort (s : State) : Out := .next ((s.calAbort 10).rxCalAbort 10)

/-! ### Checks (R278, R286) -/

/-- wc/2^16 in 250 × 10^6 × 65 536 units of a picosecond: `w` lies between `lo` and `hi` picoseconds. -/
def State.widthIn (s : State) (w : Int) (lo hi : Nat) : Bool :=
  let q := s.wcPerMt
  let x : Int := w * (250000000 * q.2 : Nat)
  decide (((lo * 65536 * q.1 : Nat) : Int) ≤ x ∧ x ≤ ((hi * 65536 * q.1 : Nat) : Int))

/-- Bin widths of a rank from its hits (R269). -/
def binWidths (b : BinHits) (n : Nat) : List Nat := (List.range 64).map (fun i => (roundDiv ((b.hits.getD i 0 * 65536 : Nat) : Int) n).toNat)

/-- The bin checks of R286 on both ranks: 0, or the REASON. -/
def State.binCheck (s : State) (ranks : List BinHits) (n : Nat) : Nat :=
  let ws := ranks.map (fun b => binWidths b n)
  if ws.any (fun l => l.any (fun w => !s.widthIn (w : Nat) 2 6)) ∨ ranks.any (fun b => decide (n < 1024 * b.invalid)) then 6
  else if ws.any (fun l => decide (65 < ((l.sum : Int) - 65536).natAbs)) then 7
  else 0

/-- The physical tap whose mean lies nearest the target of code `f`, the lower on a tie (R277). -/
def State.nearestTap (s : State) (m : List Int) (f : Nat) : Nat :=
  let q := s.wcPerMt
  let d := 250000000 * q.2
  let tgt : Int := ((Config.mRef * 65536 * q.1 + 64 * f * d : Nat) : Int)
  let dist := fun (x : Int) => (x * (d : Nat) - tgt).natAbs
  (m.zipIdx.foldl (fun (a : Option (Nat × Nat)) e =>
    match a with
    | none => some (dist e.1, e.2)
    | some b => if dist e.1 < b.1 then some (dist e.1, e.2) else a) none).elim 0 (·.2)

/-- Is a list non-decreasing? -/
def nondec : List Nat → Bool
  | a :: b :: t => decide (a ≤ b) && nondec (b :: t)
  | _ => true

/-- The corrections a generator run finds: the taps of both lines, and 0 or the REASON of the first failed check (R277, R278). -/
def State.genCheck (s : State) (g : GenMeas) : List (Int × Int) × Nat :=
  let p0 := (List.range 1024).map (s.nearestTap g.m0)
  let p1 := (List.range 1024).map (s.nearestTap g.m1)
  let c := fun (p : List Nat) => p.zipIdx.map (fun e => ((e.1 : Int) - 64 - (e.2 : Nat)))
  let cs := (c p0).zip (c p1)
  (cs, if cs.any (fun e => decide (40 < e.1.natAbs ∨ 40 < e.2.natAbs)) then 2
    else if ¬ (nondec p0 ∧ nondec p1) then 3
    else if (g.r0 ++ g.r1).any (fun r => decide (256 < r.natAbs)) then 4 else 0)

/-- The ball values of a run: SKEW and ECHO_OFS, or those in force with fewer than 256 edges at the ball; whether they were kept; 0 or REASON
0x5 (R279). -/
def State.ballCheck (s : State) (u edges : Nat) (g : GenMeas) : Int × Int × Bool × Nat :=
  let v := getKey {} s.vals u
  if edges < 256 then (v.skew, v.echoOfs, true, 0)
  else
    let sk := -roundDiv g.skew 64
    let ec := roundDiv g.echo 64
    (sk, ec, false, if 80 < sk.natAbs ∨ 80 < ec.natAbs then 5 else 0)

/-! ### Records (R290, R293, R294) -/

/-- The record of a trigger input. -/
def State.tiRecord (s : State) (i : Nat) (t : Int) (ws : List Nat) (rankB : Nat) (dly : Int) : State :=
  let h := recHdr (104 + i) (s.recSlot (104 + i) t)
  let s := ws.zipIdx.foldl (fun s e => s.setWord (h - 0x80 + e.2) (BitVec.ofNat 36 e.1)) s
  (s.setWord h (hdrWord t (rankB % 4096 * 2 ^ 11))).setWord (h + 1) (BitVec.ofNat 36 (enc 18 dly * 2 ^ 18))

/-- Trigger inputs that wait for new values and are not held take them (R255, R293). -/
def State.tiFlush (s : State) : State := s.forN 16 (fun s i => match s.loadT (104 + i) with | some t => s.tiLoadNow (104 + i) t | none => s)

/-- The present run ends with DONE (R281). -/
def State.calFinish (s : State) : State := s.calDone.calEnd.tiFlush

/-! ### Generators (R277 to R285) -/

/-- The next channel of a BANK run, `n` of them left, or its end: an OFF channel is measured without a hand-over (R281). -/
def State.calChannel (s : State) (k : Nat) : State :=
  if 8 ≤ k then (s.spareBack s.cal.bank false).calFinish
  else
    let n := 8 * s.cal.bank + k
    let c := { s.cal with phase := if s.oEnable n = 0 then 4 else 3, cur := k, waitMt := 0, t0 := s.calT }
    { s with cal := c }.put fCAL_STATUS_UNIT (9 * s.cal.bank + k)

/-- Is a generator left out of an ALL run: a FAULTY one of a master output, or one of a bank whose spare carries a failover (R128, R284)? Log: 41 DESIGN CHOICE. -/
def State.calSkips (s : State) (u : Nat) : Bool :=
  if u < 72 then s.get fWARP_BANK_STATUS_SPARE_STATE (u / 9) == 4 else s.role ((u - 72) / 4) ((u - 72) % 4) == 6

/-- The next generator of an ALL run from unit `u`; after the last the run waits for its TI part (R128, R284, R285). -/
def State.calAllFrom (s : State) (u : Nat) : Nat → State
  | 0 => s
  | n + 1 =>
    if 104 ≤ u then
      let s := { s with cal := { s.cal with cur := 104 } }
      if s.cal.tiLeft then s else s.calFinish
    else if s.calSkips u then
      ((s.put fCAL_STATUS_REASON 14).put fCAL_STATUS_UNIT u).calAllFrom (u + 1) n
    else { s with cal := { s.cal with cur := u, t0 := s.calT } }.put fCAL_STATUS_UNIT u

/-- CAL_SAMPLER_PASS_DONE: the pass on CAL_0 and CAL_1 ends; its bins pass, or the run ends (R280, R286). Log: 41 DESIGN CHOICE. -/
def execCalSamplerPassDone (ranks : List BinHits) (s : State) : Out :=
  if s.cal.phase ≠ 1 then noEvent s
  else
    let r := s.binCheck ranks (2 ^ 18)
    let c := s.cal
    if r ≠ 0 then .next (s.calFail (if c.kind = 0 then 9 * c.bank + 8 else if c.kind = 1 then 72 else 0) r).calEnd.tiFlush
    else
      let s := if c.kind = 4 then s else s.resDrop (calAct c.kind) 0
      if c.kind = 0 then
        .next (({ s with cal := { c with phase := 2, t0 := s.calT } }.put fWARP_BANK_STATUS_SPARE_STATE 1 c.bank).put fCAL_STATUS_UNIT (9 * c.bank + 8))
      else if c.kind = 1 then .next ({ s with cal := { c with phase := 6 } }.calMoutNext c.todo)
      else .next ({ s with cal := { c with phase := 11 } }.calAllFrom 0 105)

/-- The unit that the present phase measures. -/
def State.calUnit (s : State) : Nat :=
  let c := s.cal
  if c.phase = 2 then 9 * c.bank + 8 else if c.phase = 4 then 9 * c.bank + c.cur else if c.phase = 6 then 72 + c.cur else c.cur

/-- Does unit `u` carry a ball's values: a channel's own generator, or generator 0 of a master output (R276)? -/
def hasBall (u : Nat) : Bool := (decide (u < 72) && u % 9 != 8) || (decide (72 ≤ u) && (u - 72) % 4 == 0)

/-- Edges of the carried schedule at the ball of a unit in a run: none in an ALL run, and none of an OFF channel (R279, R281, R285). -/
def State.ballEdges (s : State) (g : GenMeas) : Nat :=
  if s.cal.phase = 4 ∧ s.get fWARP_BANK_STATUS_SPARE_STATE s.cal.bank = 2 then g.edges else 0

/-- A generator run's outcome: the record written, or the unit failed; the answer says whether it passed. In a MOUT run the unit with the output's ball
waits for its ball values (R276, R278, R279, R290, R594). Log: 41 DESIGN CHOICE. -/
def State.genOutcome (s : State) (u : Nat) (g : GenMeas) : State × Bool :=
  let gc := s.genCheck g
  let wait : Bool := s.cal.phase == 6 && hasBall u
  let b := if hasBall u && !wait then s.ballCheck u (s.ballEdges g) g else (0, 0, false, 0)
  let r := if gc.2 ≠ 0 then gc.2 else if b.2.2.2 ≠ 0 then b.2.2.2 else if s.drifted s.cal.t0 then 15 else 0
  let s := if b.2.2.1 then s.flag fCAL_STATUS_SKEW_KEPT else s
  if r ≠ 0 then (s.calFail u r, false) else
    let c := gc.1.foldl (fun m e => max m (max e.1.natAbs e.2.natAbs)) 0
    let t := meanT s.cal.t0 s.calT
    let s := if wait then { s with cal := { s.cal with held := some (t, gc.1) } } else s.genRecord u t gc.1 b.1 b.2.1
    (s.healthTrim u c, true)

/-- The sequence of output `m` ends: its ball values are checked with the corrections of unit 72 + 4m, and stored with them in one record (R276,
R279). Log: 42 DEDUCED. -/
def State.moutBall (s : State) (m : Nat) (g : GenMeas) : State :=
  let u := 72 + 4 * m
  match s.cal.held with
  | none => s
  | some (t, cs) =>
    let b := s.ballCheck u g.edges g
    let s := { s with cal := { s.cal with held := none } }
    let s := if b.2.2.1 then s.flag fCAL_STATUS_SKEW_KEPT else s
    if b.2.2.2 ≠ 0 then s.calFail u 5 else s.genRecord u t cs b.1 b.2.1

/-- After a master generator passes: the next one rotates in, or the output is done (R284). -/
def State.moutAfter (s : State) (g : GenMeas) : State :=
  let m := s.cal.cur / 4
  let j := s.cal.cur % 4
  let gens := s.cal.gens ++ [j]
  let s := { s with cal := { s.cal with gens := gens } }
  match (s.voting m).find? (fun v => !gens.contains v) with
  | some v => ({ s with cal := { s.cal with phase := 7 } }).startSwap m j v .rotation
  | none => (((s.moutBall m g).setRole m j 3).faultyLeaves m).calMoutNext s.cal.todo

/-- A generator outside the vote that an ALL run has calibrated: an UNCAL one that passed is SPARE, one that failed is FAULTY (R181, R284). -/
def State.allMaster (s : State) (u : Nat) (ok : Bool) : State :=
  let m := (u - 72) / 4
  let g := (u - 72) % 4
  if u < 72 ∨ s.role m g < 3 then s
  else if ok then (if s.role m g = 7 then (s.setRole m g 3).faultyLeaves m else s)
  else
    let v := nth s.voters m
    (s.setVoter m { v with faulty := v.faulty ++ [g] }).setRole m g 6

/-- GENERATOR_RUN_DONE: the sweeps of one generator end and are checked (R277 to R281, R284, R285, R288, R290). Log: 41 DESIGN CHOICE. -/
def execGeneratorRunDone (g : GenMeas) (s : State) : Out :=
  let c := s.cal
  if ¬ (c.phase = 2 ∨ c.phase = 4 ∨ c.phase = 6 ∨ (c.phase = 11 ∧ c.cur < 104)) then noEvent s
  else
    let u := s.calUnit
    let r := s.genOutcome u g
    let s := r.1
    if c.phase = 2 then .next (if r.2 then s.calChannel 0 else (s.spareBack c.bank true).calEnd)
    else if c.phase = 4 then
      .next (if s.get fWARP_BANK_STATUS_SPARE_STATE c.bank = 2 then { s with cal := { s.cal with phase := 5 } } else s.calChannel (c.cur + 1))
    else if c.phase = 6 then
      let m := c.cur / 4
      .next (if r.2 then s.moutAfter g
        else
          let v := nth s.voters m
          (((s.moutBall m g).setVoter m { v with faulty := v.faulty ++ [c.cur % 4] }).setRole m (c.cur % 4) 6).calMoutSkip)
    else .next ((s.allMaster u r.2).calAllFrom (c.cur + 1) 105)

/-- A carried ball goes back after an aborted run; a failover that waited for it starts (R128, R288, R296). -/
def State.carryBack (s : State) (b : Nat) (bad : Bool) : State :=
  let x := nth s.banks b
  let s := (s.spareBack b bad).setBank b { x with back := none, waiting := none }
  match x.waiting with
  | some k => if bad then s.flag fWARP_BANK_STATUS_FO_UNAVAIL b else s.failoverCopy b k
  | none => s

/-- CAL_HANDOVER: in a whole idle wc a ball of bank `b` passes to the spare, or back to its generator (R281, R282, R288, R296). -/
def execCalHandover (b : Fin 8) (s : State) : Out :=
  let b := b.val
  let c := s.cal
  let mine := c.kind = 0 ∧ c.bank = b
  if s.safe then noEvent s
  else match (nth s.banks b).back with
    | some bad => if s.idleWc (8 * b + s.get fWARP_BANK_STATUS_SPARE_CH b) then .next (s.carryBack b bad) else noEvent s
    | none =>
      if mine ∧ c.phase = 3 ∧ s.idleWc (8 * b + c.cur) then
        .next (({ s with cal := { c with phase := 4, t0 := s.calT } }.put fWARP_BANK_STATUS_SPARE_STATE 2 b).put fWARP_BANK_STATUS_SPARE_CH c.cur b)
      else if mine ∧ c.phase = 5 ∧ s.idleWc (8 * b + c.cur) then .next ((s.put fWARP_BANK_STATUS_SPARE_STATE 1 b).calChannel (c.cur + 1))
      else noEvent s

/-- HANDOVER_LIMIT_EXPIRY: the copy is abandoned and the channel skipped (R281). -/
def execHandoverLimitExpiry (s : State) : Out :=
  if s.cal.phase = 3 ∧ max 1 (s.get fCAL_CFG_HANDOVER_LIMIT) ≤ s.cal.waitMt then
    .next ((s.put fCAL_STATUS_REASON 14).calChannel (s.cal.cur + 1))
  else noEvent s

/-! ### Trigger inputs (R269, R286) -/

/-- The check of one input of a TI run: 0, or the REASON. -/
def State.tiCheck (s : State) (m : InMeas) (n : Nat) : Nat :=
  let b := s.binCheck [m.rankA, m.rankB] n
  if b ≠ 0 then b
  else if m.rankOfs < 256 ∨ 768 < m.rankOfs ∨ ¬ s.widthIn m.delay 120 260 then 8 else 0

/-- One input of a TI run passes or fails. -/
def State.tiOutcome (s : State) (t0 : Int) (m : InMeas) : State :=
  let i := m.input.val
  let r := s.tiCheck m (2 ^ 22)
  let r := if r = 0 ∧ s.drifted t0 then 15 else r
  if r ≠ 0 then s.calFail (104 + i) r
  else (s.tiRecord i (meanT t0 s.calT) (binWidths m.rankA (2 ^ 22) ++ binWidths m.rankB (2 ^ 22)) m.rankOfs.toNat m.delay).loadWait (104 + i) s.calT

/-- TI_RUN_DONE: the measurements of the held inputs end (R285, R286, R288, R290). Log: 41 DESIGN CHOICE. -/
def execTiRunDone (meas : List InMeas) (s : State) : Out :=
  let c := s.cal
  if ¬ (c.tiLeft ∧ (c.phase = 8 ∨ c.phase = 11)) then noEvent s
  else
    let s := (meas.filter (fun m => c.mask.testBit m.input.val)).foldl (fun s m => s.tiOutcome c.t0 m) s
    let s := { s with cal := { s.cal with tiLeft := false } }
    .next (if c.phase = 8 ∨ c.cur = 104 then s.calFinish else s)

/-- CD_GO: a code-density run claims the dither source and its inputs, and keeps the captures it is to count, or is refused (R269, R270). -/
def execCdGo (mask : Fin 65536) (log2n : Fin 32) (s : State) : Out :=
  let s := (s.put fREED_CD_CTRL_MASK mask.val).put fREED_CD_CTRL_LOG2N log2n.val
  let r := s.claim 1 ((0, true) :: inputRes mask.val)
  if r.2 then .next (({ r.1 with cd := ⟨mask.val, max 18 (min 24 log2n.val), s.calT⟩ }.holdInputs mask.val true).flag fREED_CD_STATUS_BUSY)
  else .next ((r.1.flag fREED_CD_STATUS_FAIL).put fREED_CD_STATUS_REASON 1)

/-- CD_ABORT: ABORT ends the run with no width changed (R269). -/
def execCdAbort (s : State) : Out := .next ((s.cdFail 3).tiFlush)

/-- One input of a passing code-density run: new widths in force, and a record with RANKB and DELAY in force (R255, R269, R286). -/
def State.cdOutcome (s : State) (t0 : Int) (n : Nat) (m : InMeas) : State :=
  let i := m.input.val
  let ws := binWidths m.rankA n ++ binWidths m.rankB n
  let s := ws.zipIdx.foldl (fun s e => s.setWordDated (aREED_BIN + 128 * i + e.2) (BitVec.ofNat 36 e.1)) s
  if s.drifted t0 then s.calFail (104 + i) 15
  else s.tiRecord i (meanT t0 s.calT) ws (s.get fREED_IN_CAL_RANKB i) (s.geti fREED_IN_CAL_DELAY i)

/-- CD_DONE: the captures of a code-density run are counted and checked (R269, R286). -/
def execCdDone (meas : List InMeas) (s : State) : Out :=
  if ¬ s.is fREED_CD_STATUS_BUSY then noEvent s
  else
    let c := s.cd
    let n := 2 ^ c.log2n
    let ms := meas.filter (fun m => c.mask.testBit m.input.val)
    if ms.any (fun m => s.binCheck [m.rankA, m.rankB] n != 0) ∨ (bitList c.mask 16).any (fun i => ms.all (fun m => m.input.val != i)) then
      .next ((s.cdFail 2).tiFlush)
    else
      let s := ms.foldl (fun s m => s.cdOutcome c.t0 n m) s
      let s := ({ s.holdInputs c.mask false with cd := {} }).release 1
      .next (((s.unflag fREED_CD_STATUS_BUSY).flag fREED_CD_STATUS_DONE).tiFlush)

/-! ### Values and records (R293 to R295) -/

/-- CAL_VALUE_LOAD: a unit takes its recomputed values, a generator at a whole idle wc of its ball (R255, R293, R306). Log: 39 DEDUCED. -/
def execCalValueLoad (u : Fin 129) (s : State) : Out :=
  let u := u.val
  match s.loadT u with
  | none => noEvent s
  | some t =>
    let s' := s.loadOver u
    if s.unitHeld u then noEvent s
    else if 128 ≤ u then .next s'
    else if 120 ≤ u then (if s.feedRuns ((u - 120) / 4) then noEvent s else .next (s'.rxLoad (u - 120) t))
    else if 104 ≤ u then .next (s'.tiLoad (u - 104) t)
    else
      let st := s.get fWARP_BANK_STATUS_SPARE_STATE (u / 9)
      let idle : Bool :=
        if 72 ≤ u then s.idleWc (64 + (u - 72) / 4)
        else if u % 9 < 8 then s.idleWc (8 * (u / 9) + u % 9)
        else if st = 2 ∨ st = 4 then s.idleWc (8 * (u / 9) + s.get fWARP_BANK_STATUS_SPARE_CH (u / 9)) else true
      if idle then .next { s' with vals := putKey {} s.vals u (s.genVals u t) } else noEvent s

/-- The unit, record and header mark of an address of the record windows (R295). -/
def recUnit (a : Nat) : Option (Nat × Nat × Bool) :=
  if (regAt a).isNone then none
  else if 0xA00000 ≤ a ∧ a < 0xA00000 + 104 * 0x4000 then
    some ((a - 0xA00000) / 0x4000, a / 0x800 % 8, a % 0x800 == 0x400)
  else if aTIREC_W ≤ a ∧ a < aTIREC_W + 16 * 0x800 then some (104 + (a - aTIREC_W) / 0x800, a / 0x100 % 8, a % 0x100 == 0x80)
  else if aRXREC_W0 ≤ a ∧ a < aRXREC_W0 + 9 * 0x40 then some (120 + (a - aRXREC_W0) / 0x40, a / 4 % 8, a % 4 == 0)
  else none

/-- A host write to a record word (R294, R295). -/
def State.recWrite (s : State) (a : Nat) (w : Word) : State :=
  match recUnit a with
  | none => s
  | some (u, r, hdr) =>
    if s.unitHeld u then s.flag fCAL_STATUS_WR_BUSY
    else if s.is fCAL_CFG_STORE ∧ r ≠ 0 then s
    else
      let s := s.setWord a (mergeFields (fieldsAt a) (fun _ => true) (s.word a) w)
      if hdr then s.recompute else s

/-- CAL_RECORD_WRITE: a host write to the record windows (R293 to R295). -/
def execCalRecordWrite (a : Nat) (w : Word) (s : State) : Out := .next (s.recWrite a w)

/-! ### The receive run (R287, R313, R314) -/

/-- A record of receive unit 120 + p. -/
def State.rxRecord (s : State) (p : Nat) (t : Int) (ofs gain xt sk : Int) : State :=
  let h := recHdr (120 + p) (s.recSlot (120 + p) t)
  let s := s.setWord h (hdrWord t 0)
  let s := if p = 8 then s else
    (s.setWord (h + 1) (BitVec.ofNat 36 (enc 16 ofs * 2 ^ 20 + enc 18 gain * 4))).setWord (h + 2) (BitVec.ofNat 36 (enc 18 xt * 2 ^ 18 + enc 11 sk * 2 ^ 7))
  s.loadWait (120 + p) s.calT

/-- The next fibre of an RX run, or its end. -/
def State.rxCalNext (s : State) : List Nat → State
  | [] => s.calDone.rxCalEnd
  | f :: rest => { s with rxCal := { phase := 2, todo := rest, cur := f, t0 := s.calT } }.put fCAL_STATUS_UNIT (120 + 4 * f)

/-- RX_SELFTEST_DONE: the spare's self-test passes and is recorded, or ends the run (R313). -/
def execRxSelftestDone (pass_ : Bool) (s : State) : Out :=
  if s.rxCal.phase ≠ 1 then noEvent s
  else
    let todo := s.rxCal.todo
    if ¬ pass_ then .next ((s.calFail 128 9).rxCalEnd.spareFaulty)
    else
      let s := if s.drifted s.rxCal.t0 then s.calFail 128 15 else s.rxRecord 8 (meanT s.rxCal.t0 s.calT) 0 0 0 0
      let s := if s.spareRole = 4 ∧ s.spare.judge.isNone then (s.setSpare 0 s.sparePos).spareRest else s
      .next (s.rxCalNext todo)

/-- rms of a measured position in 2^-24. -/
def posRms (m : PosMeas) : Nat := isqrt (m.ms * 2 ^ 24)

/-- The values of one position and whether they meet R314. -/
def rxValues (ms : List PosMeas) (m : PosMeas) : (Int × Int × Int × Int) × Bool :=
  let ofs := roundDiv m.mean (2 ^ 24)
  let gain := if posRms m = 0 then 0 else roundDiv (((ms.map posRms).sum * 65536 : Nat) : Int) (ms.length * posRms m)
  let xt := if m.c.val % 2 = 1 then roundDiv m.xt (2 ^ 7) else 0
  let sk := if m.c.val = 0 then 0 else roundDiv m.skew (2 ^ 24)
  ((ofs, gain, xt, sk), decide (512 ^ 2 * 2 ^ 24 ≤ m.ms) && decide (ofs.natAbs ≤ 2048) && decide (32768 ≤ gain ∧ gain ≤ 131072) &&
    decide (xt.natAbs ≤ 16384) && decide (sk.natAbs ≤ 512))

/-- RX_ESTIMATE_DONE: the estimate of one fibre ends; each used position passes or fails (R290, R313, R314). -/
def execRxEstimateDone (meas : List PosMeas) (s : State) : Out :=
  if s.rxCal.phase ≠ 2 then noEvent s
  else
    let f := s.rxCal.cur
    let t0 := s.rxCal.t0
    let us := s.usedPos f
    let ms := meas.filter (fun m => us.contains m.c.val)
    let tones := ((List.range 16).filter (fun n => s.is fPROBE_TONE_CTRL_EN (16 * f + n))).length
    let s := us.foldl (fun s c =>
      let p := 4 * f + c
      match ms.find? (fun m => m.c.val == c) with
      | none => s.calFail (120 + p) 9
      | some m =>
        let v := rxValues ms m
        if tones < 4 ∨ ¬ v.2 then s.calFail (120 + p) 9
        else if s.drifted t0 then s.calFail (120 + p) 15
        else s.rxRecord p (meanT t0 s.calT) v.1.1 v.1.2.1 v.1.2.2.1 v.1.2.2.2) s
    .next (s.rxCalNext s.rxCal.todo)

end Sys2Proof.Machine
end

