-- ==== Sys2Proof/Machine/Chain.lean ====
section
/-! DEFINITION. The Kalnel chain's commands (chapter 14): ports, HELLO, time transfer, announcements, failover, enumeration, triggers,
data, credit and modules; with the timebase loads of the head (R436). -/

namespace Sys2Proof.Machine

/-! ### Announcements and timebase loads (R37 to R41, R436) -/

/-- The head announces CHAIN_LEN, GEN, RING_OK and its plan (R417, R436). -/
def State.announce (s : State) : State :=
  let w := BitVec.ofNat 36 (s.chainLen * 2 ^ 26 + s.get fCHAIN_STATUS_GEN * 2 ^ 14 + s.get fCHAIN_STATUS_RING_OK * 2 ^ 13)
  let r := s.newFrame 2 1023 0 [w, s.word aTB_WC_PER_MT]
  r.2.broadcast r.1

/-- A load of the head's timebase advances GEN and is announced (R436). -/
def State.headLoad (s : State) : State :=
  if s.isHead then (s.put fCHAIN_STATUS_GEN (s.get fCHAIN_STATUS_GEN + 1)).announce else s

/-- The timebase steps to wc `new`; samples and discarded multiblocks up to the step are counted on the old grids, and the new ones go on from it
(R41, R224, R236, R237). -/
def State.rebase (s : State) (new : Nat) : State :=
  let s := (s.probesNow.txDrops 0).txDrops 1
  let s := s.stepTimebase new
  let s := (s.probeGrid 0).probeGrid 1
  { s with txLinks := s.txLinks.map (fun x => { x with at_ := s.now }) }

/-- A timebase load takes place (R37, R41, R436). -/
def State.doLoad (s : State) : State := ((s.rebase s.loadValue).flag fTB_LOAD_CTRL_DONE).headLoad

/-- TB_LOAD_NOW: GO with MODE NOW (R37, R38, R40, R41, R436, R646). -/
def execTbLoadNow (s : State) : Out :=
  let s := s.loadGo 1
  let r := s.loadReason
  .next (if r ≠ 0 then s.loadRefuse r else s.doLoad)

/-- SYNC_IN_EDGE: a waiting load takes place in the wc of the crossing, unless it must be refused (R39 to R41, R436). -/
def execSyncInEdge (s : State) : Out :=
  let s := s.checkLoad
  .next (if s.loadWaits then s.doLoad.unflag fTB_LOAD_CTRL_GO else s)

/-- ANNOUNCE_TIMER: the head's ANNOUNCE period expires (R436). -/
def execAnnounceTimer (s : State) : Out := if s.isHead then .next s.announce else noEvent s

/-! ### Paths to the head (R431, R432, R446) -/

/-- Is Θ of port `p` valid? -/
def State.pathValid (s : State) (p : Nat) : Bool := s.is fCHAIN_THETA_VALID p

/-- Does the path by port `p` cross a broken link? By WEST it takes the links west of this position, by EAST the others. -/
def State.pathBroken (s : State) (p : Nat) : Bool :=
  let me := s.get fCHAIN_ADDR_POS
  s.brokenAt.any (fun b => if p = 0 then decide (b < me) else decide (me ≤ b))

/-- TSTATE. -/
def State.tstate (s : State) : Nat := s.get fCHAIN_STATUS_TSTATE

/-- A move to another time state; the counts of consecutive exchanges start afresh, and STEP_WAIT lasts only in ACQUIRE (R434, R435). Log: 57 DEDUCED. -/
def State.toTstate (s : State) (t : Nat) : State :=
  let s := if t = 1 then s else s.unflag fCHAIN_STATUS_STEP_WAIT
  { s.put fCHAIN_STATUS_TSTATE t with chain := { s.chain with okCnt := 0, badCnt := 0 } }

/-- UPSTREAM follows the valid paths; SYNCED without one becomes HOLD (R432, R434). -/
def State.showPaths (s : State) : State :=
  let s := s.put fCHAIN_STATUS_UPSTREAM (b2n (s.pathValid 0) + 2 * b2n (s.pathValid 1))
  if s.tstate = 3 ∧ ¬ s.pathValid 0 ∧ ¬ s.pathValid 1 then s.toTstate 4 else s

/-- The path by port `p` is dropped. -/
def State.dropPath (s : State) (p : Nat) : State := ((s.unflag fCHAIN_THETA_VALID p).put fCHAIN_PATH_HOPS 0x3FF p).showPaths

/-- The servo input Θ (R432): the one valid path's, or the two weighted by the other's hops. -/
def State.theta? (s : State) : Option Rat :=
  let w := (s.port 0).theta
  let e := (s.port 1).theta
  let hw : Rat := (s.get fCHAIN_PATH_HOPS 0 : Nat)
  let he : Rat := (s.get fCHAIN_PATH_HOPS 1 : Nat)
  match s.pathValid 0, s.pathValid 1 with
  | false, false => none
  | true, false => some w
  | false, true => some e
  | true, true => some ((he * w + hw * e) / (hw + he))

/-! ### The servo (R432 to R435) -/

/-- wc in one second of the programmed plan. -/
def State.wcPerSecond (s : State) : Nat := let q := s.wcPerMt; 4000 * q.1 / q.2

/-- The mean of a list of integers, toward minus infinity. -/
def meanInt (l : List Int) (dflt : Int) : Int := if l = [] then dflt else l.sum / (l.length : Int)

/-- One update of the servo in TRACK or SYNCED: the loop's demand is a free value (R432 gives its damping and bandwidth, not its
arithmetic), in SYNCED within SLEW_MAX of the average over the last second, and clamped to 50 ppm (R84, R433). Log: 57 DEDUCED. -/
def State.servo (s : State) : State :=
  let r := s.free
  let s := r.2
  let v := sgn 24 r.1
  let recent := s.chain.trims.filter (fun e => decide (s.now ≤ e.1 + s.wcPerSecond))
  let avg := meanInt (recent.map (·.2)) s.trim
  let m : Int := (100 * max 1 (s.get fCHAIN_TT_CFG_SLEW_MAX) : Nat)
  let v := if s.tstate = 3 then max (avg - m) (min (avg + m) v) else v
  let s := if v < -5000000 ∨ 5000000 < v then s.flag fCHAIN_STATUS_TIME_ERR else s
  let s := s.takeTrim v
  { s with chain := { s.chain with trims := recent ++ [(s.now, s.trim)] } }

/-- LOSS_THRESH in wc/1024. -/
def State.lossThresh (s : State) : Rat := ((16384 * s.get fCHAIN_LEAD_LOSS_THRESH : Nat) : Rat)

/-- One exchange with servo input `th` (R434, R435). -/
def State.exchange (s : State) (th : Rat) : State :=
  let a := |th|
  let small : Bool := decide (a ≤ s.lossThresh)
  let s := if s.tstate = 0 ∧ ¬ s.is fCHAIN_STATUS_PLAN_ERR then s.toTstate 1 else s
  let s := if s.tstate = 4 then s.toTstate 2 else s
  if s.tstate = 1 then
    (if small then s.toTstate 2 else if s.quiescent then s else s.flag fCHAIN_STATUS_STEP_WAIT)
  else if s.tstate = 2 ∨ s.tstate = 3 then
    let ok : Bool := decide (a ≤ ((s.get fCHAIN_TT_CFG_SYNC_THRESH : Nat) : Rat))
    let ck : ChainSt := { s.chain with okCnt := if ok then s.chain.okCnt + 1 else 0, badCnt := if small then 0 else s.chain.badCnt + 1 }
    let s : State := { s with chain := ck }
    if 16 ≤ s.chain.badCnt then (if s.tstate = 3 then s.flag fCHAIN_STATUS_TIME_ERR else s).toTstate 1
    else (if s.tstate = 2 ∧ 64 ≤ s.chain.okCnt then s.toTstate 3 else s).servo
  else s

/-- CHAIN_STEP: a member in ACQUIRE steps its timebase to its own value minus Θ, in whole wc, in a wc in which its edge plane is
quiescent; earlier exchanges no longer count (R41, R435). -/
def execChainStep (s : State) : Out :=
  match s.theta? with
  | none => noEvent s
  | some th =>
    if s.tstate ≠ 1 ∨ s.isHead ∨ ¬ s.quiescent ∨ s.unlocked then noEvent s
    else
      let k : Int := ⌊th / 1024 + 1 / 2⌋
      let s := s.rebase (((s.now : Int) - k) % 2 ^ 62).toNat
      let s := s.unflag fCHAIN_STATUS_STEP_WAIT
      .next (s.forN 2 (fun s p =>
        let x := s.port p
        let t := x.theta - (k * 1024 : Int)
        (s.setPort p { x with theta := t, deps := [], arr := none }).putSat fCHAIN_THETA_THETA ⌊t + 1 / 2⌋ p))

/-- What a device sends of its path by its other port (R431): hops, AWAY_VALID and Θ. Log: 57 DEDUCED. -/
def State.away (s : State) (p : Nat) : Nat × Bool × Int :=
  let o := 1 - p
  if s.isHead then (0, true, 0)
  else if s.pathValid o then (s.get fCHAIN_PATH_HOPS o, s.tstate == 3, ⌊(s.port o).theta + 1 / 2⌋)
  else (0x3FF, false, 0)

/-- TIME_EXCHANGE_TIMER: TT_PERIOD expires and the port sends a TIME frame that departs at stamp `dep` (R417, R429, R431). -/
def execTimeExchangeTimer (p : Fin 2) (dep : Nat) (s : State) : Out :=
  let x := s.port p.val
  if ¬ s.chained ∨ ¬ s.portUp p.val ∨ ¬ x.heard then noEvent s
  else
    let prev := ((x.deps.head?).map (·.2)).getD 0
    let got := x.arr.getD (0, 0)
    let aw := s.away p.val
    let w4 := BitVec.ofNat 36 (got.1 * 2 ^ 24 + aw.1 * 2 ^ 14 + b2n aw.2.1 * 2 ^ 13)
    let f : ChFrame := ⟨1, 0, s.addr, 0, x.seq, 0, [tsLo prev, tsHi prev, tsLo got.2, tsHi got.2, w4, BitVec.ofNat 36 (enc 36 (satS 36 aw.2.2))]⟩
    let s := s.setPort p.val { x with seq := (x.seq + 1) % 4096, deps := ((x.seq, dep % tMod) :: x.deps).take 4 }
    .next (s.emit p.val f)

/-- ASYM of a port in wc/1024 at the programmed warp frequency (R429, R430). -/
def State.asym (s : State) (p : Nat) : Rat :=
  let q := s.wcPerMt
  ((s.geti fCHAIN_ASYM_ASYM p * 1024 * (q.1 : Int) : Int) : Rat) / ((q.2 * 10 ^ 9 : Nat) : Rat)

/-- A TIME frame that arrived at stamp `arr`: d, θ and Θ of the port (R429, R431). Log: 57 DEDUCED. -/
def State.timeFrame (s : State) (p : Nat) (f : ChFrame) (arr : Nat) : State :=
  let x := s.port p
  let w := fun i => f.words.getD i 0
  let t1 := tsOf (w 0) (w 1)
  let t4 := tsOf (w 2) (w 3)
  let rx := getBits (w 4) 24 12
  let hops := getBits (w 4) 14 10
  let away := sgn 36 (w 5).toNat
  let t2 := match x.arr with | some (n, t) => if (n + 1) % 4096 = f.seq % 4096 then some t else none | none => none
  let t3 := (x.deps.find? (fun e => e.1 == rx)).map (·.2)
  let s := s.setPort p { x with arr := some (f.seq % 4096, arr % tMod) }
  let ok := bitOf (w 4) 13 && !s.pathBroken p
  match t2, t3 with
  | some t2, some t3 =>
    let u := tDiff t2 t1
    let v := tDiff t4 t3
    let th : Rat := ((u - v : Int) - s.asym p) / 2 + (away : Rat)
    let s := s.put fCHAIN_LINK_DELAY_DELAY (satU 36 ((u + v) / 2).toNat) p
    if ok then
      let s := s.setPort p { s.port p with theta := th }
      (((s.flag fCHAIN_THETA_VALID p).putSat fCHAIN_THETA_THETA ⌊th + 1 / 2⌋ p).put fCHAIN_PATH_HOPS (min 0x3FE (hops + 1)) p).showPaths
    else s.dropPath p
  | _, _ => if ok then s else s.dropPath p

/-- TIME: a TIME frame is received; delay and offset are updated, and on the first valid port the servo and the time state
(R429 to R434). Log: 57 DEDUCED. -/
def execTime (p : Fin 2) (f : ChFrame) (crc : Fin (2 ^ 32)) (arr : Nat) (s : State) : Out :=
  s.chainRecv p.val f crc.val 1 none (fun s =>
    let s := s.timeFrame p.val f arr
    if s.isHead ∨ ¬ s.pathValid p.val ∨ (p.val = 1 ∧ s.pathValid 0) then s
    else match s.theta? with | none => s | some th => s.exchange th)

/-- ANNOUNCE: a SYNC ANNOUNCE is received (R434, R436). -/
def execAnnounce (p : Fin 2) (f : ChFrame) (crc : Fin (2 ^ 32)) (s : State) : Out :=
  s.chainRecv p.val f crc.val 2 (some 0) (fun s =>
    if s.isHead then s
    else
      let w := f.words.getD 0 0
      let old := s.get fCHAIN_STATUS_GEN
      let gen := getBits w 14 12
      let s := ((s.put fCHAIN_STATUS_GEN gen).put fCHAIN_ADDR_CHAIN_LEN (getBits w 26 10)).put fCHAIN_STATUS_RING_OK (getBits w 13 1)
      if f.words.getD 1 0 ≠ s.word aTB_WC_PER_MT then (s.flag fCHAIN_STATUS_PLAN_ERR).toTstate 0
      else
        let s := s.unflag fCHAIN_STATUS_PLAN_ERR
        if gen ≠ old ∧ s.tstate ≠ 0 then s.toTstate 1 else s)

/-! ### Breaks and heals (R428, R446 to R449) -/

/-- May the device originate chain-wide frames (R423)? The head assigns addresses before it has one. Log: 56 DEDUCED. -/
def State.mayOriginate (s : State) : Bool := s.placed || s.isHead

/-- A SYNC frame about the link with these WEST-side and EAST-side ends, broadcast. -/
def State.sendLink (s : State) (arg : Nat) (l : Nat × Nat) : State :=
  if ¬ s.mayOriginate then s
  else
    let r := s.newFrame 2 1023 arg [BitVec.ofNat 36 (l.1 * 2 ^ 26 + l.2 * 2 ^ 16)]
    r.2.broadcast r.1

/-- The link a SYNC BREAK, HEAL or JOIN names. -/
def linkOf (f : ChFrame) : Nat × Nat := (getBits (f.words.getD 0 0) 26 10, getBits (f.words.getD 0 0) 16 10)

/-- The link at port `p`: its WEST-side and EAST-side ends. -/
def State.linkAt (s : State) (p : Nat) : Nat × Nat :=
  let n := s.get fCHAIN_PATH_NBR_ADDR p
  if p = 1 then (s.addr, n) else (n, s.addr)

/-- RING_OK takes a value; the head announces a change (R436). -/
def State.setRingOk (s : State) (b : Bool) : State :=
  let was := s.is fCHAIN_STATUS_RING_OK
  let s := s.put fCHAIN_STATUS_RING_OK (b2n b)
  if s.isHead ∧ was ≠ b then s.announce else s

/-- A link is marked broken (R446, R447). -/
def State.breakLink (s : State) (l : Nat × Nat) : State :=
  if s.chain.broken.contains l then s
  else
    let s := ({ s with chain := { s.chain with broken := s.chain.broken ++ [l] } }.flag fCHAIN_STATUS_FAILOVER).setRingOk false
    s.forN 2 (fun s p => if s.pathBroken p then s.dropPath p else s)

/-- A broken link is restored (R448). -/
def State.healLink (s : State) (l : Nat × Nat) : State :=
  let s := { s with chain := { s.chain with broken := s.chain.broken.erase l } }
  if s.chain.broken = [] then (s.unflag fCHAIN_STATUS_FAILOVER).setRingOk true else s

/-- BREAK: the first copy of a SYNC BREAK (R419, R446). -/
def execBreak (p : Fin 2) (f : ChFrame) (crc : Fin (2 ^ 32)) (s : State) : Out :=
  s.chainRecv p.val f crc.val 2 (some 1) (fun s => (s.flag fCHAIN_STATUS_BREAK_SEEN).breakLink (linkOf f))

/-- HEAL: the first copy of a SYNC HEAL (R419, R448). -/
def execHeal (p : Fin 2) (f : ChFrame) (crc : Fin (2 ^ 32)) (s : State) : Out :=
  s.chainRecv p.val f crc.val 2 (some 2) (fun s => s.healLink (linkOf f))

/-- HEAL_HOLD_EXPIRY: HEAL_HOLD mt after a broken link returned, the device sends SYNC HEAL and acts on it (R448). -/
def execHealHoldExpiry (p : Fin 2) (s : State) : Out :=
  match (s.port p.val).heal with
  | none => noEvent s
  | some n =>
    if n < s.get fCHAIN_TT_CFG_HEAL_HOLD ∨ ¬ s.portUp p.val then noEvent s
    else
      let l := s.linkAt p.val
      .next (((s.setPort p.val { s.port p.val with heal := none }).sendLink 2 l).healLink l)

/-! ### Enumeration (R424 to R426, R451) -/

/-- This device's WALK entry (R417, R424). -/
def State.walkEntry (s : State) : List Word :=
  let nc := s.is fCHAIN_LINK_STATUS_NBR_CHANGED 0 || s.is fCHAIN_LINK_STATUS_NBR_CHANGED 1
  [s.sig, BitVec.ofNat 36 (s.chain.aonAddr * 2 ^ 26 + b2n nc * 2 ^ 25 + s.get fCHAIN_STATUS_PLAN_ERR * 2 ^ 24 + b2n s.isHead * 2 ^ 23)]

/-- The pairs of words of a payload. -/
def pairs : List Word → List (Word × Word)
  | a :: b :: t => (a, b) :: pairs t
  | _ => []

/-- A walk ends with an error, or with 0. -/
def State.walkEnd (s : State) (err : Nat) : State :=
  { (s.put fCHAIN_ENUM_CMD_ERR err).unflag fCHAIN_ENUM_CMD_BUSY with chain := { s.chain with walk := none } }

/-- STICKY: each device in order of position keeps its retained address if no lower position carries the same (R425). -/
def stickyKeep : List Nat → List Nat → List (Option Nat)
  | _, [] => []
  | seen, a :: t => (if a < 512 ∧ ¬ seen.contains a then some a else none) :: stickyKeep (a :: seen) t

/-- Unplaced devices take the lowest free addresses in order of position (R425). -/
def autoAssign : List Nat → List (Option Nat) → List (Option Nat)
  | _, [] => []
  | used, some a :: t => some a :: autoAssign used t
  | used, none :: t =>
    let a := ((List.range 512).find? (fun x => !used.contains x))
    a :: autoAssign (match a with | some x => x :: used | none => used) t

/-- The addresses of devices whose retained addresses are given in order of position (R425). -/
def State.assignAddrs (s : State) (ret : List Nat) : List (Option Nat) :=
  if ¬ s.is fCHAIN_CFG_ENUM_MODE then (List.range ret.length).map some
  else
    let k := stickyKeep [] ret
    if s.is fCHAIN_CFG_AUTO_ASSIGN then autoAssign (k.filterMap id) k else k

/-- A device takes an ASSIGN (R426). Log: 56 DEDUCED. -/
def State.takeAssign (s : State) (ws : List Word) : State :=
  let h := ws.getD 0 0
  let es := pairs (ws.drop 1)
  let tbl := es.map (fun e => (getBits e.2 26 10, getBits e.2 16 10))
  let s := { s with chain := { s.chain with table := tbl } }
  let s := if bitOf h 25 then ({ s with chain := { s.chain with broken := [] } }.unflag fCHAIN_STATUS_FAILOVER).flag fCHAIN_STATUS_RING_OK
    else s.unflag fCHAIN_STATUS_RING_OK
  match es.find? (fun e => e.1 == s.sig) with
  | none => (s.put fCHAIN_ADDR_ADDR 0x3FE).unflag fCHAIN_ADDR_PLACED
  | some e =>
    let a := getBits e.2 26 10
    { (((s.put fCHAIN_ADDR_ADDR a).put fCHAIN_ADDR_POS (getBits e.2 16 10)).put fCHAIN_ADDR_CHAIN_LEN (getBits h 26 10)).flag fCHAIN_ADDR_PLACED
      with chain := { s.chain with aonAddr := a } }

/-- Every WALK has returned: the head assigns, or reports why not; ASSIGN is broadcast and acted on here, and a change of CHAIN_LEN or
RING_OK is announced (R424 to R426, R436). -/
def State.walkFinish (s : State) (w : WalkSt) : State :=
  let own : Word × Nat × Bool := (s.sig, s.chain.aonAddr, true)
  let devs := own :: (w.east ++ if w.round then [] else w.west.reverse)
  if (devs.drop 1).any (fun e => e.2.2) then s.walkEnd 1
  else if 512 < devs.length then s.walkEnd 3
  else
    let as := s.assignAddrs (devs.map (fun e => e.2.1))
    let es := ((devs.zip as).zip (List.range devs.length)).filterMap (fun e =>
      e.1.2.map (fun a => [e.1.1.1, BitVec.ofNat 36 (a * 2 ^ 26 + e.2 * 2 ^ 16)]))
    let ring := w.round && s.ring
    let ws := BitVec.ofNat 36 (devs.length * 2 ^ 26 + b2n ring * 2 ^ 25) :: es.flatten
    let oldLen := s.chainLen
    let oldOk := s.is fCHAIN_STATUS_RING_OK
    let r := s.newFrame 5 1023 2 ws
    let s := (((r.2.broadcast r.1).takeAssign ws).walkEnd 0).flag fCHAIN_ENUM_CMD_DONE
    if s.chainLen ≠ oldLen ∨ s.is fCHAIN_STATUS_RING_OK ≠ oldOk then s.announce else s

/-- The head starts a walk unless one runs (R424, R428, R451). Log: 56 DEDUCED. -/
def State.startWalk (s : State) : State :=
  if s.is fCHAIN_ENUM_CMD_BUSY then s
  else
    let s := (s.flag fCHAIN_ENUM_CMD_BUSY).put fCHAIN_ENUM_CMD_ERR 0
    if s.is fCHAIN_LINK_STATUS_CABLE_ERR 0 ∨ s.is fCHAIN_LINK_STATUS_CABLE_ERR 1 then s.walkEnd 2
    else
      let ups := (List.range 2).filter (fun p => s.portUp p)
      let w : WalkSt := { out_ := ups }
      if ups = [] then s.walkFinish w
      else
        let r := s.newFrame 5 1023 1 s.walkEntry
        ({ r.2 with chain := { r.2.chain with walk := some w } }).sendBoth r.1

/-- ENUM_GO: GO in CHAIN_ENUM_CMD starts a walk, or is refused on a member (R424). -/
def execEnumGo (s : State) : Out :=
  .next (if ¬ s.isHead then s.put fCHAIN_ENUM_CMD_ERR 4 else s.startWalk)

/-- The head collects a WALK that left by port `p`, or came round from it (R424). -/
def State.collect (s : State) (p : Nat) (f : ChFrame) (round : Bool) : State :=
  match s.chain.walk with
  | none => s
  | some w =>
    if ¬ w.out_.contains p then s
    else
      let es := ((pairs f.words).drop 1).map (fun e => (e.1, getBits e.2 26 10, bitOf e.2 23))
      let w := { w with out_ := w.out_.erase p, round := w.round || round }
      let w := if p = 1 then { w with east := es } else { w with west := es }
      if w.out_ = [] then s.walkFinish w else { s with chain := { s.chain with walk := some w } }

/-- A WALK goes on out port `p` with one more hop; HOPS 511 is dropped (R418, R424). -/
def State.walkOn (s : State) (p : Nat) (f : ChFrame) : State :=
  if 511 ≤ f.hops then s.routeDrop else if s.portUp p then s.sendPort p { f with hops := f.hops + 1 } else s

/-- WALK: an ENUM WALK is received, extended and sent on, sent back to the head, or collected by the head that began it (R424). A WALK
going out carries the broadcast address, one going back the head's. Log: 56 DEDUCED. -/
def execWalk (p : Fin 2) (f : ChFrame) (crc : Fin (2 ^ 32)) (s : State) : Out :=
  if ¬ s.chained ∨ ¬ s.portUp p.val ∨ f.typ ≠ 5 ∨ f.arg ≠ 1 then noEvent s
  else if ¬ (s.port p.val).heard then .next s
  else if ¬ frCrcOk f crc.val then .next (s.badCrc p.val f)
  else if ¬ frLenOk f then .next ((s.bump fCHAIN_COUNT_FRAME_ERRS).freeBuf (some p.val) f)
  else
    let o := 1 - p.val
    let out := f.dst == 1023
    let s := s.freeBuf (some p.val) f
    if s.isHead ∧ f.words.getD 0 0 = s.sig then .next (s.collect (if out then o else p.val) f out)
    else if ¬ out then .next (s.walkOn o f)
    else
      let g := { f with words := f.words ++ s.walkEntry }
      .next (if s.portUp o then s.walkOn o g else s.walkOn p.val { g with dst := f.src })

/-- WALK_TIMEOUT: a WALK has not returned within 1 ms (R424, R452). -/
def execWalkTimeout (s : State) : Out := if s.chain.walk.isNone then noEvent s else .next (s.walkEnd 5)

/-- ASSIGN: an ENUM ASSIGN is received (R426). -/
def execAssign (p : Fin 2) (f : ChFrame) (crc : Fin (2 ^ 32)) (s : State) : Out := s.chainRecv p.val f crc.val 5 (some 2) (fun s => s.takeAssign f.words)

/-- JOIN: the first copy of a SYNC JOIN makes the head start a walk (R419, R428). -/
def execJoin (p : Fin 2) (f : ChFrame) (crc : Fin (2 ^ 32)) (s : State) : Out :=
  s.chainRecv p.val f crc.val 2 (some 3) (fun s => if s.isHead then s.startWalk else s)

/-! ### Ports (R413 to R415, R427, R428, R446, R449, R451) -/

/-- Is port `p` enabled? -/
def State.portEn (s : State) (p : Nat) : Bool := s.is (if p = 0 then fCHAIN_CFG_W_EN else fCHAIN_CFG_E_EN)

/-- The port sends ENUM HELLO; HELLO and TIME frames have a count each (R415 to R417). Log: 57 DEDUCED. -/
def State.sendHello (s : State) (p : Nat) : State :=
  let x := s.port p
  let w := BitVec.ofNat 36 (p * 2 ^ 35 + s.addr * 2 ^ 25 + b2n s.isHead * 2 ^ 24)
  let s := s.setPort p { x with hello := (x.hello + 1) % 4096 }
  s.sendPort p ⟨5, 0, s.addr, 0, x.hello, 0, [s.sig, w]⟩

/-- PORT_TRAIN: a port with its enable set and a module present leaves DOWN for TRAIN (R409, R413). -/
def execPortTrain (p : Fin 2) (s : State) : Out :=
  if ¬ s.chained ∨ ¬ s.portEn p.val ∨ s.get fCHAIN_LINK_STATUS_STATE p.val ≠ 0 then noEvent s
  else .next (((s.flag fCHAIN_MOD_CTRL_PRESENT p.val).put fCHAIN_LINK_STATUS_STATE 1 p.val).forN 4 (fun s i => s.wakeLane (22 + 4 * p.val + i)))

/-- PORT_UP: the port is UP and sends HELLO; a head whose enabled ports are then all UP starts its first walk (R413 to R415, R451). -/
def execPortUp (p : Fin 2) (s : State) : Out :=
  if s.get fCHAIN_LINK_STATUS_STATE p.val ≠ 1 then noEvent s
  else
    let s := s.put fCHAIN_LINK_STATUS_STATE 2 p.val
    let s := s.setPort p.val { s.port p.val with heard := false, credit := 32768, freed := 0, waiting := [], deps := [], arr := none, heal := none }
    let s := s.sendHello p.val
    let all := (List.range 2).all (fun q => !s.portEn q || s.portUp q)
    .next (if s.isHead ∧ all ∧ s.chain.table = [] then s.startWalk else s)

/-- PORT_LOSS: a port loses lock or ALIGN and returns to DOWN; the frames that waited for it are discarded, and the buffer places of those in
transit are free again (R413, R421, R446, R449, R573). -/
def execPortLoss (p : Fin 2) (s : State) : Out :=
  let q := p.val
  if ¬ s.portUp q then noEvent s
  else
    let masked := s.is fCHAIN_STATUS_RING_OK
    let x := s.port q
    let s := (((s.put fCHAIN_LINK_STATUS_STATE 0 q).flag fCHAIN_LINK_STATUS_LOSS q).bump fCHAIN_LINK_STATUS_LOSSES q).bump fCHAIN_COUNT_ROUTE_DROP 0 x.waiting.length
    let s := s.setPort q { x with heard := false, waiting := [], credit := 0, deps := [], arr := none, heal := none }
    let s := x.waiting.foldl (fun s e => s.freeBuf e.2 e.1) s
    let s := (s.dropPath q).detect 11 q 0 (s.get fCHAIN_PATH_NBR_ADDR q) masked s.nowT
    let l := s.linkAt q
    .next (if s.ring then (s.sendLink 1 l).breakLink l else s)

/-- HELLO_TIMER: the port's HELLO period expires (R415). -/
def execHelloTimer (p : Fin 2) (s : State) : Out :=
  if s.chained ∧ s.portUp p.val then .next (s.sendHello p.val) else noEvent s

/-- HELLO: an ENUM HELLO is received: cabling, the neighbour's address and signature, and after a return the JOIN or the hold before
HEAL; frames that waited for it leave (R414, R415, R427, R428, R448). -/
def execHello (p : Fin 2) (f : ChFrame) (crc : Fin (2 ^ 32)) (s : State) : Out :=
  let q := p.val
  if ¬ s.chained ∨ ¬ s.portUp q ∨ f.typ ≠ 5 ∨ f.arg ≠ 0 then noEvent s
  else if ¬ frCrcOk f crc.val then .next (s.bump fCHAIN_LINK_STATUS_CRC_ERRS q)
  else if ¬ frLenOk f then .next (s.bump fCHAIN_COUNT_FRAME_ERRS)
  else
    let sg := f.words.getD 0 0
    let w := f.words.getD 1 0
    if getBits w 35 1 = q then
      .next ((s.setPort q { s.port q with heard := false }).flag fCHAIN_LINK_STATUS_CABLE_ERR q |>.detect 11 q 1 (getBits w 25 10) false s.nowT)
    else
      let first := !(s.port q).heard
      let same := sg == s.word (aCHAIN_NBR_SIG + q)
      let old := s.linkAt q
      let wasBroken := s.chain.broken.contains old
      let s := (s.setPort q { s.port q with heard := true }).put fCHAIN_PATH_NBR_ADDR (getBits w 25 10) q
      let s := if same then s else (s.flag fCHAIN_LINK_STATUS_NBR_CHANGED q).setWord (aCHAIN_NBR_SIG + q) sg
      let s : State :=
        if ¬ first then s
        else if wasBroken ∧ same then s.setPort q { s.port q with heal := some 0 }
        else (let s := s.sendLink 3 (s.linkAt q); if s.isHead then s.startWalk else s)
      .next (s.drainPort q (s.port q).waiting.length)

/-- CREDIT: a CREDIT block returns store-forward buffer space; frames that waited for it leave (R411, R421). -/
def execCredit (p : Fin 2) (n : Fin 65536) (s : State) : Out :=
  if ¬ s.portUp p.val then noEvent s
  else
    let x := s.port p.val
    let s := s.setPort p.val { x with credit := x.credit + 32 * n.val }
    .next (s.drainPort p.val x.waiting.length)

/-! ### Triggers, data and unused frames (R417, R422, R438, R439, R443) -/

/-- TRIG: a TRIG frame is delivered and handed to WARP as a command of source 0x4, or travels on (R438, R439). -/
def execTrig (p : Fin 2) (f : ChFrame) (crc : Fin (2 ^ 32)) (s : State) : Out := s.chainRecv p.val f crc.val 3 none (fun s => s.sendDue (trigCmd f.words))

/-- CHAIN_TRIG_GO: GO in CHAIN_TRIG_CTRL sends a TRIG with the due time of CHAIN_TRIG_LO and CHAIN_TRIG_HI (R438, R439). -/
def execChainTrigGo (dst : Fin 1024) (dline : Fin 64) (action : Fin 16) (group : Fin 256) (s : State) : Out :=
  let s := (((s.put fCHAIN_TRIG_CTRL_DST dst.val).put fCHAIN_TRIG_CTRL_DLINE dline.val).put fCHAIN_TRIG_CTRL_ACTION action.val).put fCHAIN_TRIG_CTRL_GROUP group.val
  .next (s.sendTrig dst.val (tsOf (s.word aCHAIN_TRIG_LO) (s.word aCHAIN_TRIG_HI)) dline.val action.val group.val)

/-- Words of a packet that its producer marks bad (R368, R422). -/
def State.badPacket (s : State) (q : Nat) (ws : List Word) : State :=
  if ¬ s.is fBOLT_Q_CFG_EN q ∨ ¬ s.domOn 5 ∨ ws = [] then s
  else
    let k := ws.length - 1
    ((List.range ws.length).zip ws).foldl (fun s e => s.queueWord q e.2 (e.1 == 0) (e.1 == k) (e.1 == k)) s

/-- A DATA frame for this device becomes a packet of the queue of its TAG (R443). -/
def State.dataIn (s : State) (f : ChFrame) : State :=
  let tag := f.arg / 16 % 64
  let s := if f.arg.testBit 3 then s.bump fCHAIN_COUNT_DAMAGED_RX else s
  if s.is fCHAIN_RXMAP_EN tag then (s.packet (s.get fCHAIN_RXMAP_QUEUE tag) f.words).1 else s.routeDrop

/-- A committed packet of a queue whose CONS is CHAIN leaves as one DATA frame under its TXMAP entry (R418, R442). -/
def State.dataOut (s : State) (c : Nat) (p : List BWord) : State :=
  let r := s.newFrame 9 (s.get fCHAIN_TXMAP_DST c) (s.get fCHAIN_TXMAP_TAG c * 16 + 8 * b2n (p.any (·.dmg))) (p.map (·.w))
  let f := r.1
  let s := r.2
  if f.dst = 1023 then (s.broadcast f).dataIn f else if f.dst = s.addr then s.dataIn f else s.sendRoute f

/-- DATA: a DATA frame is written as a packet to the queue of its TAG (R422, R443). -/
def execData (p : Fin 2) (f : ChFrame) (crc : Fin (2 ^ 32)) (s : State) : Out :=
  let tag := f.arg / 16 % 64
  let q := s.get fCHAIN_RXMAP_QUEUE tag
  let s := if ¬ frCrcOk f crc.val ∧ f.typ = 9 ∧ s.chained ∧ s.portUp p.val ∧ (s.port p.val).heard ∧ s.placed ∧ f.dst = s.addr ∧ s.is fCHAIN_RXMAP_EN tag
    then s.badPacket q f.words else s
  s.chainRecv p.val f crc.val 9 none (fun s => s.dataIn f)

/-- FRAME_TYPE_NOT_USED: a frame of an unused type, or whose LEN breaks its type's rule, is discarded and counted (R417). -/
def execFrameTypeNotUsed (p : Fin 2) (f : ChFrame) (s : State) : Out :=
  if s.chained ∧ s.portUp p.val ∧ ¬ frLenOk f then
    .next (let t := s.bump fCHAIN_COUNT_FRAME_ERRS; if 4 ≤ f.typ ∧ f.typ ≤ 9 then t.freeBuf (some p.val) f else t)
  else noEvent s

/-! ### Modules (R450) -/

/-- GO in CHAIN_MOD_CTRL starts one byte access; the page select byte is written when PAGE differs from the last one set. -/
def State.moduleGo (s : State) (p page offset : Nat) (w : Bool) : State :=
  let s := ((s.put fCHAIN_MOD_CTRL_RW (b2n w) p).put fCHAIN_MOD_CTRL_PAGE page p).put fCHAIN_MOD_CTRL_OFFSET offset p
  (if s.is fCHAIN_MOD_CTRL_BUSY p then s else { s with chain := { s.chain with pages := s.chain.pages.set p (some page) } }).flag fCHAIN_MOD_CTRL_BUSY p

/-- MODULE_READ: GO with RW 0 reads one module byte (R450). -/
def execModuleRead (p : Fin 2) (page offset : Fin 256) (s : State) : Out := .next (s.moduleGo p.val page.val offset.val false)

/-- MODULE_WRITE: GO with RW 1 writes one module byte (R450). -/
def execModuleWrite (p : Fin 2) (page offset data : Fin 256) (s : State) : Out :=
  .next ((s.put fCHAIN_MOD_CTRL_DATA data.val p.val).moduleGo p.val page.val offset.val true)

/-- MODULE_ACCESS_DONE: the access completes with the byte read, or the module does not acknowledge (R450). -/
def execModuleAccessDone (p : Fin 2) (data : Fin 256) (ack : Bool) (s : State) : Out :=
  if ¬ s.is fCHAIN_MOD_CTRL_BUSY p.val then noEvent s
  else
    let s := s.unflag fCHAIN_MOD_CTRL_BUSY p.val
    .next (if ¬ ack then s.flag fCHAIN_MOD_CTRL_NACK p.val
      else if s.is fCHAIN_MOD_CTRL_RW p.val then s else s.put fCHAIN_MOD_CTRL_DATA data.val p.val)

end Sys2Proof.Machine
end

