-- ==== Sys2Proof/Machine/Lamp.lean ====
section
/-! DEFINITION. Monitor converters, lamp drive and light-source supervision (chapter 22). -/

namespace Sys2Proof.Machine

/-! ### Frames (R605, R614) -/

/-- FRAME_SYNC: an edge `ticks` lamp ticks after the last frame start is accepted as a frame start, or ignored (R605, R618). -/
def execFrameSync (ticks : Nat) (s : State) : Out :=
  if s.is fLAMP_FRAME_CFG_FS_SRC then .next s
  else if s.lamps.fresh ∨ ¬ s.lamps.running then
    let s := s.frameStart ticks
    .next { s with lamps := { s.lamps with fresh := false } }
  else if ticks ≤ 1 then .next s
  else if 100 * ticks < 99 * s.frameTicks then .next (s.flag fLAMP_STATUS_FS_ERR)
  else if 100 * ticks ≤ 101 * s.frameTicks then .next (s.frameStart ticks)
  else noEvent s

/-- FRAME_FLYWHEEL: the device starts a frame itself: every FRAME_LEN under FS_SRC 1, or because no edge has come (R605). Log: 88 DEDUCED. -/
def execFrameFlywheel (s : State) : Out :=
  if s.is fLAMP_FRAME_CFG_FS_SRC then .next (s.frameStart s.frameTicks)
  else if ¬ s.lamps.running then noEvent s
  else .next (((s.flag fLAMP_STATUS_FS_LOST).bump fLAMP_STATUS_FLYWHEEL).frameStart (101 * s.frameTicks / 100))

/-- LAMP_APPLY: GO makes the next frame start an apply point (R614). -/
def execLampApply (s : State) : Out := .next (s.flag fLAMP_APPLY_APPLY_WAIT)

/-! ### Pulses and windows (R606 to R609, R611) -/

/-- PERIOD of a class A output in ticks; 0 acts as FRAME_LEN (R606). -/
def State.lampPeriod (s : State) (l : Nat) : Nat :=
  let p := s.get fLAMP_PULSE_B_PERIOD l
  if p = 0 then s.frameTicks else 4 * p

/-- The longest pulse DUTY_CAP allows (R609). -/
def State.widthCap (s : State) (l : Nat) : Nat := s.get fLAMP_CFG_DUTY_CAP l * s.lampPeriod l / 4096

/-- LAMP_PULSE: the next class A pulse of the frame is due; a clamped width below 8 ticks is no pulse (R606, R609, R611, R613). Log: 88 DEDUCED. -/
def execLampPulse (l : Fin 32) (sense : Option (Fin 4096)) (s : State) : Out :=
  let x := s.lamp l.val
  let lead := 4 * s.get fLAMP_PULSE_A_OFFSET l.val + x.k * s.lampPeriod l.val
  let cnt := s.get fLAMP_PULSE_B_COUNT l.val
  if ¬ s.lamps.running ∨ s.lampClass l.val ≠ 1 ∨ (cnt ≠ 0 ∧ cnt ≤ x.k) ∨ s.frameTicks ≤ lead then noEvent s
  else
    let s := s.setLamp l.val { x with k := x.k + 1, win := none }
    if s.lampForced l.val ∨ s.is fLAMP_STAT_OC_LATCH l.val then .next s
    else
      let x := s.lamp l.val
      let s := s.setLamp l.val { x with cut := false, cuts := if x.lit ∧ ¬ x.cut ∧ ¬ x.forced then 0 else x.cuts, forced := false, got := false }
      let w := max 8 (s.get fLAMP_PULSE_A_WIDTH l.val)
      let cap := s.widthCap l.val
      let s := if cap < w then s.flag fLAMP_STAT_CLAMP l.val else s
      let w := min w cap
      if w < 8 then .next s
      else
        let s := s.lampOn l.val 0 lead w (sense.map (·.val))
        .next (if (s.lamp l.val).got then s else s.starved l.val)

/-- LAMP_SPAN: the next class B window of an output; in matrix mode the next row slot of a column (R607 to R609, R611, R612). -/
def execLampSpan (l : Fin 32) (sense : Option (Fin 4096)) (s : State) : Out :=
  let x := s.lamp l.val
  if ¬ s.lamps.running ∨ ¬ s.emitsB l.val ∨ s.lampSlots ≤ x.n then noEvent s
  else
    let s := s.setLamp l.val { x with n := x.n + 1, win := none }
    if s.lampForced l.val then .next (s.setLamp l.val { s.lamp l.val with forced := true })
    else if s.is fLAMP_STAT_OC_LATCH l.val then .next s
    else
      let on := if x.stretch = some x.n then 480 else s.onTicks l.val x.n
      if on < 8 then .next s
      else .next (s.lampOn l.val x.n (s.slotStart x.n + s.lampOffset l.val on) on (sense.map (·.val)))

/-- OC_CUT: sensed current above I_CAP for 200 ns turns an output that is on off until its next window or pulse, and its capture is not
valid (R610, R611); where the force of R615 holds,
the cut is not counted (R618). -/
def execOcCut (l : Fin 32) (s : State) : Out :=
  let x := s.lamp l.val
  if s.lampForced l.val then .next s
  else if x.win.isNone then noEvent s
  else
    let n := if x.cut then x.cuts else x.cuts + 1
    let s := ((s.captureCut l.val).flag fLAMP_STAT_OC_CUT l.val).bump fLAMP_COUNT_OC_CUTS l.val
    let s := s.setLamp l.val { s.lamp l.val with win := none, cut := true, cuts := n }
    let s := if 3 ≤ n then s.flag fLAMP_STAT_OC_LATCH l.val else s
    let s := s.showLamp l.val
    .next (if s.matrix then (List.range s.lampRows).foldl (fun s r => s.showMat (32 * r + (l.val - s.lampRows))) s else s)

/-- LAMP_CLR: clears the overcurrent latches of the outputs in `mask` (R610, R618). -/
def execLampClr (mask : Fin (2 ^ 32)) (s : State) : Out :=
  .next ((bitList mask.val 32).foldl (fun s l =>
    let s := ((s.unflag fLAMP_STAT_OC_LATCH l).setLamp l { s.lamp l with cuts := 0 }).showLamp l
    if s.matrix then (List.range s.lampRows).foldl (fun s r => s.showMat (32 * r + (l - s.lampRows))) s else s) s)

/-! ### Monitor converters (R599 to R603) -/

/-- VALUE of a code at a gain setting (R600). -/
def monValue (code gain : Nat) : Nat := code * 16 / 2 ^ gain

/-- VALUE of entry `e` of converter `c` with the MONITOR injection on channel 39 (R600, R603). Log: 88 DEDUCED. -/
def State.monRead (s : State) (c e code : Nat) : Nat :=
  let v := monValue code (s.get fMON_SEQ_GAIN (16 * c + e))
  match s.injActs 21 with
  | some x =>
    if x.unit = c ∧ s.get fMON_SEQ_CH (16 * c + e) = 39 ∧ 0 < x.left then
      (max 0 (min 65535 ((v : Int) + 16 * sgn 12 (getBits x.value 24 12)))).toNat
    else v
  | none => v

/-- One converter converts its enabled entries, in order of e (R600, R601). -/
def State.monConvert (s : State) (c : Nat) (codes : List (Fin 4096)) : State :=
  (codes.zipIdx.take 16).foldl (fun s e =>
    let o := 16 * c + e.2
    if ¬ s.is fMON_SEQ_EN o then s
    else ((s.put fMON_RES_VALUE (s.monRead c e.2 e.1.val) o).put fMON_RES_SAT (b2n (e.1.val == 4095)) o).put fMON_RES_PASS (s.get fMON_STATUS_PASSES) o) s

/-- The cross-check of a pass (R602). -/
def State.crossCheck (s : State) : State :=
  let d : Int := (s.get fMON_RES_VALUE 0 : Nat) - (s.get fMON_RES_VALUE 16 : Nat)
  if d.natAbs ≤ s.get fMON_CFG_XCHK_TOL then s
  else (s.flag fMON_STATUS_XCHK_ERR).detect 20 2 0 (enc 14 (satS 14 d)) false s.nowT

/-- MON_PASS: a pass of both converters, with the code each converts in each of its entries; `late` when it outlasts PASS_PER. A pass
boundary stops B for its self-test, and the held captures are converted (R600 to R603, R611). -/
def execMonPass (a b : List (Fin 4096)) (late : Bool) (s : State) : Out :=
  let s := if s.is fMON_SELFTEST_BUSY then { s.flag fMON_STATUS_XCHK_OFF with lamps := { s.lamps with stopB := true } } else s
  let s := s.monConvert 0 a
  let s := if s.lamps.stopB then s else (s.monConvert 1 b).crossCheck
  let s := match s.injActs 21 with
    | some x => s.setInj { x with left := x.left - 1 }
    | none => s
  let s := if s.matrix then s.forN 256 State.diagnoseMat else s.forN 32 State.diagnose
  let s := if late then s.flag fMON_STATUS_OVERRUN else s
  .next (s.bump fMON_STATUS_PASSES)

/-- MON_SELFTEST_GO: GO claims converter B's sequence and starts its self-test, or is refused (R603, R507). -/
def execMonSelftestGo (s : State) : Out :=
  let r := s.claim 13 [(30, true)]
  .next (if r.2 then r.1.flag fMON_SELFTEST_BUSY else r.1.flag fMON_SELFTEST_MAINT_BUSY)

/-- Internal references of the self-test in 2^-16 V (R603). -/
def monRef (r : Nat) : Nat := if r = 0 then 8192 else if r = 1 then 32768 else 57344

/-- The reference and gain pairs that the self-test judges: a gain is allowed where the reference lies within its input range (R603). Log: 88 DEDUCED. -/
def selftestPairs : List (Fin 3 × Fin 4) :=
  [(0, 0), (0, 1), (0, 2), (0, 3), (1, 0), (1, 1), (2, 0)]

/-- MON_SELFTEST_DONE: the means of the references (index, gain code, mean in 2^-16 V), one at least for each pair of R603, are judged and B's sequence is released (R603). -/
def execMonSelftestDone (means : List (Fin 3 × Fin 4 × Nat)) (s : State) : Out :=
  if ¬ s.is fMON_SELFTEST_BUSY ∨ ¬ s.lamps.stopB ∨ ¬ selftestPairs.all (fun p => means.any (fun m => m.1 == p.1 && m.2.1 == p.2)) then noEvent s
  else
    let bad := means.find? (fun m => s.get fMON_CFG_XCHK_TOL < ((m.2.2 : Int) - (monRef m.1.val : Nat)).natAbs)
    let s := match bad with
      | none => s.flag fMON_SELFTEST_DONE
      | some m => (s.flag fMON_SELFTEST_ST_FAIL).detect 20 1 1 (m.2.1.val * 4 + m.1.val) false s.nowT
    let s := ((s.unflag fMON_SELFTEST_BUSY).unflag fMON_STATUS_XCHK_OFF).release 13
    .next { s with lamps := { s.lamps with stopB := false } }

end Sys2Proof.Machine
end

