-- ==== Sys2Proof/Machine/Bolt.lean ====
section
/-! DEFINITION. Bolt's commands (chapter 12): producer words, register pushes and pops, flushes, double-bit errors and the scrubber;
and the refill of a sequencer's stream window from its source (R210 to R214). -/

namespace Sys2Proof.Machine

/-! ### Double-bit errors (R378) -/

/-- Every word of the packet that holds word `i` of a list of committed words is marked damaged, and word `i` is replaced. -/
def damage (i : Nat) (ws : List BWord) : List BWord :=
  let start := (((ws.take (i + 1)).zipIdx.filter (fun e => e.1.sop)).getLast?).elim 0 (·.2)
  let stop := (((ws.drop i).findIdx? (fun b => b.eop)).elim ws.length (fun n => i + n))
  ws.zipIdx.map (fun e =>
    let b := if start ≤ e.2 ∧ e.2 ≤ stop then { e.1 with dmg := true } else e.1
    if e.2 = i then { b with w := idleItem } else b)

/-- A double-bit error is found in word `i` of queue `q` (its open packet's words follow the committed ones), or in a free cell; `kind` 0
on a port read, 1 by the scrubber. The cell number is physical and free (log entry 2). Log: 52 DESIGN CHOICE. -/
def State.boltDbe (s : State) (kind : Nat) (at_ : Option (Nat × Nat)) : State :=
  let s : State := match at_ with
    | none => s
    | some (q, i) =>
      let x := s.queue q
      let n := x.words.length
      let y := if i < n then { x with words := damage i x.words }
        else { x with opn := x.opn.map (fun p => p.zipIdx.map (fun e => if e.2 = i - n then { e.1 with w := idleItem, dmg := true } else e.1)) }
      (s.setQueue q y).flag fBOLT_Q_STATUS_DBE q
  let s := s.bump fBOLT_SCRUB_STATUS_DBE_COUNT
  let s := if s.is fBOLT_ERR_FIRST_VALID then s
    else
      let c := s.free
      c.2.setWord aBOLT_ERR_FIRST (BitVec.ofNat 36 (2 ^ 35 + kind * 2 ^ 33 +
        (match at_ with | some (q, _) => q * 2 ^ 21 | none => 2 ^ 20) + c.1 % 524288 * 2))
  s.reportMem 0

/-! ### Producers (R365 to R369, R384) -/

/-- PACKET_WORD: a word of a producer port reaches its queue with its marks (R365, R367 to R369, R374). -/
def execPacketWord (port : Fin 16) (q : Fin 4096) (w : Word) (sop eop bad : Bool) (s : State) : Out :=
  if s.is fBOLT_Q_CFG_EN q.val ∧ s.get fBOLT_Q_CFG_PROD q.val = port.val ∧ s.domOn 5 then .next (s.queueWord q.val w sop eop bad)
  else noEvent s

/-- A host word for queue `q`; the answer says whether it was taken: the queue is the host's, and the word belongs to a packet
(R369, R384). -/
def State.pushTo (s : State) (q : Nat) (w : Word) (sop eop : Bool) : State × Bool :=
  if ¬ s.is fBOLT_Q_CFG_EN q ∨ s.get fBOLT_Q_CFG_PROD q ≠ 4 then (s, false)
  else
    let x := s.queue q
    let lost := !sop && x.opn.isNone && (x.ign == .none_ || x.ign == .orphan)
    (s.queueWord q w sop eop false, !lost)

/-- A host push to the queue named in BOLT_PUSH_CTRL (R369, R384). -/
def State.push (s : State) (w : Word) (sop eop : Bool) : State :=
  let r := s.pushTo (s.get fBOLT_PUSH_CTRL_QUEUE) w sop eop
  if r.2 then r.1 else r.1.flag fBOLT_PUSH_CTRL_PUSH_ERR

/-- PUSH_MIDDLE: a write of BOLT_PUSH_WORD[0] (R367 to R369, R384). -/
def execPushMiddle (w : Word) (s : State) : Out := .next (s.push w false false)

/-- PUSH_SOP: a write of BOLT_PUSH_WORD[1] (R367, R368, R384). -/
def execPushSop (w : Word) (s : State) : Out := .next (s.push w true false)

/-- PUSH_EOP: a write of BOLT_PUSH_WORD[2] (R367 to R369, R384). -/
def execPushEop (w : Word) (s : State) : Out := .next (s.push w false true)

/-- PUSH_SOP_EOP: a write of BOLT_PUSH_WORD[3] (R367, R368, R384). -/
def execPushSopEop (w : Word) (s : State) : Out := .next (s.push w true true)

/-- PUSH_BAD: BAD rewinds the open host packet as marked bad (R368, R384). -/
def execPushBad (s : State) : Out :=
  let q := s.get fBOLT_PUSH_CTRL_QUEUE
  .next (if s.get fBOLT_Q_CFG_PROD q = 4 then s.markBad q else s)

/-! ### Register reads (R371, R385) -/

/-- The word a read of BOLT_POP_DATA returns, and the state after it; `dbe` a double-bit error in it (R367, R371, R378, R385). Log: 51 DEDUCED. -/
def State.pop (s : State) (dbe : Bool) : Word × State :=
  let q := s.get fBOLT_POP_CTRL_QUEUE
  if s.get fBOLT_Q_CFG_CONS q ≠ 0 ∨ ¬ s.is fBOLT_Q_CFG_EN q then
    (idleItem, (s.flag fBOLT_POP_CTRL_POP_ERR).unflag fBOLT_POP_CTRL_LAST_EMPTY)
  else
    let s := if dbe ∧ s.visible (s.queue q) ≠ 0 then s.boltDbe 0 (some (q, 0)) else s
    let r := if s.visible (s.queue q) = 0 then (none, s) else s.popWord q
    let show_ := fun (s : State) (a b e d : Bool) =>
      (((s.put fBOLT_POP_CTRL_LAST_SOP (b2n a)).put fBOLT_POP_CTRL_LAST_EOP (b2n b)).put fBOLT_POP_CTRL_LAST_EMPTY (b2n e)).put
        fBOLT_POP_CTRL_LAST_DAMAGED (b2n d)
    match r.1 with
    | none => (idleItem, show_ s false false true false)
    | some b =>
      let x := r.2.queue q
      (b.w, show_ (r.2.setQueue q { x with mid := !b.eop }) b.sop b.eop false b.dmg)

/-- POP_READ: a read of BOLT_POP_DATA removes one committed word of the named queue (R371, R378, R385). Log: 51 DEDUCED. -/
def execPopRead (dbe : Bool) (s : State) : Out :=
  let r := s.pop dbe
  .next (r.2.setWord aBOLT_POP_DATA r.1)

/-! ### Flushes (R214, R263, R373 to R375) -/

/-- A ring that waits for room for a packet of the flushed queue no longer waits (R457, R469). -/
def State.ringFlush (s : State) (q : Nat) : State :=
  s.forN 64 (fun s n =>
    let x := nth s.host.rings n
    if x.needQ = some q then
      { s.unflag fHOST_RING_WR_FULL_WAIT n with host := { s.host with rings := s.host.rings.set n { x with needQ := none } } }
    else s)

/-- A queue is flushed, with what that means for Reed's anchors, a sequencer's refill and a waiting ring. -/
def State.flush (s : State) (q : Nat) : State :=
  let s := (s.flushQueue q).ringFlush q
  let s := s.forN 4 (fun s b =>
    if s.get fREED_Q_CFG_QUEUE b = q then { s with reedBind := s.reedBind.set b { high := none } } else s)
  s.forN 2 (fun s n =>
    let c := s.seqCfg n
    let x := s.seq n
    if fSEQ_CFG_STREAM_SRC.get c = 1 ∧ fSEQ_CFG_STREAM_QUEUE.get c = q then
      ((s.setSeq n { x with part := [] }).bump fSEQ_STREAM_DISCARD n x.part.length).flag fSEQ_STATUS_FLUSH_SEEN n
    else s)

/-- FLUSH: FLUSH in BOLT_Q_CTRL[q] empties the queue (R214, R263, R373 to R375). -/
def execFlush (q : Fin 4096) (s : State) : Out := .next (s.flush q.val)

/-! ### The scrubber (R378 to R380) -/

/-- BOLT_SCRUB_PASS: a pass claims the scrub port and starts, or waits for it; a running pass ends with the errors it found, `sbe`
corrected and `dbes` uncorrectable words by queue and place (R378 to R380). -/
def execBoltScrubPass (sbe : Nat) (dbes : List (Option (Nat × Nat))) (s : State) : Out :=
  if ¬ s.is fBOLT_SCRUB_STATUS_BUSY then
    if ¬ s.is fBOLT_CFG_SCRUB_EN ∨ ¬ s.domOn 5 then noEvent s
    else if ¬ s.resFree 28 true then .next (s.flag fBOLT_SCRUB_STATUS_SCRUB_WAIT)
    else
      let s := { (s.claim 7 [(28, true)]).1 with boltMt := 0 }
      .next ((s.unflag fBOLT_SCRUB_STATUS_SCRUB_WAIT).flag fBOLT_SCRUB_STATUS_BUSY)
  else
    let s := s.bump fBOLT_SCRUB_STATUS_SBE_COUNT 0 sbe
    let s := dbes.foldl (fun s d => s.boltDbe 1 d) s
    let s := if max 80 (s.get fBOLT_CFG_SCRUB_PERIOD) < s.boltMt then s.flag fBOLT_SCRUB_STATUS_SCRUB_LATE else s
    .next (((s.unflag fBOLT_SCRUB_STATUS_BUSY).flag fBOLT_SCRUB_STATUS_PASS_DONE).release 7)

/-- OPEN of BOLT_PUSH_CTRL is formed at a read. Log: 89 DEDUCED. -/
def State.pushLive (s : State) (a : Nat) (w : Word) : Word :=
  if a = aBOLT_PUSH_CTRL then fBOLT_PUSH_CTRL_OPEN.set w (b2n (s.queue (fBOLT_PUSH_CTRL_QUEUE.get w)).opn.isSome) else w

/-! ### The stream (R206, R210 to R212, R393) -/

/-- A full granule enters the window, or is discarded where its issue cycles have passed under IDLE_KEEP_TIME (R210 to R212). -/
def State.granule (s : State) (q : Nat) (ws : List Word) : State :=
  let x := s.seq q
  let s := s.setSeq q { x with wr := x.wr + 1, part := [] }
  if 64 * x.wr < x.pos then s.bump fSEQ_STREAM_DISCARD q
  else ws.zipIdx.foldl (fun s e => s.setWord (winAddr q (64 * x.wr + e.2)) e.1) s

/-- REFILL_GRANULE: committed words of the stream's source complete the next granule of the window, where the window has room (R210 to
R212, R371, R393). -/
def execRefillGranule (q : Fin 2) (s : State) : Out :=
  let q := q.val
  let x := s.seq q
  let c := s.seqCfg q
  if 64 * (x.wr + 1) > x.keepFrom + 65536 ∨ ¬ s.domOn 3 then noEvent s
  else if fSEQ_CFG_STREAM_SRC.get c = 1 then
    let b := fSEQ_CFG_STREAM_QUEUE.get c
    let ws := ((s.queue b).words.take (min (s.visible (s.queue b)) (64 - x.part.length))).map (·.w)
    if ws = [] then noEvent s
    else
      let s := s.popN b ws.length
      let p := x.part ++ ws
      .next (if p.length < 64 then s.setSeq q { x with part := p } else s.granule q p)
  else if fSEQ_CFG_STREAM_SRC.get c = 2 then
    match s.regionGranule q with
    | some (ws, s') => .next (s'.granule q ws)
    | none => noEvent s
  else noEvent s

/-- SEQ_GO: GO arms a run under START_MODE, or is ignored or refused; a REPLAY region is read from its first item (R195, R206, R207,
R393). -/
def execSeqGo (q : Fin 2) (s : State) : Out :=
  let q := q.val
  let s' := s.seqGo q
  .next ((if s.seqRunning q = false ∧ s'.seqRunning q then s'.regionGo q else s').checkLoad)

end Sys2Proof.Machine
end

