-- ==== Sys2Proof/Machine/Host.lean ====
section
/-! DEFINITION. The host port (chapter 15): personalities, records and rings, stream datagrams, the consumer ports' choice among Bolt queues
(R370), push channels, host strobes and the link. -/

namespace Sys2Proof.Machine

/-! ### Outward effects -/

/-- Something leaves now; what left in earlier wc is forgotten. Log: 53 DEDUCED. -/
def State.send (s : State) (o : HostOut) : State :=
  { s with host := { s.host with sent := s.host.sent.filter (fun e => e.1 == s.nowT) ++ [(s.nowT, o)] } }

/-- Is the personality an Ethernet one (R454)? -/
def State.ethPers (s : State) : Bool := s.get fHOST_CFG_PERS == 1 || s.get fHOST_CFG_PERS == 2

/-- Is the host port trained? -/
def State.hostUp (s : State) : Bool := s.is fHOST_STATUS_LINK_UP

/-- Does the device hold a draft, restored or loaded? Without one only the local half of BAR0 is enabled (R455). Log: 61 DEDUCED. -/
def State.drafted (s : State) : Bool := s.get fDRAFT_APPLIED_TARGETS != 0

/-- The trained port under PCI Express. -/
def State.pcieUp (s : State) : Bool := s.hostUp && !s.ethPers

/-- The trained port under Ethernet. -/
def State.ethUp (s : State) : Bool := s.hostUp && s.ethPers

/-- Microseconds in wc/1024 at the programmed plan. -/
def State.usUp (s : State) (us : Nat) : Nat := s.psUp (us * 1000000)

/-! ### Records (R456) -/

/-- `k` bytes of a number, least significant first. -/
def leBytes : Nat → Nat → List Nat
  | 0, _ => []
  | k + 1, n => n % 256 :: leBytes k (n / 256)

/-- `k` bytes of a number, most significant first. -/
def beBytes (k n : Nat) : List Nat := (leBytes k n).reverse

/-- Words as one bit string: word i at bits 36i. -/
def packBits : List Word → Nat
  | [] => 0
  | w :: t => w.toNat + 2 ^ 36 * packBits t

/-- Payload bytes of `n` words: a multiple of 8. -/
def payBytes (n : Nat) : Nat := (36 * n + 63) / 64 * 8

/-- A record: its header and payload (R456). -/
def recordBytes (q : Nat) (sop eop cut dmg : Bool) (ws : List Word) : List Nat :=
  leBytes 8 (b2n eop * 2 ^ 29 + b2n sop * 2 ^ 28 + b2n cut * 2 ^ 27 + b2n dmg * 2 ^ 26 + q * 2 ^ 14 + ws.length) ++
    leBytes (payBytes ws.length) (packBits ws)

/-! ### Rings (R457 to R459) -/

/-- Ring `n`. -/
def State.ringSt (s : State) (n : Nat) : RingSt := nth s.host.rings n

/-- The state with ring `n` replaced. -/
def State.setRing (s : State) (n : Nat) (x : RingSt) : State := { s with host := { s.host with rings := s.host.rings.set n x } }

/-- Bytes of ring `n`. -/
def State.ringSize (s : State) (n : Nat) : Nat := 2 ^ s.get fHOST_RING_CFG_SIZE n

/-- Does a record of `k` bytes fit in ring `n` (R457)? -/
def State.ringFits (s : State) (n k : Nat) : Bool :=
  let m := s.ringSize n
  decide (k ≤ (s.get fHOST_RING_RD_RD n + 2 * m - s.get fHOST_RING_WR_WR n % m - 8) % m)

/-- Ring `n` raises its vector (R459). -/
def State.ringIrq (s : State) (n : Nat) : State :=
  (s.send (.msix (s.get fHOST_RING_CFG_VEC n))).setRing n { s.ringSt n with cnt := 0, first := none }

/-- A record is written into ring `n`, WR advances, and the vector is raised after MOD_CNT records (R457, R459). -/
def State.ringWrite (s : State) (n : Nat) (bytes : List Nat) : State :=
  let wr := s.get fHOST_RING_WR_WR n
  let s := (s.send (.ring n wr bytes)).put fHOST_RING_WR_WR ((wr + bytes.length) % s.ringSize n) n
  let x := s.ringSt n
  let s := s.setRing n { x with cnt := x.cnt + 1, first := some (x.first.getD s.nowT) }
  if max 1 (s.get fHOST_RING_CFG_MOD_CNT n) ≤ x.cnt + 1 then s.ringIrq n else s

/-- RING_RD_WRITE: a host write of RD frees space and clears FULL_WAIT where the waiting record fits (R457, R458). -/
def execRingRdWrite (n : Fin 64) (rd : Fin (2 ^ 30)) (s : State) : Out :=
  let s := s.put fHOST_RING_RD_RD rd.val n.val
  .next (if s.ringFits n.val (s.ringSt n.val).need then s.unflag fHOST_RING_WR_FULL_WAIT n.val else s)

/-- RING_INTERRUPT_TIMER: MOD_TIME after the first record since the last interrupt the ring raises its vector (R459). -/
def execRingInterruptTimer (n : Fin 64) (s : State) : Out :=
  match (s.ringSt n.val).first with
  | none => noEvent s
  | some t =>
    let m := s.get fHOST_RING_CFG_MOD_TIME n.val
    if m = 0 then noEvent s else .next ((s.flowTo (tAdd t (s.usUp m))).ringIrq n.val)

/-! ### Stream datagrams (R463, R464) -/

/-- Bytes of records a datagram holds: the MTU less the IPv4, UDP and stream headers. -/
def State.gramRoom (s : State) : Nat := (if s.is fHOST_CFG_MTU then 9000 else 1500) - 44

/-- The datagram of ring `n` is sent. -/
def State.gramSend (s : State) (n : Nat) : State :=
  let x := s.ringSt n
  if x.recs = 0 then s
  else
    let hdr := [0xC5, 0xA2, 1, 0] ++ beBytes 2 (s.addr * 64 + n) ++ beBytes 2 x.recs ++ beBytes 4 x.seq ++ [0, 0, 0, 0]
    (s.send (.stream n (s.get fHOST_RING_CFG_DEST n) (hdr ++ x.gram))).setRing n
      { x with gram := [], recs := 0, at_ := none, seq := (x.seq + 1) % 2 ^ 32 }

/-- Words a record of at most `r` bytes holds. -/
def recordWords (r : Nat) : Nat := (r - 8) / 8 * 64 / 36

/-- A packet enters the datagrams of ring `n`, split into records where it does not fit (R464). -/
def State.gramPacket (s : State) (n q : Nat) (dmg : Bool) (sop : Bool) (ws : List Word) : Nat → State
  | 0 => s
  | k + 1 =>
    let x := s.ringSt n
    let room := s.gramRoom - x.gram.length
    if room < 16 then (s.gramSend n).gramPacket n q dmg sop ws k
    else
      let m := min ws.length (recordWords room)
      let last := decide (m = ws.length)
      let b := recordBytes q sop last false dmg (ws.take m)
      let s := s.setRing n { x with gram := x.gram ++ b, recs := x.recs + 1, at_ := some (x.at_.getD s.nowT) }
      let s := if s.gramRoom - (x.gram.length + b.length) < 16 then s.gramSend n else s
      if last then s else s.gramPacket n q dmg false (ws.drop m) k

/-- STREAM_DATAGRAM_TIMER: 10 µs after its first record a stream datagram is sent (R464). -/
def execStreamDatagramTimer (n : Fin 64) (s : State) : Out :=
  match (s.ringSt n.val).at_ with
  | none => noEvent s
  | some t => .next ((s.flowTo (tAdd t (s.usUp 10))).gramSend n.val)

/-! ### The choice of a consumer port (R365, R370, R458) -/

/-- The queue consumer port `c` served last. -/
def State.lastServed (s : State) (c : Nat) : Nat := getKey 0 s.served c

/-- May consumer port `c` read queue `q`, apart from the ring's space: does it see a committed packet there, and may its sub-channel take
one: a CAPTURE Skein, or a stream region that is not full (R367, R370, R393, R394)? -/
def State.readable (s : State) (c q : Nat) : Bool :=
  s.is fBOLT_Q_CFG_EN q && s.get fBOLT_Q_CFG_CONS q == c && decide (0 < s.visible (s.queue q)) &&
    (c != 3 || (let n := s.get fBOLT_Q_CFG_CONS_SEL q
      (decide (n < 64) && s.is fHIST_SK_CFG_EN n && !s.is fHIST_SK_CFG_KIND n) ||
        ((n == 128 || n == 129) && (s.is fHIST_STREAM_CFG_MODE (n - 128) || decide (0 < s.regionRoom (n - 128)))))) &&
    (c != 1 || (let n := s.get fBOLT_Q_CFG_CONS_SEL q
      decide (n < 64) && s.is fHOST_RING_CFG_EN n && (s.ethPers || !s.is fHOST_RING_WR_FULL_WAIT n)))

/-- Rank of queue `q` in the choice of a port: lower is taken first. -/
def State.rank (s : State) (c q : Nat) : Nat :=
  (7 - s.get fBOLT_Q_CFG_PRIO q) * 4096 + (q + 4096 - (s.lastServed c + 1)) % 4096

/-- The queue consumer port `c` reads next (R370). -/
def State.choose (s : State) (c : Nat) : Option Nat :=
  ((s.queues.map (·.1)).filter (fun q => s.readable c q)).foldl (fun a q =>
    match a with
    | none => some q
    | some b => some (if s.rank c q < s.rank c b then q else b)) none

/-- Under PCI Express a ring whose next record does not fit waits, and the port chooses again (R457, R458). -/
def State.chooseHost (s : State) : Nat → Option Nat × State
  | 0 => (none, s)
  | k + 1 =>
    match s.choose 1 with
    | none => (none, s)
    | some q =>
      let n := s.get fBOLT_Q_CFG_CONS_SEL q
      let size := 8 + payBytes (firstPacket (s.queue q).words).length
      if s.ethPers ∨ s.ringFits n size then (some q, s)
      else ((s.flag fHOST_RING_WR_FULL_WAIT n).setRing n { s.ringSt n with need := size, needQ := some q }).chooseHost k

/-- A packet of queue `q` leaves by its ring (R456, R457, R464). -/
def State.toHost (s : State) (n q : Nat) (p : List BWord) : State :=
  let dmg := p.any (·.dmg)
  let ws := p.map (·.w)
  if s.ethPers then s.gramPacket n q dmg true ws (2 * ws.length + 2) else s.ringWrite n (recordBytes q true true false dmg ws)

/-- The chosen packet leaves queue `q` by consumer port `c`. -/
def State.deliver (s : State) (c q : Nat) : State :=
  let p := firstPacket (s.queue q).words
  let n := s.get fBOLT_Q_CFG_CONS_SEL q
  let s := { s with served := putKey 0 s.served c q }
  if c = 1 then (s.popN q p.length).toHost n q p
  else if c = 2 then (s.popN q p.length).dataOut n p
  else if c = 3 then (if n < 128 then s.capture n q else s.regionTake (n - 128) q p)
  else (s.popN q p.length).send (.words 5 (p.map (·.w)))

/-- Can consumer port `c` work: HOST trained, CHAIN placed in a chain, MEMC running, MGMT always? A hold of BOLT or LINK stops none (R496). -/
def State.consumerRuns (s : State) (c : Nat) : Bool :=
  s.domOn 5 &&
    (if c = 1 then s.hostUp && s.host.redo.isNone
     else if c = 2 then s.chained && s.placed
     else if c = 3 then s.memcRuns else c == 5)

/-- The next packet of consumer port `c`, and the state with rings that must wait marked. -/
def State.nextOf (s : State) (c : Nat) : Option Nat × State := if c = 1 then s.chooseHost 65 else (s.choose c, s)

/-- CONSUMER_READ: a consumer port chooses and reads the next committed packet; `dbe` lists its words with a double-bit error (R370, R378,
R442, R456 to R458, R464). Log: 50 DEDUCED, 53 DEDUCED. -/
def execConsumerRead (c : Fin 6) (dbe : List (Fin 8192)) (s : State) : Out :=
  if ¬ s.consumerRuns c.val then noEvent s
  else
    let r := s.nextOf c.val
    match r.1 with
    | none => .next r.2
    | some q =>
      let n := (firstPacket (r.2.queue q).words).length
      let s := (dbe.filter (fun i => i.val < n)).foldl (fun s i => s.boltDbe 0 (some (q, i.val))) r.2
      .next (s.deliver c.val q)

/-! ### The link (R454, R469, R627) -/

/-- HOST_LINK_TRAINED: training ends; LINK_UP is set, and an interrupted record is written again from its start (R454, R455, R469). -/
def execHostLinkTrained (gen : Fin 6) (s : State) : Out :=
  if s.hostUp ∨ s.islandHeld 7 ∨ (¬ s.ethPers ∧ ¬ s.host.perst) then noEvent s
  else
    let m := s.get fHOST_CFG_MAX_GEN
    let mx := if 1 ≤ m ∧ m ≤ 5 then m else 5
    let s := (s.flag fHOST_STATUS_LINK_UP).put fHOST_STATUS_GEN (if s.ethPers then 0 else min (max 1 gen.val) mx)
    .next (match s.host.redo with
      | some (n, q, p) => { s with host := { s.host with redo := none } }.toHost n q p
      | none => s)

/-- The host port goes down. -/
def State.hostDown (s : State) : State := (s.unflag fHOST_STATUS_LINK_UP).put fHOST_STATUS_GEN 0

/-- PCIE_LINK_DOWN: the link goes down; `busy` when the port was writing a record, which is kept (R469). Log: 53 DEDUCED. -/
def execPcieLinkDown (busy : Bool) (s : State) : Out :=
  if ¬ s.pcieUp then noEvent s
  else if ¬ busy ∨ ¬ s.consumerRuns 1 then .next s.hostDown
  else
    let r := s.nextOf 1
    match r.1 with
    | none => .next r.2.hostDown
    | some q =>
      let p := firstPacket (r.2.queue q).words
      let s := r.2.popN q p.length
      .next { s.hostDown with served := putKey 0 s.served 1 q, host := { s.host with redo := some (s.get fBOLT_Q_CFG_CONS_SEL q, q, p) } }

/-- PERST_N: the PCI Express reset pin changes; low holds the host port in reset (R627). -/
def execPerstN (high : Bool) (s : State) : Out :=
  let s := { s with host := { s.host with perst := high } }
  .next (if high ∨ s.ethPers then s else s.hostDown)

/-! ### Push channels and strobes (R460, R461, R467) -/

/-- A word pushed by channel `c`; with PD_BOLT off it is discarded (R460, R461, R545). -/
def State.channelPush (s : State) (c : Nat) (w : Word) (sop eop : Bool) : State :=
  if ¬ s.is fHOST_PUSHQ_EN c ∨ ¬ s.domOn 5 then s.flag fHOST_PUSHQ_PUSH_ERR c
  else
    let r := s.pushTo (s.get fHOST_PUSHQ_QUEUE c) w sop eop
    if r.2 then r.1 else r.1.flag fHOST_PUSHQ_PUSH_ERR c

/-- BAR2_PUSH: an access to a push channel; one that is not 8 bytes and aligned is discarded (R460, R461, R469). -/
def execBar2Push (c : Fin 64) (j : Fin 4) (w : Word) (whole : Bool) (s : State) : Out :=
  if ¬ s.pcieUp ∨ s.islandHeld 7 ∨ ¬ s.drafted then noEvent s
  else if ¬ whole then .next (s.flag fHOST_STATUS_ACC_ERR)
  else .next (s.channelPush c.val w (j.val % 2 == 1) (decide (2 ≤ j.val)))

/-- The due time of a strobe: held, or LINK's view, which lags by two to four LINK cycles of 2.56 ns, plus the offset (R58, R467). Log: 62 DEDUCED. -/
def State.strobeDue (s : State) (rel : Bool) : Nat × State :=
  if ¬ rel then (tsOf (s.word aHOST_STROBE_LO) (s.word aHOST_STROBE_HI), s)
  else
    let r := s.viewLag 2560
    (wcs ((s.now + s.get fHOST_STROBE_LO_COARSE + 2 ^ 62 - r.1) % 2 ^ 62), r.2)

/-- HOST_STROBE: GO in HOST_STROBE_CTRL sends a due-time command of source 0x5 (R142, R143, R467). Log: 62 DEDUCED. -/
def execHostStrobe (rel : Bool) (l : Fin 64) (action : Fin 16) (s : State) : Out :=
  let s := ((s.put fHOST_STROBE_CTRL_REL (b2n rel)).put fHOST_STROBE_CTRL_LINE l.val).put fHOST_STROBE_CTRL_ACTION action.val
  let d := s.strobeDue rel
  .next (d.2.sendDue ⟨.line l, action.val, d.1, 5⟩)

end Sys2Proof.Machine
end

