-- ==== Sys2Proof/Machine/Selvedge.lean ====
section
/-! DEFINITION. Selvedge (chapter 20): the report of a fault, the log, the pins, FAULT frames, clearing, the fault hold, and the detector
tests. -/

namespace Sys2Proof.Machine

/-! ### Pins (R570, R571, R459) -/

/-- Should Selvedge assert FAULT_N? -/
def State.faultPin (s : State) : Bool := (s.get fFAULT_ACTIVE_ACTIVE &&& s.get fFAULT_PIN_EN_EN) != 0

/-- Should Selvedge assert INT_N? -/
def State.intPin (s : State) : Bool := s.get fFAULT_ACTIVE_ACTIVE != 0 || (s.is fFAULT_STATUS_REMOTE && s.is fFAULT_CFG_REMOTE_INT)

/-- The pins follow their conditions; IRQ_VEC is raised when INT_N is asserted. -/
def State.showPins (s : State) : State :=
  let rise := s.intPin && !s.is fFAULT_STATUS_INT_N
  let s := (s.put fFAULT_STATUS_FAULT_N (b2n s.faultPin)).put fFAULT_STATUS_INT_N (b2n s.intPin)
  if rise ∧ s.pcieUp then s.send (.msix (s.get fHOST_CFG_IRQ_VEC)) else s

/-! ### Records (R569, R572 to R575, R578, R579) -/

/-- A record enters the log (R575). Log: 84 DEDUCED. -/
def State.logRecord (s : State) (w0 w1 w2 w3 : Word) : State :=
  let i := s.get fFAULT_LOG_PTR_WR
  let s := if 64 ≤ s.selv.written then s.bump fFAULT_LOG_PTR_LOST else s
  let s := (((s.setWord (aFAULT_LOG + 4 * i) w0).setWord (aFAULT_LOG + 4 * i + 1) w1).setWord (aFAULT_LOG + 4 * i + 2) w2).setWord (aFAULT_LOG + 4 * i + 3) w3
  let s := (s.put fFAULT_LOG_PTR_WR ((i + 1) % 64)).put fFAULT_LOG_PTR_TOTAL ((s.get fFAULT_LOG_PTR_TOTAL + 1) % 2 ^ 18)
  { s with selv := { s.selv with written := s.selv.written + 1 } }

/-- The record word of a detection (R573). Log: 84 DEDUCED. -/
def Det.word (d : Det) : Word :=
  BitVec.ofNat 36 (d.cls * 2 ^ 31 + b2n d.masked * 2 ^ 30 + b2n d.inj * 2 ^ 28 + d.sub % 8 * 2 ^ 25 + d.unit % 2048 * 2 ^ 14 + d.detail % 2 ^ 14)

/-- The FAULT frame of a record (R417, R572). -/
def State.faultFrame (s : State) (w0 w1 w2 w3 : Word) : State :=
  if ¬ s.is fFAULT_CFG_FRAME_EN ∨ ¬ s.chained then s
  else
    let r := s.newFrame 4 1023 0 [w0, w1, w2, w3, s.sig]
    r.2.broadcast r.1

/-- Is a class bit set in a 31-bit class mask field (bit c − 1 of the field)? -/
def State.classBit (s : State) (f : Fld) (c : Nat) : Bool := s.bit f (c - 1)

/-- A record answers the injection (R582, R584): LAT is a free value within the microsecond of R569. Log: 86 DEDUCED. -/
def State.injRecord (s : State) (d : Det) : State :=
  if ¬ d.inj then s
  else
    let s := s.flag fFAULT_STATUS_INJ_SEEN
    match s.selv.inj with
    | none => s
    | some x =>
      if x.done then s.setInj { x with seen := true }
      else
        let r := s.free
        let s := ((r.2.setInj { x with done := true, seen := true }).flag fFAULT_INJ_STATUS_DONE).put fFAULT_INJ_STATUS_LAT (r.1 % 1001)
        if x.count = 0 then s.unflag fFAULT_INJ_STATUS_BUSY else s

/-- The fault hold starts where the class is enabled for it (R577). -/
def State.holdStart (s : State) (c : Nat) : State := if s.classBit fFAULT_HOLD_EN_EN c then (s.flag fFAULT_STATUS_FHOLD).forceLamps else s

/-- Is a fault a repeat (R574)? -/
def State.isRepeat (s : State) (d : Det) : Bool := s.selv.pairs.contains (d.cls, d.unit) && s.classBit fFAULT_ACTIVE_ACTIVE d.cls

/-- Selvedge reports one fault (R569, R574, R577, R579, R584). Log: 84 DEDUCED. -/
def State.reportFault (s : State) (d : Det) : State :=
  if s.isRepeat d then (s.bump fFAULT_COUNT_EVENTS (d.cls - 1)).bump fFAULT_COUNT_REPEATS (d.cls - 1)
  else
    let w0 := tsLo d.inst
    let w1 := tsHi d.inst
    let w2 := d.word
    let w3 := BitVec.ofNat 36 (s.addr * 2 ^ 26 + (s.selv.seq + 1) % 2 ^ 26)
    let s := s.logRecord w0 w1 w2 w3
    let s := { s with selv := { s.selv with seq := (s.selv.seq + 1) % 2 ^ 26, pairs := ((d.cls, d.unit) :: s.selv.pairs).take 16 } }
    let s := if s.is fFAULT_STATUS_FIRST_VALID then s
      else (((s.setWord aFAULT_FIRST_LO w0).setWord aFAULT_FIRST_HI w1).setWord aFAULT_FIRST_INFO w2).flag fFAULT_STATUS_FIRST_VALID
    let s := if s.selv.prev then s
      else { s.setWord aFAULT_PREV (BitVec.ofNat 36 (2 ^ 35 + d.cls * 2 ^ 30 + d.unit % 2048 * 2 ^ 19)) with selv := { s.selv with prev := true } }
    let s := (s.putBit fFAULT_ACTIVE_ACTIVE (d.cls - 1) true).bump fFAULT_COUNT_EVENTS (d.cls - 1)
    ((s.injRecord d).showPins.faultFrame w0 w1 w2 w3).holdStart d.cls

/-- Does detection `a` come before `b` among faults of one instant: lower class, then lower UNIT (R585)? -/
def Det.before (a b : Det) : Bool := decide (a.cls < b.cls) || (a.cls == b.cls && decide (a.unit < b.unit))

/-- The fault Selvedge takes next: of those with the oldest instant the first in order. -/
def nextDet : List Det → Option Det
  | [] => none
  | d :: ds => some ((ds.filter (fun e => e.inst == d.inst)).foldl (fun a e => if e.before a then e else a) d)

/-- SELVEDGE_FAULT_REPORT: Selvedge receives a detected fault and records, signals and frames it (R569, R573 to R575, R577, R579, R585). -/
def execSelvedgeFaultReport (s : State) : Out :=
  match nextDet s.detected with
  | none => noEvent s
  | some d => .next ({ s with detected := s.detected.erase d }.reportFault d)

/-- FAULT: a FAULT frame is delivered, recorded as remote and passed to Selvedge (R444, R578). -/
def execFault (p : Fin 2) (f : ChFrame) (crc : Fin (2 ^ 32)) (s : State) : Out :=
  s.chainRecv p.val f crc.val 4 none (fun s =>
    let s := ((s.flag fCHAIN_FAULT_RX_VALID).put fCHAIN_FAULT_RX_SRC f.src).bump fCHAIN_FAULT_RX_COUNT
    let w2 := setBits (f.words.getD 2 0) 29 1 1
    ((s.logRecord (f.words.getD 0 0) (f.words.getD 1 0) w2 (f.words.getD 3 0)).flag fFAULT_STATUS_REMOTE).showPins)

/-! ### Clearing and the fault hold (R576, R577) -/

/-- Does the level condition of a class hold (R573)? -/
def State.levelHolds (s : State) (c : Nat) : Bool :=
  if c = 1 then s.get fCLK_RETUNE_STATE == 6
  else if c = 2 then !s.is fCLK_STATUS_PLLC_LOCK
  else if c = 3 then !s.is fCLK_REF_STATUS_A_QUAL && !s.is fCLK_REF_STATUS_B_QUAL
  else if c = 8 then (List.range 9).any s.crcBad
  else if c = 11 then (List.range 2).any (fun p => s.get fCHAIN_LINK_STATUS_STATE p == 0 && s.portEn p && s.is fCHAIN_MOD_CTRL_PRESENT p)
  else if c = 13 then (List.range 2).any (fun f => s.get fPROBE_LINK_STATUS_STATE f == 1 && s.is fPROBE_LINK_CTRL_LINK_EN f)
  else if c = 14 then (List.range 2).any (fun f => s.get fRXW_LINK_STATUS_STATE f == 1 && s.is fRXW_LINK_CTRL_LINK_EN f)
  else if c = 19 then s.get fPWR_THERM_SITE_ERR != 0
  else if c = 21 then s.selv.rails != 0
  else if c = 22 then s.is fPWR_THERM_SHUTDOWN
  else false

/-- A 1 is written to the bit of class `c` in FAULT_ACTIVE. -/
def State.clearClass (s : State) (c : Nat) : State :=
  if ¬ s.classBit fFAULT_ACTIVE_ACTIVE c then s
  else if s.levelHolds c then s.flag fFAULT_STATUS_CLEAR_REFUSED
  else { s.putBit fFAULT_ACTIVE_ACTIVE (c - 1) false with selv := { s.selv with pairs := s.selv.pairs.filter (fun e => e.1 != c) } }

/-- FAULT_ACTIVE_CLEAR: class bits whose level condition does not hold are cleared; bit c − 1 of the mask is class c (R574, R576). -/
def execFaultActiveClear (mask : Fin (2 ^ 31)) (s : State) : Out :=
  .next (((bitList mask.val 31).foldl (fun s i => s.clearClass (i + 1)) s).showPins)

/-- HOLD_RELEASE: ends the fault hold, unless a class that starts it is still set (R577). -/
def execHoldRelease (s : State) : Out :=
  if ¬ s.faultHold then .next s
  else if (s.get fFAULT_ACTIVE_ACTIVE &&& s.get fFAULT_HOLD_EN_EN) ≠ 0 then .next (s.flag fFAULT_STATUS_CLEAR_REFUSED)
  else .next (s.unflag fFAULT_STATUS_FHOLD).checkLoad

/-! ### Selvedge's own detectors (R568, R580, R581, R584) -/

/-- PIN_FAULT: a pad, 0 FAULT_N or 1 INT_N, reads high for 100 ns while Selvedge asserts it (R580). -/
def execPinFault (pin : Fin 2) (s : State) : Out :=
  if s.is (if pin.val = 0 then fFAULT_STATUS_FAULT_N else fFAULT_STATUS_INT_N) then .next (s.report 24 pin.val 0) else noEvent s

/-- SELVEDGE_DISAGREE: the two copies disagree (R568, R573). -/
def execSelvedgeDisagree (s : State) : Out := .next (s.report 25 25 1)

/-- SVC_STALE: 2 × DET_PERIOD mt pass without a complete detector test pass (R581). Log: 85 DESIGN CHOICE. -/
def execSvcStale (s : State) : Out :=
  if s.selv.svcMt < 2 * max 1 (s.get fFAULT_CFG_DET_PERIOD) then noEvent s else .next (s.flag fFAULT_STATUS_SVC_STALE)

/-- The class of the detector an injection kind tests (R583). Log: 85 DESIGN CHOICE. -/
def kindClass (k unit : Nat) : Nat :=
  if k = 1 ∨ k = 2 then (if unit < 72 then 4 else 5)
  else if k = 3 then (if unit < 64 then 4 else 6)
  else ([0, 0, 0, 0, 1, 1, 3, 7, 8, 9, 9, 10, 10, 11, 12, 15, 15, 16, 17, 18, 19, 20, 21, 23, 24] : List Nat).getD k 0

/-- The detector classes that an injection kind can test. Log: 85 DESIGN CHOICE. -/
def testClasses : List Nat := [1, 3, 4, 5, 6, 7, 8, 9, 10, 11, 12, 15, 16, 17, 18, 19, 20, 21, 23, 24]

/-- A detector has reported its TEST injection; the pass is complete when every testable class has (R581, log entry). Log: 85 DESIGN CHOICE. -/
def State.testPassed (s : State) (c : Nat) : State :=
  let t := if s.selv.tested.contains c then s.selv.tested else c :: s.selv.tested
  if testClasses.all (fun x => t.contains x) then
    ({ s with selv := { s.selv with tested := [], svcMt := 0 } }.bump fFAULT_SVC_PASSES).unflag fFAULT_STATUS_SVC_STALE
  else { s with selv := { s.selv with tested := t } }

/-- When an injection that is no TEST reaches the end of its extent: none where it has edges, samples, mt or passes left, or where its ball has
met no leading edge yet; microseconds and stuck wc give an instant (R583). Log: 86 DEDUCED. -/
def State.injEnd (s : State) (x : InjSt) : Option Nat :=
  if x.test then some s.nowT
  else if x.kind = 3 then x.from_.map (fun f => tAdd f (wcs x.count))
  else if ([4, 6, 13, 22, 24] : List Nat).contains x.kind then some (tAdd x.start (s.usUp x.count))
  else if ([1, 2, 14, 15, 19, 20, 21] : List Nat).contains x.kind ∧ 0 < x.left then none
  else some s.nowT

/-- Microseconds of the report window of an injection: 16 mt, or the longer time R565 states for its entry (R584). -/
def State.injWindow (s : State) (x : InjSt) : Nat :=
  let mt16 : Nat := 4000
  if x.kind = 7 ∨ x.kind = 8 then 10000
  else if x.kind = 15 ∨ (x.kind = 10 ∧ x.unit = 0) then 2000000
  else if x.kind = 10 then 100000
  else if x.kind = 12 then max mt16 (250 * s.get fHIST_MEM_CTRL_SCRUB_PERIOD)
  else if x.kind = 21 then max mt16 (s.get fMON_CFG_PASS_PER)
  else mt16

/-- INJECTION_END: an injection reaches its extent; the forced condition is removed. A TEST ends with its detector's report (R581, R582,
R584). Log: 86 DEDUCED. -/
def execInjectionEnd (s : State) : Out :=
  match s.selv.inj with
  | none => noEvent s
  | some x =>
    match if s.is fFAULT_INJ_STATUS_BUSY then s.injEnd x else none with
    | none => noEvent s
    | some t =>
      let s := (s.flowTo t).unflag fFAULT_INJ_STATUS_BUSY
      let s : State := if x.kind = 4 ∧ ¬ x.test then { s with clk := { s.clk with guardAt := s.now } } else s
      let s := if x.kind = 22 ∧ ¬ x.test then { s with selv := { s.selv with rails := withBit s.selv.rails x.unit false } } else s
      if ¬ x.test ∨ x.done then .next s
      else
        let r := s.free
        .next ((((r.2.setInj { x with done := true }).flag fFAULT_INJ_STATUS_DONE).put fFAULT_INJ_STATUS_LAT (r.1 % 1001)).testPassed (kindClass x.kind x.unit))

/-- MISSED: an injection's report window ends without a record; a TEST that is missed is a DETECTOR fault (R581, R584). -/
def execMissed (s : State) : Out :=
  match s.selv.inj with
  | none => noEvent s
  | some x =>
    if x.done then noEvent s
    else
      let s := s.flowTo (tAdd x.start (s.usUp (s.injWindow x)))
      let s := ((s.setInj { x with done := true }).flag fFAULT_INJ_STATUS_MISSED).unflag fFAULT_INJ_STATUS_BUSY
      if ¬ x.test then .next s
      else
        let c := kindClass x.kind x.unit
        let s := if s.is fFAULT_SVC_TEST_FAIL then s else (s.put fFAULT_SVC_FAIL_CLASS c).put fFAULT_SVC_FAIL_UNIT x.unit
        .next ((s.flag fFAULT_SVC_TEST_FAIL).detect 25 c 0 (x.unit % 2 ^ 14) false s.nowT)

/-- LOGIC_MISMATCH: duplicated state, a residue outside WEFT or parity disagrees in an island (R567, R573). -/
def execLogicMismatch (island : Fin 10) (sub : Fin 3) (s : State) : Out := .next (s.report 23 island.val sub.val)

end Sys2Proof.Machine
end

