-- ==== Sys2Proof/Machine/Islands.lean ====
section
/-! DEFINITION. Island holds and what a release of staged structure does (R495 to R500, R73, R341, R376, R405, R454). -/

namespace Sys2Proof.Machine

/-! ### Structure that changes -/

/-- The fibre whose shot boundary a WEFT structure word waits for (R496). -/
def State.wordFibre (s : State) (a : Nat) : Option Nat :=
  if aRES_GAUGE_CFG ≤ a ∧ a < aRES_GAUGE_CFG + 2 then some (a - aRES_GAUGE_CFG)
  else if aRES_FIBRE_CFG ≤ a ∧ a < aRES_FIBRE_CFG + 2 then some (a - aRES_FIBRE_CFG)
  else if aRES_STREAM_CFG ≤ a ∧ a < aRES_STREAM_CFG + 16 then some (fRES_STREAM_CFG_FIBRE.get (s.structWord a))
  else if aRES_DEC_CFG ≤ a ∧ a < aRES_DEC_CFG + 2 then some (a - aRES_DEC_CFG)
  else if aRES_SPEC_CFG ≤ a ∧ a < aRES_SPEC_CFG + 2 then some (a - aRES_SPEC_CFG)
  else if aRES_BAND_CFG ≤ a ∧ a < aRES_BAND_CFG + 16 then some ((a - aRES_BAND_CFG) / 8)
  else if aRES_DET_CFG ≤ a ∧ a < aRES_DET_CFG + 32 then some ((a - aRES_DET_CFG) / 16)
  else if aRES_DET_WIN ≤ a ∧ a < aRES_DET_WIN + 32 then some ((a - aRES_DET_WIN) / 16)
  else if aCLUSTER_DESC ≤ a ∧ a < aCLUSTER_DESC + 1024 then some (getBits (s.structWord (a - a % 4)) 30 1)
  else if aCORR_REF ≤ a ∧ a < aCORR_REF + 0x80000 then some ((a - aCORR_REF) / 0x40000)
  else none

/-- Offsets, ψ′_last and Φ of a fibre are zeroed for rows from instant `t` (R341). -/
def State.zeroGaugesAt (s : State) (f t : Nat) : State :=
  let r := nth s.res f
  { s with res := s.res.set f { r with zeroAt := some (r.zeroAt.getD t), spec := { r.spec with zero := true } } }

/-- A stage of fibre `f` starts with empty state (R496). Log: 73 DEDUCED. -/
def State.emptyStage (s : State) (f stage : Nat) : State :=
  let r := nth s.res f
  if stage = 4 then s.zeroGaugesAt f s.nowT
  else if stage = 5 then { s with res := s.res.set f { r with bands := List.replicate 8 {} } }
  else if stage = 6 then { s with res := s.res.set f { r with dets := List.replicate 16 {} } }
  else if stage = 7 then { s with res := s.res.set f { r with spec := {} } }
  else if stage = 8 then { s with res := s.res.set f { r with hist := [] } }
  else s

/-- A port goes DOWN because its configuration changed and trains again (R496). -/
def State.portReset (s : State) (p : Nat) : State :=
  let x := s.port p
  let s := (s.put fCHAIN_LINK_STATUS_STATE 0 p).bump fCHAIN_COUNT_ROUTE_DROP 0 x.waiting.length
  (s.setPort p { x with heard := false, waiting := [], credit := 0, deps := [], arr := none, heal := none }).dropPath p

/-- What a changed structure word does as it begins to govern (R73, R235, R303, R341, R376, R405, R454, R496). Log: 73 DEDUCED. -/
def State.structEffect (s : State) (a : Nat) (old new : Word) : State :=
  if aHEDDLE_LINE_SRC ≤ a ∧ a < aHEDDLE_LINE_SRC + 64 then
    let l := a - aHEDDLE_LINE_SRC
    s.setLine l { nth s.lines l with held := [] }
  else if aHEDDLE_LINE_CFG ≤ a ∧ a < aHEDDLE_LINE_CFG + 64 then
    let l := a - aHEDDLE_LINE_CFG
    let x := { nth s.lines l with held := [] }
    s.setLine l (if fHEDDLE_LINE_CFG_ARM_MODE.get old = fHEDDLE_LINE_CFG_ARM_MODE.get new then x else { x with armFrom := none, armEnd := none })
  else if aSEQ_CFG ≤ a ∧ a < aSEQ_CFG + 2 then
    let q := a - aSEQ_CFG
    if s.seqRunning q then s.setSeq q { s.seq q with gov := some old } else s
  else if aPROBE_CFG ≤ a ∧ a < aPROBE_CFG + 2 then
    let f := a - aPROBE_CFG
    let s := if s.feedRuns f then { s with probes := s.probes.set f { nth s.probes f with gov := some old } } else s.probeGrid f
    if (fPROBE_CFG_RATIO.get old = fPROBE_CFG_RATIO.get new ∧ fPROBE_CFG_LINKSET.get old = fPROBE_CFG_LINKSET.get new) ∨
        s.get fPROBE_LINK_STATUS_STATE f = 0 then s
    else s.txState f 1
  else if aREED_Q_CFG ≤ a ∧ a < aREED_Q_CFG + 4 then { s with reedBind := s.reedBind.set (a - aREED_Q_CFG) {} }
  else if aLIGHT_CFG ≤ a ∧ a < aLIGHT_CFG + 2 then s.designate (a - aLIGHT_CFG)
  else if aRXW_LINK_CFG ≤ a ∧ a < aRXW_LINK_CFG + 2 then
    let f := a - aRXW_LINK_CFG
    if s.get fRXW_LINK_STATUS_STATE f = 0 then s else (s.laneLocks f false).rxState f 1
  else if aRES_GAUGE_CFG ≤ a ∧ a < aRES_GAUGE_CFG + 2 then s.zeroGaugesAt (a - aRES_GAUGE_CFG) s.nowT
  else if aRES_SPEC_CFG ≤ a ∧ a < aRES_SPEC_CFG + 2 then s.emptyStage (a - aRES_SPEC_CFG) 7
  else if aRES_BAND_CFG ≤ a ∧ a < aRES_BAND_CFG + 16 then
    let f := (a - aRES_BAND_CFG) / 8
    let r := nth s.res f
    { s with res := s.res.set f { r with bands := r.bands.set ((a - aRES_BAND_CFG) % 8) {} } }
  else if (aRES_DET_CFG ≤ a ∧ a < aRES_DET_CFG + 32) ∨ (aRES_DET_WIN ≤ a ∧ a < aRES_DET_WIN + 32) then
    let k := if a < aRES_DET_WIN then a - aRES_DET_CFG else a - aRES_DET_WIN
    let r := nth s.res (k / 16)
    { s with res := s.res.set (k / 16) { r with dets := r.dets.set (k % 16) {} } }
  else if aCLUSTER_DESC ≤ a ∧ a < aCLUSTER_DESC + 1024 then
    let w := s.word (a - a % 4)
    if bitOf w 35 then s.emptyStage (getBits w 30 1) (getBits w 31 4) else s
  else if aBOLT_Q_CFG ≤ a ∧ a < aBOLT_Q_CFG + 4096 then s.flush (a - aBOLT_Q_CFG)
  else if aBOLT_Q_LIMIT ≤ a ∧ a < aBOLT_Q_LIMIT + 4096 then s.flush (a - aBOLT_Q_LIMIT)
  else if aHIST_STREAM_CFG ≤ a ∧ a < aHIST_STREAM_CFG + 2 then s.setRegion (a - aHIST_STREAM_CFG) {}
  else if aHIST_STREAM_STATUS ≤ a ∧ a < aHIST_STREAM_STATUS + 2 then s.setRegion (a - aHIST_STREAM_STATUS) {}
  else if aHIST_SK_CFG ≤ a ∧ a < aHIST_SK_CFG + 64 then (s.emptySkein (a - aHIST_SK_CFG)).rawDrop (a - aHIST_SK_CFG) old
  else if aHIST_SK_MAP ≤ a ∧ a < aHIST_SK_MAP + 64 then s.emptySkein (a - aHIST_SK_MAP)
  else if a = aHOST_CFG then s.hostDown
  else if a = aCHAIN_CFG then
    if fCHAIN_CFG_ENUM_MODE.set old 0 = fCHAIN_CFG_ENUM_MODE.set new 0 then s else (s.forN 2 State.portReset).toTstate (if s.isHead then 5 else 0)
  else if a = aPLLC_CFG then
    (((s.unflag fCLK_STATUS_PLLC_LOCK).flag fCLK_STATUS_DEGRADED).safeSource true).toRing true
  else s

/-- A staged word begins to govern. -/
def State.takeWord (s : State) (a : Nat) : State :=
  let old := s.word a
  let s := if aLIGHT_CFG ≤ a ∧ a < aLIGHT_CFG + 2 then (s.limTo (a - aLIGHT_CFG) s.nowT).probesNow
    else if aPROBE_CFG ≤ a ∧ a < aPROBE_CFG + 2 then s.probesNow else s
  let s := s.unstage a
  let new := s.word a
  if old = new then s else s.structEffect a old new

/-- Does a released word wait: lamp structure for the next frame, POL and FMT for an idle output, WEFT words for a shot (R496, R616)? Log: 73 DEDUCED. -/
def State.deferred (s : State) (a : Nat) : Bool :=
  (lampWords.contains a && s.lamps.running) ||
    (decide (aWARP_CH_CTRL ≤ a) && decide (a < aWARP_CH_CTRL + 64)) || (decide (aMOUT_CTRL ≤ a) && decide (a < aMOUT_CTRL + 8)) ||
    (decide (aMOUT_FMT ≤ a) && decide (a < aMOUT_FMT + 8)) ||
    (ownersAt a == [4] && (match s.wordFibre a with | some f => s.feedRuns f | none => false))

/-! ### Holds -/

/-- HELD of island `n`. -/
def State.held (s : State) (n : Nat) : Bool := s.bit fISLAND_HOLD_HELD n

/-- SUSPENDED reads 1 while an island is held (R490). -/
def State.showHeld (s : State) : State := s.put fDRAFT_SCAN_SUSPENDED (b2n (s.get fISLAND_HOLD_HELD != 0))

/-- An island is held (R288, R313, R496). -/
def State.holdIsland (s : State) (n : Nat) : State :=
  if s.held n then s
  else
    let s := (s.putBit fISLAND_HOLD_HELD n true).showHeld
    let s := { s with holds := { s.holds with mt := s.holds.mt.set n 0 } }
    let s := if n = 0 then s.calAbort 12 else s
    if n = 3 ∨ n = 4 then s.rxCalAbort 12 else s

/-- An island's last holder has released it: what was staged for it governs under R496, and its golden CRC is taken (R498). Log: 73 DEDUCED. -/
def State.releaseIsland (s : State) (n : Nat) : State :=
  let s := (s.putBit fISLAND_HOLD_HELD n false).showHeld
  let ws := (s.staged.map (·.1)).filter (fun a => (structOwners a).contains n && (structOwners a).all (fun o => !s.held o))
  let s := (ws.filter (fun a => !s.deferred a)).foldl State.takeWord s
  let s := if n = 0 then s.forN 72 State.oRefresh else s
  (sortNat ((List.range 9).filter (fun i => i == n || ws.any (fun a => (ownersAt a).contains i)))).foldl State.goldenCrc s

/-- ISLAND_HOLD_REQ: REQ of the islands is written; bit n is island n (R495). -/
def execIslandHoldReq (mask : Fin 512) (s : State) : Out := .next (s.put fISLAND_HOLD_REQ mask.val)

/-- Does a holder hold island `n`, the host or a draft apply (R495)? -/
def State.holderOf (s : State) (n : Nat) : Bool := s.bit fISLAND_HOLD_REQ n || s.holds.draft.testBit n

/-- HELD: an island that a holder wants is held (R496). -/
def execHeld (n : Fin 9) (s : State) : Out := if s.holderOf n.val ∧ ¬ s.held n.val then .next (s.holdIsland n.val) else noEvent s

/-- ISLAND_RELEASE: an island whose last holder has released it takes its new structure (R495, R496, R498). -/
def execIslandRelease (n : Fin 9) (s : State) : Out := if s.held n.val ∧ ¬ s.holderOf n.val then .next (s.releaseIsland n.val) else noEvent s

/-- HOLD_EXPIRED: a host hold ends at the HOLD_LIMIT-th mt tick after HELD (R499). -/
def execHoldExpired (n : Fin 9) (s : State) : Out :=
  if ¬ s.held n.val ∨ ¬ s.bit fISLAND_HOLD_REQ n.val ∨ s.holds.mt.getD n.val 0 < max 1 (s.get fISLAND_HOLD_HOLD_LIMIT) then noEvent s
  else
    let s := (s.putBit fISLAND_HOLD_REQ n.val false).flag fISLAND_HOLD_HOLD_EXPIRED
    .next (if s.holderOf n.val then s else s.releaseIsland n.val)

/-- The islands held count an mt tick (R499). -/
def State.holdMt (s : State) : State :=
  { s with holds := { s.holds with mt := s.holds.mt.zipIdx.map (fun e => if s.held e.2 then e.1 + 1 else e.1) } }

/-- WEFT structure of fibre `f` that a release left waiting takes effect at its shot boundary (R496). -/
def State.weftShot (s : State) (f : Nat) : State :=
  if s.staged.isEmpty ∨ s.held 4 then s
  else ((s.staged.map (·.1)).filter (fun a => ownersAt a == [4] && s.wordFibre a == some f)).foldl State.takeWord s

end Sys2Proof.Machine
end

