-- ==== Sys2Proof/Machine/Power.lean ====
section
/-! DEFINITION. Power domains, the wake governor, supplies, and thermal limits (chapter 19, R628). -/

namespace Sys2Proof.Machine

/-! ### Domain states and the governor's queue (R539, R541, R547 to R550) -/

/-- STATE of domain `d` becomes `v`. -/
def State.setDom (s : State) (d v : Nat) : State :=
  let w := s.get fPWR_STATE_STATE
  s.put fPWR_STATE_STATE (w - natBits w (3 * d) 3 * 2 ^ (3 * d) + v % 8 * 2 ^ (3 * d))

/-- REQ of domain `d` is stored. -/
def State.setReq (s : State) (d v : Nat) : State :=
  let w := s.get fPWR_REQ_REQ
  s.put fPWR_REQ_REQ (w - natBits w (2 * d) 2 * 2 ^ (2 * d) + v % 4 * 2 ^ (2 * d))

/-- EN of domain `d`; PD_AON and PD_MGMT read 1 (R540). -/
def State.domEn (s : State) (d : Nat) : Bool := decide (d < 2) || s.bit fPWR_ENABLED_EN d

/-- The islands of a domain (R539). -/
def domIslands (d : Nat) : List Nat :=
  if d = 1 then [8] else if d = 2 then [0] else if d = 3 then [1, 2] else if d = 4 then [4] else if d = 5 then [5] else if d = 6 then [6]
  else if d = 7 then [3, 7] else []

/-- Slope in 0.01 A/µs and ramp in 10 ns ticks of an event (R548). -/
def govCost : GovEvt → Nat × Nat
  | .domain _ => (40, 800)
  | .pllw => (4, 500)
  | .dram => (20, 800)
  | .cluster _ => (16, 100)
  | .lane _ => (8, 100)
  | .drivers _ => (15, 20)

/-- The sum of the slopes still ramping. -/
def GovSt.slope (g : GovSt) : Nat := (g.ramps.map (fun r => r.2.1)).foldl (· + ·) 0

/-- SLOPE, PEAK and QUEUED follow the governor. -/
def State.showGov (s : State) : State :=
  let v := s.gov.slope
  ((s.put fPWR_GOV_SLOPE v).put fPWR_GOV_PEAK (max v (s.get fPWR_GOV_PEAK))).put fPWR_GOV_QUEUED s.gov.queue.length

/-- An event joins the queue, once while it waits. -/
def State.govAsk (s : State) (e : GovEvt) : State :=
  if s.gov.queue.any (fun x => x.1 == e) then s
  else { s with gov := { s.gov with queue := s.gov.queue ++ [(e, true)] } }.showGov

/-- A waiting event is withdrawn; the ramp of an event ends. -/
def State.govDrop (s : State) (e : GovEvt) : State :=
  { s with gov := { s.gov with queue := s.gov.queue.filter (fun x => x.1 != e), ramps := s.gov.ramps.filter (fun x => x.1 != e) } }.showGov

/-- Does an event meet its pacing cap at tick `t` (R549)? -/
def GovSt.capOk (g : GovSt) (t : Nat) : GovEvt → Bool
  | .domain _ => match g.lastDomain with | some l => decide (l + 2000 ≤ t) | none => true
  | .drivers _ => match g.lastDrivers with | some l => decide (l + 10 ≤ t) | none => true
  | .cluster _ => decide ((g.clusters.filter (fun c => decide (t < c + 100))).length < 5)
  | _ => true

/-- An admitted event ramps (R548, R549). -/
def GovSt.take_ (g : GovSt) (t : Nat) (e : GovEvt) : GovSt :=
  let c := govCost e
  let g := { g with ramps := g.ramps ++ [(e, c.1, t + c.2)] }
  match e with
  | .domain _ => { g with lastDomain := some t }
  | .drivers _ => { g with lastDrivers := some t }
  | .cluster _ => { g with clusters := t :: g.clusters.take 4 }
  | _ => g

/-- One examination of the queue, oldest first: the governor after it, the events admitted, and the events left (R550). -/
def govExamine (t : Nat) : List (GovEvt × Bool) → GovSt → List GovEvt → List (GovEvt × Bool) → GovSt × List GovEvt × List (GovEvt × Bool)
  | [], g, ad, left => (g, ad, left)
  | (e, fresh) :: q, g, ad, left =>
    if 80 < g.slope + (govCost e).1 then (g, ad, left ++ (e, fresh) :: q)
    else if g.capOk t e then govExamine t q (g.take_ t e) (ad ++ [e]) left
    else govExamine t q g ad (left ++ [(e, fresh)])

/-- What an admission starts: a domain wakes, a driver group's waking drivers may reach armed idle (R114, R168, R544). -/
def State.govStart (s : State) (e : GovEvt) : State :=
  match e with
  | .domain d => s.setDom d 2
  | .drivers g => s.forN 72 (fun s o => if driverGroup o = g ∧ s.oDrv o = 1 then s.setOut o { s.out o with admitted := true } else s)
  | _ => s

/-- GOVERNOR_ADMIT: at a 10 ns tick, `n` ticks after the last one examined, the governor admits what fits its caps and its budget (R548 to
R550). Log: 82 DEDUCED. -/
def execGovernorAdmit (n : Nat) (s : State) : Out :=
  let t := s.gov.tick + max 1 n
  let g := { s.gov with tick := t, ramps := s.gov.ramps.filter (fun r => decide (t < r.2.2)) }
  let r := govExamine t g.queue g [] []
  let waits := (r.2.2.filter (·.2)).length
  let s := { s with gov := { r.1 with queue := r.2.2.map (fun x => (x.1, false)) } }
  .next ((r.2.1.foldl State.govStart s).bump fPWR_GOV_WAITS 0 waits).showGov

/-! ### Requests (R541, R542, R543, R552, R560) -/

/-- A request is refused (R542). -/
def State.pwrRefuse (s : State) (d reason : Nat) : State := ((s.flag fPWR_REFUSE_REFUSED).put fPWR_REFUSE_DOMAIN d).put fPWR_REFUSE_REASON reason

/-- Has a domain an island held by a draft apply, or is PD_MEM staging a draft (R542, R481)? -/
def State.domBusy (s : State) (d : Nat) : Bool :=
  (domIslands d).any (fun n => s.holds.draft.testBit n) ||
    (d == 6 && (let t := s.get fDRAFT_STATUS_STATE; t == 1 || t == 2 || t == 3))

/-- Why a request ON is refused; 0 where it is not. Log: 81 DEDUCED. -/
def State.onReason (s : State) (d : Nat) : Nat :=
  if ¬ s.domEn d then 2 else if d = 3 ∧ s.domState 2 ≠ 3 then 4 else if s.is fPWR_THERM_SHUTDOWN then 7 else 0

/-- A wake is queued (R541). -/
def State.wakeAsk (s : State) (d : Nat) : State := (s.setDom d 1).govAsk (.domain d)

/-- A request ON for domain `d` (R541, R542, R553, R560). -/
def State.reqOn (s : State) (d : Nat) : State :=
  let t := s.domState d
  if d < 2 ∨ t = 3 ∨ t = 6 ∨ t = 1 ∨ t = 2 then
    if d < 2 then s else { s.setReq d 1 with pwr := { s.pwr with offAfter := withBit s.pwr.offAfter d false } }
  else
    let r := s.onReason d
    if r ≠ 0 then s.pwrRefuse d r
    else
      let s := s.setReq d 1
      if t = 4 then { s with pwr := { s.pwr with onAfter := withBit s.pwr.onAfter d true } }
      else if t = 5 then { s with pwr := { s.pwr with kept := true } }.wakeAsk d
      else s.wakeAsk d

/-- PWR_REQ_ON: a request ON for a domain (R541, R542). -/
def execPwrReqOn (d : Fin 8) (s : State) : Out := .next (s.reqOn d.val)

/-- The islands of a domain are held and their state is to be saved (R543). -/
def State.saving (s : State) (d : Nat) : State :=
  let s := s.setDom d 4
  if d = 2 then s.calAbort 12 else if d = 4 ∨ d = 7 then s.rxCalAbort 12 else s

/-- Every queue is discarded (R383, R553). -/
def State.dropQueues (s : State) : State := { s with queues := [], served := [] }

/-- Why a request OFF is refused; 0 where it is not. Log: 81 DEDUCED. -/
def State.offReason (s : State) (d path : Nat) : Nat :=
  if d < 2 then 1
  else if d = 2 ∧ (List.range 72).any (fun o => s.oEnable o != 0) then 3
  else if d = 2 ∧ s.domState 3 ≠ 0 then 4
  else if d = 7 ∧ (path = 0 ∨ path = 1 ∨ path = 4) then 5
  else if s.domBusy d then 6
  else 0

/-- A request OFF for domain `d` from access path `path` (R541 to R543, R553, R560). -/
def State.reqOff (s : State) (d path : Nat) : State :=
  let t := s.domState d
  if 2 ≤ d ∧ (t = 0 ∨ t = 4) then { s.setReq d 0 with pwr := { s.pwr with onAfter := withBit s.pwr.onAfter d false } }
  else
    let r := s.offReason d path
    if r ≠ 0 then s.pwrRefuse d r
    else
      let s := s.setReq d 0
      if t = 1 then
        let s := (s.govDrop (.domain d)).setDom d 0
        if s.pwr.kept ∧ d = 5 then { s with pwr := { s.pwr with kept := false } }.dropQueues else s
      else if t = 2 ∨ t = 6 then { s with pwr := { s.pwr with offAfter := withBit s.pwr.offAfter d true } }
      else if t = 5 then (s.setDom d 0).dropQueues
      else s.saving d

/-- PWR_REQ_OFF: a request OFF for a domain (R541 to R543, R551). -/
def execPwrReqOff (d : Fin 8) (path : Fin 6) (s : State) : Out := .next (s.reqOff d.val path.val)

/-- Every open packet is rewound as marked bad (R382, R552). -/
def State.rewindAll (s : State) : State :=
  (s.queues.map (·.1)).foldl (fun s q => if (s.queue q).opn.isSome then (s.rewind q .overrun).markBad q else s) s

/-- A request RETAIN for domain `d` (R542, R552); one for PD_BOLT that is not ON has no effect. Log: 81 DEDUCED. -/
def State.reqRetain (s : State) (d : Nat) : State :=
  if d ≠ 5 then s.pwrRefuse d 1
  else if s.domState 5 = 5 then s
  else if ¬ s.domEn 5 then s.pwrRefuse d 2
  else if s.domBusy 5 then s.pwrRefuse d 6
  else if s.is fPWR_THERM_SHUTDOWN then s.pwrRefuse d 7
  else if s.domState 5 ≠ 3 then s
  else (s.setReq 5 2).rewindAll

/-- PWR_REQ_RETAIN: a request RETAIN (R541, R542, R552). -/
def execPwrReqRetain (d : Fin 8) (s : State) : Out := .next (s.reqRetain d.val)

/-- RETAIN_ENTERED: PD_BOLT has reached retention bias (R552). -/
def execRetainEntered (s : State) : Out :=
  if s.domState 5 = 3 ∧ natBits (s.get fPWR_REQ_REQ) 10 2 = 2 then .next (s.setDom 5 5) else noEvent s

/-! ### Off and on (R543 to R545) -/

/-- Does a word of domain `d` survive the save and the wake: another domain's, a saved one, and no window that is reloaded (R543, R544)? Log: 81 DEDUCED. -/
def wordKept (d a : Nat) : Bool :=
  match regAt a with
  | none => true
  | some r => r.dom != d || ((decide (a < 0x800000) || (d != 3 && d != 4)) && r.fields.any (fun f => f.rst != .zero && f.rst != .live)) ||
      r.base == aREED_BIN

/-- The register words of a domain after its save: saved words keep working and shadow values, others return to power-up values. Log: 81 DEDUCED. -/
def State.saveWords (s : State) (d : Nat) : State :=
  { s with regs := s.regs.filter (fun e => wordKept d e.1), shadow := s.shadow.filter (fun e => wordKept d e.1) }

/-- What is lost as a domain's switch opens (R383, R404, R413, R545). -/
def State.domLost (s : State) (d : Nat) : State :=
  if d = 2 then
    let ck : ClkSt := { s.clk with lockedOnce := false }
    let s := { s with outs := List.replicate 72 {}, banks := List.replicate 8 {}, voters := s.voters.map (fun (v : VoterSt) => { faulty := v.faulty }), hin := List.replicate 16 {},
                      lines := List.replicate 64 {}, rgs := List.replicate 8 {}, old := [], fresh := [], evts := [], pins := [], hsf := [], sentAt := [], store := [], lims := List.replicate 2 {},
                      reedIn := List.replicate 16 {}, reedBind := List.replicate 4 {}, gates := List.replicate 4 {}, mus := List.replicate 4 {}, reedPend := [],
                      clk := ck }
    let s := s.unflag fCLK_STATUS_PLLW_LOCK
    if s.chained ∧ s.get fCHAIN_STATUS_TSTATE ≠ 0 then s.toTstate 0 else s
  else if d = 3 then { s with seqs := List.replicate 2 {}, probes := List.replicate 2 {}, txLinks := List.replicate 2 {} }
  else if d = 4 then { s with res := List.replicate 2 {}, resStreams := List.replicate 16 {}, resOld := [] }
  else if d = 5 then s.dropQueues
  else if d = 6 then s.dramClear.unflag fHIST_MEM_STATUS_READY
  else if d = 7 then
    let s := (s.forN 2 State.portReset).hostDown
    let s := s.forN 2 (fun s f => (s.laneLocks f false).rxState f 0)
    { s with rx := List.replicate 2 {}, spare := {} }
  else s

/-- SAVE_DONE: a domain's configuration is saved and its switch opens; a wake asked for meanwhile is queued (R543, R545, R557, R560). -/
def execSaveDone (d : Fin 8) (s : State) : Out :=
  let d := d.val
  if s.domState d ≠ 4 then noEvent s
  else
    let s := ((s.domLost d).saveWords d).setDom d 0
    if s.pwr.onAfter.testBit d then .next ({ s with pwr := { s.pwr with onAfter := withBit s.pwr.onAfter d false } }.wakeAsk d)
    else .next s

/-- Does a cluster serve an instance (R319, R476)? -/
def State.clusterUsed (s : State) (c : Nat) : Bool := (List.range 4).any (fun j => bitOf (s.word (aCLUSTER_DESC + 16 * c + 4 * j)) 35)

/-- Outputs whose ENABLE the configuration restored ask for their drivers (R113, R114, R533). -/
def State.wakeOuts (s : State) : State :=
  s.forN 72 (fun s o =>
    if s.oEnable o = 0 ∨ s.oDrv o ≠ 0 then s
    else ((s.setDrv o 1).setOut o { s.out o with enBall := s.oEnable o, admitted := false }).wakeGroup (driverGroup o))

/-- What WARP's domain starts with as it wakes: TB_WC_PER_MT from the plan (R34), generator roles from their FAULTY marks (R181), grids (R163), the
drivers of enabled outputs. -/
def State.warpUp (s : State) : State :=
  let s := s.setWord aTB_WC_PER_MT (s.wcPerMtWord (s.word aPLLW_CFG) (s.word aPLLW_FRAC))
  (s.forN 8 (fun s m => s.startRoles m (nth s.voters m).faulty)).gridsOn.wakeOuts

/-- A domain has become ON: its loops, memories, clusters and scrubber start (R545, R548, R553); a request OFF made meanwhile runs (R560). -/
def State.domUp (s : State) (d : Nat) : State :=
  let s := { s.setDom d 3 with pwr := { s.pwr with ever := withBit s.pwr.ever d true } }
  let s := if d = 2 then s.warpUp.govAsk .pllw
    else if d = 3 then (s.forN 2 State.bandCheck).forN 2 (fun s f => if s.is fPROBE_LINK_CTRL_LINK_EN f then (execTxLinkEnable (Fin.ofNat 2 f) s).after s else s)
    else if d = 7 then (s.forN 4 (fun s i => s.wakeLane (18 + i))).forN 2 (fun s f =>
      if s.is fRXW_LINK_CTRL_LINK_EN f then (execRxLinkEnable (Fin.ofNat 2 f) s).after s else s) |>.spareUp
    else if d = 6 then s.govAsk .dram
    else if d = 4 then (s.forN 64 (fun s c => if s.clusterUsed c then s.govAsk (.cluster c) else s)).forN 2 (fun s f => s.zeroGaugesAt f s.nowT)
    else if d = 5 ∧ s.pwr.kept then
      let r := (s.unflag fBOLT_SCRUB_STATUS_BUSY).claim 7 [(28, true)]
      { (if r.2 then r.1.flag fBOLT_SCRUB_STATUS_BUSY else r.1.flag fBOLT_SCRUB_STATUS_SCRUB_WAIT) with pwr := { s.pwr with kept := false }, boltMt := 0 }
    else s
  if s.pwr.offAfter.testBit d then { s with pwr := { s.pwr with offAfter := withBit s.pwr.offAfter d false } }.saving d else s

/-- WAKE_DONE: a waking domain's ramp and configuration restore end; one with windows to reload is LOADING, others are ON (R544). -/
def execWakeDone (d : Fin 8) (s : State) : Out :=
  let d := d.val
  if s.domState d ≠ 2 then noEvent s
  else if (d = 3 ∨ d = 4) ∧ s.pwr.ever.testBit d then .next (s.setDom d 6)
  else .next (s.domUp d)

/-- WAKE: a WAKE pin edge asks for every enabled domain that is OFF, in ascending number, as PWR_REQ writes would (R628). Log: 81 DEDUCED. -/
def execWake (s : State) : Out := .next (s.forN 8 (fun s d => if 2 ≤ d ∧ s.domEn d ∧ s.domState d = 0 then s.reqOn d else s))

/-- Is PD_WARP on its way to ON? -/
def State.warpComes (s : State) : Bool := s.domState 2 == 1 || s.domState 2 == 2 || (s.domState 2 == 4 && s.pwr.onAfter.testBit 2)

/-- A wake that the engine asks for (R532, R558): PD_SHUTTLE's waits in the governor's queue behind PD_WARP's. Log: 81 DEDUCED. -/
def State.engineWake (s : State) (d : Nat) : State :=
  if d = 3 ∧ s.domEn 3 ∧ s.warpComes ∧ ¬ s.is fPWR_THERM_SHUTDOWN then
    let t := s.domState 3
    if t = 0 then (s.setReq 3 1).wakeAsk 3
    else if t = 4 then { s.setReq 3 1 with pwr := { s.pwr with onAfter := withBit s.pwr.onAfter 3 true } }
    else s.reqOn 3
  else s.reqOn d

/-- The engine wakes every enabled domain that is OFF, in ascending number (R532). -/
def State.wakeAll (s : State) : State := s.forN 8 (fun s d => if 2 ≤ d ∧ s.domEn d ∧ s.domState d = 0 then s.engineWake d else s)

/-! ### Temperature (R554 to R558) -/

/-- The shutdown of a domain (R557, R560): it saves and goes off; a wake in progress ends. -/
def State.shutDomain (s : State) (d : Nat) : State :=
  let t := s.domState d
  let s := { (s.govDrop (.domain d)).setReq d 0 with pwr := { s.pwr with offAfter := withBit s.pwr.offAfter d false, onAfter := withBit s.pwr.onAfter d false } }
  if t = 1 ∨ t = 2 then
    let r : State := s.setDom d 0
    if d = 5 ∧ r.pwr.kept then { r with pwr := { r.pwr with kept := false } }.dropQueues else r
  else if t = 5 then (s.setDom d 0).dropQueues
  else if t = 3 ∨ t = 6 then s.saving d
  else s

/-- Both builders emit zero samples from the first sample not yet computed; gate balls go idle (R246, R557). -/
def State.darken (s : State) : State := ((s.probeTo 0 s.nowT).probeTo 1 s.nowT).interlockGates

/-- T_J has reached 120 °C (R557). -/
def State.shutdown (s : State) (site tj : Nat) : State :=
  let s := s.darken
  let s := ((s.flag fPWR_THERM_SHUTDOWN).bump fPWR_COUNT_SHUTDOWNS).forceLamps
  let s := s.detect 22 site 0 (enc 14 (sgn 12 tj)) false s.nowT
  let s := s.forN 72 (fun s o => if s.oEnable o = 0 then s else s.enable o 0)
  [4, 3, 6, 5, 7, 2].foldl State.shutDomain s

/-- A site's pair of readings is taken (R554, R555): the mean of the pair, halves rounded up, or the higher reading under SITE_ERR. Log: 42 DEDUCED. -/
def State.siteMt (s : State) (i : Nat) (ab : Int × Int) : State :=
  let a := satS 12 ab.1
  let b := satS 12 ab.2
  let far := decide (48 < (a - b).natAbs)
  let err := s.bit fPWR_THERM_SITE_ERR i
  let n := if far then 0 else s.pwr.agree.getD i 0 + 1
  let s := if far ∧ ¬ err then
      ((s.flag fPWR_THERM_SENSOR_ERR).putBit fPWR_THERM_SITE_ERR i true).detect 19 i 0 (enc 14 (satS 14 (a - b))) true s.nowT
    else if err ∧ 16 ≤ n then s.putBit fPWR_THERM_SITE_ERR i false
    else s
  let s := { s with pwr := { s.pwr with agree := s.pwr.agree.set i n } }
  let t := if s.bit fPWR_THERM_SITE_ERR i then max a b else (a + b + 1) / 2
  ((s.put fPWR_TEMP_A (enc 12 a) i).put fPWR_TEMP_B (enc 12 b) i).put fPWR_TEMP_SITE (enc 12 t) i

/-- The temperature of a site. -/
def State.siteT (s : State) (i : Nat) : Int := s.geti fPWR_TEMP_SITE i

/-- The hottest site, the lowest number of several. -/
def State.hotSite (s : State) : Nat := (List.range 8).foldl (fun b i => if s.siteT b < s.siteT i then i else b) 0

/-- A fibre leaves the throttle (R556). -/
def State.unthrottle (s : State) (f : Nat) : State :=
  let m := withBit s.pwr.thr f false
  let s := { s with pwr := { s.pwr with thr := m } }
  if m = 0 then s.unflag fPWR_THERM_THROTTLE else s

/-- The read of every sensor once per mt, with the throttle and the shutdown (R554 to R557); a fibre without shots leaves the throttle at
the read. Log: 83 DEDUCED. -/
def State.thermMt (s : State) (temps : List (Int × Int)) : State :=
  let inj := s.injActs 20
  let s := match inj with | some x => s.setInj { x with left := x.left - 1 } | none => s
  let s := s.forN 8 (fun s i =>
    let ab := temps.getD i (0, 0)
    s.siteMt i (match inj with
      | some x => if x.unit = i ∧ 0 < x.left then (ab.1, ab.2 + sgn 12 (getBits x.value 24 12)) else ab
      | none => ab))
  let h := s.hotSite
  let tj := s.siteT h
  let s := (s.put fPWR_THERM_TJ (enc 12 tj)).put fPWR_THERM_HOT_SITE h
  let s := if 1920 ≤ tj ∧ ¬ s.is fPWR_THERM_SHUTDOWN then s.shutdown h (enc 12 tj) else s
  let s := if 1680 ≤ tj ∧ ¬ s.is fPWR_THERM_THROTTLE then
      { (s.flag fPWR_THERM_THROTTLE).bump fPWR_COUNT_THROTTLES with pwr := { s.pwr with thr := 3 } } else s
  let cool : Nat := if tj < 1632 then s.pwr.cool + 1 else 0
  let s := { s with pwr := { s.pwr with cool := cool } }
  if 4 ≤ cool then s.forN 2 (fun s f => if s.pwr.thr.testBit f ∧ ¬ s.feedRuns f then s.unthrottle f else s) else s

/-- THROTTLE_EXIT: at a shot boundary of fibre `f` after 4 reads below 102 °C (R556). Log: 83 DEDUCED. -/
def State.throttleShot (s : State) (f : Nat) : State := if 4 ≤ s.pwr.cool ∧ s.pwr.thr.testBit f then s.unthrottle f else s

/-- SD_CLEAR: SHUTDOWN clears below 95 °C and the enabled domains are asked for (R558). -/
def execSdClear (s : State) : Out :=
  if ¬ s.is fPWR_THERM_SHUTDOWN ∨ 1520 ≤ s.geti fPWR_THERM_TJ then .next s
  else .next ((s.unflag fPWR_THERM_SHUTDOWN).forN 8 (fun s d => if 2 ≤ d ∧ s.domEn d then s.engineWake d else s))

/-! ### Supplies (R559) -/

/-- SUPPLY_EXCURSION: a rail, 0 VDD_CORE, 1 PD_MGMT, else the domain's number, leaves its window for 200 ns, or is back inside (R559). -/
def execSupplyExcursion (rail : Fin 8) (outside : Bool) (s : State) : Out :=
  let r := rail.val
  if ¬ outside then .next { s with selv := { s.selv with rails := withBit s.selv.rails r false } }
  else if 2 ≤ r ∧ ¬ s.domOn r then noEvent s
  else
    let s := if r = 0 then s.flag fPWR_SUPPLY_CORE else s.putBit fPWR_SUPPLY_RAIL (r - 1) true
    .next ({ s.bump fPWR_COUNT_SUPPLY_EVENTS with selv := { s.selv with rails := withBit s.selv.rails r true } }.detect 21 r 0 0 false s.nowT)

end Sys2Proof.Machine
end

