-- ==== Sys2Proof/Machine/Write.lean ====
section
/-! DEFINITION. What a write does to the RW and RWL fields of a register word, whichever path, draft or restore it comes from (R5 to R9,
R11, R73, R118, R233, R244, R327, R376, R488, R497, R500). -/

namespace Sys2Proof.Machine

/-- PATH of CFG_BUSY_FIRST for an access path: 0 BAR, 1 Ethernet, 2 SPI, 3 JTAG, 4 chain, 5 firmware. -/
def pathCode (path : Nat) : Nat := if path = 0 ∨ path = 1 then 0 else path - 1

/-- CFG_BUSY of the block that owns a word (R118, R168, R218, R233, R327, R376). -/
def State.blockBusy (s : State) (a : Nat) : State :=
  if aWARP_CH_CTRL ≤ a ∧ a < aWARP_CH_CTRL + 64 then s.flag fWARP_CH_STATUS_CFG_BUSY (a - aWARP_CH_CTRL)
  else if aMOUT_CTRL ≤ a ∧ a < aMOUT_CTRL + 8 then s.flag fMOUT_STATUS_CFG_BUSY (a - aMOUT_CTRL)
  else if aMOUT_FMT ≤ a ∧ a < aMOUT_FMT + 8 then s.flag fMOUT_STATUS_CFG_BUSY (a - aMOUT_FMT)
  else if aSEQ_CFG ≤ a ∧ a < aSEQ_CFG + 2 then s.flag fSEQ_STATUS_CFG_BUSY (a - aSEQ_CFG)
  else if aPROBE_CFG ≤ a ∧ a < aPROBE_CFG + 2 then s.flag fPROBE_STATUS_CFG_BUSY (a - aPROBE_CFG)
  else if ownersAt a = [3] ∨ ownersAt a = [4] then s.flag fRXW_WEFT_STATUS_CFG_BUSY
  else if ownersAt a = [5] then s.flag fBOLT_SCRUB_STATUS_CFG_BUSY
  else s

/-- A write to an S field is ignored, sets CFG_BUSY and is counted; `is` are the islands that made it so (R500). -/
def State.cfgBusy (s : State) (path a : Nat) (is : List Nat) : State :=
  let s := (is.foldl (fun s i => s.putBit fCFG_BUSY_LOG_ISLAND i true) (s.blockBusy a)).bump fCFG_BUSY_LOG_COUNT
  if s.is fCFG_BUSY_FIRST_FIRST_VALID then s
  else ((s.flag fCFG_BUSY_FIRST_FIRST_VALID).put fCFG_BUSY_FIRST_PATH (pathCode path)).put fCFG_BUSY_FIRST_ADDR a

/-- Is a draft being applied (R482)? -/
def State.applying (s : State) : Bool := s.get fDRAFT_STATUS_STATE == 4

/-- Do the RWL fields of a word ignore writes (R11, R244)? Log: 38 DEDUCED. -/
def State.lockedWord (s : State) (a : Nat) : Bool := s.is fLIGHT_LOCK_CAP_LOCK && decide (aLIGHT_CFG ≤ a) && decide (a < aLIGHT_MAX_ON + 2)

/-- A write of a word that holds structure (R5, R73, R485, R488, R497, R500). Log: 73 DEDUCED. -/
def State.writeStruct (s : State) (path a : Nat) (w : Word) : State :=
  let fs := structFields a
  let old := s.structWord a
  if fs = [] ∨ s.lockedWord a ∨ fs.all (fun f => f.get w == f.get old) then s
  else
    let os := structOwners a
    let run := os.filter (fun i => !s.held i)
    let tgt := os.filter (fun i => s.applying && s.holds.draft.testBit i)
    if run ≠ [] then s.cfgBusy path a run
    else if tgt ≠ [] then s.cfgBusy path a tgt
    else (s.stage a w).flag fDRAFT_APPLIED_DIVERGED

/-- A write of a word's class-D fields goes to the shadow (R6); a MODE of 0b11 of a master output is ignored (R160). -/
def State.writeShadow (s : State) (a : Nat) (w : Word) : State :=
  let unused : Bool := decide (aMOUT_CTRL ≤ a) && decide (a < aMOUT_CTRL + 8) && fMOUT_CTRL_MODE.get w == 3
  let fs := (fieldsAt a).filter (fun f => f.cls == .d && f.acc == .rw && !(unused && f.lo == fMOUT_CTRL_MODE.lo))
  if fs = [] then s
  else { s with shadow := s.shadow.ins a (mergeFields fs (fun _ => true) (s.shadowWord a) w) }

/-- The word at `a` with its writable live fields taken from `w`. -/
def State.liveWord (s : State) (a : Nat) (w : Word) : Word :=
  mergeFields (fieldsAt a) (fun f => f.cls == .l && (f.acc == .rw || f.acc == .rwl)) (s.word a) w

/-- Does a write of `a` apply to edges from four wc after its acceptance (R138, R255)? -/
def datedWord (a : Nat) : Bool :=
  (decide (aHEDDLE_IN_CFG ≤ a) && decide (a < aHEDDLE_IN_CFG + 16)) || (decide (aHEDDLE_LINE_CFG ≤ a) && decide (a < aHEDDLE_LINE_CFG + 64)) ||
    (decide (aREED_IN_CFG ≤ a) && decide (a < aREED_IN_CFG + 16)) || (decide (aREED_IN_CAL ≤ a) && decide (a < aREED_IN_CAL + 16)) ||
    (decide (aREED_BIN ≤ a) && decide (a < aREED_BIN + 2048))

/-- Is `a` a word of a shape bank, the pattern store, the segment table or the sequence table, whose writes act from the second SHUTTLE cycle
(R217, R233)? -/
def seqTable (a : Nat) : Bool :=
  (decide (aSHAPE_BANK ≤ a) && decide (a < aSHAPE_BANK + 8192)) ||
  (decide (aPATTERN_STORE ≤ a) && decide (a < aPATTERN_STORE + 1048576)) || (decide (aSEGMENT_TABLE ≤ a) && decide (a < aSEGMENT_TABLE + 8192)) ||
    (decide (aSEQUENCE_TABLE ≤ a) && decide (a < aSEQUENCE_TABLE + 2048))

/-- REQ of PWR_REQ is written (R541): each domain's two bits ask for its state. -/
def State.pwrWrite (s : State) (path : Nat) (w : Word) : State :=
  s.forN 8 (fun s d =>
    let v := getBits w (20 + 2 * d) 2
    if v = 0 then s.reqOff d path
    else if v = 1 then s.reqOn d
    else if v = 2 then s.reqRetain d
    else s.pwrRefuse d 1)

/-- Where EN of a trigger input goes from 0 to 1 its prescale counter starts at zero (R137); a new PRESCALE reduces the counter from the wc it
applies from (R138). -/
def State.inEnabled (s : State) (i : Nat) (w : Word) : State :=
  let s := if fHEDDLE_IN_CFG_EN.get w = 1 ∧ ¬ s.is fHEDDLE_IN_CFG_EN i then { s with hin := s.hin.set i { nth s.hin i with cnt := 0 } } else s
  let p := fHEDDLE_IN_CFG_PRESCALE.get w
  if p = s.get fHEDDLE_IN_CFG_PRESCALE i then s
  else { s with hin := s.hin.set i { nth s.hin i with mods := (nth s.hin i).mods ++ [(s.now + 4, p)] } }

/-- A write of a word's live fields takes effect at once (R8), as the field states. -/
def State.writeLive (s : State) (path a : Nat) (w : Word) : State :=
  let s := s.bringUp a
  let new := s.liveWord a w
  if (fieldsAt a).all (fun f => f.cls != .l || (f.acc != .rw && f.acc != .rwl)) ∨ s.lockedWord a then s
  else if aWARP_CH_CTRL ≤ a ∧ a < aWARP_CH_CTRL + 64 then
    let o := a - aWARP_CH_CTRL
    ((s.setWord a (fWARP_CH_CTRL_ENABLE.set new (s.get fWARP_CH_CTRL_ENABLE o))).enable o (fWARP_CH_CTRL_ENABLE.get w)).checkLoad
  else if aMOUT_CTRL ≤ a ∧ a < aMOUT_CTRL + 8 then
    let m := a - aMOUT_CTRL
    ((s.setWord a (fMOUT_CTRL_ENABLE.set new (s.get fMOUT_CTRL_ENABLE m))).enable (64 + m) (fMOUT_CTRL_ENABLE.get w)).checkLoad
  else if a = aCLK_REF_CFG then (execPrefWrite (fCLK_REF_CFG_PREF.get w == 1) (s.setWord a new)).after s
  else if a = aPLLW_TRIM then (execTrimWrite (sgn 24 (fPLLW_TRIM_TRIM.get w)) s).after s
  else if aPROBE_LINK_CTRL ≤ a ∧ a < aPROBE_LINK_CTRL + 2 then
    let f := Fin.ofNat 2 (a - aPROBE_LINK_CTRL)
    if fPROBE_LINK_CTRL_LINK_EN.get w = s.get fPROBE_LINK_CTRL_LINK_EN f.val then s
    else if fPROBE_LINK_CTRL_LINK_EN.get w = 1 then (execTxLinkEnable f s).after s else (execTxLinkDisable f s).after s
  else if aRXW_LINK_CTRL ≤ a ∧ a < aRXW_LINK_CTRL + 2 then
    let f := Fin.ofNat 2 (a - aRXW_LINK_CTRL)
    if fRXW_LINK_CTRL_LINK_EN.get w = s.get fRXW_LINK_CTRL_LINK_EN f.val then s
    else if fRXW_LINK_CTRL_LINK_EN.get w = 1 then (execRxLinkEnable f s).after s else (execRxLinkDisable f s).after s
  else if aLIGHT_CFG ≤ a ∧ a < aLIGHT_MAX_ON + 2 then s.lightWrite ((a - aLIGHT_CFG) % 2) a new
  else if (recUnit a).isSome then s.recWrite a w
  else if aHOST_RING_RD ≤ a ∧ a < aHOST_RING_RD + 64 then
    (execRingRdWrite (Fin.ofNat 64 (a - aHOST_RING_RD)) (Fin.ofNat (2 ^ 30) (fHOST_RING_RD_RD.get w)) s).after s
  else if aAPPLY_GROUP ≤ a ∧ a < aAPPLY_GROUP + 256 then s.setWordFrom a new (s.now + 1)
  else if a = aPWR_REQ then s.pwrWrite path w
  else if a = aFAULT_PIN_EN ∨ a = aFAULT_CFG then (s.setWord a new).showPins
  else if aHEDDLE_IN_CFG ≤ a ∧ a < aHEDDLE_IN_CFG + 16 then
    (s.inEnabled (a - aHEDDLE_IN_CFG) new).setWordDated a new
  else if datedWord a then s.setWordDated a new
  else if seqTable a then (if aSHAPE_BANK ≤ a ∧ a < aSHAPE_BANK + 8192 then s.probesNow else s).setWordFrom a new (s.now / 4 * 4 + 8)
  else if aPROBE_CFG ≤ a ∧ a < aPROBE_CFG + 2 then s.probesNow.setWord a new
  else s.setWord a new

/-- A register write of the RW and RWL fields of a word (R9): structure, then shadows, then live fields. -/
def State.writeFields (s : State) (path a : Nat) (w : Word) : State := ((s.writeStruct path a w).writeShadow a w).writeLive path a w

end Sys2Proof.Machine
end

