-- ==== Sys2Proof/Machine/Draft.lean ====
section
/-! DEFINITION. Loading and applying a draft, the configuration scanner, and the reload of a domain's windows (R473, R480 to R493, R544). -/

namespace Sys2Proof.Machine

/-! ### Receiving (R480 to R483) -/

/-- STATE of the loader. -/
def State.drState (s : State) : Nat := s.get fDRAFT_STATUS_STATE

/-- The load ends in REJECTED (R482, R489). -/
def State.reject (s : State) (reason : Nat) : State :=
  ((s.put fDRAFT_STATUS_STATE 5).put fDRAFT_STATUS_REASON reason).bump fDRAFT_COUNT_REJECTS

/-- Staging is cleared. -/
def State.clearStage (s : State) (st : Nat) : State :=
  ((((({ s with draft := { s.draft with bytes := [], applied := false } }.put fDRAFT_STATUS_STATE st).put fDRAFT_STATUS_REASON 0).put
    fDRAFT_STATUS_RECEIVED 0).put fDRAFT_FAIL_FAIL_ADDR 0).put fDRAFT_FAIL_FAIL_ISLAND 0).put fDRAFT_FAIL_OFS_OFS 0

/-- DRAFT_BEGIN: a load starts; it wakes PD_MEM (R480, R481, R493). -/
def execDraftBegin (s : State) : Out :=
  if s.drState = 4 ∨ s.draft.slot.isSome then .next (s.flag fDRAFT_CTRL_BUSY)
  else
    let s := s.clearStage 1
    .next (if s.domState 6 = 3 then s else s.reqOn 6)

/-- DRAFT_ABORT: the staged draft is discarded; during VERIFYING the load is rejected ABORTED (R482, R489, R493). -/
def execDraftAbort (s : State) : Out :=
  let t := s.drState
  if t = 4 then .next (s.flag fDRAFT_CTRL_BUSY)
  else if t = 2 then .next (s.reject 0x16)
  else if t = 1 ∨ t = 3 ∨ t = 5 then .next (s.clearStage 0)
  else .next s

/-- Four bytes arrive (R480, R483). Log: 69 DEDUCED. -/
def State.draftBytes (s : State) (w : Word) : State :=
  if s.drState ≠ 1 then s.flag fDRAFT_CTRL_DATA_ERR
  else
    let bs := s.draft.bytes ++ (List.range 4).map (fun i => getBits w (8 * i) 8)
    let d : DraftSt := { s.draft with bytes := bs }
    let s := { s with draft := d }.put fDRAFT_STATUS_RECEIVED bs.length
    match formatCheck bs with
    | some e => (s.reject e.1).put fDRAFT_FAIL_OFS_OFS e.2
    | none => if 32 ≤ bs.length ∧ drLength bs ≤ bs.length then s.put fDRAFT_STATUS_STATE 2 else s

/-- DRAFT_DATA: a write of DRAFT_DATA, or for SRC 1 (`none`) a committed word of the source queue; receipt waits until DRAM is READY (R480, R481). Log: 69 DEDUCED. -/
def execDraftData (w : Option Word) (s : State) : Out :=
  if s.drState = 1 ∧ ¬ s.is fHIST_MEM_STATUS_READY then noEvent s
  else match w with
    | some w => .next (if s.is fDRAFT_CTRL_SRC then s.flag fDRAFT_CTRL_DATA_ERR else s.draftBytes w)
    | none =>
      let q := s.get fDRAFT_CTRL_QUEUE
      if ¬ s.is fDRAFT_CTRL_SRC ∨ s.get fBOLT_Q_CFG_CONS q ≠ 5 ∨ s.get fBOLT_Q_CFG_CONS_SEL q ≠ 0xFF ∨
          s.visible (s.queue q) = 0 then noEvent s
      else match s.popWord q with
        | (none, _) => noEvent s
        | (some b, t) => .next (t.draftBytes b.w)

/-- DRAFT_VERIFY_DONE: file CRC, signature and load checks end (R478, R479, R482, R484). -/
def execDraftVerifyDone (s : State) : Out :=
  if s.drState ≠ 2 then noEvent s
  else match trailerCheck s.draft.bytes with
    | some e => .next ((s.reject e.1).put fDRAFT_FAIL_OFS_OFS e.2)
    | none =>
      match s.loadCheck s.draft.bytes with
      | some e => .next (((s.reject e.1).put fDRAFT_FAIL_FAIL_ADDR e.2).put fDRAFT_FAIL_FAIL_ISLAND ((ownersAt e.2).headD 0))
      | none => .next (s.put fDRAFT_STATUS_STATE 3)

/-! ### Applying (R485, R486) -/

/-- DRAFT_APPLY: a VERIFIED draft holds every island in TARGETS; any other APPLY is ignored (R485, R493). -/
def execDraftApply (s : State) : Out :=
  if s.drState ≠ 3 then .next (s.flag fDRAFT_CTRL_BUSY)
  else .next { s.put fDRAFT_STATUS_STATE 4 with holds := { s.holds with draft := drTargets s.draft.bytes } }

/-- Does an address lie in LIGHT? Log: 38 DEDUCED. -/
def lightWord (a : Nat) : Bool := a / 65536 == 0x16

/-- One write of a frame during an apply: structure is staged, tables are written, initial values take their class (R473, R485, R486). -/
def State.frameWrite (s : State) (ty a : Nat) (w : Word) : State :=
  if lightWord a ∧ s.is fLIGHT_LOCK_CAP_LOCK then s.flag fDRAFT_APPLIED_LIGHT_SKIP
  else if ty = 1 then s.stage a w
  else if ty = 2 then (s.writeShadow a w).writeLive 5 a w
  else if (regAt a).isSome then s.setWord a w else s

/-- A whole draft first sets every RW S field and every draft-restored window word to zero (R485). -/
def State.zeroStage (s : State) : State :=
  s.zeroAddrs.foldl (fun s a =>
    let old := s.structWord a
    if windowDraft a then s.setWord a 0
    else if zeroWord a old = old then s
    else s.stage a (zeroWord a old)) s

/-- The frames of a draft are written in file order. -/
def State.framesWrite (s : State) (bs : List Nat) : State :=
  (draftFrames bs).foldl (fun s f =>
    (List.range f.count).foldl (fun s i => s.frameWrite f.typ (f.addr + i) (frameWord bs f.ofs i)) s) s

/-- The fibre whose apply point moves the shadow of a result word. -/
def State.shadowFibre (s : State) (a : Nat) : Option Nat :=
  if aRXW_SHOT_CFG ≤ a ∧ a < aRXW_ZERO_OFS + 2 then some ((a - aRXW_SHOT_CFG) % 2)
  else if aRES_GAUGE_POS ≤ a ∧ a < aRES_GAUGE_CTRL + 2 then some ((a - aRES_GAUGE_POS) % 2)
  else if aRES_STREAM_WIN ≤ a ∧ a < aRES_STREAM_WIN + 16 then some (s.get fRES_STREAM_CFG_FIBRE (a - aRES_STREAM_WIN))
  else if aRES_SPEC_CFG ≤ a ∧ a < aRES_SPEC_COEF + 2 then some ((a - aRES_SPEC_CFG) % 2)
  else if aRES_DET_CFG ≤ a ∧ a < aRES_DET_ACT + 32 then some ((a - aRES_DET_CFG) / 16 % 2)
  else none

/-- A class-D word of a draft is applied at its owner's apply point, as an APPLY would (R485, R501). Log: 70 DEDUCED. -/
def State.applyUnit (s : State) (a : Nat) : State :=
  if aWARP_CH_CTRL ≤ a ∧ a < aWARP_CH_BURST + 64 then s.requestApply ((a - aWARP_CH_CTRL) % 64)
  else if aMOUT_CTRL ≤ a ∧ a < aMOUT_BURST + 8 then
    let m := (a - aMOUT_CTRL) % 8
    if s.oMode (64 + m) = 5 ∧ (s.out (64 + m)).act.isNone ∧ (s.out (64 + m)).gridFrom.isNone then s.applyOut (64 + m) else s.requestApply (64 + m)
  else if aSEQ_MODE ≤ a ∧ a < aSEQ_ITEM_PER + 2 then
    let q := (a - aSEQ_MODE) % 2
    if s.seqRunning q then s.flag fSEQ_STATUS_APPLY_WAIT q else s.seqApply q
  else if aPROBE_CFG ≤ a ∧ a < aPROBE_CFG + 2 ∨ aPROBE_TONE_CTRL ≤ a ∧ a < aPROBE_TONE_FTW_HI + 32 then
    let f := if a < aPROBE_CFG + 2 then a - aPROBE_CFG else (a - aPROBE_TONE_CTRL) / 16 % 2
    if s.feedRuns f then s.flag fPROBE_STATUS_APPLY_WAIT f else s.applyProbe f s.nowT
  else if aLAMP_PULSE_A ≤ a ∧ a < aLAMP_PULSE_B + 32 then s.flag fLAMP_APPLY_APPLY_WAIT
  else match s.shadowFibre a with
    | some f => if s.feedRuns f then s.setRx f { s.rxOf f with applyWait := true } else s.applyRes f s.nowT
    | none => s

/-- GO in CLK_RETUNE at the release of WARP, when the draft has changed the plan (R486). -/
def State.draftRetune (s : State) (ws : List Nat) : State :=
  let wrote : Bool := ws.contains aPLLW_CFG || ws.contains aPLLW_FRAC
  if ¬ wrote ∨ (s.shadowWord aPLLW_CFG = s.word aPLLW_CFG ∧ s.shadowWord aPLLW_FRAC = s.word aPLLW_FRAC) then s
  else
    let bad := s.retuneRefusal != 0
    let s := (execRetuneGo s).after s
    if bad then s.flag fDRAFT_APPLIED_RETUNE_REFUSED else s

/-- The derived fields (R322, R485). Log: 70 DEDUCED. -/
def State.derive (s : State) (weft : Bool) : State :=
  let s := s.setWord aTB_WC_PER_MT (s.wcPerMtWord (s.word aPLLW_CFG) (s.word aPLLW_FRAC))
  if weft then s.forN 64 (fun s c => s.setWord (aRXW_CLUSTER + c) (s.clusterWord c)) else s

/-- Island `n` leaves the apply: it is released unless the host holds it, and applies the shadows the draft wrote to words `ws` (R485, R498). Log: 70 DEDUCED. -/
def State.applyRelease (s : State) (ws : List Nat) (n : Nat) : State :=
  let s := { s with holds := { s.holds with draft := withBit s.holds.draft n false } }
  let s := if s.holderOf n then s else s.releaseIsland n
  let mine := ws.filter (fun a => (ownersAt a).headD 9 == n)
  let s := mine.foldl (fun s a => if (s.shadow.find a).isSome then s.applyUnit a else s) s
  if n = 0 then s.draftRetune ws else s

/-- What DRAFT_APPLIED shows of an applied draft (R485). -/
def State.showApplied (s : State) (bs : List Nat) : State :=
  let s := ((s.put fDRAFT_APPLIED_TARGETS (drTargets bs)).put fDRAFT_APPLIED_PARTIAL (b2n (drPartial bs))).put fDRAFT_APPLIED_KEY_SLOT (drKeySlot bs)
  let s := (s.put fDRAFT_APPLIED_UNSIGNED (b2n (drUnsigned bs))).put fDRAFT_APPLIED_ID_DRAFT_ID (drId bs)
  if drPartial bs then s else s.unflag fDRAFT_APPLIED_DIVERGED

/-- Clusters that a new graph enables ask the governor for their start (R547, R548). -/
def State.wakeClusters (s : State) (old : State) : State :=
  if s.domState 4 ≠ 3 then s
  else s.forN 64 (fun s c => if s.clusterUsed c ∧ ¬ old.clusterUsed c then s.govAsk (.cluster c) else s)

/-- DRAFT_APPLY_RUN: with every target held, steps 2 to 6 of R485 run, once no target's domain is LOADING (R560); a waiting timebase load is
checked again (R39). Log: 70 DEDUCED. -/
def execDraftApplyRun (s : State) : Out :=
  let bs := s.draft.bytes
  let t := drTargets bs
  if s.drState ≠ 4 ∨ ¬ (List.range 9).all (fun i => !t.testBit i || s.held i) ∨
      (List.range 8).any (fun d => s.domState d == 6 && (domIslands d).any (fun i => t.testBit i)) then noEvent s
  else
    let old := s
    let s := if drPartial bs then s else s.zeroStage
    let s := (s.framesWrite bs).takeBinds bs
    let ws := (draftWrites bs 2).map (·.1)
    let s := (List.range 9).foldl (fun s n => if t.testBit n then s.applyRelease ws n else s) s
    let s := ((s.derive (t.testBit 4)).wakeClusters old).showApplied bs
    let s := (s.bump fDRAFT_COUNT_LOADS).put fDRAFT_STATUS_STATE 0
    let d : DraftSt := { s.draft with applied := true, saved := false }
    let s := { s with draft := d }
    .next (if drCommit bs then s.startCommit else s).checkLoad

/-! ### Scanning (R490) -/

/-- CONFIG_SCAN: a pass over every island that is not held compares its structure with the golden value. Log: 72 DEDUCED. -/
def execConfigScan (s : State) : Out :=
  if ¬ s.is fDRAFT_SCAN_SCAN_EN then noEvent s
  else
    let bad := (List.range 9).filter (fun i => !s.held i && s.crcBad i)
    let s := bad.foldl (fun s i =>
      let s := if s.is fDRAFT_SCAN_CRC_FAIL then s else (s.flag fDRAFT_SCAN_CRC_FAIL).put fDRAFT_SCAN_FAIL_ISLAND i
      s.report 8 i 0) s
    .next (s.bump fDRAFT_SCAN_PASSES)

/-! ### Windows after a wake (R544) -/

/-- The committed chain, as far as it is whole. -/
def State.committed (s : State) : List Elem :=
  match s.newestSlot with
  | some i => (nth s.bobbin.drafts i).takeWhile (fun e => e.ok)
  | none => []

/-- Is a word one of the windows of domain `d` that a wake reloads: its tables and structure windows? -/
def reloadWord (d a : Nat) : Bool := (tableWindow a || structWindow a) && domAt a == d && (regAt a).isSome

/-- The windows of domain `d` take the committed chain's content (R544). -/
def State.reloadWindows (s : State) (d : Nat) : State :=
  let s := { s with regs := s.regs.filter (fun e => !reloadWord d e.1) }
  s.committed.foldl (fun s e =>
    let s := if drPartial e.bytes then s else { s with regs := s.regs.filter (fun e => !reloadWord d e.1) }
    ((draftWrites e.bytes 1 ++ draftWrites e.bytes 3).filter (fun x => reloadWord d x.1)).foldl (fun s x => s.setWord x.1 x.2) s) s

/-- TABLE_RELOAD_DONE: the windows of a LOADING domain are reloaded and it becomes ON (R544). -/
def execTableReloadDone (d : Fin 8) (s : State) : Out :=
  if s.domState d.val ≠ 6 then noEvent s
  else
    let s := s.reloadWindows d.val
    let s := if s.draft.saved ∧ ¬ s.is fDRAFT_APPLIED_DIVERGED then s else s.flag fPWR_STATE_TABLE_STALE
    .next (s.domUp d.val)

end Sys2Proof.Machine
end

