-- ==== Sys2Proof/Machine/Mgmt.lean ====
section
/-! DEFINITION. The management processor: firmware images and boots, MGMT resets, the watchdog, the mailbox, checkpoints and calibration-set
commits (R512 to R528). -/

namespace Sys2Proof.Machine

/-- The state with the management processor's own part replaced. -/
def State.setMgmt (s : State) (m : MgmtSt) : State := { s with mgmt := m }

/-- FW_STATE: 0 BARE, 1 LOADING, 2 RUNNING, 3 RESETTING. -/
def State.fwState (s : State) : Nat := s.get fMGMT_STATUS_FW_STATE

/-! ### Images (R515, R516) -/

/-- RESULT of the checks of an image: 1 passes (R479, R515, R516). Log: 67 DESIGN CHOICE. -/
def imageCheck (bs : List Nat) : Nat :=
  let im := leAt bs 24 4
  let dm := leAt bs 28 4
  let t := trOfs bs
  if leAt bs 0 4 ≠ 0x57465650 ∨ leAt bs 4 1 ≠ 0 ∨ leAt bs 5 1 ≠ 1 ∨ leAt bs 6 2 ≠ 0x2436 ∨ ¬ (leAt bs 8 2).testBit 2 ∨ leAt bs 10 2 ≠ 0 ∨
      im % 8 ≠ 0 ∨ 1048576 < im ∨ dm % 8 ≠ 0 ∨ 524288 < dm ∨ drLength bs ≠ 168 + im + dm ∨ bs.length ≠ drLength bs ∨
      (List.range 28).any (fun i => leAt bs (32 + i) 1 != 0) ∨ leAt bs 60 4 ≠ crc32c (bs.take 60) ∨
      trCommit bs &&& 0xFFFFFF8F ≠ 0 ∨ leAt bs (t + 4) 4 ≠ crc32c (bs.take (t + 4)) then 3
  else match trailerCheck bs with
    | none => 1
    | some (13, _) => 4
    | some (14, _) => 5
    | some (15, _) => 6
    | some _ => 3

/-- The valid image of firmware slot `i`. -/
def State.image (s : State) (i : Nat) : Option Elem :=
  match s.bobbin.fw.getD i none with
  | some e => if e.ok ∧ imageCheck e.bytes = 1 then some e else none
  | none => none

/-- The slot of the newest valid image. -/
def State.newestImage (s : State) : Option Nat :=
  match s.image 0, s.image 1 with
  | some a, some b => some (if a.seq < b.seq then 1 else 0)
  | some _, none => some 0
  | none, some _ => some 1
  | none, none => none

/-- FW_BEGIN: an image write starts, or is refused without activity 0xB (R516). Log: 77 DESIGN CHOICE. -/
def execFwBegin (s : State) : Out :=
  if ¬ s.actHeld 11 then .next (s.put fMGMT_FW_CTRL_RESULT 2)
  else
    let i := match s.newestImage with | some 0 => 1 | _ => 0
    let b : BobbinSt := { s.bobbin with fw := s.bobbin.fw.set i none }
    let s := { s with bobbin := b }.setMgmt { s.mgmt with image := [] }
    .next ((((s.put fMGMT_FW_CTRL_STATE 1).put fMGMT_FW_CTRL_RESULT 0).put fMGMT_FW_CTRL_SLOT i).put fMGMT_FW_CTRL_RECEIVED 0)

/-- An image write ends with RESULT `r`. -/
def State.fwEnd (s : State) (r : Nat) : State := (s.put fMGMT_FW_CTRL_STATE 0).put fMGMT_FW_CTRL_RESULT r

/-- FW_ABORT: an image write ends ABORTED (R516). -/
def execFwAbort (s : State) : Out := .next (if s.get fMGMT_FW_CTRL_STATE = 0 then s else s.fwEnd 8)

/-- FW_DATA: four bytes of an image arrive; sectors are erased as they are needed (R516). Log: 77 DESIGN CHOICE. -/
def execFwData (w : Word) (s : State) : Out :=
  if s.get fMGMT_FW_CTRL_STATE ≠ 1 then .next s
  else
    let n := s.mgmt.image.length
    let bs := s.mgmt.image ++ (List.range 4).map (fun i => getBits w (8 * i) 8)
    let s := (s.setMgmt { s.mgmt with image := bs }).put fMGMT_FW_CTRL_RECEIVED (n + 4)
    let first := if n = 0 then 0 else (16 + n + 65535) / 65536
    let s := s.erasedAll ((List.range ((16 + n + 4 + 65535) / 65536 - first)).map (fun k => 32 * s.get fMGMT_FW_CTRL_SLOT + first + k))
    .next (if 2097152 < 16 + n + 8 then s.fwEnd 3 else if 16 ≤ n + 4 ∧ drLength bs ≤ n + 4 then s.put fMGMT_FW_CTRL_STATE 2 else s)

/-- FW_WRITE_DONE: the image is checked, its element header written, and every byte read back (R516, R517, R592). -/
def execFwWriteDone (ok : Bool) (s : State) : Out :=
  if s.get fMGMT_FW_CTRL_STATE ≠ 2 then noEvent s
  else
    let r := imageCheck s.mgmt.image
    if r ≠ 1 then .next (s.fwEnd r).ageRecord
    else if ¬ ok then .next (s.fwEnd 7).ageRecord
    else
      let i := s.get fMGMT_FW_CTRL_SLOT
      let seq := match s.bobbin.fw.getD (1 - i) none with | some e => (e.seq + 1) % 2 ^ 32 | none => 1
      let b : BobbinSt := { s.bobbin with fw := s.bobbin.fw.set i (some ⟨seq, s.mgmt.image, true⟩) }
      .next (({ s with bobbin := b }.fwEnd 1).put fMGMT_STATUS_FW_AVOID 0).ageRecord

/-! ### Boots and resets (R515, R517, R518, R528) -/

/-- An image is loaded from slot `i`. -/
def State.loadImage (s : State) (i : Nat) : State :=
  let s := (s.put fMGMT_STATUS_FW_STATE 2).put fMGMT_STATUS_FW_SLOT i
  s.put fMGMT_STATUS_BOOT_FAILS (min 3 (s.get fMGMT_STATUS_BOOT_FAILS + 1))

/-- The choice of an image at a boot: bare, the newest valid slot, the slot that FW_AVOID leaves, or the fallback (R515, R517, R518). Log: 75 DEDUCED. -/
def State.boot (s : State) : State :=
  let bare := s.put fMGMT_STATUS_FW_STATE 0
  let av := s.get fMGMT_STATUS_FW_AVOID
  if ¬ s.is fMGMT_CFG_FW_EN then bare
  else if av ≠ 0 then (if (s.image (2 - av)).isSome then s.loadImage (2 - av) else bare)
  else match s.newestImage with
    | none => bare
    | some i =>
      if s.get fMGMT_STATUS_BOOT_FAILS < 3 then s.loadImage i
      else if (s.image (1 - i)).isSome then
        (((s.flag fMGMT_STATUS_FW_FALLBACK).put fMGMT_STATUS_BOOT_FAILS 0).put fMGMT_STATUS_FW_AVOID (i + 1)).loadImage (1 - i)
      else bare

/-- A mailbox command is answered (R519, R520). -/
def State.mbxAnswer (s : State) (status : Nat) (ws : List Word) : State :=
  let s := ((s.flag fMGMT_MBX_RSP_DONE).put fMGMT_MBX_RSP_TAG (s.get fMGMT_MBX_CMD_TAG)).put fMGMT_MBX_RSP_STATUS status
  let s := (s.put fMGMT_MBX_RSP_DCOUNT (min 8 ws.length)).forN (min 8 ws.length) (fun s i => s.setWord (aMGMT_MBX_DATA + i) (ws.getD i 0))
  s.setMgmt { s.mgmt with mbx := none, tries := 0, running := false }

/-- Registers of the mailbox and the watchdog return to their reset words (R528). Log: 76 DEDUCED. -/
def State.mgmtRegs (s : State) : State :=
  { s with regs := s.regs.filter (fun e => !(e.1 == aMGMT_MBX_CMD || e.1 == aMGMT_WDT || (decide (aMGMT_MBX_ARG ≤ e.1) && decide (e.1 < aMGMT_MBX_DATA + 8)))) }

/-- A MGMT reset begins: cores, memories, mailbox, watchdog, and activities claimed by firmware; writes it cuts short end (R519, R525, R528,
R538). Log: 76 DEDUCED. -/
def State.mgmtReset (s : State) (cause : Nat) : State :=
  let cmd := s.mgmt.mbx
  let tag := s.get fMGMT_MBX_CMD_TAG
  let s := if s.is fMGMT_CKPT_BUSY then ((s.unflag fMGMT_CKPT_BUSY).flag fMGMT_CKPT_FAIL).put fMGMT_CKPT_CAUSE 3 else s
  let s := if s.is fMGMT_CALSET_BUSY then ((s.unflag fMGMT_CALSET_BUSY).flag fMGMT_CALSET_FAIL).put fMGMT_CALSET_CAUSE 3 else s
  let s := if s.get fMGMT_FW_CTRL_STATE ≠ 0 then (s.fwEnd 8).release 11 else s
  let s := (bitList s.mgmt.claims 16).foldl State.release s
  let s := s.mgmtRegs.setMgmt { s.mgmt with image := [], wdt := 0, mbx := none, tries := 0, running := false, claims := 0 }
  let s := if cmd.isSome then ((s.flag fMGMT_MBX_RSP_DONE).put fMGMT_MBX_RSP_TAG tag).put fMGMT_MBX_RSP_STATUS 5 else s
  let s := (s.unflag fMGMT_STATUS_FW_FALLBACK).put fMGMT_STATUS_RESET_CAUSE cause
  (s.put fMGMT_STATUS_FW_STATE 3).bump fMGMT_ERR_MGMT_RESETS

/-- LOCKSTEP: a mismatch of the cores is reported and resets MGMT (R512). -/
def execLockstep (s : State) : Out := .next (((s.flag fMGMT_ERR_LOCKSTEP).report 17 0 0).mgmtReset 2)

/-- MGMT_DBE: a double-bit error of a MGMT memory is reported and resets MGMT; SUB 2 instruction, 3 data memory (R513, R573). -/
def execMgmtDbe (data : Bool) (s : State) : Out := .next (((s.flag fMGMT_ERR_DBE).reportMem (if data then 3 else 2)).mgmtReset 3)

/-- MGMT_SCRUB_PASS: the scrubber corrects `sbe` words and finds double-bit errors: 2 instruction, 3 data memory, 4 table windows (R490,
R513). -/
def execMgmtScrubPass (sbe : Nat) (dbe : Option (Fin 3)) (s : State) : Out :=
  let s := s.bump fMGMT_ERR_SBE_COUNT 0 sbe
  .next (match dbe with
    | none => s
    | some i =>
      if i.val = 2 then s.reportMem 4
      else ((s.flag fMGMT_ERR_DBE).reportMem (2 + i.val)).mgmtReset 3)

/-- KICK: the watchdog's count restarts, unless KICK_BLOCK is injected (R514, R583). -/
def execKick (s : State) : Out :=
  .next (if (s.injActs 0x13).any (fun x => decide (0 < x.left)) then s else s.setMgmt { s.mgmt with wdt := 0 })

/-- PERIOD of the watchdog in mt; 0 acts as 1 (R514). -/
def State.wdtPeriod (s : State) : Nat := max 1 (s.get fMGMT_WDT_PERIOD)

/-- The watchdog counts an mt while it runs; a KICK_BLOCK uses one of its mt (R514, R583). -/
def State.wdtMt (s : State) : State :=
  let s := match s.injActs 0x13 with | some x => s.setInj { x with left := x.left - 1 } | none => s
  if s.fwState = 2 ∧ s.is fMGMT_WDT_EN then s.setMgmt { s.mgmt with wdt := s.mgmt.wdt + 1 } else s.setMgmt { s.mgmt with wdt := 0 }

/-- WATCHDOG_EXPIRY: PERIOD mt without a KICK; a hang is reported and MGMT resets (R514). EXPIRED stands after the reset. Log: 76 DEDUCED. -/
def execWatchdogExpiry (s : State) : Out :=
  if s.fwState ≠ 2 ∨ ¬ s.is fMGMT_WDT_EN ∨ s.mgmt.wdt < s.wdtPeriod then noEvent s
  else .next (((s.report 18 0 0).mgmtReset 4).flag fMGMT_WDT_EXPIRED)

/-- REBOOT: REBOOT in MGMT_STATUS causes a MGMT reset (R528). -/
def execReboot (s : State) : Out := .next (s.mgmtReset 5)

/-- BOOT_OK: BOOT_FAILS clears; FW_AVOID is kept (R517, R538). -/
def execBootOk (s : State) : Out := .next (s.put fMGMT_STATUS_BOOT_FAILS 0)

/-! ### Checkpoints (R524 to R526) -/

/-- The words a checkpoint records, ascending (R524). Log: 79 DEDUCED. -/
def retAddrs : List Nat := sortNat ((allRows.filter (fun r => r.fields.any (fun f => f.rst == .ret))).flatMap RegRow.addrs)

/-- The newest valid checkpoint (R526). -/
def State.newestCkpt (s : State) : Option CkptRec :=
  (s.bobbin.ckpts.filter (fun r => r.ok)).foldl (fun b r => match b with | some x => if x.seq < r.seq then some r else some x | none => some r) none

/-- A checkpoint starts: every word is read and the next ring sector is erased (R525). Log: 79 DEDUCED. -/
def State.ckptStart (s : State) : State :=
  let next := match s.newestCkpt with | some r => (r.sector + 1) % 128 | none => 0
  let seq := ((s.bobbin.ckpts.map (·.seq)).foldl max 0 + 1) % 2 ^ 32
  let base := match s.newestSlot with | some i => (match s.slotHead i with | some e => e.seq | none => 0) | none => 0
  let dseq := match s.newestSlot with
    | some i => (match ((nth s.bobbin.drafts i).takeWhile (fun e => e.ok)).getLast? with | some e => e.seq | none => 0)
    | none => 0
  let ws := retAddrs.map (fun a => (a, s.structWord a))
  let r : CkptRec := ⟨next, seq, base, dseq, s.get fTB_MT_COUNT_MT_COUNT % 2 ^ 32, ws, false,
    s.voters.zipIdx.map (fun e => (List.range 4).filter (fun g => e.1.faulty.contains g || s.role e.2 g == 6))⟩
  let b : BobbinSt := { s.bobbin with ckpts := s.bobbin.ckpts.filter (fun x => x.sector != next) ++ [r] }
  (({ s with bobbin := b }.erased (832 + next)).flag fMGMT_CKPT_BUSY).put fMGMT_CKPT_ENTRIES ws.length

/-- A checkpoint ends: the record is read back (R525, R592). -/
def State.ckptEnd (s : State) (ok : Bool) : State :=
  let n := s.bobbin.ckpts.length
  let b : BobbinSt := { s.bobbin with ckpts := s.bobbin.ckpts.zipIdx.map (fun e => if e.2 + 1 = n then { e.1 with ok := ok } else e.1) }
  let s := { s with bobbin := b }.unflag fMGMT_CKPT_BUSY
  let seq := match s.bobbin.ckpts.getLast? with | some r => r.seq | none => 0
  (if ok then ((s.flag fMGMT_CKPT_DONE).put fMGMT_CKPT_CAUSE 0).put fMGMT_CKPT_SEQ_SEQ seq
    else (s.flag fMGMT_CKPT_FAIL).put fMGMT_CKPT_CAUSE 2).ageRecord

/-- CKPT_GO: a checkpoint is taken, or refused without activity 0x9 (R525). -/
def execCkptGo (s : State) : Out :=
  if ¬ s.actHeld 9 then .next ((s.flag fMGMT_CKPT_FAIL).put fMGMT_CKPT_CAUSE 1)
  else if s.is fMGMT_CKPT_BUSY then .next s
  else .next s.ckptStart

/-- CKPT_DONE: the record is programmed and read back (R525). -/
def execCkptDone (ok : Bool) (s : State) : Out := if s.is fMGMT_CKPT_BUSY then .next (s.ckptEnd ok) else noEvent s

/-! ### Calibration sets (R527) -/

/-- Is a record of a unit valid? -/
def State.recValid (s : State) (u r : Nat) : Bool := bitOf (s.word (recHdr u r)) 35

/-- The words of every valid record. -/
def State.calWords (s : State) : List (Nat × Word) :=
  s.regs.filter (fun e => match recUnit e.1 with | some (u, r, _) => s.recValid u r | none => false)

/-- Bytes of a calibration set with every valid record. -/
def State.calBytes (s : State) : Nat :=
  32 + ((List.range 129).map (fun u => ((List.range 8).filter (s.recValid u)).length * (8 + (if u < 104 then 1800 else if u < 120 then 208 else 16)))).sum

/-- The set that holds the newest valid copy. -/
def State.newestSet (s : State) : Option Nat :=
  let ok := fun (o : Option CalSetRec) => match o with | some x => if x.ok then some x.seq else none | none => none
  match ok (s.bobbin.cals.getD 0 none), ok (s.bobbin.cals.getD 1 none) with
  | some a, some b => some (if a < b then 1 else 0)
  | some _, none => some 0
  | none, some _ => some 1
  | none, none => none

/-- A calibration-set commit starts: the older set is erased. -/
def State.calsetStart (s : State) : State :=
  let i := match s.newestSet with | some 0 => 1 | _ => 0
  let seq := match s.bobbin.cals.getD (1 - i) none with | some x => (x.seq + 1) % 2 ^ 32 | none => 1
  let n := (s.calBytes + 65535) / 65536
  let b : BobbinSt := { s.bobbin with cals := s.bobbin.cals.set i (some ⟨seq, s.calWords, false⟩) }
  ({ s with bobbin := b }.erasedAll ((List.range n).map (fun k => 960 + 24 * i + k))).flag fMGMT_CALSET_BUSY

/-- A calibration-set commit ends: the set is read back (R527, R592). -/
def State.calsetEnd (s : State) (ok : Bool) : State :=
  let i := match s.newestSet with | some 0 => 1 | _ => 0
  let b : BobbinSt := { s.bobbin with cals := s.bobbin.cals.set i ((s.bobbin.cals.getD i none).map (fun x => { x with ok := ok })) }
  let s := { s with bobbin := b }.unflag fMGMT_CALSET_BUSY
  (if ok then ((s.flag fMGMT_CALSET_DONE).put fMGMT_CALSET_CAUSE 0).put fMGMT_CALSET_SET i
    else (s.flag fMGMT_CALSET_FAIL).put fMGMT_CALSET_CAUSE 2).ageRecord

/-- CALSET_GO: a calibration set is committed, or refused (R294, R527). -/
def execCalsetGo (s : State) : Out :=
  if ¬ s.actHeld 10 then .next ((s.flag fMGMT_CALSET_FAIL).put fMGMT_CALSET_CAUSE 1)
  else if s.is fCAL_CFG_STORE then .next ((s.flag fMGMT_CALSET_FAIL).put fMGMT_CALSET_CAUSE 4)
  else if s.is fMGMT_CALSET_BUSY then .next s
  else .next s.calsetStart

/-- CALSET_DONE: the calibration-set commit completes or fails (R527). -/
def execCalsetDone (ok : Bool) (s : State) : Out := if s.is fMGMT_CALSET_BUSY then .next (s.calsetEnd ok) else noEvent s

/-! ### The mailbox (R519, R520, R597) -/

/-- MBX_GO: a command is issued; without running firmware it is answered NO_FW at once (R519). -/
def execMbxGo (op tag : Fin 256) (s : State) : Out :=
  if s.mgmt.mbx.isSome then .next (s.flag fMGMT_MBX_CMD_MBX_BUSY)
  else
    let s := (s.put fMGMT_MBX_CMD_OPCODE op.val).put fMGMT_MBX_CMD_TAG tag.val
    let m : MgmtSt := { s.mgmt with mbx := some (op.val, (List.range 8).map (fun i => s.word (aMGMT_MBX_ARG + i))), tries := 0, running := false }
    let s := s.setMgmt m
    .next (if s.fwState = 2 then s else s.mbxAnswer 4 [])

/-- A firmware answer to command `op`; no event where that command is not waiting or no firmware runs. Log: 78 DESIGN CHOICE. -/
def State.mbxRun (s : State) (op : Nat) (f : List Word → State) : Out :=
  match s.mgmt.mbx with
  | some (o, args) => if o = op ∧ s.fwState = 2 then .next (f args) else noEvent s
  | none => noEvent s

/-- VERSION: the image version, its SEQ and its slot (R520). -/
def execVersion (s : State) : Out :=
  s.mbxRun 1 (fun _ =>
    let i := s.get fMGMT_STATUS_FW_SLOT
    match s.bobbin.fw.getD i none with
    | some e => s.mbxAnswer 0 [BitVec.ofNat 36 (leAt e.bytes 16 4), BitVec.ofNat 36 e.seq, BitVec.ofNat 36 i]
    | none => s.mbxAnswer 0 [0, 0, BitVec.ofNat 36 i])

/-- A refused claim is retried 1 mt apart up to RETRY_MAX times, then answered REFUSED (R520, R521). -/
def State.mbxRetry (s : State) : State :=
  if (s.word (aMGMT_POLICY + 3)).toNat ≤ s.mgmt.tries then s.mbxAnswer 2 [] else s.setMgmt { s.mgmt with tries := s.mgmt.tries + 1 }

/-- CHECKPOINT: firmware claims activity 0x9, takes a checkpoint whose write ends as `ok` says, and releases (R520). Log: 78 DESIGN CHOICE. -/
def execCheckpoint (ok : Bool) (s : State) : Out :=
  s.mbxRun 2 (fun _ =>
    let r := s.claim 9 [(29, true)]
    if ¬ r.2 then r.1.mbxRetry
    else
      let t := (r.1.ckptStart.ckptEnd ok).release 9
      if ok then t.mbxAnswer 0 [BitVec.ofNat 36 (t.get fMGMT_CKPT_SEQ_SEQ)] else t.mbxAnswer 3 [])

/-- CALSET_COMMIT: firmware claims activity 0xA, commits the set and releases (R520, R527). Log: 78 DESIGN CHOICE. -/
def execCalsetCommit (ok : Bool) (s : State) : Out :=
  s.mbxRun 3 (fun _ =>
    let r := s.claim 10 [(29, true)]
    if ¬ r.2 then r.1.mbxRetry
    else if r.1.is fCAL_CFG_STORE then (((r.1.flag fMGMT_CALSET_FAIL).put fMGMT_CALSET_CAUSE 4).release 10).mbxAnswer 3 []
    else
      let i := match s.newestSet with | some 0 => 1 | _ => 0
      let t := (r.1.calsetStart.calsetEnd ok).release 10
      match t.bobbin.cals.getD i none with
      | some x => if ok then t.mbxAnswer 0 [BitVec.ofNat 36 x.seq] else t.mbxAnswer 3 []
      | none => t.mbxAnswer 3 [])

/-- GO in CAL_CMD with these operands (R280). -/
def State.calStart (s : State) (kind target mask : Nat) : State :=
  (if kind = 0 then execCalGoBank (Fin.ofNat 8 target) s
    else if kind = 1 then execCalGoMout (Fin.ofNat 256 target) s
    else if kind = 2 then execCalGoTi (Fin.ofNat 65536 mask) s
    else if kind = 3 then execCalGoRx (Fin.ofNat 4 target) s
    else if kind = 4 then execCalGoAll s
    else execCalKindNotUsed (Fin.ofNat 3 (kind - 5)) s).after s

/-- CALIBRATE: firmware starts the run of its arguments, retrying a MAINT_BUSY refusal, and answers at its end with CAL_STATUS (R520). -/
def execCalibrate (s : State) : Out :=
  s.mbxRun 4 (fun args =>
    let kind := (args.getD 0 0).toNat
    if s.mgmt.running then
      if s.is fCAL_STATUS_BUSY then s
      else s.mbxAnswer (if s.get fCAL_STATUS_REASON = 0 then 0 else 3) [s.word aCAL_STATUS]
    else if 4 < kind then s.mbxAnswer 1 []
    else
      let t := s.calStart kind (args.getD 1 0).toNat (args.getD 2 0).toNat
      if t.is fCAL_STATUS_REFUSED ∧ t.get fCAL_STATUS_REASON = 1 then t.mbxRetry
      else if t.is fCAL_STATUS_REFUSED ∧ t.get fCAL_STATUS_REASON = 13 then t.mbxAnswer 3 [t.word aCAL_STATUS]
      else t.setMgmt { t.mgmt with running := true })

/-- HEALTH: the four prediction words (R597). -/
def execHealth (s : State) : Out := s.mbxRun 5 (fun _ => s.mbxAnswer 0 s.healthWords)

/-- MBX_REBOOT: the command is answered and MGMT resets (R520). -/
def execMbxReboot (s : State) : Out := s.mbxRun 6 (fun _ => (s.mbxAnswer 0 []).mgmtReset 5)

/-- LOG_READ: up to eight words of the firmware log, which is the firmware's own (R520). Log: 78 DESIGN CHOICE. -/
def execLogRead (ws : List Word) (s : State) : Out := s.mbxRun 7 (fun _ => s.mbxAnswer 0 (ws.take 8))

/-- MBX_UNKNOWN: an opcode the firmware does not know is answered UNKNOWN (R520). -/
def execMbxUnknown (s : State) : Out :=
  match s.mgmt.mbx with
  | some (o, _) => if s.fwState = 2 ∧ (o = 0 ∨ 7 < o) then .next (s.mbxAnswer 6 []) else noEvent s
  | none => noEvent s

/-! ### WEFT memories (R320) -/

/-- WEFT_MEMORY_SCRUB: the scrubber reads and corrects every local-memory word of the clusters; the manual counts nothing here (R320). Log: 91 DEDUCED. -/
def execWeftMemoryScrub (s : State) : Out := .next s

end Sys2Proof.Machine
end

