-- ==== Sys2Proof/Machine/Inject.lean ====
section
/-! DEFINITION. Fault injection (R582, R583): the GO of each kind. GO takes the fields written with it, is refused or starts the injection;
what an injection forces is met where the block works on (edges, samples, sensors), the rest happens at once. -/

namespace Sys2Proof.Machine

/-- The words of critical WARP configuration held in triple storage (R157, R170). -/
def tripleBases : List Nat :=
  [aHEDDLE_LINE_SRC, aHEDDLE_LINE_CFG, aMOUT_CTRL, aMOUT_FMT, aMOUT_DELAY, aMOUT_WIDTH, aMOUT_PERIOD, aMOUT_PHASE, aMOUT_BURST]

/-- Is the word at `a` triple-stored? -/
def tripleWord (a : Nat) : Bool :=
  match regAt a with
  | some r => tripleBases.contains r.base
  | none => false

/-- Does a field cover bit `b`? -/
def Fld.covers (f : Fld) (b : Nat) : Bool := decide (f.lo ≤ b ∧ b ≤ f.hi)

/-- A field of triple storage: stored by the host or the draft, not derived (R157). -/
def Fld.tripled (f : Fld) : Bool := f.acc == .rw || f.acc == .rwl

/-- VALUE of a TRIPLE_FLIP: word address [35:12], bit [11:6], copy [5:4] (R583). -/
def tripleValueOk (v : Word) : Bool :=
  let a := getBits v 12 24
  tripleWord a && getBits v 4 2 != 3 && (fieldsAt a).any (fun f => f.tripled && f.covers (getBits v 6 6))

/-- VALUE of a STRUCT_FLIP: a word with scanned structure that is not triple-stored, and a bit of it (R490, R583). -/
def structValueOk (v : Word) : Bool :=
  let a := getBits v 12 24
  !tripleWord a && (fieldsAt a).any (fun f => f.rwS && f.covers (getBits v 6 6))

/-- UNIT codes below which a kind has a target (R583). -/
def injUnits (kind : Nat) : Nat :=
  ([0, 104, 104, 72, 1, 1, 2, 1, 1, 5, 5, 1, 1, 2, 12, 8, 9, 64, 1, 1, 8, 2, 8, 10, 2] : List Nat).getD kind 0

/-- May the kind take this unit and VALUE (R582, R583)? -/
def injValid (kind unit : Nat) (v : Word) : Bool :=
  decide (unit < injUnits kind) && (if kind = 7 then tripleValueOk v else if kind = 8 then structValueOk v else true)

/-- Is the target generator or spare held by a maintenance activity (R505, R506, R582)? A run holds the spares it claimed and the
generator it calibrates; an ALL run holds every generator. Log: 43 DEDUCED. -/
def State.injHeld (s : State) (kind unit : Nat) : Bool :=
  if kind = 1 ∨ kind = 2 then
    if s.cal.phase ≠ 0 ∧ s.cal.kind = 4 then true
    else if unit < 72 then
      s.get fMAINT_OWNER_WRITER (17 + unit / 9) != 0 &&
        (unit % 9 == 8 || (s.cal.phase == 4 && s.cal.bank == unit / 9 && s.cal.cur % 8 == unit % 9))
    else s.cal.phase == 6 && 72 + s.cal.cur == unit
  else kind == 16 && unit == 8 && s.get fMAINT_OWNER_WRITER 27 != 0

/-- The kinds whose COUNT is an extent (R583). -/
def injExtent (kind : Nat) : Bool := [1, 2, 3, 4, 6, 13, 14, 15, 17, 19, 20, 21, 22, 24].contains kind

/-- The words FAULT_INJ_CTRL takes at GO: the fields written with it, INJ_EN cleared (R582). -/
def State.injCtrl (s : State) (kind unit count : Nat) (test : Bool) : State :=
  ((((s.put fFAULT_INJ_CTRL_KIND kind).put fFAULT_INJ_CTRL_UNIT unit).put fFAULT_INJ_CTRL_COUNT count).put fFAULT_INJ_CTRL_TEST (b2n test)).unflag
    fFAULT_INJ_CTRL_INJ_EN

/-- GO is refused with a REASON (R582). -/
def State.injRefuse (s : State) (reason : Nat) : State := (s.flag fFAULT_INJ_STATUS_REFUSED).put fFAULT_INJ_STATUS_REASON reason

/-- The REASON that refuses a GO, 0 where it is accepted; the causes in the order of the manual's list (R582). Log: 86 DEDUCED. -/
def State.injReason (s : State) (en : Bool) (kind unit : Nat) : Nat :=
  if ¬ (en || s.is fFAULT_INJ_CTRL_INJ_EN) then 1
  else if ¬ injValid kind unit (s.word aFAULT_INJ_ARG) then 2
  else if s.is fFAULT_INJ_STATUS_BUSY then 3
  else if s.injHeld kind unit then 4
  else 0

/-- An accepted injection begins: one that acts on edges or samples from 256 wc on, COUNT 0 as 1 (R582, R583). Log: 86 DEDUCED. -/
def State.injStart (s : State) (kind unit count : Nat) (test : Bool) : State :=
  let n := if injExtent kind then max 1 count else 0
  let start := if ([1, 2, 3, 15] : List Nat).contains kind then tAdd s.nowT (wcs 256) else s.nowT
  let x : InjSt := { kind := kind, unit := unit, count := n, value := s.word aFAULT_INJ_ARG, test := test, start := start, left := n }
  (s.setInj x).flag fFAULT_INJ_STATUS_BUSY |>.put fFAULT_INJ_STATUS_REASON 0

/-- GO of FAULT_INJ_CTRL (R582); `act` is what the kind does at once, which a TEST injection does not do to the device (R581). Log: 86 DEDUCED. -/
def State.injGo (s : State) (kind unit count : Nat) (test en : Bool) (act : State → State) : State :=
  let r := s.injReason en kind unit
  let s := s.injCtrl kind unit count test
  if r ≠ 0 then s.injRefuse r
  else
    let s := s.injStart kind unit count test
    if test then s else act s

/-- GEN_SHIFT: the generator's next COUNT edges deviate by DEV (R583). -/
def execGenShift (unit : Fin 2048) (count : Fin 16384) (test en : Bool) (s : State) : Out := .next (s.injGo 1 unit.val count.val test en id)

/-- GEN_MISS: the generator's next COUNT edges do not come (R583). -/
def execGenMiss (unit : Fin 2048) (count : Fin 16384) (test en : Bool) (s : State) : Out := .next (s.injGo 2 unit.val count.val test en id)

/-- BALL_STUCK: the ball is held at idle for COUNT wc from its first leading edge 256 wc after GO (R583). -/
def execBallStuck (unit : Fin 2048) (count : Fin 16384) (test en : Bool) (s : State) : Out := .next (s.injGo 3 unit.val count.val test en id)

/-- PLLW_UNLOCK: the loop opens, and PLL_W loses lock (R583, R87). -/
def execPllwUnlock (unit : Fin 2048) (count : Fin 16384) (test en : Bool) (s : State) : Out :=
  .next (s.injGo 4 unit.val count.val test en State.lockLoss)

/-- PLLW_STEP: the phase rotator moves the PLL_W output by VALUE [35:26], and the phase watch flags a step of more than
5 ps, never one of less than 2 ps; between them the samplers' noise decides (R583, R92, R272). Log: 15 DEDUCED. -/
def execPllwStep (unit : Fin 2048) (count : Fin 16384) (test en : Bool) (s : State) : Out :=
  .next (s.injGo 5 unit.val count.val test en (fun s =>
    let d := sgn 10 (getBits (s.word aFAULT_INJ_ARG) 26 10)
    let r := s.free
    if s.watches s.nowT ∧ (s.psUp 5 < d.natAbs ∨ (d ≠ 0 ∧ s.psUp 2 ≤ d.natAbs ∧ r.1 % 2 = 1)) then r.2.phaseFlag d s.nowT else r.2))

/-- REF_STOP: the reference is gated off and loses its activity (R583, R67). -/
def execRefStop (unit : Fin 2048) (count : Fin 16384) (test en : Bool) (s : State) : Out :=
  .next (s.injGo 6 unit.val count.val test en (fun s => (execRefActivityLoss (unit.val == 1) s).after s))

/-- TRIPLE_FLIP: one copy of a stored bit flips; the majority stands, and the disagreement is corrected and reported with its word
address, masked (R157, R573, R583). Log: 86 DEDUCED. -/
def execTripleFlip (unit : Fin 2048) (count : Fin 16384) (test en : Bool) (s : State) : Out :=
  .next (s.injGo 7 unit.val count.val test en (fun s =>
    let a := getBits (s.word aFAULT_INJ_ARG) 12 24
    s.detect 7 (a / 2 ^ 14) 0 (a % 2 ^ 14) true s.nowT))

/-- STRUCT_FLIP: a bit of the structure in force flips; the scanner will find it (R490, R583). -/
def execStructFlip (unit : Fin 2048) (count : Fin 16384) (test en : Bool) (s : State) : Out :=
  .next (s.injGo 8 unit.val count.val test en (fun s =>
    let v := s.word aFAULT_INJ_ARG
    let a := getBits v 12 24
    let b := getBits v 6 6
    s.setWord a (s.word a ^^^ (1 <<< b))))

/-- SRAM_SBE: one bit of a codeword flips; the code corrects it at the next read (R583). -/
def execSramSbe (unit : Fin 2048) (count : Fin 16384) (test en : Bool) (s : State) : Out := .next (s.injGo 9 unit.val count.val test en id)

/-- SRAM_DBE: two bits of a codeword flip; the next read or scrub of the memory detects them (R583). Log: 86 DEDUCED. -/
def execSramDbe (unit : Fin 2048) (count : Fin 16384) (test en : Bool) (s : State) : Out := .next (s.injGo 10 unit.val count.val test en id)

/-- DRAM_SBE: one bit of a line flips; the code corrects it at the next read or scrub (R583). -/
def execDramSbe (unit : Fin 2048) (count : Fin 16384) (test en : Bool) (s : State) : Out := .next (s.injGo 11 unit.val count.val test en id)

/-- DRAM_DBE: two bits of a codeword flip; the next read or scrub of the line detects them (R583). -/
def execDramDbeInject (unit : Fin 2048) (count : Fin 16384) (test en : Bool) (s : State) : Out :=
  .next (s.injGo 12 unit.val count.val test en id)

/-- LINK_DROP: a chain port transmits nothing for COUNT µs (R583). -/
def execLinkDrop (unit : Fin 2048) (count : Fin 16384) (test en : Bool) (s : State) : Out := .next (s.injGo 13 unit.val count.val test en id)

/-- JESD_CRC: the CRC of a receive lane's next COUNT multiblocks fails (R583). -/
def execJesdCrc (unit : Fin 2048) (count : Fin 16384) (test en : Bool) (s : State) : Out := .next (s.injGo 14 unit.val count.val test en id)

/-- SLICE_CMP: an error is added to the output of a slice for COUNT samples (R583). -/
def execSliceCmp (unit : Fin 2048) (count : Fin 16384) (test en : Bool) (s : State) : Out := .next (s.injGo 15 unit.val count.val test en id)

/-- SLICE_PAR: a residue or parity mismatch in a slice, 8 the spare (R583, R308). -/
def execSlicePar (unit : Fin 2048) (count : Fin 16384) (test en : Bool) (s : State) : Out :=
  .next (s.injGo 16 unit.val count.val test en (fun s => (execSlicePlausFault (Fin.ofNat 9 unit.val) s).after s))

/-- WEFT_RESIDUE: the cluster's next COUNT results mismatch (R583). -/
def execWeftResidue (unit : Fin 2048) (count : Fin 16384) (test en : Bool) (s : State) : Out := .next (s.injGo 17 unit.val count.val test en id)

/-- LOCKSTEP: the cores mismatch, which is reported and resets MGMT (R583, R512). -/
def execInjectLockstep (unit : Fin 2048) (count : Fin 16384) (test en : Bool) (s : State) : Out :=
  .next (s.injGo 18 unit.val count.val test en (fun s => (execLockstep s).after s))

/-- KICK_BLOCK: KICK is ignored for COUNT mt (R583). -/
def execKickBlock (unit : Fin 2048) (count : Fin 16384) (test en : Bool) (s : State) : Out := .next (s.injGo 19 unit.val count.val test en id)

/-- SENSOR: sensor B of a site reads with an offset for COUNT mt (R583). -/
def execInjectSensor (unit : Fin 2048) (count : Fin 16384) (test en : Bool) (s : State) : Out := .next (s.injGo 20 unit.val count.val test en id)

/-- MONITOR: a converter's MON_7 results carry an offset for COUNT passes (R583, R603). -/
def execInjectMonitor (unit : Fin 2048) (count : Fin 16384) (test en : Bool) (s : State) : Out := .next (s.injGo 21 unit.val count.val test en id)

/-- SUPPLY: the monitor of a rail is forced out of its window (R583, R559). Log: 86 DEDUCED. -/
def execInjectSupply (unit : Fin 2048) (count : Fin 16384) (test en : Bool) (s : State) : Out :=
  .next (s.injGo 22 unit.val count.val test en (fun s => (execSupplyExcursion (Fin.ofNat 8 unit.val) true s).after s))

/-- LOGIC: a control-logic mismatch in an island; which of R567's checks meets it is free (R583). -/
def execInjectLogic (unit : Fin 2048) (count : Fin 16384) (test en : Bool) (s : State) : Out :=
  .next (s.injGo 23 unit.val count.val test en (fun s =>
    let r := s.free
    r.2.report 23 unit.val (r.1 % 3)))

/-- PIN: a fault pad is forced high; a fault while Selvedge asserts it (R583, R580). -/
def execInjectPin (unit : Fin 2048) (count : Fin 16384) (test en : Bool) (s : State) : Out :=
  .next (s.injGo 24 unit.val count.val test en (fun s => (execPinFault (Fin.ofNat 2 unit.val) s).after s))

/-- A GO with a KIND that is not used is refused with REASON 0x2, or 0x1 without INJ_EN (R582, R583). -/
def execInjectKindNotUsed (kind : Fin 256) (unit : Fin 2048) (count : Fin 16384) (test en : Bool) (s : State) : Out :=
  if 1 ≤ kind.val ∧ kind.val ≤ 24 then noEvent s else .next (s.injGo kind.val unit.val count.val test en id)

end Sys2Proof.Machine
end

