-- ==== Sys2Proof/Machine/Scan.lean ====
section
/-! DEFINITION. Boundary scan (R637): the boundary register over the balls of R642, and what a scan does while RESET_N is low. -/

namespace Sys2Proof.Machine

/-- The balls with a cell in the boundary register, group by group in the order of R642: how many, whether they are outputs, and whether they are
SerDes lanes. LS_l, MON_k, XTAL_IN, XTAL_OUT and RCAL have none (R637), nor have the five balls of the port itself. Log: 106 DESIGN CHOICE. -/
def scanBalls : List (Nat × Bool × Bool) :=
  [(64, true, false), (8, true, false), (16, false, false), (2, false, false), (32, true, false),   -- E, M, TI, REFCLK, LD
   (3, false, false), (2, true, false), (6, false, false), (1, true, false),   -- FRAME_SYNC, SYNC_IN, INTERLOCK_N; FAULT_N, INT_N; RESET_N to MOSI; MISO
   (4, true, false), (2, false, false), (4, true, false), (2, false, false),   -- the module balls of WEST and EAST
   (12, false, true), (4, false, true), (4, false, true), (4, false, true), (2, false, false),   -- CRX, WRX, ERX, HRX; LREFCLK, HREFCLK
   (6, true, true), (4, true, true), (4, true, true), (4, true, true), (4, false, false)]   -- CTX, WTX, ETX, HTX; device clocks

/-- The cells of the boundary register: output, SerDes. -/
def scanCells : List (Bool × Bool) := scanBalls.flatMap (fun g => List.replicate g.1 g.2)

/-- The balls that the cells drive: outputs that are SerDes lanes or not. -/
def scanDrive (serdes : Bool) (cells : List Bool) : List (Nat × Bool) :=
  (scanCells.zipIdx.filter (fun e => e.1.1 && e.1.2 == serdes)).map (fun e => (e.2, cells.getD e.2 false))

/-- One boundary-scan operation: cells are loaded, drive the outputs of their kind, or take the levels at the input balls (R637). Log: 106 DESIGN CHOICE. -/
def BscanSt.step (x : BscanSt) : ScanOp → BscanSt
  | .preload bits => { x with cells := bits.take scanCells.length }
  | .extest => { x with drive := scanDrive false x.cells }
  | .acExtest => { x with drive := scanDrive true x.cells }
  | .sample levels => { x with cells := scanCells.zipIdx.map (fun e => if e.1.1 then x.cells.getD e.2 false else levels.getD e.2 false) }
  | .bypass => x

/-- A boundary scan while RESET_N is low; at its end no ball is driven: every output is at high impedance (R637). -/
def State.bscanRun (s : State) (ops : List ScanOp) : State :=
  { s with bscan := { ops.foldl BscanSt.step s.bscan with drive := [] } }

end Sys2Proof.Machine
end

