-- ==== Sys2Proof/Machine/Restore.lean ====
section
/-! DEFINITION. Power-up, resets, the restore and the release of the restore hold (R13, R14, R181, R245, R523 to R538, R593). -/

namespace Sys2Proof.Machine

/-! ### What outlives a reset (R528) -/

/-- The state after a reset: Bobbin and fuses are kept, and with `aon` the AON items, FAULT_PREV among them (R528, R579); what stands outside the
device stays. -/
def State.wiped (s : State) (aon : Bool) : State :=
  let z : State := State.reset
  let z := { z with pending := s.pending, freeIdx := s.freeIdx, bobbin := s.bobbin }
  if aon then
    let z := { z with chain := { z.chain with aonAddr := s.chain.aonAddr }, aonLock := s.aonLock, health := s.health, bscan := s.bscan }
    let z := (z.put fMGMT_STATUS_BOOT_FAILS (s.get fMGMT_STATUS_BOOT_FAILS)).put fMGMT_STATUS_FW_AVOID (s.get fMGMT_STATUS_FW_AVOID)
    let z := z.setWord aFAULT_PREV (s.word aFAULT_PREV)
    s.ageWords.foldl (fun z e => z.setWord e.1 e.2) z
  else z

/-- Is a Bobbin activity writing, whose last step writes an ageing record (R592)? -/
def State.bobbinWrites (s : State) : Bool :=
  s.is fMGMT_CKPT_BUSY || s.is fMGMT_CALSET_BUSY || s.is fDRAFT_COMMIT_PENDING || s.get fMGMT_FW_CTRL_STATE == 2

/-- POWER_LOSS: the supplies fall; a Bobbin write in progress is cut short, and what was not committed is lost; `aon` when VDD_AON falls too.
Whether a Bobbin activity had reached its ageing record, which is then written in part, is a free value (R493, R523, R528, R598). Log: 71 DEDUCED. -/
def execPowerLoss (aon : Bool) (s : State) : Out :=
  let r := s.free
  let bad : Bool := s.bobbin.ageBad || (s.bobbinWrites && r.1 % 2 == 1)
  let s := { r.2 with bobbin := { r.2.bobbin with ageBad := bad } }.wiped !aon
  .next (s.setMgmt { s.mgmt with aonKept := !aon })

/-! ### Steps of the restore (R529) -/

/-- The "ret" fields of a checkpoint entry are written, whatever their access (R531). Log: 79 DEDUCED. -/
def State.takeEntry (s : State) (e : Nat × Word) : State :=
  s.setWord e.1 (enableOf e.1 (mergeFields (fieldsAt e.1) (fun f => f.rst == .ret) (s.word e.1) e.2))

/-- Step 3: LIGHT and CAP_LOCK, `ilLow` when INTERLOCK_N is held low throughout, which unlocks at a power-up alone (R245, R246). Log: 38 DEDUCED. -/
def State.restoreLight (s : State) (ilLow pwr : Bool) : State :=
  let s := match s.newestCkpt with
    | some r => (r.words.filter (fun (e : Nat × Word) => lightWord e.1)).foldl State.takeEntry s
    | none => s
  let lock := s.is fLIGHT_LOCK_CAP_LOCK || s.aonLock
  let s := (s.put fLIGHT_LOCK_IL_IN (b2n !ilLow)).put fLIGHT_LOCK_IL_LATCH (b2n ilLow)
  if ilLow ∧ pwr then
    { (s.unflag fLIGHT_LOCK_CAP_LOCK).put fLIGHT_LOCK_UNLOCKED_BOOT (b2n lock) with aonLock := false }
  else s.put fLIGHT_LOCK_CAP_LOCK (b2n lock)

/-- Step 4: the firmware image, FW_EN as the newest checkpoint has it (R515 to R518). Log: 75 DEDUCED. -/
def State.restoreFw (s : State) : State :=
  let s := match s.newestCkpt with
    | some r => (r.words.filter (fun (e : Nat × Word) => e.1 == aMGMT_CFG)).foldl State.takeEntry s
    | none => s
  let s := s.boot
  s.put fMGMT_RESTORE_FW_SRC (if s.fwState = 2 then s.get fMGMT_STATUS_FW_SLOT + 1 else 0)

/-- Does a draft pass every check on the present state (R530)? -/
def State.draftOk (s : State) (bs : List Nat) : Bool :=
  decide (32 ≤ bs.length) && bs.length == drLength bs && (formatCheck bs).isNone && (trailerCheck bs).isNone && (s.loadCheck bs).isNone

/-- One element of the chain is applied: structure and initial values at once, LIGHT left out (R245, R530). Log: 38 DEDUCED. -/
def State.restoreElem (s : State) (bs : List Nat) : State :=
  let light := (draftFrames bs).any (fun f => f.addrs.any lightWord)
  let s := (s.putDraft bs (fun a => !lightWord a)).showApplied bs
  if light then s.flag fDRAFT_APPLIED_LIGHT_SKIP else s

/-- The elements of a chain are applied until one fails a check; the answer counts them. -/
def State.restoreChain : List Elem → State → Nat → State × Nat
  | [], s, n => (s, n)
  | e :: t, s, n => if e.ok ∧ s.draftOk e.bytes ∧ (n ≠ 0 ∨ ¬ drPartial e.bytes) then State.restoreChain t (s.restoreElem e.bytes) (n + 1) else (s, n)

/-- Element 0 of slot `i`, if it passes every check. -/
def State.headOk (s : State) (i : Nat) : Option Elem :=
  match s.slotHead i with
  | some e => if s.draftOk e.bytes ∧ ¬ drPartial e.bytes then some e else none
  | none => none

/-- The draft slot that is restored. -/
def State.restoreSlot (s : State) : Option Nat :=
  match s.headOk 0, s.headOk 1 with
  | some a, some b => some (if a.seq < b.seq then 1 else 0)
  | some _, none => some 0
  | none, some _ => some 1
  | none, none => none

/-- Step 5: the draft chain (R530); the answer names the restored SEQs of element 0 and of the newest element. -/
def State.restoreDraft (s : State) : State × Option (Nat × Nat) :=
  match s.restoreSlot with
  | none => (s, none)
  | some i =>
    let es := nth s.bobbin.drafts i
    let r := State.restoreChain es s 0
    let base := (es.headD default).seq
    let top := (es.getD (r.2 - 1) default)
    let old := (nth s.bobbin.drafts (1 - i)).head?.any (fun e => decide (base < e.seq))
    let s := ((r.1.put fMGMT_RESTORE_DRAFT_SRC (i + 1)).put fMGMT_RESTORE_DRAFT_OLD (b2n old)).put fMGMT_RESTORE_ELEMENTS r.2
    let s := ((s.put fDRAFT_COMMIT_SLOT i).put fDRAFT_COMMIT_ELEMENTS es.length).put fDRAFT_COMMIT_SEQ_SEQ top.seq
    let auto := b2n (drAuto top.bytes)
    ((s.put fDRAFT_COMMIT_AUTO_RESUME auto).put fMGMT_RESUME_AUTO_ARMED auto, some (base, top.seq))

/-- Is an entry one of the identity items that are taken by whole words (R531)? Log: 79 DEDUCED. -/
def identityWord (a : Nat) : Bool := a == aCHAIN_NBR_SIG || a == aCHAIN_NBR_SIG + 1 || a == aCHAIN_ADDR || a == aRXW_SLICE_STATUS || a == aCAL_COUNT

/-- Step 6: the fields of the newest valid checkpoint (R531). -/
def State.restoreRet (s : State) (chain : Option (Nat × Nat)) : State :=
  match s.newestCkpt with
  | none => s
  | some r =>
    let old := s.bobbin.ckpts.any (fun x => !x.ok && decide (r.seq < x.seq))
    let s := (s.put fMGMT_RESTORE_CKPT_OLD (b2n old)).put fMGMT_CKPT_SEQ_SEQ r.seq
    let res := match chain with
      | none => 3
      | some c => if r.base = c.1 ∧ r.dseq ≤ c.2 then 1 else 2
    let s := s.put fMGMT_RESTORE_CKPT_RES res
    let take : Nat → Bool := fun a => !lightWord a && (res == 1 || identityWord a) && !(decide (aMOUT_GEN ≤ a) && decide (a < aMOUT_GEN + 8))
    let s := (r.words.filter (fun e => take e.1)).foldl State.takeEntry s
    s.forN 8 (fun s m => s.startRoles m (r.marks.getD m []))

/-- Step 7: the calibration records; without a draft none are restored (R292, R294, R529). -/
def State.restoreCal (s : State) (draft : Bool) : State :=
  if ¬ draft then s
  else if s.is fCAL_CFG_STORE then s.put fMGMT_RESTORE_CAL_SRC 3
  else match s.newestSet with
    | none => s
    | some i =>
      let x := (s.bobbin.cals.getD i none).getD ⟨0, [], false⟩
      let old := match s.bobbin.cals.getD (1 - i) none with | some y => !y.ok && decide (x.seq < y.seq) | none => false
      let s := x.words.foldl (fun s e => s.setWord e.1 e.2) s
      (((s.put fMGMT_RESTORE_CAL_SRC (i + 1)).put fMGMT_RESTORE_CAL_OLD (b2n old)).put fMGMT_CALSET_SET i).recompute

/-- Step 8 at power-up: the newest ageing record (R593). -/
def State.restoreAge (s : State) : State :=
  let s := { s with health := {}, regs := s.regs.filter (fun e => e.1 / 65536 != 0x13 || e.1 == aHEALTH_LAMP_LIMIT) }
  match s.bobbin.age with
  | none => s.flag fHEALTH_CTRL_AGE_LOST
  | some r => r.words.foldl (fun s e => s.setWord e.1 e.2) ({ s with health := r.health }.put fHEALTH_CTRL_RECORD_OLD (b2n s.bobbin.ageBad))

/-- Step 9: the engine wakes the enabled domains, or hands the wakes to running firmware; without a draft it wakes PD_LINK, for the host port of
R455 (R532). Log: 80 DEDUCED. -/
def State.restoreWake (s : State) (draft : Bool) : State :=
  let s := s.setMgmt { s.mgmt with wakeMt := 0 }
  if s.fwState = 2 ∧ draft then s.flag fMGMT_RESTORE_WAKE_HANDOFF
  else if draft then s.wakeAll
  else (s.setReq 7 1).wakeAsk 7

/-- Steps 4 to 9 of the restore; step 9 ends at RESTORE_DONE (R529). -/
def State.restoreRest (s : State) (pwr : Bool) : State :=
  let s := s.restoreFw
  let d := s.restoreDraft
  let s := (d.1.restoreRet d.2).restoreCal d.2.isSome
  let s := if pwr then s.restoreAge else s
  let s := s.derive d.2.isSome
  let s := s.toTstate (if s.isHead then 5 else 0)
  ((List.range 9).foldl State.goldenCrc s).restoreWake d.2.isSome

/-- The restore, steps 1 to 9, with the HEAD strap and the level of INTERLOCK_N (R529). -/
def State.restore (s : State) (head ilLow pwr : Bool) : State :=
  let s := (s.put fCHAIN_ADDR_HEAD (b2n head)).flag fMGMT_RESUME_HOLD_ACTIVE
  (s.restoreLight ilLow pwr).restoreRest pwr

/-- A MGMT reset before RESTORE_DONE starts the restore again at step 2; the pin's level and its latch stay, as does a lock that this power-up
has opened, and step 8 is not repeated (R245, R538). Log: 80 DEDUCED. -/
def State.restoreAgain (s : State) : State :=
  let t := s.restoreLight (s.is fLIGHT_LOCK_IL_LATCH) (s.is fLIGHT_LOCK_UNLOCKED_BOOT)
  let t := t.put fLIGHT_LOCK_IL_IN (s.get fLIGHT_LOCK_IL_IN)
  (if s.is fLIGHT_LOCK_UNLOCKED_BOOT ∧ ¬ s.is fLIGHT_LOCK_CAP_LOCK then t.unflag fLIGHT_LOCK_CAP_LOCK else t).restoreRest false

/-- MGMT_RESET: a MGMT reset that has begun loads an image, or starts an unfinished restore again (R515, R517, R528, R538). Log: 76 DEDUCED. -/
def execMgmtReset (s : State) : Out :=
  if s.fwState ≠ 3 then noEvent s
  else .next (if s.restoreHold ∧ ¬ s.is fMGMT_RESTORE_RESTORE_DONE then s.restoreAgain else s.boot)

/-- POWER_UP: the supplies rise and the restore engine restores the device; HEAD strap, and INTERLOCK_N held low until LIGHT is restored. Where
VDD_AON stayed up, it is treated as a RESET_N (R528, R529, R624). Log: 80 DEDUCED. -/
def execPowerUp (head ilLow : Bool) (s : State) : Out :=
  .next (((s.wiped true).put fMGMT_STATUS_RESET_CAUSE (b2n s.mgmt.aonKept)).restore head ilLow !s.mgmt.aonKept)

/-- RESET_N: RESET_N low resets every domain but PD_AON and restores; boundary scan runs only while it is low (R528, R529, R593, R637). -/
def execResetN (head : Bool) (low : ResetLow) (s : State) : Out :=
  .next ((((s.bscanRun low.scan).wiped true).put fMGMT_STATUS_RESET_CAUSE 1).restore head low.ilLow false)

/-- Is every domain that step 9 wakes ON? Log: 80 DEDUCED. -/
def State.wakesDone (s : State) : Bool :=
  (List.range 8).all (fun d => decide (d < 2) || !(s.domEn d || natBits (s.get fPWR_REQ_REQ) (2 * d) 2 == 1) || s.domState d == 3 || s.domState d == 6)

/-- RESTORE_DONE: step 9 of the restore completes (R529). Log: 80 DEDUCED. -/
def execRestoreDone (s : State) : Out :=
  if s.is fMGMT_RESTORE_RESTORE_DONE ∨ ¬ s.restoreHold ∨ ¬ s.wakesDone then noEvent s else .next (s.flag fMGMT_RESTORE_RESTORE_DONE)

/-- WAKE_TAKEOVER: enabled domains that firmware has not asked for within 40 mt are woken by the engine (R532). -/
def execWakeTakeover (s : State) : Out :=
  if ¬ s.is fMGMT_RESTORE_WAKE_HANDOFF ∨ s.is fMGMT_RESTORE_RESTORE_DONE ∨ s.is fMGMT_RESTORE_WAKE_TAKEOVER ∨ s.mgmt.wakeMt < 40 ∨
      ¬ (List.range 8).any (fun d => decide (2 ≤ d) && s.domEn d && natBits (s.get fPWR_REQ_REQ) (2 * d) 2 == 0) then noEvent s
  else .next (s.flag fMGMT_RESTORE_WAKE_TAKEOVER).wakeAll

/-- The restore's mt of step 9. -/
def State.wakeMt (s : State) : State :=
  if s.is fMGMT_RESTORE_WAKE_HANDOFF ∧ ¬ s.is fMGMT_RESTORE_RESTORE_DONE then s.setMgmt { s.mgmt with wakeMt := s.mgmt.wakeMt + 1 } else s

/-! ### The release of the hold (R534, R535) -/

/-- The restore hold ends. -/
def State.resume (s : State) (by_ : Nat) : State := ((s.unflag fMGMT_RESUME_HOLD_ACTIVE).put fMGMT_RESUME_RESUMED_BY by_).checkLoad

/-- RESUME: the hold is released, or RESUME comes too early (R534, R535). Log: 80 DEDUCED. -/
def execResume (s : State) : Out :=
  if ¬ s.is fMGMT_RESTORE_RESTORE_DONE then .next (s.flag fMGMT_RESUME_RESUME_EARLY)
  else if ¬ s.restoreHold then .next s
  else .next (s.resume 1)

/-- COND_CLK. -/
def State.condClk (s : State) : Bool := s.get fKEEPER_STATUS_STATE == 0

/-- COND_CHAIN. -/
def State.condChain (s : State) : Bool := !s.chained || s.tstate == 3 || s.tstate == 5

/-- COND_CAL. -/
def State.condCal (s : State) : Bool := fCAL_DUE_VALID_ALL.get (s.calLive aCAL_DUE (s.word aCAL_DUE)) == 1

/-- COND_CLK, COND_CHAIN and COND_CAL are formed at a read. Log: 89 DEDUCED. -/
def State.resumeLive (s : State) (a : Nat) (w : Word) : Word :=
  if a = aMGMT_RESUME then
    fMGMT_RESUME_COND_CAL.set (fMGMT_RESUME_COND_CHAIN.set (fMGMT_RESUME_COND_CLK.set w (b2n s.condClk)) (b2n s.condChain)) (b2n s.condCal)
  else w

/-- AUTO_RESUME: every condition holds in one mt check (R534). -/
def execAutoResume (s : State) : Out :=
  if s.restoreHold ∧ s.is fMGMT_RESTORE_RESTORE_DONE ∧ s.is fMGMT_RESUME_AUTO_ARMED ∧ s.condClk ∧ s.condChain ∧ s.condCal then .next (s.resume 2)
  else noEvent s

end Sys2Proof.Machine
end

