-- ==== Sys2Proof/Machine/Tick.lean ====
section
/-! DEFINITION. Events that several blocks share: the mt tick of the keeper (R28, R33, R67, R289, R293, R554, R587), a shot boundary
(R223), and the interlock pin (R246). -/

namespace Sys2Proof.Machine

/-! ### The keeper at an mt tick (R28, R31, R33, R35) -/

/-- Reference cycles from the last tick to this one: the accumulator passes KEEPER_MT_LEN at a whole cycle (R28). -/
def State.tickCycles (s : State) : Nat := (s.mtLen - s.clk.acc + (2 ^ 18 - 1)) / 2 ^ 18

/-- How far the timebase advanced differently from the keeper's prediction, in wc/1024: `n` reference cycles, those of the mt under an earlier
plan as they advanced and the others at the working plan, with the trim in force meanwhile (R33, R86). Log: 19 DEDUCED. -/
def State.slipOf (s : State) (n stamp : Nat) : Rat :=
  let r := planRatio (s.word aPLLW_CFG) (s.word aPLLW_FRAC)
  let pred : Rat := s.clk.advUsed + 1024 * ((n : Nat) - s.clk.refUsed) * (r.1 : Nat) / (r.2 : Nat)
  s.mtAdvance stamp - pred

/-- SLIP: a difference of more than 1 wc is flagged, counted and reported (R33, R573). Log: 19 DEDUCED. -/
def State.slip (s : State) : State := ((s.flag fKEEPER_STATUS_SLIP).bump fKEEPER_STATUS_SLIP_COUNT).report 1 0 2

/-- The keeper's own part of a tick at `stamp`: the accumulator, the stamp and the slip check. While PD_WARP is off or PLL_W has not yet
locked, MGMT counts alone (R31). Log: 19 DEDUCED. -/
def State.keeperMt (s : State) (stamp : Nat) : State :=
  let s := s.put fTB_MT_COUNT_MT_COUNT ((s.get fTB_MT_COUNT_MT_COUNT + 1) % 2 ^ 36)
  if ¬ s.clk.lockedOnce then s
  else
    let s := (s.flowTo stamp).trimTo
    let n := s.tickCycles
    let d := s.slipOf n stamp
    let bad : Bool := s.clk.ticked && (decide (1024 < d) || decide (d < -1024))
    let ck : ClkSt := { s.clk with acc := s.clk.acc + n * 2 ^ 18 - s.mtLen, stamp := stamp % tMod, tickAt := stamp % tMod, ticked := true,
                                   trimSum := 0, refUsed := 0, advUsed := 0 }
    let s := { s with clk := ck }
    if bad then s.slip else s

/-! ### The references at an mt tick (R67, R71, R72) -/

/-- Does a measured mt length lie within ±QUAL_PPM (R67)? 0 acts as 1; a code above the range of 1 to 1 000 acts as 1 000. Log: 101 DESIGN CHOICE. -/
def State.ppmOk (s : State) (f : Nat) : Bool :=
  decide (((f : Int) - (s.mtLen : Nat)).natAbs * 1000000 ≤ min 1000 (max 1 (s.get fCLK_REF_CFG_QUAL_PPM)) * s.mtLen)

/-- The mt count of qualification of a reference becomes `n`. -/
def State.setQualCount (s : State) (b : Bool) (n : Nat) : State :=
  let ck : ClkSt := if b then { s.clk with qualB := n } else { s.clk with qualA := n }
  { s with clk := ck }

/-- Does REF_STOP gate a reference off (R583)? Log: 86 DEDUCED. -/
def State.refGated (s : State) (b : Bool) : Bool := (s.injActs 6).any (fun x => x.unit == b2n b)

/-- The per-mt check of a reference: activity, and the frequency that qualifies or disqualifies it (R67, R68, R573 SUB 1). An mt in which the
reference lost its activity counts nothing; REF_STOP gates it off (R583). Log: 18 DEDUCED. -/
def State.refMt (s : State) (b : Bool) (f : Nat) : State :=
  let act := if b then fCLK_REF_STATUS_B_ACT else fCLK_REF_STATUS_A_ACT
  let f := if s.refGated b then 0 else f
  let loss := if b then s.clk.lossB else s.clk.lossA
  let s := if f = 0 then s else s.put act 1
  let s := { s with clk := if b then { s.clk with lossB := false } else { s.clk with lossA := false } }
  if s.is act ∧ s.ppmOk f then s.setQualCount b (if loss then 0 else s.qualCount b + 1)
  else if s.refQual b then s.refLost b 1
  else s.setQualCount b 0

/-! ### Counters of mt -/

/-- A scrub pass that has run beyond its period sets SCRUB_LATE (R379, R389). -/
def State.scrubsLate (s : State) : State :=
  let s := if s.is fBOLT_SCRUB_STATUS_BUSY ∧ max 80 (s.get fBOLT_CFG_SCRUB_PERIOD) < s.boltMt then s.flag fBOLT_SCRUB_STATUS_SCRUB_LATE else s
  if s.is fHIST_MEM_CTRL_SCRUB_EN ∧ s.is fHIST_MEM_STATUS_READY ∧ s.get fHIST_MEM_CTRL_SCRUB_PERIOD < s.dramMt then
    s.flag fHIST_MEM_STATUS_SCRUB_LATE
  else s

/-- Waits counted in mt: drain and guard of a retune, hand-over of a calibration, dwell of the spare, scrub passes, a
retention test, HEAL_HOLD, and the detector test service (R79, R81, R281, R309, R379, R389, R403, R448, R581). Log: 14 DESIGN CHOICE. -/
def State.waitsMt (s : State) : State :=
  let st := s.get fCLK_RETUNE_STATE
  let ck : ClkSt := { s.clk with drainMt := if st = 1 then s.clk.drainMt + 1 else s.clk.drainMt,
                                 guardMt := if st = 3 ∨ st = 4 ∨ (st = 5 ∧ s.clk.reverted = true) then s.clk.guardMt + 1 else s.clk.guardMt }
  let cal : CalSt := { s.cal with waitMt := if s.cal.phase = 3 then s.cal.waitMt + 1 else s.cal.waitMt }
  let sp : SpareSt := { s.spare with dwell := if s.spareRole = 1 ∨ s.spareRole = 2 then s.spare.dwell + 1 else s.spare.dwell }
  let s := { s with clk := ck, cal := cal, spare := sp, dramMt := s.dramMt + 1, boltMt := s.boltMt + 1, rtMt := s.rtMt - 1, selv := { s.selv with svcMt := s.selv.svcMt + 1 } }
  s.scrubsLate.forN 2 (fun s p => match (s.port p).heal with
    | some n => s.setPort p { s.port p with heal := some (n + 1) }
    | none => s)

/-- T of R289 follows the WARP site; the values in force are recomputed when T has moved by INTERP_STEP (R289, R293). Log: 42 DEDUCED. -/
def State.calMt (s : State) : State :=
  let s := s.put fCAL_TEMP_NOW (s.get fPWR_TEMP_SITE)
  if max 1 (s.get fCAL_CFG_INTERP_STEP) ≤ (s.calT - s.interpT).natAbs then s.recompute else s

/-- MT_TICK: the keeper's tick, and everything that happens once per mt (R28, R33, R67, R293, R554 to R557, R587, R589). -/
def execMtTick (obs : MtObs) (s : State) : Out :=
  let s := s.keeperMt obs.stamp
  let s := ((s.refMt false obs.fA).refMt true obs.fB).rereference
  let s := (s.thermMt obs.temps).calMt
  let s := (s.stressMt ((List.range 8).map s.siteT)).dayMt
  .next s.waitsMt.holdMt.wdtMt.wakeMt

/-! ### Shots (R75, R223, R231, R306, R316, R325, R349, R496, R556) -/

/-- SHOT_BOUNDARY: the next shot of fibre `f` starts at its slot instant. -/
def execShotBoundary (f : Fin 2) (s : State) : Out :=
  let f := f.val
  let p := nth s.probes f
  match p.shots with
  | [] => noEvent s
  | t :: rest =>
    let s := s.flowTo t
    let s := { s with probes := s.probes.set f { p with shots := rest } }
    .next (((((s.probeShot f t).specShot f t).rxShot f t).throttleShot f).weftShot f)

/-! ### The interlock (R230, R246, R615) -/

/-- INTERLOCK_ASSERT: the input filter takes a level. A low sets the latch, idles the gate balls and the builders, and forces lamps off; a
high only shows in IL_IN. Log: 36 DEDUCED. -/
def execInterlockAssert (low : Bool) (s : State) : Out :=
  if ¬ low then .next (s.flag fLIGHT_LOCK_IL_IN)
  else .next (((s.darken.flag fLIGHT_LOCK_IL_LATCH).unflag fLIGHT_LOCK_IL_IN).forceLamps)

end Sys2Proof.Machine
end

