-- ==== Sys2Proof/Machine/Strobes.lean ====
section
/-! DEFINITION. What the 1s of a register write do in W1C and W1S fields, and what WO fields take (R9, R10). The strobes of one write act in
the order of their bits, highest first, but CANCEL before ARM (R117) and RELEASE before GO (R509). -/

namespace Sys2Proof.Machine

/-- A strobe of a written word acts where its bit is 1. Log: 63 DESIGN CHOICE. -/
def State.strobe (s : State) (f : Fld) (w : Word) (act : State → Out) : State := if f.get w = 1 then (act s).after s else s

/-- Is `a` within the `n` words of an array at `base`? -/
def inArray (a base n : Nat) : Bool := decide (base ≤ a) && decide (a < base + n)

/-- Strobes of the timebase, the clocks and WARP (chapters 01 to 03). -/
def State.strobesWarp (s : State) (a : Nat) (w : Word) : State :=
  if a = aTB_LOAD_CTRL then
    s.strobe fTB_LOAD_CTRL_GO w (fun s =>
      let m := fTB_LOAD_CTRL_MODE.get w
      if m = 1 then execTbLoadNow s else if m = 2 then execTbLoadSyncIn s else execTbLoadModeNone (m == 3) s)
  else if a = aCLK_RETUNE then s.strobe fCLK_RETUNE_GO w execRetuneGo
  else if inArray a aWARP_BANK_CTRL 8 then
    let b := Fin.ofNat 8 (a - aWARP_BANK_CTRL)
    let k := Fin.ofNat 8 (fWARP_BANK_CTRL_FO_CH.get w)
    (s.strobe fWARP_BANK_CTRL_FO_FORCE w (execFoForce b k)).strobe fWARP_BANK_CTRL_FO_RELEASE w (execFoRelease b k)
  else if a = aWARP_APPLY then
    s.strobe fWARP_APPLY_GO w (execWarpApply (Fin.ofNat 256 (fWARP_APPLY_BANK_MASK.get w)) (Fin.ofNat 256 (fWARP_APPLY_CH_MASK.get w)))
  else if a = aWARP_TAPPLY_CTRL then
    (s.strobe fWARP_TAPPLY_CTRL_CANCEL w execWarpTapplyCancel).strobe fWARP_TAPPLY_CTRL_ARM w
      (execWarpTapplyArm (Fin.ofNat 256 (fWARP_TAPPLY_CTRL_BANK_MASK.get w)) (Fin.ofNat 256 (fWARP_TAPPLY_CTRL_CH_MASK.get w)))
  else s

/-- Strobes of Heddle and the master outputs (chapters 04, 05). -/
def State.strobesHeddle (s : State) (a : Nat) (w : Word) : State :=
  if a = aHEDDLE_IN_PS_SYNC then (execHeddleInPsSync (Fin.ofNat 65536 (fHEDDLE_IN_PS_SYNC_SYNC.get w)) s).after s
  else if a = aHEDDLE_ARM_CMD then
    let l := Fin.ofNat 64 (fHEDDLE_ARM_CMD_LINE.get w)
    s.strobe fHEDDLE_ARM_CMD_GO w (if fHEDDLE_ARM_CMD_OP.get w = 0 then execHeddleArmCmdArm l else execHeddleArmCmdDisarm l)
  else if inArray a aHEDDLE_RG_CTRL 8 then
    let g := Fin.ofNat 8 (a - aHEDDLE_RG_CTRL)
    (s.strobe fHEDDLE_RG_CTRL_GO w (execRgGo g)).strobe fHEDDLE_RG_CTRL_STOP w (execRgStop g)
  else if a = aHEDDLE_FIRE_CTRL then
    s.strobe fHEDDLE_FIRE_CTRL_GO w
      (execHeddleFireCtrlGo (Fin.ofNat 64 (fHEDDLE_FIRE_CTRL_LINE.get w)) (Fin.ofNat 16 (fHEDDLE_FIRE_CTRL_ACTION.get w)))
  else if inArray a aMOUT_CMD 8 then
    let m := Fin.ofNat 8 (a - aMOUT_CMD)
    let g := Fin.ofNat 4 (fMOUT_CMD_GEN.get w)
    (s.strobe fMOUT_CMD_REPLACE w (execReplace m g)).strobe fMOUT_CMD_CLEAR_FAULTY w (execClearFaulty m g)
  else if a = aMOUT_APPLY then s.strobe fMOUT_APPLY_GO w (execMoutApply (Fin.ofNat 256 (fMOUT_APPLY_OUT_MASK.get w)))
  else if a = aMOUT_TAPPLY_CTRL then
    (s.strobe fMOUT_TAPPLY_CTRL_CANCEL w execMoutTapplyCancel).strobe fMOUT_TAPPLY_CTRL_ARM w
      (execMoutTapplyArm (Fin.ofNat 256 (fMOUT_TAPPLY_CTRL_OUT_MASK.get w)))
  else s

/-- Strobes of the sequencers, the builders and the light budget (chapters 06, 07). -/
def State.strobesShuttle (s : State) (a : Nat) (w : Word) : State :=
  if inArray a aSEQ_CMD 2 then
    let q := Fin.ofNat 2 (a - aSEQ_CMD)
    let s := s.strobe fSEQ_CMD_GO w (execSeqGo q)
    let s := s.strobe fSEQ_CMD_STOP w (if fSEQ_CMD_STOP_AT.get w = 1 then execSeqStopAtEnd q else execSeqStop q)
    let s := s.strobe fSEQ_CMD_JUMP w (execSeqJump q (Fin.ofNat 1024 (fSEQ_CMD_TARGET.get w)))
    let s := (s.strobe fSEQ_CMD_RELEASE w (execSeqRelease q)).strobe fSEQ_CMD_APPLY w (execSeqApply q)
    (s.strobe fSEQ_CMD_TAPPLY_CANCEL w (execSeqTapplyCancel q)).strobe fSEQ_CMD_TAPPLY_ARM w (execSeqTapplyArm q)
  else if a = aPROBE_APPLY then s.strobe fPROBE_APPLY_GO w (execProbeApply (Fin.ofNat 4 (fPROBE_APPLY_FIBRE_MASK.get w)))
  else if a = aPROBE_TAPPLY_CTRL then
    (s.strobe fPROBE_TAPPLY_CTRL_CANCEL w execProbeTapplyCancel).strobe fPROBE_TAPPLY_CTRL_ARM w
      (execProbeTapplyArm (Fin.ofNat 4 (fPROBE_TAPPLY_CTRL_FIBRE_MASK.get w)))
  else if a = aLIGHT_LOCK then
    (s.strobe fLIGHT_LOCK_CAP_LOCK w execCapLock).strobe fLIGHT_LOCK_IL_CLEAR w (fun s => execIlClear (s.is fLIGHT_LOCK_IL_IN) s)
  else s

/-- Strobes of Reed, calibration and the receive path (chapters 08 to 11). -/
def State.strobesReed (s : State) (a : Nat) (w : Word) : State :=
  if inArray a aREED_GATE_CTRL 4 then
    let g := Fin.ofNat 4 (a - aREED_GATE_CTRL)
    (((s.strobe fREED_GATE_CTRL_ARM w (execGateArm g)).strobe fREED_GATE_CTRL_OPEN w (execGateHostOpen g)).strobe
      fREED_GATE_CTRL_CLOSE w (execGateHostClose g)).strobe fREED_GATE_CTRL_STOP w (execGateStop g)
  else if a = aREED_CD_CTRL then
    (s.strobe fREED_CD_CTRL_GO w (execCdGo (Fin.ofNat 65536 (fREED_CD_CTRL_MASK.get w)) (Fin.ofNat 32 (fREED_CD_CTRL_LOG2N.get w)))).strobe
      fREED_CD_CTRL_ABORT w execCdAbort
  else if a = aCAL_CMD then
    let k := fCAL_CMD_KIND.get w
    let t := fCAL_CMD_TARGET.get w
    let m := fCAL_CMD_MASK.get w
    (s.strobe fCAL_CMD_GO w (fun s => .next ((((s.calStart k t m).put fCAL_CMD_KIND k).put fCAL_CMD_TARGET t).put fCAL_CMD_MASK m))).strobe
      fCAL_CMD_ABORT w execCalAbort
  else if a = aRXW_SPARE_CTRL then
    let p := Fin.ofNat 9 (fRXW_SPARE_CTRL_POS.get w)
    if 9 ≤ fRXW_SPARE_CTRL_POS.get w then s
    else ((s.strobe fRXW_SPARE_CTRL_FO_FORCE w (execRxFoForce p)).strobe fRXW_SPARE_CTRL_FO_RELEASE w (execRxFoRelease p)).strobe
      fRXW_SPARE_CTRL_CLEAR_FAULTY w (execRxClearFaulty p)
  else if a = aRXW_APPLY then s.strobe fRXW_APPLY_GO w (execRxwApply (Fin.ofNat 4 (fRXW_APPLY_FIBRE_MASK.get w)))
  else if a = aRXW_TAPPLY_CTRL then
    (s.strobe fRXW_TAPPLY_CTRL_CANCEL w execRxwTapplyCancel).strobe fRXW_TAPPLY_CTRL_ARM w
      (execRxwTapplyArm (Fin.ofNat 4 (fRXW_TAPPLY_CTRL_FIBRE_MASK.get w)))
  else if inArray a aRES_SPEC_CFG 2 then s.strobe fRES_SPEC_CFG_REBASE w (execRebase (Fin.ofNat 2 (a - aRES_SPEC_CFG)))
  else s

/-- Strobes and write-only words of Bolt, the history and the chain (chapters 12 to 15). -/
def State.strobesBolt (s : State) (a : Nat) (w : Word) : State :=
  if a = aBOLT_PUSH_CTRL then s.strobe fBOLT_PUSH_CTRL_BAD w execPushBad
  else if inArray a aBOLT_PUSH_WORD 4 then
    (match a - aBOLT_PUSH_WORD with
      | 0 => execPushMiddle w s
      | 1 => execPushSop w s
      | 2 => execPushEop w s
      | _ => execPushSopEop w s).after s
  else if inArray a aBOLT_Q_CTRL 4096 then s.strobe fBOLT_Q_CTRL_FLUSH w (execFlush (Fin.ofNat 4096 (a - aBOLT_Q_CTRL)))
  else if inArray a aHIST_STREAM_STATUS 2 then s.strobe fHIST_STREAM_STATUS_RESET w (execStreamRegionReset (Fin.ofNat 2 (a - aHIST_STREAM_STATUS)))
  else if a = aHIST_MARK_CMD then
    let k := Fin.ofNat 64 (fHIST_MARK_CMD_SKEIN.get w)
    s.strobe fHIST_MARK_CMD_GO w
      (if fHIST_MARK_CMD_OP.get w = 0 then execHistMark k else execHistRelease k (Fin.ofNat 16 (fHIST_MARK_CMD_SLOT.get w)))
  else if a = aHIST_RT_CTRL then
    s.strobe fHIST_RT_CTRL_GO w (execRetentionTestGo (Fin.ofNat 16384 (fHIST_RT_CTRL_TEST_PAGE.get w)) (Fin.ofNat 256 (fHIST_RT_CTRL_HOLD.get w)))
  else if inArray a aHIST_RD_CTRL 8 then
    let r := Fin.ofNat 8 (a - aHIST_RD_CTRL)
    (s.strobe fHIST_RD_CTRL_GO w (execReaderGo r)).strobe fHIST_RD_CTRL_STOP w (execReaderStop r)
  else if a = aCHAIN_ENUM_CMD then s.strobe fCHAIN_ENUM_CMD_GO w execEnumGo
  else if a = aCHAIN_TRIG_CTRL then
    s.strobe fCHAIN_TRIG_CTRL_GO w (execChainTrigGo (Fin.ofNat 1024 (fCHAIN_TRIG_CTRL_DST.get w)) (Fin.ofNat 64 (fCHAIN_TRIG_CTRL_DLINE.get w))
      (Fin.ofNat 16 (fCHAIN_TRIG_CTRL_ACTION.get w)) (Fin.ofNat 256 (fCHAIN_TRIG_CTRL_GROUP.get w)))
  else if inArray a aCHAIN_MOD_CTRL 2 then
    let p := Fin.ofNat 2 (a - aCHAIN_MOD_CTRL)
    let pg := Fin.ofNat 256 (fCHAIN_MOD_CTRL_PAGE.get w)
    let o := Fin.ofNat 256 (fCHAIN_MOD_CTRL_OFFSET.get w)
    s.strobe fCHAIN_MOD_CTRL_GO w
      (if fCHAIN_MOD_CTRL_RW.get w = 0 then execModuleRead p pg o else execModuleWrite p pg o (Fin.ofNat 256 (fCHAIN_MOD_CTRL_DATA.get w)))
  else if a = aHOST_STROBE_CTRL then
    s.strobe fHOST_STROBE_CTRL_GO w (execHostStrobe (fHOST_STROBE_CTRL_REL.get w == 1) (Fin.ofNat 64 (fHOST_STROBE_CTRL_LINE.get w))
      (Fin.ofNat 16 (fHOST_STROBE_CTRL_ACTION.get w)))
  else s

/-- A claim or release by firmware is remembered, for the MGMT reset that ends it (R528). -/
def State.fwClaim (s : State) (path act : Nat) : State :=
  if path = 5 ∧ 1 ≤ act then s.setMgmt { s.mgmt with claims := withBit s.mgmt.claims act (s.actHeld act) } else s

/-- Strobes and write-only words of the draft loader, maintenance and MGMT (chapters 16 to 18). -/
def State.strobesMgmt (s : State) (path a : Nat) (w : Word) : State :=
  if a = aDRAFT_CTRL then
    (((s.strobe fDRAFT_CTRL_BEGIN w execDraftBegin).strobe fDRAFT_CTRL_ABORT w execDraftAbort).strobe
      fDRAFT_CTRL_APPLY w execDraftApply).strobe fDRAFT_CTRL_COMMIT w execDraftCommit
  else if inArray a aDRAFT_DATA 8192 then (execDraftData (some w) s).after s
  else if a = aGROUP_TAPPLY_CTRL then
    (s.strobe fGROUP_TAPPLY_CTRL_CANCEL w execGroupTapplyCancel).strobe fGROUP_TAPPLY_CTRL_ARM w
      (execGroupTapplyArm (Fin.ofNat 256 (fGROUP_TAPPLY_CTRL_GROUP.get w)))
  else if a = aMAINT_CLAIM then
    let act := Fin.ofNat 16 (fMAINT_CLAIM_ACT.get w)
    ((s.strobe fMAINT_CLAIM_RELEASE w (execMaintClaimRelease act)).strobe fMAINT_CLAIM_GO w (execMaintClaimGo act)).fwClaim path act.val
  else if a = aMGMT_STATUS then (s.strobe fMGMT_STATUS_BOOT_OK w execBootOk).strobe fMGMT_STATUS_REBOOT w execReboot
  else if a = aMGMT_WDT then s.strobe fMGMT_WDT_KICK w execKick
  else if a = aMGMT_RESUME then s.strobe fMGMT_RESUME_RESUME w execResume
  else if a = aMGMT_CKPT then s.strobe fMGMT_CKPT_GO w execCkptGo
  else if a = aMGMT_CALSET then s.strobe fMGMT_CALSET_GO w execCalsetGo
  else if a = aMGMT_FW_CTRL then (s.strobe fMGMT_FW_CTRL_BEGIN w execFwBegin).strobe fMGMT_FW_CTRL_ABORT w execFwAbort
  else if inArray a aMGMT_FW_DATA 8192 then (execFwData w s).after s
  else if a = aMGMT_MBX_CMD then
    s.strobe fMGMT_MBX_CMD_GO w (execMbxGo (Fin.ofNat 256 (fMGMT_MBX_CMD_OPCODE.get w)) (Fin.ofNat 256 (fMGMT_MBX_CMD_TAG.get w)))
  else s

/-- The GO of an injection kind (R583). -/
def injectGo (kind : Nat) (u : Fin 2048) (c : Fin 16384) (t e : Bool) : State → Out :=
  match kind with
  | 1 => execGenShift u c t e
  | 2 => execGenMiss u c t e
  | 3 => execBallStuck u c t e
  | 4 => execPllwUnlock u c t e
  | 5 => execPllwStep u c t e
  | 6 => execRefStop u c t e
  | 7 => execTripleFlip u c t e
  | 8 => execStructFlip u c t e
  | 9 => execSramSbe u c t e
  | 10 => execSramDbe u c t e
  | 11 => execDramSbe u c t e
  | 12 => execDramDbeInject u c t e
  | 13 => execLinkDrop u c t e
  | 14 => execJesdCrc u c t e
  | 15 => execSliceCmp u c t e
  | 16 => execSlicePar u c t e
  | 17 => execWeftResidue u c t e
  | 18 => execInjectLockstep u c t e
  | 19 => execKickBlock u c t e
  | 20 => execInjectSensor u c t e
  | 21 => execInjectMonitor u c t e
  | 22 => execInjectSupply u c t e
  | 23 => execInjectLogic u c t e
  | 24 => execInjectPin u c t e
  | k => execInjectKindNotUsed (Fin.ofNat 256 k) u c t e

/-- Strobes of the power controller, Selvedge, ageing, the converters and lamps (chapters 19 to 22); `armed` is INJ_EN before the write
(R582). -/
def State.strobesSelvedge (s : State) (armed : Bool) (a : Nat) (w : Word) : State :=
  if a = aPWR_THERM then s.strobe fPWR_THERM_SD_CLEAR w execSdClear
  else if a = aFAULT_CFG then s.strobe fFAULT_CFG_HOLD_RELEASE w execHoldRelease
  else if a = aFAULT_INJ_CTRL then
    s.strobe fFAULT_INJ_CTRL_GO w (injectGo (fFAULT_INJ_CTRL_KIND.get w) (Fin.ofNat 2048 (fFAULT_INJ_CTRL_UNIT.get w))
      (Fin.ofNat 16384 (fFAULT_INJ_CTRL_COUNT.get w)) (fFAULT_INJ_CTRL_TEST.get w == 1) (armed || fFAULT_INJ_CTRL_INJ_EN.get w == 1))
  else if a = aHEALTH_CTRL then (s.strobe fHEALTH_CTRL_TRIM_REREF w execTrimReref).strobe fHEALTH_CTRL_LAMP_REREF w execLampReref
  else if a = aMON_SELFTEST then s.strobe fMON_SELFTEST_GO w execMonSelftestGo
  else if a = aLAMP_APPLY then s.strobe fLAMP_APPLY_GO w execLampApply
  else if a = aLAMP_CLR then (execLampClr (Fin.ofNat (2 ^ 32) (fLAMP_CLR_CLR.get w)) s).after s
  else s

/-- The strobes of a register word, by its region. Log: 63 DESIGN CHOICE. -/
def State.strobes (s : State) (armed : Bool) (path a : Nat) (w : Word) : State :=
  (((((s.strobesWarp a w).strobesHeddle a w).strobesShuttle a w).strobesReed a w).strobesBolt a w).strobesMgmt path a w |>.strobesSelvedge armed a w

/-- A W1C field after a write of `w`: bits written as 1 clear, but for those that an event of the same wc has set (R9, R10). -/
def State.w1cLeft (s : State) (a : Nat) (w old : Word) (f : Fld) : Nat :=
  let new := match s.evtAt a f.lo with | some e => e.amt | none => 0
  (f.get old &&& (f.get old ^^^ f.get w)) ||| (f.get old &&& new)

/-- The W1C fields of a word lose the bits written as 1 (R9, R10); FAULT_ACTIVE keeps a class whose condition holds (R576), and the pins
follow REMOTE. -/
def State.clearOnes (s : State) (a : Nat) (w : Word) : State :=
  if a = aFAULT_ACTIVE then (execFaultActiveClear (Fin.ofNat (2 ^ 31) (fFAULT_ACTIVE_ACTIVE.get w)) s).after s
  else
    let fs := (fieldsAt a).filter (fun f => f.acc == .w1c)
    if fs = [] then s
    else
      let old := s.word a
      let s := s.setWord a (fs.foldl (fun x f => f.set x (s.w1cLeft a w old f)) old)
      if a = aFAULT_STATUS then s.showPins else s

/-- A register write as R9 states it: RW and RWL fields under their classes, W1C fields, then the strobes. A shadow written in this owner
cycle stays out of an apply of the cycle (R7). -/
def State.writeAll (s : State) (path a : Nat) (w : Word) : State :=
  let armed := s.is fFAULT_INJ_CTRL_INJ_EN
  let s := if (fieldsAt a).any (fun f => f.cls == .d) then s.noteShadow a else s
  ((s.writeFields path a w).clearOnes a w).strobes armed path a w

end Sys2Proof.Machine
end

