-- ==== Sys2Proof/Machine/Access.lean ====
section
/-! DEFINITION. Register access by every path (R9, R441, R460 to R469, R645): local reads and writes, the chain's register frames, the remote
window, Ethernet requests, SPI and JTAG. Path codes: 0 BAR, 1 Ethernet, 2 SPI, 3 JTAG, 4 chain, 5 firmware. -/

namespace Sys2Proof.Machine

/-! ### One word (R9, R10, R12, R23, R468, R645) -/

/-- Can a domain's registers be accessed: ON or LOADING (R545)? Log: 9 DEDUCED. -/
def State.domAccess (s : State) (d : Nat) : Bool := s.domState d == 3 || s.domState d == 6

/-- Does an access to `a` wait for the reload of its window (R544)? -/
def State.mustWait (s : State) (a : Nat) : Bool := s.domState (domAt a) == 6 && (tableWindow a || structWindow a)

/-- Is an access path open now: the host port trained, and LINK not held (R454, R469)? Log: 61 DEDUCED. -/
def State.pathOpen (s : State) (path : Nat) : Bool :=
  if path = 0 then s.pcieUp && !s.islandHeld 7 else if path = 1 then s.ethUp && !s.islandHeld 7 else true

/-- The fields of a word that a read forms from the state of their blocks. Log: 89 DEDUCED. -/
def State.formed (s : State) (a : Nat) (w : Word) : Word :=
  let w := s.clockLive a (s.heddleLive a (s.seqLive a (s.probeLive a (s.lightLive a (s.reedLive a w)))))
  let w := s.rxLive a (s.calLive a (s.boltLive a (s.pushLive a (s.histLive a (s.resumeLive a w)))))
  if a = aPWR_REQ then fPWR_REQ_REQ.set w (fPWR_REQ_REQ.get w / 16 * 16 + 5)
  else if a = aPWR_ENABLED then fPWR_ENABLED_EN.set w (fPWR_ENABLED_EN.get w / 4 * 4 + 3)
  else if a = aFAULT_STATUS then (if s.fwState = 0 then fFAULT_STATUS_SVC_STALE.set w 1 else w)
  else if aFRAME_WORKING ≤ a ∧ a < aFRAME_WORKING + 256 then s.word (aFRAME_SHADOW + (a - aFRAME_WORKING))
  else if a = aLAMP_STATUS then fLAMP_STATUS_FORCED.set w (b2n s.anyForced)
  else w

/-- What a read of `a` does before it returns: snapshots (R23, R35, R158, R268, SEQ_POS) and the pop of BOLT_POP_DATA (R384). -/
def State.readEffect (s : State) (a : Nat) : State :=
  if a = aTB_NOW_LO then (execTbNowRead s).after s
  else if a = aTB_MT_STAMP_LO then (execTbMtStampRead s).after s
  else if a = aHEDDLE_LAST_LO then (execHeddleLastRead s).after s
  else if inArray a aREED_MU_RES 32 ∧ (a - aREED_MU_RES) % 8 = 0 then (execMuResultRead (Fin.ofNat 4 ((a - aREED_MU_RES) / 8)) s).after s
  else if a = aBOLT_POP_DATA then (execPopRead false s).after s
  else if a = aSEQ_POS ∨ a = aSEQ_POS + 1 then s.seqPosRead (a - aSEQ_POS)
  else s.bringUp a

/-- What a field of access RC keeps after a read: what events of the same wc have set in it (R9, R10). -/
def State.rcKept (s : State) (a : Nat) (f : Fld) : Nat :=
  match s.evtAt a f.lo with | some e => satU (fldWidth f) e.amt | none => 0

/-- The RC fields of a word are cleared, but for the events of the same wc; LOW_FREE starts again at the present FREE (R9, R10, chapter 12). Log: 90 DEDUCED. -/
def State.clearRc (s : State) (a : Nat) : State :=
  if a = aBOLT_POOL_LOW then s.put fBOLT_POOL_LOW_LOW_FREE s.freeCells else
  let fs := (fieldsAt a).filter (fun f => f.acc == .rc)
  if fs = [] then s
  else
    let evts := s.evts.map (fun e => if e.addr == a then { e with before := 0 } else e)
    { s.setWord a (fs.foldl (fun w f => f.set w (s.rcKept a f)) (s.word a)) with evts := evts }

/-- A field as a read of it finds it: of access RC as it stood before the events of the same wc (R10), write-only zero (R9). -/
def State.fieldRead (s : State) (a : Nat) (w : Word) (f : Fld) : Word :=
  if f.acc == .wo then f.set w 0
  else if f.acc == .rc then (match s.evtAt a f.lo with | some e => f.set w e.before | none => w)
  else w

/-- The word a read returns: structure as written, formed fields, RC fields as R10 says, and zeros in write-only fields (R9, R497). -/
def State.readValue (s : State) (a : Nat) : Word := (fieldsAt a).foldl (s.fieldRead a) (s.formed a (s.structWord a))

/-- A read of one word by a path: its value, the state after it, and whether the word is mapped. -/
def State.busRead (s : State) (path a : Nat) : Word × State × Bool :=
  match regAt a with
  | none => (0, if path = 4 then s else s.flag fHOST_STATUS_ACC_ERR, false)
  | some r =>
    if ¬ s.domAccess r.dom then (0, s.flag fHOST_STATUS_ACC_ERR, true)
    else
      let s := s.readEffect a
      (s.readValue a, s.clearRc a, true)

/-- A write of one word by a path: the state after it, and whether the word is mapped. -/
def State.busWrite (s : State) (path a : Nat) (w : Word) : State × Bool :=
  match regAt a with
  | none => (if path = 4 then s else s.flag fHOST_STATUS_ACC_ERR, false)
  | some r => if ¬ s.domAccess r.dom then (s.flag fHOST_STATUS_ACC_ERR, true) else (s.writeAll path a w, true)

/-! ### Runs of words -/

/-- `n` words are read from `a` on: the words, the state, and whether every word is mapped. -/
def State.readRun (s : State) (path a : Nat) : Nat → List Word × State × Bool
  | 0 => ([], s, true)
  | n + 1 =>
    let r := s.busRead path a
    let t := r.2.1.readRun path (a + 1) n
    (r.1 :: t.1, t.2.1, r.2.2 && t.2.2)

/-- Words are written from `a` on. -/
def State.writeRun (s : State) (path a : Nat) : List Word → State × Bool
  | [] => (s, true)
  | w :: ws =>
    let r := s.busWrite path a w
    let t := r.1.writeRun path (a + 1) ws
    (t.1, r.2 && t.2)

/-- Does a run of `n` words from `a` wait for a reload? -/
def State.runWaits (s : State) (a n : Nat) : Bool := (List.range n).any (fun i => s.mustWait (a + i))

/-- May a REPL write name this address: a per-channel register of channel 0 (R441)? -/
def replAddr (a : Nat) : Bool := decide (0x20000 ≤ a ∧ a ≤ 0x201FF) && a % 64 == 0

/-- Each data word is written to the same register of every selected channel (R441). Log: 59 DEDUCED. -/
def State.writeRepl (s : State) (path a banks chans : Nat) (ws : List Word) : State × Bool :=
  ws.foldl (fun x w => (chansOf banks chans).foldl (fun x n => let r := x.1.busWrite path (a + n) w; (r.1, x.2 && r.2)) x) (s, true)

/-- A register write of words as a frame or request carries it: the state and its STATUS (R417, R441, R645). -/
def State.writeWords' (s : State) (path a : Nat) (masks : Option (Nat × Nat)) (ws : List Word) : State × Nat :=
  match masks with
  | some (b, c) =>
    if ¬ replAddr a then (s, 2)
    else
      let r := s.writeRepl path a b c ws
      (r.1, if r.2 then 0 else 1)
  | none =>
    let r := s.writeRun path a ws
    (r.1, if r.2 then 0 else 1)

/-! ### Local access (R460, R461, R466, R468) -/

/-- REGISTER_WRITE: a write of one word by a path; a BAR write that is not 8 bytes and aligned is discarded. -/
def execRegisterWrite (path : Fin 6) (a : Fin 16777216) (w : Word) (whole : Bool) (s : State) : Out :=
  if ¬ s.pathOpen path.val ∨ s.mustWait a.val then noEvent s
  else if path.val = 0 ∧ ¬ whole then .next (s.flag fHOST_STATUS_ACC_ERR)
  else .next (s.busWrite path.val a.val w).1

/-- READ_CLEAR: a read of one word by a path, its RC fields cleared after it. `size` on BAR0: 0 the slot, 1 its lower and 2 its upper half, 3
any other access, which is discarded (R9, R10, R460, R461). Log: 60 DEDUCED, 90 DEDUCED. -/
def execReadClear (path : Fin 6) (a : Fin 16777216) (size : Fin 4) (s : State) : Out :=
  if ¬ s.pathOpen path.val ∨ s.mustWait a.val then noEvent s
  else if path.val = 0 ∧ size.val = 3 then .next (s.flag fHOST_STATUS_ACC_ERR)
  else
    let r := s.busRead path.val a.val
    let v := r.1.toNat
    .next (r.2.1.send (if path.val = 0 then .bar (if size.val = 1 then v % 2 ^ 32 else if size.val = 2 then v / 2 ^ 32 else v)
      else .words path.val [r.1]))

/-- SPI_WRITE: opcode 0x02 writes words from an address on (R466). -/
def execSpiWrite (a : Fin 16777216) (ws : List Word) (s : State) : Out :=
  if s.runWaits a.val ws.length then noEvent s else .next (s.writeRun 2 a.val ws).1

/-- SPI_READ: opcode 0x03 reads words from an address on (R466). -/
def execSpiRead (a : Fin 16777216) (n : Fin 16777216) (s : State) : Out :=
  if s.runWaits a.val n.val then noEvent s
  else
    let r := s.readRun 2 a.val n.val
    .next (r.2.1.send (.words 2 r.1))

/-- SPI_STATUS: opcode 0x05 returns ACC_ERR in bit 0 and BUSY, which the manual does not define further, in bit 1 (R466, R468). Log: 58 DEDUCED. -/
def execSpiStatus (s : State) : Out :=
  let r := s.free
  .next (r.2.send (.spiStatus (s.get fHOST_STATUS_ACC_ERR + 2 * (r.1 % 2))))

/-- REGACC: a JTAG scan returns the result of the read before it, and performs a read or a write (R466). -/
def execRegacc (write : Bool) (a : Fin 16777216) (w : Word) (s : State) : Out :=
  if s.mustWait a.val then noEvent s
  else
    let s := s.send (.words 3 [s.host.jtag])
    if write then .next (s.busWrite 3 a.val w).1
    else
      let r := s.busRead 3 a.val
      .next { r.2.1 with host := { r.2.1.host with jtag := r.1 } }

/-! ### Answers to remote accesses (R462, R465) -/

/-- Words of a READ response that fit the MTU after the IPv4, UDP and register-access headers (R463, R465). -/
def State.answerRoom (s : State) : Nat := ((if s.is fHOST_CFG_MTU then 9000 else 1500) - 44) / 8

/-- An answer leaves in datagrams of at most `answerRoom` words, in address order (R465). -/
def State.sendAnswer (s : State) (src op id dev addr st : Nat) (ws : List Word) : Nat → State
  | 0 => s
  | k + 1 =>
    let n := s.answerRoom
    let s := s.send (.answer src op id dev addr st (ws.take n))
    if ws.length ≤ n then s else s.sendAnswer src op id dev (addr + n) st (ws.drop n) k

/-- An answer leaves, whole or in parts. -/
def State.emitAnswer (s : State) : HostOut → State
  | .answer src op id dev addr st ws => s.sendAnswer src op id dev addr st ws (ws.length + 1)
  | o => s.send o

/-- The stored response of a source for the request it last made (R465). -/
def State.storeAnswer (s : State) (src id : Nat) (o : HostOut) : State :=
  { s with host := { s.host with srcs := s.host.srcs.map (fun e => if e.src = src ∧ e.id = id then { e with rsp := some o } else e) } }

/-- A request is answered and the answer kept. -/
def State.answer (s : State) (r : EthReq) (write : Bool) (st : Nat) (ws : List Word) : State :=
  let o : HostOut := .answer r.src (if write then 0x81 else 0x82) r.id r.dev r.addr st ws
  (s.storeAnswer r.src r.id o).emitAnswer o

/-- All ones: what a failed remote read completes with (R462). -/
def allOnes : Nat := 2 ^ 64 - 1

/-- What a window read returns of a slot. Log: 60 DEDUCED. -/
def slotHalf (half v : Nat) : Nat := if half = 1 then v % 2 ^ 32 else if half = 2 then v / 2 ^ 32 else v

/-- A remote access completes with a STATUS and its data: the window read's value, or the answer to the Ethernet request; 4 stands for a
failure of R462. Log: 60 DEDUCED. -/
def State.remoteDone (s : State) (x : RemoteWait) (st : Nat) (ws : List Word) : State :=
  match x.eth with
  | some r => if x.write ∧ ¬ r.ack then s else s.answer r x.write st ws
  | none => if x.write then s else s.send (.bar (slotHalf x.half (if st = 0 then (ws.getD 0 0).toNat else allOnes)))

/-! ### Register frames of the chain (R417, R441, R462) -/

/-- A REG_RSP reaches the device that waits for it; a STATUS other than OK is recorded (R462). -/
def State.takeRsp (s : State) (f : ChFrame) : State :=
  let w := f.words.getD 0 0
  match s.host.waits.find? (fun x => x.seq == getBits w 24 12) with
  | none => s
  | some x =>
    let st := getBits w 20 4
    let s := { s with host := { s.host with waits := s.host.waits.erase x } }
    let s := if st = 0 then s else (s.flag fHOST_STATUS_REMOTE_ERR).put fHOST_STATUS_RSP_STATUS st
    s.remoteDone x st (f.words.drop 1)

/-- A frame leaves for one device, this one included. -/
def State.sendOne (s : State) (f : ChFrame) (self : State → State) : State := if f.dst = s.addr then self s else s.sendRoute f

/-- The REG_RSP to a request frame; an unplaced device originates none (R417, R423, R441). Log: 58 DEDUCED. -/
def State.sendRsp (s : State) (f : ChFrame) (st : Nat) (ws : List Word) : State :=
  if ¬ s.mayOriginate then s
  else
  let r := s.newFrame 8 f.src 0 (BitVec.ofNat 36 (f.seq * 2 ^ 24 + st * 2 ^ 20) :: ws)
  r.2.sendOne r.1 (fun s => s.takeRsp r.1)

/-- A REG_WR frame is performed here (R441). -/
def State.performWr (s : State) (f : ChFrame) : State :=
  let h := f.words.getD 0 0
  let repl := bitOf h 11
  let m := f.words.getD 1 0
  let r := s.writeWords' 4 (getBits h 12 24) (if repl then some (getBits m 28 8, getBits m 20 8) else none) (f.words.drop (if repl then 2 else 1))
  if bitOf h 10 then r.1.sendRsp f r.2 [] else r.1

/-- A REG_RD frame is performed here (R441). -/
def State.performRd (s : State) (f : ChFrame) : State :=
  let h := f.words.getD 0 0
  let r := s.readRun 4 (getBits h 12 24) (getBits h 0 12 + 1)
  r.2.1.sendRsp f (if r.2.2 then 0 else 1) r.1

/-- Is a register frame for this device and must it wait, for a reload or for the release of LINK (R469, R496, R544)? -/
def State.frameWaits (s : State) (f : ChFrame) : Bool :=
  let h := f.words.getD 0 0
  (f.dst == 1023 || f.dst == s.addr) &&
    (s.islandHeld 7 || s.runWaits (getBits h 12 24) (if f.typ = 7 then getBits h 0 12 + 1 else if bitOf h 11 then 64 else f.words.length - 1))

/-- REG_WR: a REG_WR frame is received at port `p`, performed here or forwarded (R418, R441). Log: 60 DEDUCED. -/
def execRegWr (p : Fin 2) (f : ChFrame) (crc : Fin (2 ^ 32)) (s : State) : Out :=
  if s.frameWaits f then noEvent s else s.chainRecv p.val f crc.val 6 none (fun s => s.performWr f)

/-- REG_RD: a REG_RD frame is received, performed here or forwarded; one to 0x3FF is discarded (R441). Log: 60 DEDUCED. -/
def execRegRd (p : Fin 2) (f : ChFrame) (crc : Fin (2 ^ 32)) (s : State) : Out :=
  if f.dst = 1023 then
    (if ¬ s.chained ∨ ¬ s.portUp p.val ∨ f.typ ≠ 7 then noEvent s
     else if ¬ (s.port p.val).heard then .next s
     else .next (if frCrcOk f crc.val then s.routeDrop.freeBuf (some p.val) f else s.badCrc p.val f))
  else if s.frameWaits f then noEvent s
  else s.chainRecv p.val f crc.val 7 none (fun s => s.performRd f)

/-- REG_RSP: a REG_RSP frame is received; here it completes the access that waits for it (R462). -/
def execRegRsp (p : Fin 2) (f : ChFrame) (crc : Fin (2 ^ 32)) (s : State) : Out := s.chainRecv p.val f crc.val 8 none (fun s => s.takeRsp f)

/-- An access waits for a REG_RSP that no frame answers: an unplaced device originates no register frame (R423). No SEQ is 4 096. -/
def State.waitOnly (s : State) (x : Option RemoteWait) : State :=
  match x with | some x => { s with host := { s.host with waits := s.host.waits ++ [x] } } | none => s

/-- A REG_WR originated here; a broadcast also reaches this device (R418, R423). -/
def State.originateWr (s : State) (dst : Nat) (ack : Bool) (a : Nat) (masks : Option (Nat × Nat)) (ws : List Word) (wait : Nat → Option RemoteWait) : State :=
  let h := BitVec.ofNat 36 (a * 2 ^ 12 + b2n masks.isSome * 2 ^ 11 + b2n ack * 2 ^ 10)
  let m := match masks with | some (b, c) => [BitVec.ofNat 36 (b * 2 ^ 28 + c * 2 ^ 20)] | none => []
  if ¬ s.mayOriginate then s.waitOnly (wait 4096)
  else
  let r := s.newFrame 6 dst 0 (h :: m ++ ws)
  let s := r.2.waitOnly (wait r.1.seq)
  if dst = 1023 then (s.broadcast r.1).performWr r.1 else s.sendOne r.1 (fun s => s.performWr r.1)

/-- A REG_RD originated here (R423). -/
def State.originateRd (s : State) (dst a n : Nat) (wait : Nat → RemoteWait) : State :=
  if ¬ s.mayOriginate then s.waitOnly (some (wait 4096))
  else
  let r := s.newFrame 7 dst 0 [BitVec.ofNat 36 (a * 2 ^ 12 + (n - 1))]
  let s := r.2.waitOnly (some (wait r.1.seq))
  s.sendOne r.1 (fun s => s.performRd r.1)

/-! ### The remote window (R460 to R462) -/

/-- REMOTE_WRITE: a write in the remote window becomes one REG_WR frame to DST (R455, R461, R462). -/
def execRemoteWrite (a : Fin 16777216) (w : Word) (whole : Bool) (s : State) : Out :=
  let dst := s.get fHOST_REMOTE_DST
  let ack := s.is fHOST_REMOTE_ACK
  if ¬ s.pathOpen 0 ∨ ¬ s.drafted then noEvent s
  else if ¬ whole then .next (s.flag fHOST_STATUS_ACC_ERR)
  else if ¬ s.chained then .next s
  else .next (s.originateWr dst ack a.val none [w] (fun q => if ack then some ⟨q, none, true, 0, s.nowT⟩ else none))

/-- REMOTE_READ: a read in the remote window becomes one REG_RD frame of COUNT 1; it completes at once with all ones on a device that is in
no chain and for DST 0x3FE or 0x3FF (R455, R461, R462). -/
def execRemoteRead (a : Fin 16777216) (size : Fin 4) (s : State) : Out :=
  let dst := s.get fHOST_REMOTE_DST
  if ¬ s.pathOpen 0 ∨ ¬ s.drafted then noEvent s
  else if size.val = 3 then .next (s.flag fHOST_STATUS_ACC_ERR)
  else if ¬ s.chained ∨ 1022 ≤ dst then .next ((s.flag fHOST_STATUS_REMOTE_ERR).send (.bar (slotHalf size.val allOnes)))
  else .next (s.originateRd dst a.val 1 (fun q => ⟨q, none, false, size.val, s.nowT⟩))

/-- REMOTE_READ_TIMEOUT: TIMEOUT × 10 µs pass without the REG_RSP of the access that has waited longest (R462, R465). Log: 60 DEDUCED. -/
def execRemoteReadTimeout (s : State) : Out :=
  match s.host.waits with
  | [] => noEvent s
  | x :: rest =>
    let s := s.flowTo (tAdd x.at_ (s.usUp (10 * max 1 (s.get fHOST_REMOTE_TIMEOUT))))
    let s := { s with host := { s.host with waits := rest } }
    .next ((if x.write then s else s.flag fHOST_STATUS_RD_TIMEOUT).remoteDone x 4 [])

/-! ### Ethernet requests (R463, R465) -/

/-- The source of a request, if it has been seen among the last 8. -/
def State.ethSrc (s : State) (src : Nat) : Option EthSrc := s.host.srcs.find? (fun e => e.src == src)

/-- Does a request repeat its source's last REQ_ID? -/
def State.isDup (s : State) (src id : Nat) : Bool := match s.ethSrc src with | some e => e.id == id | none => false

/-- A repeated request is not performed again: its stored response is sent again (R465). -/
def State.dupReq (s : State) (src : Nat) : State :=
  let s := s.bump fHOST_STATUS_DUP_REQ
  match s.ethSrc src with
  | some e => (match e.rsp with | some o => s.emitAnswer o | none => s)
  | none => s

/-- A new request's source becomes the latest of the last 8. -/
def State.noteSrc (s : State) (src id : Nat) : State :=
  { s with host := { s.host with srcs := (⟨src, id, none⟩ :: s.host.srcs.filter (fun e => e.src != src)).take 8 } }

/-- What every request undergoes: the path, duplicates, and the note of its source. -/
def State.ethRequest (s : State) (r : EthHdr) (act : State → State) : Out :=
  if ¬ s.pathOpen 1 then noEvent s
  else if s.isDup r.src r.id.val then .next (s.dupReq r.src)
  else .next (act (s.noteSrc r.src r.id.val))

/-- A datagram is discarded and counted. -/
def State.ethDrop (s : State) : State := s.bump fHOST_STATUS_ETH_DROP

/-- ETH_WRITE: a WRITE request, with the masks of REPL 1, is performed here or carried as REG_WR (R441, R462, R465). Log: 59 DEDUCED. -/
def execEthWrite (r : EthHdr) (a : Fin 16777216) (masks : Option (Fin 256 × Fin 256)) (ws : List Word) (s : State) : Out :=
  let q : EthReq := ⟨r.src, r.id.val, r.dev.val, r.ack, a.val⟩
  let m := masks.map (fun e => (e.1.val, e.2.val))
  if r.dev.val = s.addr ∧ s.runWaits a.val (if m.isSome then 64 else ws.length) then noEvent s
  else s.ethRequest r (fun s =>
    if ws = [] ∨ 1024 < ws.length then s.ethDrop
    else if r.dev.val = s.addr then
      let t := s.writeWords' 1 a.val m ws
      if r.ack then t.1.answer q true t.2 [] else t.1
    else if ¬ s.chained then (if r.ack then s.answer q true 4 [] else s)
    else s.originateWr r.dev.val r.ack a.val m ws (fun n => if r.ack then some ⟨n, some q, true, 0, s.nowT⟩ else none))

/-- ETH_READ: a READ request returns COUNT words, or is carried as REG_RD (R441, R462, R465). Log: 59 DEDUCED. -/
def execEthRead (r : EthHdr) (a : Fin 16777216) (count : Fin 65536) (s : State) : Out :=
  let q : EthReq := ⟨r.src, r.id.val, r.dev.val, r.ack, a.val⟩
  let n := count.val
  if r.dev.val = s.addr ∧ s.runWaits a.val (min n 1024) then noEvent s
  else s.ethRequest r (fun s =>
    if n = 0 ∨ 1024 < n then s.ethDrop
    else if r.dev.val = s.addr then
      let t := s.readRun 1 a.val n
      t.2.1.answer q false (if t.2.2 then 0 else 1) t.1
    else if ¬ s.chained ∨ 1022 ≤ r.dev.val then (s.flag fHOST_STATUS_REMOTE_ERR).answer q false 4 []
    else s.originateRd r.dev.val a.val n (fun k => ⟨k, some q, false, 0, s.nowT⟩))

/-- The words of a record are pushed with its marks. -/
def State.pushRecord (s : State) (c : Nat) (r : Bool × Bool × List Word) : State :=
  let n := r.2.2.length
  r.2.2.zipIdx.foldl (fun s e => s.channelPush c e.1 (r.1 && e.2 == 0) (r.2.1 && e.2 + 1 == n)) s

/-- ETH_PUSH: records, each with SOP, EOP and words, are pushed to a push channel (R461, R465). Log: 59 DEDUCED. -/
def execEthPush (r : EthHdr) (c : Fin 64) (recs : List (Bool × Bool × List Word)) (s : State) : Out :=
  s.ethRequest r (fun s => recs.foldl (fun s x => s.pushRecord c.val x) s)

/-- ETH_STROBE: a host strobe whose due time has the COARSE and FINE of its first slot, and the EPOCH of HOST_STROBE_HI (R465, R467, log
entry). Log: 59 DEDUCED. -/
def execEthStrobe (r : EthHdr) (due ctrl : Word) (s : State) : Out :=
  s.ethRequest r (fun s =>
    let old := s.word aHOST_STROBE_LO
    let d := (s.setWord aHOST_STROBE_LO due).strobeDue (fHOST_STROBE_CTRL_REL.get ctrl == 1)
    (d.2.setWord aHOST_STROBE_LO old).sendDue
      ⟨.line (Fin.ofNat 64 (fHOST_STROBE_CTRL_LINE.get ctrl)), fHOST_STROBE_CTRL_ACTION.get ctrl, d.1, 5⟩)

/-- ETH_OP_NOT_USED: a datagram with an unused OP is discarded and counted, unless it repeats a REQ_ID (R465). Log: 59 DEDUCED. -/
def execEthOpNotUsed (src : Nat) (id : Fin 65536) (s : State) : Out :=
  if ¬ s.pathOpen 1 then noEvent s else .next (if s.isDup src id.val then s.dupReq src else s.ethDrop)

/-- ARP_REQUEST: a request for the device's own IP address is answered; any other is discarded and counted (R463). Log: 59 DEDUCED. -/
def execArpRequest (ip : Fin 4294967296) (s : State) : Out :=
  if ¬ s.pathOpen 1 then noEvent s
  else .next (if ip.val = s.get fHOST_ETH_IP_IP then s.send (.arp Config.macAddress ip.val) else s.ethDrop)

/-- ETH_FRAME_DISCARD: a received frame that breaks the rules is discarded and counted (R463). -/
def execEthFrameDiscard (s : State) : Out := if ¬ s.pathOpen 1 then noEvent s else .next s.ethDrop

end Sys2Proof.Machine
end

