-- ==== Sys2Proof/Machine/Dispatch.lean ====
section
/-! DEFINITION. One arm for each command: the direct call of its meaning, or its rejection by name. -/

namespace Sys2Proof.Machine

def exec (i : Instr) (s : State) : Host.Outcome State Fault Refusal :=
  match i with
  | .registerWrite path a w whole => Sys2Proof.Machine.execRegisterWrite path a w whole s
  | .readClear path a size => Sys2Proof.Machine.execReadClear path a size s
  | .tbNowRead => Sys2Proof.Machine.execTbNowRead s
  | .tbMtStampRead => Sys2Proof.Machine.execTbMtStampRead s
  | .mtTick obs => Sys2Proof.Machine.execMtTick obs s
  | .tbLoadNow => Sys2Proof.Machine.execTbLoadNow s
  | .tbLoadSyncIn => Sys2Proof.Machine.execTbLoadSyncIn s
  | .tbLoadModeNone mode3 => Sys2Proof.Machine.execTbLoadModeNone mode3 s
  | .syncInEdge => Sys2Proof.Machine.execSyncInEdge s
  | .commandAccept src fw => Sys2Proof.Machine.execCommandAccept src fw s
  | .commandCommit => Sys2Proof.Machine.execCommandCommit s
  | .refActivityLoss b => Sys2Proof.Machine.execRefActivityLoss b s
  | .refQualify b => Sys2Proof.Machine.execRefQualify b s
  | .refRereference => Sys2Proof.Machine.execRefRereference s
  | .prefWrite b => Sys2Proof.Machine.execPrefWrite b s
  | .pllcLost => Sys2Proof.Machine.execPllcLost s
  | .pllcReturn => Sys2Proof.Machine.execPllcReturn s
  | .retuneGo => Sys2Proof.Machine.execRetuneGo s
  | .drainComplete => Sys2Proof.Machine.execDrainComplete s
  | .drainLimitExpiry => Sys2Proof.Machine.execDrainLimitExpiry s
  | .dividerAlign => Sys2Proof.Machine.execDividerAlign s
  | .guardPass => Sys2Proof.Machine.execGuardPass s
  | .guardLimitExpiry => Sys2Proof.Machine.execGuardLimitExpiry s
  | .pllwReturn resid => Sys2Proof.Machine.execPllwReturn resid s
  | .trimWrite trim => Sys2Proof.Machine.execTrimWrite trim s
  | .trimRampDone => Sys2Proof.Machine.execTrimRampDone s
  | .lockLost => Sys2Proof.Machine.execLockLost s
  | .phaseStep stamps => Sys2Proof.Machine.execPhaseStep stamps s
  | .trigger => Sys2Proof.Machine.execTrigger s
  | .stop => Sys2Proof.Machine.execStop s
  | .tapply => Sys2Proof.Machine.execTapply s
  | .actionNotUsed => Sys2Proof.Machine.execActionNotUsed s
  | .leadingEdge o => Sys2Proof.Machine.execLeadingEdge o s
  | .trailingEdge o => Sys2Proof.Machine.execTrailingEdge o s
  | .enableWrite o v => Sys2Proof.Machine.execEnableWrite o v s
  | .driverAwake o => Sys2Proof.Machine.execDriverAwake o s
  | .warpApply banks chans => Sys2Proof.Machine.execWarpApply banks chans s
  | .warpTapplyArm banks chans => Sys2Proof.Machine.execWarpTapplyArm banks chans s
  | .warpTapplyCancel => Sys2Proof.Machine.execWarpTapplyCancel s
  | .echoClassify o obs => Sys2Proof.Machine.execEchoClassify o obs s
  | .echoLevelCheck o high => Sys2Proof.Machine.execEchoLevelCheck o high s
  | .failoverCopyDone b => Sys2Proof.Machine.execFailoverCopyDone b s
  | .failoverSwitch b => Sys2Proof.Machine.execFailoverSwitch b s
  | .foRelease b k => Sys2Proof.Machine.execFoRelease b k s
  | .foReleaseSwitch b => Sys2Proof.Machine.execFoReleaseSwitch b s
  | .foForce b k => Sys2Proof.Machine.execFoForce b k s
  | .tiCrossing ti cap rising hold => Sys2Proof.Machine.execTiCrossing ti cap rising hold s
  | .heddleInPsSync mask => Sys2Proof.Machine.execHeddleInPsSync mask s
  | .rgGo g => Sys2Proof.Machine.execRgGo g s
  | .rgStop g => Sys2Proof.Machine.execRgStop g s
  | .rgTick g => Sys2Proof.Machine.execRgTick g s
  | .fire => Sys2Proof.Machine.execFire s
  | .arm => Sys2Proof.Machine.execArm s
  | .disarm => Sys2Proof.Machine.execDisarm s
  | .heddleArmCmdArm l => Sys2Proof.Machine.execHeddleArmCmdArm l s
  | .heddleArmCmdDisarm l => Sys2Proof.Machine.execHeddleArmCmdDisarm l s
  | .armWindowExpiry l => Sys2Proof.Machine.execArmWindowExpiry l s
  | .heddleFireCtrlGo l action => Sys2Proof.Machine.execHeddleFireCtrlGo l action s
  | .heddleLastRead => Sys2Proof.Machine.execHeddleLastRead s
  | .voteClassify m obs => Sys2Proof.Machine.execVoteClassify m obs s
  | .swapCopyDone m => Sys2Proof.Machine.execSwapCopyDone m s
  | .swapTakeover m => Sys2Proof.Machine.execSwapTakeover m s
  | .replace m g => Sys2Proof.Machine.execReplace m g s
  | .clearFaulty m g => Sys2Proof.Machine.execClearFaulty m g s
  | .moutApply outs => Sys2Proof.Machine.execMoutApply outs s
  | .moutTapplyArm outs => Sys2Proof.Machine.execMoutTapplyArm outs s
  | .moutTapplyCancel => Sys2Proof.Machine.execMoutTapplyCancel s
  | .seqGo q => Sys2Proof.Machine.execSeqGo q s
  | .runStart q => Sys2Proof.Machine.execRunStart q s
  | .seqStop q => Sys2Proof.Machine.execSeqStop q s
  | .seqStopAtEnd q => Sys2Proof.Machine.execSeqStopAtEnd q s
  | .seqJump q target => Sys2Proof.Machine.execSeqJump q target s
  | .seqRelease q => Sys2Proof.Machine.execSeqRelease q s
  | .seqApply q => Sys2Proof.Machine.execSeqApply q s
  | .seqTapplyArm q => Sys2Proof.Machine.execSeqTapplyArm q s
  | .seqTapplyCancel q => Sys2Proof.Machine.execSeqTapplyCancel q s
  | .nop q => Sys2Proof.Machine.execNop q s
  | .chip q => Sys2Proof.Machine.execChip q s
  | .edge q => Sys2Proof.Machine.execEdge q s
  | .wait q => Sys2Proof.Machine.execWait q s
  | .loop q => Sys2Proof.Machine.execLoop q s
  | .jump q => Sys2Proof.Machine.execJump q s
  | .mark q => Sys2Proof.Machine.execMark q s
  | .endItem q => Sys2Proof.Machine.execEnd q s
  | .idle q => Sys2Proof.Machine.execIdle q s
  | .itemNotUsed q => Sys2Proof.Machine.execItemNotUsed q s
  | .waitRelease q => Sys2Proof.Machine.execWaitRelease q s
  | .decisionPoint q => Sys2Proof.Machine.execDecisionPoint q s
  | .segmentBoundary q => Sys2Proof.Machine.execSegmentBoundary q s
  | .refillGranule q => Sys2Proof.Machine.execRefillGranule q s
  | .shotBoundary f => Sys2Proof.Machine.execShotBoundary f s
  | .probeApply mask => Sys2Proof.Machine.execProbeApply mask s
  | .probeTapplyArm mask => Sys2Proof.Machine.execProbeTapplyArm mask s
  | .probeTapplyCancel => Sys2Proof.Machine.execProbeTapplyCancel s
  | .txLinkEnable f => Sys2Proof.Machine.execTxLinkEnable f s
  | .txLinkDisable f => Sys2Proof.Machine.execTxLinkDisable f s
  | .txClockCheck f span => Sys2Proof.Machine.execTxClockCheck f span s
  | .txLinkUp f => Sys2Proof.Machine.execTxLinkUp f s
  | .txFifoError f => Sys2Proof.Machine.execTxFifoError f s
  | .limiterCut f => Sys2Proof.Machine.execLimiterCut f s
  | .maxonCut f => Sys2Proof.Machine.execMaxonCut f s
  | .capLock => Sys2Proof.Machine.execCapLock s
  | .interlockAssert low => Sys2Proof.Machine.execInterlockAssert low s
  | .ilClear high => Sys2Proof.Machine.execIlClear high s
  | .stampMerge => Sys2Proof.Machine.execStampMerge s
  | .gateOpen g => Sys2Proof.Machine.execGateOpen g s
  | .gateClose g => Sys2Proof.Machine.execGateClose g s
  | .gateArm g => Sys2Proof.Machine.execGateArm g s
  | .gateHostOpen g => Sys2Proof.Machine.execGateHostOpen g s
  | .gateHostClose g => Sys2Proof.Machine.execGateHostClose g s
  | .gateStop g => Sys2Proof.Machine.execGateStop g s
  | .muResult u => Sys2Proof.Machine.execMuResult u s
  | .muResultRead u => Sys2Proof.Machine.execMuResultRead u s
  | .cdGo mask log2n => Sys2Proof.Machine.execCdGo mask log2n s
  | .cdAbort => Sys2Proof.Machine.execCdAbort s
  | .cdDone meas => Sys2Proof.Machine.execCdDone meas s
  | .calGoBank b => Sys2Proof.Machine.execCalGoBank b s
  | .calGoMout outs => Sys2Proof.Machine.execCalGoMout outs s
  | .calGoTi mask => Sys2Proof.Machine.execCalGoTi mask s
  | .calGoRx fibres => Sys2Proof.Machine.execCalGoRx fibres s
  | .calGoAll => Sys2Proof.Machine.execCalGoAll s
  | .calKindNotUsed kind => Sys2Proof.Machine.execCalKindNotUsed kind s
  | .calAbort => Sys2Proof.Machine.execCalAbort s
  | .calSamplerPassDone ranks => Sys2Proof.Machine.execCalSamplerPassDone ranks s
  | .generatorRunDone meas => Sys2Proof.Machine.execGeneratorRunDone meas s
  | .calHandover b => Sys2Proof.Machine.execCalHandover b s
  | .handoverLimitExpiry => Sys2Proof.Machine.execHandoverLimitExpiry s
  | .tiRunDone meas => Sys2Proof.Machine.execTiRunDone meas s
  | .calValueLoad u => Sys2Proof.Machine.execCalValueLoad u s
  | .calRecordWrite a w => Sys2Proof.Machine.execCalRecordWrite a w s
  | .rxLinkEnable f => Sys2Proof.Machine.execRxLinkEnable f s
  | .rxLinkDisable f => Sys2Proof.Machine.execRxLinkDisable f s
  | .rxClockCheck f span => Sys2Proof.Machine.execRxClockCheck f span s
  | .rxLinkUp f => Sys2Proof.Machine.execRxLinkUp f s
  | .rxRelease f obs => Sys2Proof.Machine.execRxRelease f obs s
  | .laneLockLoss l => Sys2Proof.Machine.execLaneLockLoss l s
  | .slicePlausFault p => Sys2Proof.Machine.execSlicePlausFault p s
  | .spareDwell => Sys2Proof.Machine.execSpareDwell s
  | .mismatch => Sys2Proof.Machine.execMismatch s
  | .judgeEnd bad recur => Sys2Proof.Machine.execJudgeEnd bad recur s
  | .rxFoForce p => Sys2Proof.Machine.execRxFoForce p s
  | .rxFoRelease p => Sys2Proof.Machine.execRxFoRelease p s
  | .rxClearFaulty p => Sys2Proof.Machine.execRxClearFaulty p s
  | .rxSelftestDone pass_ => Sys2Proof.Machine.execRxSelftestDone pass_ s
  | .rxEstimateDone meas => Sys2Proof.Machine.execRxEstimateDone meas s
  | .rxwApply fibres => Sys2Proof.Machine.execRxwApply fibres s
  | .rxwTapplyArm fibres => Sys2Proof.Machine.execRxwTapplyArm fibres s
  | .rxwTapplyCancel => Sys2Proof.Machine.execRxwTapplyCancel s
  | .eccDbe c f a lost => Sys2Proof.Machine.execEccDbe c f a lost s
  | .residue c stage f => Sys2Proof.Machine.execResidue c stage f s
  | .rowComplete f p => Sys2Proof.Machine.execRowComplete f p s
  | .rebase f => Sys2Proof.Machine.execRebase f s
  | .packetWord port q w sop eop bad => Sys2Proof.Machine.execPacketWord port q w sop eop bad s
  | .consumerRead c dbe => Sys2Proof.Machine.execConsumerRead c dbe s
  | .popRead dbe => Sys2Proof.Machine.execPopRead dbe s
  | .pushMiddle w => Sys2Proof.Machine.execPushMiddle w s
  | .pushSop w => Sys2Proof.Machine.execPushSop w s
  | .pushEop w => Sys2Proof.Machine.execPushEop w s
  | .pushSopEop w => Sys2Proof.Machine.execPushSopEop w s
  | .pushBad => Sys2Proof.Machine.execPushBad s
  | .flush q => Sys2Proof.Machine.execFlush q s
  | .boltScrubPass sbe dbes => Sys2Proof.Machine.execBoltScrubPass sbe dbes s
  | .skeinFrameWrite k => Sys2Proof.Machine.execSkeinFrameWrite k s
  | .rawFrameWrite f => Sys2Proof.Machine.execRawFrameWrite f s
  | .histMark k => Sys2Proof.Machine.execHistMark k s
  | .histRelease k j => Sys2Proof.Machine.execHistRelease k j s
  | .markLocated k j => Sys2Proof.Machine.execMarkLocated k j s
  | .readerGo r => Sys2Proof.Machine.execReaderGo r s
  | .readerStop r => Sys2Proof.Machine.execReaderStop r s
  | .readerFrame r => Sys2Proof.Machine.execReaderFrame r s
  | .retentionTestGo page hold => Sys2Proof.Machine.execRetentionTestGo page hold s
  | .retentionTestDone weak => Sys2Proof.Machine.execRetentionTestDone weak s
  | .streamRegionReset q => Sys2Proof.Machine.execStreamRegionReset q s
  | .streamRegionWrite q => Sys2Proof.Machine.execStreamRegionWrite q s
  | .dramDbe page line ws patrol => Sys2Proof.Machine.execDramDbe page line ws patrol s
  | .dramScrubPass sbe => Sys2Proof.Machine.execDramScrubPass sbe s
  | .dramReady => Sys2Proof.Machine.execDramReady s
  | .portTrain p => Sys2Proof.Machine.execPortTrain p s
  | .portUp p => Sys2Proof.Machine.execPortUp p s
  | .portLoss p => Sys2Proof.Machine.execPortLoss p s
  | .helloTimer p => Sys2Proof.Machine.execHelloTimer p s
  | .hello p f crc => Sys2Proof.Machine.execHello p f crc s
  | .timeExchangeTimer p dep => Sys2Proof.Machine.execTimeExchangeTimer p dep s
  | .time p f crc arr => Sys2Proof.Machine.execTime p f crc arr s
  | .chainStep => Sys2Proof.Machine.execChainStep s
  | .announceTimer => Sys2Proof.Machine.execAnnounceTimer s
  | .announce p f crc => Sys2Proof.Machine.execAnnounce p f crc s
  | .break p f crc => Sys2Proof.Machine.execBreak p f crc s
  | .healHoldExpiry p => Sys2Proof.Machine.execHealHoldExpiry p s
  | .heal p f crc => Sys2Proof.Machine.execHeal p f crc s
  | .join p f crc => Sys2Proof.Machine.execJoin p f crc s
  | .enumGo => Sys2Proof.Machine.execEnumGo s
  | .walk p f crc => Sys2Proof.Machine.execWalk p f crc s
  | .walkTimeout => Sys2Proof.Machine.execWalkTimeout s
  | .assign p f crc => Sys2Proof.Machine.execAssign p f crc s
  | .trig p f crc => Sys2Proof.Machine.execTrig p f crc s
  | .chainTrigGo dst dline action group => Sys2Proof.Machine.execChainTrigGo dst dline action group s
  | .fault p f crc => Sys2Proof.Machine.execFault p f crc s
  | .regWr p f crc => Sys2Proof.Machine.execRegWr p f crc s
  | .regRd p f crc => Sys2Proof.Machine.execRegRd p f crc s
  | .regRsp p f crc => Sys2Proof.Machine.execRegRsp p f crc s
  | .data p f crc => Sys2Proof.Machine.execData p f crc s
  | .credit p n => Sys2Proof.Machine.execCredit p n s
  | .moduleRead p page offset => Sys2Proof.Machine.execModuleRead p page offset s
  | .moduleWrite p page offset data => Sys2Proof.Machine.execModuleWrite p page offset data s
  | .moduleAccessDone p data ack => Sys2Proof.Machine.execModuleAccessDone p data ack s
  | .remoteWrite a w whole => Sys2Proof.Machine.execRemoteWrite a w whole s
  | .remoteRead a size => Sys2Proof.Machine.execRemoteRead a size s
  | .remoteReadTimeout => Sys2Proof.Machine.execRemoteReadTimeout s
  | .bar2Push c j w whole => Sys2Proof.Machine.execBar2Push c j w whole s
  | .ringRdWrite n rd => Sys2Proof.Machine.execRingRdWrite n rd s
  | .ringInterruptTimer n => Sys2Proof.Machine.execRingInterruptTimer n s
  | .pcieLinkDown busy => Sys2Proof.Machine.execPcieLinkDown busy s
  | .ethWrite r a masks ws => Sys2Proof.Machine.execEthWrite r a masks ws s
  | .ethRead r a count => Sys2Proof.Machine.execEthRead r a count s
  | .ethPush r c recs => Sys2Proof.Machine.execEthPush r c recs s
  | .ethStrobe r due ctrl => Sys2Proof.Machine.execEthStrobe r due ctrl s
  | .ethOpNotUsed src id => Sys2Proof.Machine.execEthOpNotUsed src id s
  | .arpRequest ip => Sys2Proof.Machine.execArpRequest ip s
  | .ethFrameDiscard => Sys2Proof.Machine.execEthFrameDiscard s
  | .streamDatagramTimer n => Sys2Proof.Machine.execStreamDatagramTimer n s
  | .spiWrite a ws => Sys2Proof.Machine.execSpiWrite a ws s
  | .spiRead a n => Sys2Proof.Machine.execSpiRead a n s
  | .spiStatus => Sys2Proof.Machine.execSpiStatus s
  | .regacc write a w => Sys2Proof.Machine.execRegacc write a w s
  | .hostStrobe rel l action => Sys2Proof.Machine.execHostStrobe rel l action s
  | .draftBegin => Sys2Proof.Machine.execDraftBegin s
  | .draftAbort => Sys2Proof.Machine.execDraftAbort s
  | .draftData w => Sys2Proof.Machine.execDraftData w s
  | .draftVerifyDone => Sys2Proof.Machine.execDraftVerifyDone s
  | .draftApply => Sys2Proof.Machine.execDraftApply s
  | .draftApplyRun => Sys2Proof.Machine.execDraftApplyRun s
  | .draftCommit => Sys2Proof.Machine.execDraftCommit s
  | .draftCommitDone ok => Sys2Proof.Machine.execDraftCommitDone ok s
  | .configScan => Sys2Proof.Machine.execConfigScan s
  | .islandHoldReq mask => Sys2Proof.Machine.execIslandHoldReq mask s
  | .held n => Sys2Proof.Machine.execHeld n s
  | .islandRelease n => Sys2Proof.Machine.execIslandRelease n s
  | .holdExpired n => Sys2Proof.Machine.execHoldExpired n s
  | .groupTapplyArm g => Sys2Proof.Machine.execGroupTapplyArm g s
  | .groupTapplyCancel => Sys2Proof.Machine.execGroupTapplyCancel s
  | .groupTapply => Sys2Proof.Machine.execGroupTapply s
  | .maintClaimGo act => Sys2Proof.Machine.execMaintClaimGo act s
  | .maintClaimRelease act => Sys2Proof.Machine.execMaintClaimRelease act s
  | .lockstep => Sys2Proof.Machine.execLockstep s
  | .mgmtDbe data => Sys2Proof.Machine.execMgmtDbe data s
  | .kick => Sys2Proof.Machine.execKick s
  | .watchdogExpiry => Sys2Proof.Machine.execWatchdogExpiry s
  | .mgmtReset => Sys2Proof.Machine.execMgmtReset s
  | .reboot => Sys2Proof.Machine.execReboot s
  | .bootOk => Sys2Proof.Machine.execBootOk s
  | .fwBegin => Sys2Proof.Machine.execFwBegin s
  | .fwAbort => Sys2Proof.Machine.execFwAbort s
  | .fwData w => Sys2Proof.Machine.execFwData w s
  | .fwWriteDone ok => Sys2Proof.Machine.execFwWriteDone ok s
  | .mbxGo op tag => Sys2Proof.Machine.execMbxGo op tag s
  | .version => Sys2Proof.Machine.execVersion s
  | .checkpoint ok => Sys2Proof.Machine.execCheckpoint ok s
  | .calsetCommit ok => Sys2Proof.Machine.execCalsetCommit ok s
  | .calibrate => Sys2Proof.Machine.execCalibrate s
  | .health => Sys2Proof.Machine.execHealth s
  | .mbxReboot => Sys2Proof.Machine.execMbxReboot s
  | .logRead ws => Sys2Proof.Machine.execLogRead ws s
  | .mbxUnknown => Sys2Proof.Machine.execMbxUnknown s
  | .ckptGo => Sys2Proof.Machine.execCkptGo s
  | .ckptDone ok => Sys2Proof.Machine.execCkptDone ok s
  | .calsetGo => Sys2Proof.Machine.execCalsetGo s
  | .calsetDone ok => Sys2Proof.Machine.execCalsetDone ok s
  | .powerUp head ilLow => Sys2Proof.Machine.execPowerUp head ilLow s
  | .resetN head low => Sys2Proof.Machine.execResetN head low s
  | .restoreDone => Sys2Proof.Machine.execRestoreDone s
  | .wakeTakeover => Sys2Proof.Machine.execWakeTakeover s
  | .resume => Sys2Proof.Machine.execResume s
  | .autoResume => Sys2Proof.Machine.execAutoResume s
  | .pwrReqOn d => Sys2Proof.Machine.execPwrReqOn d s
  | .pwrReqOff d path => Sys2Proof.Machine.execPwrReqOff d path s
  | .pwrReqRetain d => Sys2Proof.Machine.execPwrReqRetain d s
  | .governorAdmit n => Sys2Proof.Machine.execGovernorAdmit n s
  | .saveDone d => Sys2Proof.Machine.execSaveDone d s
  | .wakeDone d => Sys2Proof.Machine.execWakeDone d s
  | .tableReloadDone d => Sys2Proof.Machine.execTableReloadDone d s
  | .retainEntered => Sys2Proof.Machine.execRetainEntered s
  | .sdClear => Sys2Proof.Machine.execSdClear s
  | .supplyExcursion rail outside => Sys2Proof.Machine.execSupplyExcursion rail outside s
  | .wake => Sys2Proof.Machine.execWake s
  | .selvedgeFaultReport => Sys2Proof.Machine.execSelvedgeFaultReport s
  | .faultActiveClear mask => Sys2Proof.Machine.execFaultActiveClear mask s
  | .holdRelease => Sys2Proof.Machine.execHoldRelease s
  | .pinFault pin => Sys2Proof.Machine.execPinFault pin s
  | .selvedgeDisagree => Sys2Proof.Machine.execSelvedgeDisagree s
  | .svcStale => Sys2Proof.Machine.execSvcStale s
  | .genShift unit count test en => Sys2Proof.Machine.execGenShift unit count test en s
  | .genMiss unit count test en => Sys2Proof.Machine.execGenMiss unit count test en s
  | .ballStuck unit count test en => Sys2Proof.Machine.execBallStuck unit count test en s
  | .pllwUnlock unit count test en => Sys2Proof.Machine.execPllwUnlock unit count test en s
  | .pllwStep unit count test en => Sys2Proof.Machine.execPllwStep unit count test en s
  | .refStop unit count test en => Sys2Proof.Machine.execRefStop unit count test en s
  | .tripleFlip unit count test en => Sys2Proof.Machine.execTripleFlip unit count test en s
  | .structFlip unit count test en => Sys2Proof.Machine.execStructFlip unit count test en s
  | .sramSbe unit count test en => Sys2Proof.Machine.execSramSbe unit count test en s
  | .sramDbe unit count test en => Sys2Proof.Machine.execSramDbe unit count test en s
  | .dramSbe unit count test en => Sys2Proof.Machine.execDramSbe unit count test en s
  | .dramDbeInject unit count test en => Sys2Proof.Machine.execDramDbeInject unit count test en s
  | .linkDrop unit count test en => Sys2Proof.Machine.execLinkDrop unit count test en s
  | .jesdCrc unit count test en => Sys2Proof.Machine.execJesdCrc unit count test en s
  | .sliceCmp unit count test en => Sys2Proof.Machine.execSliceCmp unit count test en s
  | .slicePar unit count test en => Sys2Proof.Machine.execSlicePar unit count test en s
  | .weftResidue unit count test en => Sys2Proof.Machine.execWeftResidue unit count test en s
  | .injectLockstep unit count test en => Sys2Proof.Machine.execInjectLockstep unit count test en s
  | .kickBlock unit count test en => Sys2Proof.Machine.execKickBlock unit count test en s
  | .injectSensor unit count test en => Sys2Proof.Machine.execInjectSensor unit count test en s
  | .injectMonitor unit count test en => Sys2Proof.Machine.execInjectMonitor unit count test en s
  | .injectSupply unit count test en => Sys2Proof.Machine.execInjectSupply unit count test en s
  | .injectLogic unit count test en => Sys2Proof.Machine.execInjectLogic unit count test en s
  | .injectPin unit count test en => Sys2Proof.Machine.execInjectPin unit count test en s
  | .injectKindNotUsed kind unit count test en => Sys2Proof.Machine.execInjectKindNotUsed kind unit count test en s
  | .missed => Sys2Proof.Machine.execMissed s
  | .dayClose => Sys2Proof.Machine.execDayClose s
  | .trimReref => Sys2Proof.Machine.execTrimReref s
  | .lampReref => Sys2Proof.Machine.execLampReref s
  | .monPass a b late => Sys2Proof.Machine.execMonPass a b late s
  | .monSelftestGo => Sys2Proof.Machine.execMonSelftestGo s
  | .monSelftestDone means => Sys2Proof.Machine.execMonSelftestDone means s
  | .frameSync ticks => Sys2Proof.Machine.execFrameSync ticks s
  | .frameFlywheel => Sys2Proof.Machine.execFrameFlywheel s
  | .lampApply => Sys2Proof.Machine.execLampApply s
  | .lampPulse l sense => Sys2Proof.Machine.execLampPulse l sense s
  | .lampSpan l sense => Sys2Proof.Machine.execLampSpan l sense s
  | .ocCut l => Sys2Proof.Machine.execOcCut l s
  | .lampClr mask => Sys2Proof.Machine.execLampClr mask s
  | .pllwFirstLock => Sys2Proof.Machine.execPllwFirstLock s
  | .hostLinkTrained gen => Sys2Proof.Machine.execHostLinkTrained gen s
  | .perstN high => Sys2Proof.Machine.execPerstN high s
  | .mgmtScrubPass sbe dbe => Sys2Proof.Machine.execMgmtScrubPass sbe dbe s
  | .weftMemoryScrub => Sys2Proof.Machine.execWeftMemoryScrub s
  | .logicMismatch island sub => Sys2Proof.Machine.execLogicMismatch island sub s
  | .injectionEnd => Sys2Proof.Machine.execInjectionEnd s
  | .powerLoss aon => Sys2Proof.Machine.execPowerLoss aon s
  | .frameTypeNotUsed p f => Sys2Proof.Machine.execFrameTypeNotUsed p f s

end Sys2Proof.Machine
end

