-- ==== Sys2Proof/Machine/Step.lean ====
section
/-! DEFINITION. One step of the block: the command at the front of the queue, or one warp cycle of idling. -/

namespace Sys2Proof.Machine

/-- An empty queue: the timebase counts one wc (R20, R22; log entry 4), and the events of Heddle's lines that fall in the wc it ends take place. Log: 4 DESIGN CHOICE, 93 DESIGN CHOICE. -/
def State.idle (s : State) : State := s.flowBefore (tAdd s.nowT 1024)

/-- A step takes the command at the front of the queue and performs it with the rest of the queue; on an empty queue the block idles. Log: 4 DESIGN CHOICE. -/
def step (s : State) : Host.Outcome State Fault Refusal :=
  match s.pending with
  | [] => .next s.idle
  | c :: rest => exec c { s with pending := rest }

/-- The state with the command that a word spells put at the front of its queue; unchanged where the word spells none. Log: 6 DESIGN CHOICE. -/
def State.withFetchWord (s : State) (nbits w : Nat) : State :=
  match Sys2Proof.decodeTableWord nbits w with
  | some c => { s with pending := c :: s.pending }
  | none => s

end Sys2Proof.Machine
end

