-- ==== Sys2Proof/Safety.lean ====
section
/-! DEFINITION. What the statements call safe: the canonical form of the state's sparse stores, and a step that goes on. -/

namespace Sys2Proof.Machine

/-- Addresses of a sparse store rise strictly, from above `lo`. -/
def RegMap.risesFrom (lo : Option Nat) : RegMap → Bool
  | [] => true
  | (a, _) :: t => (match lo with | none => true | some l => decide (l < a)) && RegMap.risesFrom (some a) t

/-- The canonical form of the three sparse stores: registers listed only where they differ from reset, shadow and staged words listed once
each, all in rising order. -/
def State.Canon (s : State) : Prop :=
  RegMap.wf s.regs = true ∧ RegMap.risesFrom none s.shadow = true ∧ RegMap.risesFrom none s.staged = true

/-- A command completes at a state: exec answers a next state. -/
def Completes (i : Instr) (s : State) : Prop := ∃ t, exec i s = .next t

/-- Every register word outside the listed addresses reads in `t` as it read in `s`. -/
def Only (ws : List Nat) (s t : State) : Prop := ∀ a, a ∉ ws → t.word a = s.word a

/-- Nothing but register words, with the note of the events of the wc that set them (R10), differs between `s` and `t`. -/
abbrev RegsOnly (s t : State) : Prop := t = { s with regs := t.regs, evts := t.evts }

end Sys2Proof.Machine
end

