-- ==== Sys2Proof/Certificates/Slice0/Obligations.lean ====
section
/-! DEFINITION. The statements for the provers, in the order of OBLIGATIONS.json. In each, `exec c s = .next t` says that the command
completes and what it leaves; `Only ws s t` says that every register word outside `ws` keeps its value. -/

open Sys2Proof Sys2Proof.Machine

/-- A read of TB_NOW_LO or TB_MT_STAMP_LO snapshots both words of the timebase or of the latest mt stamp, and nothing else changes.
TB_NOW_READ completes in every state: TB_NOW_LO holds COARSE and FINE (zero) of the present instant, TB_NOW_HI its EPOCH. TB_MT_STAMP_READ
completes and does the same with the stamp of the latest mt tick. Every other register word and every other part of the state keeps its
value. (Derived from R23, R25, R35.) -/
def Obligations.TimebaseReads : Prop :=
  (∀ (s : State), ∃ t, exec .tbNowRead s = .next t ∧ t.word aTB_NOW_LO = tsLo s.nowT ∧ t.word aTB_NOW_HI = tsHi s.nowT ∧ getBits
    (t.word aTB_NOW_LO) 0 10 = 0 ∧ Only [aTB_NOW_LO, aTB_NOW_HI] s t ∧ t = { s with regs := t.regs }) ∧
  (∀ (s : State), ∃ t, exec .tbMtStampRead s = .next t ∧ t.word aTB_MT_STAMP_LO = tsLo s.clk.stamp ∧ t.word aTB_MT_STAMP_HI = tsHi
    s.clk.stamp ∧ Only [aTB_MT_STAMP_LO, aTB_MT_STAMP_HI] s t ∧ t = { s with regs := t.regs })

/-- GO in TB_LOAD_CTRL performs, arms or refuses a timebase load with the reason of R646; a SYNC_IN edge performs or refuses an armed one.
TB_LOAD_NOW, MODE being 1 from then on: with no reason to refuse the load takes place by State.doLoad (the timebase and what counts from it
step to EPOCH and COARSE of TB_LOAD, DONE is set, a head announces the load). With a reason, REFUSE takes it, GO and DONE are 0 and only
TB_LOAD_CTRL changes. TB_LOAD_SYNC_IN: with no reason GO, MODE 2 and REFUSE 0 stand for the waiting load; with a reason REFUSE takes it and
GO is 0; only TB_LOAD_CTRL changes. TB_LOAD_MODE_NONE is refused with 4. SYNC_IN_EDGE where a load waits: it takes place by State.doLoad and
GO clears, or on the safe clock or in a retune it is refused with 3, or in an edge plane that is not quiescent with 1; where none waits
nothing changes. The reason, apart from MODE, is 2 for a synchronised chain, else 3 for the safe clock or a retune, else 1 for an edge plane
that is not quiescent. (Derived from R37, R38, R39, R646.) -/
def Obligations.TimebaseLoads : Prop :=
  (∀ (s : State), (s.loadGo 1).loadReason = 0 → exec .tbLoadNow s = .next ((s.loadGo 1).doLoad)) ∧
  (∀ (s : State), (s.loadGo 1).loadReason ≠ 0 → ∃ t, exec .tbLoadNow s = .next t ∧ t.get fTB_LOAD_CTRL_REFUSE = (s.loadGo
    1).loadReason ∧ t.get fTB_LOAD_CTRL_GO = 0 ∧ t.get fTB_LOAD_CTRL_DONE = 0 ∧ Only [aTB_LOAD_CTRL] s t ∧ RegsOnly s t) ∧
  (∀ (s : State), (s.loadGo 2).loadReason = 0 → ∃ t, exec .tbLoadSyncIn s = .next t ∧ t.get fTB_LOAD_CTRL_GO = 1 ∧ t.get
    fTB_LOAD_CTRL_MODE = 2 ∧ t.get fTB_LOAD_CTRL_REFUSE = 0 ∧ Only [aTB_LOAD_CTRL] s t ∧ RegsOnly s t) ∧
  (∀ (s : State), (s.loadGo 2).loadReason ≠ 0 → ∃ t, exec .tbLoadSyncIn s = .next t ∧ t.get fTB_LOAD_CTRL_REFUSE = (s.loadGo
    2).loadReason ∧ t.get fTB_LOAD_CTRL_GO = 0 ∧ Only [aTB_LOAD_CTRL] s t ∧ RegsOnly s t) ∧
  (∀ (s : State) (mode3 : Bool), ∃ t, exec (.tbLoadModeNone mode3) s = .next t ∧ t.get fTB_LOAD_CTRL_REFUSE = 4 ∧ t.get
    fTB_LOAD_CTRL_GO = 0 ∧ Only [aTB_LOAD_CTRL] s t ∧ RegsOnly s t) ∧
  (∀ (s : State), s.loadWaits = true → s.unlocked = false → s.quiescent = true → exec .syncInEdge s = .next (s.doLoad.unflag
    fTB_LOAD_CTRL_GO)) ∧
  (∀ (s : State), s.loadWaits = true → s.unlocked = true → ∃ t, exec .syncInEdge s = .next t ∧ t.get fTB_LOAD_CTRL_REFUSE = 3 ∧
    t.get fTB_LOAD_CTRL_GO = 0 ∧ Only [aTB_LOAD_CTRL] s t ∧ RegsOnly s t) ∧
  (∀ (s : State), s.loadWaits = true → s.unlocked = false → s.quiescent = false → ∃ t, exec .syncInEdge s = .next t ∧ t.get
    fTB_LOAD_CTRL_REFUSE = 1 ∧ t.get fTB_LOAD_CTRL_GO = 0 ∧ Only [aTB_LOAD_CTRL] s t ∧ RegsOnly s t) ∧
  (∀ (s : State), s.loadWaits = false → exec .syncInEdge s = .next s) ∧
  (∀ (s : State), s.loadReason = if s.chainSynced then 2 else if s.unlocked then 3 else if ¬ s.quiescent then 1 else 0)

/-- An accepted command that is timely enters the due-time store with its acceptance wc; the next uncommitted one is committed 40 wc before
its due time. COMMAND_ACCEPT of the oldest command of a source, the store not full, its target an output or a timed apply (no line, no
group), no Heddle event ahead: with a the acceptance wc of its crossing (the present wc, or that of its crossing's first or last wc) and its
due time, rounded down to a whole wc, at least 64 wc after a, time passes to a, the command leaves its FIFO with its commit record, and
stands in the store in its place, uncommitted, with acceptance wc a; of the registers only TB_LOAD_CTRL may change (a waiting load is
checked), nothing else changes. With the store full the command stays: one not yet stalled is noted and HSF_STALL of its source advances by
one, one already stalled changes nothing. COMMAND_COMMIT, a command of the store not yet committed: events ahead take place and time passes
to 40 wc before the due time of the first such one, and it is marked committed. (Derived from R47, R48, R49, R51.) -/
def Obligations.TimelyCommand : Prop :=
  (∀ (s : State) (src : Fin 7) (c : DueCmd), s.hsf.find? (fun d => d.src == src.val) = some c → s.store.length < 256 → s.pins = [] →
    isGroup c.target = false → (outOf c.target).isSome ∨ isApply c = true → 0 ≤ tDiff (tFloor c.due) (wcs (s.acceptWc c + 64)) → ∃
    t, exec (.commandAccept src none) s = .next t ∧ t.store = insertStored ⟨c, s.acceptWc c, false, 0⟩ s.store ∧ t.now = (s.until_
    (wcs (s.acceptWc c))).now ∧ t.hsf = s.hsf.erase c ∧ Only [aTB_LOAD_CTRL] s t ∧ t =
    { s with regs := t.regs, evts := t.evts, now := t.now, hsf := t.hsf, stalled := s.stalled.erase c, sentAt := s.sentAt.eraseP (fun e => e.1 == c), store := t.store }) ∧
  (∀ (s : State) (src : Fin 7) (c : DueCmd), s.hsf.find? (fun d => d.src == src.val) = some c → 256 ≤ s.store.length →
    s.stalled.contains c = false → exec (.commandAccept src none) s = .next (({ s with stalled := s.stalled ++ [c] } : State).bump
    fHSF_STALL_STALLS src.val)) ∧
  (∀ (s : State) (src : Fin 7) (c : DueCmd), s.hsf.find? (fun d => d.src == src.val) = some c → 256 ≤ s.store.length →
    s.stalled.contains c = true → exec (.commandAccept src none) s = .next s) ∧
  (∀ (s : State) (c : Stored), s.store.find? (fun c => !c.committed) = some c → exec .commandCommit s = .next
    ({ s.flowTo (tSub (tFloor c.cmd.due) (wcs 40)) with store := commitFirst s.store }))

/-- A late command to an edge channel under DROP is discarded, with LATE, the two late counts and the first-late record. COMMAND_ACCEPT of
the oldest command of a source, the store not full, no Heddle event ahead, a start or stop for an edge channel with LATE_POL DROP, whose due
time rounded down to a whole wc lies less than 64 wc after its acceptance wc: it leaves its FIFO and nothing enters the store; LATE is set
and LATE_COUNT advances, saturating; the channel's LATE is set and its late count advances, saturating; where LATE was clear LEAD_FIRST
takes the due time and FIRST_SRC the source, where it was set they keep their values. No register word changes but LEAD_STATUS, LEAD_COUNT,
LEAD_FIRST, the channel's status and count and TB_LOAD_CTRL. (Derived from R48, R52, R53, R110.) -/
def Obligations.LateCommand : Prop :=
  ∀ (s : State) (src : Fin 7) (c : DueCmd) (n : Fin 64), s.hsf.find? (fun d => d.src == src.val) = some c → s.store.length < 256 →
    s.pins = [] → c.target = .chan n → c.action = 1 ∨ c.action = 2 → s.is fWARP_CH_CTRL_LATE_POL n.val = false → tDiff (tFloor
    c.due) (wcs (s.acceptWc c + 64)) < 0 → ∃ t, exec (.commandAccept src none) s = .next t ∧ t.store = s.store ∧ t.hsf =
    s.hsf.erase c ∧ t.is fLEAD_STATUS_LATE = true ∧ t.get fLEAD_COUNT_LATE_COUNT = satU (fldWidth fLEAD_COUNT_LATE_COUNT) (s.get
    fLEAD_COUNT_LATE_COUNT + 1) ∧ t.is fWARP_CH_STATUS_LATE n.val = true ∧ t.get fWARP_CH_COUNT_LATE n.val = satU (fldWidth
    fWARP_CH_COUNT_LATE) (s.get fWARP_CH_COUNT_LATE n.val + 1) ∧ (s.is fLEAD_STATUS_LATE = false → t.word aLEAD_FIRST_LO = tsLo
    c.due ∧ t.word aLEAD_FIRST_HI = tsHi c.due ∧ t.get fLEAD_STATUS_FIRST_SRC = c.src % 16) ∧ (s.is fLEAD_STATUS_LATE = true →
    t.word aLEAD_FIRST_LO = s.word aLEAD_FIRST_LO ∧ t.word aLEAD_FIRST_HI = s.word aLEAD_FIRST_HI ∧ t.get fLEAD_STATUS_FIRST_SRC =
    s.get fLEAD_STATUS_FIRST_SRC) ∧ Only [aLEAD_STATUS, aLEAD_COUNT, aLEAD_FIRST_LO, aLEAD_FIRST_HI, aWARP_CH_STATUS + n.val,
    aWARP_CH_COUNT + n.val, aTB_LOAD_CTRL] s t

/-- A start, stop or apply that falls due acts on its target at its due time; on the safe clock or in a retune it is discarded under
LOCK_DROP. With the events ahead up to the due time having taken place and the command out of the store. The head of the store, addressed to
an output, no timed apply of its wc in the store, WARP on PLL_W without a retune and no ALL calibration: TRIGGER of action 1 reaches the
output as a start (State.startTrigger) and STOP of action 2 as a stop (State.stopOut), at the due time; ACTION_NOT_USED of action 0 or above
3 counts in the channel's RETRIG_DROP. On the safe clock or in a retune, no event ahead, a start for a channel is dropped: LOCK_DROP is set,
its count advances, and only LEAD_STATUS, the store and the time change. TAPPLY: the first timed apply of the head's wc, no group's, acts on
its target in its due wc (State.timedApply). GROUP_TAPPLY: the first timed apply of the head's wc, a local group's, applies the group as it
was accepted; PENDING clears and DONE is set. GROUP_TAPPLY_ARM sends a group apply of source 6 with the due time of GROUP_TAPPLY and sets
PENDING, or sets ARM_BUSY while one is pending; GROUP_TAPPLY_CANCEL withdraws one that waits and clears PENDING. (Derived from R49, R50,
R55, R96, R99, R100.) -/
def Obligations.DueCommands : Prop :=
  (∀ (s : State) (c : Stored) (rest : List Stored) (o : Nat), s.store = c :: rest → outOf c.cmd.target = some o → c.cmd.action = 1 →
    s.applyFirst c = false → (s.popDue c).unlocked = false → (s.popDue c).calAll = false → exec .trigger s = .next ((s.popDue
    c).startTrigger o c.cmd.due)) ∧
  (∀ (s : State) (c : Stored) (rest : List Stored) (n : Fin 64), s.store = c :: rest → c.cmd.target = .chan n → c.cmd.action = 1 →
    s.applyFirst c = false → s.pins = [] → s.unlocked = true → ∃ t, exec .trigger s = .next t ∧ t.store = rest ∧ t.is
    fLEAD_STATUS_LOCK_DROP = true ∧ t.get fLEAD_STATUS_LOCK_DROP_COUNT = satU (fldWidth fLEAD_STATUS_LOCK_DROP_COUNT) (s.get
    fLEAD_STATUS_LOCK_DROP_COUNT + 1) ∧ Only [aLEAD_STATUS] s t ∧ t =
    { s with regs := t.regs, evts := t.evts, store := rest, now := t.now }) ∧
  (∀ (s : State) (c : Stored) (rest : List Stored) (o : Nat), s.store = c :: rest → outOf c.cmd.target = some o → c.cmd.action = 2 →
    s.applyFirst c = false → (s.popDue c).unlocked = false → (s.popDue c).calAll = false → exec .stop s = .next ((s.popDue
    c).stopOut o c.cmd.due none)) ∧
  (∀ (s : State) (c : Stored) (rest : List Stored) (n : Fin 64), s.store = c :: rest → c.cmd.target = .chan n → c.cmd.action = 0 ∨ 3
    < c.cmd.action → (s.popDue c).unlocked = false → (s.popDue c).calAll = false → exec .actionNotUsed s = .next ((s.popDue
    c).bump fWARP_CH_COUNT_RETRIG_DROP n.val)) ∧
  (∀ (s : State) (c : Stored), s.nextApply = some c → isGroup c.cmd.target = false → (s.takeApply c).unlocked = false → exec .tapply
    s = .next ((s.takeApply c).timedApply c.cmd)) ∧
  (∀ (s : State) (c : Stored) (g : Fin 256), s.nextApply = some c → c.cmd.target = .group g → c.cmd.src = 6 → (s.takeApply
    c).unlocked = false → ∃ t, exec .groupTapply s = .next t ∧ t.get fGROUP_TAPPLY_CTRL_PENDING = 0 ∧ t.get
    fGROUP_TAPPLY_CTRL_DONE = 1 ∧ t = (((s.takeApply c).groupApply c.grp c.cmd.due).unflag fGROUP_TAPPLY_CTRL_PENDING).flag
    fGROUP_TAPPLY_CTRL_DONE) ∧
  (∀ (s : State) (g : Fin 256), s.is fGROUP_TAPPLY_CTRL_PENDING = false → exec (.groupTapplyArm g) s = .next (((s.put
    fGROUP_TAPPLY_CTRL_GROUP g.val).flag fGROUP_TAPPLY_CTRL_PENDING).sendDue ⟨.group g, 3, tsOf (s.word aGROUP_TAPPLY_LO) (s.word
    aGROUP_TAPPLY_HI), 6⟩)) ∧
  (∀ (s : State) (g : Fin 256), s.is fGROUP_TAPPLY_CTRL_PENDING = true → exec (.groupTapplyArm g) s = .next ((s.put
    fGROUP_TAPPLY_CTRL_GROUP g.val).flag fGROUP_TAPPLY_CTRL_ARM_BUSY)) ∧
  (∀ (s : State) (s' : State), s.cancelDue (fun c => isGroup c.target && c.src == 6) = some s' → exec .groupTapplyCancel s = .next
    (s'.unflag fGROUP_TAPPLY_CTRL_PENDING))

/-- A reference that stops is counted and fails over or holds over; a qualified one takes over as HOLD, PREF and REVERT ask, at a
re-reference. REF_ACTIVITY_LOSS of an active reference: its ACT clears, its loss count advances, saturating, its QUAL and its count of
qualifying mt clear, the mt counts as one with a loss; in use and not in holdover it fails over where FAILOVER is 1 and the other is
qualified (IN_USE changes, REF_SWITCH is set and counted), and otherwise sets HOLD; not in use it changes no IN_USE and no HOLD. REF_QUALIFY
of a reference that is not qualified and has counted QUAL_TIME mt (at least 1): QUAL is set; a re-reference waits for the next mt tick to
this reference where HOLD is set and none waits, or where PREF names it, REVERT is 1 and another is in use; otherwise the one that waits
stays. PREF_WRITE stores PREF; a qualified reference not in use, or any in holdover, then waits for the next mt tick; out of holdover a
reference in use, or one not qualified, takes back a switch that waits. REF_REREFERENCE: the reference that waits is taken into use if it is
qualified, HOLD clears, and a change of reference sets REF_SWITCH and is counted; one not qualified is dropped; where none waits nothing
changes. In each, no register word changes but the clock and keeper words named. (Derived from R67, R70, R71, R72.) -/
def Obligations.References : Prop :=
  (∀ (s : State), s.is fCLK_REF_STATUS_A_ACT = true → ∃ t, exec (.refActivityLoss false) s = .next t ∧ t.is fCLK_REF_STATUS_A_ACT =
    false ∧ t.get fCLK_REF_STATUS_A_LOSS = satU (fldWidth fCLK_REF_STATUS_A_LOSS) (s.get fCLK_REF_STATUS_A_LOSS + 1) ∧ t.refQual
    false = false ∧ t.clk.qualA = 0 ∧ t.clk.lossA = true ∧ t.refInUse = (s.refInUse || (!s.is fCLK_REF_STATUS_HOLD && s.is
    fCLK_REF_CFG_FAILOVER && s.refQual true)) ∧ t.is fCLK_REF_STATUS_HOLD = (s.is fCLK_REF_STATUS_HOLD || (!s.refInUse && !(s.is
    fCLK_REF_CFG_FAILOVER && s.refQual true))) ∧ Only [aCLK_REF_STATUS, aCLK_STATUS, aCLK_COUNT, aKEEPER_STATUS] s t) ∧
  (∀ (s : State), s.is fCLK_REF_STATUS_B_ACT = true → ∃ t, exec (.refActivityLoss true) s = .next t ∧ t.is fCLK_REF_STATUS_B_ACT =
    false ∧ t.get fCLK_REF_STATUS_B_LOSS = satU (fldWidth fCLK_REF_STATUS_B_LOSS) (s.get fCLK_REF_STATUS_B_LOSS + 1) ∧ t.refQual
    true = false ∧ t.clk.qualB = 0 ∧ t.clk.lossB = true ∧ t.refInUse = (s.refInUse && (s.is fCLK_REF_STATUS_HOLD || !(s.is
    fCLK_REF_CFG_FAILOVER && s.refQual false))) ∧ t.is fCLK_REF_STATUS_HOLD = (s.is fCLK_REF_STATUS_HOLD || (s.refInUse && !(s.is
    fCLK_REF_CFG_FAILOVER && s.refQual false))) ∧ Only [aCLK_REF_STATUS, aCLK_STATUS, aCLK_COUNT, aKEEPER_STATUS] s t) ∧
  (∀ (s : State) (b : Bool), s.refQual b = false → max 1 (s.get fCLK_REF_CFG_QUAL_TIME) ≤ s.qualCount b → ∃ t, exec (.refQualify b)
    s = .next t ∧ t.refQual b = true ∧ (s.is fCLK_REF_STATUS_HOLD = true → s.clk.reref = none → t.clk.reref = some b) ∧ (s.is
    fCLK_REF_STATUS_HOLD = false → t.clk.reref = (if s.is fCLK_REF_CFG_PREF = b ∧ s.is fCLK_REF_CFG_REVERT = true ∧ s.refInUse ≠ b
    then some b else s.clk.reref)) ∧ Only [aCLK_REF_STATUS, aKEEPER_STATUS] s t ∧ t =
    { s with regs := t.regs, clk := { s.clk with reref := t.clk.reref } }) ∧
  (∀ (s : State) (b : Bool), s.refQual b = true → s.refInUse ≠ b ∨ s.is fCLK_REF_STATUS_HOLD = true → exec (.prefWrite b) s = .next
    ({ s.put fCLK_REF_CFG_PREF (b2n b) with clk := { s.clk with reref := some b } })) ∧
  (∀ (s : State) (b : Bool), s.is fCLK_REF_STATUS_HOLD = false → s.refInUse = b ∨ s.refQual b = false → exec (.prefWrite b) s =
    .next ({ s.put fCLK_REF_CFG_PREF (b2n b) with clk := { s.clk with reref := none } })) ∧
  (∀ (s : State) (b : Bool), s.clk.reref = some b → s.refQual b = true → ∃ t, exec .refRereference s = .next t ∧ t.refInUse = b ∧
    t.is fCLK_REF_STATUS_HOLD = false ∧ (s.refInUse ≠ b → t.is fCLK_STATUS_REF_SWITCH = true ∧ t.get fCLK_COUNT_REF_SWITCHES =
    satU (fldWidth fCLK_COUNT_REF_SWITCHES) (s.get fCLK_COUNT_REF_SWITCHES + 1)) ∧ (s.refInUse = b → t.word aCLK_STATUS = s.word
    aCLK_STATUS ∧ t.word aCLK_COUNT = s.word aCLK_COUNT) ∧ Only [aCLK_REF_STATUS, aCLK_STATUS, aCLK_COUNT, aKEEPER_STATUS] s t ∧ t
    = { s with regs := t.regs, evts := t.evts, clk := { s.clk with reref := none } }) ∧
  (∀ (s : State) (b : Bool), s.clk.reref = some b → s.refQual b = false → exec .refRereference s = .next
    ({ s with clk := { s.clk with reref := none } })) ∧
  (∀ (s : State), s.clk.reref = none → exec .refRereference s = .next s)

/-- Loss of PLL_C moves its clocks to the ring oscillator and reports PLL_C; its return ends the degraded state. PLLC_LOST with PLLC_LOCK
set, WARP on PLL_W: PLLC_LOCK clears, PLLC_LOST and DEGRADED are set, the safe clock's source becomes the ring oscillator, WEFT and BOLT go
to their backup clock, one fault is detected, and no register word changes but CLK_STATUS and RXW_WEFT_STATUS. PLLC_RETURN, WARP on PLL_W,
no Heddle event ahead: PLLC_LOCK is set, DEGRADED clears, the safe clock's source is PLL_C again, no re-lock is awaited, only CLK_STATUS
changes of the registers, and of the rest only the time and the note of the wc's events. (Derived from R73, R75.) -/
def Obligations.PllC : Prop :=
  (∀ (s : State), s.is fCLK_STATUS_PLLC_LOCK = true → s.is fCLK_STATUS_WARP_SAFE = false → ∃ t, exec .pllcLost s = .next t ∧ t.get
    fCLK_STATUS_PLLC_LOCK = 0 ∧ t.get fCLK_STATUS_PLLC_LOST = 1 ∧ t.get fCLK_STATUS_DEGRADED = 1 ∧ t.get fCLK_STATUS_SAFE_SRC = 1
    ∧ t.clk.weftBackup = true ∧ t.detected.length = s.detected.length + 1 ∧ Only [aCLK_STATUS, aRXW_WEFT_STATUS] s t) ∧
  (∀ (s : State), s.is fCLK_STATUS_WARP_SAFE = false → s.pins = [] → ∃ t, exec .pllcReturn s = .next t ∧ t.get fCLK_STATUS_PLLC_LOCK
    = 1 ∧ t.get fCLK_STATUS_DEGRADED = 0 ∧ t.get fCLK_STATUS_SAFE_SRC = 0 ∧ Only [aCLK_STATUS] s t ∧ t =
    { s with regs := t.regs, evts := t.evts, now := t.now, clk := { s.clk with pllcRelock := false } })

/-- A retune is refused with its reason or runs from DRAIN over ALIGN, GUARD and CORRECT back to PLL_W, and reverts or holds where the guard
fails. RETUNE_GO with a reason of R77 only writes RESULT; without one STATE becomes 1 (DRAIN), on the safe clock 2 (ALIGN), and the plan in
force is kept as the previous one. DRAIN_COMPLETE in DRAIN with every output idle: WARP goes to the safe clock (State.toSafe) and STATE
becomes 2. DRAIN_LIMIT_EXPIRY in DRAIN, DRAIN_LIMIT mt (at least 1) after GO: State.drainCut acts on each of the 72 outputs. DIVIDER_ALIGN
in ALIGN: STATE becomes 3 and the guard's mt count and revert mark start at none. GUARD_PASS changes nothing while an injection holds the
loop open; in GUARD with a qualified reference: events up to the 4 096th cycle take place, PLLW_LOCK is set and STATE becomes 4; in RECOVER
before its correction PLLW_LOCK is set, the correction begins and STATE stays 7. GUARD_LIMIT_EXPIRY after GUARD_LIMIT mt (at least 1): in
GUARD under the new plan STATE becomes 5 and GUARD_FAIL is set; in the guard of the reverted plan STATE becomes 6 with RESULT 8 and one
PLL_W fault is detected. PLLW_RETURN in CORRECT: STATE is 0, no recovery and no revert last. (Derived from R77, R78, R79, R80, R81, R82,
R91.) -/
def Obligations.Retune : Prop :=
  (∀ (s : State), s.retuneRefusal ≠ 0 → exec .retuneGo s = .next (s.put fCLK_RETUNE_RESULT s.retuneRefusal)) ∧
  (∀ (s : State), s.retuneRefusal = 0 → ∃ t, exec .retuneGo s = .next t ∧ t.get fCLK_RETUNE_STATE = (if s.safe then 2 else 1) ∧
    t.clk.prevCfg = s.word aPLLW_CFG ∧ t.clk.prevFrac = s.word aPLLW_FRAC ∧ t.clk.drainMt = 0) ∧
  (∀ (s : State), s.get fCLK_RETUNE_STATE = 1 → s.drained = true → exec .drainComplete s = .next (s.toSafe.put fCLK_RETUNE_STATE 2)) ∧
  (∀ (s : State), s.get fCLK_RETUNE_STATE = 1 → max 1 (s.get fCLK_RETUNE_DRAIN_LIMIT) ≤ s.clk.drainMt → exec .drainLimitExpiry s =
    .next (s.forN 72 State.drainCut)) ∧
  (∀ (s : State), s.get fCLK_RETUNE_STATE = 2 → ∃ t, exec .dividerAlign s = .next t ∧ t.get fCLK_RETUNE_STATE = 3 ∧ t.clk.guardMt =
    0 ∧ t.clk.reverted = false) ∧
  (∀ (s : State), s.injActs 4 ≠ none → exec .guardPass s = .next s) ∧
  (∀ (s : State), s.anyQual = true → s.injActs 4 = none → s.get fCLK_RETUNE_STATE = 3 → exec .guardPass s = .next (((s.flowTo (wcs
    (s.refCycles s.clk.guardAt 4096))).put fCLK_STATUS_PLLW_LOCK 1).put fCLK_RETUNE_STATE 4)) ∧
  (∀ (s : State), s.anyQual = true → s.injActs 4 = none → s.get fCLK_RETUNE_STATE = 7 → s.clk.recover = false → s.pins = [] → ∃ t,
    exec .guardPass s = .next t ∧ t.get fCLK_STATUS_PLLW_LOCK = 1 ∧ t.get fCLK_RETUNE_STATE = 7 ∧ t.clk.recover = true ∧ Only
    [aCLK_STATUS] s t) ∧
  (∀ (s : State), max 1 (s.get fCLK_RETUNE_GUARD_LIMIT) ≤ s.clk.guardMt → s.get fCLK_RETUNE_STATE = 3 → s.clk.reverted = false → ∃
    t, exec .guardLimitExpiry s = .next t ∧ t.get fCLK_RETUNE_STATE = 5 ∧ t.get fCLK_STATUS_GUARD_FAIL = 1 ∧ t.clk.guardMt = 0 ∧
    Only [aCLK_RETUNE, aCLK_STATUS] s t) ∧
  (∀ (s : State), max 1 (s.get fCLK_RETUNE_GUARD_LIMIT) ≤ s.clk.guardMt → s.get fCLK_RETUNE_STATE = 5 → s.clk.reverted = true → ∃ t,
    exec .guardLimitExpiry s = .next t ∧ t.get fCLK_RETUNE_STATE = 6 ∧ t.get fCLK_RETUNE_RESULT = 8 ∧ t.detected = s.detected ++
    [Det.mk 1 0 3 0 false s.nowT (s.injMarks 1 0)] ∧ Only [aCLK_RETUNE] s t) ∧
  (∀ (s : State) (resid : Int), s.get fCLK_RETUNE_STATE = 4 → ∃ t, exec (.pllwReturn resid) s = .next t ∧ t.get fCLK_RETUNE_STATE =
    0 ∧ t.clk.recover = false ∧ t.clk.reverted = false)

/-- A trim is taken or refused, its ramp ends at TRIM, a loss of lock or a phase step is recorded, and the first lock starts the timebase at
zero. TRIM_WRITE: where the servo of a member owns TRIM only TRIM_OWNED is set; otherwise TRIM takes a value of -5 000 000 to 5 000 000, and
a value above becomes 5 000 000, one below -5 000 000, with TRIM_CLAMP set. TRIM_RAMP_DONE of a ramp, no Heddle event ahead: RAMP clears and
TRIM_NOW shows TRIM; only PLLW_TRIM_NOW changes of the registers, and of the rest the time and the clock's own counts. LOCK_LOST on the safe
clock: PLLW_LOCK clears, the loss is counted and one fault is detected, STATE stays outside CORRECT and CORRECT goes back to GUARD; on PLL_W
outside DRAIN STATE becomes 7 (RECOVER), in DRAIN 2. PHASE_STEP on PLL_W outside CORRECT, with PS_ACTION 0, no Heddle event ahead, the
latest 2M stamps given, and the means of the later M and of the M before them apart by more than 3.5 ps: PHASE_STEP is set, PHASE_STEPS
advances, STEP takes the difference to the nearest wc/1024 where PHASE_STEP was clear, one fault is detected. PLLW_FIRST_LOCK, not before in
this power-up and its start admitted: the timebase, the keeper's accumulator and its stamp are 0, PLLW_LOCK is set and no register word
changes but CLK_STATUS and KEEPER_STATUS; after a first lock it changes nothing. (Derived from R20, R31, R84, R85, R88, R89, R92, R93,
R272.) -/
def Obligations.TrimAndLock : Prop :=
  (∀ (s : State) (trim : Int), s.servoOwns = true → exec (.trimWrite trim) s = .next (s.flag fCHAIN_STATUS_TRIM_OWNED)) ∧
  (∀ (s : State) (trim : Int), s.servoOwns = false → -5000000 ≤ trim ∧ trim ≤ 5000000 → ∃ t, exec (.trimWrite trim) s = .next t ∧
    t.trim = trim) ∧
  (∀ (s : State) (trim : Int), s.servoOwns = false → 5000000 < trim → ∃ t, exec (.trimWrite trim) s = .next t ∧ t.trim = 5000000 ∧
    t.is fCLK_STATUS_TRIM_CLAMP = true) ∧
  (∀ (s : State) (trim : Int), s.servoOwns = false → trim < -5000000 → ∃ t, exec (.trimWrite trim) s = .next t ∧ t.trim = -5000000 ∧
    t.is fCLK_STATUS_TRIM_CLAMP = true) ∧
  (∀ (s : State), s.is fPLLW_TRIM_NOW_RAMP = true → s.pins = [] → ∃ t, exec .trimRampDone s = .next t ∧ t.get fPLLW_TRIM_NOW_RAMP =
    0 ∧ t.geti fPLLW_TRIM_NOW_TRIM_NOW = s.trim ∧ Only [aPLLW_TRIM_NOW] s t ∧ t =
    { s with regs := t.regs, now := t.now, clk := t.clk }) ∧
  (∀ (s : State), s.safe = true → ∃ t, exec .lockLost s = .next t ∧ t.get fCLK_STATUS_PLLW_LOCK = 0 ∧ t.get fCLK_COUNT_LOCK_LOSS =
    satU (fldWidth fCLK_COUNT_LOCK_LOSS) (s.get fCLK_COUNT_LOCK_LOSS + 1) ∧ t.detected.length = s.detected.length + 1 ∧ t.get
    fCLK_RETUNE_STATE = (if s.get fCLK_RETUNE_STATE = 4 then 3 else s.get fCLK_RETUNE_STATE) ∧ Only [aCLK_STATUS, aCLK_COUNT,
    aCLK_RETUNE] s t) ∧
  (∀ (s : State), s.safe = false → ∃ t, exec .lockLost s = .next t ∧ t.get fCLK_RETUNE_STATE = (if s.get fCLK_RETUNE_STATE = 1 then
    2 else 7)) ∧
  (∀ (s : State) (stamps : List Nat), stamps.length = 2 * s.watchLen → s.watches (stamps.getLastD 0) = true → s.isStep (s.watchDiff
    stamps) = true → s.is fCLK_PHASE_WATCH_PS_ACTION = false → s.pins = [] → ∃ t, exec (.phaseStep stamps) s = .next t ∧ t.is
    fCLK_STATUS_PHASE_STEP = true ∧ t.get fCLK_COUNT_PHASE_STEPS = satU (fldWidth fCLK_COUNT_PHASE_STEPS) (s.get
    fCLK_COUNT_PHASE_STEPS + 1) ∧ (s.is fCLK_STATUS_PHASE_STEP = false → t.geti fCLK_PHASE_WATCH_STEP = satS (fldWidth
    fCLK_PHASE_WATCH_STEP) (s.watchDiff stamps + 1 / 2).floor) ∧ (s.is fCLK_STATUS_PHASE_STEP = true → t.word aCLK_PHASE_WATCH =
    s.word aCLK_PHASE_WATCH) ∧ t.detected.length = s.detected.length + 1 ∧ Only [aCLK_STATUS, aCLK_COUNT, aCLK_PHASE_WATCH] s t) ∧
  (∀ (s : State), s.clk.lockedOnce = false → s.gov.queue.any (fun x => x.1 == .pllw) = false → ∃ t, exec .pllwFirstLock s = .next t
    ∧ t.now = 0 ∧ t.clk.lockedOnce = true ∧ t.clk.acc = 0 ∧ t.clk.stamp = 0 ∧ t.get fCLK_STATUS_PLLW_LOCK = 1 ∧ Only [aCLK_STATUS,
    aKEEPER_STATUS] s t) ∧
  (∀ (s : State), s.clk.lockedOnce = true → exec .pllwFirstLock s = .next s)

/-- An mt tick counts in TB_MT_COUNT, stamps the timebase, and every block takes its once-per-mt part in a fixed order. MT_TICK completes in
every state: the keeper's part at the tick's stamp comes first, then the check of reference A, that of reference B, the re-reference that
waits, the temperature sensors, the calibration values, the stress of the sites, the powered day, the counts of mt, the island holds, the
watchdog, and the domains that wake. The keeper's part advances TB_MT_COUNT by one modulo 2^36 where no Heddle event lies ahead; once PLL_W
has locked the stamp of the tick is the given one. The check of a reference that no injection gates off with an edge count inside QUAL_PPM
that had no loss of activity in the mt counts one more qualifying mt; with one it counts from 0. (Derived from R28, R31, R33, R35, R67.) -/
def Obligations.MtTick : Prop :=
  (∀ (s : State) (obs : MtObs) (u : State), u = ((((s.keeperMt obs.stamp).refMt false obs.fA).refMt true obs.fB).rereference.thermMt
    obs.temps).calMt → exec (.mtTick obs) s = .next ((u.stressMt ((List.range 8).map u.siteT)).dayMt.waitsMt.holdMt.wdtMt.wakeMt)) ∧
  (∀ (s : State) (stamp : Nat), s.pins = [] → (s.keeperMt stamp).get fTB_MT_COUNT_MT_COUNT = (s.get fTB_MT_COUNT_MT_COUNT + 1) % 2 ^
    36) ∧
  (∀ (s : State) (stamp : Nat), s.clk.lockedOnce = true → (s.keeperMt stamp).clk.stamp = stamp % tMod) ∧
  (∀ (s : State) (b : Bool) (f : Nat), f ≠ 0 → s.ppmOk f = true → s.refGated b = false → (s.refMt b f).qualCount b = if (if b then
    s.clk.lossB else s.clk.lossA) = true then 0 else s.qualCount b + 1)

/-- Leading and trailing edges, enables and applies act on the schedule of their output. Where no Heddle event lies ahead. LEADING_EDGE of a
next pulse at instant l: the output's schedule takes it by State.leadEdge; on PLL_W, where it breaks neither R95 nor R108 and the output is
no gate, the pulse becomes the active one, shown where the driver shows pulses, the latest leading edge is l, and a shown edge leaves the
ball at l plus the working SKEW; a grid's pulse on the safe clock is suppressed and the grid moves on. TRAILING_EDGE of an active pulse with
its end e known: by State.trailEdge; the output has no active pulse and its latest trailing edge is e. ENABLE_WRITE of 3 leaves the output;
of another value ENABLE reads it, by State.enable (OFF while no pulse is active takes the driver off at once); a waiting load is checked.
DRIVER_AWAKE of an admitted waking driver: DRV is armed idle and its level checks start now. WARP_APPLY keeps both masks and asks every
selected channel in turn (State.requestApply); with no bank it only stores the masks. MOUT_APPLY likewise keeps OUT_MASK and, for no output,
changes only MOUT_APPLY and perhaps TB_LOAD_CTRL; output 7 alone in EDGE mode is asked. (Derived from R95, R96, R97, R111, R112, R113, R114,
R116.) -/
def Obligations.EdgesAtBalls : Prop :=
  (∀ (s : State) (o : Fin 72) (l : Nat), s.pins = [] → (s.nextLead o.val).at_ = some l → exec (.leadingEdge o) s = .next (s.leadEdge
    o.val (s.nextLead o.val) l)) ∧
  (∀ (s : State) (o : Fin 72) (l : Nat) (p : Pulse), s.pins = [] → (s.nextLead o.val).at_ = some l → s.pulseOf o.val (s.nextLead
    o.val) = some p → s.safe = false → s.breaks o.val l p.trail = false → s.gateFibres o.val = [] → ∃ t, exec (.leadingEdge o) s =
    .next t ∧ (t.out o.val).act = some { p with shown := s.shows o.val, barred := false } ∧ (t.out o.val).lastLead = some l ∧
    (t.out o.val).sent = (if s.shows o.val then some (tShift l (s.ballVals o.val).skew) else (s.out o.val).sent)) ∧
  (∀ (s : State) (o : Fin 72) (l : Nat), s.pins = [] → s.nextLead o.val = .grid l → s.safe = true → exec (.leadingEdge o) s = .next
    (((((s.until_ l).consumeLead o.val (.grid l)).oSuppress o.val).oRefresh o.val).applyIfWaiting o.val)) ∧
  (∀ (s : State) (o : Fin 72) (p : Pulse) (e : Nat), s.pins = [] → (s.out o.val).act = some p → p.trail = some e → exec
    (.trailingEdge o) s = .next (s.trailEdge o.val e p)) ∧
  (∀ (s : State) (o : Fin 72) (p : Pulse) (e : Nat), s.pins = [] → (s.out o.val).act = some p → p.trail = some e → ∃ t, exec
    (.trailingEdge o) s = .next t ∧ (t.out o.val).act = none ∧ (t.out o.val).lastTrail = some e) ∧
  (∀ (s : State) (o : Fin 72) (v : Fin 4), v.val ≠ 3 → ∃ t, exec (.enableWrite o v) s = .next t ∧ t.oEnable o.val = v.val ∧ t =
    (s.enable o.val v.val).checkLoad) ∧
  (∀ (s : State) (o : Fin 72), exec (.enableWrite o 3) s = .next s.checkLoad) ∧
  (∀ (s : State) (o : Fin 72), s.oEnable o.val ≠ 0 → (s.out o.val).act = none → s.loadWaits = false → exec (.enableWrite o 0) s =
    .next ((s.oPut o.val fWARP_CH_CTRL_ENABLE fMOUT_CTRL_ENABLE 0).driverOff o.val)) ∧
  (∀ (s : State) (o : Fin 72), s.oDrv o.val = 1 → (s.out o.val).admitted = true → exec (.driverAwake o) s = .next ((s.setDrv o.val
    2).setOut o.val { s.out o.val with awake := s.nowT, chk := none })) ∧
  (∀ (s : State) (banks : Fin 256) (chans : Fin 256), exec (.warpApply banks chans) s = .next ((chansOf banks.val chans.val).foldl
    (fun s o => s.requestApply o) ((s.put fWARP_APPLY_BANK_MASK banks.val).put fWARP_APPLY_CH_MASK chans.val))) ∧
  (∀ (s : State) (chans : Fin 256), ∃ t, exec (.warpApply 0 chans) s = .next t ∧ t.get fWARP_APPLY_BANK_MASK = 0 ∧ t.get
    fWARP_APPLY_CH_MASK = chans.val ∧ Only [aWARP_APPLY] s t ∧ RegsOnly s t) ∧
  (∀ (s : State), ∃ t, exec (.moutApply 0) s = .next t ∧ t.get fMOUT_APPLY_OUT_MASK = 0 ∧ Only [aMOUT_APPLY, aTB_LOAD_CTRL] s t ∧
    RegsOnly s t) ∧
  (∀ (s : State), s.oMode 71 = 1 → exec (.moutApply 128) s = .next (((s.put fMOUT_APPLY_OUT_MASK 128).requestApply 71).checkLoad))

/-- ARM of a timed apply sends one command of source 0x6, or sets ARM_BUSY while one is pending; CANCEL withdraws it before its commit.
WARP_TAPPLY_ARM and MOUT_TAPPLY_ARM with PENDING clear set PENDING and append to the channel FIFO of source 6 the apply of their masks with
the due time of their registers, its commit in the present wc; only their control word, the FIFO's stall count and the note of the wc's
events change beside. With PENDING set they store their masks and set ARM_BUSY alone. The cancels, where the command still waits
uncommitted, withdraw it (State.cancelDue) and clear PENDING, and change nothing where none can be withdrawn. (Derived from R117, R167.) -/
def Obligations.TimedApplyArming : Prop :=
  (∀ (s : State) (banks : Fin 256) (chans : Fin 256), ((s.put fWARP_TAPPLY_CTRL_BANK_MASK banks.val).put fWARP_TAPPLY_CTRL_CH_MASK
    chans.val).is fWARP_TAPPLY_CTRL_PENDING = false → ∃ t, exec (.warpTapplyArm banks chans) s = .next t ∧ t.is
    fWARP_TAPPLY_CTRL_PENDING = true ∧ t.hsf = s.hsf ++ [DueCmd.mk (.chApply banks.val chans.val) 3 (tsOf (s.word aWARP_TAPPLY_LO)
    (s.word aWARP_TAPPLY_HI)) 6] ∧ t.sentAt = s.sentAt ++ [(DueCmd.mk (.chApply banks.val chans.val) 3 (tsOf (s.word
    aWARP_TAPPLY_LO) (s.word aWARP_TAPPLY_HI)) 6, s.now)] ∧ Only [aWARP_TAPPLY_CTRL, aHSF_STALL + 6] s t ∧ t =
    { s with regs := t.regs, evts := t.evts, hsf := t.hsf, sentAt := t.sentAt }) ∧
  (∀ (s : State) (banks : Fin 256) (chans : Fin 256), s.is fWARP_TAPPLY_CTRL_PENDING = true → exec (.warpTapplyArm banks chans) s =
    .next (((s.put fWARP_TAPPLY_CTRL_BANK_MASK banks.val).put fWARP_TAPPLY_CTRL_CH_MASK chans.val).flag
    fWARP_TAPPLY_CTRL_ARM_BUSY)) ∧
  (∀ (s : State) (s' : State), s.cancelDue (fun c => isChApply c.target) = some s' → exec .warpTapplyCancel s = .next (s'.unflag
    fWARP_TAPPLY_CTRL_PENDING)) ∧
  (∀ (s : State), s.cancelDue (fun c => isChApply c.target) = none → exec .warpTapplyCancel s = .next s) ∧
  (∀ (s : State) (outs : Fin 256), s.is fMOUT_TAPPLY_CTRL_PENDING = false → ∃ t, exec (.moutTapplyArm outs) s = .next t ∧ t.is
    fMOUT_TAPPLY_CTRL_PENDING = true ∧ t.hsf = s.hsf ++ [DueCmd.mk (.moApply outs.val) 3 (tsOf (s.word aMOUT_TAPPLY_LO) (s.word
    aMOUT_TAPPLY_HI)) 6] ∧ t.sentAt = s.sentAt ++ [(DueCmd.mk (.moApply outs.val) 3 (tsOf (s.word aMOUT_TAPPLY_LO) (s.word
    aMOUT_TAPPLY_HI)) 6, s.now)] ∧ Only [aMOUT_TAPPLY_CTRL, aHSF_STALL + 6] s t ∧ t =
    { s with regs := t.regs, evts := t.evts, hsf := t.hsf, sentAt := t.sentAt }) ∧
  (∀ (s : State) (outs : Fin 256), s.is fMOUT_TAPPLY_CTRL_PENDING = true → exec (.moutTapplyArm outs) s = .next ((s.put
    fMOUT_TAPPLY_CTRL_OUT_MASK outs.val).flag fMOUT_TAPPLY_CTRL_ARM_BUSY)) ∧
  (∀ (s : State) (s' : State), s.cancelDue (fun c => isMoApply c.target) = some s' → exec .moutTapplyCancel s = .next (s'.unflag
    fMOUT_TAPPLY_CTRL_PENDING)) ∧
  (∀ (s : State), s.cancelDue (fun c => isMoApply c.target) = none → exec .moutTapplyCancel s = .next s)

/-- The echo checker passes an edge within 20 ps and reports a missing or late edge, an unexplained transition and a wrong level.
ECHO_CLASSIFY at a running checker, no injection in force, events ahead having taken place up to 1 wc after the edge: an expected edge seen
with a deviation, the working ECHO_OFS removed, within 20 ps only leaves the list of expected edges; one seen later than that by at most 1
024 wc/1024 is an error of cause 4 with its deviation; one that does not come is, on PLL_W, an echo error of cause 1 for its expected time.
ECHO_LEVEL_CHECK at a running checker, no event ahead, at the next check instant t: the check is noted at t; a level that agrees with the
schedule changes nothing more, one that does not is an echo error of cause 3 at t, and at a gate ball held idle GATE_ERR. (Derived from
R121, R122, R123, R124, R247.) -/
def Obligations.EchoChecker : Prop :=
  (∀ (s : State) (o : Fin 72) (obs : EdgeObs) (d : Int) (t : Nat) (lead : Bool) (rest : List (Nat × Bool)), s.echoRuns o.val = true
    → s.selv.inj = none → obs = .seen d → (s.out o.val).echo = (t, lead) :: rest → (s.flowTo (tAdd t 1024)).within (d - s.echoOfs
    o.val) 20 = true → exec (.echoClassify o obs) s = .next ((s.flowTo (tAdd t 1024)).echoTaken o.val rest)) ∧
  (∀ (s : State) (o : Fin 72) (obs : EdgeObs) (d : Int) (t : Nat) (lead : Bool) (rest : List (Nat × Bool)), s.echoRuns o.val = true
    → s.selv.inj = none → obs = .seen d → (s.out o.val).echo = (t, lead) :: rest → ((s.flowTo (tAdd t 1024)).echoTaken o.val
    rest).safe = false → ((s.flowTo (tAdd t 1024)).echoTaken o.val rest).within (d - s.echoOfs o.val) 20 = false → (d - s.echoOfs
    o.val).natAbs ≤ 1024 → exec (.echoClassify o obs) s = .next (((s.flowTo (tAdd t 1024)).echoTaken o.val rest).echoError o.val 4
    (d - s.echoOfs o.val) t ((s.flowTo (tAdd t 1024)).echoTaken o.val rest).nowT)) ∧
  (∀ (s : State) (o : Fin 72) (t : Nat) (lead : Bool) (rest : List (Nat × Bool)), s.echoRuns o.val = true → s.selv.inj = none →
    (s.out o.val).echo = (t, lead) :: rest → ((s.flowTo (tAdd t 1024)).echoTaken o.val rest).safe = false → exec (.echoClassify o
    .none_) s = .next (((s.flowTo (tAdd t 1024)).echoTaken o.val rest).echoError o.val 1 0 t ((s.flowTo (tAdd t 1024)).echoTaken
    o.val rest).nowT)) ∧
  (∀ (s : State) (o : Fin 72) (high : Bool) (t : Nat), s.pins = [] → s.echoRuns o.val = true → s.nextCheck o.val = some t → high =
    s.scheduledHigh o.val → exec (.echoLevelCheck o high) s = .next ((s.until_ t).setOut o.val
    { s.out o.val with chk := some t })) ∧
  (∀ (s : State) (o : Fin 72) (high : Bool) (t : Nat), s.pins = [] → s.echoRuns o.val = true → s.nextCheck o.val = some t → high ≠
    s.scheduledHigh o.val → s.heldIdle o.val = false → exec (.echoLevelCheck o high) s = .next (((s.until_ t).setOut o.val
    { s.out o.val with chk := some t }).echoError o.val 3 0 t t)) ∧
  (∀ (s : State) (o : Fin 72) (high : Bool) (t : Nat), s.pins = [] → s.echoRuns o.val = true → s.nextCheck o.val = some t → high ≠
    s.scheduledHigh o.val → s.heldIdle o.val = true → exec (.echoLevelCheck o high) s = .next (((s.until_ t).setOut o.val
    { s.out o.val with chk := some t }).gateErr o.val))

/-- A bank's spare copies a failing channel, takes its ball in an idle wc, and gives it back at a release. FAILOVER_COPY_DONE of a running
copy marks it done. FAILOVER_SWITCH in an idle wc of the channel after the copy: SPARE_STATE is 4, the channel's FO_ACTIVE is set, FO_COUNT
advances, saturating, and no register word changes but the bank's and the channel's status. FO_RELEASE keeps FO_CH; for the channel the
spare serves it asks for the release in SPARE_STATE 4 and abandons a copy in SPARE_STATE 3, for another it does nothing more.
FO_RELEASE_SWITCH in an idle wc, a release asked for: SPARE_STATE is 0, FO_ACTIVE clears, the bank's failover state is empty. FO_FORCE keeps
FO_CH and, for a channel with FO_EN 1 that the spare does not drive, starts a failover (State.failoverStart); otherwise it does nothing
more. (Derived from R125, R126, R130.) -/
def Obligations.BankFailover : Prop :=
  (∀ (s : State) (b : Fin 8), s.get fWARP_BANK_STATUS_SPARE_STATE b.val = 3 → (nth s.banks b.val).copied = false → exec
    (.failoverCopyDone b) s = .next (s.setBank b.val { nth s.banks b.val with copied := true })) ∧
  (∀ (s : State) (b : Fin 8), s.get fWARP_BANK_STATUS_SPARE_STATE b.val = 3 → (nth s.banks b.val).copied = true → s.idleWc (8 *
    b.val + s.get fWARP_BANK_STATUS_SPARE_CH b.val) = true → s.get fWARP_BANK_STATUS_SPARE_CH b.val < 8 → ∃ t, exec
    (.failoverSwitch b) s = .next t ∧ t.get fWARP_BANK_STATUS_SPARE_STATE b.val = 4 ∧ t.is fWARP_CH_STATUS_FO_ACTIVE (8 * b.val +
    s.get fWARP_BANK_STATUS_SPARE_CH b.val) = true ∧ t.get fWARP_BANK_STATUS_FO_COUNT b.val = satU (fldWidth
    fWARP_BANK_STATUS_FO_COUNT) (s.get fWARP_BANK_STATUS_FO_COUNT b.val + 1) ∧ Only [aWARP_BANK_STATUS + b.val, aWARP_CH_STATUS +
    (8 * b.val + s.get fWARP_BANK_STATUS_SPARE_CH b.val)] s t ∧ RegsOnly s t) ∧
  (∀ (s : State) (b : Fin 8) (k : Fin 8), s.get fWARP_BANK_STATUS_SPARE_CH b.val ≠ k.val → exec (.foRelease b k) s = .next (s.put
    fWARP_BANK_CTRL_FO_CH k.val b.val)) ∧
  (∀ (s : State) (b : Fin 8) (k : Fin 8), s.get fWARP_BANK_STATUS_SPARE_CH b.val = k.val → s.get fWARP_BANK_STATUS_SPARE_STATE b.val
    = 4 → exec (.foRelease b k) s = .next ((s.put fWARP_BANK_CTRL_FO_CH k.val b.val).setBank b.val
    { nth s.banks b.val with release := true })) ∧
  (∀ (s : State) (b : Fin 8) (k : Fin 8), s.get fWARP_BANK_STATUS_SPARE_CH b.val = k.val → s.get fWARP_BANK_STATUS_SPARE_STATE b.val
    = 3 → exec (.foRelease b k) s = .next (((s.put fWARP_BANK_CTRL_FO_CH k.val b.val).put fWARP_BANK_STATUS_SPARE_STATE 0
    b.val).setBank b.val {})) ∧
  (∀ (s : State) (b : Fin 8), (nth s.banks b.val).release = true → s.idleWc (8 * b.val + s.get fWARP_BANK_STATUS_SPARE_CH b.val) =
    true → exec (.foReleaseSwitch b) s = .next (((s.put fWARP_BANK_STATUS_SPARE_STATE 0 b.val).unflag fWARP_CH_STATUS_FO_ACTIVE (8
    * b.val + s.get fWARP_BANK_STATUS_SPARE_CH b.val)).setBank b.val {})) ∧
  (∀ (s : State) (b : Fin 8) (k : Fin 8), s.is fWARP_CH_CTRL_FO_EN (8 * b.val + k.val) = true → s.spareDrives (8 * b.val + k.val) =
    false → exec (.foForce b k) s = .next ((s.put fWARP_BANK_CTRL_FO_CH k.val b.val).failoverStart (8 * b.val + k.val))) ∧
  (∀ (s : State) (b : Fin 8) (k : Fin 8), s.is fWARP_CH_CTRL_FO_EN (8 * b.val + k.val) = false ∨ s.spareDrives (8 * b.val + k.val) =
    true → exec (.foForce b k) s = .next (s.put fWARP_BANK_CTRL_FO_CH k.val b.val))

/-- A voter takes a stuck generator as disagreeing, a swap runs from copy over comparison to takeover, and generators are replaced or
cleared on command. VOTE_CLASSIFY, events up to it having taken place: a level that a voting generator holds wrong at an instant of a level
check is a disagreement of cause 3 then (State.disagree); an edge at which every generator arrives on schedule, ECHO_OFS removed, leaves the
list of expected edges and reports nothing (no injection, no shadow, no event ahead); arrivals with no edge expected change nothing.
SWAP_COPY_DONE of a swap whose comparison has not begun starts it now. SWAP_TAKEOVER, 64 wc after the start of the comparison: at the first
quiet instant of the next 32 wc the swap is complete (State.swapDone). REPLACE keeps GEN; for a generator that does not vote it sets
REPLACE_UNAVAIL, for one that votes, with REPLACE_EN 1, the replacement starts (State.replaceGen), with REPLACE_EN 0 nothing more happens.
CLEAR_FAULTY of a FAULTY generator makes it UNCAL and drops its mark; of another it only keeps GEN. (Derived from R171, R173, R174, R177,
R181.) -/
def Obligations.Voters : Prop :=
  (∀ (s : State) (m : Fin 8) (obs : VoteObs) (g : Fin 4) (t : Nat), obs = .stuck g t → isCheck ((s.flowTo t).steady (64 + m.val)
    (((s.flowTo t).out (64 + m.val)).lastLead.getD 0)) t = true → (s.flowTo t).role m.val g.val < 3 → exec (.voteClassify m obs) s
    = .next ((s.flowTo t).disagree m.val [(g.val, 3, 0)] t)) ∧
  (∀ (s : State) (m : Fin 8) (obs : VoteObs) (ds : List (Fin 4 × Option Int)) (e : Nat) (lead : Bool) (rest : List (Nat × Bool)),
    obs = .arrivals ds none → s.selv.inj = none → s.pins = [] → (s.out (64 + m.val)).vote = (e, lead) :: rest → ∀ g : Fin 4,
    (ds.find? (fun e => e.1.val == g.val)).bind (·.2) = some (s.echoOfs (64 + m.val)) → ∃ t, exec (.voteClassify m obs) s = .next
    t ∧ (t.out (64 + m.val)).vote = rest ∧ t = { s with freeIdx := t.freeIdx, now := t.now, outs := t.outs }) ∧
  (∀ (s : State) (m : Fin 8) (obs : VoteObs) (ds : List (Fin 4 × Option Int)) (sh : Option (Option Int)), obs = .arrivals ds sh →
    (s.out (64 + m.val)).vote = [] → exec (.voteClassify m obs) s = .next s) ∧
  (∀ (s : State) (m : Fin 8) (w : Swap), (nth s.voters m.val).swap = some w → w.compFrom = none → exec (.swapCopyDone m) s = .next
    (s.setVoter m.val { nth s.voters m.val with swap := some { w with compFrom := some s.nowT } })) ∧
  (∀ (s : State) (m : Fin 8) (w : Swap) (c y : Nat), (nth s.voters m.val).swap = some w → w.compFrom = some c → (s.flowTo (tAdd c
    (wcs 64))).quietFrom (64 + m.val) (s.flowTo (tAdd c (wcs 64))).nowT = some y → exec (.swapTakeover m) s = .next (((s.flowTo
    (tAdd c (wcs 64))).flowTo y).swapDone m.val w)) ∧
  (∀ (s : State) (m : Fin 8) (g : Fin 4), 3 ≤ s.role m.val g.val → exec (.replace m g) s = .next ((s.put fMOUT_CMD_GEN g.val
    m.val).flag fMOUT_GEN_REPLACE_UNAVAIL m.val)) ∧
  (∀ (s : State) (m : Fin 8) (g : Fin 4), s.role m.val g.val < 3 → s.is fMOUT_CTRL_REPLACE_EN m.val = true → exec (.replace m g) s =
    .next ((s.put fMOUT_CMD_GEN g.val m.val).replaceGen m.val g.val)) ∧
  (∀ (s : State) (m : Fin 8) (g : Fin 4), s.role m.val g.val < 3 → s.is fMOUT_CTRL_REPLACE_EN m.val = false → exec (.replace m g) s
    = .next (s.put fMOUT_CMD_GEN g.val m.val)) ∧
  (∀ (s : State) (m : Fin 8) (g : Fin 4), s.role m.val g.val = 6 → ∃ t, exec (.clearFaulty m g) s = .next t ∧ t.role m.val g.val = 7
    ∧ (nth t.voters m.val).faulty = (nth s.voters m.val).faulty.filter (fun x => x != g.val)) ∧
  (∀ (s : State) (m : Fin 8) (g : Fin 4), s.role m.val g.val ≠ 6 → exec (.clearFaulty m g) s = .next (s.put fMOUT_CMD_GEN g.val
    m.val))

/-- Rate generators start, stop and tick on their grid, prescale counters clear, and a crossing acts in Heddle and Reed. RG_GO with a period
of 4 wc or more, COUNT 0 and no grid running: the generator runs on the grid of RG_START and its period from the first tick at least 16 wc
ahead, RUN is 1, only its own control word and generator change. RG_STOP of one that does not run leaves it idle with RUN 0. RG_TICK of a
running generator that replaces none: the tick leaves its grid, RUN shows whether ticks remain, and the tick reaches every line that selects
the generator at START + k × period (State.sourceToLines). HEDDLE_IN_PS_SYNC zeroes the prescale counters of the selected inputs and keeps
the others, nothing else changes. TI_CROSSING, the events ahead up to its instant having taken place: during a code-density run of its input
it ends a discarded glitch and counts in CD_MISS; else on the safe clock it sets LOCK_MISS, counts in MISS_COUNT and takes Reed's part of
R273 (State.reedSafe); else, where it has a stamp, it acts in Reed and then in Heddle (State.reedCross, State.heddleCross). (Derived from
R135, R137, R139, R140, R141.) -/
def Obligations.HeddleInputsAndGenerators : Prop :=
  (∀ (s : State) (g : Fin 8), 4096 ≤ s.rgPeriod g.val → s.get fHEDDLE_RG_CTRL_COUNT g.val = 0 → nth s.rgs g.val = RgSt.mk none [] →
    g.val < s.rgs.length → ∃ t, exec (.rgGo g) s = .next t ∧ (nth t.rgs g.val).cur = some (RgGrid.mk (tsOf (s.word
    (aHEDDLE_RG_START_LO + g.val)) (s.word (aHEDDLE_RG_START_HI + g.val))) (s.rgPeriod g.val) 0 (gridIndex (tsOf (s.word
    (aHEDDLE_RG_START_LO + g.val)) (s.word (aHEDDLE_RG_START_HI + g.val))) (s.rgPeriod g.val) (tAdd s.nowT (wcs 16))) 0 none) ∧
    t.get fHEDDLE_RG_CTRL_RUN g.val = 1 ∧ Only [aHEDDLE_RG_CTRL + g.val] s t ∧ t =
    { s with regs := t.regs, evts := t.evts, rgs := t.rgs }) ∧
  (∀ (s : State) (g : Fin 8), nth s.rgs g.val = RgSt.mk none [] → ∃ t, exec (.rgStop g) s = .next t ∧ nth t.rgs g.val = RgSt.mk none
    [] ∧ t.get fHEDDLE_RG_CTRL_RUN g.val = 0 ∧ Only [aHEDDLE_RG_CTRL + g.val] s t) ∧
  (∀ (s : State) (g : Fin 8) (r : RgGrid), (nth s.rgs g.val).prev = [] → (nth s.rgs g.val).cur = some r → exec (.rgTick g) s = .next
    ((({ s with rgs := s.rgs.set g.val ⟨r.tick.2, []⟩ }).put fHEDDLE_RG_CTRL_RUN (b2n r.tick.2.isSome) g.val).sourceToLines (12 +
    g.val) (16 + g.val) (tAdd r.start (r.k * r.per)) false)) ∧
  (∀ (s : State) (mask : Fin 65536), ∃ t, exec (.heddleInPsSync mask) s = .next t ∧ t = { s with hin := t.hin } ∧ ∀ i, i < 16 → (nth
    t.hin i).cnt = (if mask.val.testBit i then 0 else (nth s.hin i).cnt)) ∧
  (∀ (s : State) (i : Fin 16) (cap : TiCap) (rising : Bool) (hold : Nat), (s.flowTo ((s.stampOf i.val cap).getD (wcs (capWc
    cap)))).is fREED_IN_STATUS_CD_ACTIVE i.val = true → exec (.tiCrossing i cap rising hold) s = .next (((s.flowTo ((s.stampOf
    i.val cap).getD (wcs (capWc cap)))).glitchOver i.val).bump fREED_CD_STATUS_CD_MISS)) ∧
  (∀ (s : State) (i : Fin 16) (cap : TiCap) (rising : Bool) (hold : Nat) (u : State), u = s.flowTo ((s.stampOf i.val cap).getD (wcs
    (capWc cap))) → u.is fREED_IN_STATUS_CD_ACTIVE i.val = false → u.safe = true → exec (.tiCrossing i cap rising hold) s = .next
    ((((u.reedSafe i.val rising).glitchOver i.val).flag fHEDDLE_IN_STATUS_LOCK_MISS i.val).bump fHEDDLE_IN_STATUS_MISS_COUNT
    i.val)) ∧
  (∀ (s : State) (i : Fin 16) (cap : TiCap) (rising : Bool) (hold : Nat) (e : Nat) (u : State), s.stampOf i.val cap = some e → u =
    s.flowTo e → u.is fREED_IN_STATUS_CD_ACTIVE i.val = false → u.safe = false → exec (.tiCrossing i cap rising hold) s = .next
    ((u.reedCross i.val cap (some e) rising).heddleCross i.val e (capWc cap) rising hold))

/-- Line commands fire, arm and disarm at their due time or at once, and a firing is recorded and reaches every consumer. FIRE, ARM and
DISARM at the head of the store, WARP then on PLL_W without a retune: the command leaves the store, the events ahead up to its due time take
place (for ARM and DISARM those before it), and it fires, arms or disarms its line at the due time (State.fireCmd, armLine, disarmLine); a
FIRE on the safe clock or in a retune is dropped under R55: LOCK_DROP is set and its count advances. HEDDLE_ARM_CMD_ARM in ARM_MODE 2 arms
the line from the present instant with no end, in ARM_MODE 3 until LEN wc later, and in another mode changes nothing; HEDDLE_ARM_CMD_DISARM
in ARM_MODE 2 or 3 of an armed line with no end disarms it now. ARM_WINDOW_EXPIRY of a line with an end, no event ahead: time passes to the
end and the line is disarmed; without one nothing changes. HEDDLE_FIRE_CTRL_GO with room in the FIFO of source 6 appends the line command
with the due time of HEDDLE_FIRE, its commit in the present wc. HEDDLE_LAST_READ snapshots the instant of the selected line's latest firing
in both words of HEDDLE_LAST and changes no other register. (Derived from R132, R142, R144, R146, R147, R149, R158.) -/
def Obligations.HeddleLines : Prop :=
  (∀ (s : State) (c : Stored) (rest : List Stored) (l : Fin 64), s.store = c :: rest → c.cmd.target = .line l → c.cmd.action = 1 →
    (s.popDue c).unlocked = false → exec .fire s = .next ((s.popDue c).fireCmd l.val c.cmd.due)) ∧
  (∀ (s : State) (c : Stored) (rest : List Stored) (l : Fin 64), s.store = c :: rest → c.cmd.target = .line l → c.cmd.action = 1 →
    (s.popDue c).unlocked = true → exec .fire s = .next (((s.popDue c).flag fLEAD_STATUS_LOCK_DROP).bump
    fLEAD_STATUS_LOCK_DROP_COUNT)) ∧
  (∀ (s : State) (c : Stored) (rest : List Stored) (l : Fin 64), s.store = c :: rest → c.cmd.target = .line l → c.cmd.action = 2 →
    ({ s.flowBefore c.cmd.due with store := rest } : State).unlocked = false → exec .arm s = .next
    (({ s.flowBefore c.cmd.due with store := rest }).armLine l.val c.cmd.due)) ∧
  (∀ (s : State) (c : Stored) (rest : List Stored) (l : Fin 64), s.store = c :: rest → c.cmd.target = .line l → c.cmd.action = 3 →
    ({ s.flowBefore c.cmd.due with store := rest } : State).unlocked = false → exec .disarm s = .next
    (({ s.flowBefore c.cmd.due with store := rest }).disarmLine l.val c.cmd.due)) ∧
  (∀ (s : State) (l : Fin 64), s.get fHEDDLE_LINE_CFG_ARM_MODE l.val = 2 → exec (.heddleArmCmdArm l) s = .next
    ({ s with lines := s.lines.set l.val { nth s.lines l.val with armFrom := some s.nowT, armEnd := none } })) ∧
  (∀ (s : State) (l : Fin 64), s.get fHEDDLE_LINE_CFG_ARM_MODE l.val = 3 → exec (.heddleArmCmdArm l) s = .next
    ({ s with lines := s.lines.set l.val { nth s.lines l.val with armFrom := some s.nowT, armEnd := some (tAdd s.nowT (wcs (s.get fHEDDLE_LINE_ARM_LEN_LEN l.val))) } })) ∧
  (∀ (s : State) (l : Fin 64), s.get fHEDDLE_LINE_CFG_ARM_MODE l.val < 2 → exec (.heddleArmCmdArm l) s = .next s) ∧
  (∀ (s : State) (l : Fin 64), s.get fHEDDLE_LINE_CFG_ARM_MODE l.val = 2 ∨ s.get fHEDDLE_LINE_CFG_ARM_MODE l.val = 3 → (nth s.lines
    l.val).armFrom.isSome = true → (nth s.lines l.val).armEnd = none → exec (.heddleArmCmdDisarm l) s = .next
    ({ s with lines := s.lines.set l.val { nth s.lines l.val with armFrom := none, armEnd := some s.nowT } })) ∧
  (∀ (s : State) (l : Fin 64) (e : Nat), s.pins = [] → (nth s.lines l.val).armEnd = some e → exec (.armWindowExpiry l) s = .next
    ({ s.until_ e with lines := s.lines.set l.val { nth s.lines l.val with armFrom := none, armEnd := none } })) ∧
  (∀ (s : State) (l : Fin 64), (nth s.lines l.val).armEnd = none → exec (.armWindowExpiry l) s = .next s) ∧
  (∀ (s : State) (l : Fin 64) (action : Fin 16), (s.hsf.filter (fun d => d.src == 6)).length < 8 → exec (.heddleFireCtrlGo l action)
    s = .next
    ({ s with hsf := s.hsf ++ [DueCmd.mk (.line l) action.val (tsOf (s.word aHEDDLE_FIRE_LO) (s.word aHEDDLE_FIRE_HI)) 6], sentAt := s.sentAt ++ [(DueCmd.mk (.line l) action.val (tsOf (s.word aHEDDLE_FIRE_LO) (s.word aHEDDLE_FIRE_HI)) 6, s.now)] })) ∧
  (∀ (s : State) (u : Nat × Nat), (nth s.lines (s.get fHEDDLE_LAST_SEL_LINE)).last = some u → ∃ t, exec .heddleLastRead s = .next t
    ∧ t.word aHEDDLE_LAST_LO = tsLo u.1 ∧ t.word aHEDDLE_LAST_HI = tsHi u.1 ∧ Only [aHEDDLE_LAST_LO, aHEDDLE_LAST_HI] s t ∧
    RegsOnly s t)

/-- Each item type is issued by its own command: its slot is issued with the item's effect, and another command leaves the item alone. With
the Heddle events up to the issue having taken place, a sequencer that may issue its next slot (the next pass opened where the slot opens
one), no older markers of the type first, and a stored item of the type there: NOP, IDLE, EDGE, LOOP, JUMP, MARK, WAIT, END, CHIP and the
unused types issue it (State.playItem) with their effect: none for NOP and IDLE, ITEM_ERR code 1 for an unused type, the edges in turn for
EDGE, ITEM_ERR 9 or the loop step for LOOP, a jump request for JUMP, a log record with LOG_EN 1 for MARK, the wait of R200 for WAIT, the end
of the run for END, the chips for CHIP with the builders brought up to the present. A NOP command at an item of another type, no markers of
a NOP waiting, changes nothing. A second WAIT of a wait that holds shows WAITING from the instant of the slot after the item; a second END
ends the run with DONE at its instant. A NOP command where no slot may be issued fires the oldest markers, of a NOP item, at their slot
instant. (Derived from R187, R188, R189, R190, R191, R193, R197, R198, R200, R203, R209.) -/
def Obligations.SequencerItems : Prop :=
  (∀ (s : State) (q : Fin 2) (w : Word) (cn un : Bool), ((s.toIssue q.val).roll q.val).mayIssue q.val = true → s.markFirst q.val [0]
    (some (((s.toIssue q.val).roll q.val).issueDate q.val)) = false → ((s.toIssue q.val).roll q.val).seqFetch q.val = .item w cn
    un → getBits w 32 4 = 0 → exec (.nop q) s = .next (((s.toIssue q.val).roll q.val).playItem q.val w cn un (plainItem q.val))) ∧
  (∀ (s : State) (q : Fin 2) (w : Word) (cn un : Bool), ((s.toIssue q.val).roll q.val).mayIssue q.val = true → s.markFirst q.val [0]
    none = false → ((s.toIssue q.val).roll q.val).seqFetch q.val = .item w cn un → getBits w 32 4 ≠ 0 → exec (.nop q) s = .next s) ∧
  (∀ (s : State) (q : Fin 2) (w : Word) (cn un : Bool), ((s.toIssue q.val).roll q.val).mayIssue q.val = true → s.markFirst q.val [8]
    (some (((s.toIssue q.val).roll q.val).issueDate q.val)) = false → ((s.toIssue q.val).roll q.val).seqFetch q.val = .item w cn
    un → getBits w 32 4 = 8 → exec (.idle q) s = .next (((s.toIssue q.val).roll q.val).playItem q.val w cn un (plainItem q.val))) ∧
  (∀ (s : State) (q : Fin 2) (w : Word) (cn un : Bool), ((s.toIssue q.val).roll q.val).mayIssue q.val = true → s.markFirst q.val [9,
    10, 11, 12, 13, 14, 15] (some (((s.toIssue q.val).roll q.val).issueDate q.val)) = false → ((s.toIssue q.val).roll
    q.val).seqFetch q.val = .item w cn un → 9 ≤ getBits w 32 4 → exec (.itemNotUsed q) s = .next (((s.toIssue q.val).roll
    q.val).playItem q.val w cn un (fun s w t => plainItem q.val (s.itemErr q.val 1) w t))) ∧
  (∀ (s : State) (q : Fin 2) (w : Word) (cn un : Bool), ((s.toIssue q.val).roll q.val).mayIssue q.val = true → s.markFirst q.val [2]
    (some (((s.toIssue q.val).roll q.val).issueDate q.val)) = false → ((s.toIssue q.val).roll q.val).seqFetch q.val = .item w cn
    un → getBits w 32 4 = 2 → exec (.edge q) s = .next (((s.toIssue q.val).roll q.val).playItem q.val w cn un (fun s w t =>
    ((edgeEntries w t).foldl (fun s e => s.seqEdge q.val (getBits w 22 6) e) s, (s.seq q.val).addr + 1)))) ∧
  (∀ (s : State) (q : Fin 2) (w : Word) (cn un : Bool), ((s.toIssue q.val).roll q.val).mayIssue q.val = true → s.markFirst q.val [4]
    (some (((s.toIssue q.val).roll q.val).issueDate q.val)) = false → ((s.toIssue q.val).roll q.val).seqFetch q.val = .item w cn
    un → getBits w 32 4 = 4 → exec (.loop q) s = .next (((s.toIssue q.val).roll q.val).playItem q.val w cn un (fun s w _ => if
    segStream (s.seq q.val).w0 then (s.itemErr q.val 9, (s.seq q.val).addr + 1) else s.loopStep q.val w))) ∧
  (∀ (s : State) (q : Fin 2) (w : Word) (cn un : Bool), ((s.toIssue q.val).roll q.val).mayIssue q.val = true → s.markFirst q.val [5]
    (some (((s.toIssue q.val).roll q.val).issueDate q.val)) = false → ((s.toIssue q.val).roll q.val).seqFetch q.val = .item w cn
    un → getBits w 32 4 = 5 → exec (.jump q) s = .next (((s.toIssue q.val).roll q.val).playItem q.val w cn un (fun s w _ =>
    (s.seqRequest q.val ⟨false, getBits w 18 10, none⟩, (s.seq q.val).addr + 1)))) ∧
  (∀ (s : State) (q : Fin 2) (w : Word) (cn un : Bool), ((s.toIssue q.val).roll q.val).mayIssue q.val = true → s.markFirst q.val [6]
    (some (((s.toIssue q.val).roll q.val).issueDate q.val)) = false → ((s.toIssue q.val).roll q.val).seqFetch q.val = .item w cn
    un → getBits w 32 4 = 6 → exec (.mark q) s = .next (((s.toIssue q.val).roll q.val).playItem q.val w cn un (fun s w t => (if
    s.is fSEQ_MODE_LOG_EN q.val then s.packet? s.binds.seqLog [tsLo t, tsHi t, logWord q.val (getBits w 0 28)] else s, (s.seq
    q.val).addr + 1)))) ∧
  (∀ (s : State) (q : Fin 2) (w : Word) (cn un : Bool), ((s.toIssue q.val).roll q.val).mayIssue q.val = true → s.markFirst q.val [1]
    (some (((s.toIssue q.val).roll q.val).issueDate q.val)) = false → ((s.toIssue q.val).roll q.val).seqFetch q.val = .item w cn
    un → getBits w 32 4 = 1 → exec (.chip q) s = .next (((((s.toIssue q.val).roll q.val).playItem q.val w cn un (chipItem
    q.val)).probeTo 0 (((s.toIssue q.val).roll q.val).playItem q.val w cn un (chipItem q.val)).nowT).probeTo 1 (((s.toIssue
    q.val).roll q.val).playItem q.val w cn un (chipItem q.val)).nowT)) ∧
  (∀ (s : State) (q : Fin 2) (w : Word) (cn un : Bool), ((s.toIssue q.val).roll q.val).mayIssue q.val = true → s.markFirst q.val [3]
    (some (((s.toIssue q.val).roll q.val).issueDate q.val)) = false → ((s.toIssue q.val).roll q.val).seqFetch q.val = .item w cn
    un → (s.seq q.val).wait = none → getBits w 32 4 = 3 → exec (.wait q) s = .next (((s.toIssue q.val).roll q.val).playItem q.val
    w cn un (waitItem q.val))) ∧
  (∀ (s : State) (q : Fin 2) (wt : SeqWait), (s.seq q.val).wait = some wt → s.markFirst q.val [3] none = false → s.seqState q.val =
    2 → exec (.wait q) s = .next ((s.flowTo ((s.seq q.val).slotT (wt.k + 1))).setSeqState q.val 3)) ∧
  (∀ (s : State) (q : Fin 2) (w : Word) (cn un : Bool), ((s.toIssue q.val).roll q.val).mayIssue q.val = true → s.markFirst q.val [7]
    (some (((s.toIssue q.val).roll q.val).issueDate q.val)) = false → ((s.toIssue q.val).roll q.val).seqFetch q.val = .item w cn
    un → (s.seq q.val).ending = none → getBits w 32 4 = 7 → exec (.endItem q) s = .next (((s.toIssue q.val).roll q.val).playItem
    q.val w cn un (endItem q.val))) ∧
  (∀ (s : State) (q : Fin 2) (u : Nat), (s.seq q.val).ending = some (u, 6) → s.markFirst q.val [7] none = false → (s.seq q.val).bnd
    = none → s.seqState q.val = 2 → exec (.endItem q) s = .next ((s.flowTo u).seqEnd q.val 6 none)) ∧
  (∀ (s : State) (q : Fin 2) (u m : Nat) (rest : List (Nat × Nat × Nat)), (s.seq q.val).marks = (u, m, 0) :: rest → ((s.toIssue
    q.val).roll q.val).mayIssue q.val = false → exec (.nop q) s = .next (((s.flowTo u).setSeq q.val
    { (s.flowTo u).seq q.val with marks := rest }).markers q.val m u))

/-- A run starts at its slot, waits and decides, passes its segment boundaries and ends as its commands ask. SEQ_GO of a running sequencer
sets GO_IGNORED alone; idle with START_MODE 3 it sets START_LATE alone; with START_MODE 0 and a first pass that R195 admits it arms the run
(State.seqGo) and places the stream (no load waiting). RUN_START of an armed one, no event ahead and no timed apply due by then in the
store: the start is taken, STATE is 2 and time passes to it. WAIT_RELEASE, no event ahead, of a WAITING sequencer inside its pass: at the
release slot, or with WAIT_TO at the limit, the wait ends, slot k is next and STATE is 2. DECISION_POINT, no event ahead: a registered stop
makes the pass the last and leaves no request; with no request and REPEAT not played out the same entry follows. SEGMENT_BOUNDARY ends a run
whose last slot is issued in the STATE it ends in; otherwise, with no event ahead and no apply waiting, the pass that was chosen stands at
its first item on the grid of the boundary instant. SEQ_STOP of a sequencer in STATE 0 leaves it, of a running one fixes its end at the
first slot not issued; SEQ_STOP_AT_END of a running one, and SEQ_JUMP in every state, register their request; SEQ_RELEASE frees a HOST wait
at the first slot 128 wc ahead. SEQ_APPLY waits while it runs and applies at once otherwise; SEQ_TAPPLY_ARM sends the timed apply of source
6, or sets ARM_BUSY; SEQ_TAPPLY_CANCEL withdraws it. REFILL_GRANULE with PD_SHUTTLE on and a region with 64 items ready and room in the
window takes them; with no stream source it changes nothing. (Derived from R185, R186, R200, R202, R203, R205, R206, R208, R209, R211.) -/
def Obligations.SequencerRuns : Prop :=
  (∀ (s : State) (q : Fin 2), s.seqRunning q.val = true → s.loadWaits = false → exec (.seqGo q) s = .next (s.flag
    fSEQ_STATUS_GO_IGNORED q.val)) ∧
  (∀ (s : State) (q : Fin 2), s.seqRunning q.val = false → s.get fSEQ_MODE_START_MODE q.val = 3 → s.loadWaits = false → exec (.seqGo
    q) s = .next (s.flag fSEQ_STATUS_START_LATE q.val)) ∧
  (∀ (s : State) (q : Fin 2), s.seqRunning q.val = false → s.get fSEQ_MODE_START_MODE q.val = 0 → (s.seqGo q.val).seqState q.val = 1
    → s.loadWaits = false → (s.seqGo q.val).loadWaits = false → exec (.seqGo q) s = .next (((s.seqGo q.val).regionGo
    q.val).checkLoad)) ∧
  (∀ (s : State) (q : Fin 2) (u : Nat), s.pins = [] → (s.seq q.val).start = some u → s.seqState q.val = 1 → s.seqStored q.val u =
    false → q.val < s.seqs.length → ∃ t, exec (.runStart q) s = .next t ∧ (t.seq q.val).start = none ∧ t.seqState q.val = 2 ∧
    t.now = (s.until_ u).now) ∧
  (∀ (s : State) (q : Fin 2), s.seqState q.val = 0 → exec (.seqStop q) s = .next ((s.put fSEQ_CMD_STOP_AT 0 q.val).put
    fSEQ_STATUS_STATE 0 q.val)) ∧
  (∀ (s : State) (q : Fin 2), s.seqState q.val = 2 → (s.seq q.val).live = true → (s.seq q.val).wait = none → exec (.seqStop q) s =
    .next ((s.put fSEQ_CMD_STOP_AT 0 q.val).seqEnd q.val 0 (some ((s.seq q.val).slotT (s.seq q.val).k)))) ∧
  (∀ (s : State) (q : Fin 2), s.seqState q.val = 2 ∨ s.seqState q.val = 3 → exec (.seqStopAtEnd q) s = .next ((s.put
    fSEQ_CMD_STOP_AT 1 q.val).seqRequest q.val ⟨true, 0, none⟩)) ∧
  (∀ (s : State) (q : Fin 2) (target : Fin 1024), exec (.seqJump q target) s = .next ((s.put fSEQ_CMD_TARGET target.val
    q.val).seqRequest q.val ⟨false, target.val, none⟩)) ∧
  (∀ (s : State) (q : Fin 2) (wt : SeqWait), (s.seq q.val).wait = some wt → wt.mode = 2 → wt.rel = none → exec (.seqRelease q) s =
    .next (s.setSeq q.val { s.seq q.val with wait := some (wt.release ((s.seq q.val).slotAfter wt.k (tAdd s.nowT (wcs 128)))) })) ∧
  (∀ (s : State) (q : Fin 2), s.seqRunning q.val = true → exec (.seqApply q) s = .next (s.flag fSEQ_STATUS_APPLY_WAIT q.val)) ∧
  (∀ (s : State) (q : Fin 2), s.seqRunning q.val = false → exec (.seqApply q) s = .next ((s.applyWords [aSEQ_ITEM_PER + q.val,
    aSEQ_MODE + q.val]).unflag fSEQ_STATUS_APPLY_WAIT q.val)) ∧
  (∀ (s : State) (q : Fin 2), s.is fSEQ_CMD_TAPPLY_PEND q.val = false → exec (.seqTapplyArm q) s = .next ((s.flag
    fSEQ_CMD_TAPPLY_PEND q.val).sendDue (DueCmd.mk (.seqApply q) 3 (tsOf (s.word (aSEQ_TAPPLY_LO + q.val)) (s.word (aSEQ_TAPPLY_HI
    + q.val))) 6))) ∧
  (∀ (s : State) (q : Fin 2), s.is fSEQ_CMD_TAPPLY_PEND q.val = true → exec (.seqTapplyArm q) s = .next (s.flag fSEQ_CMD_ARM_BUSY
    q.val)) ∧
  (∀ (s : State) (q : Fin 2) (s' : State), s.cancelDue (fun c => c.target == .seqApply q) = some s' → exec (.seqTapplyCancel q) s =
    .next (s'.unflag fSEQ_CMD_TAPPLY_PEND q.val)) ∧
  (∀ (s : State) (q : Fin 2) (wt : SeqWait) (r : Nat), s.pins = [] → (s.seq q.val).wait = some wt → wt.rel = some r → wt.limit =
    none → s.seqState q.val = 3 → (s.seq q.val).idx < segLen (s.seq q.val).w1 → exec (.waitRelease q) s = .next (((s.until_
    (issueAt ((s.seq q.val).slotT r))).setSeq q.val { s.seq q.val with wait := none, k := r }).setSeqState q.val 2)) ∧
  (∀ (s : State) (q : Fin 2) (wt : SeqWait) (r : Nat), s.pins = [] → (s.seq q.val).wait = some wt → wt.rel = none → wt.limit = some
    r → s.seqState q.val = 3 → (s.seq q.val).idx < segLen (s.seq q.val).w1 → exec (.waitRelease q) s = .next ((((s.until_ (issueAt
    ((s.seq q.val).slotT r))).flag fSEQ_STATUS_WAIT_TO q.val).setSeq q.val { s.seq q.val with wait := none, k := r }).setSeqState
    q.val 2)) ∧
  (∀ (s : State) (q : Fin 2) (r : SeqReq) (u : Nat), s.pins = [] → State.decisionAt q.val s = some u → (s.seq q.val).req = some r →
    r.stop = true → r.line = none → q.val < s.seqs.length → ∃ t, exec (.decisionPoint q) s = .next t ∧ (t.seq q.val).next =
    SeqNext.stopped ∧ (t.seq q.val).req = none ∧ t.now = (s.until_ (issueAt u)).now) ∧
  (∀ (s : State) (q : Fin 2) (u : Nat), s.pins = [] → State.decisionAt q.val s = some u → (s.seq q.val).req = none → getBits (s.seq
    q.val).ent.2 16 20 = 0 ∨ (s.seq q.val).pass < getBits (s.seq q.val).ent.2 16 20 → q.val < s.seqs.length → ∃ t, exec
    (.decisionPoint q) s = .next t ∧ (t.seq q.val).next = ((s.until_ (issueAt u)).follow q.val (s.seq q.val).entry ((s.seq
    q.val).pass + 1) false).2 ∧ (t.seq q.val).req = none) ∧
  (∀ (s : State) (q : Fin 2) (u v : Nat), (s.seq q.val).ending = some (u, v) → (s.seq q.val).bnd = none → s.seqState q.val = 2 →
    exec (.segmentBoundary q) s = .next ((s.flowTo u).seqEnd q.val v none)) ∧
  (∀ (s : State) (q : Fin 2) (e p : Nat) (ent : Word × Word) (w0 w1 : Word) (b : Bool), s.pins = [] → s.seqState q.val = 2 → (s.seq
    q.val).passOut = true → (s.seq q.val).bnd = none → (s.seq q.val).ending = none → (s.seq q.val).next = .play e p ent w0 w1 b →
    s.shadow.find (aSEQ_ITEM_PER + q.val) = none → s.seqStored q.val ((s.seq q.val).slotT (s.seq q.val).k) = false → q.val <
    s.seqs.length → ∃ t, exec (.segmentBoundary q) s = .next t ∧ (t.seq q.val).base = (s.seq q.val).slotT (s.seq q.val).k ∧ (t.seq
    q.val).k = 0 ∧ (t.seq q.val).per = holdPer (s.rawPer q.val) ∧ (t.seq q.val).entry = e ∧ (t.seq q.val).pass = p ∧ (t.seq
    q.val).seg = entrySeg ent ∧ (t.seq q.val).idx = 0 ∧ (t.seq q.val).addr = segStart w0 ∧ (t.seq q.val).next = SeqNext.open_ ∧
    (t.seq q.val).bnd = none) ∧
  (∀ (s : State) (q : Fin 2) (ws : List Word) (s' : State), 64 * ((s.seq q.val).wr + 1) ≤ (s.seq q.val).keepFrom + 65536 → s.domOn 3
    = true → fSEQ_CFG_STREAM_SRC.get (s.seqCfg q.val) = 2 → s.regionGranule q.val = some (ws, s') → exec (.refillGranule q) s =
    .next (s'.granule q.val ws)) ∧
  (∀ (s : State) (q : Fin 2), fSEQ_CFG_STREAM_SRC.get (s.seqCfg q.val) = 0 → exec (.refillGranule q) s = .next s)

/-- Probe applies act at once, wait for the shot or travel as timed commands; a transmit link goes DOWN, CLK_WAIT and UP by its commands.
PROBE_APPLY keeps the mask; with no fibre selected it changes nothing else; a selected builder, one alone or both, fed by a running
sequencer gets APPLY_WAIT, and the one selected builder that none feeds has its shadows applied at the present instant (State.applyProbe).
PROBE_TAPPLY_ARM sets PENDING and sends one command of source 6 with the due time of its words, or sets ARM_BUSY where one is pending;
PROBE_TAPPLY_CANCEL withdraws it. TX_LINK_ENABLE of a link that is not DOWN only sets LINK_EN, of one that is DOWN it goes to CLK_WAIT (1).
TX_LINK_DISABLE takes the link DOWN. TX_CLOCK_CHECK of a link that is not DOWN: a span of 64 cycles within 1 wc of the nominal, off the safe
clock, adds 64 passing cycles; on the safe clock, an absent clock or a span further off takes the link to CLK_WAIT with CLK_ERR and a report
(State.txClockFail); a DOWN link is left as it is. TX_LINK_UP of a CLK_WAIT link with 1 024 passing cycles off the safe clock makes it UP;
in any other case it changes nothing. TX_FIFO_ERROR of a link that is not UP sets FIFO_ERR and reports; of one that is UP it also takes it
to CLK_WAIT. SHOT_BOUNDARY takes its fibre's earliest boundary at its instant, the events up to it having taken place, for the builder, the
spectrum, the receive link, the throttle and WEFT; with no boundary recorded it changes nothing. (Derived from R223, R231, R232, R235, R236,
R237.) -/
def Obligations.ProbesAndTransmitLinks : Prop :=
  (∀ (s : State), ∃ t, exec (.probeApply 0) s = .next t ∧ t.get fPROBE_APPLY_FIBRE_MASK = 0 ∧ Only [aPROBE_APPLY] s t ∧ RegsOnly s
    t) ∧
  (∀ (s : State), s.feedRuns 0 = true → exec (.probeApply 1) s = .next ((s.put fPROBE_APPLY_FIBRE_MASK 1).flag
    fPROBE_STATUS_APPLY_WAIT 0)) ∧
  (∀ (s : State), s.feedRuns 1 = true → exec (.probeApply 2) s = .next ((s.put fPROBE_APPLY_FIBRE_MASK 2).flag
    fPROBE_STATUS_APPLY_WAIT 1)) ∧
  (∀ (s : State), s.feedRuns 0 = true → s.feedRuns 1 = true → exec (.probeApply 3) s = .next (((s.put fPROBE_APPLY_FIBRE_MASK
    3).flag fPROBE_STATUS_APPLY_WAIT 0).flag fPROBE_STATUS_APPLY_WAIT 1)) ∧
  (∀ (s : State), s.feedRuns 0 = false → exec (.probeApply 1) s = .next ((s.put fPROBE_APPLY_FIBRE_MASK 1).applyProbe 0 s.nowT)) ∧
  (∀ (s : State), s.feedRuns 1 = false → exec (.probeApply 2) s = .next ((s.put fPROBE_APPLY_FIBRE_MASK 2).applyProbe 1 s.nowT)) ∧
  (∀ (s : State) (mask : Fin 4), s.is fPROBE_TAPPLY_CTRL_PENDING = false → exec (.probeTapplyArm mask) s = .next (((s.put
    fPROBE_TAPPLY_CTRL_FIBRE_MASK mask.val).flag fPROBE_TAPPLY_CTRL_PENDING).sendDue (DueCmd.mk (.probeApply mask.val) 3 (tsOf
    (s.word aPROBE_TAPPLY_LO) (s.word aPROBE_TAPPLY_HI)) 6))) ∧
  (∀ (s : State) (mask : Fin 4), s.is fPROBE_TAPPLY_CTRL_PENDING = true → exec (.probeTapplyArm mask) s = .next ((s.put
    fPROBE_TAPPLY_CTRL_FIBRE_MASK mask.val).flag fPROBE_TAPPLY_CTRL_ARM_BUSY)) ∧
  (∀ (s : State) (s' : State), s.cancelDue (fun c => isProbeApply c.target) = some s' → exec .probeTapplyCancel s = .next (s'.unflag
    fPROBE_TAPPLY_CTRL_PENDING)) ∧
  (∀ (s : State) (f : Fin 2), s.get fPROBE_LINK_STATUS_STATE f.val ≠ 0 → exec (.txLinkEnable f) s = .next (s.flag
    fPROBE_LINK_CTRL_LINK_EN f.val)) ∧
  (∀ (s : State) (f : Fin 2), s.get fPROBE_LINK_STATUS_STATE f.val = 0 → ∃ t, exec (.txLinkEnable f) s = .next t ∧ t.is
    fPROBE_LINK_CTRL_LINK_EN f.val = true ∧ t.get fPROBE_LINK_STATUS_STATE f.val = 1) ∧
  (∀ (s : State) (f : Fin 2), ∃ t, exec (.txLinkDisable f) s = .next t ∧ t.is fPROBE_LINK_CTRL_LINK_EN f.val = false ∧ t.get
    fPROBE_LINK_STATUS_STATE f.val = 0) ∧
  (∀ (s : State) (f : Fin 2) (span : Option Nat), s.get fPROBE_LINK_STATUS_STATE f.val ≠ 0 → s.safe = false → clockOk (s.txPeriod
    f.val) span = true → exec (.txClockCheck f span) s = .next
    ({ s with txLinks := s.txLinks.set f.val { nth s.txLinks f.val with good := (nth s.txLinks f.val).good + 64 } })) ∧
  (∀ (s : State) (f : Fin 2) (span : Option Nat), s.get fPROBE_LINK_STATUS_STATE f.val ≠ 0 → s.safe = true ∨ clockOk (s.txPeriod
    f.val) span = false → exec (.txClockCheck f span) s = .next (s.txClockFail f.val)) ∧
  (∀ (s : State) (f : Fin 2) (span : Option Nat), s.get fPROBE_LINK_STATUS_STATE f.val = 0 → exec (.txClockCheck f span) s = .next
    s) ∧
  (∀ (s : State) (f : Fin 2), s.get fPROBE_LINK_STATUS_STATE f.val = 1 → 1024 ≤ (nth s.txLinks f.val).good → s.safe = false → ∃ t,
    exec (.txLinkUp f) s = .next t ∧ t.get fPROBE_LINK_STATUS_STATE f.val = 2) ∧
  (∀ (s : State) (f : Fin 2), s.get fPROBE_LINK_STATUS_STATE f.val ≠ 1 ∨ (nth s.txLinks f.val).good < 1024 ∨ s.safe = true → exec
    (.txLinkUp f) s = .next s) ∧
  (∀ (s : State) (f : Fin 2), s.get fPROBE_LINK_STATUS_STATE f.val ≠ 2 → exec (.txFifoError f) s = .next ((s.flag
    fPROBE_LINK_STATUS_FIFO_ERR f.val).report 13 f.val 1)) ∧
  (∀ (s : State) (f : Fin 2), s.get fPROBE_LINK_STATUS_STATE f.val = 2 → exec (.txFifoError f) s = .next (((s.flag
    fPROBE_LINK_STATUS_FIFO_ERR f.val).report 13 f.val 1).txState f.val 1)) ∧
  (∀ (s : State) (f : Fin 2) (u : Nat) (rest : List Nat), (nth s.probes f.val).shots = u :: rest → exec (.shotBoundary f) s = .next
    (((((({ s.flowTo u with probes := (s.flowTo u).probes.set f.val { nth (s.flowTo u).probes f.val with shots := rest } } :
    State).probeShot f.val u).specShot f.val u).rxShot f.val u).throttleShot f.val).weftShot f.val)) ∧
  (∀ (s : State) (f : Fin 2), (nth s.probes f.val).shots = [] → exec (.shotBoundary f) s = .next s)

/-- The limiter cuts a phase at its instant, the interlock latches and clears, and CAP_LOCK locks for good. LIMITER_CUT, with the ball of
the gate channel gated by the fibre alone, no event ahead, and B at zero in a wc before MAX_ON ends: the phase ends at that instant (the
ball's last trailing edge, no active phase), LIMITED is set, MAXON_CUT stays and CUTS counts one; MAXON_CUT, where MAX_ON ends in a wc
before B is at zero, sets MAXON_CUT in the same way and leaves LIMITED; where both fall in one wc either command sets both. In each case the
schedule's trailing edge lies after the cut, and nothing else changes but the two words, the time, the channel and the limiter. With no
active phase both commands change nothing. CAP_LOCK sets CAP_LOCK and its AON copy. IL_CLEAR with the pin high leaves IL_LATCH clear and
IL_IN set, with it low it only shows IL_IN clear, the builders brought up to the present. INTERLOCK_ASSERT with the pin high only shows
IL_IN; with it low it darkens the lights, sets the latch, clears IL_IN and forces the lamps. (Derived from R241, R242, R245, R246.) -/
def Obligations.LightBudget : Prop :=
  (∀ (s : State) (f : Fin 2) (a m : Nat), s.pins = [] → s.gateFibres (s.get fLIGHT_CFG_GATE_CH f.val) = [f.val] → s.limitCutAt f.val
    = some a → s.maxOnCutAt f.val = some m → tFloor a ≠ tFloor m → tLt m (tFloor a) = false → s.endsAt f.val = some a → s.trailsBy
    (s.get fLIGHT_CFG_GATE_CH f.val) a = false → f.val < s.lims.length → s.get fLIGHT_CFG_GATE_CH f.val < s.outs.length → ∃ t,
    exec (.limiterCut f) s = .next t ∧ t.is fLIGHT_STATUS_LIMITED f.val = true ∧ t.is fLIGHT_STATUS_MAXON_CUT f.val = s.is
    fLIGHT_STATUS_MAXON_CUT f.val ∧ t.get fLIGHT_COUNT_CUTS f.val = satU (fldWidth fLIGHT_COUNT_CUTS) (s.get fLIGHT_COUNT_CUTS
    f.val + 1) ∧ (nth t.lims f.val).act = none ∧ (t.out (s.get fLIGHT_CFG_GATE_CH f.val)).lastTrail = some a ∧ Only [aLIGHT_STATUS
    + f.val, aLIGHT_COUNT + f.val] s t ∧ t =
    { s with regs := t.regs, evts := t.evts, now := t.now, outs := t.outs, lims := t.lims }) ∧
  (∀ (s : State) (f : Fin 2) (a m : Nat), s.pins = [] → s.gateFibres (s.get fLIGHT_CFG_GATE_CH f.val) = [f.val] → s.limitCutAt f.val
    = some a → s.maxOnCutAt f.val = some m → tFloor a ≠ tFloor m → tLt a (tFloor m) = false → s.endsAt f.val = some m → s.trailsBy
    (s.get fLIGHT_CFG_GATE_CH f.val) m = false → f.val < s.lims.length → s.get fLIGHT_CFG_GATE_CH f.val < s.outs.length → ∃ t,
    exec (.maxonCut f) s = .next t ∧ t.is fLIGHT_STATUS_LIMITED f.val = s.is fLIGHT_STATUS_LIMITED f.val ∧ t.is
    fLIGHT_STATUS_MAXON_CUT f.val = true ∧ t.get fLIGHT_COUNT_CUTS f.val = satU (fldWidth fLIGHT_COUNT_CUTS) (s.get
    fLIGHT_COUNT_CUTS f.val + 1) ∧ (nth t.lims f.val).act = none ∧ (t.out (s.get fLIGHT_CFG_GATE_CH f.val)).lastTrail = some m ∧
    Only [aLIGHT_STATUS + f.val, aLIGHT_COUNT + f.val] s t ∧ t =
    { s with regs := t.regs, evts := t.evts, now := t.now, outs := t.outs, lims := t.lims }) ∧
  (∀ (s : State) (f : Fin 2) (a m : Nat), s.pins = [] → s.gateFibres (s.get fLIGHT_CFG_GATE_CH f.val) = [f.val] → s.limitCutAt f.val
    = some a → s.maxOnCutAt f.val = some m → tFloor a = tFloor m → tLt m a = false → s.endsAt f.val = some a → s.trailsBy (s.get
    fLIGHT_CFG_GATE_CH f.val) a = false → f.val < s.lims.length → s.get fLIGHT_CFG_GATE_CH f.val < s.outs.length → ∃ t, exec
    (.limiterCut f) s = .next t ∧ t.is fLIGHT_STATUS_LIMITED f.val = true ∧ t.is fLIGHT_STATUS_MAXON_CUT f.val = true ∧ t.get
    fLIGHT_COUNT_CUTS f.val = satU (fldWidth fLIGHT_COUNT_CUTS) (s.get fLIGHT_COUNT_CUTS f.val + 1) ∧ (nth t.lims f.val).act =
    none ∧ (t.out (s.get fLIGHT_CFG_GATE_CH f.val)).lastTrail = some a ∧ Only [aLIGHT_STATUS + f.val, aLIGHT_COUNT + f.val] s t ∧
    t = { s with regs := t.regs, evts := t.evts, now := t.now, outs := t.outs, lims := t.lims }) ∧
  (∀ (s : State) (f : Fin 2) (a m : Nat), s.pins = [] → s.gateFibres (s.get fLIGHT_CFG_GATE_CH f.val) = [f.val] → s.limitCutAt f.val
    = some a → s.maxOnCutAt f.val = some m → tFloor a = tFloor m → tLt m a = false → s.endsAt f.val = some a → s.trailsBy (s.get
    fLIGHT_CFG_GATE_CH f.val) a = false → f.val < s.lims.length → s.get fLIGHT_CFG_GATE_CH f.val < s.outs.length → ∃ t, exec
    (.maxonCut f) s = .next t ∧ t.is fLIGHT_STATUS_LIMITED f.val = true ∧ t.is fLIGHT_STATUS_MAXON_CUT f.val = true ∧ t.get
    fLIGHT_COUNT_CUTS f.val = satU (fldWidth fLIGHT_COUNT_CUTS) (s.get fLIGHT_COUNT_CUTS f.val + 1) ∧ (nth t.lims f.val).act =
    none ∧ (t.out (s.get fLIGHT_CFG_GATE_CH f.val)).lastTrail = some a ∧ Only [aLIGHT_STATUS + f.val, aLIGHT_COUNT + f.val] s t ∧
    t = { s with regs := t.regs, evts := t.evts, now := t.now, outs := t.outs, lims := t.lims }) ∧
  (∀ (s : State) (f : Fin 2), (nth s.lims f.val).act = none → exec (.maxonCut f) s = .next s) ∧
  (∀ (s : State) (f : Fin 2), (nth s.lims f.val).act = none → exec (.limiterCut f) s = .next s) ∧
  (∀ (s : State), ∃ t, exec .capLock s = .next t ∧ t.is fLIGHT_LOCK_CAP_LOCK = true ∧ t.aonLock = true ∧ Only [aLIGHT_LOCK] s t ∧ t
    = { s with regs := t.regs, evts := t.evts, aonLock := true }) ∧
  (∀ (s : State), ∃ t, exec (.ilClear true) s = .next t ∧ t.is fLIGHT_LOCK_IL_LATCH = false ∧ t.is fLIGHT_LOCK_IL_IN = true ∧ t.is
    fLIGHT_LOCK_CAP_LOCK = s.is fLIGHT_LOCK_CAP_LOCK) ∧
  (∀ (s : State), exec (.ilClear false) s = .next (s.probesNow.put fLIGHT_LOCK_IL_IN 0)) ∧
  (∀ (s : State), exec (.interlockAssert false) s = .next (s.flag fLIGHT_LOCK_IL_IN)) ∧
  (∀ (s : State), exec (.interlockAssert true) s = .next (((s.darken.flag fLIGHT_LOCK_IL_LATCH).unflag
    fLIGHT_LOCK_IL_IN).forceLamps))

/-- Reed merges stamps, opens and closes gates, hands out results and runs code density by their commands. With Reed brought up to the
present (State.reedTo): STAMP_MERGE passes time to 32 wc after the oldest stamp and the merger takes it (State.mergeOldest); of a binding
that takes no stamps it only leaves its FIFO; with no stamp nothing changes. GATE_OPEN and GATE_CLOSE take the gate's next event where it is
of their kind and change nothing otherwise; a closed gate whose one opening event has its source opens at that instant with IS_OPEN set, and
an open gate that does not repeat closes at its close with IS_OPEN clear and GATES counting one. GATE_ARM of a TIMED gate: EXTRA while it is
open and repeats, else LATE where START lies under 64 wc ahead, else the opening event at START; of another source nothing. GATE_HOST_OPEN
and GATE_HOST_CLOSE add their event at the present instant for a HOST gate, and nothing otherwise. GATE_STOP marks a TIMED gate that is open
or armed, and no other. MU_RESULT of a unit without queue entry publishes the oldest waiting result: its eight words, or word 0 alone where
a read has taken the snapshot, with NEW, OVERWRITE, INVALID, RANGE and CLK_EVT, nothing else changing; with no result nothing changes.
MU_RESULT_READ shows words 1 to 7 of the latest result and takes the snapshot. CD_GO that claims its resources sets BUSY and keeps its mask,
one that cannot sets FAIL with REASON 1 and leaves the run. CD_ABORT ends the run with REASON 3. CD_DONE with no run changes nothing; with
every measured input's bins good and every input of the mask measured it takes their outcomes in turn, releases the resources and sets DONE.
(Derived from R257, R258, R259, R261, R263, R268, R269, R274.) -/
def Obligations.ReedMeasurement : Prop :=
  (∀ (s : State) (a : Nat), s.stampAhead = some a → exec .stampMerge s = .next ((s.flowTo (tAdd a (wcs 32))).reedAll.mergeOldest)) ∧
  (∀ (s : State) (i : Nat) (st : Stamp), s.pins = [] → s.reedPend = [] → oldestStamp s.stampHeads = some (i, st) → (nth s.reedIn
    i).taken = none → fREED_Q_CFG_EN.get (s.word (aREED_Q_CFG + s.get fREED_IN_CFG_QSEL i)) = 0 → i < s.reedIn.length → ∃ t, exec
    .stampMerge s = .next t ∧ (nth t.reedIn i).fifo = (nth s.reedIn i).fifo.drop 1 ∧ t.reedBind = s.reedBind) ∧
  (∀ (s : State), s.stampAhead = none → exec .stampMerge s = .next s) ∧
  (∀ (s : State) (g : Fin 4) (o : Nat), (s.reedTo s.nowT).gateNext g.val = some (o, false) → exec (.gateOpen g) s = .next
    (((s.reedTo s.nowT).flowTo o).reedTo o)) ∧
  (∀ (s : State) (g : Fin 4) (o : Nat), s.pins = [] → s.reedPend = [] → (s.gate g.val).opened = none → (s.gate g.val).opens = [(o,
    fREED_GATE_CFG_SRC.get (s.gateCfg g.val))] → tLt s.nowT o = true → o < tMod → g.val < s.gates.length → ∃ t, exec (.gateOpen g)
    s = .next t ∧ (t.gate g.val).opened = some o ∧ t.is fREED_GATE_CTRL_IS_OPEN g.val = true) ∧
  (∀ (s : State) (g : Fin 4) (e : Nat), (s.reedTo s.nowT).gateNext g.val = none ∨ (s.reedTo s.nowT).gateNext g.val = some (e, true)
    → exec (.gateOpen g) s = .next s) ∧
  (∀ (s : State) (g : Fin 4) (c : Nat), (s.reedTo s.nowT).gateNext g.val = some (c, true) → exec (.gateClose g) s = .next
    (((s.reedTo s.nowT).flowTo c).reedTo c)) ∧
  (∀ (s : State) (g : Fin 4) (o c : Nat), s.pins = [] → s.reedPend = [] → (s.gate g.val).opened = some o → (s.gate g.val).opens = []
    → (s.gate g.val).closeAt o = some c → fREED_GATE_CFG_REPEAT.get (s.gate g.val).cfg = 0 → tLt s.nowT c = true → c < tMod →
    g.val < s.gates.length → ∃ t, exec (.gateClose g) s = .next t ∧ (t.gate g.val).opened = none ∧ t.is fREED_GATE_CTRL_IS_OPEN
    g.val = false ∧ t.get fREED_GATE_CTRL_GATES g.val = satU (fldWidth fREED_GATE_CTRL_GATES) (s.get fREED_GATE_CTRL_GATES g.val +
    1)) ∧
  (∀ (s : State) (g : Fin 4) (e : Nat), (s.reedTo s.nowT).gateNext g.val = none ∨ (s.reedTo s.nowT).gateNext g.val = some (e, false)
    → exec (.gateClose g) s = .next s) ∧
  (∀ (s : State) (g : Fin 4) (r : State), s.reedTo s.nowT = r → fREED_GATE_CFG_SRC.get (r.gateCfg g.val) = 3 → (r.gate
    g.val).opened.isSome = true → fREED_GATE_CFG_REPEAT.get (r.gateCfg g.val) = 1 → exec (.gateArm g) s = .next (r.flag
    fREED_GATE_CTRL_EXTRA g.val)) ∧
  (∀ (s : State) (g : Fin 4) (r : State), s.reedTo s.nowT = r → fREED_GATE_CFG_SRC.get (r.gateCfg g.val) = 3 → (r.gate g.val).opened
    = none ∨ fREED_GATE_CFG_REPEAT.get (r.gateCfg g.val) = 0 → tLt (tsOf (r.word (aREED_GATE_START_LO + g.val)) (r.word
    (aREED_GATE_START_HI + g.val))) (tAdd r.nowT (wcs 64)) = true → exec (.gateArm g) s = .next (r.flag fREED_GATE_CTRL_LATE
    g.val)) ∧
  (∀ (s : State) (g : Fin 4) (r : State), s.reedTo s.nowT = r → fREED_GATE_CFG_SRC.get (r.gateCfg g.val) = 3 → (r.gate g.val).opened
    = none ∨ fREED_GATE_CFG_REPEAT.get (r.gateCfg g.val) = 0 → tLt (tsOf (r.word (aREED_GATE_START_LO + g.val)) (r.word
    (aREED_GATE_START_HI + g.val))) (tAdd r.nowT (wcs 64)) = false → exec (.gateArm g) s = .next (r.gateOpening g.val (tsOf
    (r.word (aREED_GATE_START_LO + g.val)) (r.word (aREED_GATE_START_HI + g.val))) 3)) ∧
  (∀ (s : State) (g : Fin 4), fREED_GATE_CFG_SRC.get ((s.reedTo s.nowT).gateCfg g.val) ≠ 3 → exec (.gateArm g) s = .next (s.reedTo
    s.nowT)) ∧
  (∀ (s : State) (g : Fin 4), fREED_GATE_CFG_SRC.get ((s.reedTo s.nowT).gateCfg g.val) = 4 → exec (.gateHostOpen g) s = .next
    (((s.reedTo s.nowT).gateOpening g.val (s.reedTo s.nowT).nowT 4).gatesSync (s.reedTo s.nowT).nowT)) ∧
  (∀ (s : State) (g : Fin 4), fREED_GATE_CFG_SRC.get ((s.reedTo s.nowT).gateCfg g.val) ≠ 4 → exec (.gateHostOpen g) s = .next
    (s.reedTo s.nowT)) ∧
  (∀ (s : State) (g : Fin 4), fREED_GATE_CFG_SRC.get ((s.reedTo s.nowT).gateCfg g.val) = 4 → exec (.gateHostClose g) s = .next
    (((s.reedTo s.nowT).gateClosing g.val (s.reedTo s.nowT).nowT).gatesSync (s.reedTo s.nowT).nowT)) ∧
  (∀ (s : State) (g : Fin 4), fREED_GATE_CFG_SRC.get ((s.reedTo s.nowT).gateCfg g.val) ≠ 4 → exec (.gateHostClose g) s = .next
    (s.reedTo s.nowT)) ∧
  (∀ (s : State) (g : Fin 4), ((s.reedTo s.nowT).gate g.val).timed = true → exec (.gateStop g) s = .next ((s.reedTo s.nowT).setGate
    g.val { (s.reedTo s.nowT).gate g.val with stop := true })) ∧
  (∀ (s : State) (g : Fin 4), ((s.reedTo s.nowT).gate g.val).timed = false → exec (.gateStop g) s = .next (s.reedTo s.nowT)) ∧
  (∀ (s : State) (u : Fin 4) (q : State) (r : MuRes) (rest : List MuRes), s.reedTo s.nowT = q → (q.mu u.val).results = r :: rest →
    (q.mu u.val).snap = false → fREED_MU_CFG_RES_QEN.get r.cfg = 0 → u.val < q.mus.length → ∃ t, exec (.muResult u) s = .next t ∧
    (t.mu u.val).results = rest ∧ (t.mu u.val).latest = r.words ∧ (∀ i, i < 8 → t.word (aREED_MU_RES + 8 * u.val + i) =
    r.words.getD i 0) ∧ t.is fREED_MU_STATUS_NEW u.val = true ∧ t.is fREED_MU_STATUS_OVERWRITE u.val = (q.is
    fREED_MU_STATUS_OVERWRITE u.val || q.is fREED_MU_STATUS_NEW u.val) ∧ t.get fREED_MU_STATUS_INVALID u.val = b2n r.invalid ∧
    t.get fREED_MU_STATUS_RANGE u.val = b2n r.range ∧ t.get fREED_MU_STATUS_CLK_EVT u.val = b2n r.clkEvt ∧ Only ((aREED_MU_STATUS
    + u.val) :: (List.range 8).map (fun i => aREED_MU_RES + 8 * u.val + i)) q t ∧ t =
    { q with regs := t.regs, evts := t.evts, mus := t.mus }) ∧
  (∀ (s : State) (u : Fin 4) (q : State) (r : MuRes) (rest : List MuRes), s.reedTo s.nowT = q → (q.mu u.val).results = r :: rest →
    (q.mu u.val).snap = true → fREED_MU_CFG_RES_QEN.get r.cfg = 0 → u.val < q.mus.length → ∃ t, exec (.muResult u) s = .next t ∧
    (t.mu u.val).results = rest ∧ (t.mu u.val).latest = r.words ∧ t.word (aREED_MU_RES + 8 * u.val) = r.words.getD 0 0 ∧ t.is
    fREED_MU_STATUS_NEW u.val = true ∧ t.is fREED_MU_STATUS_OVERWRITE u.val = (q.is fREED_MU_STATUS_OVERWRITE u.val || q.is
    fREED_MU_STATUS_NEW u.val) ∧ t.get fREED_MU_STATUS_INVALID u.val = b2n r.invalid ∧ t.get fREED_MU_STATUS_RANGE u.val = b2n
    r.range ∧ t.get fREED_MU_STATUS_CLK_EVT u.val = b2n r.clkEvt ∧ Only [aREED_MU_STATUS + u.val, aREED_MU_RES + 8 * u.val] q t ∧
    t = { q with regs := t.regs, evts := t.evts, mus := t.mus }) ∧
  (∀ (s : State) (u : Fin 4), ((s.reedTo s.nowT).mu u.val).results = [] → exec (.muResult u) s = .next s) ∧
  (∀ (s : State) (u : Fin 4), u.val < s.mus.length → ∃ t, exec (.muResultRead u) s = .next t ∧ (∀ i, i < 7 → t.word (aREED_MU_RES +
    8 * u.val + i + 1) = (s.mu u.val).latest.getD (i + 1) 0) ∧ t.mus = s.mus.set u.val { s.mu u.val with snap := true } ∧ Only
    ((List.range 7).map (fun i => aREED_MU_RES + 8 * u.val + i + 1)) s t ∧ t =
    { s with regs := t.regs, evts := t.evts, mus := t.mus }) ∧
  (∀ (s : State) (mask : Fin 65536) (log2n : Fin 32), (((s.put fREED_CD_CTRL_MASK mask.val).put fREED_CD_CTRL_LOG2N log2n.val).claim
    1 ((0, true) :: inputRes mask.val)).2 = true → ∃ t, exec (.cdGo mask log2n) s = .next t ∧ t.is fREED_CD_STATUS_BUSY = true ∧
    t.cd.mask = mask.val) ∧
  (∀ (s : State) (mask : Fin 65536) (log2n : Fin 32), (((s.put fREED_CD_CTRL_MASK mask.val).put fREED_CD_CTRL_LOG2N log2n.val).claim
    1 ((0, true) :: inputRes mask.val)).2 = false → ∃ t, exec (.cdGo mask log2n) s = .next t ∧ t.is fREED_CD_STATUS_FAIL = true ∧
    t.get fREED_CD_STATUS_REASON = 1 ∧ t.cd = s.cd) ∧
  (∀ (s : State), exec .cdAbort s = .next ((s.cdFail 3).tiFlush)) ∧
  (∀ (s : State) (meas : List InMeas), s.is fREED_CD_STATUS_BUSY = false → exec (.cdDone meas) s = .next s) ∧
  (∀ (s : State) (meas : List InMeas), s.is fREED_CD_STATUS_BUSY = true → (meas.filter (fun m => s.cd.mask.testBit m.input.val)).any
    (fun m => s.binCheck [m.rankA, m.rankB] (2 ^ s.cd.log2n) != 0) = false → (bitList s.cd.mask 16).any (fun i => (meas.filter
    (fun m => s.cd.mask.testBit m.input.val)).all (fun m => m.input.val != i)) = false → exec (.cdDone meas) s = .next
    ((((({ ((meas.filter (fun m => s.cd.mask.testBit m.input.val)).foldl (fun s' m => s'.cdOutcome s.cd.t0 (2 ^ s.cd.log2n) m) s).holdInputs s.cd.mask false with cd := {} }
    : State).release 1).unflag fREED_CD_STATUS_BUSY).flag fREED_CD_STATUS_DONE).tiFlush))

/-- A calibration GO starts a run of its kind or is refused, ABORT ends the runs, and a write reaches its record window. Each GO keeps its
selection in the command words (State.calCmd). CAL_GO_BANK is refused with reason 13 while the bank's spare copies, carries or drives a ball
(SPARE_STATE 2 to 4); with a spare that is free, in calibration or FAULTY it goes for its resources and its run begins with the sampler pass
(State.calGo). MOUT and TI go for theirs; RX claims its own and starts with the self-test of the spare, or is refused with reason 1; ALL
goes for all of them where R285 admits it and is refused with reason 13 otherwise. A GO of an unused kind is refused with reason 13.
CAL_ABORT ends both runs with reason 10. HANDOVER_LIMIT_EXPIRY of a run that waits for a hand-over with the limit reached skips the channel
with reason 14, and in any other case changes nothing. CAL_RECORD_WRITE writes its word of the record window (State.recWrite). (Derived from
R280, R281, R283, R284, R285, R286, R288.) -/
def Obligations.CalibrationCommands : Prop :=
  (∀ (s : State) (b : Fin 8), 2 ≤ s.get fWARP_BANK_STATUS_SPARE_STATE b.val ∧ s.get fWARP_BANK_STATUS_SPARE_STATE b.val ≤ 4 →
    (s.calCmd 0 b.val 0).get fWARP_BANK_STATUS_SPARE_STATE b.val = s.get fWARP_BANK_STATUS_SPARE_STATE b.val → exec (.calGoBank b)
    s = .next ((s.calCmd 0 b.val 0).calRefuse 13)) ∧
  (∀ (s : State) (b : Fin 8), (s.calCmd 0 b.val 0).get fWARP_BANK_STATUS_SPARE_STATE b.val < 2 ∨ 5 ≤ (s.calCmd 0 b.val 0).get
    fWARP_BANK_STATUS_SPARE_STATE b.val → exec (.calGoBank b) s = .next ((s.calCmd 0 b.val 0).calGo
    { phase := 1, kind := 0, bank := b.val, bad := (s.calCmd 0 b.val 0).get fWARP_BANK_STATUS_SPARE_STATE b.val == 5 } [(25,
    true), (26, true), (17 + b.val, true), (0, true)])) ∧
  (∀ (s : State) (outs : Fin 256), exec (.calGoMout outs) s = .next ((s.calCmd 1 outs.val 0).calGo
    { phase := 1, kind := 1, bank := outs.val, todo := bitList outs.val 8 } [(25, true), (26, true), (0, true)])) ∧
  (∀ (s : State) (mask : Fin 65536), exec (.calGoTi mask) s = .next ((s.calCmd 2 0 mask.val).calGo
    { phase := 8, kind := 2, mask := mask.val, tiLeft := true } ([(26, true), (0, true)] ++ inputRes mask.val))) ∧
  (∀ (s : State) (fibres : Fin 4), ((s.calCmd 3 fibres.val 0).claim 5 [(27, true)]).2 = false → exec (.calGoRx fibres) s = .next
    (((s.calCmd 3 fibres.val 0).claim 5 [(27, true)]).1.calRefuse 1)) ∧
  (∀ (s : State) (fibres : Fin 4), ((s.calCmd 3 fibres.val 0).claim 5 [(27, true)]).2 = true → ∃ t, exec (.calGoRx fibres) s = .next
    t ∧ t.rxCal.phase = 1 ∧ t.rxCal.todo = bitList fibres.val 2) ∧
  (∀ (s : State), (s.calCmd 4 0 0).calAllOk = false → exec .calGoAll s = .next ((s.calCmd 4 0 0).calRefuse 13)) ∧
  (∀ (s : State), (s.calCmd 4 0 0).calAllOk = true → exec .calGoAll s = .next ((s.calCmd 4 0 0).calGo
    { phase := 1, kind := 4, mask := 65535, tiLeft := true } ([(25, true), (26, true), (0, true)] ++ (List.range 8).map (fun b =>
    (17 + b, true)) ++ inputRes 65535))) ∧
  (∀ (s : State) (kind : Fin 3), exec (.calKindNotUsed kind) s = .next ((s.calCmd (5 + kind.val) 0 0).calRefuse 13)) ∧
  (∀ (s : State), exec .calAbort s = .next ((s.calAbort 10).rxCalAbort 10)) ∧
  (∀ (s : State), s.cal.phase = 3 → max 1 (s.get fCAL_CFG_HANDOVER_LIMIT) ≤ s.cal.waitMt → exec .handoverLimitExpiry s = .next
    ((s.put fCAL_STATUS_REASON 14).calChannel (s.cal.cur + 1))) ∧
  (∀ (s : State), s.cal.phase ≠ 3 ∨ s.cal.waitMt < max 1 (s.get fCAL_CFG_HANDOVER_LIMIT) → exec .handoverLimitExpiry s = .next s) ∧
  (∀ (s : State) (a : Nat) (w : Word), exec (.calRecordWrite a w) s = .next (s.recWrite a w))

/-- The passes of a calibration run end in their phase, a hand-over gives the ball to the spare, and waiting units take their values.
CAL_SAMPLER_PASS_DONE of a BANK run with good bins measures the spare next (phase 2, SPARE_STATE 1, UNIT), and outside that phase changes
nothing. GENERATOR_RUN_DONE of the spare goes on to the bank's channels where it passes and ends the run with the spare FAULTY where not; of
a channel whose ball the spare carries the hand-back follows (phase 5), of an OFF channel the next one; outside a sweep it changes nothing.
CAL_HANDOVER, off the safe clock with no ball to go back: in an idle wc of the channel that waits, its ball goes to the spare (SPARE_STATE
2, SPARE_CH); in an idle wc of the channel to hand back, the spare is in calibration again and the next channel follows; on the safe clock
nothing changes. TI_RUN_DONE of a TI run takes the outcome of each measured input and ends the run, and with no TI part left changes
nothing. CAL_VALUE_LOAD of a unit that waits and is not held: a trigger input takes its values, a master generator in an idle wc of its
output takes them, one of an output that is not idle goes on waiting; a unit that does not wait, or is held, changes nothing.
RX_SELFTEST_DONE that fails ends the run with reason 9 and a FAULTY spare; one that passes without drift records it, and the spare, if it is
in calibration and not judged, goes to rest, and the next fibre follows; outside that phase nothing changes. RX_ESTIMATE_DONE with no used
position measured fails each used one with reason 9; with two used positions of which the second alone is measured within R314, with four
tones and no drift, the first fails and the second is recorded; the next fibre follows; outside that phase nothing changes. (Derived from
R277, R281, R286, R288, R293, R313.) -/
def Obligations.CalibrationRuns : Prop :=
  (∀ (s : State) (ranks : List BinHits), s.cal.phase = 1 → s.binCheck ranks (2 ^ 18) = 0 → s.cal.kind = 0 → ∃ t, exec
    (.calSamplerPassDone ranks) s = .next t ∧ t.cal.phase = 2 ∧ t.get fCAL_STATUS_UNIT = 9 * s.cal.bank + 8 ∧ t =
    ({ s.resDrop (calAct 0) 0 with cal := { s.cal with phase := 2, t0 := (s.resDrop (calAct 0) 0).calT } }.put
    fWARP_BANK_STATUS_SPARE_STATE 1 s.cal.bank).put fCAL_STATUS_UNIT (9 * s.cal.bank + 8)) ∧
  (∀ (s : State) (ranks : List BinHits), s.cal.phase ≠ 1 → exec (.calSamplerPassDone ranks) s = .next s) ∧
  (∀ (s : State) (meas : GenMeas), s.cal.phase = 2 → exec (.generatorRunDone meas) s = .next (if (s.genOutcome s.calUnit meas).2
    then (s.genOutcome s.calUnit meas).1.calChannel 0 else ((s.genOutcome s.calUnit meas).1.spareBack s.cal.bank true).calEnd)) ∧
  (∀ (s : State) (meas : GenMeas), s.cal.phase = 4 → exec (.generatorRunDone meas) s = .next (if (s.genOutcome s.calUnit meas).1.get
    fWARP_BANK_STATUS_SPARE_STATE s.cal.bank = 2 then
    { (s.genOutcome s.calUnit meas).1 with cal := { (s.genOutcome s.calUnit meas).1.cal with phase := 5 } } else (s.genOutcome
    s.calUnit meas).1.calChannel (s.cal.cur + 1))) ∧
  (∀ (s : State) (meas : GenMeas), s.cal.phase = 0 ∨ s.cal.phase = 1 ∨ s.cal.phase = 3 → exec (.generatorRunDone meas) s = .next s) ∧
  (∀ (s : State) (b : Fin 8), s.safe = false → (nth s.banks b.val).back = none → s.cal.kind = 0 → s.cal.bank = b.val → s.cal.phase =
    3 → s.idleWc (8 * b.val + s.cal.cur) = true → ∃ t, exec (.calHandover b) s = .next t ∧ t.cal.phase = 4 ∧ t.get
    fWARP_BANK_STATUS_SPARE_STATE b.val = 2 ∧ t.get fWARP_BANK_STATUS_SPARE_CH b.val = s.cal.cur % 8 ∧ Only [aWARP_BANK_STATUS +
    b.val] s t ∧ t = { s with regs := t.regs, evts := t.evts, cal := t.cal }) ∧
  (∀ (s : State) (b : Fin 8), s.safe = false → (nth s.banks b.val).back = none → s.cal.kind = 0 → s.cal.bank = b.val → s.cal.phase =
    5 → s.idleWc (8 * b.val + s.cal.cur) = true → exec (.calHandover b) s = .next ((s.put fWARP_BANK_STATUS_SPARE_STATE 1
    b.val).calChannel (s.cal.cur + 1))) ∧
  (∀ (s : State) (b : Fin 8), s.safe = true → exec (.calHandover b) s = .next s) ∧
  (∀ (s : State) (meas : List InMeas), s.cal.tiLeft = true → s.cal.phase = 8 → exec (.tiRunDone meas) s = .next
    (({ (meas.filter (fun m => s.cal.mask.testBit m.input.val)).foldl (fun s' m => s'.tiOutcome s.cal.t0 m) s with cal := { ((meas.filter (fun m => s.cal.mask.testBit m.input.val)).foldl (fun s' m => s'.tiOutcome s.cal.t0 m) s).cal with tiLeft := false } }
    : State).calFinish)) ∧
  (∀ (s : State) (meas : List InMeas), s.cal.tiLeft = false → exec (.tiRunDone meas) s = .next s) ∧
  (∀ (s : State) (u : Fin 129) (v : Int), s.loadT u.val = some v → s.unitHeld u.val = false → 104 ≤ u.val ∧ u.val < 120 → exec
    (.calValueLoad u) s = .next ((s.loadOver u.val).tiLoad (u.val - 104) v)) ∧
  (∀ (s : State) (u : Fin 129) (v : Int), s.loadT u.val = some v → s.unitHeld u.val = false → 72 ≤ u.val ∧ u.val < 104 → s.idleWc
    (64 + (u.val - 72) / 4) = true → exec (.calValueLoad u) s = .next
    ({ s.loadOver u.val with vals := putKey {} s.vals u.val (s.genVals u.val v) })) ∧
  (∀ (s : State) (u : Fin 129), 72 ≤ u.val ∧ u.val < 104 → s.idleWc (64 + (u.val - 72) / 4) = false → exec (.calValueLoad u) s =
    .next s) ∧
  (∀ (s : State) (u : Fin 129), s.loadT u.val = none ∨ s.unitHeld u.val = true → exec (.calValueLoad u) s = .next s) ∧
  (∀ (s : State), s.rxCal.phase = 1 → exec (.rxSelftestDone false) s = .next ((s.calFail 128 9).rxCalEnd.spareFaulty)) ∧
  (∀ (s : State) (r : State), s.rxCal.phase = 1 → s.drifted s.rxCal.t0 = false → s.rxRecord 8 (meanT s.rxCal.t0 s.calT) 0 0 0 0 = r
    → r.spareRole = 4 → r.spare.judge = none → exec (.rxSelftestDone true) s = .next (((r.setSpare 0
    r.sparePos).spareRest).rxCalNext s.rxCal.todo)) ∧
  (∀ (s : State), s.rxCal.phase = 1 → s.drifted s.rxCal.t0 = false → (s.rxRecord 8 (meanT s.rxCal.t0 s.calT) 0 0 0 0).spareRole ≠ 4
    → exec (.rxSelftestDone true) s = .next ((s.rxRecord 8 (meanT s.rxCal.t0 s.calT) 0 0 0 0).rxCalNext s.rxCal.todo)) ∧
  (∀ (s : State) (pass_ : Bool), s.rxCal.phase ≠ 1 → exec (.rxSelftestDone pass_) s = .next s) ∧
  (∀ (s : State) (meas : List PosMeas), s.rxCal.phase = 2 → ∀ m ∈ meas, (s.usedPos s.rxCal.cur).contains m.c.val = false → exec
    (.rxEstimateDone meas) s = .next (((s.usedPos s.rxCal.cur).foldl (fun s' c => s'.calFail (120 + (4 * s.rxCal.cur + c)) 9)
    s).rxCalNext s.rxCal.todo)) ∧
  (∀ (s : State) (meas : List PosMeas) (m : PosMeas), s.rxCal.phase = 2 → s.usedPos s.rxCal.cur = [0, 1] → meas = [m] → m.c = 1 →
    (rxValues [m] m).2 = true → 4 ≤ ((List.range 16).filter (fun n => s.is fPROBE_TONE_CTRL_EN (16 * s.rxCal.cur + n))).length →
    (s.calFail (120 + 4 * s.rxCal.cur) 9).drifted s.rxCal.t0 = false → exec (.rxEstimateDone meas) s = .next (((s.calFail (120 + 4
    * s.rxCal.cur) 9).rxRecord (4 * s.rxCal.cur + 1) (meanT s.rxCal.t0 (s.calFail (120 + 4 * s.rxCal.cur) 9).calT) (rxValues [m]
    m).1.1 (rxValues [m] m).1.2.1 (rxValues [m] m).1.2.2.1 (rxValues [m] m).1.2.2.2).rxCalNext s.rxCal.todo)) ∧
  (∀ (s : State) (meas : List PosMeas), s.rxCal.phase ≠ 2 → exec (.rxEstimateDone meas) s = .next s)

/-- A receive link goes DOWN, CLK_WAIT, LOCKING and UP by its commands and releases a block at each boundary while UP. RX_LINK_ENABLE of a
link that is not DOWN sets LINK_EN and starts ARRIVE_MIN at 4 095, and one that is DOWN goes to CLK_WAIT (1). RX_LINK_DISABLE clears LINK_EN
and takes the link DOWN. RX_CLOCK_CHECK of a link that is not DOWN: on the safe clock, with an absent clock, or with a span of 64 cycles
more than 1 wc off the nominal it goes to CLK_WAIT with CLK_ERR; else 64 passing cycles are added, and in CLK_WAIT the 1 024th takes it to
LOCKING (2). A DOWN link is left as it is. RX_LINK_UP from LOCKING makes it UP (3); in another state it changes nothing. LANE_LOCK_LOSS
clears both locks of the lane, counts it, sets LOCK_ERR of its link, and reports, a link that is UP going to LOCKING (State.rxUnlock).
RX_RELEASE of a link that is not UP changes nothing; of one that is UP time passes to the boundary's first label: with a lane that holds no
block RELEASE_ERR is set and the link unlocks; with no CRC mismatch and no CRC injection ARRIVE_MIN takes the least margin, the next
boundary is due, and every label of the block is taken with its samples (State.rxLabel). (Derived from R301, R302, R303, R304, R305, R307.)
-/
def Obligations.ReceiveLinks : Prop :=
  (∀ (s : State) (f : Fin 2), s.get fRXW_LINK_STATUS_STATE f.val ≠ 0 → exec (.rxLinkEnable f) s = .next ((s.flag
    fRXW_LINK_CTRL_LINK_EN f.val).put fRXW_LINK_STATUS_ARRIVE_MIN 4095 f.val)) ∧
  (∀ (s : State) (f : Fin 2), s.get fRXW_LINK_STATUS_STATE f.val = 0 → ∃ t, exec (.rxLinkEnable f) s = .next t ∧ t.is
    fRXW_LINK_CTRL_LINK_EN f.val = true ∧ t.get fRXW_LINK_STATUS_STATE f.val = 1) ∧
  (∀ (s : State) (f : Fin 2), ∃ t, exec (.rxLinkDisable f) s = .next t ∧ t.is fRXW_LINK_CTRL_LINK_EN f.val = false ∧ t.get
    fRXW_LINK_STATUS_STATE f.val = 0) ∧
  (∀ (s : State) (f : Fin 2) (span : Option Nat), s.get fRXW_LINK_STATUS_STATE f.val ≠ 0 → s.safe = true ∨ clockOk (s.rxPeriod
    f.val) span = false → ∃ t, exec (.rxClockCheck f span) s = .next t ∧ t.get fRXW_LINK_STATUS_STATE f.val = 1 ∧ t.is
    fRXW_LINK_STATUS_CLK_ERR f.val = true) ∧
  (∀ (s : State) (f : Fin 2) (span : Option Nat), s.get fRXW_LINK_STATUS_STATE f.val = 1 → 1024 ≤ (s.rxOf f.val).good + 64 → s.safe
    = false → clockOk (s.rxPeriod f.val) span = true → ∃ t, exec (.rxClockCheck f span) s = .next t ∧ t.get fRXW_LINK_STATUS_STATE
    f.val = 2) ∧
  (∀ (s : State) (f : Fin 2) (span : Option Nat), s.get fRXW_LINK_STATUS_STATE f.val ≠ 0 → s.get fRXW_LINK_STATUS_STATE f.val ≠ 1 ∨
    (s.rxOf f.val).good + 64 < 1024 → s.safe = false → clockOk (s.rxPeriod f.val) span = true → exec (.rxClockCheck f span) s =
    .next (s.setRx f.val { s.rxOf f.val with good := (s.rxOf f.val).good + 64 })) ∧
  (∀ (s : State) (f : Fin 2) (span : Option Nat), s.get fRXW_LINK_STATUS_STATE f.val = 0 → exec (.rxClockCheck f span) s = .next s) ∧
  (∀ (s : State) (f : Fin 2), s.get fRXW_LINK_STATUS_STATE f.val = 2 → ∃ t, exec (.rxLinkUp f) s = .next t ∧ t.get
    fRXW_LINK_STATUS_STATE f.val = 3) ∧
  (∀ (s : State) (f : Fin 2), s.get fRXW_LINK_STATUS_STATE f.val ≠ 2 → exec (.rxLinkUp f) s = .next s) ∧
  (∀ (s : State) (l : Fin 12), exec (.laneLockLoss l) s = .next (((((s.unflag fRXW_LANE_STATUS_LOCK l.val).unflag
    fRXW_LANE_STATUS_EMB_LOCK l.val).bump fRXW_LANE_STATUS_LOCK_LOSS l.val).flag fRXW_LINK_STATUS_LOCK_ERR (l.val / 6)).rxUnlock
    (l.val / 6) l.val 1)) ∧
  (∀ (s : State) (f : Fin 2) (obs : RelObs), s.get fRXW_LINK_STATUS_STATE f.val ≠ 3 → exec (.rxRelease f obs) s = .next s) ∧
  (∀ (s : State) (f : Fin 2) (obs : RelObs) (l : Fin 6), s.get fRXW_LINK_STATUS_STATE f.val = 3 → obs.late = some l → exec
    (.rxRelease f obs) s = .next (((s.flowTo (s.labelT f.val (s.blockLabel f.val (s.rxOf f.val).next))).flag
    fRXW_LINK_STATUS_RELEASE_ERR f.val).rxUnlock f.val (6 * f.val + l.val) 2)) ∧
  (∀ (s : State) (f : Fin 2) (obs : RelObs) (u v : State), s.get fRXW_LINK_STATUS_STATE f.val = 3 → obs.late = none → obs.crc = 0 →
    s.flowTo (s.labelT f.val (s.blockLabel f.val (s.rxOf f.val).next)) = u → u.injActs 14 = none → (u.put
    fRXW_LINK_STATUS_ARRIVE_MIN (min (u.get fRXW_LINK_STATUS_ARRIVE_MIN f.val) obs.margin) f.val).setRx f.val
    { u.rxOf f.val with next := (s.rxOf f.val).next + 1 } = v → exec (.rxRelease f obs) s = .next (v.forN (s.rxBlock f.val) (fun
    s' i => s'.rxLabel f.val (s.blockLabel f.val (s.rxOf f.val).next + i) ((v.usedPos f.val).map (fun c => (obs.samples.getD c
    []).getD i (0, false))))))

/-- The receive spare dwells, mismatches, is judged, carries and is released by its commands, and slices are marked and cleared.
SLICE_PLAUS_FAULT of a slice reports, sets PLAUS and marks it FAULTY; of the spare it reports, sets SPARE_PLAUS and retires it. SPARE_DWELL
of a checking spare whose DWELL has ended: it joins the next active position, with CYCLES counting where that is not after its own, or rests
where there is none; in any other case nothing changes. MISMATCH of a spare that does not compare (64 samples after it joined) changes
nothing; of one that compares it sets MISMATCH, records it, and the spare judges at the next active position, or, with none but its own, is
tested itself. JUDGE_END with no judgment changes nothing; a judgment against the spare, its 4 mt over where it judges at a second position,
reports and retires it; one that finds the slice bad (no later slice waiting) reports and marks it FAULTY with the spare back at it, and a
mismatch of a sole position that does not recur marks nothing. RX_FO_FORCE keeps the position and carries one of 0 to 7, and 8 only is kept;
RX_FO_RELEASE of the carried position asks for the way back, and of another is only kept. RX_CLEAR_FAULTY clears the mark of a slice, its
errors ending, or of the spare, which leaves its retirement. (Derived from R308, R309, R310, R311.) -/
def Obligations.SparesOfReceive : Prop :=
  (∀ (s : State) (p : Fin 9), p.val < 8 → exec (.slicePlausFault p) s = .next (((s.report 15 p.val 0).putBit fRXW_SLICE_STATUS_PLAUS
    p.val true).markFaulty p.val)) ∧
  (∀ (s : State), exec (.slicePlausFault 8) s = .next (((s.report 15 8 0).flag fRXW_SLICE_STATUS_SPARE_PLAUS).spareFaulty)) ∧
  (∀ (s : State) (n : Nat), s.spareRole = 1 → s.spare.len ≤ s.spare.dwell → s.posAfter s.sparePos = some n → s.sparePos < n → exec
    .spareDwell s = .next (s.spareJoin n)) ∧
  (∀ (s : State) (n : Nat), s.spareRole = 1 → s.spare.len ≤ s.spare.dwell → s.posAfter s.sparePos = some n → n ≤ s.sparePos → exec
    .spareDwell s = .next ((s.bump fRXW_SPARE_STATUS_CYCLES).spareJoin n)) ∧
  (∀ (s : State), s.spareRole = 1 → s.spare.len ≤ s.spare.dwell → s.posAfter s.sparePos = none → exec .spareDwell s = .next
    s.spareRest) ∧
  (∀ (s : State), s.spareRole ≠ 1 ∨ s.spare.dwell < s.spare.len → exec .spareDwell s = .next s) ∧
  (∀ (s : State), s.spareComparing = false → exec .mismatch s = .next s) ∧
  (∀ (s : State) (u : State), s.spareComparing = true → (s.flag fRXW_SPARE_STATUS_MISMATCH).detect 15 s.sparePos 1 8 false s.nowT =
    u → u.posAfter s.sparePos = none → exec .mismatch s = .next
    (({ u with spare := { dwell := 0, judge := some s.sparePos, sole := true } } : State).setSpare 4 s.sparePos)) ∧
  (∀ (s : State) (u : State) (n : Nat), s.spareComparing = true → (s.flag fRXW_SPARE_STATUS_MISMATCH).detect 15 s.sparePos 1 8 false
    s.nowT = u → u.posAfter s.sparePos = some n → n ≠ s.sparePos → exec .mismatch s = .next
    (({ u with spare := { dwell := 0, judge := some s.sparePos, sole := false } } : State).setSpare 2 n)) ∧
  (∀ (s : State) (u : State), s.spareComparing = true → (s.flag fRXW_SPARE_STATUS_MISMATCH).detect 15 s.sparePos 1 8 false s.nowT =
    u → u.posAfter s.sparePos = some s.sparePos → exec .mismatch s = .next
    (({ u with spare := { dwell := 0, judge := some s.sparePos, sole := true } } : State).setSpare 4 s.sparePos)) ∧
  (∀ (s : State) (bad : Bool) (recur : Bool), s.spare.judge = none → exec (.judgeEnd bad recur) s = .next s) ∧
  (∀ (s : State) (recur : Bool) (p : Nat), s.spare.judge = some p → s.spareRole ≠ 2 ∨ 4 ≤ s.spare.dwell → exec (.judgeEnd true
    recur) s = .next ((s.report 15 8 2).spareFaulty)) ∧
  (∀ (s : State) (recur : Bool) (p : Nat), s.spare.judge = some p → s.spare.first = none → s.spareRole ≠ 2 ∨ 4 ≤ s.spare.dwell →
    s.spare.sole = false ∨ recur = true → exec (.judgeEnd false recur) s = .next (((({ s with spare := {} } : State).spareJoin
    p).report 15 p 2 |>.markFaulty p).spareRest)) ∧
  (∀ (s : State) (p : Nat), s.spare.judge = some p → s.spare.first = none → s.spareRole ≠ 2 ∨ 4 ≤ s.spare.dwell → s.spare.sole =
    true → exec (.judgeEnd false false) s = .next ((({ s with spare := {} } : State).spareJoin p).spareRest)) ∧
  (∀ (s : State) (p : Fin 9), p.val < 8 → exec (.rxFoForce p) s = .next ((s.put fRXW_SPARE_CTRL_POS p.val).spareCarry p.val)) ∧
  (∀ (s : State), exec (.rxFoForce 8) s = .next (s.put fRXW_SPARE_CTRL_POS 8)) ∧
  (∀ (s : State) (p : Fin 9), s.spareRole = 3 → s.sparePos = p.val → exec (.rxFoRelease p) s = .next
    ({ s.put fRXW_SPARE_CTRL_POS p.val with spare := { s.spare with back := true } })) ∧
  (∀ (s : State) (p : Fin 9), s.spareRole ≠ 3 ∨ s.sparePos ≠ p.val → exec (.rxFoRelease p) s = .next (s.put fRXW_SPARE_CTRL_POS
    p.val)) ∧
  (∀ (s : State) (p : Fin 9), p.val < 8 → exec (.rxClearFaulty p) s = .next ((((s.put fRXW_SPARE_CTRL_POS p.val).putBit
    fRXW_SLICE_STATUS_FAULTY p.val false).slErrClose p.val s.nowT).spareRest)) ∧
  (∀ (s : State), s.spareRole = 5 → exec (.rxClearFaulty 8) s = .next (((((s.put fRXW_SPARE_CTRL_POS 8).unflag
    fRXW_SPARE_STATUS_SPARE_FAULTY).setSpare 0 s.sparePos)).spareRest)) ∧
  (∀ (s : State), s.spareRole ≠ 5 → exec (.rxClearFaulty 8) s = .next (((s.put fRXW_SPARE_CTRL_POS 8).unflag
    fRXW_SPARE_STATUS_SPARE_FAULTY).spareRest))

/-- Receive applies are requested and armed, WEFT errors are flagged, counted and recorded, and a complete profile forms one row. RXW_APPLY
keeps the mask; with no fibre nothing else changes; of one fibre that a running sequencer feeds the apply waits for the shot, of one that
none feeds the shadows apply at the present instant (State.applyRes). RXW_TAPPLY_ARM sends one command of source 6 with the due time of its
words, or sets ARM_BUSY where one is pending; RXW_TAPPLY_CANCEL withdraws it. ECC_DBE records the lost samples of the fibre, sets ECC_DBE,
counts one and leaves one record; RESIDUE sets RESIDUE, counts one, keeps the first in RESID_FIRST and leaves one record; nothing else but
those words, the receive state and the record changes. ROW_COMPLETE with no code origin waiting, or while MEMC does not hold the tone
memory, changes nothing; otherwise, with no event of a Heddle line ahead, the fibre's row count is one more. REBASE asks for a fresh window
of its fibre. (Derived from R320, R323, R325, R326, R335, R350.) -/
def Obligations.ReceiveAppliesAndErrors : Prop :=
  (∀ (s : State), ∃ t, exec (.rxwApply 0) s = .next t ∧ t.get fRXW_APPLY_FIBRE_MASK = 0 ∧ Only [aRXW_APPLY] s t ∧ RegsOnly s t) ∧
  (∀ (s : State), (s.put fRXW_APPLY_FIBRE_MASK 2).feedRuns 1 = false → exec (.rxwApply 2) s = .next ((s.put fRXW_APPLY_FIBRE_MASK
    2).applyRes 1 s.nowT)) ∧
  (∀ (s : State), (s.put fRXW_APPLY_FIBRE_MASK 1).feedRuns 0 = false → exec (.rxwApply 1) s = .next ((s.put fRXW_APPLY_FIBRE_MASK
    1).applyRes 0 s.nowT)) ∧
  (∀ (s : State), s.feedRuns 0 = true → exec (.rxwApply 1) s = .next ((s.put fRXW_APPLY_FIBRE_MASK 1).setRx 0
    { s.rxOf 0 with applyWait := true })) ∧
  (∀ (s : State), s.feedRuns 1 = true → exec (.rxwApply 2) s = .next ((s.put fRXW_APPLY_FIBRE_MASK 2).setRx 1
    { s.rxOf 1 with applyWait := true })) ∧
  (∀ (s : State) (fibres : Fin 4), s.is fRXW_TAPPLY_CTRL_PENDING = false → exec (.rxwTapplyArm fibres) s = .next (((s.put
    fRXW_TAPPLY_CTRL_FIBRE_MASK fibres.val).flag fRXW_TAPPLY_CTRL_PENDING).sendDue (DueCmd.mk (.rxwApply fibres.val) 3 (tsOf
    (s.word aRXW_TAPPLY_LO) (s.word aRXW_TAPPLY_HI)) 6))) ∧
  (∀ (s : State) (fibres : Fin 4), s.is fRXW_TAPPLY_CTRL_PENDING = true → exec (.rxwTapplyArm fibres) s = .next ((s.put
    fRXW_TAPPLY_CTRL_FIBRE_MASK fibres.val).flag fRXW_TAPPLY_CTRL_ARM_BUSY)) ∧
  (∀ (s : State) (s' : State), s.cancelDue (fun c => isRxwApply c.target) = some s' → exec .rxwTapplyCancel s = .next (s'.unflag
    fRXW_TAPPLY_CTRL_PENDING)) ∧
  (∀ (s : State) (c : Fin 64) (f : Fin 2) (a : Nat) (lost : Nat × Nat), f.val < s.rx.length → ∃ t, exec (.eccDbe c f a lost) s =
    .next t ∧ (t.rxOf f.val).missing = (s.rxOf f.val).missing ++ [lost] ∧ t.is fRXW_WEFT_STATUS_ECC_DBE = true ∧ t.get
    fRXW_WEFT_COUNT_DBE_ERRS = satU (fldWidth fRXW_WEFT_COUNT_DBE_ERRS) (s.get fRXW_WEFT_COUNT_DBE_ERRS + 1) ∧ t.detected.length =
    s.detected.length + 1 ∧ Only [aRXW_WEFT_STATUS, aRXW_WEFT_COUNT] s t ∧ t =
    { s with regs := t.regs, evts := t.evts, rx := t.rx, detected := t.detected }) ∧
  (∀ (s : State) (c : Fin 64) (stage : Fin 16) (f : Fin 2), ∃ t, exec (.residue c stage f) s = .next t ∧ t.is
    fRXW_WEFT_STATUS_RESIDUE = true ∧ t.get fRXW_WEFT_COUNT_RESID_ERRS = satU (fldWidth fRXW_WEFT_COUNT_RESID_ERRS) (s.get
    fRXW_WEFT_COUNT_RESID_ERRS + 1) ∧ t.is fRXW_RESID_FIRST_VALID = true ∧ (s.is fRXW_RESID_FIRST_VALID = true → t.word
    aRXW_RESID_FIRST = s.word aRXW_RESID_FIRST) ∧ t.detected.length = s.detected.length + 1 ∧ Only [aRXW_WEFT_STATUS,
    aRXW_WEFT_COUNT, aRXW_RESID_FIRST] s t ∧ t = { s with regs := t.regs, evts := t.evts, rx := t.rx, detected := t.detected }) ∧
  (∀ (s : State) (f : Fin 2) (p : Profile), earliestOrigin (s.rxOf f.val).origins = none ∨ s.toneRuns = false → exec (.rowComplete f
    p) s = .next s) ∧
  (∀ (s : State) (f : Fin 2) (p : Profile) (o : Nat × Nat × Nat), s.pins = [] → earliestOrigin (s.rxOf f.val).origins = some o →
    s.toneRuns = true → f.val < s.res.length → ∃ t, exec (.rowComplete f p) s = .next t ∧ (t.resOf f.val).rows = (s.resOf
    f.val).rows + 1) ∧
  (∀ (s : State) (f : Fin 2), exec (.rebase f) s = .next (s.setRes f.val
    { s.resOf f.val with spec := { (s.resOf f.val).spec with rebase := true } }))

/-- History rings take frames, marks, readers and stream regions by their commands. HIST_MARK and HIST_RELEASE keep their words and place a
mark at the instant of HIST_MARK_LO and HI, or free a slot. MARK_LOCATED fixes START_FRAME of a mark at the first frame at or after M - PRE,
once; of a FREE or located one it changes nothing. SKEIN_FRAME_WRITE of an enabled CAPTURE Skein with a committed queue while MEMC runs
captures its oldest packet; with no such queue it changes nothing. RAW_FRAME_WRITE writes the oldest gathered raw frame to the fibre's RAW
Skein while MEMC runs, and changes nothing with none. READER_GO of a running reader changes nothing; FROM or UNTIL 3, or a FREE mark to
start from, sets ERR; otherwise RUN is set and POS is the oldest frame, the mark's START_FRAME, or the first frame at or after the reader's
instant, and only those two words and the reader change. READER_STOP clears RUN and nothing else. READER_FRAME of a reader that does not
run, or while MEMC does not, changes nothing; at its end it is done; one with a frame that its queue takes, UNTIL without an end and no mark
followed, goes on to the next frame. STREAM_REGION_RESET empties the region, a REPLAY keeping its place. STREAM_REGION_WRITE takes the
visible words of the bound queue while MEMC runs, and changes nothing without one. (Derived from R393, R395, R396, R398, R400, R401, R403.)
-/
def Obligations.HistoryRings : Prop :=
  (∀ (s : State) (k : Fin 64), exec (.histMark k) s = .next (((s.put fHIST_MARK_CMD_OP 0).put fHIST_MARK_CMD_SKEIN k.val).placeMark
    k.val { host := true, inst := tsOf (s.word aHIST_MARK_LO) (s.word aHIST_MARK_HI) })) ∧
  (∀ (s : State) (k : Fin 64) (j : Fin 16), exec (.histRelease k j) s = .next ((((s.put fHIST_MARK_CMD_OP 1).put
    fHIST_MARK_CMD_SKEIN k.val).put fHIST_MARK_CMD_SLOT j.val).freeMark k.val j.val)) ∧
  (∀ (s : State) (k : Fin 64) (j : Fin 16), (nth (s.skein k.val).marks j.val).st ≠ 0 → (nth (s.skein k.val).marks j.val).located =
    false → exec (.markLocated k j) s = .next (s.setSkein k.val
    { s.skein k.val with marks := (s.skein k.val).marks.set j.val { nth (s.skein k.val).marks j.val with located := true, start := (s.skein k.val).firstAt (tSub (nth (s.skein k.val).marks j.val).inst (nth (s.skein k.val).marks j.val).pre) } })) ∧
  (∀ (s : State) (k : Fin 64) (j : Fin 16), (nth (s.skein k.val).marks j.val).st = 0 ∨ (nth (s.skein k.val).marks j.val).located =
    true → exec (.markLocated k j) s = .next s) ∧
  (∀ (s : State) (k : Fin 64) (q : Nat), s.memcQueue k.val = some q → s.memcRuns = true → s.is fHIST_SK_CFG_EN k.val = true → s.is
    fHIST_SK_CFG_KIND k.val = false → exec (.skeinFrameWrite k) s = .next (s.capture k.val q)) ∧
  (∀ (s : State) (k : Fin 64), s.memcQueue k.val = none → exec (.skeinFrameWrite k) s = .next s) ∧
  (∀ (s : State) (f : Fin 2) (k : Nat) (r : RawFrame) (rest : List RawFrame), (s.rxOf f.val).rawFrames = r :: rest → s.rawSkein
    f.val = some k → s.memcRuns = true → exec (.rawFrameWrite f) s = .next ((s.setRx f.val
    { s.rxOf f.val with rawFrames := rest }).writeFrame k r.inst r.words false r.gap)) ∧
  (∀ (s : State) (f : Fin 2), (s.rxOf f.val).rawFrames = [] → exec (.rawFrameWrite f) s = .next s) ∧
  (∀ (s : State) (r : Fin 8), s.is fHIST_RD_CTRL_RUN r.val = true → exec (.readerGo r) s = .next s) ∧
  (∀ (s : State) (r : Fin 8), s.is fHIST_RD_CTRL_RUN r.val = false → fHIST_RD_CFG_FROM.get (s.word (aHIST_RD_CFG + r.val)) = 3 ∨
    fHIST_RD_CFG_UNTIL.get (s.word (aHIST_RD_CFG + r.val)) = 3 → exec (.readerGo r) s = .next (s.flag fHIST_RD_CTRL_ERR r.val)) ∧
  (∀ (s : State) (r : Fin 8), s.is fHIST_RD_CTRL_RUN r.val = false → fHIST_RD_CFG_FROM.get (s.word (aHIST_RD_CFG + r.val)) = 1 →
    (nth (s.skein (fHIST_RD_CFG_SKEIN.get (s.word (aHIST_RD_CFG + r.val)))).marks (fHIST_RD_CFG_SLOT.get (s.word (aHIST_RD_CFG +
    r.val)))).st = 0 → exec (.readerGo r) s = .next (s.flag fHIST_RD_CTRL_ERR r.val)) ∧
  (∀ (s : State) (r : Fin 8) (k p : Nat), s.is fHIST_RD_CTRL_RUN r.val = false → fHIST_RD_CFG_SKEIN.get (s.word (aHIST_RD_CFG +
    r.val)) = k → fHIST_RD_CFG_UNTIL.get (s.word (aHIST_RD_CFG + r.val)) ≠ 3 → (fHIST_RD_CFG_FROM.get (s.word (aHIST_RD_CFG +
    r.val)) = 0 ∧ p = (s.skein k).oldest) ∨ (fHIST_RD_CFG_FROM.get (s.word (aHIST_RD_CFG + r.val)) = 1 ∧ (nth (s.skein k).marks
    (fHIST_RD_CFG_SLOT.get (s.word (aHIST_RD_CFG + r.val)))).st ≠ 0 ∧ p = (nth (s.skein k).marks (fHIST_RD_CFG_SLOT.get (s.word
    (aHIST_RD_CFG + r.val)))).start) ∨ (fHIST_RD_CFG_FROM.get (s.word (aHIST_RD_CFG + r.val)) = 2 ∧ p = (s.skein k).firstAt (tsOf
    (s.word (aHIST_RD_T_LO + r.val)) (s.word (aHIST_RD_T_HI + r.val)))) → ∃ t, exec (.readerGo r) s = .next t ∧ t.is
    fHIST_RD_CTRL_RUN r.val = true ∧ t.word (aHIST_RD_POS + r.val) = BitVec.ofNat 36 p ∧ Only [aHIST_RD_CTRL + r.val, aHIST_RD_POS
    + r.val] s t ∧ t = { s with regs := t.regs, evts := t.evts, readers := t.readers }) ∧
  (∀ (s : State) (r : Fin 8), ∃ t, exec (.readerStop r) s = .next t ∧ t.is fHIST_RD_CTRL_RUN r.val = false ∧ Only [aHIST_RD_CTRL +
    r.val] s t ∧ RegsOnly s t) ∧
  (∀ (s : State) (r : Fin 8), s.is fHIST_RD_CTRL_RUN r.val = false ∨ s.memcRuns = false → exec (.readerFrame r) s = .next s) ∧
  (∀ (s : State) (r : Fin 8) (e : Nat), s.is fHIST_RD_CTRL_RUN r.val = true → s.memcRuns = true → s.readerEnd r.val = some e → e ≤
    (s.word (aHIST_RD_POS + r.val)).toNat → exec (.readerFrame r) s = .next (s.readerDone r.val)) ∧
  (∀ (s : State) (r : Fin 8) (fr : Frame) (v : State), s.is fHIST_RD_CTRL_RUN r.val = true → s.memcRuns = true →
    fHIST_RD_CFG_UNTIL.get (s.reader r.val).cfg = 2 → fHIST_RD_CFG_FROM.get (s.reader r.val).cfg ≠ 1 → (s.reader r.val).until_ =
    none → (s.skein (fHIST_RD_CFG_SKEIN.get (s.reader r.val).cfg)).frames.find? (fun f => f.no == (s.word (aHIST_RD_POS +
    r.val)).toNat) = some fr → s.get fBOLT_Q_CFG_PROD (fHIST_RD_CFG_QUEUE.get (s.reader r.val).cfg) = 7 → (s.packet
    (fHIST_RD_CFG_QUEUE.get (s.reader r.val).cfg) (readerPacket (fHIST_RD_CFG_SKEIN.get (s.reader r.val).cfg) (s.reader r.val)
    false fr)).2 = true → v = (s.packet (fHIST_RD_CFG_QUEUE.get (s.reader r.val).cfg) (readerPacket (fHIST_RD_CFG_SKEIN.get
    (s.reader r.val).cfg) (s.reader r.val) false fr)).1 → exec (.readerFrame r) s = .next ((v.setReader r.val
    { s.reader r.val with lost := false, fresh := false }).setWord (aHIST_RD_POS + r.val) (BitVec.ofNat 36 ((s.word (aHIST_RD_POS
    + r.val)).toNat + 1)))) ∧
  (∀ (s : State) (q : Fin 2), exec (.streamRegionReset q) s = .next (s.setRegion q.val
    { rd := if s.is fHIST_STREAM_CFG_MODE q.val then (s.region q.val).rd else 0 })) ∧
  (∀ (s : State) (q : Fin 2), s.memcQueue (0x80 + q.val) = none → exec (.streamRegionWrite q) s = .next s) ∧
  (∀ (s : State) (q : Fin 2) (b : Nat), s.memcQueue (0x80 + q.val) = some b → s.memcRuns = true → exec (.streamRegionWrite q) s =
    .next (s.regionTake q.val b ((s.queue b).words.take (s.visible (s.queue b)))))

/-- DRAM training, patrol and the retention test end in their flags and counts. DRAM_READY with PD_MEM on, the memory not ready and its
start admitted by the governor empties the DRAM and sets READY; it changes nothing where the memory is ready, PD_MEM is off or the start
still waits. DRAM_SCRUB_PASS with SCRUB_EN and READY adds the corrected errors to SBE_COUNT and starts the pass anew, with SCRUB_LATE where
it ran beyond SCRUB_PERIOD; otherwise it changes nothing. DRAM_DBE sets DBE. RETENTION_TEST_GO keeps its page and hold time; of an owned
page, or where the DRAM test cannot claim its resource, MAINT_BUSY is set, otherwise BUSY, with max(1, HOLD) mt to go. RETENTION_TEST_DONE
of a running test whose mt without refresh have passed records the weak bits (11 bits, saturated), clears BUSY and releases the claim; with
none running, or before that, it changes nothing. (Derived from R389, R403, R404, R506.) -/
def Obligations.DramUpkeep : Prop :=
  (∀ (s : State), s.is fHIST_MEM_STATUS_READY = false → s.domOn 6 = true → s.gov.queue.any (fun x => x.1 == GovEvt.dram) = false →
    exec .dramReady s = .next (s.dramClear.flag fHIST_MEM_STATUS_READY)) ∧
  (∀ (s : State), s.is fHIST_MEM_STATUS_READY = true ∨ s.domOn 6 = false ∨ s.gov.queue.any (fun x => x.1 == GovEvt.dram) = true →
    exec .dramReady s = .next s) ∧
  (∀ (s : State) (sbe : Nat), s.is fHIST_MEM_CTRL_SCRUB_EN = true → s.is fHIST_MEM_STATUS_READY = true → s.dramMt ≤ s.get
    fHIST_MEM_CTRL_SCRUB_PERIOD → exec (.dramScrubPass sbe) s = .next
    ({ s.bump fHIST_MEM_STATUS_SBE_COUNT 0 sbe with dramMt := 0 })) ∧
  (∀ (s : State) (sbe : Nat), s.is fHIST_MEM_CTRL_SCRUB_EN = true → s.is fHIST_MEM_STATUS_READY = true → s.get
    fHIST_MEM_CTRL_SCRUB_PERIOD < s.dramMt → exec (.dramScrubPass sbe) s = .next
    (({ s.bump fHIST_MEM_STATUS_SBE_COUNT 0 sbe with dramMt := 0 } : State).flag fHIST_MEM_STATUS_SCRUB_LATE)) ∧
  (∀ (s : State) (sbe : Nat), s.is fHIST_MEM_CTRL_SCRUB_EN = false ∨ s.is fHIST_MEM_STATUS_READY = false → exec (.dramScrubPass sbe)
    s = .next s) ∧
  (∀ (s : State) (page : Fin 16384) (line : Fin 32768) (ws : List (Fin 13)) (patrol : Bool), ∃ t, exec (.dramDbe page line ws
    patrol) s = .next t ∧ t.is fHIST_MEM_STATUS_DBE = true) ∧
  (∀ (s : State) (page : Fin 16384) (hold : Fin 256), ((s.put fHIST_RT_CTRL_TEST_PAGE page.val).put fHIST_RT_CTRL_HOLD
    hold.val).ownedPage page.val = true → exec (.retentionTestGo page hold) s = .next (((s.put fHIST_RT_CTRL_TEST_PAGE
    page.val).put fHIST_RT_CTRL_HOLD hold.val).flag fHIST_RT_CTRL_MAINT_BUSY)) ∧
  (∀ (s : State) (page : Fin 16384) (hold : Fin 256), ((s.put fHIST_RT_CTRL_TEST_PAGE page.val).put fHIST_RT_CTRL_HOLD
    hold.val).ownedPage page.val = false → (((s.put fHIST_RT_CTRL_TEST_PAGE page.val).put fHIST_RT_CTRL_HOLD hold.val).claim 12
    [(31, true)]).2 = true → exec (.retentionTestGo page hold) s = .next
    ({ (((s.put fHIST_RT_CTRL_TEST_PAGE page.val).put fHIST_RT_CTRL_HOLD hold.val).claim 12 [(31, true)]).1.flag fHIST_RT_CTRL_BUSY with rtMt := max 1 hold.val })) ∧
  (∀ (s : State) (page : Fin 16384) (hold : Fin 256), ((s.put fHIST_RT_CTRL_TEST_PAGE page.val).put fHIST_RT_CTRL_HOLD
    hold.val).ownedPage page.val = false → (((s.put fHIST_RT_CTRL_TEST_PAGE page.val).put fHIST_RT_CTRL_HOLD hold.val).claim 12
    [(31, true)]).2 = false → exec (.retentionTestGo page hold) s = .next ((((s.put fHIST_RT_CTRL_TEST_PAGE page.val).put
    fHIST_RT_CTRL_HOLD hold.val).claim 12 [(31, true)]).1.flag fHIST_RT_CTRL_MAINT_BUSY)) ∧
  (∀ (s : State) (weak : Nat), s.is fHIST_RT_CTRL_BUSY = true → s.rtMt = 0 → exec (.retentionTestDone weak) s = .next (((s.put
    fHIST_RT_CTRL_WEAK_BITS (satU 11 weak)).unflag fHIST_RT_CTRL_BUSY).release 12)) ∧
  (∀ (s : State) (weak : Nat), s.is fHIST_RT_CTRL_BUSY = false ∨ 0 < s.rtMt → exec (.retentionTestDone weak) s = .next s)

/-- A producer's words form, commit or rewind the open packet of their queue; words of no packet and of a port not bound are dropped.
PACKET_WORD at a queue that is not enabled or bound to another port, or with PD_BOLT off, changes nothing. With a cell to take where one is
needed: a SOP word of no open packet opens one; a middle word joins the open packet; EOP commits the packet behind the committed words (no
damaged word in it), or with BAD rewinds it, leaves the committed words and sets BAD_SEEN. A word of no packet after no overrun or length
fault sets ORPHAN and is counted. The register pushes write the host queue of BOLT_PUSH_CTRL in the same way: SOP opens, SOP_EOP commits one
word, MIDDLE joins, EOP commits; each sets PUSH_ERR alone where the queue is not bound to the host. PUSH_BAD rewinds an open host packet,
leaves the committed words and sets BAD_SEEN; with no open packet or another producer it changes nothing. Apart from LOW_FREE of the pool,
or the STATUS and COUNT words of a rewound queue, no register changes. (Derived from R365, R367, R368, R369, R374, R384.) -/
def Obligations.BoltProducers : Prop :=
  (∀ (s : State) (port : Fin 16) (q : Fin 4096) (w : Word) (sop eop bad : Bool), s.is fBOLT_Q_CFG_EN q.val = false ∨ s.get
    fBOLT_Q_CFG_PROD q.val ≠ port.val ∨ s.domOn 5 = false → exec (.packetWord port q w sop eop bad) s = .next s) ∧
  (∀ (s : State) (port : Fin 16) (q : Fin 4096) (w : Word) (bad : Bool), s.is fBOLT_Q_CFG_EN q.val = true → s.get fBOLT_Q_CFG_PROD
    q.val = port.val → s.domOn 5 = true → (s.queue q.val).opn = none → ((s.queue q.val).off + (s.queue q.val).held) % 32 ≠ 0 ∨
    s.mayTake q.val = true → ∃ t, exec (.packetWord port q w true false bad) s = .next t ∧ (t.queue q.val).opn = some [BWord.mk w
    true false false] ∧ (t.queue q.val).words = (s.queue q.val).words ∧ Only [aBOLT_POOL_LOW] s t) ∧
  (∀ (s : State) (port : Fin 16) (q : Fin 4096) (w : Word) (bad : Bool) (pk : List BWord), s.is fBOLT_Q_CFG_EN q.val = true → s.get
    fBOLT_Q_CFG_PROD q.val = port.val → s.domOn 5 = true → (s.queue q.val).opn = some pk → pk.length < 8192 → ((s.queue q.val).off
    + (s.queue q.val).held) % 32 ≠ 0 ∨ s.mayTake q.val = true → ∃ t, exec (.packetWord port q w false false bad) s = .next t ∧
    (t.queue q.val).opn = some (pk ++ [BWord.mk w false false false]) ∧ (t.queue q.val).words = (s.queue q.val).words ∧ Only
    [aBOLT_POOL_LOW] s t) ∧
  (∀ (s : State) (port : Fin 16) (q : Fin 4096) (w : Word) (pk : List BWord), s.is fBOLT_Q_CFG_EN q.val = true → s.get
    fBOLT_Q_CFG_PROD q.val = port.val → s.domOn 5 = true → (s.queue q.val).opn = some pk → pk.length < 8192 → pk.any (fun b =>
    b.dmg) = false → ((s.queue q.val).off + (s.queue q.val).held) % 32 ≠ 0 ∨ s.mayTake q.val = true → ∃ t, exec (.packetWord port
    q w false true false) s = .next t ∧ (t.queue q.val).opn = none ∧ (t.queue q.val).words = (s.queue q.val).words ++ pk ++
    [BWord.mk w false true false] ∧ Only [aBOLT_POOL_LOW] s t) ∧
  (∀ (s : State) (port : Fin 16) (q : Fin 4096) (w : Word) (pk : List BWord), s.is fBOLT_Q_CFG_EN q.val = true → s.get
    fBOLT_Q_CFG_PROD q.val = port.val → s.domOn 5 = true → (s.queue q.val).opn = some pk → pk.length < 8192 → ((s.queue q.val).off
    + (s.queue q.val).held) % 32 ≠ 0 ∨ s.mayTake q.val = true → ∃ t, exec (.packetWord port q w false true true) s = .next t ∧
    (t.queue q.val).opn = none ∧ (t.queue q.val).words = (s.queue q.val).words ∧ t.is fBOLT_Q_STATUS_BAD_SEEN q.val = true ∧ Only
    [aBOLT_Q_STATUS + q.val, aBOLT_Q_COUNT + q.val] s t) ∧
  (∀ (s : State) (port : Fin 16) (q : Fin 4096) (w : Word) (eop bad : Bool), s.is fBOLT_Q_CFG_EN q.val = true → s.get
    fBOLT_Q_CFG_PROD q.val = port.val → s.domOn 5 = true → (s.queue q.val).opn = none → (s.queue q.val).ign = .none_ → exec
    (.packetWord port q w false eop bad) s = .next ((s.flag fBOLT_Q_STATUS_ORPHAN q.val).bump fBOLT_Q_COUNT_FLUSH_ORPHAN q.val)) ∧
  (∀ (s : State) (w : Word), s.is fBOLT_Q_CFG_EN (s.get fBOLT_PUSH_CTRL_QUEUE) = true → s.get fBOLT_Q_CFG_PROD (s.get
    fBOLT_PUSH_CTRL_QUEUE) = 4 → (s.queue (s.get fBOLT_PUSH_CTRL_QUEUE)).opn = none → ((s.queue (s.get fBOLT_PUSH_CTRL_QUEUE)).off
    + (s.queue (s.get fBOLT_PUSH_CTRL_QUEUE)).held) % 32 ≠ 0 ∨ s.mayTake (s.get fBOLT_PUSH_CTRL_QUEUE) = true → ∃ t, exec
    (.pushSop w) s = .next t ∧ (t.queue (s.get fBOLT_PUSH_CTRL_QUEUE)).opn = some [BWord.mk w true false false] ∧ (t.queue (s.get
    fBOLT_PUSH_CTRL_QUEUE)).words = (s.queue (s.get fBOLT_PUSH_CTRL_QUEUE)).words ∧ Only [aBOLT_POOL_LOW] s t) ∧
  (∀ (s : State) (w : Word), s.get fBOLT_Q_CFG_PROD (s.get fBOLT_PUSH_CTRL_QUEUE) ≠ 4 → exec (.pushSop w) s = .next (s.flag
    fBOLT_PUSH_CTRL_PUSH_ERR)) ∧
  (∀ (s : State) (w : Word), s.get fBOLT_Q_CFG_PROD (s.get fBOLT_PUSH_CTRL_QUEUE) ≠ 4 → exec (.pushSopEop w) s = .next (s.flag
    fBOLT_PUSH_CTRL_PUSH_ERR)) ∧
  (∀ (s : State) (w : Word), s.get fBOLT_Q_CFG_PROD (s.get fBOLT_PUSH_CTRL_QUEUE) ≠ 4 → exec (.pushMiddle w) s = .next (s.flag
    fBOLT_PUSH_CTRL_PUSH_ERR)) ∧
  (∀ (s : State) (w : Word), s.get fBOLT_Q_CFG_PROD (s.get fBOLT_PUSH_CTRL_QUEUE) ≠ 4 → exec (.pushEop w) s = .next (s.flag
    fBOLT_PUSH_CTRL_PUSH_ERR)) ∧
  (∀ (s : State) (w : Word), s.is fBOLT_Q_CFG_EN (s.get fBOLT_PUSH_CTRL_QUEUE) = true → s.get fBOLT_Q_CFG_PROD (s.get
    fBOLT_PUSH_CTRL_QUEUE) = 4 → (s.queue (s.get fBOLT_PUSH_CTRL_QUEUE)).opn = none → ((s.queue (s.get fBOLT_PUSH_CTRL_QUEUE)).off
    + (s.queue (s.get fBOLT_PUSH_CTRL_QUEUE)).held) % 32 ≠ 0 ∨ s.mayTake (s.get fBOLT_PUSH_CTRL_QUEUE) = true → ∃ t, exec
    (.pushSopEop w) s = .next t ∧ (t.queue (s.get fBOLT_PUSH_CTRL_QUEUE)).words = (s.queue (s.get fBOLT_PUSH_CTRL_QUEUE)).words ++
    [BWord.mk w true true false] ∧ Only [aBOLT_POOL_LOW] s t) ∧
  (∀ (s : State) (w : Word) (pk : List BWord), s.is fBOLT_Q_CFG_EN (s.get fBOLT_PUSH_CTRL_QUEUE) = true → s.get fBOLT_Q_CFG_PROD
    (s.get fBOLT_PUSH_CTRL_QUEUE) = 4 → (s.queue (s.get fBOLT_PUSH_CTRL_QUEUE)).opn = some pk → pk.length < 8192 → ((s.queue
    (s.get fBOLT_PUSH_CTRL_QUEUE)).off + (s.queue (s.get fBOLT_PUSH_CTRL_QUEUE)).held) % 32 ≠ 0 ∨ s.mayTake (s.get
    fBOLT_PUSH_CTRL_QUEUE) = true → ∃ t, exec (.pushMiddle w) s = .next t ∧ (t.queue (s.get fBOLT_PUSH_CTRL_QUEUE)).opn = some (pk
    ++ [BWord.mk w false false false]) ∧ Only [aBOLT_POOL_LOW] s t) ∧
  (∀ (s : State) (w : Word) (pk : List BWord), s.is fBOLT_Q_CFG_EN (s.get fBOLT_PUSH_CTRL_QUEUE) = true → s.get fBOLT_Q_CFG_PROD
    (s.get fBOLT_PUSH_CTRL_QUEUE) = 4 → (s.queue (s.get fBOLT_PUSH_CTRL_QUEUE)).opn = some pk → pk.length < 8192 → pk.any (fun b
    => b.dmg) = false → ((s.queue (s.get fBOLT_PUSH_CTRL_QUEUE)).off + (s.queue (s.get fBOLT_PUSH_CTRL_QUEUE)).held) % 32 ≠ 0 ∨
    s.mayTake (s.get fBOLT_PUSH_CTRL_QUEUE) = true → ∃ t, exec (.pushEop w) s = .next t ∧ (t.queue (s.get
    fBOLT_PUSH_CTRL_QUEUE)).words = (s.queue (s.get fBOLT_PUSH_CTRL_QUEUE)).words ++ pk ++ [BWord.mk w false true false] ∧
    (t.queue (s.get fBOLT_PUSH_CTRL_QUEUE)).opn = none ∧ Only [aBOLT_POOL_LOW] s t) ∧
  (∀ (s : State), s.get fBOLT_Q_CFG_PROD (s.get fBOLT_PUSH_CTRL_QUEUE) = 4 → (s.queue (s.get fBOLT_PUSH_CTRL_QUEUE)).opn ≠ none → ∃
    t, exec .pushBad s = .next t ∧ (t.queue (s.get fBOLT_PUSH_CTRL_QUEUE)).opn = none ∧ (t.queue (s.get
    fBOLT_PUSH_CTRL_QUEUE)).words = (s.queue (s.get fBOLT_PUSH_CTRL_QUEUE)).words ∧ t.is fBOLT_Q_STATUS_BAD_SEEN (s.get
    fBOLT_PUSH_CTRL_QUEUE) = true ∧ Only [aBOLT_Q_STATUS + s.get fBOLT_PUSH_CTRL_QUEUE, aBOLT_Q_COUNT + s.get
    fBOLT_PUSH_CTRL_QUEUE] s t) ∧
  (∀ (s : State), s.get fBOLT_Q_CFG_PROD (s.get fBOLT_PUSH_CTRL_QUEUE) ≠ 4 ∨ (s.queue (s.get fBOLT_PUSH_CTRL_QUEUE)).opn = none →
    exec .pushBad s = .next s)

/-- A pop removes one committed word and shows its marks, a wrong queue sets POP_ERR, a flush empties its queue, and consumers read in turn.
POP_READ of an enabled REGISTER queue with a committed word that shows at its port puts it in BOLT_POP_DATA, takes it from the queue and
shows its marks; of a queue with no committed word, or with none that shows, it returns the idle item with LAST_EMPTY and changes no queue;
of any other queue it returns the idle item, sets POP_ERR and leaves LAST_EMPTY clear. FLUSH leaves no committed word and no open packet and
sets FLUSHED, for every queue number. BOLT_SCRUB_PASS with SCRUB_EN and PD_BOLT on and no pass running: with resource 28 held by another
activity SCRUB_WAIT is set alone, with it free BUSY is set, SCRUB_WAIT clears and the pass starts; of a running pass with no uncorrectable
word, within 80 mt, BUSY clears and PASS_DONE is set. CONSUMER_READ with PD_BOLT off changes nothing. With no double-bit error: port 5 takes
the first packet of the queue it chooses and sends its words; the host port, running and with no Ethernet personality, takes it to the ring
of CONS_SEL where its record fits. (Derived from R371, R373, R375, R385.) -/
def Obligations.BoltReadsAndFlushes : Prop :=
  (∀ (s : State) (dbe : Bool), s.get fBOLT_Q_CFG_CONS (s.get fBOLT_POP_CTRL_QUEUE) ≠ 0 ∨ s.is fBOLT_Q_CFG_EN (s.get
    fBOLT_POP_CTRL_QUEUE) = false → exec (.popRead dbe) s = .next (((s.flag fBOLT_POP_CTRL_POP_ERR).unflag
    fBOLT_POP_CTRL_LAST_EMPTY).setWord aBOLT_POP_DATA idleItem)) ∧
  (∀ (s : State) (dbe : Bool), s.get fBOLT_Q_CFG_CONS (s.get fBOLT_POP_CTRL_QUEUE) = 0 → s.is fBOLT_Q_CFG_EN (s.get
    fBOLT_POP_CTRL_QUEUE) = true → (s.queue (s.get fBOLT_POP_CTRL_QUEUE)).words = [] → ∃ t, exec (.popRead dbe) s = .next t ∧
    t.word aBOLT_POP_DATA = idleItem ∧ t.is fBOLT_POP_CTRL_LAST_EMPTY = true ∧ t.is fBOLT_POP_CTRL_LAST_SOP = false ∧ t.is
    fBOLT_POP_CTRL_LAST_EOP = false ∧ Only [aBOLT_POP_DATA, aBOLT_POP_CTRL] s t ∧ t.queues = s.queues) ∧
  (∀ (s : State), s.get fBOLT_Q_CFG_CONS (s.get fBOLT_POP_CTRL_QUEUE) = 0 → s.is fBOLT_Q_CFG_EN (s.get fBOLT_POP_CTRL_QUEUE) = true
    → s.visible (s.queue (s.get fBOLT_POP_CTRL_QUEUE)) = 0 → ∃ t, exec (.popRead false) s = .next t ∧ t.word aBOLT_POP_DATA =
    idleItem ∧ t.is fBOLT_POP_CTRL_LAST_EMPTY = true ∧ Only [aBOLT_POP_DATA, aBOLT_POP_CTRL] s t ∧ t.queues = s.queues) ∧
  (∀ (s : State) (b : BWord) (l : List BWord), s.get fBOLT_Q_CFG_CONS (s.get fBOLT_POP_CTRL_QUEUE) = 0 → s.is fBOLT_Q_CFG_EN (s.get
    fBOLT_POP_CTRL_QUEUE) = true → (s.queue (s.get fBOLT_POP_CTRL_QUEUE)).words = b :: l → s.visible (s.queue (s.get
    fBOLT_POP_CTRL_QUEUE)) ≠ 0 → ∃ t, exec (.popRead false) s = .next t ∧ t.word aBOLT_POP_DATA = b.w ∧ t.is
    fBOLT_POP_CTRL_LAST_EMPTY = false ∧ t.is fBOLT_POP_CTRL_LAST_SOP = b.sop ∧ t.is fBOLT_POP_CTRL_LAST_EOP = b.eop ∧ t.is
    fBOLT_POP_CTRL_LAST_DAMAGED = b.dmg ∧ (t.queue (s.get fBOLT_POP_CTRL_QUEUE)).words = l ∧ Only [aBOLT_POP_DATA, aBOLT_POP_CTRL]
    s t) ∧
  (∀ (s : State) (q : Fin 4096), ∃ t, exec (.flush q) s = .next t ∧ (t.queue q.val).words = [] ∧ (t.queue q.val).opn = none ∧ t.is
    fBOLT_Q_STATUS_FLUSHED q.val = true) ∧
  (∀ (s : State) (sbe : Nat) (dbes : List (Option (Nat × Nat))), s.is fBOLT_SCRUB_STATUS_BUSY = false → s.is fBOLT_CFG_SCRUB_EN =
    true → s.domOn 5 = true → s.resFree 28 true = false → exec (.boltScrubPass sbe dbes) s = .next (s.flag
    fBOLT_SCRUB_STATUS_SCRUB_WAIT)) ∧
  (∀ (s : State) (sbe : Nat) (dbes : List (Option (Nat × Nat))), s.is fBOLT_SCRUB_STATUS_BUSY = false → s.is fBOLT_CFG_SCRUB_EN =
    true → s.domOn 5 = true → s.resFree 28 true = true → ∃ t, exec (.boltScrubPass sbe dbes) s = .next t ∧ t.is
    fBOLT_SCRUB_STATUS_BUSY = true ∧ t.is fBOLT_SCRUB_STATUS_SCRUB_WAIT = false ∧ t.boltMt = 0) ∧
  (∀ (s : State) (sbe : Nat), s.is fBOLT_SCRUB_STATUS_BUSY = true → s.boltMt ≤ 80 → ∃ t, exec (.boltScrubPass sbe []) s = .next t ∧
    t.is fBOLT_SCRUB_STATUS_BUSY = false ∧ t.is fBOLT_SCRUB_STATUS_PASS_DONE = true) ∧
  (∀ (s : State) (c : Fin 6) (dbe : List (Fin 8192)), s.domOn 5 = false → exec (.consumerRead c dbe) s = .next s) ∧
  (∀ (s : State) (q : Nat), s.domOn 5 = true → s.choose 5 = some q → exec (.consumerRead 5 []) s = .next
    ((({ s with served := putKey 0 s.served 5 q } : State).popN q (firstPacket (s.queue q).words).length).send (.words 5
    ((firstPacket (s.queue q).words).map (fun b => b.w))))) ∧
  (∀ (s : State) (q : Nat), s.consumerRuns 1 = true → s.choose 1 = some q → s.ethPers = false → s.ringFits (s.get
    fBOLT_Q_CFG_CONS_SEL q) (8 + payBytes (firstPacket (s.queue q).words).length) = true → exec (.consumerRead 1 []) s = .next
    ((({ s with served := putKey 0 s.served 1 q } : State).popN q (firstPacket (s.queue q).words).length).ringWrite (s.get
    fBOLT_Q_CFG_CONS_SEL q) (recordBytes q true true false ((firstPacket (s.queue q).words).any (fun b => b.dmg)) ((firstPacket
    (s.queue q).words).map (fun b => b.w)))))

/-- A chain port trains, comes up sending HELLO, takes its neighbour's HELLO or a cable error, gains credit and falls back when lost.
PORT_TRAIN of an enabled DOWN port of a chained device makes it TRAIN (1); otherwise it changes nothing. PORT_UP of a member's training port
that LINK_DROP does not hold makes it UP (2) with credit for 32 768 words and no HELLO accepted, and changes no other register word; in
another state it changes nothing. HELLO_TIMER of an UP port of a chained device that LINK_DROP does not hold sends one HELLO with its count,
its address and its signature and changes no register; of another port it changes nothing. HELLO at an UP port of a chained device: one with
a bad CRC-32C counts in CRC_ERRS, one of a wrong length in FRAME_ERRS; one that names its own side sets CABLE_ERR with no HELLO accepted;
one of the same neighbour at a port that has heard it, with no frame waiting, keeps the port and takes the neighbour's address. CREDIT at an
UP port adds 32 words a block and lets waiting frames leave; at another it changes nothing. PORT_LOSS of an UP port of an open chain: STATE
0, LOSS, its path invalid, no HELLO accepted and no frame waiting; of a port that is not UP it changes nothing. (Derived from R413, R414,
R415, R421, R446.) -/
def Obligations.ChainPorts : Prop :=
  (∀ (s : State) (p : Fin 2), s.chained = true → s.portEn p.val = true → s.get fCHAIN_LINK_STATUS_STATE p.val = 0 → ∃ t, exec
    (.portTrain p) s = .next t ∧ t.get fCHAIN_LINK_STATUS_STATE p.val = 1) ∧
  (∀ (s : State) (p : Fin 2), s.chained = false ∨ s.portEn p.val = false ∨ s.get fCHAIN_LINK_STATUS_STATE p.val ≠ 0 → exec
    (.portTrain p) s = .next s) ∧
  (∀ (s : State) (p : Fin 2), s.get fCHAIN_LINK_STATUS_STATE p.val = 1 → s.isHead = false → p.val < s.chain.ports.length →
    s.linkDrop p.val = false → ∃ t, exec (.portUp p) s = .next t ∧ t.get fCHAIN_LINK_STATUS_STATE p.val = 2 ∧ (t.port
    p.val).credit = 32768 ∧ (t.port p.val).heard = false ∧ Only [aCHAIN_LINK_STATUS + p.val] s t) ∧
  (∀ (s : State) (p : Fin 2), s.get fCHAIN_LINK_STATUS_STATE p.val ≠ 1 → exec (.portUp p) s = .next s) ∧
  (∀ (s : State) (p : Fin 2), s.chained = true → s.portUp p.val = true → p.val < s.chain.ports.length → s.linkDrop p.val = false → ∃
    t, exec (.helloTimer p) s = .next t ∧ (t.port p.val).sent.getLast? = some (s.nowT, ChFrame.mk 5 0 s.addr 0 (s.port
    p.val).hello 0 [s.sig, BitVec.ofNat 36 (p.val * 2 ^ 35 + s.addr * 2 ^ 25 + b2n s.isHead * 2 ^ 24)]) ∧ t.regs = s.regs) ∧
  (∀ (s : State) (p : Fin 2), s.chained = false ∨ s.portUp p.val = false → exec (.helloTimer p) s = .next s) ∧
  (∀ (s : State) (p : Fin 2) (f : ChFrame) (crc : Fin (2 ^ 32)), s.chained = true → s.portUp p.val = true → f.typ = 5 → f.arg = 0 →
    frCrcOk f crc.val = true → frLenOk f = true → getBits (f.words.getD 1 0) 35 1 = p.val → p.val < s.chain.ports.length → ∃ t,
    exec (.hello p f crc) s = .next t ∧ t.is fCHAIN_LINK_STATUS_CABLE_ERR p.val = true ∧ (t.port p.val).heard = false ∧ Only
    [aCHAIN_LINK_STATUS + p.val] s t) ∧
  (∀ (s : State) (p : Fin 2) (f : ChFrame) (crc : Fin (2 ^ 32)), s.chained = true → s.portUp p.val = true → f.typ = 5 → f.arg = 0 →
    frCrcOk f crc.val = true → frLenOk f = true → getBits (f.words.getD 1 0) 35 1 ≠ p.val → (s.port p.val).heard = true → (s.port
    p.val).waiting = [] → f.words.getD 0 0 = s.word (aCHAIN_NBR_SIG + p.val) → exec (.hello p f crc) s = .next ((s.setPort p.val
    { s.port p.val with heard := true }).put fCHAIN_PATH_NBR_ADDR (getBits (f.words.getD 1 0) 25 10) p.val)) ∧
  (∀ (s : State) (p : Fin 2) (f : ChFrame) (crc : Fin (2 ^ 32)), s.chained = true → s.portUp p.val = true → f.typ = 5 → f.arg = 0 →
    frCrcOk f crc.val = false → exec (.hello p f crc) s = .next (s.bump fCHAIN_LINK_STATUS_CRC_ERRS p.val)) ∧
  (∀ (s : State) (p : Fin 2) (f : ChFrame) (crc : Fin (2 ^ 32)), s.chained = true → s.portUp p.val = true → f.typ = 5 → f.arg = 0 →
    frCrcOk f crc.val = true → frLenOk f = false → exec (.hello p f crc) s = .next (s.bump fCHAIN_COUNT_FRAME_ERRS)) ∧
  (∀ (s : State) (p : Fin 2) (n : Fin 65536), s.portUp p.val = false → exec (.credit p n) s = .next s) ∧
  (∀ (s : State) (p : Fin 2) (n : Fin 65536), s.portUp p.val = true → exec (.credit p n) s = .next ((s.setPort p.val
    { s.port p.val with credit := (s.port p.val).credit + 32 * n.val }).drainPort p.val (s.port p.val).waiting.length)) ∧
  (∀ (s : State) (p : Fin 2), s.portUp p.val = true → s.ring = false → p.val < s.chain.ports.length → ∃ t, exec (.portLoss p) s =
    .next t ∧ t.get fCHAIN_LINK_STATUS_STATE p.val = 0 ∧ t.is fCHAIN_LINK_STATUS_LOSS p.val = true ∧ t.is fCHAIN_THETA_VALID p.val
    = false ∧ (t.port p.val).heard = false ∧ (t.port p.val).waiting = []) ∧
  (∀ (s : State) (p : Fin 2), s.portUp p.val = false → exec (.portLoss p) s = .next s)

/-- Time exchanges keep their stamps and delay, an ACQUIRE step lands on the head's time, and announcements carry GEN, length and plan.
TIME_EXCHANGE_TIMER of an UP port of a chained device that has heard its neighbour and that LINK_DROP does not hold sends a TIME frame of
six words with the port's count, advances the count, and keeps its departure stamp among the last four; no register changes. A TIME frame
with a good CRC at the head, whose neighbour stamps are in sequence and whose departure it knows, gives LINK_DELAY as half the sum of the
two one-way differences (36 bits, saturated). CHAIN_STEP of a member in ACQUIRE with a servo input, a quiescent edge plane and lock steps
the timebase by it in whole wc, halves up, and clears STEP_WAIT; without a servo input, outside ACQUIRE, at the head, not quiescent or
unlocked it changes nothing. ANNOUNCE_TIMER at the head takes one SEQ and changes no register, and changes nothing at a member. The first
copy of a broadcast ANNOUNCE at a member that hears the port: with another plan it sets PLAN_ERR, goes to time state 0 and takes GEN; with
the own plan it clears PLAN_ERR and takes GEN, CHAIN_LEN and RING_OK. (Derived from R429, R431, R434, R435, R436.) -/
def Obligations.ChainTime : Prop :=
  (∀ (s : State) (p : Fin 2) (dep : Nat), s.chained = true → s.portUp p.val = true → (s.port p.val).heard = true → p.val <
    s.chain.ports.length → s.linkDrop p.val = false → ∃ t, exec (.timeExchangeTimer p dep) s = .next t ∧ (t.port p.val).deps =
    (((s.port p.val).seq, dep % tMod) :: (s.port p.val).deps).take 4 ∧ (t.port p.val).seq = ((s.port p.val).seq + 1) % 4096 ∧
    (t.port p.val).sent.getLast?.map (fun (e : Nat × ChFrame) => (e.1, e.2.typ, e.2.seq, e.2.words.length)) = some (s.nowT, 1,
    (s.port p.val).seq, 6) ∧ t.regs = s.regs) ∧
  (∀ (s : State) (p : Fin 2) (f : ChFrame) (crc : Fin (2 ^ 32)) (arr : Nat) (n t2 t3 : Nat), s.chained = true → s.portUp p.val =
    true → (s.port p.val).heard = true → f.typ = 1 → frCrcOk f crc.val = true → frLenOk f = true → s.isHead = true → (s.port
    p.val).arr = some (n, t2) → (n + 1) % 4096 = f.seq % 4096 → ((s.port p.val).deps.find? (fun e => e.1 == getBits (f.words.getD
    4 0) 24 12)).map (fun e => e.2) = some t3 → ∃ t, exec (.time p f crc arr) s = .next t ∧ t.get fCHAIN_LINK_DELAY_DELAY p.val =
    satU 36 ((tDiff t2 (tsOf (f.words.getD 0 0) (f.words.getD 1 0)) + tDiff (tsOf (f.words.getD 2 0) (f.words.getD 3 0)) t3) /
    2).toNat) ∧
  (∀ (s : State) (th : Rat), s.theta? = some th → s.tstate = 1 → s.isHead = false → s.quiescent = true → s.unlocked = false → ∃ t,
    exec .chainStep s = .next t ∧ t.is fCHAIN_STATUS_STEP_WAIT = false ∧ t.now = (((s.now : Int) - ⌊th / 1024 + 1 / 2⌋) % 2 ^
    62).toNat) ∧
  (∀ (s : State), s.theta? = none ∨ s.tstate ≠ 1 ∨ s.isHead = true ∨ s.quiescent = false ∨ s.unlocked = true → exec .chainStep s =
    .next s) ∧
  (∀ (s : State), s.isHead = true → ∃ t, exec .announceTimer s = .next t ∧ t.regs = s.regs ∧ t.chain.seq = (s.chain.seq + 1) % 4096) ∧
  (∀ (s : State), s.isHead = false → exec .announceTimer s = .next s) ∧
  (∀ (s : State) (p : Fin 2) (f : ChFrame) (crc : Fin (2 ^ 32)), s.chained = true → s.portUp p.val = true → (s.port p.val).heard =
    true → f.typ = 2 → frCrcOk f crc.val = true → frLenOk f = true → f.arg = 0 → f.dst = 1023 → s.seenFrame f = false → s.isHead =
    false → f.words.getD 1 0 ≠ s.word aTB_WC_PER_MT → ∃ t, exec (.announce p f crc) s = .next t ∧ t.is fCHAIN_STATUS_PLAN_ERR =
    true ∧ t.get fCHAIN_STATUS_TSTATE = 0 ∧ t.get fCHAIN_STATUS_GEN = getBits (f.words.getD 0 0) 14 12) ∧
  (∀ (s : State) (p : Fin 2) (f : ChFrame) (crc : Fin (2 ^ 32)), s.chained = true → s.portUp p.val = true → (s.port p.val).heard =
    true → f.typ = 2 → frCrcOk f crc.val = true → frLenOk f = true → f.arg = 0 → f.dst = 1023 → s.seenFrame f = false → s.isHead =
    false → f.words.getD 1 0 = s.word aTB_WC_PER_MT → ∃ t, exec (.announce p f crc) s = .next t ∧ t.is fCHAIN_STATUS_PLAN_ERR =
    false ∧ t.get fCHAIN_STATUS_GEN = getBits (f.words.getD 0 0) 14 12 ∧ t.get fCHAIN_ADDR_CHAIN_LEN = getBits (f.words.getD 0 0)
    26 10 ∧ t.get fCHAIN_STATUS_RING_OK = getBits (f.words.getD 0 0) 13 1)

/-- A broken link is marked and healed on its first copy, and enumeration walks, times out and assigns. At a port that hears its neighbour,
for the first copy of a broadcast with a good CRC: BREAK of a link not known as broken sets BREAK_SEEN and FAILOVER, clears RING_OK and
marks the link; HEAL of the one broken link clears FAILOVER, sets RING_OK and leaves none broken; JOIN makes a head that runs no walk, with
no cable error, start one (BUSY), and a member sends it on. HEAL_HOLD_EXPIRY of an UP port whose hold is over ends the hold and takes its
link off the broken ones; of a port without a hold, or with one not over, it changes nothing. ENUM_GO on a member is refused with ERR 4, at
a head that runs a walk it changes nothing, with a cable error it ends with ERR 2 and no walk, and otherwise, with a port UP, a walk starts
with ERR 0. WALK with a bad CRC is counted and its buffer freed; an outgoing one with a good CRC at a member with the other port UP leaves
there with the device's entry added. WALK_TIMEOUT ends a walk with ERR 5, and changes nothing without one. ASSIGN, as a first copy with a
good CRC, gives the device named by its signature its address, position and CHAIN_LEN, PLACED and the retained address; a device it does not
name has address 0x3FE and is not placed. (Derived from R424, R425, R426, R428, R446, R448.) -/
def Obligations.ChainLinksAndEnumeration : Prop :=
  (∀ (s : State) (p : Fin 2) (f : ChFrame) (crc : Fin (2 ^ 32)), s.chained = true → s.portUp p.val = true → (s.port p.val).heard =
    true → f.typ = 2 → frCrcOk f crc.val = true → frLenOk f = true → f.arg = 1 → f.dst = 1023 → s.seenFrame f = false →
    s.chain.broken.contains (linkOf f) = false → ∃ t, exec (.break p f crc) s = .next t ∧ t.is fCHAIN_STATUS_BREAK_SEEN = true ∧
    t.is fCHAIN_STATUS_FAILOVER = true ∧ t.is fCHAIN_STATUS_RING_OK = false ∧ t.chain.broken = s.chain.broken ++ [linkOf f]) ∧
  (∀ (s : State) (p : Fin 2) (f : ChFrame) (crc : Fin (2 ^ 32)), s.chained = true → s.portUp p.val = true → (s.port p.val).heard =
    true → f.typ = 2 → frCrcOk f crc.val = true → frLenOk f = true → f.arg = 2 → f.dst = 1023 → s.seenFrame f = false →
    s.chain.broken = [linkOf f] → ∃ t, exec (.heal p f crc) s = .next t ∧ t.is fCHAIN_STATUS_FAILOVER = false ∧ t.is
    fCHAIN_STATUS_RING_OK = true ∧ t.chain.broken = []) ∧
  (∀ (s : State) (p : Fin 2), (s.port p.val).heal = none ∨ s.portUp p.val = false → exec (.healHoldExpiry p) s = .next s) ∧
  (∀ (s : State) (p : Fin 2) (n : Nat), (s.port p.val).heal = some n → n < s.get fCHAIN_TT_CFG_HEAL_HOLD → exec (.healHoldExpiry p)
    s = .next s) ∧
  (∀ (s : State) (p : Fin 2) (n : Nat), (s.port p.val).heal = some n → s.get fCHAIN_TT_CFG_HEAL_HOLD ≤ n → s.portUp p.val = true →
    p.val < s.chain.ports.length → ∃ t, exec (.healHoldExpiry p) s = .next t ∧ (t.port p.val).heal = none ∧ t.chain.broken =
    s.chain.broken.erase (s.linkAt p.val)) ∧
  (∀ (s : State) (p : Fin 2) (f : ChFrame) (crc : Fin (2 ^ 32)), s.chained = true → s.portUp p.val = true → (s.port p.val).heard =
    true → f.typ = 2 → frCrcOk f crc.val = true → frLenOk f = true → f.arg = 3 → f.dst = 1023 → s.seenFrame f = false → s.isHead =
    true → s.is fCHAIN_ENUM_CMD_BUSY = false → s.is fCHAIN_LINK_STATUS_CABLE_ERR 0 = false → s.is fCHAIN_LINK_STATUS_CABLE_ERR 1 =
    false → ∃ t, exec (.join p f crc) s = .next t ∧ t.is fCHAIN_ENUM_CMD_BUSY = true ∧ t.chain.walk ≠ none) ∧
  (∀ (s : State) (p : Fin 2) (f : ChFrame) (crc : Fin (2 ^ 32)), s.chained = true → s.portUp p.val = true → (s.port p.val).heard =
    true → f.typ = 2 → frCrcOk f crc.val = true → frLenOk f = true → f.arg = 3 → f.dst = 1023 → s.seenFrame f = false → s.isHead =
    false → exec (.join p f crc) s = .next ((s.noteFrame f).forward (1 - p.val) f)) ∧
  (∀ (s : State), s.isHead = false → exec .enumGo s = .next (s.put fCHAIN_ENUM_CMD_ERR 4)) ∧
  (∀ (s : State), s.isHead = true → s.is fCHAIN_ENUM_CMD_BUSY = true → exec .enumGo s = .next s) ∧
  (∀ (s : State), s.isHead = true → s.is fCHAIN_ENUM_CMD_BUSY = false → s.is fCHAIN_LINK_STATUS_CABLE_ERR 1 = true → ∃ t, exec
    .enumGo s = .next t ∧ t.get fCHAIN_ENUM_CMD_ERR = 2 ∧ t.is fCHAIN_ENUM_CMD_BUSY = false ∧ t.chain.walk = none) ∧
  (∀ (s : State), s.isHead = true → s.is fCHAIN_ENUM_CMD_BUSY = false → s.is fCHAIN_LINK_STATUS_CABLE_ERR 0 = false → s.is
    fCHAIN_LINK_STATUS_CABLE_ERR 1 = false → s.portUp 0 = true ∨ s.portUp 1 = true → ∃ t, exec .enumGo s = .next t ∧ t.is
    fCHAIN_ENUM_CMD_BUSY = true ∧ t.get fCHAIN_ENUM_CMD_ERR = 0 ∧ t.chain.walk ≠ none) ∧
  (∀ (s : State) (p : Fin 2) (f : ChFrame) (crc : Fin (2 ^ 32)), s.chained = true → s.portUp p.val = true → (s.port p.val).heard =
    true → f.typ = 5 → f.arg = 1 → frCrcOk f crc.val = false → exec (.walk p f crc) s = .next ((s.bump fCHAIN_LINK_STATUS_CRC_ERRS
    p.val).freeBuf (some p.val) f)) ∧
  (∀ (s : State) (p : Fin 2) (f : ChFrame) (crc : Fin (2 ^ 32)), s.chained = true → s.portUp p.val = true → (s.port p.val).heard =
    true → f.typ = 5 → frCrcOk f crc.val = true → frLenOk f = true → f.arg = 1 → f.dst = 1023 → s.isHead = false → s.portUp (1 -
    p.val) = true → exec (.walk p f crc) s = .next ((s.freeBuf (some p.val) f).walkOn (1 - p.val)
    { f with words := f.words ++ s.walkEntry })) ∧
  (∀ (s : State), s.chain.walk ≠ none → ∃ t, exec .walkTimeout s = .next t ∧ t.get fCHAIN_ENUM_CMD_ERR = 5 ∧ t.is
    fCHAIN_ENUM_CMD_BUSY = false ∧ t.chain.walk = none ∧ Only [aCHAIN_ENUM_CMD] s t) ∧
  (∀ (s : State), s.chain.walk = none → exec .walkTimeout s = .next s) ∧
  (∀ (s : State) (p : Fin 2) (f : ChFrame) (crc : Fin (2 ^ 32)) (e : Word × Word), s.chained = true → s.portUp p.val = true →
    (s.port p.val).heard = true → f.typ = 5 → frCrcOk f crc.val = true → frLenOk f = true → f.arg = 2 → f.dst = 1023 → s.seenFrame
    f = false → (pairs (f.words.drop 1)).find? (fun e => e.1 == s.sig) = some e → ∃ t, exec (.assign p f crc) s = .next t ∧ t.get
    fCHAIN_ADDR_ADDR = getBits e.2 26 10 ∧ t.get fCHAIN_ADDR_POS = getBits e.2 16 10 ∧ t.get fCHAIN_ADDR_CHAIN_LEN = getBits
    (f.words.getD 0 0) 26 10 ∧ t.is fCHAIN_ADDR_PLACED = true ∧ t.chain.aonAddr = getBits e.2 26 10) ∧
  (∀ (s : State) (p : Fin 2) (f : ChFrame) (crc : Fin (2 ^ 32)), s.chained = true → s.portUp p.val = true → (s.port p.val).heard =
    true → f.typ = 5 → frCrcOk f crc.val = true → frLenOk f = true → f.arg = 2 → f.dst = 1023 → s.seenFrame f = false → (pairs
    (f.words.drop 1)).find? (fun e => e.1 == s.sig) = none → ∃ t, exec (.assign p f crc) s = .next t ∧ t.get fCHAIN_ADDR_ADDR =
    0x3FE ∧ t.is fCHAIN_ADDR_PLACED = false)

/-- Trigger, register and data frames for this device act here; a damaged or odd frame is only counted; modules take one byte access. At a
port that hears its neighbour, frames with a good CRC and length for this placed device: TRIG in an open chain becomes a due-time command of
source 4; REG_WR without REPL or ACK writes its words from its address on; REG_RD reads them and answers with its STATUS; REG_RSP without a
waiting access changes nothing but the buffer, and with status 0 for a window read completes it; DATA not marked damaged enters the queue of
its TAG's entry; each frees the buffer it took (State.freeBuf). A REG_WR for this device with a bad CRC is counted in CRC_ERRS. A frame
whose LEN breaks its type's rule or of no used type counts in FRAME_ERRS, and one of a store-forward type (4 to 9) frees the buffer it took.
CHAIN_TRIG_GO without a chain keeps its fields and changes nothing else; for this placed device itself it sends the due-time command with
the due time of CHAIN_TRIG_LO and HI and takes one SEQ. MODULE_READ and MODULE_WRITE keep their byte and set BUSY; MODULE_ACCESS_DONE of a
busy port clears BUSY, with the byte of a read, or NACK where the module did not acknowledge; of a port that is not busy it changes nothing.
(Derived from R417, R422, R438, R439, R441, R443, R450, R462.) -/
def Obligations.ChainFramesDelivered : Prop :=
  (∀ (s : State) (p : Fin 2) (f : ChFrame) (crc : Fin (2 ^ 32)), s.chained = true → s.portUp p.val = true → (s.port p.val).heard =
    true → f.typ = 3 → frCrcOk f crc.val = true → frLenOk f = true → s.placed = true → f.dst = s.addr → f.dst ≠ 1023 → s.ring =
    false → exec (.trig p f crc) s = .next ((s.sendDue (trigCmd f.words)).freeBuf (some p.val) f)) ∧
  (∀ (s : State) (dst : Fin 1024) (dline : Fin 64) (action : Fin 16) (group : Fin 256), s.chained = false → ∃ t, exec (.chainTrigGo
    dst dline action group) s = .next t ∧ t.get fCHAIN_TRIG_CTRL_DST = dst.val ∧ t.get fCHAIN_TRIG_CTRL_DLINE = dline.val ∧ t.get
    fCHAIN_TRIG_CTRL_ACTION = action.val ∧ t.get fCHAIN_TRIG_CTRL_GROUP = group.val ∧ Only [aCHAIN_TRIG_CTRL] s t ∧ RegsOnly s t) ∧
  (∀ (s : State) (dst : Fin 1024) (dline : Fin 64) (action : Fin 16) (group : Fin 256), s.chained = true → s.placed = true → dst.val
    = s.addr → dst.val ≠ 1023 → exec (.chainTrigGo dst dline action group) s = .next
    (({ ((((s.put fCHAIN_TRIG_CTRL_DST dst.val).put fCHAIN_TRIG_CTRL_DLINE dline.val).put fCHAIN_TRIG_CTRL_ACTION action.val).put fCHAIN_TRIG_CTRL_GROUP group.val) with chain := { s.chain with seq := (s.chain.seq + 1) % 4096 } }
    : State).sendDue (trigCmd [tsLo (tsOf (s.word aCHAIN_TRIG_LO) (s.word aCHAIN_TRIG_HI)), tsHi (tsOf (s.word aCHAIN_TRIG_LO)
    (s.word aCHAIN_TRIG_HI)), BitVec.ofNat 36 (dline.val * 2 ^ 30 + action.val * 2 ^ 26 + group.val * 2 ^ 18)]))) ∧
  (∀ (s : State) (p : Fin 2) (f : ChFrame) (crc : Fin (2 ^ 32)), s.chained = true → s.portUp p.val = true → (s.port p.val).heard =
    true → f.typ = 6 → frCrcOk f crc.val = true → frLenOk f = true → s.placed = true → f.dst = s.addr → f.dst ≠ 1023 →
    s.frameWaits f = false → bitOf (f.words.getD 0 0) 11 = false → bitOf (f.words.getD 0 0) 10 = false → exec (.regWr p f crc) s =
    .next ((s.writeRun 4 (getBits (f.words.getD 0 0) 12 24) (f.words.drop 1)).1.freeBuf (some p.val) f)) ∧
  (∀ (s : State) (p : Fin 2) (f : ChFrame) (crc : Fin (2 ^ 32)), s.chained = true → s.portUp p.val = true → (s.port p.val).heard =
    true → f.typ = 7 → frCrcOk f crc.val = true → frLenOk f = true → s.placed = true → f.dst = s.addr → f.dst ≠ 1023 →
    s.frameWaits f = false → exec (.regRd p f crc) s = .next (((s.readRun 4 (getBits (f.words.getD 0 0) 12 24) (getBits
    (f.words.getD 0 0) 0 12 + 1)).2.1.sendRsp f (if (s.readRun 4 (getBits (f.words.getD 0 0) 12 24) (getBits (f.words.getD 0 0) 0
    12 + 1)).2.2 then 0 else 1) (s.readRun 4 (getBits (f.words.getD 0 0) 12 24) (getBits (f.words.getD 0 0) 0 12 + 1)).1).freeBuf
    (some p.val) f)) ∧
  (∀ (s : State) (p : Fin 2) (f : ChFrame) (crc : Fin (2 ^ 32)), s.chained = true → s.portUp p.val = true → (s.port p.val).heard =
    true → f.typ = 8 → frCrcOk f crc.val = true → frLenOk f = true → s.placed = true → f.dst = s.addr → f.dst ≠ 1023 →
    s.host.waits.find? (fun x => x.seq == getBits (f.words.getD 0 0) 24 12) = none → exec (.regRsp p f crc) s = .next (s.freeBuf
    (some p.val) f)) ∧
  (∀ (s : State) (p : Fin 2) (f : ChFrame) (crc : Fin (2 ^ 32)) (y : RemoteWait), s.chained = true → s.portUp p.val = true → (s.port
    p.val).heard = true → f.typ = 8 → frCrcOk f crc.val = true → frLenOk f = true → s.placed = true → f.dst = s.addr → f.dst ≠
    1023 → s.host.waits.find? (fun x => x.seq == getBits (f.words.getD 0 0) 24 12) = some y → getBits (f.words.getD 0 0) 20 4 = 0
    → y.eth = none → y.write = false → exec (.regRsp p f crc) s = .next
    (({ s with host := { s.host with waits := s.host.waits.erase y } } : State).send (.bar (slotHalf y.half ((f.words.drop 1).getD
    0 0).toNat)) |>.freeBuf (some p.val) f)) ∧
  (∀ (s : State) (p : Fin 2) (f : ChFrame) (crc : Fin (2 ^ 32)), s.chained = true → s.portUp p.val = true → (s.port p.val).heard =
    true → f.typ = 9 → frCrcOk f crc.val = true → frLenOk f = true → s.placed = true → f.dst = s.addr → f.dst ≠ 1023 →
    f.arg.testBit 3 = false → s.is fCHAIN_RXMAP_EN (f.arg / 16 % 64) = true → exec (.data p f crc) s = .next ((s.packet (s.get
    fCHAIN_RXMAP_QUEUE (f.arg / 16 % 64)) f.words).1.freeBuf (some p.val) f)) ∧
  (∀ (s : State) (p : Fin 2) (f : ChFrame) (crc : Fin (2 ^ 32)), s.frameWaits f = false → s.chained = true → s.portUp p.val = true →
    (s.port p.val).heard = true → f.typ = 6 → frCrcOk f crc.val = false → exec (.regWr p f crc) s = .next ((s.bump
    fCHAIN_LINK_STATUS_CRC_ERRS p.val).freeBuf (some p.val) f)) ∧
  (∀ (s : State) (p : Fin 2) (f : ChFrame), s.chained = true → s.portUp p.val = true → frLenOk f = false → 4 ≤ f.typ → f.typ ≤ 9 →
    exec (.frameTypeNotUsed p f) s = .next ((s.bump fCHAIN_COUNT_FRAME_ERRS).freeBuf (some p.val) f)) ∧
  (∀ (s : State) (p : Fin 2) (f : ChFrame), s.chained = true → s.portUp p.val = true → frLenOk f = false → f.typ < 4 ∨ 9 < f.typ →
    exec (.frameTypeNotUsed p f) s = .next (s.bump fCHAIN_COUNT_FRAME_ERRS)) ∧
  (∀ (s : State) (p : Fin 2) (page offset : Fin 256), ∃ t, exec (.moduleRead p page offset) s = .next t ∧ t.is fCHAIN_MOD_CTRL_BUSY
    p.val = true ∧ t.get fCHAIN_MOD_CTRL_RW p.val = 0 ∧ t.get fCHAIN_MOD_CTRL_PAGE p.val = page.val ∧ t.get fCHAIN_MOD_CTRL_OFFSET
    p.val = offset.val ∧ Only [aCHAIN_MOD_CTRL + p.val] s t) ∧
  (∀ (s : State) (p : Fin 2) (page offset data : Fin 256), ∃ t, exec (.moduleWrite p page offset data) s = .next t ∧ t.is
    fCHAIN_MOD_CTRL_BUSY p.val = true ∧ t.get fCHAIN_MOD_CTRL_RW p.val = 1 ∧ t.get fCHAIN_MOD_CTRL_PAGE p.val = page.val ∧ t.get
    fCHAIN_MOD_CTRL_OFFSET p.val = offset.val ∧ t.get fCHAIN_MOD_CTRL_DATA p.val = data.val ∧ Only [aCHAIN_MOD_CTRL + p.val] s t) ∧
  (∀ (s : State) (p : Fin 2) (data : Fin 256), s.is fCHAIN_MOD_CTRL_BUSY p.val = true → s.is fCHAIN_MOD_CTRL_RW p.val = false → exec
    (.moduleAccessDone p data true) s = .next ((s.unflag fCHAIN_MOD_CTRL_BUSY p.val).put fCHAIN_MOD_CTRL_DATA data.val p.val)) ∧
  (∀ (s : State) (p : Fin 2) (data : Fin 256), s.is fCHAIN_MOD_CTRL_BUSY p.val = true → exec (.moduleAccessDone p data false) s =
    .next ((s.unflag fCHAIN_MOD_CTRL_BUSY p.val).flag fCHAIN_MOD_CTRL_NACK p.val)) ∧
  (∀ (s : State) (p : Fin 2) (data : Fin 256) (ack : Bool), s.is fCHAIN_MOD_CTRL_BUSY p.val = false → exec (.moduleAccessDone p data
    ack) s = .next s)

/-- A register write or read by any path acts on its word; an unmapped word, a domain that is off and a wrong BAR size set ACC_ERR. By an
open path, with no reload of the window to wait for: REGISTER_WRITE (whole) of a mapped word writes it where its domain can be accessed
(State.writeAll) and sets ACC_ERR alone where not; of an unmapped word it sets ACC_ERR alone, or changes nothing on the chain's path; a BAR
write that is not a whole slot sets ACC_ERR alone. READ_CLEAR of a mapped word of an accessible domain takes the read's effect, clears its
RC fields and sends its value: the slot or a half of it on BAR0, the word on other paths; of a domain that is off it sets ACC_ERR and sends
0; of an unmapped word it sends 0 and sets ACC_ERR, on the chain's path not; a BAR read of size 3 sets ACC_ERR alone. Reading BOLT_POOL_LOW
starts LOW_FREE again at the free cells. By a path that is not open, or while the word must wait, both change nothing. SPI_WRITE writes its
run of words and SPI_READ reads and sends it (State.writeRun, State.readRun), and while a word of the run must wait both change nothing.
SPI_STATUS sends one status byte, takes a free value and changes no register and no queue. REGACC sends the result of the read before it,
and writes its word, or keeps the value of the word it reads of an accessible domain; while the word must wait it changes nothing. (Derived
from R9, R460, R461, R466, R468.) -/
def Obligations.RegisterAccess : Prop :=
  (∀ (s : State) (path : Fin 6) (a : Fin 16777216) (w : Word), s.pathOpen path.val = true → s.mustWait a.val = false → (regAt
    a.val).map (fun r => s.domAccess r.dom) = some true → exec (.registerWrite path a w true) s = .next (s.writeAll path.val a.val
    w)) ∧
  (∀ (s : State) (path : Fin 6) (a : Fin 16777216) (w : Word), s.pathOpen path.val = true → s.mustWait a.val = false → (regAt
    a.val).map (fun r => s.domAccess r.dom) = some false → exec (.registerWrite path a w true) s = .next (s.flag
    fHOST_STATUS_ACC_ERR)) ∧
  (∀ (s : State) (path : Fin 6) (a : Fin 16777216) (w : Word), s.pathOpen path.val = true → s.mustWait a.val = false → regAt a.val =
    none → path.val ≠ 4 → exec (.registerWrite path a w true) s = .next (s.flag fHOST_STATUS_ACC_ERR)) ∧
  (∀ (s : State) (a : Fin 16777216) (w : Word) (whole : Bool), s.mustWait a.val = false → regAt a.val = none → exec (.registerWrite
    4 a w whole) s = .next s) ∧
  (∀ (s : State) (a : Fin 16777216) (w : Word), s.pathOpen 0 = true → s.mustWait a.val = false → exec (.registerWrite 0 a w false) s
    = .next (s.flag fHOST_STATUS_ACC_ERR)) ∧
  (∀ (s : State) (path : Fin 6) (a : Fin 16777216) (w : Word) (whole : Bool), s.pathOpen path.val = false ∨ s.mustWait a.val = true
    → exec (.registerWrite path a w whole) s = .next s) ∧
  (∀ (s : State) (path : Fin 6) (a : Fin 16777216) (size : Fin 4), path.val ≠ 0 → s.pathOpen path.val = true → s.mustWait a.val =
    false → (regAt a.val).map (fun r => s.domAccess r.dom) = some true → exec (.readClear path a size) s = .next (((s.readEffect
    a.val).clearRc a.val).send (.words path.val [(s.readEffect a.val).readValue a.val]))) ∧
  (∀ (s : State) (a : Fin 16777216) (size : Fin 4), size.val ≠ 3 → s.pathOpen 0 = true → s.mustWait a.val = false → (regAt
    a.val).map (fun r => s.domAccess r.dom) = some true → exec (.readClear 0 a size) s = .next (((s.readEffect a.val).clearRc
    a.val).send (.bar (slotHalf size.val ((s.readEffect a.val).readValue a.val).toNat)))) ∧
  (∀ (s : State) (path : Fin 6) (a : Fin 16777216) (size : Fin 4), path.val ≠ 0 → s.pathOpen path.val = true → s.mustWait a.val =
    false → (regAt a.val).map (fun r => s.domAccess r.dom) = some false → exec (.readClear path a size) s = .next ((s.flag
    fHOST_STATUS_ACC_ERR).send (.words path.val [0]))) ∧
  (∀ (s : State) (a : Fin 16777216) (size : Fin 4), size.val ≠ 3 → s.pathOpen 0 = true → s.mustWait a.val = false → (regAt
    a.val).map (fun r => s.domAccess r.dom) = some false → exec (.readClear 0 a size) s = .next ((s.flag
    fHOST_STATUS_ACC_ERR).send (.bar 0))) ∧
  (∀ (s : State) (path : Fin 6) (a : Fin 16777216) (size : Fin 4), path.val ≠ 0 → path.val ≠ 4 → s.pathOpen path.val = true →
    s.mustWait a.val = false → regAt a.val = none → exec (.readClear path a size) s = .next ((s.flag fHOST_STATUS_ACC_ERR).send
    (.words path.val [0]))) ∧
  (∀ (s : State) (a : Fin 16777216) (size : Fin 4), s.mustWait a.val = false → regAt a.val = none → exec (.readClear 4 a size) s =
    .next (s.send (.words 4 [0]))) ∧
  (∀ (s : State) (a : Fin 16777216), s.pathOpen 0 = true → s.mustWait a.val = false → exec (.readClear 0 a 3) s = .next (s.flag
    fHOST_STATUS_ACC_ERR)) ∧
  (∀ (s : State) (a : Fin 16777216) (size : Fin 4), a.val = aBOLT_POOL_LOW → (regAt a.val).map (fun r => s.domAccess r.dom) = some
    true → s.readEffect a.val = s → ∃ t, exec (.readClear 2 a size) s = .next t ∧ t.get fBOLT_POOL_LOW_LOW_FREE = s.freeCells ∧
    Only [aBOLT_POOL_LOW] s t) ∧
  (∀ (s : State) (path : Fin 6) (a : Fin 16777216) (size : Fin 4), s.pathOpen path.val = false ∨ s.mustWait a.val = true → exec
    (.readClear path a size) s = .next s) ∧
  (∀ (s : State) (a : Fin 16777216) (ws : List Word), s.runWaits a.val ws.length = false → exec (.spiWrite a ws) s = .next
    ((s.writeRun 2 a.val ws).1)) ∧
  (∀ (s : State) (a : Fin 16777216) (n : Fin 16777216), s.runWaits a.val n.val = false → exec (.spiRead a n) s = .next ((s.readRun 2
    a.val n.val).2.1.send (.words 2 (s.readRun 2 a.val n.val).1))) ∧
  (∀ (s : State) (a : Fin 16777216) (ws : List Word), s.runWaits a.val ws.length = true → exec (.spiWrite a ws) s = .next s) ∧
  (∀ (s : State) (a : Fin 16777216) (n : Fin 16777216), s.runWaits a.val n.val = true → exec (.spiRead a n) s = .next s) ∧
  (∀ (s : State), ∃ t, exec .spiStatus s = .next t ∧ t.regs = s.regs ∧ t.freeIdx = s.freeIdx + 1 ∧ t.queues = s.queues) ∧
  (∀ (s : State) (a : Fin 16777216) (w : Word), s.mustWait a.val = false → exec (.regacc true a w) s = .next (((s.send (.words 3
    [s.host.jtag])).busWrite 3 a.val w).1)) ∧
  (∀ (s : State) (a : Fin 16777216) (w : Word), s.mustWait a.val = false → (regAt a.val).map (fun r => s.domAccess r.dom) = some
    true → ∃ t, exec (.regacc false a w) s = .next t ∧ t.host.jtag = ((s.send (.words 3 [s.host.jtag])).readEffect
    a.val).readValue a.val) ∧
  (∀ (s : State) (write : Bool) (a : Fin 16777216) (w : Word), s.mustWait a.val = true → exec (.regacc write a w) s = .next s)

/-- The remote window, the push channels and the rings act for PCI Express, and the link takes the port up and down. On a device with a
draft and the PCI Express path open: a whole REMOTE_WRITE is discarded in no chain, and in a chain, with ACK 0, originates one REG_WR of its
word to DST; REMOTE_READ of size 0 to 2 in no chain, or to DST 0x3FE or 0x3FF, sets REMOTE_ERR and completes with all ones, and to a device
of its chain originates one REG_RD; a write that is not whole and a read of size 3 set ACC_ERR alone. A bare device, or one whose path is
not open, changes nothing for both. REMOTE_READ_TIMEOUT of a window read that has waited longest passes time to its timeout, forgets it,
sets RD_TIMEOUT and completes it with all ones; with none waiting it changes nothing. BAR2_PUSH with the port trained, LINK not held and a
draft: one that is not whole sets ACC_ERR, one to a channel without EN, or with PD_BOLT off, its PUSH_ERR, and a one-word packet (j = 3) to
an enabled host queue is written to it. RING_RD_WRITE keeps RD, and changes no other word than that and the ring's WR word.
RING_INTERRUPT_TIMER raises the vector MOD_TIME after the ring's first record, and changes nothing with no record or MOD_TIME 0.
HOST_LINK_TRAINED with PERST_N high, LINK not held, a PCI Express personality and no record to repeat sets LINK_UP and changes only
HOST_STATUS; of a trained port it changes nothing. PCIE_LINK_DOWN of a trained port that writes no record clears LINK_UP and GEN; of another
it changes nothing. PERST_N high is kept; low takes a PCI Express port down. (Derived from R457, R459, R460, R461, R462, R469.) -/
def Obligations.RemoteWindowAndPushes : Prop :=
  (∀ (s : State) (a : Fin 16777216) (w : Word), s.pathOpen 0 = true → s.drafted = true → s.chained = false → exec (.remoteWrite a w
    true) s = .next s) ∧
  (∀ (s : State) (a : Fin 16777216) (w : Word), s.pathOpen 0 = true → s.drafted = true → s.chained = true → s.is fHOST_REMOTE_ACK =
    false → exec (.remoteWrite a w true) s = .next (s.originateWr (s.get fHOST_REMOTE_DST) false a.val none [w] (fun _ => none))) ∧
  (∀ (s : State) (a : Fin 16777216) (w : Word), s.pathOpen 0 = true → s.drafted = true → exec (.remoteWrite a w false) s = .next
    (s.flag fHOST_STATUS_ACC_ERR)) ∧
  (∀ (s : State) (a : Fin 16777216) (w : Word) (whole : Bool), s.pathOpen 0 = false ∨ s.drafted = false → exec (.remoteWrite a w
    whole) s = .next s) ∧
  (∀ (s : State) (a : Fin 16777216) (size : Fin 4), s.pathOpen 0 = true → s.drafted = true → size.val ≠ 3 → s.chained = false ∨ 1022
    ≤ s.get fHOST_REMOTE_DST → exec (.remoteRead a size) s = .next ((s.flag fHOST_STATUS_REMOTE_ERR).send (.bar (slotHalf size.val
    (2 ^ 64 - 1))))) ∧
  (∀ (s : State) (a : Fin 16777216) (size : Fin 4), s.pathOpen 0 = true → s.drafted = true → size.val ≠ 3 → s.chained = true → s.get
    fHOST_REMOTE_DST < 1022 → exec (.remoteRead a size) s = .next (s.originateRd (s.get fHOST_REMOTE_DST) a.val 1 (fun q =>
    RemoteWait.mk q none false size.val s.nowT))) ∧
  (∀ (s : State) (a : Fin 16777216), s.pathOpen 0 = true → s.drafted = true → exec (.remoteRead a 3) s = .next (s.flag
    fHOST_STATUS_ACC_ERR)) ∧
  (∀ (s : State) (a : Fin 16777216) (size : Fin 4), s.pathOpen 0 = false ∨ s.drafted = false → exec (.remoteRead a size) s = .next
    s) ∧
  (∀ (s : State) (y : RemoteWait) (rest : List RemoteWait) (u : State), s.host.waits = y :: rest → y.eth = none → y.write = false →
    s.flowTo (tAdd y.at_ (s.usUp (10 * max 1 (s.get fHOST_REMOTE_TIMEOUT)))) = u → exec .remoteReadTimeout s = .next
    ((({ u with host := { u.host with waits := rest } } : State).flag fHOST_STATUS_RD_TIMEOUT).send (.bar (slotHalf y.half (2 ^ 64
    - 1))))) ∧
  (∀ (s : State), s.host.waits = [] → exec .remoteReadTimeout s = .next s) ∧
  (∀ (s : State) (c : Fin 64) (j : Fin 4) (w : Word), s.pcieUp = true → s.islandHeld 7 = false → s.drafted = true → s.is
    fHOST_PUSHQ_EN c.val = false ∨ s.domOn 5 = false → exec (.bar2Push c j w true) s = .next (s.flag fHOST_PUSHQ_PUSH_ERR c.val)) ∧
  (∀ (s : State) (c : Fin 64) (w : Word), s.pcieUp = true → s.islandHeld 7 = false → s.drafted = true → s.domOn 5 = true → s.is
    fHOST_PUSHQ_EN c.val = true → s.is fBOLT_Q_CFG_EN (s.get fHOST_PUSHQ_QUEUE c.val) = true → s.get fBOLT_Q_CFG_PROD (s.get
    fHOST_PUSHQ_QUEUE c.val) = 4 → exec (.bar2Push c 3 w true) s = .next (s.queueWord (s.get fHOST_PUSHQ_QUEUE c.val) w true true
    false)) ∧
  (∀ (s : State) (c : Fin 64) (j : Fin 4) (w : Word), s.pcieUp = true → s.islandHeld 7 = false → s.drafted = true → exec (.bar2Push
    c j w false) s = .next (s.flag fHOST_STATUS_ACC_ERR)) ∧
  (∀ (s : State) (n : Fin 64) (rd : Fin (2 ^ 30)), ∃ t, exec (.ringRdWrite n rd) s = .next t ∧ t.get fHOST_RING_RD_RD n.val = rd.val
    ∧ Only [aHOST_RING_RD + n.val, aHOST_RING_WR + n.val] s t) ∧
  (∀ (s : State) (n : Fin 64) (k : Nat), (s.ringSt n.val).first = some k → s.get fHOST_RING_CFG_MOD_TIME n.val ≠ 0 → exec
    (.ringInterruptTimer n) s = .next ((s.flowTo (tAdd k (s.usUp (s.get fHOST_RING_CFG_MOD_TIME n.val)))).ringIrq n.val)) ∧
  (∀ (s : State) (n : Fin 64), (s.ringSt n.val).first = none ∨ s.get fHOST_RING_CFG_MOD_TIME n.val = 0 → exec (.ringInterruptTimer
    n) s = .next s) ∧
  (∀ (s : State) (gen : Fin 6), s.hostUp = false → s.islandHeld 7 = false → s.ethPers = false → s.host.perst = true → s.host.redo =
    none → ∃ t, exec (.hostLinkTrained gen) s = .next t ∧ t.is fHOST_STATUS_LINK_UP = true ∧ Only [aHOST_STATUS] s t ∧ RegsOnly s
    t) ∧
  (∀ (s : State) (gen : Fin 6), s.hostUp = true → exec (.hostLinkTrained gen) s = .next s) ∧
  (∀ (s : State), s.pcieUp = true → exec (.pcieLinkDown false) s = .next ((s.unflag fHOST_STATUS_LINK_UP).put fHOST_STATUS_GEN 0)) ∧
  (∀ (s : State) (busy : Bool), s.pcieUp = false → exec (.pcieLinkDown busy) s = .next s) ∧
  (∀ (s : State), exec (.perstN true) s = .next ({ s with host := { s.host with perst := true } })) ∧
  (∀ (s : State), s.ethPers = false → ∃ t, exec (.perstN false) s = .next t ∧ t.host.perst = false ∧ t.is fHOST_STATUS_LINK_UP =
    false ∧ t.get fHOST_STATUS_GEN = 0 ∧ Only [aHOST_STATUS] s t)

/-- Ethernet requests for this device act once and are answered, a repeat sends its stored response, and a strobe sends its command. With
the Ethernet path open, for a request that is not a repeat: a WRITE of 1 to 1 024 words for this device, without REPL and with ACK 0, writes
them, no reload in the way; a READ of 1 to 1 024 words answers the words it read with its STATUS; a PUSH pushes its records in turn; a
STROBE with REL 0 sends one command of source 5 with the COARSE and FINE of its first slot and the EPOCH of HOST_STROBE_HI, the register
keeping its value. A repeated READ to another device counts in DUP_REQ and sends the stored response (State.dupReq), as a repeated datagram
with an unused OP does; an unused OP that is no repeat, a frame that breaks the rules and an ARP request for another address count in
ETH_DROP; an ARP request for its own is answered. A stream datagram leaves 10 us after its first record, the events up to then having taken
place; a ring with none changes nothing. HOST_STROBE with REL 0 keeps its fields and sends the held due time as a command of source 5.
(Derived from R142, R463, R464, R465, R467.) -/
def Obligations.EthernetAndStrobes : Prop :=
  (∀ (s : State) (r : EthHdr) (a : Fin 16777216) (ws : List Word), s.pathOpen 1 = true → r.dev.val = s.addr → s.runWaits a.val
    ws.length = false → s.isDup r.src r.id.val = false → r.ack = false → ws ≠ [] → ws.length ≤ 1024 → exec (.ethWrite r a none ws)
    s = .next (((s.noteSrc r.src r.id.val).writeRun 1 a.val ws).1)) ∧
  (∀ (s : State) (r : EthHdr) (a : Fin 16777216) (count : Fin 65536), s.pathOpen 1 = true → r.dev.val = s.addr → s.runWaits a.val
    (min count.val 1024) = false → s.isDup r.src r.id.val = false → count.val ≠ 0 → count.val ≤ 1024 → exec (.ethRead r a count) s
    = .next (((s.noteSrc r.src r.id.val).readRun 1 a.val count.val).2.1.answer (EthReq.mk r.src r.id.val r.dev.val r.ack a.val)
    false (if ((s.noteSrc r.src r.id.val).readRun 1 a.val count.val).2.2 then 0 else 1) ((s.noteSrc r.src r.id.val).readRun 1
    a.val count.val).1)) ∧
  (∀ (s : State) (r : EthHdr) (a : Fin 16777216) (count : Fin 65536), s.pathOpen 1 = true → r.dev.val ≠ s.addr → s.isDup r.src
    r.id.val = true → exec (.ethRead r a count) s = .next (s.dupReq r.src)) ∧
  (∀ (s : State) (r : EthHdr) (c : Fin 64) (recs : List (Bool × Bool × List Word)), s.pathOpen 1 = true → s.isDup r.src r.id.val =
    false → exec (.ethPush r c recs) s = .next (recs.foldl (fun s x => s.pushRecord c.val x) (s.noteSrc r.src r.id.val))) ∧
  (∀ (s : State) (r : EthHdr) (due ctrl : Word), s.pathOpen 1 = true → s.isDup r.src r.id.val = false → fHOST_STROBE_CTRL_REL.get
    ctrl = 0 → exec (.ethStrobe r due ctrl) s = .next ((((s.noteSrc r.src r.id.val).setWord aHOST_STROBE_LO due).setWord
    aHOST_STROBE_LO (s.word aHOST_STROBE_LO)).sendDue (DueCmd.mk (.line (Fin.ofNat 64 (fHOST_STROBE_CTRL_LINE.get ctrl)))
    (fHOST_STROBE_CTRL_ACTION.get ctrl) (tsOf due (s.word aHOST_STROBE_HI)) 5))) ∧
  (∀ (s : State) (src : Nat) (id : Fin 65536), s.pathOpen 1 = true → s.isDup src id.val = false → exec (.ethOpNotUsed src id) s =
    .next (s.bump fHOST_STATUS_ETH_DROP)) ∧
  (∀ (s : State) (src : Nat) (id : Fin 65536), s.pathOpen 1 = true → s.isDup src id.val = true → exec (.ethOpNotUsed src id) s =
    .next (s.dupReq src)) ∧
  (∀ (s : State) (ip : Fin 4294967296), s.pathOpen 1 = true → ip.val = s.get fHOST_ETH_IP_IP → exec (.arpRequest ip) s = .next
    (s.send (.arp Config.macAddress ip.val))) ∧
  (∀ (s : State) (ip : Fin 4294967296), s.pathOpen 1 = true → ip.val ≠ s.get fHOST_ETH_IP_IP → exec (.arpRequest ip) s = .next
    (s.bump fHOST_STATUS_ETH_DROP)) ∧
  (∀ (s : State), s.pathOpen 1 = true → exec .ethFrameDiscard s = .next (s.bump fHOST_STATUS_ETH_DROP)) ∧
  (∀ (s : State) (n : Fin 64) (k : Nat), (s.ringSt n.val).at_ = some k → exec (.streamDatagramTimer n) s = .next ((s.flowTo (tAdd k
    (s.usUp 10))).gramSend n.val)) ∧
  (∀ (s : State) (n : Fin 64), (s.ringSt n.val).at_ = none → exec (.streamDatagramTimer n) s = .next s) ∧
  (∀ (s : State) (l : Fin 64) (action : Fin 16), exec (.hostStrobe false l action) s = .next ((((s.put fHOST_STROBE_CTRL_REL 0).put
    fHOST_STROBE_CTRL_LINE l.val).put fHOST_STROBE_CTRL_ACTION action.val).sendDue (DueCmd.mk (.line l) action.val (tsOf (s.word
    aHOST_STROBE_LO) (s.word aHOST_STROBE_HI)) 5)))

/-- A draft load begins, receives bytes, is checked, applies, aborts and commits by its commands, each only in its state. DRAFT_BEGIN
outside APPLYING, no commit running and PD_MEM ON, empties the stage and goes to RECEIVING (1), PD_MEM not ON being also asked to wake; in
APPLYING or during a commit it sets BUSY alone. DRAFT_ABORT in IDLE changes nothing, in APPLYING sets BUSY alone, in VERIFYING rejects the
load with reason 0x16, else discards the stage and goes to IDLE. DRAFT_DATA by register outside RECEIVING, or with SRC 1, sets DATA_ERR
alone; in RECEIVING with SRC 0 and DRAM ready it appends its four bytes and counts them (a header not yet complete), and rejects the load
with the reason of a failing format check; while DRAM is not ready nothing changes. A word of the source queue outside RECEIVING is taken
and sets DATA_ERR alone, and with none visible nothing changes. DRAFT_VERIFY_DONE outside VERIFYING changes nothing; in it the load ends
with the reason, place and island of the first failing check, or VERIFIED (3). DRAFT_APPLY of a VERIFIED draft goes to APPLYING and holds
its targets; of another it sets BUSY alone. DRAFT_APPLY_RUN with every target held, no target's domain reloading and COMMIT 0 ends in IDLE
with the draft applied and not saved; outside APPLYING it changes nothing. DRAFT_COMMIT with no applied draft sets BUSY alone; of one
applied, idle and no commit running: a whole draft with Bobbin free is PENDING in the other slot than the newest, with Bobbin held FAIL is
set with CAUSE 1. DRAFT_COMMIT_DONE with no commit changes nothing; otherwise the slot is free and PENDING clears, with DONE and the draft
saved, or FAIL and CAUSE 4. CONFIG_SCAN with SCAN_EN and no bad island not held counts a pass, and without SCAN_EN changes nothing. (Derived
from R480, R481, R482, R483, R484, R485, R487.) -/
def Obligations.DraftLoads : Prop :=
  (∀ (s : State), s.drState ≠ 4 → s.draft.slot = none → s.domState 6 = 3 → ∃ t, exec .draftBegin s = .next t ∧ t.drState = 1 ∧ t.get
    fDRAFT_STATUS_RECEIVED = 0 ∧ t.get fDRAFT_STATUS_REASON = 0 ∧ t.draft.bytes = [] ∧ Only [aDRAFT_STATUS, aDRAFT_FAIL,
    aDRAFT_FAIL_OFS] s t) ∧
  (∀ (s : State), s.drState ≠ 4 → s.draft.slot = none → s.domState 6 ≠ 3 → exec .draftBegin s = .next ((s.clearStage 1).reqOn 6)) ∧
  (∀ (s : State), s.drState = 4 ∨ s.draft.slot ≠ none → exec .draftBegin s = .next (s.flag fDRAFT_CTRL_BUSY)) ∧
  (∀ (s : State), s.drState = 0 → exec .draftAbort s = .next s) ∧
  (∀ (s : State), s.drState = 4 → exec .draftAbort s = .next (s.flag fDRAFT_CTRL_BUSY)) ∧
  (∀ (s : State), s.drState = 2 → ∃ t, exec .draftAbort s = .next t ∧ t.drState = 5 ∧ t.get fDRAFT_STATUS_REASON = 0x16 ∧ Only
    [aDRAFT_STATUS, aDRAFT_COUNT] s t) ∧
  (∀ (s : State), s.drState = 1 ∨ s.drState = 3 ∨ s.drState = 5 → ∃ t, exec .draftAbort s = .next t ∧ t.drState = 0 ∧ t.draft.bytes
    = [] ∧ Only [aDRAFT_STATUS, aDRAFT_FAIL, aDRAFT_FAIL_OFS] s t) ∧
  (∀ (s : State) (v : Word), s.drState ≠ 1 ∨ (s.is fHIST_MEM_STATUS_READY = true ∧ s.is fDRAFT_CTRL_SRC = true) → exec (.draftData
    (some v)) s = .next (s.flag fDRAFT_CTRL_DATA_ERR)) ∧
  (∀ (s : State) (v : Word), s.drState = 1 → s.is fHIST_MEM_STATUS_READY = true → s.is fDRAFT_CTRL_SRC = false → formatCheck
    (s.draft.bytes ++ [getBits v 0 8, getBits v 8 8, getBits v 16 8, getBits v 24 8]) = none → s.draft.bytes.length < 28 → ∃ t,
    exec (.draftData (some v)) s = .next t ∧ t.draft.bytes = s.draft.bytes ++ [getBits v 0 8, getBits v 8 8, getBits v 16 8,
    getBits v 24 8] ∧ t.get fDRAFT_STATUS_RECEIVED = s.draft.bytes.length + 4 ∧ t.drState = 1 ∧ Only [aDRAFT_STATUS] s t) ∧
  (∀ (s : State) (v : Word) (e : Nat × Nat), s.drState = 1 → s.is fHIST_MEM_STATUS_READY = true → s.is fDRAFT_CTRL_SRC = false →
    formatCheck (s.draft.bytes ++ [getBits v 0 8, getBits v 8 8, getBits v 16 8, getBits v 24 8]) = some e → ∃ t, exec (.draftData
    (some v)) s = .next t ∧ t.drState = 5 ∧ t.get fDRAFT_STATUS_REASON = e.1 % 32 ∧ Only [aDRAFT_STATUS, aDRAFT_COUNT,
    aDRAFT_FAIL_OFS] s t) ∧
  (∀ (s : State), s.drState ≠ 1 → s.is fDRAFT_CTRL_SRC = true → s.get fBOLT_Q_CFG_CONS (s.get fDRAFT_CTRL_QUEUE) = 5 → s.get
    fBOLT_Q_CFG_CONS_SEL (s.get fDRAFT_CTRL_QUEUE) = 255 → s.visible (s.queue (s.get fDRAFT_CTRL_QUEUE)) ≠ 0 → (s.queue (s.get
    fDRAFT_CTRL_QUEUE)).words ≠ [] → ∃ t, exec (.draftData none) s = .next t ∧ t.is fDRAFT_CTRL_DATA_ERR = true ∧ (t.queue (s.get
    fDRAFT_CTRL_QUEUE)).words = (s.queue (s.get fDRAFT_CTRL_QUEUE)).words.tail ∧ Only [aDRAFT_CTRL] s t) ∧
  (∀ (s : State), s.visible (s.queue (s.get fDRAFT_CTRL_QUEUE)) = 0 → exec (.draftData none) s = .next s) ∧
  (∀ (s : State) (w : Option Word), s.drState = 1 → s.is fHIST_MEM_STATUS_READY = false → exec (.draftData w) s = .next s) ∧
  (∀ (s : State), s.drState ≠ 2 → exec .draftVerifyDone s = .next s) ∧
  (∀ (s : State), s.drState = 2 → exec .draftVerifyDone s = .next
    (match trailerCheck s.draft.bytes, s.loadCheck s.draft.bytes with | some e, _ => (s.reject e.1).put fDRAFT_FAIL_OFS_OFS e.2 | none, some e => ((s.reject e.1).put fDRAFT_FAIL_FAIL_ADDR e.2).put fDRAFT_FAIL_FAIL_ISLAND ((ownersAt e.2).headD 0) | none, none => s.put fDRAFT_STATUS_STATE 3)) ∧
  (∀ (s : State) (e : Nat × Nat), s.drState = 2 → trailerCheck s.draft.bytes = some e → ∃ t, exec .draftVerifyDone s = .next t ∧
    t.drState = 5 ∧ t.get fDRAFT_STATUS_REASON = e.1 % 32 ∧ Only [aDRAFT_STATUS, aDRAFT_COUNT, aDRAFT_FAIL_OFS] s t) ∧
  (∀ (s : State), s.drState = 3 → exec .draftApply s = .next
    ({ s.put fDRAFT_STATUS_STATE 4 with holds := { s.holds with draft := drTargets s.draft.bytes } })) ∧
  (∀ (s : State), s.drState ≠ 3 → exec .draftApply s = .next (s.flag fDRAFT_CTRL_BUSY)) ∧
  (∀ (s : State), s.drState = 4 → (List.range 9).all (fun i => !(drTargets s.draft.bytes).testBit i || s.held i) = true →
    (List.range 8).any (fun d => s.domState d == 6 && (domIslands d).any (fun i => (drTargets s.draft.bytes).testBit i)) = false →
    drCommit s.draft.bytes = false → ∃ t, exec .draftApplyRun s = .next t ∧ t.drState = 0 ∧ t.draft =
    { s.draft with applied := true, saved := false }) ∧
  (∀ (s : State), s.drState ≠ 4 → exec .draftApplyRun s = .next s) ∧
  (∀ (s : State), s.draft.applied = false ∨ s.draft.slot ≠ none ∨ s.drState ≠ 0 → exec .draftCommit s = .next (s.flag
    fDRAFT_CTRL_BUSY)) ∧
  (∀ (s : State), s.draft.applied = true → s.draft.slot = none → s.drState = 0 → s.resFree 29 true = true → drPartial s.draft.bytes
    = false → ∃ t, exec .draftCommit s = .next t ∧ t.is fDRAFT_COMMIT_PENDING = true ∧ t.get fDRAFT_COMMIT_CAUSE = 0 ∧
    t.draft.slot = some (match s.newestSlot with | some 0 => 1 | _ => 0)) ∧
  (∀ (s : State), s.draft.applied = true → s.draft.slot = none → s.drState = 0 → s.resFree 29 true = false → ∃ t, exec .draftCommit
    s = .next t ∧ t.is fDRAFT_COMMIT_FAIL = true ∧ t.get fDRAFT_COMMIT_CAUSE = 1 ∧ t.draft = s.draft ∧ Only [aDRAFT_COMMIT,
    aMAINT_STATUS] s t) ∧
  (∀ (s : State) (ok : Bool), s.draft.slot = none → exec (.draftCommitDone ok) s = .next s) ∧
  (∀ (s : State), s.draft.slot ≠ none → ∃ t, exec (.draftCommitDone true) s = .next t ∧ t.draft.slot = none ∧ t.draft.saved = true ∧
    t.is fDRAFT_COMMIT_PENDING = false ∧ t.is fDRAFT_COMMIT_DONE = true) ∧
  (∀ (s : State), s.draft.slot ≠ none → ∃ t, exec (.draftCommitDone false) s = .next t ∧ t.draft.slot = none ∧ t.is
    fDRAFT_COMMIT_PENDING = false ∧ t.is fDRAFT_COMMIT_FAIL = true ∧ t.get fDRAFT_COMMIT_CAUSE = 4) ∧
  (∀ (s : State), s.is fDRAFT_SCAN_SCAN_EN = false → exec .configScan s = .next s) ∧
  (∀ (s : State), s.is fDRAFT_SCAN_SCAN_EN = true → (List.range 9).all (fun i => s.held i || !s.crcBad i) = true → exec .configScan
    s = .next (s.bump fDRAFT_SCAN_PASSES))

/-- An island is held and released by its commands, a host hold expires, and maintenance claims are atomic. ISLAND_HOLD_REQ keeps REQ and
changes nothing else. HELD of an island that a holder wants and that is not held shows HELD and suspends the scan; with no holder it changes
nothing. ISLAND_RELEASE of a held island with no holder clears HELD, nothing staged staying, and with a word of the island staged that word
governs; of one not held, or wanted, it changes nothing. HOLD_EXPIRED of a held island whose host hold has lasted HOLD_LIMIT mt, with no
draft hold and nothing staged, clears HELD and REQ and sets HOLD_EXPIRED; of one not held, not requested by the host or before the limit it
changes nothing. MAINT_CLAIM_GO of an activity that is not claimable sets REFUSED; of 9, 10 or 11 with resource 29 free it becomes the
writer, HELD and ACTIVE, only those words changing; with 29 not free REFUSED, MAINT_BUSY, LAST_ACT and LAST_RES show it and nothing is
taken. MAINT_CLAIM_RELEASE of one that is not claimable only keeps ACT; of a claimable one it leaves the activity inactive and writer of no
resource. (Derived from R495, R496, R498, R499, R506, R507, R509.) -/
def Obligations.HoldsAndMaintenance : Prop :=
  (∀ (s : State) (mask : Fin 512), exec (.islandHoldReq mask) s = .next (s.put fISLAND_HOLD_REQ mask.val)) ∧
  (∀ (s : State) (n : Fin 9), s.holderOf n.val = true → s.held n.val = false → ∃ t, exec (.held n) s = .next t ∧ t.held n.val = true
    ∧ t.is fDRAFT_SCAN_SUSPENDED = true) ∧
  (∀ (s : State) (n : Fin 9), s.holderOf n.val = false ∨ s.held n.val = true → exec (.held n) s = .next s) ∧
  (∀ (s : State) (n : Fin 9), s.held n.val = true → s.holderOf n.val = false → s.staged = [] → ∃ t, exec (.islandRelease n) s =
    .next t ∧ t.held n.val = false ∧ t.staged = []) ∧
  (∀ (s : State) (w : Word), s.held 6 = true → s.holderOf 6 = false → s.staged = [(aHIST_TONE_MAP, w)] → ∃ t, exec (.islandRelease
    6) s = .next t ∧ t.held 6 = false ∧ t.staged = [] ∧ t.word aHIST_TONE_MAP = s.structWord aHIST_TONE_MAP) ∧
  (∀ (s : State) (n : Fin 9), s.held n.val = false ∨ s.holderOf n.val = true → exec (.islandRelease n) s = .next s) ∧
  (∀ (s : State) (n : Fin 9), s.held n.val = true → s.bit fISLAND_HOLD_REQ n.val = true → max 1 (s.get fISLAND_HOLD_HOLD_LIMIT) ≤
    s.holds.mt.getD n.val 0 → s.holds.draft = 0 → s.staged = [] → ∃ t, exec (.holdExpired n) s = .next t ∧ t.held n.val = false ∧
    t.bit fISLAND_HOLD_REQ n.val = false ∧ t.is fISLAND_HOLD_HOLD_EXPIRED = true) ∧
  (∀ (s : State) (n : Fin 9), s.held n.val = false ∨ s.bit fISLAND_HOLD_REQ n.val = false ∨ s.holds.mt.getD n.val 0 < max 1 (s.get
    fISLAND_HOLD_HOLD_LIMIT) → exec (.holdExpired n) s = .next s) ∧
  (∀ (s : State) (act : Fin 16), claimRes act.val = none → exec (.maintClaimGo act) s = .next ((s.put fMAINT_CLAIM_ACT act.val).flag
    fMAINT_CLAIM_REFUSED)) ∧
  (∀ (s : State) (act : Fin 16), act.val = 9 ∨ act.val = 10 ∨ act.val = 11 → s.resFree 29 true = true → ∃ t, exec (.maintClaimGo
    act) s = .next t ∧ t.get fMAINT_OWNER_WRITER 29 = act.val ∧ t.bit fMAINT_HELD_HELD 29 = true ∧ t.actHeld act.val = true ∧ Only
    [aMAINT_CLAIM, aMAINT_OWNER + 29, aMAINT_HELD] s t) ∧
  (∀ (s : State) (act : Fin 16), act.val = 9 ∨ act.val = 10 ∨ act.val = 11 → s.resFree 29 true = false → ∃ t, exec (.maintClaimGo
    act) s = .next t ∧ t.is fMAINT_CLAIM_REFUSED = true ∧ t.is fMAINT_STATUS_MAINT_BUSY = true ∧ t.get fMAINT_STATUS_LAST_ACT =
    act.val ∧ t.get fMAINT_STATUS_LAST_RES = 29 ∧ Only [aMAINT_CLAIM, aMAINT_STATUS] s t) ∧
  (∀ (s : State) (act : Fin 16), claimRes act.val = none → exec (.maintClaimRelease act) s = .next (s.put fMAINT_CLAIM_ACT act.val)) ∧
  (∀ (s : State) (act : Fin 16), claimRes act.val ≠ none → ∃ t, exec (.maintClaimRelease act) s = .next t ∧ t.actHeld act.val =
    false ∧ ∀ r, r < 32 → t.get fMAINT_OWNER_WRITER r ≠ act.val)

/-- A mismatch, a memory error, an unkicked watchdog and REBOOT reset MGMT with their cause; KICK, BOOT_OK and an image write act. LOCKSTEP
and REBOOT leave FW_STATE RESETTING (3), no mailbox command and RESET_CAUSE 2 and 5; MGMT_DBE likewise with cause 3 and its DBE flag;
LOCKSTEP flags LOCKSTEP and leaves no claim of firmware. WATCHDOG_EXPIRY with firmware running, EN and PERIOD mt counted gives cause 4,
EXPIRED and a count of 0; otherwise it changes nothing. MGMT_RESET outside RESETTING changes nothing; in it, no restore being under way,
with FW_EN 0, or with no image and FW_AVOID 0, FW_STATE alone becomes BARE; with FW_AVOID 0, an image in slot i newest and BOOT_FAILS below
3, that image loads; a restore under way starts again. KICK sets the count to 0, and while KICK_BLOCK acts changes nothing. BOOT_OK sets
BOOT_FAILS 0. FW_BEGIN without activity 0xB sets RESULT 2 alone; with it the other slot than the newest image's is emptied and STATE, RESULT
and RECEIVED are 1, 0, 0. FW_ABORT of a write sets STATE 0 and RESULT 8 alone, of none nothing. FW_DATA outside RECEIVING changes nothing,
in it its four bytes join the image. FW_WRITE_DONE outside WRITING changes nothing; of an image that fails a check it sets STATE 0 and the
check's RESULT, the slots unchanged; of one that passes and is not read back RESULT 7, the slots unchanged; of one read back RESULT 1,
FW_AVOID 0 and the image in its slot. A scrub pass adds what it corrected to SBE_COUNT; a double-bit error of firmware memories sets DBE and
resets MGMT with cause 3; one of the table windows only reports besides. WEFT_MEMORY_SCRUB changes nothing. (Derived from R490, R512, R513,
R514, R515, R516, R517, R528, R538, R583.) -/
def Obligations.MgmtProcessor : Prop :=
  (∀ (s : State), ∃ t, exec .lockstep s = .next t ∧ t.fwState = 3 ∧ t.get fMGMT_STATUS_RESET_CAUSE = 2 ∧ t.is fMGMT_ERR_LOCKSTEP =
    true ∧ t.mgmt.claims = 0 ∧ t.mgmt.mbx = none) ∧
  (∀ (s : State) (data : Bool), ∃ t, exec (.mgmtDbe data) s = .next t ∧ t.fwState = 3 ∧ t.get fMGMT_STATUS_RESET_CAUSE = 3 ∧ t.is
    fMGMT_ERR_DBE = true ∧ t.mgmt.mbx = none) ∧
  (∀ (s : State), s.fwState = 2 → s.is fMGMT_WDT_EN = true → s.wdtPeriod ≤ s.mgmt.wdt → ∃ t, exec .watchdogExpiry s = .next t ∧
    t.fwState = 3 ∧ t.get fMGMT_STATUS_RESET_CAUSE = 4 ∧ t.is fMGMT_WDT_EXPIRED = true ∧ t.mgmt.wdt = 0) ∧
  (∀ (s : State), s.fwState ≠ 2 ∨ s.is fMGMT_WDT_EN = false ∨ s.mgmt.wdt < s.wdtPeriod → exec .watchdogExpiry s = .next s) ∧
  (∀ (s : State), ∃ t, exec .reboot s = .next t ∧ t.fwState = 3 ∧ t.get fMGMT_STATUS_RESET_CAUSE = 5 ∧ t.mgmt.mbx = none) ∧
  (∀ (s : State), s.fwState = 3 → s.restoreHold = false ∨ s.is fMGMT_RESTORE_RESTORE_DONE = true → s.is fMGMT_CFG_FW_EN = false ∨
    (s.get fMGMT_STATUS_FW_AVOID = 0 ∧ s.newestImage = none) → exec .mgmtReset s = .next (s.put fMGMT_STATUS_FW_STATE 0)) ∧
  (∀ (s : State) (i : Nat), s.fwState = 3 → s.restoreHold = false ∨ s.is fMGMT_RESTORE_RESTORE_DONE = true → s.is fMGMT_CFG_FW_EN =
    true → s.get fMGMT_STATUS_FW_AVOID = 0 → s.newestImage = some i → s.get fMGMT_STATUS_BOOT_FAILS < 3 → ∃ t, exec .mgmtReset s =
    .next t ∧ t.fwState = 2 ∧ t.get fMGMT_STATUS_FW_SLOT = i % 2 ∧ t.get fMGMT_STATUS_BOOT_FAILS = s.get fMGMT_STATUS_BOOT_FAILS +
    1 ∧ Only [aMGMT_STATUS] s t ∧ RegsOnly s t) ∧
  (∀ (s : State), s.fwState = 3 → s.restoreHold = true → s.is fMGMT_RESTORE_RESTORE_DONE = false → exec .mgmtReset s = .next
    s.restoreAgain) ∧
  (∀ (s : State), s.fwState ≠ 3 → exec .mgmtReset s = .next s) ∧
  (∀ (s : State), (s.injActs 19).any (fun x => decide (0 < x.left)) = true → exec .kick s = .next s) ∧
  (∀ (s : State), (s.injActs 19).any (fun x => decide (0 < x.left)) = false → exec .kick s = .next
    ({ s with mgmt := { s.mgmt with wdt := 0 } })) ∧
  (∀ (s : State), exec .bootOk s = .next (s.put fMGMT_STATUS_BOOT_FAILS 0)) ∧
  (∀ (s : State), s.actHeld 11 = false → exec .fwBegin s = .next (s.put fMGMT_FW_CTRL_RESULT 2)) ∧
  (∀ (s : State), s.actHeld 11 = true → ∃ t, exec .fwBegin s = .next t ∧ t.get fMGMT_FW_CTRL_STATE = 1 ∧ t.get fMGMT_FW_CTRL_RESULT
    = 0 ∧ t.get fMGMT_FW_CTRL_RECEIVED = 0 ∧ t.mgmt.image = [] ∧ t.bobbin.fw = s.bobbin.fw.set
    (match s.newestImage with | some 0 => 1 | _ => 0) none ∧ Only [aMGMT_FW_CTRL] s t) ∧
  (∀ (s : State), s.get fMGMT_FW_CTRL_STATE ≠ 0 → exec .fwAbort s = .next ((s.put fMGMT_FW_CTRL_STATE 0).put fMGMT_FW_CTRL_RESULT
    8)) ∧
  (∀ (s : State), s.get fMGMT_FW_CTRL_STATE = 0 → exec .fwAbort s = .next s) ∧
  (∀ (s : State) (w : Word), s.get fMGMT_FW_CTRL_STATE ≠ 1 → exec (.fwData w) s = .next s) ∧
  (∀ (s : State) (w : Word), s.get fMGMT_FW_CTRL_STATE = 1 → ∃ t, exec (.fwData w) s = .next t ∧ t.mgmt.image = s.mgmt.image ++
    [getBits w 0 8, getBits w 8 8, getBits w 16 8, getBits w 24 8]) ∧
  (∀ (s : State) (ok : Bool), s.get fMGMT_FW_CTRL_STATE = 2 → imageCheck s.mgmt.image ≠ 1 → ∃ t, exec (.fwWriteDone ok) s = .next t
    ∧ t.get fMGMT_FW_CTRL_STATE = 0 ∧ t.get fMGMT_FW_CTRL_RESULT = imageCheck s.mgmt.image ∧ t.bobbin.fw = s.bobbin.fw) ∧
  (∀ (s : State), s.get fMGMT_FW_CTRL_STATE = 2 → imageCheck s.mgmt.image = 1 → ∃ t, exec (.fwWriteDone false) s = .next t ∧ t.get
    fMGMT_FW_CTRL_STATE = 0 ∧ t.get fMGMT_FW_CTRL_RESULT = 7 ∧ t.bobbin.fw = s.bobbin.fw) ∧
  (∀ (s : State), s.get fMGMT_FW_CTRL_STATE = 2 → imageCheck s.mgmt.image = 1 → s.get fMGMT_FW_CTRL_SLOT < s.bobbin.fw.length → ∃ t,
    exec (.fwWriteDone true) s = .next t ∧ t.get fMGMT_FW_CTRL_STATE = 0 ∧ t.get fMGMT_FW_CTRL_RESULT = 1 ∧ t.get
    fMGMT_STATUS_FW_AVOID = 0 ∧ (t.bobbin.fw.getD (s.get fMGMT_FW_CTRL_SLOT) none).map (fun (e : Elem) => (e.bytes, e.ok)) = some
    (s.mgmt.image, true)) ∧
  (∀ (s : State) (ok : Bool), s.get fMGMT_FW_CTRL_STATE ≠ 2 → exec (.fwWriteDone ok) s = .next s) ∧
  (∀ (s : State) (sbe : Nat), exec (.mgmtScrubPass sbe none) s = .next (s.bump fMGMT_ERR_SBE_COUNT 0 sbe)) ∧
  (∀ (s : State) (sbe : Nat) (i : Fin 3), i.val ≠ 2 → ∃ t, exec (.mgmtScrubPass sbe (some i)) s = .next t ∧ t.fwState = 3 ∧ t.get
    fMGMT_STATUS_RESET_CAUSE = 3 ∧ t.is fMGMT_ERR_DBE = true) ∧
  (∀ (s : State) (sbe : Nat) (i : Fin 3), i.val = 2 → exec (.mgmtScrubPass sbe (some i)) s = .next ((s.bump fMGMT_ERR_SBE_COUNT 0
    sbe).reportMem 4)) ∧
  (∀ (s : State), exec .weftMemoryScrub s = .next s)

/-- A mailbox command waits for firmware and is answered with its status and data, is retried, or is answered NO_FW at once. MBX_GO while a
command waits sets MBX_BUSY alone; otherwise OPCODE and TAG are kept, and with running firmware (FW_STATE 2) it waits with its eight
arguments, without it is answered at once with DONE, its TAG, STATUS 4 and no data. A command's answer (VERSION 1 to LOG_READ 7) changes
nothing where that command does not wait or no firmware runs. VERSION answers STATUS 0 with the image's version, SEQ and slot. CHECKPOINT
and CALSET_COMMIT whose resource 29 is held count a retry below RETRY_MAX, at it answer STATUS 2 with nothing taken. CHECKPOINT with 29 free
ends with STATUS 0 and DONE, or STATUS 3, FAIL and CAUSE 2 where its write fails; CALSET_COMMIT under STORE ends with STATUS 3 and FAIL, and
where its write fails without STORE likewise; 29 is free again. CALIBRATE of a kind above 4 answers STATUS 1; of another not yet running,
whose run is not refused, the run has begun and is waited for; while its run is busy nothing changes, at its end CAL_STATUS is answered with
STATUS 0, or 3 with a REASON. HEALTH answers STATUS 0 with the four prediction words. MBX_REBOOT resets MGMT with cause 5. LOG_READ answers
STATUS 0 with at most eight of its words. An opcode 0 or above 7 is answered STATUS 6; MBX_UNKNOWN where none waits changes nothing.
(Derived from R519, R520, R521, R525, R527, R528, R597.) -/
def Obligations.MailboxCommands : Prop :=
  (∀ (s : State) (op tag : Fin 256), s.mgmt.mbx ≠ none → exec (.mbxGo op tag) s = .next (s.flag fMGMT_MBX_CMD_MBX_BUSY)) ∧
  (∀ (s : State) (op tag : Fin 256), s.mgmt.mbx = none → s.fwState = 2 → ∃ t, exec (.mbxGo op tag) s = .next t ∧ t.mgmt.mbx = some
    (op.val, (List.range 8).map (fun i => s.word (aMGMT_MBX_ARG + i))) ∧ t.get fMGMT_MBX_CMD_OPCODE = op.val ∧ t.get
    fMGMT_MBX_CMD_TAG = tag.val ∧ Only [aMGMT_MBX_CMD] s t) ∧
  (∀ (s : State) (op tag : Fin 256), s.mgmt.mbx = none → s.fwState ≠ 2 → ∃ t, exec (.mbxGo op tag) s = .next t ∧ t.mgmt.mbx = none ∧
    t.is fMGMT_MBX_RSP_DONE = true ∧ t.get fMGMT_MBX_RSP_STATUS = 4 ∧ t.get fMGMT_MBX_RSP_TAG = tag.val ∧ t.get
    fMGMT_MBX_RSP_DCOUNT = 0 ∧ Only [aMGMT_MBX_CMD, aMGMT_MBX_RSP] s t) ∧
  (∀ (s : State) (args : List Word) (e : Elem), s.mgmt.mbx = some (1, args) → s.fwState = 2 → s.bobbin.fw.getD (s.get
    fMGMT_STATUS_FW_SLOT) none = some e → exec .version s = .next (s.mbxAnswer 0 [BitVec.ofNat 36 (leAt e.bytes 16 4),
    BitVec.ofNat 36 e.seq, BitVec.ofNat 36 (s.get fMGMT_STATUS_FW_SLOT)])) ∧
  (∀ (s : State) (ok : Bool) (args : List Word), s.mgmt.mbx = some (2, args) → s.fwState = 2 → s.resFree 29 true = false → (s.word
    (aMGMT_POLICY + 3)).toNat ≤ s.mgmt.tries → ∃ t, exec (.checkpoint ok) s = .next t ∧ t.get fMGMT_MBX_RSP_STATUS = 2 ∧ t.is
    fMGMT_MBX_RSP_DONE = true ∧ t.mgmt.mbx = none ∧ t.bobbin = s.bobbin) ∧
  (∀ (s : State) (args : List Word), s.mgmt.mbx = some (2, args) → s.fwState = 2 → s.resFree 29 true = true → ∃ t, exec (.checkpoint
    true) s = .next t ∧ t.get fMGMT_MBX_RSP_STATUS = 0 ∧ t.is fMGMT_MBX_RSP_DONE = true ∧ t.mgmt.mbx = none ∧ t.is fMGMT_CKPT_DONE
    = true ∧ t.get fMAINT_OWNER_WRITER 29 = 0) ∧
  (∀ (s : State) (ok : Bool) (args : List Word), s.mgmt.mbx = some (3, args) → s.fwState = 2 → s.resFree 29 true = false → (s.word
    (aMGMT_POLICY + 3)).toNat ≤ s.mgmt.tries → ∃ t, exec (.calsetCommit ok) s = .next t ∧ t.get fMGMT_MBX_RSP_STATUS = 2 ∧
    t.mgmt.mbx = none ∧ t.bobbin = s.bobbin) ∧
  (∀ (s : State) (args : List Word), s.mgmt.mbx = some (3, args) → s.fwState = 2 → s.resFree 29 true = true → s.is fCAL_CFG_STORE =
    false → ∃ t, exec (.calsetCommit false) s = .next t ∧ t.get fMGMT_MBX_RSP_STATUS = 3 ∧ t.mgmt.mbx = none ∧ t.is
    fMGMT_CALSET_FAIL = true ∧ t.get fMAINT_OWNER_WRITER 29 = 0) ∧
  (∀ (s : State) (args : List Word), s.mgmt.mbx = some (4, args) → s.fwState = 2 → s.mgmt.running = false → 4 < (args.getD 0
    0).toNat → exec .calibrate s = .next (s.mbxAnswer 1 [])) ∧
  (∀ (s : State) (args : List Word), s.mgmt.mbx = some (4, args) → s.fwState = 2 → s.mgmt.running = true → s.is fCAL_STATUS_BUSY =
    false → exec .calibrate s = .next (s.mbxAnswer (if s.get fCAL_STATUS_REASON = 0 then 0 else 3) [s.word aCAL_STATUS])) ∧
  (∀ (s : State) (args : List Word), s.mgmt.mbx = some (5, args) → s.fwState = 2 → exec .health s = .next (s.mbxAnswer 0
    s.healthWords)) ∧
  (∀ (s : State) (args : List Word), s.mgmt.mbx = some (6, args) → s.fwState = 2 → ∃ t, exec .mbxReboot s = .next t ∧ t.fwState = 3
    ∧ t.get fMGMT_STATUS_RESET_CAUSE = 5 ∧ t.mgmt.mbx = none) ∧
  (∀ (s : State) (ws : List Word) (args : List Word), s.mgmt.mbx = some (7, args) → s.fwState = 2 → ∃ t, exec (.logRead ws) s =
    .next t ∧ t.get fMGMT_MBX_RSP_STATUS = 0 ∧ t.get fMGMT_MBX_RSP_DCOUNT = min 8 ws.length ∧ t.mgmt.mbx = none ∧ ∀ i, i < min 8
    ws.length → t.word (aMGMT_MBX_DATA + i) = ws.getD i 0) ∧
  (∀ (s : State) (o : Nat) (args : List Word), s.mgmt.mbx = some (o, args) → s.fwState = 2 → o = 0 ∨ 7 < o → exec .mbxUnknown s =
    .next (s.mbxAnswer 6 [])) ∧
  (∀ (s : State), s.mgmt.mbx = none → exec .mbxUnknown s = .next s) ∧
  (∀ (s : State), s.mgmt.mbx.any (fun x => x.1 == 1) = false ∨ s.fwState ≠ 2 → exec .version s = .next s) ∧
  (∀ (s : State) (ok : Bool), s.mgmt.mbx.any (fun x => x.1 == 2) = false ∨ s.fwState ≠ 2 → exec (.checkpoint ok) s = .next s) ∧
  (∀ (s : State) (ok : Bool), s.mgmt.mbx.any (fun x => x.1 == 3) = false ∨ s.fwState ≠ 2 → exec (.calsetCommit ok) s = .next s) ∧
  (∀ (s : State), s.mgmt.mbx.any (fun x => x.1 == 4) = false ∨ s.fwState ≠ 2 → exec .calibrate s = .next s) ∧
  (∀ (s : State), s.mgmt.mbx.any (fun x => x.1 == 5) = false ∨ s.fwState ≠ 2 → exec .health s = .next s) ∧
  (∀ (s : State), s.mgmt.mbx.any (fun x => x.1 == 6) = false ∨ s.fwState ≠ 2 → exec .mbxReboot s = .next s) ∧
  (∀ (s : State) (ws : List Word), s.mgmt.mbx.any (fun x => x.1 == 7) = false ∨ s.fwState ≠ 2 → exec (.logRead ws) s = .next s) ∧
  (∀ (s : State) (ok : Bool) (args : List Word), s.mgmt.mbx = some (2, args) → s.fwState = 2 → s.resFree 29 true = false →
    s.mgmt.tries < (s.word (aMGMT_POLICY + 3)).toNat → ∃ t, exec (.checkpoint ok) s = .next t ∧ t.mgmt.tries = s.mgmt.tries + 1 ∧
    t.mgmt.mbx = s.mgmt.mbx ∧ t.bobbin = s.bobbin) ∧
  (∀ (s : State) (args : List Word), s.mgmt.mbx = some (2, args) → s.fwState = 2 → s.resFree 29 true = true → ∃ t, exec (.checkpoint
    false) s = .next t ∧ t.get fMGMT_MBX_RSP_STATUS = 3 ∧ t.is fMGMT_MBX_RSP_DONE = true ∧ t.mgmt.mbx = none ∧ t.is
    fMGMT_CKPT_FAIL = true ∧ t.get fMGMT_CKPT_CAUSE = 2 ∧ t.get fMAINT_OWNER_WRITER 29 = 0) ∧
  (∀ (s : State) (ok : Bool) (args : List Word), s.mgmt.mbx = some (3, args) → s.fwState = 2 → s.resFree 29 true = false →
    s.mgmt.tries < (s.word (aMGMT_POLICY + 3)).toNat → ∃ t, exec (.calsetCommit ok) s = .next t ∧ t.mgmt.tries = s.mgmt.tries + 1
    ∧ t.mgmt.mbx = s.mgmt.mbx ∧ t.bobbin = s.bobbin) ∧
  (∀ (s : State) (ok : Bool) (args : List Word), s.mgmt.mbx = some (3, args) → s.fwState = 2 → s.resFree 29 true = true → s.is
    fCAL_CFG_STORE = true → ∃ t, exec (.calsetCommit ok) s = .next t ∧ t.get fMGMT_MBX_RSP_STATUS = 3 ∧ t.mgmt.mbx = none ∧ t.is
    fMGMT_CALSET_FAIL = true ∧ t.get fMAINT_OWNER_WRITER 29 = 0) ∧
  (∀ (s : State) (args : List Word), s.mgmt.mbx = some (4, args) → s.fwState = 2 → s.mgmt.running = true → s.is fCAL_STATUS_BUSY =
    true → exec .calibrate s = .next s) ∧
  (∀ (s : State) (args : List Word), s.mgmt.mbx = some (4, args) → s.fwState = 2 → s.mgmt.running = false → (args.getD 0 0).toNat ≤
    4 → (s.calStart (args.getD 0 0).toNat (args.getD 1 0).toNat (args.getD 2 0).toNat).is fCAL_STATUS_REFUSED = false → ∃ t, exec
    .calibrate s = .next t ∧ t.mgmt.running = true ∧ t.regs = (s.calStart (args.getD 0 0).toNat (args.getD 1 0).toNat (args.getD 2
    0).toNat).regs ∧ t.cal = (s.calStart (args.getD 0 0).toNat (args.getD 1 0).toNat (args.getD 2 0).toNat).cal)

/-- A checkpoint and a calibration-set commit need their activity, run, and end with DONE or with FAIL and a cause. CKPT_GO without activity
0x9 sets FAIL and CAUSE 1 alone; with it, while one is BUSY nothing changes, otherwise it is BUSY and the newest record is not yet valid, no
draft load changing. CKPT_DONE clears BUSY with DONE and CAUSE 0, or FAIL and CAUSE 2; with none BUSY nothing changes. CALSET_GO without
activity 0xA sets FAIL and CAUSE 1 alone, with it and STORE FAIL and CAUSE 4 alone; otherwise one BUSY goes on unchanged, and none BUSY it
is BUSY, no draft of Bobbin changing. CALSET_DONE clears BUSY with DONE and CAUSE 0, or FAIL and CAUSE 2; with none BUSY nothing changes.
(Derived from R294, R524, R525, R527.) -/
def Obligations.CheckpointsAndSets : Prop :=
  (∀ (s : State), s.actHeld 9 = false → exec .ckptGo s = .next ((s.flag fMGMT_CKPT_FAIL).put fMGMT_CKPT_CAUSE 1)) ∧
  (∀ (s : State), s.actHeld 9 = true → s.is fMGMT_CKPT_BUSY = true → exec .ckptGo s = .next s) ∧
  (∀ (s : State), s.actHeld 9 = true → s.is fMGMT_CKPT_BUSY = false → ∃ t, exec .ckptGo s = .next t ∧ t.is fMGMT_CKPT_BUSY = true ∧
    (t.bobbin.ckpts.getLast?).map (fun (r : CkptRec) => r.ok) = some false ∧ t.draft = s.draft) ∧
  (∀ (s : State), s.is fMGMT_CKPT_BUSY = true → ∃ t, exec (.ckptDone true) s = .next t ∧ t.is fMGMT_CKPT_BUSY = false ∧ t.is
    fMGMT_CKPT_DONE = true ∧ t.get fMGMT_CKPT_CAUSE = 0) ∧
  (∀ (s : State), s.is fMGMT_CKPT_BUSY = true → ∃ t, exec (.ckptDone false) s = .next t ∧ t.is fMGMT_CKPT_BUSY = false ∧ t.is
    fMGMT_CKPT_FAIL = true ∧ t.get fMGMT_CKPT_CAUSE = 2) ∧
  (∀ (s : State) (ok : Bool), s.is fMGMT_CKPT_BUSY = false → exec (.ckptDone ok) s = .next s) ∧
  (∀ (s : State), s.actHeld 10 = false → exec .calsetGo s = .next ((s.flag fMGMT_CALSET_FAIL).put fMGMT_CALSET_CAUSE 1)) ∧
  (∀ (s : State), s.actHeld 10 = true → s.is fCAL_CFG_STORE = true → exec .calsetGo s = .next ((s.flag fMGMT_CALSET_FAIL).put
    fMGMT_CALSET_CAUSE 4)) ∧
  (∀ (s : State), s.actHeld 10 = true → s.is fCAL_CFG_STORE = false → s.is fMGMT_CALSET_BUSY = false → ∃ t, exec .calsetGo s = .next
    t ∧ t.is fMGMT_CALSET_BUSY = true ∧ t.bobbin.drafts = s.bobbin.drafts) ∧
  (∀ (s : State), s.is fMGMT_CALSET_BUSY = true → ∃ t, exec (.calsetDone true) s = .next t ∧ t.is fMGMT_CALSET_BUSY = false ∧ t.is
    fMGMT_CALSET_DONE = true ∧ t.get fMGMT_CALSET_CAUSE = 0) ∧
  (∀ (s : State), s.is fMGMT_CALSET_BUSY = true → ∃ t, exec (.calsetDone false) s = .next t ∧ t.is fMGMT_CALSET_BUSY = false ∧ t.is
    fMGMT_CALSET_FAIL = true ∧ t.get fMGMT_CALSET_CAUSE = 2) ∧
  (∀ (s : State) (ok : Bool), s.is fMGMT_CALSET_BUSY = false → exec (.calsetDone ok) s = .next s) ∧
  (∀ (s : State), s.actHeld 10 = true → s.is fCAL_CFG_STORE = false → s.is fMGMT_CALSET_BUSY = true → exec .calsetGo s = .next s)

/-- A domain's request ON, OFF or RETAIN is taken or refused, the governor admits its wake, and it wakes, saves and reloads. ON for domains
0 and 1 changes nothing; for one ON, LOADING, WAKE_WAIT or WAKING it stores REQ and takes back an OFF to come; for an enabled OFF one but 3,
no SHUTDOWN, STATE is WAKE_WAIT with its event in the governor's queue; for one not enabled, OFF, it is refused with reason 2. OFF of
domains 0 and 1 is refused with reason 1; of one OFF or SAVING it stores REQ and takes back a wake to come; PD_BOLT free and ON starts to
save. RETAIN but of PD_BOLT is refused with reason 1, of PD_BOLT in RETAIN changes nothing; of it ON, enabled, free, no SHUTDOWN, it stores
REQ and rewinds every open packet. One domain alone in the queue, nothing ramping and none admitted before, is WAKING, and the queue is
empty. Of a saving domain SAVE_DONE gives OFF (PD_BOLT with its queues gone, the outputs unchanged), or with a wake asked for meanwhile
WAKE_WAIT; of another nothing changes. WAKE_DONE of a WAKING 3 or 4 that was ON before gives LOADING; PD_BOLT (nothing kept) and PD_MEM
(asking for its DRAM's ramp) are ON; of one not WAKING nothing changes. TABLE_RELOAD_DONE of PD_WEFT LOADING, no draft committed, no OFF to
come, gives ON; of one not LOADING nothing changes. RETAIN_ENTERED gives RETAIN of PD_BOLT ON with RETAIN asked for, otherwise changes
nothing. SD_CLEAR below 95 C clears SHUTDOWN; at or above it, or with none, it changes nothing. An excursion of VDD_CORE sets CORE and is
kept as outside; one of a rail whose domain is not ON changes nothing; a return inside clears the kept level. WAKE without SHUTDOWN puts
every enabled OFF domain but 0, 1 and 3 in WAKE_WAIT. (Derived from R541, R542, R543, R544, R548, R550, R552, R553, R557, R558, R559, R628.)
-/
def Obligations.PowerDomains : Prop :=
  (∀ (s : State) (d : Fin 8), d.val < 2 → exec (.pwrReqOn d) s = .next s) ∧
  (∀ (s : State) (d : Fin 8), 2 ≤ d.val → d.val ≠ 3 → s.domState d.val = 0 → s.domEn d.val = true → s.is fPWR_THERM_SHUTDOWN = false
    → ∃ t, exec (.pwrReqOn d) s = .next t ∧ t.domState d.val = 1 ∧ t.gov.queue.any (fun x => x.1 == GovEvt.domain d.val) = true) ∧
  (∀ (s : State) (d : Fin 8), 2 ≤ d.val → s.domState d.val = 0 → s.domEn d.val = false → exec (.pwrReqOn d) s = .next (s.pwrRefuse
    d.val 2)) ∧
  (∀ (s : State) (d : Fin 8) (path : Fin 6), d.val < 2 → exec (.pwrReqOff d path) s = .next (s.pwrRefuse d.val 1)) ∧
  (∀ (s : State) (path : Fin 6), s.domState 5 = 3 → s.domBusy 5 = false → exec (.pwrReqOff 5 path) s = .next ((s.setReq 5 0).setDom
    5 4)) ∧
  (∀ (s : State) (d : Fin 8), d.val ≠ 5 → exec (.pwrReqRetain d) s = .next (s.pwrRefuse d.val 1)) ∧
  (∀ (s : State), s.domState 5 = 3 → s.domEn 5 = true → s.domBusy 5 = false → s.is fPWR_THERM_SHUTDOWN = false → exec (.pwrReqRetain
    5) s = .next ((s.setReq 5 2).rewindAll)) ∧
  (∀ (s : State) (n : Nat) (d : Nat) (fr : Bool), d < 8 → s.gov.queue = [(GovEvt.domain d, fr)] → s.gov.ramps = [] →
    s.gov.lastDomain = none → ∃ t, exec (.governorAdmit n) s = .next t ∧ t.domState d = 2 ∧ t.gov.queue = [] ∧ t.gov.tick =
    s.gov.tick + max 1 n ∧ t.gov.lastDomain = some (s.gov.tick + max 1 n)) ∧
  (∀ (s : State) (d : Fin 8), s.domState d.val = 4 → s.pwr.onAfter.testBit d.val = false → ∃ t, exec (.saveDone d) s = .next t ∧
    t.domState d.val = 0) ∧
  (∀ (s : State), s.domState 5 = 4 → s.pwr.onAfter.testBit 5 = false → ∃ t, exec (.saveDone 5) s = .next t ∧ t.domState 5 = 0 ∧
    t.queues = [] ∧ t.outs = s.outs) ∧
  (∀ (s : State) (d : Fin 8), s.domState d.val ≠ 4 → exec (.saveDone d) s = .next s) ∧
  (∀ (s : State) (d : Fin 8), s.domState d.val = 2 → d.val = 3 ∨ d.val = 4 → s.pwr.ever.testBit d.val = true → exec (.wakeDone d) s
    = .next (s.setDom d.val 6)) ∧
  (∀ (s : State), s.domState 5 = 2 → s.pwr.kept = false → s.pwr.offAfter.testBit 5 = false → exec (.wakeDone 5) s = .next
    ({ s.setDom 5 3 with pwr := { s.pwr with ever := withBit s.pwr.ever 5 true } })) ∧
  (∀ (s : State), s.domState 6 = 2 → s.pwr.offAfter.testBit 6 = false → exec (.wakeDone 6) s = .next
    (({ s.setDom 6 3 with pwr := { s.pwr with ever := withBit s.pwr.ever 6 true } } : State).govAsk .dram)) ∧
  (∀ (s : State), s.domState 4 = 6 → s.newestSlot = none → s.pwr.offAfter.testBit 4 = false → ∃ t, exec (.tableReloadDone 4) s =
    .next t ∧ t.domState 4 = 3) ∧
  (∀ (s : State) (d : Fin 8), s.domState d.val ≠ 6 → exec (.tableReloadDone d) s = .next s) ∧
  (∀ (s : State), s.domState 5 = 3 → natBits (s.get fPWR_REQ_REQ) 10 2 = 2 → exec .retainEntered s = .next (s.setDom 5 5)) ∧
  (∀ (s : State), s.domState 5 ≠ 3 ∨ natBits (s.get fPWR_REQ_REQ) 10 2 ≠ 2 → exec .retainEntered s = .next s) ∧
  (∀ (s : State), s.is fPWR_THERM_SHUTDOWN = false ∨ 1520 ≤ s.geti fPWR_THERM_TJ → exec .sdClear s = .next s) ∧
  (∀ (s : State), s.is fPWR_THERM_SHUTDOWN = true → s.geti fPWR_THERM_TJ < 1520 → ∃ t, exec .sdClear s = .next t ∧ t.is
    fPWR_THERM_SHUTDOWN = false) ∧
  (∀ (s : State) (rail : Fin 8), rail.val = 0 → ∃ t, exec (.supplyExcursion rail true) s = .next t ∧ t.is fPWR_SUPPLY_CORE = true ∧
    t.selv.rails.testBit 0 = true ∧ Only [aPWR_SUPPLY, aPWR_COUNT] s t) ∧
  (∀ (s : State) (rail : Fin 8), exec (.supplyExcursion rail false) s = .next
    ({ s with selv := { s.selv with rails := withBit s.selv.rails rail.val false } })) ∧
  (∀ (s : State), s.is fPWR_THERM_SHUTDOWN = false → ∃ t, exec .wake s = .next t ∧ ∀ d, 2 ≤ d → d < 8 → d ≠ 3 → s.domEn d = true →
    s.domState d = 0 → t.domState d = 1) ∧
  (∀ (s : State) (d : Fin 8), 2 ≤ d.val → s.domState d.val = 3 ∨ s.domState d.val = 6 ∨ s.domState d.val = 1 ∨ s.domState d.val = 2
    → ∃ t, exec (.pwrReqOn d) s = .next t ∧ t.get fPWR_REQ_REQ = (s.setReq d.val 1).get fPWR_REQ_REQ ∧ t.pwr.offAfter = withBit
    s.pwr.offAfter d.val false ∧ Only [aPWR_REQ] s t) ∧
  (∀ (s : State) (d : Fin 8) (path : Fin 6), 2 ≤ d.val → s.domState d.val = 0 ∨ s.domState d.val = 4 → ∃ t, exec (.pwrReqOff d path)
    s = .next t ∧ t.get fPWR_REQ_REQ = (s.setReq d.val 0).get fPWR_REQ_REQ ∧ t.pwr.onAfter = withBit s.pwr.onAfter d.val false ∧
    Only [aPWR_REQ] s t) ∧
  (∀ (s : State), s.domState 5 = 5 → exec (.pwrReqRetain 5) s = .next s) ∧
  (∀ (s : State) (d : Fin 8), s.domState d.val = 4 → s.pwr.onAfter.testBit d.val = true → ∃ t, exec (.saveDone d) s = .next t ∧
    t.domState d.val = 1) ∧
  (∀ (s : State) (d : Fin 8), s.domState d.val ≠ 2 → exec (.wakeDone d) s = .next s) ∧
  (∀ (s : State) (rail : Fin 8), 2 ≤ rail.val → s.domOn rail.val = false → exec (.supplyExcursion rail true) s = .next s)

/-- A loss of power or a reset keeps what R528 names, the restore of an empty Bobbin is held and bare, and the hold is released as asked.
POWER_LOSS, no Bobbin activity writing, with VDD_AON leaves the reset state with the waiting commands, the free values (one taken) and
Bobbin alone kept; without it Bobbin, the AON lock latch, the ageing accumulators and the retained address stay, the outputs and queues
being as at reset; while one writes, Bobbin stays but for a mark of an ageing record in part. POWER_UP after a loss that left VDD_AON up,
with an empty Bobbin, leaves HOLD_ACTIVE, HEAD as strapped, RESET_CAUSE 1, the latch and CAP_LOCK as the latch had them, and the ageing
state; after another loss, POWER_UP and RESET_N with an empty Bobbin leave HOLD_ACTIVE, HEAD as strapped, PD_LINK asked to wake and
RESET_CAUSE 0 and 1, FW_STATE BARE after POWER_UP. CAP_LOCK and the AON latch then read the AON latch, and after such a POWER_UP with
INTERLOCK_N low 0; a RESET_N keeps the ageing accumulators and leaves no output driven by boundary scan. RESTORE_DONE is set, nothing else
changing, once the restore runs and its wakes are done; otherwise nothing changes. WAKE_TAKEOVER after a handoff, from 40 mt on, an enabled
domain above 1 not asked for, sets WAKE_TAKEOVER and asks every enabled domain; before 40 mt, with no handoff, after RESTORE_DONE or a
second time it changes nothing. RESUME before RESTORE_DONE sets RESUME_EARLY alone, after it with no hold changes nothing, with one ends it
with RESUMED_BY 1, only MGMT_RESUME and TB_LOAD_CTRL changing. AUTO_RESUME with the hold, RESTORE_DONE, AUTO_ARMED and the three conditions
ends it with RESUMED_BY 2 likewise; with any of the six absent it changes nothing. (Derived from R245, R455, R528, R529, R532, R534, R535,
R593, R637.) -/
def Obligations.ResetsAndRestore : Prop :=
  (∀ (s : State), s.bobbinWrites = false → exec (.powerLoss true) s = .next
    ({ State.reset with pending := s.pending, freeIdx := s.freeIdx + 1, bobbin := s.bobbin })) ∧
  (∀ (s : State) (aon : Bool), ∃ t, exec (.powerLoss aon) s = .next t ∧ t.bobbin = { s.bobbin with ageBad := t.bobbin.ageBad } ∧
    t.freeIdx = s.freeIdx + 1 ∧ t.regs.find aMGMT_CKPT = none) ∧
  (∀ (s : State), s.bobbinWrites = false → ∃ t, exec (.powerLoss false) s = .next t ∧ t.bobbin = s.bobbin ∧ t.mgmt.aonKept = true ∧
    t.aonLock = s.aonLock ∧ t.health = s.health ∧ t.chain.aonAddr = s.chain.aonAddr ∧ t.outs = State.reset.outs ∧ t.queues = []) ∧
  (∀ (s : State) (head ilLow : Bool), s.bobbin = State.reset.bobbin → s.mgmt.aonKept = true → ∃ t, exec (.powerUp head ilLow) s =
    .next t ∧ t.is fMGMT_RESUME_HOLD_ACTIVE = true ∧ t.is fCHAIN_ADDR_HEAD = head ∧ t.is fLIGHT_LOCK_CAP_LOCK = s.aonLock ∧
    t.aonLock = s.aonLock ∧ t.health = s.health ∧ t.get fMGMT_STATUS_RESET_CAUSE = 1) ∧
  (∀ (s : State) (head ilLow : Bool), s.bobbin = State.reset.bobbin → s.mgmt.aonKept = false → ∃ t, exec (.powerUp head ilLow) s =
    .next t ∧ t.is fMGMT_RESUME_HOLD_ACTIVE = true ∧ t.is fCHAIN_ADDR_HEAD = head ∧ t.fwState = 0 ∧ t.domState 7 = 1 ∧ t.is
    fLIGHT_LOCK_CAP_LOCK = (s.aonLock && !ilLow) ∧ t.aonLock = (s.aonLock && !ilLow) ∧ t.get fMGMT_STATUS_RESET_CAUSE = 0) ∧
  (∀ (s : State) (head : Bool) (low : ResetLow), s.bobbin = State.reset.bobbin → ∃ t, exec (.resetN head low) s = .next t ∧ t.is
    fMGMT_RESUME_HOLD_ACTIVE = true ∧ t.is fCHAIN_ADDR_HEAD = head ∧ t.domState 7 = 1 ∧ t.is fLIGHT_LOCK_CAP_LOCK = s.aonLock ∧
    t.aonLock = s.aonLock ∧ t.health = s.health ∧ t.get fMGMT_STATUS_RESET_CAUSE = 1 ∧ t.bscan.drive = []) ∧
  (∀ (s : State), s.is fMGMT_RESTORE_RESTORE_DONE = false → s.restoreHold = true → s.wakesDone = true → exec .restoreDone s = .next
    (s.flag fMGMT_RESTORE_RESTORE_DONE)) ∧
  (∀ (s : State), s.is fMGMT_RESTORE_RESTORE_DONE = true ∨ s.restoreHold = false ∨ s.wakesDone = false → exec .restoreDone s = .next
    s) ∧
  (∀ (s : State) (d : Fin 8), s.is fMGMT_RESTORE_WAKE_HANDOFF = true → s.is fMGMT_RESTORE_RESTORE_DONE = false → s.is
    fMGMT_RESTORE_WAKE_TAKEOVER = false → 40 ≤ s.mgmt.wakeMt → 2 ≤ d.val → s.domEn d.val = true → natBits (s.get fPWR_REQ_REQ) (2
    * d.val) 2 = 0 → exec .wakeTakeover s = .next ((s.flag fMGMT_RESTORE_WAKE_TAKEOVER).wakeAll)) ∧
  (∀ (s : State), s.mgmt.wakeMt < 40 ∨ s.is fMGMT_RESTORE_WAKE_HANDOFF = false ∨ s.is fMGMT_RESTORE_RESTORE_DONE = true ∨ s.is
    fMGMT_RESTORE_WAKE_TAKEOVER = true → exec .wakeTakeover s = .next s) ∧
  (∀ (s : State), s.is fMGMT_RESTORE_RESTORE_DONE = true → s.restoreHold = false → exec .resume s = .next s) ∧
  (∀ (s : State), s.is fMGMT_RESTORE_RESTORE_DONE = false → exec .resume s = .next (s.flag fMGMT_RESUME_RESUME_EARLY)) ∧
  (∀ (s : State), s.restoreHold = true → s.is fMGMT_RESTORE_RESTORE_DONE = true → ∃ t, exec .resume s = .next t ∧ t.restoreHold =
    false ∧ t.get fMGMT_RESUME_RESUMED_BY = 1 ∧ Only [aMGMT_RESUME, aTB_LOAD_CTRL] s t) ∧
  (∀ (s : State), s.restoreHold = true → s.is fMGMT_RESTORE_RESTORE_DONE = true → s.is fMGMT_RESUME_AUTO_ARMED = true → s.condClk =
    true → s.condChain = true → s.condCal = true → ∃ t, exec .autoResume s = .next t ∧ t.restoreHold = false ∧ t.get
    fMGMT_RESUME_RESUMED_BY = 2 ∧ Only [aMGMT_RESUME, aTB_LOAD_CTRL] s t) ∧
  (∀ (s : State), s.restoreHold = false ∨ s.is fMGMT_RESTORE_RESTORE_DONE = false ∨ s.is fMGMT_RESUME_AUTO_ARMED = false ∨ s.condClk
    = false ∨ s.condChain = false ∨ s.condCal = false → exec .autoResume s = .next s)

/-- A detected fault becomes a record, an active class and a first record; classes and the hold clear by command; injections end.
SELVEDGE_FAULT_REPORT without a detection changes nothing. With one of classes 1 to 25 alone that is no repeat, the log slot at WR takes its
instant, its fault word and the module address with SEQ, WR advances mod 64, its bit of FAULT_ACTIVE is set, FIRST_VALID is set and the
detection is gone; one that is a repeat only counts in EVENTS and REPEATS. FAULT received for this placed module (not broadcast) sets
REMOTE, RX_VALID and the sender, advances WR and leaves FAULT_ACTIVE. FAULT_ACTIVE_CLEAR of one class whose level does not hold clears that
bit and no other; of one active whose level holds it sets CLEAR_REFUSED and clears none. HOLD_RELEASE with no fault hold changes nothing;
with a class of HOLD_EN active it sets CLEAR_REFUSED alone; else the hold ends, only FAULT_STATUS and TB_LOAD_CTRL changing. PIN_FAULT of a
pad that Selvedge asserts is a detection of class 24 with the pad as UNIT, of one it does not assert nothing. SELVEDGE_DISAGREE is a
detection of class 25, SUB 1; LOGIC_MISMATCH of class 23 with its island and SUB. SVC_STALE sets its flag from 2 DET_PERIOD mt on, earlier
nothing. MISSED of an injection without its record that is no TEST, at the end of its window, sets MISSED, clears BUSY and marks it done; of
one done, or with none, nothing. INJECTION_END of a BUSY one that is no TEST, at the end of its extent, clears BUSY, for a supply the rail
is back, and for an open loop the guard counts from then on; where its extent is not over, with none BUSY or none at all, nothing changes.
(Derived from R444, R568, R569, R574, R575, R576, R577, R580, R581, R582, R583, R584.) -/
def Obligations.FaultReports : Prop :=
  (∀ (s : State), s.detected = [] → exec .selvedgeFaultReport s = .next s) ∧
  (∀ (s : State) (d : Det), s.detected = [d] → s.isRepeat d = false → 1 ≤ d.cls → d.cls ≤ 25 → ∃ t, exec .selvedgeFaultReport s =
    .next t ∧ t.word (aFAULT_LOG + 4 * s.get fFAULT_LOG_PTR_WR) = tsLo d.inst ∧ t.word (aFAULT_LOG + 4 * s.get fFAULT_LOG_PTR_WR +
    1) = tsHi d.inst ∧ t.word (aFAULT_LOG + 4 * s.get fFAULT_LOG_PTR_WR + 2) = d.word ∧ t.word (aFAULT_LOG + 4 * s.get
    fFAULT_LOG_PTR_WR + 3) = BitVec.ofNat 36 (s.addr * 2 ^ 26 + (s.selv.seq + 1) % 2 ^ 26) ∧ t.get fFAULT_LOG_PTR_WR = (s.get
    fFAULT_LOG_PTR_WR + 1) % 64 ∧ t.classBit fFAULT_ACTIVE_ACTIVE d.cls = true ∧ t.is fFAULT_STATUS_FIRST_VALID = true ∧
    t.detected = []) ∧
  (∀ (s : State) (d : Det), s.detected = [d] → s.isRepeat d = true → exec .selvedgeFaultReport s = .next
    ((({ s with detected := [] } : State).bump fFAULT_COUNT_EVENTS (d.cls - 1)).bump fFAULT_COUNT_REPEATS (d.cls - 1))) ∧
  (∀ (s : State) (p : Fin 2) (f : ChFrame) (crc : Fin (2 ^ 32)), s.chained = true → s.portUp p.val = true → (s.port p.val).heard =
    true → f.typ = 4 → frCrcOk f crc.val = true → frLenOk f = true → s.placed = true → f.dst = s.addr → f.dst ≠ 1023 → ∃ t, exec
    (.fault p f crc) s = .next t ∧ t.is fFAULT_STATUS_REMOTE = true ∧ t.is fCHAIN_FAULT_RX_VALID = true ∧ t.get
    fCHAIN_FAULT_RX_SRC = f.src % 1024 ∧ t.get fFAULT_LOG_PTR_WR = (s.get fFAULT_LOG_PTR_WR + 1) % 64 ∧ t.get fFAULT_ACTIVE_ACTIVE
    = s.get fFAULT_ACTIVE_ACTIVE) ∧
  (∀ (s : State) (c : Fin 26), 1 ≤ c.val → s.levelHolds c.val = false → ∃ t, exec (.faultActiveClear (Fin.ofNat (2 ^ 31) (2 ^ (c.val
    - 1)))) s = .next t ∧ t.classBit fFAULT_ACTIVE_ACTIVE c.val = false ∧ ∀ e, 1 ≤ e → e ≤ 25 → e ≠ c.val → t.classBit
    fFAULT_ACTIVE_ACTIVE e = s.classBit fFAULT_ACTIVE_ACTIVE e) ∧
  (∀ (s : State) (c : Fin 26), 1 ≤ c.val → s.levelHolds c.val = true → s.classBit fFAULT_ACTIVE_ACTIVE c.val = true → ∃ t, exec
    (.faultActiveClear (Fin.ofNat (2 ^ 31) (2 ^ (c.val - 1)))) s = .next t ∧ t.is fFAULT_STATUS_CLEAR_REFUSED = true ∧ t.get
    fFAULT_ACTIVE_ACTIVE = s.get fFAULT_ACTIVE_ACTIVE) ∧
  (∀ (s : State), s.faultHold = false → exec .holdRelease s = .next s) ∧
  (∀ (s : State), s.faultHold = true → (s.get fFAULT_ACTIVE_ACTIVE &&& s.get fFAULT_HOLD_EN_EN) ≠ 0 → exec .holdRelease s = .next
    (s.flag fFAULT_STATUS_CLEAR_REFUSED)) ∧
  (∀ (s : State), s.faultHold = true → (s.get fFAULT_ACTIVE_ACTIVE &&& s.get fFAULT_HOLD_EN_EN) = 0 → ∃ t, exec .holdRelease s =
    .next t ∧ t.faultHold = false ∧ Only [aFAULT_STATUS, aTB_LOAD_CTRL] s t) ∧
  (∀ (s : State) (pin : Fin 2), s.is (if pin.val = 0 then fFAULT_STATUS_FAULT_N else fFAULT_STATUS_INT_N) = true → exec (.pinFault
    pin) s = .next (s.report 24 pin.val 0)) ∧
  (∀ (s : State) (pin : Fin 2), s.is (if pin.val = 0 then fFAULT_STATUS_FAULT_N else fFAULT_STATUS_INT_N) = false → exec (.pinFault
    pin) s = .next s) ∧
  (∀ (s : State), exec .selvedgeDisagree s = .next (s.report 25 25 1)) ∧
  (∀ (s : State), 2 * max 1 (s.get fFAULT_CFG_DET_PERIOD) ≤ s.selv.svcMt → exec .svcStale s = .next (s.flag
    fFAULT_STATUS_SVC_STALE)) ∧
  (∀ (s : State), s.selv.svcMt < 2 * max 1 (s.get fFAULT_CFG_DET_PERIOD) → exec .svcStale s = .next s) ∧
  (∀ (s : State) (island : Fin 10) (sub : Fin 3), exec (.logicMismatch island sub) s = .next (s.report 23 island.val sub.val)) ∧
  (∀ (s : State) (y : InjSt), s.selv.inj = some y → y.done = false → y.test = false → exec .missed s = .next ((((s.flowTo (tAdd
    y.start (s.usUp (s.injWindow y)))).setInj { y with done := true }).flag fFAULT_INJ_STATUS_MISSED).unflag
    fFAULT_INJ_STATUS_BUSY)) ∧
  (∀ (s : State), s.selv.inj.any (fun x => !x.done) = false → exec .missed s = .next s) ∧
  (∀ (s : State) (y : InjSt) (u : Nat), s.selv.inj = some y → s.is fFAULT_INJ_STATUS_BUSY = true → y.test = false → y.kind ≠ 22 →
    y.kind ≠ 4 → s.injEnd y = some u → exec .injectionEnd s = .next ((s.flowTo u).unflag fFAULT_INJ_STATUS_BUSY)) ∧
  (∀ (s : State) (y : InjSt) (u : Nat), s.selv.inj = some y → s.is fFAULT_INJ_STATUS_BUSY = true → y.test = false → y.kind = 4 →
    s.injEnd y = some u → ∃ t, exec .injectionEnd s = .next t ∧ t.is fFAULT_INJ_STATUS_BUSY = false ∧ t.clk.guardAt = t.now) ∧
  (∀ (s : State) (y : InjSt) (u : Nat), s.selv.inj = some y → s.is fFAULT_INJ_STATUS_BUSY = true → y.test = false → y.kind = 22 →
    s.injEnd y = some u → ∃ t, exec .injectionEnd s = .next t ∧ t.is fFAULT_INJ_STATUS_BUSY = false ∧ t.selv.rails.testBit y.unit
    = false) ∧
  (∀ (s : State) (y : InjSt), s.selv.inj = some y → s.injEnd y = none → exec .injectionEnd s = .next s) ∧
  (∀ (s : State), s.is fFAULT_INJ_STATUS_BUSY = false ∨ s.selv.inj = none → exec .injectionEnd s = .next s)

/-- GO of each injection kind is refused with its reason or starts the injection, and the kinds that act at once do so. GO of each kind
keeps KIND, UNIT, COUNT and TEST and clears INJ_EN. With a reason to refuse (1: INJ_EN not set; 2: no such target or VALUE; 3: one runs; 4:
the target is held) it sets REFUSED and that REASON and changes nothing else. Otherwise BUSY is set, REASON is 0 and the injection is kept
with its kind, unit, VALUE and extent (COUNT with 0 as 1 for the kinds with one), from 256 wc on for kinds 1, 2, 3 and 15. For GEN_SHIFT,
GEN_MISS, BALL_STUCK, SRAM_SBE, SRAM_DBE, DRAM_SBE, DRAM_DBE, LINK_DROP, JESD_CRC, SLICE_CMP, WEFT_RESIDUE, KICK_BLOCK, SENSOR and MONITOR,
and for every kind under TEST, that is all. Not under TEST, at once: PLLW_UNLOCK is a loss of lock; PLLW_STEP with the phase watch at work
flags a step above 5 ps, and one below 2 ps or with the watch not at work only takes a free value (BUSY set in every case); REF_STOP is
REF_ACTIVITY_LOSS of its reference; TRIPLE_FLIP a masked detection of class 7 with the word's address; STRUCT_FLIP flips its bit of the
word; SLICE_PAR is SLICE_PLAUS_FAULT of its slice; LOCKSTEP is LOCKSTEP; SUPPLY an excursion of its rail; PIN a PIN_FAULT; LOGIC detects one
fault more, its check a free value, BUSY staying set. A KIND not used (0 or above 24) sets REFUSED and keeps KIND, only FAULT_INJ_CTRL and
FAULT_INJ_STATUS changing; a used KIND is no such GO and changes nothing. (Derived from R581, R582, R583.) -/
def Obligations.Injections : Prop :=
  (∀ (s : State) (unit : Fin 2048) (count : Fin 16384) (test en : Bool), s.injReason en 1 unit.val = 0 → exec (.genShift unit count
    test en) s = .next (((s.injCtrl 1 unit.val count.val test).injStart 1 unit.val count.val test))) ∧
  (∀ (s : State) (unit : Fin 2048) (count : Fin 16384) (test en : Bool), s.injReason en 1 unit.val ≠ 0 → exec (.genShift unit count
    test en) s = .next ((s.injCtrl 1 unit.val count.val test).injRefuse (s.injReason en 1 unit.val))) ∧
  (∀ (s : State) (unit : Fin 2048) (count : Fin 16384) (test en : Bool), s.injReason en 2 unit.val = 0 → exec (.genMiss unit count
    test en) s = .next (((s.injCtrl 2 unit.val count.val test).injStart 2 unit.val count.val test))) ∧
  (∀ (s : State) (unit : Fin 2048) (count : Fin 16384) (test en : Bool), s.injReason en 2 unit.val ≠ 0 → exec (.genMiss unit count
    test en) s = .next ((s.injCtrl 2 unit.val count.val test).injRefuse (s.injReason en 2 unit.val))) ∧
  (∀ (s : State) (unit : Fin 2048) (count : Fin 16384) (test en : Bool), s.injReason en 3 unit.val = 0 → exec (.ballStuck unit count
    test en) s = .next (((s.injCtrl 3 unit.val count.val test).injStart 3 unit.val count.val test))) ∧
  (∀ (s : State) (unit : Fin 2048) (count : Fin 16384) (test en : Bool), s.injReason en 3 unit.val ≠ 0 → exec (.ballStuck unit count
    test en) s = .next ((s.injCtrl 3 unit.val count.val test).injRefuse (s.injReason en 3 unit.val))) ∧
  (∀ (s : State) (unit : Fin 2048) (count : Fin 16384) (en : Bool), s.injReason en 4 unit.val = 0 → exec (.pllwUnlock unit count
    true en) s = .next (((s.injCtrl 4 unit.val count.val true).injStart 4 unit.val count.val true))) ∧
  (∀ (s : State) (unit : Fin 2048) (count : Fin 16384) (en : Bool), s.injReason en 4 unit.val = 0 → exec (.pllwUnlock unit count
    false en) s = .next ((((s.injCtrl 4 unit.val count.val false).injStart 4 unit.val count.val false)).lockLoss)) ∧
  (∀ (s : State) (unit : Fin 2048) (count : Fin 16384) (test en : Bool), s.injReason en 4 unit.val ≠ 0 → exec (.pllwUnlock unit
    count test en) s = .next ((s.injCtrl 4 unit.val count.val test).injRefuse (s.injReason en 4 unit.val))) ∧
  (∀ (s : State) (unit : Fin 2048) (count : Fin 16384) (en : Bool), s.injReason en 5 unit.val = 0 → exec (.pllwStep unit count true
    en) s = .next (((s.injCtrl 5 unit.val count.val true).injStart 5 unit.val count.val true))) ∧
  (∀ (s : State) (unit : Fin 2048) (count : Fin 16384) (en : Bool) (s1 : State) (d : Int), s.injReason en 5 unit.val = 0 → s1 =
    (s.injCtrl 5 unit.val count.val false).injStart 5 unit.val count.val false → d = sgn 10 (getBits (s.word aFAULT_INJ_ARG) 26
    10) → s1.free.2.watches s.nowT = true → s1.free.2.psUp 5 < d.natAbs → exec (.pllwStep unit count false en) s = .next
    (s1.free.2.phaseFlag d s.nowT)) ∧
  (∀ (s : State) (unit : Fin 2048) (count : Fin 16384) (en : Bool) (s1 : State) (d : Int), s.injReason en 5 unit.val = 0 → s1 =
    (s.injCtrl 5 unit.val count.val false).injStart 5 unit.val count.val false → d = sgn 10 (getBits (s.word aFAULT_INJ_ARG) 26
    10) → s1.free.2.watches s.nowT = false ∨ d = 0 ∨ (d.natAbs ≤ s1.free.2.psUp 5 ∧ d.natAbs < s1.free.2.psUp 2) → exec (.pllwStep
    unit count false en) s = .next s1.free.2) ∧
  (∀ (s : State) (unit : Fin 2048) (count : Fin 16384) (en : Bool), s.injReason en 5 unit.val = 0 → ∃ t, exec (.pllwStep unit count
    false en) s = .next t ∧ t.is fFAULT_INJ_STATUS_BUSY = true ∧ t.get fFAULT_INJ_STATUS_REASON = 0 ∧ t.is fFAULT_INJ_CTRL_INJ_EN
    = false ∧ t.freeIdx = s.freeIdx + 1) ∧
  (∀ (s : State) (unit : Fin 2048) (count : Fin 16384) (test en : Bool), s.injReason en 5 unit.val ≠ 0 → exec (.pllwStep unit count
    test en) s = .next ((s.injCtrl 5 unit.val count.val test).injRefuse (s.injReason en 5 unit.val))) ∧
  (∀ (s : State) (unit : Fin 2048) (count : Fin 16384) (en : Bool), s.injReason en 6 unit.val = 0 → exec (.refStop unit count true
    en) s = .next (((s.injCtrl 6 unit.val count.val true).injStart 6 unit.val count.val true))) ∧
  (∀ (s : State) (unit : Fin 2048) (count : Fin 16384) (en : Bool), s.injReason en 6 unit.val = 0 → exec (.refStop unit count false
    en) s = .next ((execRefActivityLoss (unit.val == 1) (((s.injCtrl 6 unit.val count.val false).injStart 6 unit.val count.val
    false))).after (((s.injCtrl 6 unit.val count.val false).injStart 6 unit.val count.val false)))) ∧
  (∀ (s : State) (unit : Fin 2048) (count : Fin 16384) (test en : Bool), s.injReason en 6 unit.val ≠ 0 → exec (.refStop unit count
    test en) s = .next ((s.injCtrl 6 unit.val count.val test).injRefuse (s.injReason en 6 unit.val))) ∧
  (∀ (s : State) (unit : Fin 2048) (count : Fin 16384) (en : Bool), s.injReason en 7 unit.val = 0 → exec (.tripleFlip unit count
    true en) s = .next (((s.injCtrl 7 unit.val count.val true).injStart 7 unit.val count.val true))) ∧
  (∀ (s : State) (unit : Fin 2048) (count : Fin 16384) (en : Bool), s.injReason en 7 unit.val = 0 → exec (.tripleFlip unit count
    false en) s = .next ((((s.injCtrl 7 unit.val count.val false).injStart 7 unit.val count.val false)).detect 7 (getBits (s.word
    aFAULT_INJ_ARG) 12 24 / 2 ^ 14) 0 (getBits (s.word aFAULT_INJ_ARG) 12 24 % 2 ^ 14) true s.nowT)) ∧
  (∀ (s : State) (unit : Fin 2048) (count : Fin 16384) (test en : Bool), s.injReason en 7 unit.val ≠ 0 → exec (.tripleFlip unit
    count test en) s = .next ((s.injCtrl 7 unit.val count.val test).injRefuse (s.injReason en 7 unit.val))) ∧
  (∀ (s : State) (unit : Fin 2048) (count : Fin 16384) (en : Bool), s.injReason en 8 unit.val = 0 → exec (.structFlip unit count
    true en) s = .next (((s.injCtrl 8 unit.val count.val true).injStart 8 unit.val count.val true))) ∧
  (∀ (s : State) (unit : Fin 2048) (count : Fin 16384) (en : Bool), s.injReason en 8 unit.val = 0 → exec (.structFlip unit count
    false en) s = .next ((((s.injCtrl 8 unit.val count.val false).injStart 8 unit.val count.val false)).setWord (getBits (s.word
    aFAULT_INJ_ARG) 12 24) ((((s.injCtrl 8 unit.val count.val false).injStart 8 unit.val count.val false)).word (getBits (s.word
    aFAULT_INJ_ARG) 12 24) ^^^ (1 <<< getBits (s.word aFAULT_INJ_ARG) 6 6)))) ∧
  (∀ (s : State) (unit : Fin 2048) (count : Fin 16384) (test en : Bool), s.injReason en 8 unit.val ≠ 0 → exec (.structFlip unit
    count test en) s = .next ((s.injCtrl 8 unit.val count.val test).injRefuse (s.injReason en 8 unit.val))) ∧
  (∀ (s : State) (unit : Fin 2048) (count : Fin 16384) (test en : Bool), s.injReason en 9 unit.val = 0 → exec (.sramSbe unit count
    test en) s = .next (((s.injCtrl 9 unit.val count.val test).injStart 9 unit.val count.val test))) ∧
  (∀ (s : State) (unit : Fin 2048) (count : Fin 16384) (test en : Bool), s.injReason en 9 unit.val ≠ 0 → exec (.sramSbe unit count
    test en) s = .next ((s.injCtrl 9 unit.val count.val test).injRefuse (s.injReason en 9 unit.val))) ∧
  (∀ (s : State) (unit : Fin 2048) (count : Fin 16384) (test en : Bool), s.injReason en 10 unit.val = 0 → exec (.sramDbe unit count
    test en) s = .next (((s.injCtrl 10 unit.val count.val test).injStart 10 unit.val count.val test))) ∧
  (∀ (s : State) (unit : Fin 2048) (count : Fin 16384) (test en : Bool), s.injReason en 10 unit.val ≠ 0 → exec (.sramDbe unit count
    test en) s = .next ((s.injCtrl 10 unit.val count.val test).injRefuse (s.injReason en 10 unit.val))) ∧
  (∀ (s : State) (unit : Fin 2048) (count : Fin 16384) (test en : Bool), s.injReason en 11 unit.val = 0 → exec (.dramSbe unit count
    test en) s = .next (((s.injCtrl 11 unit.val count.val test).injStart 11 unit.val count.val test))) ∧
  (∀ (s : State) (unit : Fin 2048) (count : Fin 16384) (test en : Bool), s.injReason en 11 unit.val ≠ 0 → exec (.dramSbe unit count
    test en) s = .next ((s.injCtrl 11 unit.val count.val test).injRefuse (s.injReason en 11 unit.val))) ∧
  (∀ (s : State) (unit : Fin 2048) (count : Fin 16384) (test en : Bool), s.injReason en 12 unit.val = 0 → exec (.dramDbeInject unit
    count test en) s = .next (((s.injCtrl 12 unit.val count.val test).injStart 12 unit.val count.val test))) ∧
  (∀ (s : State) (unit : Fin 2048) (count : Fin 16384) (test en : Bool), s.injReason en 12 unit.val ≠ 0 → exec (.dramDbeInject unit
    count test en) s = .next ((s.injCtrl 12 unit.val count.val test).injRefuse (s.injReason en 12 unit.val))) ∧
  (∀ (s : State) (unit : Fin 2048) (count : Fin 16384) (test en : Bool), s.injReason en 13 unit.val = 0 → exec (.linkDrop unit count
    test en) s = .next (((s.injCtrl 13 unit.val count.val test).injStart 13 unit.val count.val test))) ∧
  (∀ (s : State) (unit : Fin 2048) (count : Fin 16384) (test en : Bool), s.injReason en 13 unit.val ≠ 0 → exec (.linkDrop unit count
    test en) s = .next ((s.injCtrl 13 unit.val count.val test).injRefuse (s.injReason en 13 unit.val))) ∧
  (∀ (s : State) (unit : Fin 2048) (count : Fin 16384) (test en : Bool), s.injReason en 14 unit.val = 0 → exec (.jesdCrc unit count
    test en) s = .next (((s.injCtrl 14 unit.val count.val test).injStart 14 unit.val count.val test))) ∧
  (∀ (s : State) (unit : Fin 2048) (count : Fin 16384) (test en : Bool), s.injReason en 14 unit.val ≠ 0 → exec (.jesdCrc unit count
    test en) s = .next ((s.injCtrl 14 unit.val count.val test).injRefuse (s.injReason en 14 unit.val))) ∧
  (∀ (s : State) (unit : Fin 2048) (count : Fin 16384) (test en : Bool), s.injReason en 15 unit.val = 0 → exec (.sliceCmp unit count
    test en) s = .next (((s.injCtrl 15 unit.val count.val test).injStart 15 unit.val count.val test))) ∧
  (∀ (s : State) (unit : Fin 2048) (count : Fin 16384) (test en : Bool), s.injReason en 15 unit.val ≠ 0 → exec (.sliceCmp unit count
    test en) s = .next ((s.injCtrl 15 unit.val count.val test).injRefuse (s.injReason en 15 unit.val))) ∧
  (∀ (s : State) (unit : Fin 2048) (count : Fin 16384) (en : Bool), s.injReason en 16 unit.val = 0 → exec (.slicePar unit count true
    en) s = .next (((s.injCtrl 16 unit.val count.val true).injStart 16 unit.val count.val true))) ∧
  (∀ (s : State) (unit : Fin 2048) (count : Fin 16384) (en : Bool), s.injReason en 16 unit.val = 0 → exec (.slicePar unit count
    false en) s = .next ((execSlicePlausFault (Fin.ofNat 9 unit.val) (((s.injCtrl 16 unit.val count.val false).injStart 16
    unit.val count.val false))).after (((s.injCtrl 16 unit.val count.val false).injStart 16 unit.val count.val false)))) ∧
  (∀ (s : State) (unit : Fin 2048) (count : Fin 16384) (test en : Bool), s.injReason en 16 unit.val ≠ 0 → exec (.slicePar unit count
    test en) s = .next ((s.injCtrl 16 unit.val count.val test).injRefuse (s.injReason en 16 unit.val))) ∧
  (∀ (s : State) (unit : Fin 2048) (count : Fin 16384) (test en : Bool), s.injReason en 17 unit.val = 0 → exec (.weftResidue unit
    count test en) s = .next (((s.injCtrl 17 unit.val count.val test).injStart 17 unit.val count.val test))) ∧
  (∀ (s : State) (unit : Fin 2048) (count : Fin 16384) (test en : Bool), s.injReason en 17 unit.val ≠ 0 → exec (.weftResidue unit
    count test en) s = .next ((s.injCtrl 17 unit.val count.val test).injRefuse (s.injReason en 17 unit.val))) ∧
  (∀ (s : State) (unit : Fin 2048) (count : Fin 16384) (en : Bool), s.injReason en 18 unit.val = 0 → exec (.injectLockstep unit
    count true en) s = .next (((s.injCtrl 18 unit.val count.val true).injStart 18 unit.val count.val true))) ∧
  (∀ (s : State) (unit : Fin 2048) (count : Fin 16384) (en : Bool), s.injReason en 18 unit.val = 0 → exec (.injectLockstep unit
    count false en) s = .next ((execLockstep (((s.injCtrl 18 unit.val count.val false).injStart 18 unit.val count.val
    false))).after (((s.injCtrl 18 unit.val count.val false).injStart 18 unit.val count.val false)))) ∧
  (∀ (s : State) (unit : Fin 2048) (count : Fin 16384) (test en : Bool), s.injReason en 18 unit.val ≠ 0 → exec (.injectLockstep unit
    count test en) s = .next ((s.injCtrl 18 unit.val count.val test).injRefuse (s.injReason en 18 unit.val))) ∧
  (∀ (s : State) (unit : Fin 2048) (count : Fin 16384) (test en : Bool), s.injReason en 19 unit.val = 0 → exec (.kickBlock unit
    count test en) s = .next (((s.injCtrl 19 unit.val count.val test).injStart 19 unit.val count.val test))) ∧
  (∀ (s : State) (unit : Fin 2048) (count : Fin 16384) (test en : Bool), s.injReason en 19 unit.val ≠ 0 → exec (.kickBlock unit
    count test en) s = .next ((s.injCtrl 19 unit.val count.val test).injRefuse (s.injReason en 19 unit.val))) ∧
  (∀ (s : State) (unit : Fin 2048) (count : Fin 16384) (test en : Bool), s.injReason en 20 unit.val = 0 → exec (.injectSensor unit
    count test en) s = .next (((s.injCtrl 20 unit.val count.val test).injStart 20 unit.val count.val test))) ∧
  (∀ (s : State) (unit : Fin 2048) (count : Fin 16384) (test en : Bool), s.injReason en 20 unit.val ≠ 0 → exec (.injectSensor unit
    count test en) s = .next ((s.injCtrl 20 unit.val count.val test).injRefuse (s.injReason en 20 unit.val))) ∧
  (∀ (s : State) (unit : Fin 2048) (count : Fin 16384) (test en : Bool), s.injReason en 21 unit.val = 0 → exec (.injectMonitor unit
    count test en) s = .next (((s.injCtrl 21 unit.val count.val test).injStart 21 unit.val count.val test))) ∧
  (∀ (s : State) (unit : Fin 2048) (count : Fin 16384) (test en : Bool), s.injReason en 21 unit.val ≠ 0 → exec (.injectMonitor unit
    count test en) s = .next ((s.injCtrl 21 unit.val count.val test).injRefuse (s.injReason en 21 unit.val))) ∧
  (∀ (s : State) (unit : Fin 2048) (count : Fin 16384) (en : Bool), s.injReason en 22 unit.val = 0 → exec (.injectSupply unit count
    true en) s = .next (((s.injCtrl 22 unit.val count.val true).injStart 22 unit.val count.val true))) ∧
  (∀ (s : State) (unit : Fin 2048) (count : Fin 16384) (en : Bool), s.injReason en 22 unit.val = 0 → exec (.injectSupply unit count
    false en) s = .next ((execSupplyExcursion (Fin.ofNat 8 unit.val) true (((s.injCtrl 22 unit.val count.val false).injStart 22
    unit.val count.val false))).after (((s.injCtrl 22 unit.val count.val false).injStart 22 unit.val count.val false)))) ∧
  (∀ (s : State) (unit : Fin 2048) (count : Fin 16384) (test en : Bool), s.injReason en 22 unit.val ≠ 0 → exec (.injectSupply unit
    count test en) s = .next ((s.injCtrl 22 unit.val count.val test).injRefuse (s.injReason en 22 unit.val))) ∧
  (∀ (s : State) (unit : Fin 2048) (count : Fin 16384) (en : Bool), s.injReason en 23 unit.val = 0 → exec (.injectLogic unit count
    true en) s = .next (((s.injCtrl 23 unit.val count.val true).injStart 23 unit.val count.val true))) ∧
  (∀ (s : State) (unit : Fin 2048) (count : Fin 16384) (en : Bool), s.injReason en 23 unit.val = 0 → ∃ t, exec (.injectLogic unit
    count false en) s = .next t ∧ t.is fFAULT_INJ_STATUS_BUSY = true ∧ t.detected.length = s.detected.length + 1 ∧ t.freeIdx =
    s.freeIdx + 1) ∧
  (∀ (s : State) (unit : Fin 2048) (count : Fin 16384) (test en : Bool), s.injReason en 23 unit.val ≠ 0 → exec (.injectLogic unit
    count test en) s = .next ((s.injCtrl 23 unit.val count.val test).injRefuse (s.injReason en 23 unit.val))) ∧
  (∀ (s : State) (unit : Fin 2048) (count : Fin 16384) (en : Bool), s.injReason en 24 unit.val = 0 → exec (.injectPin unit count
    true en) s = .next (((s.injCtrl 24 unit.val count.val true).injStart 24 unit.val count.val true))) ∧
  (∀ (s : State) (unit : Fin 2048) (count : Fin 16384) (en : Bool), s.injReason en 24 unit.val = 0 → exec (.injectPin unit count
    false en) s = .next ((execPinFault (Fin.ofNat 2 unit.val) (((s.injCtrl 24 unit.val count.val false).injStart 24 unit.val
    count.val false))).after (((s.injCtrl 24 unit.val count.val false).injStart 24 unit.val count.val false)))) ∧
  (∀ (s : State) (unit : Fin 2048) (count : Fin 16384) (test en : Bool), s.injReason en 24 unit.val ≠ 0 → exec (.injectPin unit
    count test en) s = .next ((s.injCtrl 24 unit.val count.val test).injRefuse (s.injReason en 24 unit.val))) ∧
  (∀ (s : State) (kind : Fin 256) (unit : Fin 2048) (count : Fin 16384) (test en : Bool), kind.val = 0 ∨ 24 < kind.val → ∃ t, exec
    (.injectKindNotUsed kind unit count test en) s = .next t ∧ t.is fFAULT_INJ_STATUS_REFUSED = true ∧ t.is fFAULT_INJ_CTRL_INJ_EN
    = false ∧ t.get fFAULT_INJ_CTRL_KIND = kind.val ∧ Only [aFAULT_INJ_CTRL, aFAULT_INJ_STATUS] s t ∧ RegsOnly s t) ∧
  (∀ (s : State) (kind : Fin 256) (unit : Fin 2048) (count : Fin 16384) (test en : Bool), 1 ≤ kind.val → kind.val ≤ 24 → exec
    (.injectKindNotUsed kind unit count test en) s = .next s)

/-- A powered day closes at 24 h, references are cleared, and monitor passes and the self-test of converter B act on their words. DAY_CLOSE
before 345 600 000 mt of the day changes nothing; from it on DAY_MT loses a day and the snapshot joins the last seven, the accumulators
staying. TRIM_REREF clears REF_SET of all 104 units and keeps their C_NOW, only register words changing. LAMP_REREF clears VALID of all 32
outputs and every B_REF. MON_PASS gives each enabled entry of converter A its VALUE, the code it converted scaled by its gain (with an
offset where an injection acts on channel 39), and SAT for the code 4095, whether or not B runs. MON_SELFTEST_GO with B's sequence (resource
30) free sets BUSY and makes activity 13 its writer; with it held it sets MAINT_BUSY, LAST_ACT and LAST_RES, no other word changing.
MON_SELFTEST_DONE of a self-test whose B has stopped, with a mean for every pair of reference and gain: with every mean within XCHK_TOL of
its reference BUSY and XCHK_OFF clear, DONE is set and B runs; with one off BUSY clears, ST_FAIL is set, B runs and one fault is detected.
With none BUSY, B still running, or a pair missing it changes nothing. (Derived from R589, R594, R595, R599, R600, R601, R602, R603.) -/
def Obligations.AgeingAndMonitors : Prop :=
  (∀ (s : State), s.get fHEALTH_DAY_MT_DAY_MT < dayTicks → exec .dayClose s = .next s) ∧
  (∀ (s : State), dayTicks ≤ s.get fHEALTH_DAY_MT_DAY_MT → ∃ t, exec .dayClose s = .next t ∧ t.get fHEALTH_DAY_MT_DAY_MT = s.get
    fHEALTH_DAY_MT_DAY_MT - dayTicks ∧ t.health.snaps = (s.snap :: s.health.snaps).take 7 ∧ t.health.acc = s.health.acc) ∧
  (∀ (s : State), ∃ t, exec .trimReref s = .next t ∧ (∀ g, g < 104 → t.is fHEALTH_TRIM_REF_SET g = false) ∧ (∀ g, g < 104 → t.get
    fHEALTH_TRIM_C_NOW g = s.get fHEALTH_TRIM_C_NOW g) ∧ RegsOnly s t) ∧
  (∀ (s : State), ∃ t, exec .lampReref s = .next t ∧ (∀ l, l < 32 → t.is fHEALTH_LAMP_VALID l = false) ∧ t.health.bref =
    List.replicate 32 none) ∧
  (∀ (s : State) (a b : List (Fin 4096)) (late : Bool) (e : Fin 16), e.val < a.length → s.is fMON_SEQ_EN e.val = true → ∃ t, exec
    (.monPass a b late) s = .next t ∧ t.get fMON_RES_VALUE e.val = s.monRead 0 e.val ((a.getD e.val 0).val) % 2 ^ 16 ∧ t.is
    fMON_RES_SAT e.val = ((a.getD e.val 0).val == 4095)) ∧
  (∀ (s : State), s.resFree 30 true = true → ∃ t, exec .monSelftestGo s = .next t ∧ t.is fMON_SELFTEST_BUSY = true ∧ t.get
    fMAINT_OWNER_WRITER 30 = 13) ∧
  (∀ (s : State), s.resFree 30 true = false → ∃ t, exec .monSelftestGo s = .next t ∧ t.is fMON_SELFTEST_MAINT_BUSY = true ∧ t.get
    fMAINT_STATUS_LAST_ACT = 13 ∧ t.get fMAINT_STATUS_LAST_RES = 30 ∧ Only [aMON_SELFTEST, aMAINT_STATUS] s t) ∧
  (∀ (s : State) (means : List (Fin 3 × Fin 4 × Nat)), s.is fMON_SELFTEST_BUSY = true → s.lamps.stopB = true → selftestPairs.all
    (fun p => means.any (fun m => m.1 == p.1 && m.2.1 == p.2)) = true → means.all (fun m => decide (((m.2.2 : Int) - (monRef
    m.1.val : Nat)).natAbs ≤ s.get fMON_CFG_XCHK_TOL)) = true → ∃ t, exec (.monSelftestDone means) s = .next t ∧ t.is
    fMON_SELFTEST_BUSY = false ∧ t.is fMON_SELFTEST_DONE = true ∧ t.is fMON_STATUS_XCHK_OFF = false ∧ t.lamps.stopB = false ∧
    t.detected = s.detected) ∧
  (∀ (s : State) (means : List (Fin 3 × Fin 4 × Nat)), s.is fMON_SELFTEST_BUSY = true → s.lamps.stopB = true → selftestPairs.all
    (fun p => means.any (fun m => m.1 == p.1 && m.2.1 == p.2)) = true → means.any (fun m => decide (s.get fMON_CFG_XCHK_TOL <
    ((m.2.2 : Int) - (monRef m.1.val : Nat)).natAbs)) = true → ∃ t, exec (.monSelftestDone means) s = .next t ∧ t.is
    fMON_SELFTEST_BUSY = false ∧ t.is fMON_SELFTEST_ST_FAIL = true ∧ t.lamps.stopB = false ∧ t.detected.length = s.detected.length
    + 1) ∧
  (∀ (s : State) (means : List (Fin 3 × Fin 4 × Nat)), s.is fMON_SELFTEST_BUSY = false ∨ s.lamps.stopB = false ∨ selftestPairs.all
    (fun p => means.any (fun m => m.1 == p.1 && m.2.1 == p.2)) = false → exec (.monSelftestDone means) s = .next s)

/-- Frames start on accepted edges, pulses and windows follow their frame, an overcurrent cuts an output, and latches clear. FRAME_SYNC with
FS_SRC 1 changes nothing. Otherwise the first edge, no frame running, starts frames and is the reference; of later ones an edge within one
tick changes nothing, one under 99 percent of a frame sets FS_ERR alone, one within one percent starts a frame at its ticks after the one
before, one beyond 101 percent changes nothing. FRAME_FLYWHEEL starts a frame under FS_SRC 1 a frame length after the one before, and
otherwise, while frames run, at 101 percent of it with FS_LOST set and FLYWHEEL counted; with none running it changes nothing. LAMP_APPLY
sets APPLY_WAIT alone. LAMP_PULSE changes nothing with no frame running, for an output not of class A, after its COUNT pulses, or with its
lead beyond the frame; due and forced off it only counts the pulse; due, not forced, not latched, outside matrix mode, with WIDTH from 8
ticks to its cap, it opens the window of its lead and WIDTH. LAMP_SPAN changes nothing with no frame running, for an output that emits no
class B window, or after the frame's last; due and forced off it only counts the window as forced; due, not forced, not latched, not
stretched, outside matrix mode, with an on-time of 8 ticks or more it opens the window at its start plus its offset for its on-time, lit, no
register changing; in the window a stretch is planned for, likewise with an on-time of 480 ticks. OC_CUT of an output that is off or forced
changes nothing; of one that is on it ends its window, sets OC_CUT, and sets OC_LATCH at the third period with a cut. LAMP_CLR clears
OC_LATCH of the outputs of its mask and of no other. (Derived from R605, R606, R607, R609, R610, R613, R614, R615.) -/
def Obligations.LampFramesAndPulses : Prop :=
  (∀ (s : State) (ticks : Nat), s.is fLAMP_FRAME_CFG_FS_SRC = true → exec (.frameSync ticks) s = .next s) ∧
  (∀ (s : State) (ticks : Nat), s.is fLAMP_FRAME_CFG_FS_SRC = false → s.lamps.fresh = false → s.lamps.running = true → ticks ≤ 1 →
    exec (.frameSync ticks) s = .next s) ∧
  (∀ (s : State) (ticks : Nat), s.is fLAMP_FRAME_CFG_FS_SRC = false → s.lamps.fresh = false → s.lamps.running = true → 1 < ticks →
    100 * ticks < 99 * s.frameTicks → exec (.frameSync ticks) s = .next (s.flag fLAMP_STATUS_FS_ERR)) ∧
  (∀ (s : State) (ticks : Nat), s.is fLAMP_FRAME_CFG_FS_SRC = false → s.lamps.fresh = false → s.lamps.running = true → 1 < ticks →
    99 * s.frameTicks ≤ 100 * ticks → 100 * ticks ≤ 101 * s.frameTicks → exec (.frameSync ticks) s = .next (s.frameStart ticks)) ∧
  (∀ (s : State) (ticks : Nat), s.is fLAMP_FRAME_CFG_FS_SRC = false → s.lamps.fresh = false → s.lamps.running = true → 1 < ticks →
    101 * s.frameTicks < 100 * ticks → exec (.frameSync ticks) s = .next s) ∧
  (∀ (s : State) (ticks : Nat), s.is fLAMP_FRAME_CFG_FS_SRC = false → s.lamps.running = false → ∃ t, exec (.frameSync ticks) s =
    .next t ∧ t.lamps.running = true ∧ t.lamps.fresh = false) ∧
  (∀ (s : State), s.is fLAMP_FRAME_CFG_FS_SRC = true → exec .frameFlywheel s = .next (s.frameStart s.frameTicks)) ∧
  (∀ (s : State), s.is fLAMP_FRAME_CFG_FS_SRC = false → s.lamps.running = true → exec .frameFlywheel s = .next (((s.flag
    fLAMP_STATUS_FS_LOST).bump fLAMP_STATUS_FLYWHEEL).frameStart (101 * s.frameTicks / 100))) ∧
  (∀ (s : State), s.is fLAMP_FRAME_CFG_FS_SRC = false → s.lamps.running = false → exec .frameFlywheel s = .next s) ∧
  (∀ (s : State), exec .lampApply s = .next (s.flag fLAMP_APPLY_APPLY_WAIT)) ∧
  (∀ (s : State) (l : Fin 32) (sense : Option (Fin 4096)), s.lamps.running = false ∨ s.lampClass l.val ≠ 1 ∨ (s.get
    fLAMP_PULSE_B_COUNT l.val ≠ 0 ∧ s.get fLAMP_PULSE_B_COUNT l.val ≤ (s.lamp l.val).k) ∨ s.frameTicks ≤ 4 * s.get
    fLAMP_PULSE_A_OFFSET l.val + (s.lamp l.val).k * s.lampPeriod l.val → exec (.lampPulse l sense) s = .next s) ∧
  (∀ (s : State) (l : Fin 32) (sense : Option (Fin 4096)), s.lamps.running = true → s.lampClass l.val = 1 → s.get
    fLAMP_PULSE_B_COUNT l.val = 0 ∨ (s.lamp l.val).k < s.get fLAMP_PULSE_B_COUNT l.val → 4 * s.get fLAMP_PULSE_A_OFFSET l.val +
    (s.lamp l.val).k * s.lampPeriod l.val < s.frameTicks → s.lampForced l.val = true → exec (.lampPulse l sense) s = .next
    (s.setLamp l.val { s.lamp l.val with k := (s.lamp l.val).k + 1, win := none })) ∧
  (∀ (s : State) (l : Fin 32) (sense : Option (Fin 4096)), s.lamps.running = true → s.lampClass l.val = 1 → s.get
    fLAMP_PULSE_B_COUNT l.val = 0 ∨ (s.lamp l.val).k < s.get fLAMP_PULSE_B_COUNT l.val → 4 * s.get fLAMP_PULSE_A_OFFSET l.val +
    (s.lamp l.val).k * s.lampPeriod l.val < s.frameTicks → s.lampForced l.val = false → s.is fLAMP_STAT_OC_LATCH l.val = false →
    s.matrix = false → 8 ≤ s.get fLAMP_PULSE_A_WIDTH l.val → s.get fLAMP_PULSE_A_WIDTH l.val ≤ s.widthCap l.val → l.val <
    s.lamps.outs.length → ∃ t, exec (.lampPulse l sense) s = .next t ∧ (t.lamp l.val).win = some (4 * s.get fLAMP_PULSE_A_OFFSET
    l.val + (s.lamp l.val).k * s.lampPeriod l.val, s.get fLAMP_PULSE_A_WIDTH l.val) ∧ (t.lamp l.val).k = (s.lamp l.val).k + 1) ∧
  (∀ (s : State) (l : Fin 32) (sense : Option (Fin 4096)), s.lamps.running = false ∨ s.emitsB l.val = false ∨ s.lampSlots ≤ (s.lamp
    l.val).n → exec (.lampSpan l sense) s = .next s) ∧
  (∀ (s : State) (l : Fin 32) (sense : Option (Fin 4096)), s.lamps.running = true → s.emitsB l.val = true → (s.lamp l.val).n <
    s.lampSlots → s.lampForced l.val = false → s.is fLAMP_STAT_OC_LATCH l.val = false → s.matrix = false → (s.lamp l.val).stretch
    ≠ some (s.lamp l.val).n → 8 ≤ s.onTicks l.val (s.lamp l.val).n → l.val < s.lamps.outs.length → ∃ t, exec (.lampSpan l sense) s
    = .next t ∧ (t.lamp l.val).win = some (s.slotStart (s.lamp l.val).n + s.lampOffset l.val (s.onTicks l.val (s.lamp l.val).n),
    s.onTicks l.val (s.lamp l.val).n) ∧ (t.lamp l.val).n = (s.lamp l.val).n + 1 ∧ (t.lamp l.val).lit = true ∧ t.regs = s.regs) ∧
  (∀ (s : State) (l : Fin 32) (sense : Option (Fin 4096)), s.lamps.running = true → s.emitsB l.val = true → (s.lamp l.val).n <
    s.lampSlots → s.lampForced l.val = false → s.is fLAMP_STAT_OC_LATCH l.val = false → s.matrix = false → (s.lamp l.val).stretch
    = some (s.lamp l.val).n → l.val < s.lamps.outs.length → ∃ t, exec (.lampSpan l sense) s = .next t ∧ (t.lamp l.val).win = some
    (s.slotStart (s.lamp l.val).n + s.lampOffset l.val 480, 480) ∧ (t.lamp l.val).n = (s.lamp l.val).n + 1 ∧ (t.lamp l.val).lit =
    true ∧ t.regs = s.regs) ∧
  (∀ (s : State) (l : Fin 32), (s.lamp l.val).win = none ∨ s.lampForced l.val = true → exec (.ocCut l) s = .next s) ∧
  (∀ (s : State) (l : Fin 32), (s.lamp l.val).win ≠ none → s.lampForced l.val = false → l.val < s.lamps.outs.length → ∃ t, exec
    (.ocCut l) s = .next t ∧ (t.lamp l.val).win = none ∧ (t.lamp l.val).cut = true ∧ t.is fLAMP_STAT_OC_CUT l.val = true ∧ t.is
    fLAMP_STAT_OC_LATCH l.val = (s.is fLAMP_STAT_OC_LATCH l.val || decide (3 ≤ (if (s.lamp l.val).cut then (s.lamp l.val).cuts
    else (s.lamp l.val).cuts + 1)))) ∧
  (∀ (s : State) (mask : Fin (2 ^ 32)), ∃ t, exec (.lampClr mask) s = .next t ∧ (∀ l, l < 32 → mask.val.testBit l = true → t.is
    fLAMP_STAT_OC_LATCH l = false) ∧ ∀ l, l < 32 → mask.val.testBit l = false → t.is fLAMP_STAT_OC_LATCH l = s.is
    fLAMP_STAT_OC_LATCH l) ∧
  (∀ (s : State) (l : Fin 32) (sense : Option (Fin 4096)), s.lamps.running = true → s.emitsB l.val = true → (s.lamp l.val).n <
    s.lampSlots → s.lampForced l.val = true → exec (.lampSpan l sense) s = .next (s.setLamp l.val
    { s.lamp l.val with n := (s.lamp l.val).n + 1, win := none, forced := true }))

/-- A step performs the command at the front of the queue with the rest of the queue, and idles one wc on an empty queue. For every command
c and state s, step of s with c put at the front of its queue is exec of c on s. On an empty queue the block idles: the timebase, kept
modulo 2^62 wc, advances by one wc and nothing else changes (the model's choice, log entry 4). (Derived from R20, R468.) -/
def Obligations.StepTakesFront : Prop :=
  (∀ (c : Instr) (s : State), step { s with pending := c :: s.pending } = exec c s) ∧
  (∀ (s : State), s.pending = [] → step s = .next { s with now := (s.now + 1) % 2 ^ 62 })

/-- At reset the sparse stores are in canonical form, no command waits and the timebase is zero. State.reset meets State.Canon: no register
word is listed at its reset value and every store is in rising order. Its queue of commands is empty and its timebase 0. (Derived from R13,
R14, R15.) -/
def Obligations.ResetCanonical : Prop :=
  State.reset.Canon ∧ State.reset.pending = [] ∧ State.reset.now = 0

/-- Every step keeps the sparse stores of registers, shadows and staged structure in canonical form. For every state whose register, shadow
and staged stores are in canonical form (addresses strictly rising, no register word listed at its reset value), if step answers a next
state, that state's stores are in canonical form: equal register contents are then equal data after every command. (Derived from R6, R9,
R468, R497.) -/
def Obligations.StepKeepsCanon : Prop :=
  ∀ (s t : State), s.Canon → step s = .next t → t.Canon

/-- No command changes the queue of waiting commands, so a step takes exactly its front. For every command and state, where exec answers a
next state its queue is the queue it was given: commands act on everything but the queue (the model's queue, not the manual's; log entry 4).
(Derived from R468.) -/
def Obligations.ExecKeepsQueue : Prop :=
  ∀ (c : Instr) (s t : State), exec c s = .next t → t.pending = s.pending

/-- Every command at every state answers a next state: the block never stops. For every command and state exec answers a next state; no
command faults and none is refused. A fault the manual describes is a record the block makes and goes on from. (Derived from R9, R468,
R569.) -/
def Obligations.EveryCommandCompletes : Prop :=
  ∀ (c : Instr) (s : State), ∃ t, exec c s = .next t

/-- A due time lies in the future of a time exactly when their difference modulo 2^72 lies between 1 and 2^71 - 1. For all instants d and t
in wc/1024, the model's test that d is at or before t is false exactly when (d - t) mod 2^72 is at least 1 and at most 2^71 - 1; in
particular d = t is at t and not in its future. (Stated by R22.) -/
def Obligations.TimestampOrder : Prop :=
  (∀ (d t : Nat), tLe d t = false ↔ 1 ≤ ((d : Int) - (t : Int)) % 2 ^ 72 ∧ ((d : Int) - (t : Int)) % 2 ^ 72 ≤ 2 ^ 71 - 1) ∧
  (∀ (t : Nat), tLe t t = true)

/-- The first late command since LATE was clear records its due time and source, and later late commands leave the record. For every source
and command, whatever its target, that COMMAND_ACCEPT takes late (its due time, rounded down to a whole wc, less than 64 wc after the
acceptance wc; a line's command accepted by the line; the store not full): LATE is set; where LATE was clear the record takes the due time
and the source, and where it was set the record keeps its words. (Stated by R53.) -/
def Obligations.FirstLateRecord : Prop :=
  ∀ (s s' : State) (src : Fin 7) (fw : Option DueCmd) (c : DueCmd), s' =
    (match fw with | some d => s.sendDue { d with src := src.val } | none => s) → s'.hsf.find? (fun d => d.src == src.val) = some
    c → s'.store.length < 256 → ∀ l, c.target = .line l → s'.lineAccepts l.val c = true → tDiff (tFloor c.due) (wcs (s'.now + 64))
    < 0 → ∃ t, exec (.commandAccept src fw) s = .next t ∧ t.is fLEAD_STATUS_LATE = true ∧ (s'.is fLEAD_STATUS_LATE = false →
    t.word aLEAD_FIRST_LO = tsLo c.due ∧ t.word aLEAD_FIRST_HI = tsHi c.due ∧ t.get fLEAD_STATUS_FIRST_SRC = src.val) ∧ (s'.is
    fLEAD_STATUS_LATE = true → t.word aLEAD_FIRST_LO = s'.word aLEAD_FIRST_LO ∧ t.word aLEAD_FIRST_HI = s'.word aLEAD_FIRST_HI ∧
    t.get fLEAD_STATUS_FIRST_SRC = s'.get fLEAD_STATUS_FIRST_SRC)

/-- RESUME before RESTORE_DONE is ignored and sets RESUME_EARLY; with firmware absent RESUME and AUTO_RESUME end the hold. With RESTORE_DONE
clear, RESUME sets RESUME_EARLY and changes nothing else, whatever the hold and the firmware. With RESTORE_DONE set, the hold active and the
firmware state BARE, RESUME ends the hold, and so does AUTO_RESUME when it is armed and its three conditions hold. (Stated by R535.) -/
def Obligations.ResumeEarly : Prop :=
  (∀ (s : State), s.is fMGMT_RESTORE_RESTORE_DONE = false → exec .resume s = .next (s.flag fMGMT_RESUME_RESUME_EARLY)) ∧
  (∀ (s : State), s.is fMGMT_RESTORE_RESTORE_DONE = true → s.restoreHold = true → s.fwState = 0 → ∃ t, exec .resume s = .next t ∧
    t.restoreHold = false ∧ t.fwState = 0) ∧
  (∀ (s : State), s.is fMGMT_RESTORE_RESTORE_DONE = true → s.restoreHold = true → s.fwState = 0 → s.is fMGMT_RESUME_AUTO_ARMED =
    true → s.condClk = true → s.condChain = true → s.condCal = true → ∃ t, exec .autoResume s = .next t ∧ t.restoreHold = false ∧
    t.fwState = 0)

/-- The CLOCK grid's next instant is on the grid, not before the asked one, and the first such. For a period above zero, gridAt answers an
instant of the grid PHASE (taken modulo PERIOD) plus a multiple of PERIOD that is not before t, and no earlier instant of the grid is.
(Derived from R163.) -/
def Obligations.ClockGrid : Prop :=
  ∀ (t per phase : Nat), 0 < per → t ≤ gridAt t per phase ∧ phase % per ≤ gridAt t per phase ∧ per ∣ (gridAt t per phase - phase %
    per) ∧ ∀ n, t ≤ phase % per + n * per → gridAt t per phase ≤ phase % per + n * per

/-- A read by a path other than BAR0 of a word without a read effect clears its RC fields and changes no other register word. READ_CLEAR by
any path but BAR0 of a mapped word that has no effect of its own on a read and is not BOLT_POOL_LOW, its domain accessible, no event noted
in this wc: every RC field of the word reads zero after it, every other register word is unchanged, and the words answered are the one read.
(Derived from R9, R10, R12, R468.) -/
def Obligations.RegisterFieldsRead : Prop :=
  ∀ (s : State) (path : Fin 6) (a : Fin 16777216) (size : Fin 4), path.val ≠ 0 → s.pathOpen path.val = true → s.mustWait a.val =
    false → (regAt a.val).map (fun r => s.domAccess r.dom) = some true → s.readEffect a.val = s → s.evts = [] → a.val ≠
    aBOLT_POOL_LOW → ∃ t, exec (.readClear path a size) s = .next t ∧ (∀ f, f ∈ fieldsAt a.val → f.acc = .rc → f.get (t.word
    a.val) = 0) ∧ Only [a.val] s t ∧ t.host.sent.getLast? = some (s.nowT, HostOut.words path.val [s.readValue a.val])

/-- A register write of CHAIN_TRIG_LO or HOST_STROBE_HI by SPI sets exactly the word's RW fields. REGISTER_WRITE of CHAIN_TRIG_LO or
HOST_STROBE_HI by SPI, their domain accessible: every RW field of the word takes the bits written, no other register word changes, and
nothing but registers changes. (Derived from R9, R12.) -/
def Obligations.LiveWordWrite : Prop :=
  ∀ (s : State) (a : Fin 16777216) (w : Word) (whole : Bool), a.val = aCHAIN_TRIG_LO ∨ a.val = aHOST_STROBE_HI → (regAt a.val).map
    (fun r => s.domAccess r.dom) = some true → ∃ t, exec (.registerWrite 2 a w whole) s = .next t ∧ (∀ f, f ∈ fieldsAt a.val →
    f.acc = .rw → f.get (t.word a.val) = f.get w) ∧ Only [a.val] s t ∧ RegsOnly s t
end

