-- ==== Sys2Proof/Laws/Fields.lean ====
section
/-! SUPPORT. Laws of bit fields: a field stored reads back, and the fields beside it keep their values. -/

namespace Sys2Proof.Machine

/-- The bits of a bit range. -/
theorem testBit_natBits (n lo wd i : Nat) : (natBits n lo wd).testBit i = (decide (i < wd) && n.testBit (lo + i)) := by
  simp [natBits, Nat.testBit_mod_two_pow, Nat.testBit_shiftRight]

/-- The bits of a word with one field replaced. -/
theorem testBit_setBits (w : Word) (lo wd v j : Nat) (hj : j < 36) :
    (setBits w lo wd v).toNat.testBit j =
      if lo ≤ j ∧ j < lo + wd then v.testBit (j - lo) else w.toNat.testBit j := by
  have hw : w.toNat < 2 ^ 36 := w.isLt
  simp only [setBits, BitVec.toNat_ofNat, Nat.testBit_mod_two_pow, Nat.testBit_or, Nat.testBit_and, Nat.testBit_xor,
    Nat.testBit_shiftLeft, Nat.testBit_two_pow_sub_one, hj, decide_true, Bool.true_and]
  by_cases h1 : lo ≤ j <;> by_cases h2 : j < lo + wd
  · have : j - lo < wd := by omega
    simp [h1, h2, this]
  · have : ¬ j - lo < wd := by omega
    simp [h1, h2, this]
  · simp [h1, h2]
  · simp [h1, h2]

/-- A field reads back what was stored in it, modulo its width. -/
theorem getBits_setBits_same (w : Word) (lo wd v : Nat) (h : lo + wd ≤ 36) : getBits (setBits w lo wd v) lo wd = v % 2 ^ wd := by
  apply Nat.eq_of_testBit_eq
  intro i
  rw [getBits, testBit_natBits, Nat.testBit_mod_two_pow]
  by_cases hi : i < wd
  · rw [testBit_setBits _ _ _ _ _ (by omega)]
    simp [hi]
  · simp [hi]

/-- Storing one field leaves every field beside it as it was. -/
theorem getBits_setBits_ne (w : Word) (lo wd lo' wd' v : Nat) (h : lo + wd ≤ 36) (h' : lo' + wd' ≤ 36) (hd : lo + wd ≤ lo' ∨ lo' + wd' ≤ lo) :
    getBits (setBits w lo wd v) lo' wd' = getBits w lo' wd' := by
  apply Nat.eq_of_testBit_eq
  intro i
  simp only [getBits, testBit_natBits]
  by_cases hi : i < wd'
  · rw [testBit_setBits _ _ _ _ _ (by omega), if_neg (by omega)]
  · simp [hi]

/-- Field `f` reads back what was stored in it. -/
theorem Fld.get_set_same (f : Fld) (w : Word) (v : Nat) (h : f.lo + fldWidth f ≤ 36) : f.get (f.set w v) = v % 2 ^ fldWidth f :=
  getBits_setBits_same w _ _ v h

/-- Field `g` keeps its value when a field beside it in the word is stored. -/
theorem Fld.get_set_ne (f g : Fld) (w : Word) (v : Nat) (hf : f.lo + fldWidth f ≤ 36) (hg : g.lo + fldWidth g ≤ 36)
    (h : f.lo + fldWidth f ≤ g.lo ∨ g.lo + fldWidth g ≤ f.lo) : g.get (f.set w v) = g.get w :=
  getBits_setBits_ne w _ _ _ _ v hf hg h

end Sys2Proof.Machine
end

