-- ==== Sys2Proof/Laws/RegMap.lean ====
section
/-! SUPPORT. Laws of the sparse stores: a word written reads back, every other address is left as it was, and every operation keeps the
canonical form. -/

namespace Sys2Proof.Machine

/-- An unlisted address is not found. -/
theorem RegMap.find_erase_same (m : RegMap) (a : Nat) : (m.erase a).find a = none := by
  induction m with
  | nil => rfl
  | cons e t ih =>
    obtain ⟨b, x⟩ := e
    by_cases h : b = a
    · subst h; simpa [RegMap.erase] using ih
    · simp only [RegMap.erase, List.filter_cons, ne_eq, h, not_false_eq_true, decide_true, if_true, RegMap.find, if_false]
      exact ih

/-- Unlisting one address leaves every other as it was. -/
theorem RegMap.find_erase_ne (m : RegMap) {a b : Nat} (h : b ≠ a) : (m.erase a).find b = m.find b := by
  induction m with
  | nil => rfl
  | cons e t ih =>
    obtain ⟨c, x⟩ := e
    by_cases hc : c = a
    · subst hc
      have : ¬ c = b := fun e => h e.symm
      simp only [RegMap.find, this, if_false]
      simpa [RegMap.erase] using ih
    · have e1 : RegMap.erase ((c, x) :: t) a = (c, x) :: RegMap.erase t a := by simp [RegMap.erase, hc]
      rw [e1]; simp only [RegMap.find, ih]

/-- A placed word is found at its address. -/
theorem RegMap.find_place_same (m : RegMap) (a : Nat) (w : Word) (h : m.find a = none) : (m.place a w).find a = some w := by
  induction m with
  | nil => simp [RegMap.place, RegMap.find]
  | cons e t ih =>
    obtain ⟨b, x⟩ := e
    simp only [RegMap.find] at h
    split at h
    · cases h
    · rename_i hb
      simp only [RegMap.place]
      split
      · simp [RegMap.find]
      · simp only [RegMap.find, hb, if_false]; exact ih h

/-- Placing a word leaves every other address as it was. -/
theorem RegMap.find_place_ne (m : RegMap) {a b : Nat} (w : Word) (h : b ≠ a) : (m.place a w).find b = m.find b := by
  induction m with
  | nil => simp [RegMap.place, RegMap.find, Ne.symm h]
  | cons e t ih =>
    obtain ⟨c, x⟩ := e
    simp only [RegMap.place]
    split
    · simp [RegMap.find, Ne.symm h]
    · simp only [RegMap.find, ih]

/-- A listed word is found at its address. -/
@[simp] theorem RegMap.find_ins_same (m : RegMap) (a : Nat) (w : Word) : (m.ins a w).find a = some w :=
  RegMap.find_place_same _ _ _ (RegMap.find_erase_same m a)

/-- Listing a word leaves every other address as it was. -/
theorem RegMap.find_ins_ne (m : RegMap) {a b : Nat} (w : Word) (h : b ≠ a) : (m.ins a w).find b = m.find b := by
  rw [RegMap.ins, RegMap.find_place_ne _ _ h, RegMap.find_erase_ne _ h]

/-- A word put into a store reads back, in any store. -/
theorem RegMap.find_put_same (m : RegMap) (a : Nat) (w d : Word) : ((m.put a w d).find a).getD d = w := by
  unfold RegMap.put; split
  · simp [RegMap.find_erase_same, *]
  · simp

/-- Putting a word leaves every other address as it was. -/
theorem RegMap.find_put_ne (m : RegMap) {a b : Nat} (w d : Word) (h : b ≠ a) : (m.put a w d).find b = m.find b := by
  unfold RegMap.put; split
  · exact RegMap.find_erase_ne m h
  · exact RegMap.find_ins_ne m w h

/-- `a` lies above an optional bound. -/
def lt? (lo : Option Nat) (a : Nat) : Prop := match lo with | none => True | some l => l < a

/-- Rising order of a non-empty store. -/
theorem RegMap.risesFrom_cons (lo : Option Nat) (a : Nat) (w : Word) (t : RegMap) :
    RegMap.risesFrom lo ((a, w) :: t) = true ↔ lt? lo a ∧ RegMap.risesFrom (some a) t = true := by
  cases lo <;> simp [RegMap.risesFrom, lt?]

/-- A lower bound may be weakened. -/
theorem RegMap.rises_weaken {lo hi : Option Nat} {m : RegMap} (hl : ∀ a, lt? hi a → lt? lo a) (h : RegMap.risesFrom hi m = true) :
    RegMap.risesFrom lo m = true := by
  cases m with
  | nil => rfl
  | cons e t =>
    obtain ⟨a, w⟩ := e
    rw [RegMap.risesFrom_cons] at h ⊢
    exact ⟨hl a h.1, h.2⟩

/-- A part of a rising store rises. -/
theorem RegMap.rises_filter (p : Nat × Word → Bool) {lo : Option Nat} {m : RegMap} (h : RegMap.risesFrom lo m = true) :
    RegMap.risesFrom lo (m.filter p) = true := by
  induction m generalizing lo with
  | nil => rfl
  | cons e t ih =>
    obtain ⟨a, w⟩ := e
    rw [RegMap.risesFrom_cons] at h
    have hw : RegMap.risesFrom lo t = true := RegMap.rises_weaken (hi := some a) (fun b hb => by
      cases lo with
      | none => trivial
      | some l => exact Nat.lt_trans h.1 hb) h.2
    simp only [List.filter_cons]
    split
    · rw [RegMap.risesFrom_cons]; exact ⟨h.1, ih h.2⟩
    · exact ih hw

/-- Placing a new address keeps the order. -/
theorem RegMap.rises_place {lo : Option Nat} {m : RegMap} {a : Nat} {w : Word} (hlo : lt? lo a) (ha : m.find a = none)
    (h : RegMap.risesFrom lo m = true) : RegMap.risesFrom lo (m.place a w) = true := by
  induction m generalizing lo with
  | nil => simp only [RegMap.place, RegMap.risesFrom_cons]; exact ⟨hlo, rfl⟩
  | cons e t ih =>
    obtain ⟨b, x⟩ := e
    rw [RegMap.risesFrom_cons] at h
    simp only [RegMap.find] at ha
    split at ha
    · cases ha
    · rename_i hb
      simp only [RegMap.place]
      split
      · rename_i hab
        rw [RegMap.risesFrom_cons, RegMap.risesFrom_cons]; exact ⟨hlo, hab, h.2⟩
      · rename_i hab
        rw [RegMap.risesFrom_cons]
        exact ⟨h.1, ih (show b < a by omega) ha h.2⟩

/-- Unlisting keeps the order. -/
theorem RegMap.rises_erase {lo : Option Nat} {m : RegMap} (a : Nat) (h : RegMap.risesFrom lo m = true) :
    RegMap.risesFrom lo (m.erase a) = true := RegMap.rises_filter _ h

/-- Listing keeps the order. -/
theorem RegMap.rises_ins {m : RegMap} (a : Nat) (w : Word) (h : RegMap.risesFrom none m = true) :
    RegMap.risesFrom none (m.ins a w) = true :=
  RegMap.rises_place trivial (RegMap.find_erase_same m a) (RegMap.rises_erase a h)

/-- The canonical form is rising order with no entry at its reset word. -/
theorem RegMap.wfFrom_iff (lo : Option Nat) (m : RegMap) :
    RegMap.wfFrom lo m = true ↔ RegMap.risesFrom lo m = true ∧ ∀ e ∈ m, e.2 ≠ regReset e.1 := by
  induction m generalizing lo with
  | nil => simp [RegMap.wfFrom, RegMap.risesFrom]
  | cons e t ih =>
    obtain ⟨a, w⟩ := e
    cases lo <;> simp [RegMap.wfFrom, RegMap.risesFrom, ih, and_assoc, and_left_comm]

/-- Nothing but the placed pair is new. -/
theorem RegMap.mem_place {m : RegMap} {a : Nat} {w : Word} {e : Nat × Word} (h : e ∈ m.place a w) : e = (a, w) ∨ e ∈ m := by
  induction m with
  | nil => simpa [RegMap.place] using h
  | cons x t ih =>
    obtain ⟨b, y⟩ := x
    simp only [RegMap.place] at h
    split at h
    · simpa using h
    · rcases List.mem_cons.1 h with h | h
      · exact Or.inr (by simp [h])
      · rcases ih h with h | h
        · exact Or.inl h
        · exact Or.inr (List.mem_cons_of_mem _ h)

/-- A write keeps the canonical form. -/
theorem RegMap.wf_put {m : RegMap} (a : Nat) (w : Word) (h : m.wf = true) : (m.put a w (regReset a)).wf = true := by
  rw [RegMap.wf, RegMap.wfFrom_iff] at h ⊢
  unfold RegMap.put
  split
  · exact ⟨RegMap.rises_erase a h.1, fun e he => h.2 e (List.mem_of_mem_filter he)⟩
  · rename_i hw
    refine ⟨RegMap.rises_ins a w h.1, fun e he => ?_⟩
    rcases RegMap.mem_place he with rfl | he
    · exact hw
    · exact h.2 e (List.mem_of_mem_filter he)
end Sys2Proof.Machine
end

