-- ==== Sys2Proof/Laws/State.lean ====
section
/-! SUPPORT. One lemma per field of State and update: what storing a word or a field of a word, setting, clearing or counting a flag, the time, an
output or a detected fault leaves as it was, so that no later proof unfolds a record update. -/

namespace Sys2Proof.Machine

/-! ### Storing a word -/

@[simp] theorem State.setWord_shadow (s : State) (a : Nat) (w : Word) : (s.setWord a w).shadow = s.shadow := rfl
@[simp] theorem State.setWord_staged (s : State) (a : Nat) (w : Word) : (s.setWord a w).staged = s.staged := rfl
@[simp] theorem State.setWord_now (s : State) (a : Nat) (w : Word) : (s.setWord a w).now = s.now := rfl
@[simp] theorem State.setWord_freeIdx (s : State) (a : Nat) (w : Word) : (s.setWord a w).freeIdx = s.freeIdx := rfl
@[simp] theorem State.setWord_pending (s : State) (a : Nat) (w : Word) : (s.setWord a w).pending = s.pending := rfl
@[simp] theorem State.setWord_hsf (s : State) (a : Nat) (w : Word) : (s.setWord a w).hsf = s.hsf := rfl
@[simp] theorem State.setWord_stalled (s : State) (a : Nat) (w : Word) : (s.setWord a w).stalled = s.stalled := rfl
@[simp] theorem State.setWord_sentAt (s : State) (a : Nat) (w : Word) : (s.setWord a w).sentAt = s.sentAt := rfl
@[simp] theorem State.setWord_store (s : State) (a : Nat) (w : Word) : (s.setWord a w).store = s.store := rfl
@[simp] theorem State.setWord_clk (s : State) (a : Nat) (w : Word) : (s.setWord a w).clk = s.clk := rfl
@[simp] theorem State.setWord_outs (s : State) (a : Nat) (w : Word) : (s.setWord a w).outs = s.outs := rfl
@[simp] theorem State.setWord_banks (s : State) (a : Nat) (w : Word) : (s.setWord a w).banks = s.banks := rfl
@[simp] theorem State.setWord_voters (s : State) (a : Nat) (w : Word) : (s.setWord a w).voters = s.voters := rfl
@[simp] theorem State.setWord_hin (s : State) (a : Nat) (w : Word) : (s.setWord a w).hin = s.hin := rfl
@[simp] theorem State.setWord_lines (s : State) (a : Nat) (w : Word) : (s.setWord a w).lines = s.lines := rfl
@[simp] theorem State.setWord_pins (s : State) (a : Nat) (w : Word) : (s.setWord a w).pins = s.pins := rfl
@[simp] theorem State.setWord_rgs (s : State) (a : Nat) (w : Word) : (s.setWord a w).rgs = s.rgs := rfl
@[simp] theorem State.setWord_old (s : State) (a : Nat) (w : Word) : (s.setWord a w).old = s.old := rfl
@[simp] theorem State.setWord_fresh (s : State) (a : Nat) (w : Word) : (s.setWord a w).fresh = s.fresh := rfl
@[simp] theorem State.setWord_evts (s : State) (a : Nat) (w : Word) : (s.setWord a w).evts = s.evts := rfl
@[simp] theorem State.setWord_chain (s : State) (a : Nat) (w : Word) : (s.setWord a w).chain = s.chain := rfl
@[simp] theorem State.setWord_seqs (s : State) (a : Nat) (w : Word) : (s.setWord a w).seqs = s.seqs := rfl
@[simp] theorem State.setWord_probes (s : State) (a : Nat) (w : Word) : (s.setWord a w).probes = s.probes := rfl
@[simp] theorem State.setWord_lims (s : State) (a : Nat) (w : Word) : (s.setWord a w).lims = s.lims := rfl
@[simp] theorem State.setWord_txLinks (s : State) (a : Nat) (w : Word) : (s.setWord a w).txLinks = s.txLinks := rfl
@[simp] theorem State.setWord_reedIn (s : State) (a : Nat) (w : Word) : (s.setWord a w).reedIn = s.reedIn := rfl
@[simp] theorem State.setWord_reedBind (s : State) (a : Nat) (w : Word) : (s.setWord a w).reedBind = s.reedBind := rfl
@[simp] theorem State.setWord_reedPend (s : State) (a : Nat) (w : Word) : (s.setWord a w).reedPend = s.reedPend := rfl
@[simp] theorem State.setWord_bscan (s : State) (a : Nat) (w : Word) : (s.setWord a w).bscan = s.bscan := rfl
@[simp] theorem State.setWord_gates (s : State) (a : Nat) (w : Word) : (s.setWord a w).gates = s.gates := rfl
@[simp] theorem State.setWord_mus (s : State) (a : Nat) (w : Word) : (s.setWord a w).mus = s.mus := rfl
@[simp] theorem State.setWord_cd (s : State) (a : Nat) (w : Word) : (s.setWord a w).cd = s.cd := rfl
@[simp] theorem State.setWord_gov (s : State) (a : Nat) (w : Word) : (s.setWord a w).gov = s.gov := rfl
@[simp] theorem State.setWord_cal (s : State) (a : Nat) (w : Word) : (s.setWord a w).cal = s.cal := rfl
@[simp] theorem State.setWord_vals (s : State) (a : Nat) (w : Word) : (s.setWord a w).vals = s.vals := rfl
@[simp] theorem State.setWord_loads (s : State) (a : Nat) (w : Word) : (s.setWord a w).loads = s.loads := rfl
@[simp] theorem State.setWord_rxCal (s : State) (a : Nat) (w : Word) : (s.setWord a w).rxCal = s.rxCal := rfl
@[simp] theorem State.setWord_rx (s : State) (a : Nat) (w : Word) : (s.setWord a w).rx = s.rx := rfl
@[simp] theorem State.setWord_spare (s : State) (a : Nat) (w : Word) : (s.setWord a w).spare = s.spare := rfl
@[simp] theorem State.setWord_res (s : State) (a : Nat) (w : Word) : (s.setWord a w).res = s.res := rfl
@[simp] theorem State.setWord_resStreams (s : State) (a : Nat) (w : Word) : (s.setWord a w).resStreams = s.resStreams := rfl
@[simp] theorem State.setWord_resOld (s : State) (a : Nat) (w : Word) : (s.setWord a w).resOld = s.resOld := rfl
@[simp] theorem State.setWord_skeins (s : State) (a : Nat) (w : Word) : (s.setWord a w).skeins = s.skeins := rfl
@[simp] theorem State.setWord_readers (s : State) (a : Nat) (w : Word) : (s.setWord a w).readers = s.readers := rfl
@[simp] theorem State.setWord_regions (s : State) (a : Nat) (w : Word) : (s.setWord a w).regions = s.regions := rfl
@[simp] theorem State.setWord_dramMt (s : State) (a : Nat) (w : Word) : (s.setWord a w).dramMt = s.dramMt := rfl
@[simp] theorem State.setWord_boltMt (s : State) (a : Nat) (w : Word) : (s.setWord a w).boltMt = s.boltMt := rfl
@[simp] theorem State.setWord_rtMt (s : State) (a : Nat) (w : Word) : (s.setWord a w).rtMt = s.rtMt := rfl
@[simp] theorem State.setWord_host (s : State) (a : Nat) (w : Word) : (s.setWord a w).host = s.host := rfl
@[simp] theorem State.setWord_queues (s : State) (a : Nat) (w : Word) : (s.setWord a w).queues = s.queues := rfl
@[simp] theorem State.setWord_served (s : State) (a : Nat) (w : Word) : (s.setWord a w).served = s.served := rfl
@[simp] theorem State.setWord_detected (s : State) (a : Nat) (w : Word) : (s.setWord a w).detected = s.detected := rfl
@[simp] theorem State.setWord_selv (s : State) (a : Nat) (w : Word) : (s.setWord a w).selv = s.selv := rfl
@[simp] theorem State.setWord_health (s : State) (a : Nat) (w : Word) : (s.setWord a w).health = s.health := rfl
@[simp] theorem State.setWord_lamps (s : State) (a : Nat) (w : Word) : (s.setWord a w).lamps = s.lamps := rfl
@[simp] theorem State.setWord_holds (s : State) (a : Nat) (w : Word) : (s.setWord a w).holds = s.holds := rfl
@[simp] theorem State.setWord_pwr (s : State) (a : Nat) (w : Word) : (s.setWord a w).pwr = s.pwr := rfl
@[simp] theorem State.setWord_draft (s : State) (a : Nat) (w : Word) : (s.setWord a w).draft = s.draft := rfl
@[simp] theorem State.setWord_bobbin (s : State) (a : Nat) (w : Word) : (s.setWord a w).bobbin = s.bobbin := rfl
@[simp] theorem State.setWord_mgmt (s : State) (a : Nat) (w : Word) : (s.setWord a w).mgmt = s.mgmt := rfl
@[simp] theorem State.setWord_aonLock (s : State) (a : Nat) (w : Word) : (s.setWord a w).aonLock = s.aonLock := rfl
@[simp] theorem State.setWord_binds (s : State) (a : Nat) (w : Word) : (s.setWord a w).binds = s.binds := rfl

/-! ### Storing a field -/

@[simp] theorem State.put_shadow (s : State) (f : Fld) (v o : Nat) : (s.put f v o).shadow = s.shadow := rfl
@[simp] theorem State.put_staged (s : State) (f : Fld) (v o : Nat) : (s.put f v o).staged = s.staged := rfl
@[simp] theorem State.put_now (s : State) (f : Fld) (v o : Nat) : (s.put f v o).now = s.now := rfl
@[simp] theorem State.put_freeIdx (s : State) (f : Fld) (v o : Nat) : (s.put f v o).freeIdx = s.freeIdx := rfl
@[simp] theorem State.put_pending (s : State) (f : Fld) (v o : Nat) : (s.put f v o).pending = s.pending := rfl
@[simp] theorem State.put_hsf (s : State) (f : Fld) (v o : Nat) : (s.put f v o).hsf = s.hsf := rfl
@[simp] theorem State.put_stalled (s : State) (f : Fld) (v o : Nat) : (s.put f v o).stalled = s.stalled := rfl
@[simp] theorem State.put_sentAt (s : State) (f : Fld) (v o : Nat) : (s.put f v o).sentAt = s.sentAt := rfl
@[simp] theorem State.put_store (s : State) (f : Fld) (v o : Nat) : (s.put f v o).store = s.store := rfl
@[simp] theorem State.put_clk (s : State) (f : Fld) (v o : Nat) : (s.put f v o).clk = s.clk := rfl
@[simp] theorem State.put_outs (s : State) (f : Fld) (v o : Nat) : (s.put f v o).outs = s.outs := rfl
@[simp] theorem State.put_banks (s : State) (f : Fld) (v o : Nat) : (s.put f v o).banks = s.banks := rfl
@[simp] theorem State.put_voters (s : State) (f : Fld) (v o : Nat) : (s.put f v o).voters = s.voters := rfl
@[simp] theorem State.put_hin (s : State) (f : Fld) (v o : Nat) : (s.put f v o).hin = s.hin := rfl
@[simp] theorem State.put_lines (s : State) (f : Fld) (v o : Nat) : (s.put f v o).lines = s.lines := rfl
@[simp] theorem State.put_pins (s : State) (f : Fld) (v o : Nat) : (s.put f v o).pins = s.pins := rfl
@[simp] theorem State.put_rgs (s : State) (f : Fld) (v o : Nat) : (s.put f v o).rgs = s.rgs := rfl
@[simp] theorem State.put_old (s : State) (f : Fld) (v o : Nat) : (s.put f v o).old = s.old := rfl
@[simp] theorem State.put_fresh (s : State) (f : Fld) (v o : Nat) : (s.put f v o).fresh = s.fresh := rfl
@[simp] theorem State.put_evts (s : State) (f : Fld) (v o : Nat) : (s.put f v o).evts = s.evts := rfl
@[simp] theorem State.put_chain (s : State) (f : Fld) (v o : Nat) : (s.put f v o).chain = s.chain := rfl
@[simp] theorem State.put_seqs (s : State) (f : Fld) (v o : Nat) : (s.put f v o).seqs = s.seqs := rfl
@[simp] theorem State.put_probes (s : State) (f : Fld) (v o : Nat) : (s.put f v o).probes = s.probes := rfl
@[simp] theorem State.put_lims (s : State) (f : Fld) (v o : Nat) : (s.put f v o).lims = s.lims := rfl
@[simp] theorem State.put_txLinks (s : State) (f : Fld) (v o : Nat) : (s.put f v o).txLinks = s.txLinks := rfl
@[simp] theorem State.put_reedIn (s : State) (f : Fld) (v o : Nat) : (s.put f v o).reedIn = s.reedIn := rfl
@[simp] theorem State.put_reedBind (s : State) (f : Fld) (v o : Nat) : (s.put f v o).reedBind = s.reedBind := rfl
@[simp] theorem State.put_reedPend (s : State) (f : Fld) (v o : Nat) : (s.put f v o).reedPend = s.reedPend := rfl
@[simp] theorem State.put_bscan (s : State) (f : Fld) (v o : Nat) : (s.put f v o).bscan = s.bscan := rfl
@[simp] theorem State.put_gates (s : State) (f : Fld) (v o : Nat) : (s.put f v o).gates = s.gates := rfl
@[simp] theorem State.put_mus (s : State) (f : Fld) (v o : Nat) : (s.put f v o).mus = s.mus := rfl
@[simp] theorem State.put_cd (s : State) (f : Fld) (v o : Nat) : (s.put f v o).cd = s.cd := rfl
@[simp] theorem State.put_gov (s : State) (f : Fld) (v o : Nat) : (s.put f v o).gov = s.gov := rfl
@[simp] theorem State.put_cal (s : State) (f : Fld) (v o : Nat) : (s.put f v o).cal = s.cal := rfl
@[simp] theorem State.put_vals (s : State) (f : Fld) (v o : Nat) : (s.put f v o).vals = s.vals := rfl
@[simp] theorem State.put_loads (s : State) (f : Fld) (v o : Nat) : (s.put f v o).loads = s.loads := rfl
@[simp] theorem State.put_rxCal (s : State) (f : Fld) (v o : Nat) : (s.put f v o).rxCal = s.rxCal := rfl
@[simp] theorem State.put_rx (s : State) (f : Fld) (v o : Nat) : (s.put f v o).rx = s.rx := rfl
@[simp] theorem State.put_spare (s : State) (f : Fld) (v o : Nat) : (s.put f v o).spare = s.spare := rfl
@[simp] theorem State.put_res (s : State) (f : Fld) (v o : Nat) : (s.put f v o).res = s.res := rfl
@[simp] theorem State.put_resStreams (s : State) (f : Fld) (v o : Nat) : (s.put f v o).resStreams = s.resStreams := rfl
@[simp] theorem State.put_resOld (s : State) (f : Fld) (v o : Nat) : (s.put f v o).resOld = s.resOld := rfl
@[simp] theorem State.put_skeins (s : State) (f : Fld) (v o : Nat) : (s.put f v o).skeins = s.skeins := rfl
@[simp] theorem State.put_readers (s : State) (f : Fld) (v o : Nat) : (s.put f v o).readers = s.readers := rfl
@[simp] theorem State.put_regions (s : State) (f : Fld) (v o : Nat) : (s.put f v o).regions = s.regions := rfl
@[simp] theorem State.put_dramMt (s : State) (f : Fld) (v o : Nat) : (s.put f v o).dramMt = s.dramMt := rfl
@[simp] theorem State.put_boltMt (s : State) (f : Fld) (v o : Nat) : (s.put f v o).boltMt = s.boltMt := rfl
@[simp] theorem State.put_rtMt (s : State) (f : Fld) (v o : Nat) : (s.put f v o).rtMt = s.rtMt := rfl
@[simp] theorem State.put_host (s : State) (f : Fld) (v o : Nat) : (s.put f v o).host = s.host := rfl
@[simp] theorem State.put_queues (s : State) (f : Fld) (v o : Nat) : (s.put f v o).queues = s.queues := rfl
@[simp] theorem State.put_served (s : State) (f : Fld) (v o : Nat) : (s.put f v o).served = s.served := rfl
@[simp] theorem State.put_detected (s : State) (f : Fld) (v o : Nat) : (s.put f v o).detected = s.detected := rfl
@[simp] theorem State.put_selv (s : State) (f : Fld) (v o : Nat) : (s.put f v o).selv = s.selv := rfl
@[simp] theorem State.put_health (s : State) (f : Fld) (v o : Nat) : (s.put f v o).health = s.health := rfl
@[simp] theorem State.put_lamps (s : State) (f : Fld) (v o : Nat) : (s.put f v o).lamps = s.lamps := rfl
@[simp] theorem State.put_holds (s : State) (f : Fld) (v o : Nat) : (s.put f v o).holds = s.holds := rfl
@[simp] theorem State.put_pwr (s : State) (f : Fld) (v o : Nat) : (s.put f v o).pwr = s.pwr := rfl
@[simp] theorem State.put_draft (s : State) (f : Fld) (v o : Nat) : (s.put f v o).draft = s.draft := rfl
@[simp] theorem State.put_bobbin (s : State) (f : Fld) (v o : Nat) : (s.put f v o).bobbin = s.bobbin := rfl
@[simp] theorem State.put_mgmt (s : State) (f : Fld) (v o : Nat) : (s.put f v o).mgmt = s.mgmt := rfl
@[simp] theorem State.put_aonLock (s : State) (f : Fld) (v o : Nat) : (s.put f v o).aonLock = s.aonLock := rfl
@[simp] theorem State.put_binds (s : State) (f : Fld) (v o : Nat) : (s.put f v o).binds = s.binds := rfl

/-! ### Noting an event -/

@[simp] theorem State.noteEvt_regs (s : State) (f : Fld) (o : Nat) (g : Nat → Nat) : (s.noteEvt f o g).regs = s.regs := by
  unfold State.noteEvt; dsimp only; split <;> [rfl; split <;> rfl]
@[simp] theorem State.noteEvt_shadow (s : State) (f : Fld) (o : Nat) (g : Nat → Nat) : (s.noteEvt f o g).shadow = s.shadow := by
  unfold State.noteEvt; dsimp only; split <;> [rfl; split <;> rfl]
@[simp] theorem State.noteEvt_staged (s : State) (f : Fld) (o : Nat) (g : Nat → Nat) : (s.noteEvt f o g).staged = s.staged := by
  unfold State.noteEvt; dsimp only; split <;> [rfl; split <;> rfl]
@[simp] theorem State.noteEvt_now (s : State) (f : Fld) (o : Nat) (g : Nat → Nat) : (s.noteEvt f o g).now = s.now := by
  unfold State.noteEvt; dsimp only; split <;> [rfl; split <;> rfl]
@[simp] theorem State.noteEvt_freeIdx (s : State) (f : Fld) (o : Nat) (g : Nat → Nat) : (s.noteEvt f o g).freeIdx = s.freeIdx := by
  unfold State.noteEvt; dsimp only; split <;> [rfl; split <;> rfl]
@[simp] theorem State.noteEvt_pending (s : State) (f : Fld) (o : Nat) (g : Nat → Nat) : (s.noteEvt f o g).pending = s.pending := by
  unfold State.noteEvt; dsimp only; split <;> [rfl; split <;> rfl]
@[simp] theorem State.noteEvt_hsf (s : State) (f : Fld) (o : Nat) (g : Nat → Nat) : (s.noteEvt f o g).hsf = s.hsf := by
  unfold State.noteEvt; dsimp only; split <;> [rfl; split <;> rfl]
@[simp] theorem State.noteEvt_stalled (s : State) (f : Fld) (o : Nat) (g : Nat → Nat) : (s.noteEvt f o g).stalled = s.stalled := by
  unfold State.noteEvt; dsimp only; split <;> [rfl; split <;> rfl]
@[simp] theorem State.noteEvt_sentAt (s : State) (f : Fld) (o : Nat) (g : Nat → Nat) : (s.noteEvt f o g).sentAt = s.sentAt := by
  unfold State.noteEvt; dsimp only; split <;> [rfl; split <;> rfl]
@[simp] theorem State.noteEvt_store (s : State) (f : Fld) (o : Nat) (g : Nat → Nat) : (s.noteEvt f o g).store = s.store := by
  unfold State.noteEvt; dsimp only; split <;> [rfl; split <;> rfl]
@[simp] theorem State.noteEvt_clk (s : State) (f : Fld) (o : Nat) (g : Nat → Nat) : (s.noteEvt f o g).clk = s.clk := by
  unfold State.noteEvt; dsimp only; split <;> [rfl; split <;> rfl]
@[simp] theorem State.noteEvt_outs (s : State) (f : Fld) (o : Nat) (g : Nat → Nat) : (s.noteEvt f o g).outs = s.outs := by
  unfold State.noteEvt; dsimp only; split <;> [rfl; split <;> rfl]
@[simp] theorem State.noteEvt_banks (s : State) (f : Fld) (o : Nat) (g : Nat → Nat) : (s.noteEvt f o g).banks = s.banks := by
  unfold State.noteEvt; dsimp only; split <;> [rfl; split <;> rfl]
@[simp] theorem State.noteEvt_voters (s : State) (f : Fld) (o : Nat) (g : Nat → Nat) : (s.noteEvt f o g).voters = s.voters := by
  unfold State.noteEvt; dsimp only; split <;> [rfl; split <;> rfl]
@[simp] theorem State.noteEvt_hin (s : State) (f : Fld) (o : Nat) (g : Nat → Nat) : (s.noteEvt f o g).hin = s.hin := by
  unfold State.noteEvt; dsimp only; split <;> [rfl; split <;> rfl]
@[simp] theorem State.noteEvt_lines (s : State) (f : Fld) (o : Nat) (g : Nat → Nat) : (s.noteEvt f o g).lines = s.lines := by
  unfold State.noteEvt; dsimp only; split <;> [rfl; split <;> rfl]
@[simp] theorem State.noteEvt_pins (s : State) (f : Fld) (o : Nat) (g : Nat → Nat) : (s.noteEvt f o g).pins = s.pins := by
  unfold State.noteEvt; dsimp only; split <;> [rfl; split <;> rfl]
@[simp] theorem State.noteEvt_rgs (s : State) (f : Fld) (o : Nat) (g : Nat → Nat) : (s.noteEvt f o g).rgs = s.rgs := by
  unfold State.noteEvt; dsimp only; split <;> [rfl; split <;> rfl]
@[simp] theorem State.noteEvt_old (s : State) (f : Fld) (o : Nat) (g : Nat → Nat) : (s.noteEvt f o g).old = s.old := by
  unfold State.noteEvt; dsimp only; split <;> [rfl; split <;> rfl]
@[simp] theorem State.noteEvt_fresh (s : State) (f : Fld) (o : Nat) (g : Nat → Nat) : (s.noteEvt f o g).fresh = s.fresh := by
  unfold State.noteEvt; dsimp only; split <;> [rfl; split <;> rfl]
@[simp] theorem State.noteEvt_chain (s : State) (f : Fld) (o : Nat) (g : Nat → Nat) : (s.noteEvt f o g).chain = s.chain := by
  unfold State.noteEvt; dsimp only; split <;> [rfl; split <;> rfl]
@[simp] theorem State.noteEvt_seqs (s : State) (f : Fld) (o : Nat) (g : Nat → Nat) : (s.noteEvt f o g).seqs = s.seqs := by
  unfold State.noteEvt; dsimp only; split <;> [rfl; split <;> rfl]
@[simp] theorem State.noteEvt_probes (s : State) (f : Fld) (o : Nat) (g : Nat → Nat) : (s.noteEvt f o g).probes = s.probes := by
  unfold State.noteEvt; dsimp only; split <;> [rfl; split <;> rfl]
@[simp] theorem State.noteEvt_lims (s : State) (f : Fld) (o : Nat) (g : Nat → Nat) : (s.noteEvt f o g).lims = s.lims := by
  unfold State.noteEvt; dsimp only; split <;> [rfl; split <;> rfl]
@[simp] theorem State.noteEvt_txLinks (s : State) (f : Fld) (o : Nat) (g : Nat → Nat) : (s.noteEvt f o g).txLinks = s.txLinks := by
  unfold State.noteEvt; dsimp only; split <;> [rfl; split <;> rfl]
@[simp] theorem State.noteEvt_reedIn (s : State) (f : Fld) (o : Nat) (g : Nat → Nat) : (s.noteEvt f o g).reedIn = s.reedIn := by
  unfold State.noteEvt; dsimp only; split <;> [rfl; split <;> rfl]
@[simp] theorem State.noteEvt_reedBind (s : State) (f : Fld) (o : Nat) (g : Nat → Nat) : (s.noteEvt f o g).reedBind = s.reedBind := by
  unfold State.noteEvt; dsimp only; split <;> [rfl; split <;> rfl]
@[simp] theorem State.noteEvt_reedPend (s : State) (f : Fld) (o : Nat) (g : Nat → Nat) : (s.noteEvt f o g).reedPend = s.reedPend := by
  unfold State.noteEvt; dsimp only; split <;> [rfl; split <;> rfl]
@[simp] theorem State.noteEvt_bscan (s : State) (f : Fld) (o : Nat) (g : Nat → Nat) : (s.noteEvt f o g).bscan = s.bscan := by
  unfold State.noteEvt; dsimp only; split <;> [rfl; split <;> rfl]
@[simp] theorem State.noteEvt_gates (s : State) (f : Fld) (o : Nat) (g : Nat → Nat) : (s.noteEvt f o g).gates = s.gates := by
  unfold State.noteEvt; dsimp only; split <;> [rfl; split <;> rfl]
@[simp] theorem State.noteEvt_mus (s : State) (f : Fld) (o : Nat) (g : Nat → Nat) : (s.noteEvt f o g).mus = s.mus := by
  unfold State.noteEvt; dsimp only; split <;> [rfl; split <;> rfl]
@[simp] theorem State.noteEvt_cd (s : State) (f : Fld) (o : Nat) (g : Nat → Nat) : (s.noteEvt f o g).cd = s.cd := by
  unfold State.noteEvt; dsimp only; split <;> [rfl; split <;> rfl]
@[simp] theorem State.noteEvt_gov (s : State) (f : Fld) (o : Nat) (g : Nat → Nat) : (s.noteEvt f o g).gov = s.gov := by
  unfold State.noteEvt; dsimp only; split <;> [rfl; split <;> rfl]
@[simp] theorem State.noteEvt_cal (s : State) (f : Fld) (o : Nat) (g : Nat → Nat) : (s.noteEvt f o g).cal = s.cal := by
  unfold State.noteEvt; dsimp only; split <;> [rfl; split <;> rfl]
@[simp] theorem State.noteEvt_vals (s : State) (f : Fld) (o : Nat) (g : Nat → Nat) : (s.noteEvt f o g).vals = s.vals := by
  unfold State.noteEvt; dsimp only; split <;> [rfl; split <;> rfl]
@[simp] theorem State.noteEvt_loads (s : State) (f : Fld) (o : Nat) (g : Nat → Nat) : (s.noteEvt f o g).loads = s.loads := by
  unfold State.noteEvt; dsimp only; split <;> [rfl; split <;> rfl]
@[simp] theorem State.noteEvt_rxCal (s : State) (f : Fld) (o : Nat) (g : Nat → Nat) : (s.noteEvt f o g).rxCal = s.rxCal := by
  unfold State.noteEvt; dsimp only; split <;> [rfl; split <;> rfl]
@[simp] theorem State.noteEvt_rx (s : State) (f : Fld) (o : Nat) (g : Nat → Nat) : (s.noteEvt f o g).rx = s.rx := by
  unfold State.noteEvt; dsimp only; split <;> [rfl; split <;> rfl]
@[simp] theorem State.noteEvt_spare (s : State) (f : Fld) (o : Nat) (g : Nat → Nat) : (s.noteEvt f o g).spare = s.spare := by
  unfold State.noteEvt; dsimp only; split <;> [rfl; split <;> rfl]
@[simp] theorem State.noteEvt_res (s : State) (f : Fld) (o : Nat) (g : Nat → Nat) : (s.noteEvt f o g).res = s.res := by
  unfold State.noteEvt; dsimp only; split <;> [rfl; split <;> rfl]
@[simp] theorem State.noteEvt_resStreams (s : State) (f : Fld) (o : Nat) (g : Nat → Nat) : (s.noteEvt f o g).resStreams = s.resStreams := by
  unfold State.noteEvt; dsimp only; split <;> [rfl; split <;> rfl]
@[simp] theorem State.noteEvt_resOld (s : State) (f : Fld) (o : Nat) (g : Nat → Nat) : (s.noteEvt f o g).resOld = s.resOld := by
  unfold State.noteEvt; dsimp only; split <;> [rfl; split <;> rfl]
@[simp] theorem State.noteEvt_skeins (s : State) (f : Fld) (o : Nat) (g : Nat → Nat) : (s.noteEvt f o g).skeins = s.skeins := by
  unfold State.noteEvt; dsimp only; split <;> [rfl; split <;> rfl]
@[simp] theorem State.noteEvt_readers (s : State) (f : Fld) (o : Nat) (g : Nat → Nat) : (s.noteEvt f o g).readers = s.readers := by
  unfold State.noteEvt; dsimp only; split <;> [rfl; split <;> rfl]
@[simp] theorem State.noteEvt_regions (s : State) (f : Fld) (o : Nat) (g : Nat → Nat) : (s.noteEvt f o g).regions = s.regions := by
  unfold State.noteEvt; dsimp only; split <;> [rfl; split <;> rfl]
@[simp] theorem State.noteEvt_dramMt (s : State) (f : Fld) (o : Nat) (g : Nat → Nat) : (s.noteEvt f o g).dramMt = s.dramMt := by
  unfold State.noteEvt; dsimp only; split <;> [rfl; split <;> rfl]
@[simp] theorem State.noteEvt_boltMt (s : State) (f : Fld) (o : Nat) (g : Nat → Nat) : (s.noteEvt f o g).boltMt = s.boltMt := by
  unfold State.noteEvt; dsimp only; split <;> [rfl; split <;> rfl]
@[simp] theorem State.noteEvt_rtMt (s : State) (f : Fld) (o : Nat) (g : Nat → Nat) : (s.noteEvt f o g).rtMt = s.rtMt := by
  unfold State.noteEvt; dsimp only; split <;> [rfl; split <;> rfl]
@[simp] theorem State.noteEvt_host (s : State) (f : Fld) (o : Nat) (g : Nat → Nat) : (s.noteEvt f o g).host = s.host := by
  unfold State.noteEvt; dsimp only; split <;> [rfl; split <;> rfl]
@[simp] theorem State.noteEvt_queues (s : State) (f : Fld) (o : Nat) (g : Nat → Nat) : (s.noteEvt f o g).queues = s.queues := by
  unfold State.noteEvt; dsimp only; split <;> [rfl; split <;> rfl]
@[simp] theorem State.noteEvt_served (s : State) (f : Fld) (o : Nat) (g : Nat → Nat) : (s.noteEvt f o g).served = s.served := by
  unfold State.noteEvt; dsimp only; split <;> [rfl; split <;> rfl]
@[simp] theorem State.noteEvt_detected (s : State) (f : Fld) (o : Nat) (g : Nat → Nat) : (s.noteEvt f o g).detected = s.detected := by
  unfold State.noteEvt; dsimp only; split <;> [rfl; split <;> rfl]
@[simp] theorem State.noteEvt_selv (s : State) (f : Fld) (o : Nat) (g : Nat → Nat) : (s.noteEvt f o g).selv = s.selv := by
  unfold State.noteEvt; dsimp only; split <;> [rfl; split <;> rfl]
@[simp] theorem State.noteEvt_health (s : State) (f : Fld) (o : Nat) (g : Nat → Nat) : (s.noteEvt f o g).health = s.health := by
  unfold State.noteEvt; dsimp only; split <;> [rfl; split <;> rfl]
@[simp] theorem State.noteEvt_lamps (s : State) (f : Fld) (o : Nat) (g : Nat → Nat) : (s.noteEvt f o g).lamps = s.lamps := by
  unfold State.noteEvt; dsimp only; split <;> [rfl; split <;> rfl]
@[simp] theorem State.noteEvt_holds (s : State) (f : Fld) (o : Nat) (g : Nat → Nat) : (s.noteEvt f o g).holds = s.holds := by
  unfold State.noteEvt; dsimp only; split <;> [rfl; split <;> rfl]
@[simp] theorem State.noteEvt_pwr (s : State) (f : Fld) (o : Nat) (g : Nat → Nat) : (s.noteEvt f o g).pwr = s.pwr := by
  unfold State.noteEvt; dsimp only; split <;> [rfl; split <;> rfl]
@[simp] theorem State.noteEvt_draft (s : State) (f : Fld) (o : Nat) (g : Nat → Nat) : (s.noteEvt f o g).draft = s.draft := by
  unfold State.noteEvt; dsimp only; split <;> [rfl; split <;> rfl]
@[simp] theorem State.noteEvt_bobbin (s : State) (f : Fld) (o : Nat) (g : Nat → Nat) : (s.noteEvt f o g).bobbin = s.bobbin := by
  unfold State.noteEvt; dsimp only; split <;> [rfl; split <;> rfl]
@[simp] theorem State.noteEvt_mgmt (s : State) (f : Fld) (o : Nat) (g : Nat → Nat) : (s.noteEvt f o g).mgmt = s.mgmt := by
  unfold State.noteEvt; dsimp only; split <;> [rfl; split <;> rfl]
@[simp] theorem State.noteEvt_aonLock (s : State) (f : Fld) (o : Nat) (g : Nat → Nat) : (s.noteEvt f o g).aonLock = s.aonLock := by
  unfold State.noteEvt; dsimp only; split <;> [rfl; split <;> rfl]
@[simp] theorem State.noteEvt_binds (s : State) (f : Fld) (o : Nat) (g : Nat → Nat) : (s.noteEvt f o g).binds = s.binds := by
  unfold State.noteEvt; dsimp only; split <;> [rfl; split <;> rfl]

/-! ### Setting a flag -/

@[simp] theorem State.flag_shadow (s : State) (f : Fld) (o : Nat) : (s.flag f o).shadow = s.shadow := State.noteEvt_shadow s f o _
@[simp] theorem State.flag_staged (s : State) (f : Fld) (o : Nat) : (s.flag f o).staged = s.staged := State.noteEvt_staged s f o _
@[simp] theorem State.flag_now (s : State) (f : Fld) (o : Nat) : (s.flag f o).now = s.now := State.noteEvt_now s f o _
@[simp] theorem State.flag_freeIdx (s : State) (f : Fld) (o : Nat) : (s.flag f o).freeIdx = s.freeIdx := State.noteEvt_freeIdx s f o _
@[simp] theorem State.flag_pending (s : State) (f : Fld) (o : Nat) : (s.flag f o).pending = s.pending := State.noteEvt_pending s f o _
@[simp] theorem State.flag_hsf (s : State) (f : Fld) (o : Nat) : (s.flag f o).hsf = s.hsf := State.noteEvt_hsf s f o _
@[simp] theorem State.flag_stalled (s : State) (f : Fld) (o : Nat) : (s.flag f o).stalled = s.stalled := State.noteEvt_stalled s f o _
@[simp] theorem State.flag_sentAt (s : State) (f : Fld) (o : Nat) : (s.flag f o).sentAt = s.sentAt := State.noteEvt_sentAt s f o _
@[simp] theorem State.flag_store (s : State) (f : Fld) (o : Nat) : (s.flag f o).store = s.store := State.noteEvt_store s f o _
@[simp] theorem State.flag_clk (s : State) (f : Fld) (o : Nat) : (s.flag f o).clk = s.clk := State.noteEvt_clk s f o _
@[simp] theorem State.flag_outs (s : State) (f : Fld) (o : Nat) : (s.flag f o).outs = s.outs := State.noteEvt_outs s f o _
@[simp] theorem State.flag_banks (s : State) (f : Fld) (o : Nat) : (s.flag f o).banks = s.banks := State.noteEvt_banks s f o _
@[simp] theorem State.flag_voters (s : State) (f : Fld) (o : Nat) : (s.flag f o).voters = s.voters := State.noteEvt_voters s f o _
@[simp] theorem State.flag_hin (s : State) (f : Fld) (o : Nat) : (s.flag f o).hin = s.hin := State.noteEvt_hin s f o _
@[simp] theorem State.flag_lines (s : State) (f : Fld) (o : Nat) : (s.flag f o).lines = s.lines := State.noteEvt_lines s f o _
@[simp] theorem State.flag_pins (s : State) (f : Fld) (o : Nat) : (s.flag f o).pins = s.pins := State.noteEvt_pins s f o _
@[simp] theorem State.flag_rgs (s : State) (f : Fld) (o : Nat) : (s.flag f o).rgs = s.rgs := State.noteEvt_rgs s f o _
@[simp] theorem State.flag_old (s : State) (f : Fld) (o : Nat) : (s.flag f o).old = s.old := State.noteEvt_old s f o _
@[simp] theorem State.flag_fresh (s : State) (f : Fld) (o : Nat) : (s.flag f o).fresh = s.fresh := State.noteEvt_fresh s f o _
@[simp] theorem State.flag_chain (s : State) (f : Fld) (o : Nat) : (s.flag f o).chain = s.chain := State.noteEvt_chain s f o _
@[simp] theorem State.flag_seqs (s : State) (f : Fld) (o : Nat) : (s.flag f o).seqs = s.seqs := State.noteEvt_seqs s f o _
@[simp] theorem State.flag_probes (s : State) (f : Fld) (o : Nat) : (s.flag f o).probes = s.probes := State.noteEvt_probes s f o _
@[simp] theorem State.flag_lims (s : State) (f : Fld) (o : Nat) : (s.flag f o).lims = s.lims := State.noteEvt_lims s f o _
@[simp] theorem State.flag_txLinks (s : State) (f : Fld) (o : Nat) : (s.flag f o).txLinks = s.txLinks := State.noteEvt_txLinks s f o _
@[simp] theorem State.flag_reedIn (s : State) (f : Fld) (o : Nat) : (s.flag f o).reedIn = s.reedIn := State.noteEvt_reedIn s f o _
@[simp] theorem State.flag_reedBind (s : State) (f : Fld) (o : Nat) : (s.flag f o).reedBind = s.reedBind := State.noteEvt_reedBind s f o _
@[simp] theorem State.flag_reedPend (s : State) (f : Fld) (o : Nat) : (s.flag f o).reedPend = s.reedPend := State.noteEvt_reedPend s f o _
@[simp] theorem State.flag_bscan (s : State) (f : Fld) (o : Nat) : (s.flag f o).bscan = s.bscan := State.noteEvt_bscan s f o _
@[simp] theorem State.flag_gates (s : State) (f : Fld) (o : Nat) : (s.flag f o).gates = s.gates := State.noteEvt_gates s f o _
@[simp] theorem State.flag_mus (s : State) (f : Fld) (o : Nat) : (s.flag f o).mus = s.mus := State.noteEvt_mus s f o _
@[simp] theorem State.flag_cd (s : State) (f : Fld) (o : Nat) : (s.flag f o).cd = s.cd := State.noteEvt_cd s f o _
@[simp] theorem State.flag_gov (s : State) (f : Fld) (o : Nat) : (s.flag f o).gov = s.gov := State.noteEvt_gov s f o _
@[simp] theorem State.flag_cal (s : State) (f : Fld) (o : Nat) : (s.flag f o).cal = s.cal := State.noteEvt_cal s f o _
@[simp] theorem State.flag_vals (s : State) (f : Fld) (o : Nat) : (s.flag f o).vals = s.vals := State.noteEvt_vals s f o _
@[simp] theorem State.flag_loads (s : State) (f : Fld) (o : Nat) : (s.flag f o).loads = s.loads := State.noteEvt_loads s f o _
@[simp] theorem State.flag_rxCal (s : State) (f : Fld) (o : Nat) : (s.flag f o).rxCal = s.rxCal := State.noteEvt_rxCal s f o _
@[simp] theorem State.flag_rx (s : State) (f : Fld) (o : Nat) : (s.flag f o).rx = s.rx := State.noteEvt_rx s f o _
@[simp] theorem State.flag_spare (s : State) (f : Fld) (o : Nat) : (s.flag f o).spare = s.spare := State.noteEvt_spare s f o _
@[simp] theorem State.flag_res (s : State) (f : Fld) (o : Nat) : (s.flag f o).res = s.res := State.noteEvt_res s f o _
@[simp] theorem State.flag_resStreams (s : State) (f : Fld) (o : Nat) : (s.flag f o).resStreams = s.resStreams := State.noteEvt_resStreams s f o _
@[simp] theorem State.flag_resOld (s : State) (f : Fld) (o : Nat) : (s.flag f o).resOld = s.resOld := State.noteEvt_resOld s f o _
@[simp] theorem State.flag_skeins (s : State) (f : Fld) (o : Nat) : (s.flag f o).skeins = s.skeins := State.noteEvt_skeins s f o _
@[simp] theorem State.flag_readers (s : State) (f : Fld) (o : Nat) : (s.flag f o).readers = s.readers := State.noteEvt_readers s f o _
@[simp] theorem State.flag_regions (s : State) (f : Fld) (o : Nat) : (s.flag f o).regions = s.regions := State.noteEvt_regions s f o _
@[simp] theorem State.flag_dramMt (s : State) (f : Fld) (o : Nat) : (s.flag f o).dramMt = s.dramMt := State.noteEvt_dramMt s f o _
@[simp] theorem State.flag_boltMt (s : State) (f : Fld) (o : Nat) : (s.flag f o).boltMt = s.boltMt := State.noteEvt_boltMt s f o _
@[simp] theorem State.flag_rtMt (s : State) (f : Fld) (o : Nat) : (s.flag f o).rtMt = s.rtMt := State.noteEvt_rtMt s f o _
@[simp] theorem State.flag_host (s : State) (f : Fld) (o : Nat) : (s.flag f o).host = s.host := State.noteEvt_host s f o _
@[simp] theorem State.flag_queues (s : State) (f : Fld) (o : Nat) : (s.flag f o).queues = s.queues := State.noteEvt_queues s f o _
@[simp] theorem State.flag_served (s : State) (f : Fld) (o : Nat) : (s.flag f o).served = s.served := State.noteEvt_served s f o _
@[simp] theorem State.flag_detected (s : State) (f : Fld) (o : Nat) : (s.flag f o).detected = s.detected := State.noteEvt_detected s f o _
@[simp] theorem State.flag_selv (s : State) (f : Fld) (o : Nat) : (s.flag f o).selv = s.selv := State.noteEvt_selv s f o _
@[simp] theorem State.flag_health (s : State) (f : Fld) (o : Nat) : (s.flag f o).health = s.health := State.noteEvt_health s f o _
@[simp] theorem State.flag_lamps (s : State) (f : Fld) (o : Nat) : (s.flag f o).lamps = s.lamps := State.noteEvt_lamps s f o _
@[simp] theorem State.flag_holds (s : State) (f : Fld) (o : Nat) : (s.flag f o).holds = s.holds := State.noteEvt_holds s f o _
@[simp] theorem State.flag_pwr (s : State) (f : Fld) (o : Nat) : (s.flag f o).pwr = s.pwr := State.noteEvt_pwr s f o _
@[simp] theorem State.flag_draft (s : State) (f : Fld) (o : Nat) : (s.flag f o).draft = s.draft := State.noteEvt_draft s f o _
@[simp] theorem State.flag_bobbin (s : State) (f : Fld) (o : Nat) : (s.flag f o).bobbin = s.bobbin := State.noteEvt_bobbin s f o _
@[simp] theorem State.flag_mgmt (s : State) (f : Fld) (o : Nat) : (s.flag f o).mgmt = s.mgmt := State.noteEvt_mgmt s f o _
@[simp] theorem State.flag_aonLock (s : State) (f : Fld) (o : Nat) : (s.flag f o).aonLock = s.aonLock := State.noteEvt_aonLock s f o _
@[simp] theorem State.flag_binds (s : State) (f : Fld) (o : Nat) : (s.flag f o).binds = s.binds := State.noteEvt_binds s f o _

/-! ### Clearing a flag -/

@[simp] theorem State.unflag_shadow (s : State) (f : Fld) (o : Nat) : (s.unflag f o).shadow = s.shadow := rfl
@[simp] theorem State.unflag_staged (s : State) (f : Fld) (o : Nat) : (s.unflag f o).staged = s.staged := rfl
@[simp] theorem State.unflag_now (s : State) (f : Fld) (o : Nat) : (s.unflag f o).now = s.now := rfl
@[simp] theorem State.unflag_freeIdx (s : State) (f : Fld) (o : Nat) : (s.unflag f o).freeIdx = s.freeIdx := rfl
@[simp] theorem State.unflag_pending (s : State) (f : Fld) (o : Nat) : (s.unflag f o).pending = s.pending := rfl
@[simp] theorem State.unflag_hsf (s : State) (f : Fld) (o : Nat) : (s.unflag f o).hsf = s.hsf := rfl
@[simp] theorem State.unflag_stalled (s : State) (f : Fld) (o : Nat) : (s.unflag f o).stalled = s.stalled := rfl
@[simp] theorem State.unflag_sentAt (s : State) (f : Fld) (o : Nat) : (s.unflag f o).sentAt = s.sentAt := rfl
@[simp] theorem State.unflag_store (s : State) (f : Fld) (o : Nat) : (s.unflag f o).store = s.store := rfl
@[simp] theorem State.unflag_clk (s : State) (f : Fld) (o : Nat) : (s.unflag f o).clk = s.clk := rfl
@[simp] theorem State.unflag_outs (s : State) (f : Fld) (o : Nat) : (s.unflag f o).outs = s.outs := rfl
@[simp] theorem State.unflag_banks (s : State) (f : Fld) (o : Nat) : (s.unflag f o).banks = s.banks := rfl
@[simp] theorem State.unflag_voters (s : State) (f : Fld) (o : Nat) : (s.unflag f o).voters = s.voters := rfl
@[simp] theorem State.unflag_hin (s : State) (f : Fld) (o : Nat) : (s.unflag f o).hin = s.hin := rfl
@[simp] theorem State.unflag_lines (s : State) (f : Fld) (o : Nat) : (s.unflag f o).lines = s.lines := rfl
@[simp] theorem State.unflag_pins (s : State) (f : Fld) (o : Nat) : (s.unflag f o).pins = s.pins := rfl
@[simp] theorem State.unflag_rgs (s : State) (f : Fld) (o : Nat) : (s.unflag f o).rgs = s.rgs := rfl
@[simp] theorem State.unflag_old (s : State) (f : Fld) (o : Nat) : (s.unflag f o).old = s.old := rfl
@[simp] theorem State.unflag_fresh (s : State) (f : Fld) (o : Nat) : (s.unflag f o).fresh = s.fresh := rfl
@[simp] theorem State.unflag_evts (s : State) (f : Fld) (o : Nat) : (s.unflag f o).evts = s.evts := rfl
@[simp] theorem State.unflag_chain (s : State) (f : Fld) (o : Nat) : (s.unflag f o).chain = s.chain := rfl
@[simp] theorem State.unflag_seqs (s : State) (f : Fld) (o : Nat) : (s.unflag f o).seqs = s.seqs := rfl
@[simp] theorem State.unflag_probes (s : State) (f : Fld) (o : Nat) : (s.unflag f o).probes = s.probes := rfl
@[simp] theorem State.unflag_lims (s : State) (f : Fld) (o : Nat) : (s.unflag f o).lims = s.lims := rfl
@[simp] theorem State.unflag_txLinks (s : State) (f : Fld) (o : Nat) : (s.unflag f o).txLinks = s.txLinks := rfl
@[simp] theorem State.unflag_reedIn (s : State) (f : Fld) (o : Nat) : (s.unflag f o).reedIn = s.reedIn := rfl
@[simp] theorem State.unflag_reedBind (s : State) (f : Fld) (o : Nat) : (s.unflag f o).reedBind = s.reedBind := rfl
@[simp] theorem State.unflag_reedPend (s : State) (f : Fld) (o : Nat) : (s.unflag f o).reedPend = s.reedPend := rfl
@[simp] theorem State.unflag_bscan (s : State) (f : Fld) (o : Nat) : (s.unflag f o).bscan = s.bscan := rfl
@[simp] theorem State.unflag_gates (s : State) (f : Fld) (o : Nat) : (s.unflag f o).gates = s.gates := rfl
@[simp] theorem State.unflag_mus (s : State) (f : Fld) (o : Nat) : (s.unflag f o).mus = s.mus := rfl
@[simp] theorem State.unflag_cd (s : State) (f : Fld) (o : Nat) : (s.unflag f o).cd = s.cd := rfl
@[simp] theorem State.unflag_gov (s : State) (f : Fld) (o : Nat) : (s.unflag f o).gov = s.gov := rfl
@[simp] theorem State.unflag_cal (s : State) (f : Fld) (o : Nat) : (s.unflag f o).cal = s.cal := rfl
@[simp] theorem State.unflag_vals (s : State) (f : Fld) (o : Nat) : (s.unflag f o).vals = s.vals := rfl
@[simp] theorem State.unflag_loads (s : State) (f : Fld) (o : Nat) : (s.unflag f o).loads = s.loads := rfl
@[simp] theorem State.unflag_rxCal (s : State) (f : Fld) (o : Nat) : (s.unflag f o).rxCal = s.rxCal := rfl
@[simp] theorem State.unflag_rx (s : State) (f : Fld) (o : Nat) : (s.unflag f o).rx = s.rx := rfl
@[simp] theorem State.unflag_spare (s : State) (f : Fld) (o : Nat) : (s.unflag f o).spare = s.spare := rfl
@[simp] theorem State.unflag_res (s : State) (f : Fld) (o : Nat) : (s.unflag f o).res = s.res := rfl
@[simp] theorem State.unflag_resStreams (s : State) (f : Fld) (o : Nat) : (s.unflag f o).resStreams = s.resStreams := rfl
@[simp] theorem State.unflag_resOld (s : State) (f : Fld) (o : Nat) : (s.unflag f o).resOld = s.resOld := rfl
@[simp] theorem State.unflag_skeins (s : State) (f : Fld) (o : Nat) : (s.unflag f o).skeins = s.skeins := rfl
@[simp] theorem State.unflag_readers (s : State) (f : Fld) (o : Nat) : (s.unflag f o).readers = s.readers := rfl
@[simp] theorem State.unflag_regions (s : State) (f : Fld) (o : Nat) : (s.unflag f o).regions = s.regions := rfl
@[simp] theorem State.unflag_dramMt (s : State) (f : Fld) (o : Nat) : (s.unflag f o).dramMt = s.dramMt := rfl
@[simp] theorem State.unflag_boltMt (s : State) (f : Fld) (o : Nat) : (s.unflag f o).boltMt = s.boltMt := rfl
@[simp] theorem State.unflag_rtMt (s : State) (f : Fld) (o : Nat) : (s.unflag f o).rtMt = s.rtMt := rfl
@[simp] theorem State.unflag_host (s : State) (f : Fld) (o : Nat) : (s.unflag f o).host = s.host := rfl
@[simp] theorem State.unflag_queues (s : State) (f : Fld) (o : Nat) : (s.unflag f o).queues = s.queues := rfl
@[simp] theorem State.unflag_served (s : State) (f : Fld) (o : Nat) : (s.unflag f o).served = s.served := rfl
@[simp] theorem State.unflag_detected (s : State) (f : Fld) (o : Nat) : (s.unflag f o).detected = s.detected := rfl
@[simp] theorem State.unflag_selv (s : State) (f : Fld) (o : Nat) : (s.unflag f o).selv = s.selv := rfl
@[simp] theorem State.unflag_health (s : State) (f : Fld) (o : Nat) : (s.unflag f o).health = s.health := rfl
@[simp] theorem State.unflag_lamps (s : State) (f : Fld) (o : Nat) : (s.unflag f o).lamps = s.lamps := rfl
@[simp] theorem State.unflag_holds (s : State) (f : Fld) (o : Nat) : (s.unflag f o).holds = s.holds := rfl
@[simp] theorem State.unflag_pwr (s : State) (f : Fld) (o : Nat) : (s.unflag f o).pwr = s.pwr := rfl
@[simp] theorem State.unflag_draft (s : State) (f : Fld) (o : Nat) : (s.unflag f o).draft = s.draft := rfl
@[simp] theorem State.unflag_bobbin (s : State) (f : Fld) (o : Nat) : (s.unflag f o).bobbin = s.bobbin := rfl
@[simp] theorem State.unflag_mgmt (s : State) (f : Fld) (o : Nat) : (s.unflag f o).mgmt = s.mgmt := rfl
@[simp] theorem State.unflag_aonLock (s : State) (f : Fld) (o : Nat) : (s.unflag f o).aonLock = s.aonLock := rfl
@[simp] theorem State.unflag_binds (s : State) (f : Fld) (o : Nat) : (s.unflag f o).binds = s.binds := rfl

/-! ### Counting -/

@[simp] theorem State.bump_shadow (s : State) (f : Fld) (o n : Nat) : (s.bump f o n).shadow = s.shadow := State.noteEvt_shadow s f o _
@[simp] theorem State.bump_staged (s : State) (f : Fld) (o n : Nat) : (s.bump f o n).staged = s.staged := State.noteEvt_staged s f o _
@[simp] theorem State.bump_now (s : State) (f : Fld) (o n : Nat) : (s.bump f o n).now = s.now := State.noteEvt_now s f o _
@[simp] theorem State.bump_freeIdx (s : State) (f : Fld) (o n : Nat) : (s.bump f o n).freeIdx = s.freeIdx := State.noteEvt_freeIdx s f o _
@[simp] theorem State.bump_pending (s : State) (f : Fld) (o n : Nat) : (s.bump f o n).pending = s.pending := State.noteEvt_pending s f o _
@[simp] theorem State.bump_hsf (s : State) (f : Fld) (o n : Nat) : (s.bump f o n).hsf = s.hsf := State.noteEvt_hsf s f o _
@[simp] theorem State.bump_stalled (s : State) (f : Fld) (o n : Nat) : (s.bump f o n).stalled = s.stalled := State.noteEvt_stalled s f o _
@[simp] theorem State.bump_sentAt (s : State) (f : Fld) (o n : Nat) : (s.bump f o n).sentAt = s.sentAt := State.noteEvt_sentAt s f o _
@[simp] theorem State.bump_store (s : State) (f : Fld) (o n : Nat) : (s.bump f o n).store = s.store := State.noteEvt_store s f o _
@[simp] theorem State.bump_clk (s : State) (f : Fld) (o n : Nat) : (s.bump f o n).clk = s.clk := State.noteEvt_clk s f o _
@[simp] theorem State.bump_outs (s : State) (f : Fld) (o n : Nat) : (s.bump f o n).outs = s.outs := State.noteEvt_outs s f o _
@[simp] theorem State.bump_banks (s : State) (f : Fld) (o n : Nat) : (s.bump f o n).banks = s.banks := State.noteEvt_banks s f o _
@[simp] theorem State.bump_voters (s : State) (f : Fld) (o n : Nat) : (s.bump f o n).voters = s.voters := State.noteEvt_voters s f o _
@[simp] theorem State.bump_hin (s : State) (f : Fld) (o n : Nat) : (s.bump f o n).hin = s.hin := State.noteEvt_hin s f o _
@[simp] theorem State.bump_lines (s : State) (f : Fld) (o n : Nat) : (s.bump f o n).lines = s.lines := State.noteEvt_lines s f o _
@[simp] theorem State.bump_pins (s : State) (f : Fld) (o n : Nat) : (s.bump f o n).pins = s.pins := State.noteEvt_pins s f o _
@[simp] theorem State.bump_rgs (s : State) (f : Fld) (o n : Nat) : (s.bump f o n).rgs = s.rgs := State.noteEvt_rgs s f o _
@[simp] theorem State.bump_old (s : State) (f : Fld) (o n : Nat) : (s.bump f o n).old = s.old := State.noteEvt_old s f o _
@[simp] theorem State.bump_fresh (s : State) (f : Fld) (o n : Nat) : (s.bump f o n).fresh = s.fresh := State.noteEvt_fresh s f o _
@[simp] theorem State.bump_chain (s : State) (f : Fld) (o n : Nat) : (s.bump f o n).chain = s.chain := State.noteEvt_chain s f o _
@[simp] theorem State.bump_seqs (s : State) (f : Fld) (o n : Nat) : (s.bump f o n).seqs = s.seqs := State.noteEvt_seqs s f o _
@[simp] theorem State.bump_probes (s : State) (f : Fld) (o n : Nat) : (s.bump f o n).probes = s.probes := State.noteEvt_probes s f o _
@[simp] theorem State.bump_lims (s : State) (f : Fld) (o n : Nat) : (s.bump f o n).lims = s.lims := State.noteEvt_lims s f o _
@[simp] theorem State.bump_txLinks (s : State) (f : Fld) (o n : Nat) : (s.bump f o n).txLinks = s.txLinks := State.noteEvt_txLinks s f o _
@[simp] theorem State.bump_reedIn (s : State) (f : Fld) (o n : Nat) : (s.bump f o n).reedIn = s.reedIn := State.noteEvt_reedIn s f o _
@[simp] theorem State.bump_reedBind (s : State) (f : Fld) (o n : Nat) : (s.bump f o n).reedBind = s.reedBind := State.noteEvt_reedBind s f o _
@[simp] theorem State.bump_reedPend (s : State) (f : Fld) (o n : Nat) : (s.bump f o n).reedPend = s.reedPend := State.noteEvt_reedPend s f o _
@[simp] theorem State.bump_bscan (s : State) (f : Fld) (o n : Nat) : (s.bump f o n).bscan = s.bscan := State.noteEvt_bscan s f o _
@[simp] theorem State.bump_gates (s : State) (f : Fld) (o n : Nat) : (s.bump f o n).gates = s.gates := State.noteEvt_gates s f o _
@[simp] theorem State.bump_mus (s : State) (f : Fld) (o n : Nat) : (s.bump f o n).mus = s.mus := State.noteEvt_mus s f o _
@[simp] theorem State.bump_cd (s : State) (f : Fld) (o n : Nat) : (s.bump f o n).cd = s.cd := State.noteEvt_cd s f o _
@[simp] theorem State.bump_gov (s : State) (f : Fld) (o n : Nat) : (s.bump f o n).gov = s.gov := State.noteEvt_gov s f o _
@[simp] theorem State.bump_cal (s : State) (f : Fld) (o n : Nat) : (s.bump f o n).cal = s.cal := State.noteEvt_cal s f o _
@[simp] theorem State.bump_vals (s : State) (f : Fld) (o n : Nat) : (s.bump f o n).vals = s.vals := State.noteEvt_vals s f o _
@[simp] theorem State.bump_loads (s : State) (f : Fld) (o n : Nat) : (s.bump f o n).loads = s.loads := State.noteEvt_loads s f o _
@[simp] theorem State.bump_rxCal (s : State) (f : Fld) (o n : Nat) : (s.bump f o n).rxCal = s.rxCal := State.noteEvt_rxCal s f o _
@[simp] theorem State.bump_rx (s : State) (f : Fld) (o n : Nat) : (s.bump f o n).rx = s.rx := State.noteEvt_rx s f o _
@[simp] theorem State.bump_spare (s : State) (f : Fld) (o n : Nat) : (s.bump f o n).spare = s.spare := State.noteEvt_spare s f o _
@[simp] theorem State.bump_res (s : State) (f : Fld) (o n : Nat) : (s.bump f o n).res = s.res := State.noteEvt_res s f o _
@[simp] theorem State.bump_resStreams (s : State) (f : Fld) (o n : Nat) : (s.bump f o n).resStreams = s.resStreams := State.noteEvt_resStreams s f o _
@[simp] theorem State.bump_resOld (s : State) (f : Fld) (o n : Nat) : (s.bump f o n).resOld = s.resOld := State.noteEvt_resOld s f o _
@[simp] theorem State.bump_skeins (s : State) (f : Fld) (o n : Nat) : (s.bump f o n).skeins = s.skeins := State.noteEvt_skeins s f o _
@[simp] theorem State.bump_readers (s : State) (f : Fld) (o n : Nat) : (s.bump f o n).readers = s.readers := State.noteEvt_readers s f o _
@[simp] theorem State.bump_regions (s : State) (f : Fld) (o n : Nat) : (s.bump f o n).regions = s.regions := State.noteEvt_regions s f o _
@[simp] theorem State.bump_dramMt (s : State) (f : Fld) (o n : Nat) : (s.bump f o n).dramMt = s.dramMt := State.noteEvt_dramMt s f o _
@[simp] theorem State.bump_boltMt (s : State) (f : Fld) (o n : Nat) : (s.bump f o n).boltMt = s.boltMt := State.noteEvt_boltMt s f o _
@[simp] theorem State.bump_rtMt (s : State) (f : Fld) (o n : Nat) : (s.bump f o n).rtMt = s.rtMt := State.noteEvt_rtMt s f o _
@[simp] theorem State.bump_host (s : State) (f : Fld) (o n : Nat) : (s.bump f o n).host = s.host := State.noteEvt_host s f o _
@[simp] theorem State.bump_queues (s : State) (f : Fld) (o n : Nat) : (s.bump f o n).queues = s.queues := State.noteEvt_queues s f o _
@[simp] theorem State.bump_served (s : State) (f : Fld) (o n : Nat) : (s.bump f o n).served = s.served := State.noteEvt_served s f o _
@[simp] theorem State.bump_detected (s : State) (f : Fld) (o n : Nat) : (s.bump f o n).detected = s.detected := State.noteEvt_detected s f o _
@[simp] theorem State.bump_selv (s : State) (f : Fld) (o n : Nat) : (s.bump f o n).selv = s.selv := State.noteEvt_selv s f o _
@[simp] theorem State.bump_health (s : State) (f : Fld) (o n : Nat) : (s.bump f o n).health = s.health := State.noteEvt_health s f o _
@[simp] theorem State.bump_lamps (s : State) (f : Fld) (o n : Nat) : (s.bump f o n).lamps = s.lamps := State.noteEvt_lamps s f o _
@[simp] theorem State.bump_holds (s : State) (f : Fld) (o n : Nat) : (s.bump f o n).holds = s.holds := State.noteEvt_holds s f o _
@[simp] theorem State.bump_pwr (s : State) (f : Fld) (o n : Nat) : (s.bump f o n).pwr = s.pwr := State.noteEvt_pwr s f o _
@[simp] theorem State.bump_draft (s : State) (f : Fld) (o n : Nat) : (s.bump f o n).draft = s.draft := State.noteEvt_draft s f o _
@[simp] theorem State.bump_bobbin (s : State) (f : Fld) (o n : Nat) : (s.bump f o n).bobbin = s.bobbin := State.noteEvt_bobbin s f o _
@[simp] theorem State.bump_mgmt (s : State) (f : Fld) (o n : Nat) : (s.bump f o n).mgmt = s.mgmt := State.noteEvt_mgmt s f o _
@[simp] theorem State.bump_aonLock (s : State) (f : Fld) (o n : Nat) : (s.bump f o n).aonLock = s.aonLock := State.noteEvt_aonLock s f o _
@[simp] theorem State.bump_binds (s : State) (f : Fld) (o n : Nat) : (s.bump f o n).binds = s.binds := State.noteEvt_binds s f o _

/-! ### Time passes -/

@[simp] theorem State.until_regs (s : State) (t : Nat) : (s.until_ t).regs = s.regs := by unfold State.until_; split <;> rfl
@[simp] theorem State.until_shadow (s : State) (t : Nat) : (s.until_ t).shadow = s.shadow := by unfold State.until_; split <;> rfl
@[simp] theorem State.until_staged (s : State) (t : Nat) : (s.until_ t).staged = s.staged := by unfold State.until_; split <;> rfl
@[simp] theorem State.until_freeIdx (s : State) (t : Nat) : (s.until_ t).freeIdx = s.freeIdx := by unfold State.until_; split <;> rfl
@[simp] theorem State.until_pending (s : State) (t : Nat) : (s.until_ t).pending = s.pending := by unfold State.until_; split <;> rfl
@[simp] theorem State.until_hsf (s : State) (t : Nat) : (s.until_ t).hsf = s.hsf := by unfold State.until_; split <;> rfl
@[simp] theorem State.until_stalled (s : State) (t : Nat) : (s.until_ t).stalled = s.stalled := by unfold State.until_; split <;> rfl
@[simp] theorem State.until_sentAt (s : State) (t : Nat) : (s.until_ t).sentAt = s.sentAt := by unfold State.until_; split <;> rfl
@[simp] theorem State.until_store (s : State) (t : Nat) : (s.until_ t).store = s.store := by unfold State.until_; split <;> rfl
@[simp] theorem State.until_clk (s : State) (t : Nat) : (s.until_ t).clk = s.clk := by unfold State.until_; split <;> rfl
@[simp] theorem State.until_outs (s : State) (t : Nat) : (s.until_ t).outs = s.outs := by unfold State.until_; split <;> rfl
@[simp] theorem State.until_banks (s : State) (t : Nat) : (s.until_ t).banks = s.banks := by unfold State.until_; split <;> rfl
@[simp] theorem State.until_voters (s : State) (t : Nat) : (s.until_ t).voters = s.voters := by unfold State.until_; split <;> rfl
@[simp] theorem State.until_hin (s : State) (t : Nat) : (s.until_ t).hin = s.hin := by unfold State.until_; split <;> rfl
@[simp] theorem State.until_lines (s : State) (t : Nat) : (s.until_ t).lines = s.lines := by unfold State.until_; split <;> rfl
@[simp] theorem State.until_pins (s : State) (t : Nat) : (s.until_ t).pins = s.pins := by unfold State.until_; split <;> rfl
@[simp] theorem State.until_rgs (s : State) (t : Nat) : (s.until_ t).rgs = s.rgs := by unfold State.until_; split <;> rfl
@[simp] theorem State.until_old (s : State) (t : Nat) : (s.until_ t).old = s.old := by unfold State.until_; split <;> rfl
@[simp] theorem State.until_fresh (s : State) (t : Nat) : (s.until_ t).fresh = s.fresh := by unfold State.until_; split <;> rfl
@[simp] theorem State.until_evts (s : State) (t : Nat) : (s.until_ t).evts = s.evts := by unfold State.until_; split <;> rfl
@[simp] theorem State.until_chain (s : State) (t : Nat) : (s.until_ t).chain = s.chain := by unfold State.until_; split <;> rfl
@[simp] theorem State.until_seqs (s : State) (t : Nat) : (s.until_ t).seqs = s.seqs := by unfold State.until_; split <;> rfl
@[simp] theorem State.until_probes (s : State) (t : Nat) : (s.until_ t).probes = s.probes := by unfold State.until_; split <;> rfl
@[simp] theorem State.until_lims (s : State) (t : Nat) : (s.until_ t).lims = s.lims := by unfold State.until_; split <;> rfl
@[simp] theorem State.until_txLinks (s : State) (t : Nat) : (s.until_ t).txLinks = s.txLinks := by unfold State.until_; split <;> rfl
@[simp] theorem State.until_reedIn (s : State) (t : Nat) : (s.until_ t).reedIn = s.reedIn := by unfold State.until_; split <;> rfl
@[simp] theorem State.until_reedBind (s : State) (t : Nat) : (s.until_ t).reedBind = s.reedBind := by unfold State.until_; split <;> rfl
@[simp] theorem State.until_reedPend (s : State) (t : Nat) : (s.until_ t).reedPend = s.reedPend := by unfold State.until_; split <;> rfl
@[simp] theorem State.until_bscan (s : State) (t : Nat) : (s.until_ t).bscan = s.bscan := by unfold State.until_; split <;> rfl
@[simp] theorem State.until_gates (s : State) (t : Nat) : (s.until_ t).gates = s.gates := by unfold State.until_; split <;> rfl
@[simp] theorem State.until_mus (s : State) (t : Nat) : (s.until_ t).mus = s.mus := by unfold State.until_; split <;> rfl
@[simp] theorem State.until_cd (s : State) (t : Nat) : (s.until_ t).cd = s.cd := by unfold State.until_; split <;> rfl
@[simp] theorem State.until_gov (s : State) (t : Nat) : (s.until_ t).gov = s.gov := by unfold State.until_; split <;> rfl
@[simp] theorem State.until_cal (s : State) (t : Nat) : (s.until_ t).cal = s.cal := by unfold State.until_; split <;> rfl
@[simp] theorem State.until_vals (s : State) (t : Nat) : (s.until_ t).vals = s.vals := by unfold State.until_; split <;> rfl
@[simp] theorem State.until_loads (s : State) (t : Nat) : (s.until_ t).loads = s.loads := by unfold State.until_; split <;> rfl
@[simp] theorem State.until_rxCal (s : State) (t : Nat) : (s.until_ t).rxCal = s.rxCal := by unfold State.until_; split <;> rfl
@[simp] theorem State.until_rx (s : State) (t : Nat) : (s.until_ t).rx = s.rx := by unfold State.until_; split <;> rfl
@[simp] theorem State.until_spare (s : State) (t : Nat) : (s.until_ t).spare = s.spare := by unfold State.until_; split <;> rfl
@[simp] theorem State.until_res (s : State) (t : Nat) : (s.until_ t).res = s.res := by unfold State.until_; split <;> rfl
@[simp] theorem State.until_resStreams (s : State) (t : Nat) : (s.until_ t).resStreams = s.resStreams := by unfold State.until_; split <;> rfl
@[simp] theorem State.until_resOld (s : State) (t : Nat) : (s.until_ t).resOld = s.resOld := by unfold State.until_; split <;> rfl
@[simp] theorem State.until_skeins (s : State) (t : Nat) : (s.until_ t).skeins = s.skeins := by unfold State.until_; split <;> rfl
@[simp] theorem State.until_readers (s : State) (t : Nat) : (s.until_ t).readers = s.readers := by unfold State.until_; split <;> rfl
@[simp] theorem State.until_regions (s : State) (t : Nat) : (s.until_ t).regions = s.regions := by unfold State.until_; split <;> rfl
@[simp] theorem State.until_dramMt (s : State) (t : Nat) : (s.until_ t).dramMt = s.dramMt := by unfold State.until_; split <;> rfl
@[simp] theorem State.until_boltMt (s : State) (t : Nat) : (s.until_ t).boltMt = s.boltMt := by unfold State.until_; split <;> rfl
@[simp] theorem State.until_rtMt (s : State) (t : Nat) : (s.until_ t).rtMt = s.rtMt := by unfold State.until_; split <;> rfl
@[simp] theorem State.until_host (s : State) (t : Nat) : (s.until_ t).host = s.host := by unfold State.until_; split <;> rfl
@[simp] theorem State.until_queues (s : State) (t : Nat) : (s.until_ t).queues = s.queues := by unfold State.until_; split <;> rfl
@[simp] theorem State.until_served (s : State) (t : Nat) : (s.until_ t).served = s.served := by unfold State.until_; split <;> rfl
@[simp] theorem State.until_detected (s : State) (t : Nat) : (s.until_ t).detected = s.detected := by unfold State.until_; split <;> rfl
@[simp] theorem State.until_selv (s : State) (t : Nat) : (s.until_ t).selv = s.selv := by unfold State.until_; split <;> rfl
@[simp] theorem State.until_health (s : State) (t : Nat) : (s.until_ t).health = s.health := by unfold State.until_; split <;> rfl
@[simp] theorem State.until_lamps (s : State) (t : Nat) : (s.until_ t).lamps = s.lamps := by unfold State.until_; split <;> rfl
@[simp] theorem State.until_holds (s : State) (t : Nat) : (s.until_ t).holds = s.holds := by unfold State.until_; split <;> rfl
@[simp] theorem State.until_pwr (s : State) (t : Nat) : (s.until_ t).pwr = s.pwr := by unfold State.until_; split <;> rfl
@[simp] theorem State.until_draft (s : State) (t : Nat) : (s.until_ t).draft = s.draft := by unfold State.until_; split <;> rfl
@[simp] theorem State.until_bobbin (s : State) (t : Nat) : (s.until_ t).bobbin = s.bobbin := by unfold State.until_; split <;> rfl
@[simp] theorem State.until_mgmt (s : State) (t : Nat) : (s.until_ t).mgmt = s.mgmt := by unfold State.until_; split <;> rfl
@[simp] theorem State.until_aonLock (s : State) (t : Nat) : (s.until_ t).aonLock = s.aonLock := by unfold State.until_; split <;> rfl
@[simp] theorem State.until_binds (s : State) (t : Nat) : (s.until_ t).binds = s.binds := by unfold State.until_; split <;> rfl

/-! ### A fault is detected -/

@[simp] theorem State.detect_regs (s : State) (c u b d : Nat) (m : Bool) (i : Nat) : (s.detect c u b d m i).regs = s.regs := rfl
@[simp] theorem State.detect_shadow (s : State) (c u b d : Nat) (m : Bool) (i : Nat) : (s.detect c u b d m i).shadow = s.shadow := rfl
@[simp] theorem State.detect_staged (s : State) (c u b d : Nat) (m : Bool) (i : Nat) : (s.detect c u b d m i).staged = s.staged := rfl
@[simp] theorem State.detect_now (s : State) (c u b d : Nat) (m : Bool) (i : Nat) : (s.detect c u b d m i).now = s.now := rfl
@[simp] theorem State.detect_freeIdx (s : State) (c u b d : Nat) (m : Bool) (i : Nat) : (s.detect c u b d m i).freeIdx = s.freeIdx := rfl
@[simp] theorem State.detect_pending (s : State) (c u b d : Nat) (m : Bool) (i : Nat) : (s.detect c u b d m i).pending = s.pending := rfl
@[simp] theorem State.detect_hsf (s : State) (c u b d : Nat) (m : Bool) (i : Nat) : (s.detect c u b d m i).hsf = s.hsf := rfl
@[simp] theorem State.detect_stalled (s : State) (c u b d : Nat) (m : Bool) (i : Nat) : (s.detect c u b d m i).stalled = s.stalled := rfl
@[simp] theorem State.detect_sentAt (s : State) (c u b d : Nat) (m : Bool) (i : Nat) : (s.detect c u b d m i).sentAt = s.sentAt := rfl
@[simp] theorem State.detect_store (s : State) (c u b d : Nat) (m : Bool) (i : Nat) : (s.detect c u b d m i).store = s.store := rfl
@[simp] theorem State.detect_clk (s : State) (c u b d : Nat) (m : Bool) (i : Nat) : (s.detect c u b d m i).clk = s.clk := rfl
@[simp] theorem State.detect_outs (s : State) (c u b d : Nat) (m : Bool) (i : Nat) : (s.detect c u b d m i).outs = s.outs := rfl
@[simp] theorem State.detect_banks (s : State) (c u b d : Nat) (m : Bool) (i : Nat) : (s.detect c u b d m i).banks = s.banks := rfl
@[simp] theorem State.detect_voters (s : State) (c u b d : Nat) (m : Bool) (i : Nat) : (s.detect c u b d m i).voters = s.voters := rfl
@[simp] theorem State.detect_hin (s : State) (c u b d : Nat) (m : Bool) (i : Nat) : (s.detect c u b d m i).hin = s.hin := rfl
@[simp] theorem State.detect_lines (s : State) (c u b d : Nat) (m : Bool) (i : Nat) : (s.detect c u b d m i).lines = s.lines := rfl
@[simp] theorem State.detect_pins (s : State) (c u b d : Nat) (m : Bool) (i : Nat) : (s.detect c u b d m i).pins = s.pins := rfl
@[simp] theorem State.detect_rgs (s : State) (c u b d : Nat) (m : Bool) (i : Nat) : (s.detect c u b d m i).rgs = s.rgs := rfl
@[simp] theorem State.detect_old (s : State) (c u b d : Nat) (m : Bool) (i : Nat) : (s.detect c u b d m i).old = s.old := rfl
@[simp] theorem State.detect_fresh (s : State) (c u b d : Nat) (m : Bool) (i : Nat) : (s.detect c u b d m i).fresh = s.fresh := rfl
@[simp] theorem State.detect_evts (s : State) (c u b d : Nat) (m : Bool) (i : Nat) : (s.detect c u b d m i).evts = s.evts := rfl
@[simp] theorem State.detect_chain (s : State) (c u b d : Nat) (m : Bool) (i : Nat) : (s.detect c u b d m i).chain = s.chain := rfl
@[simp] theorem State.detect_seqs (s : State) (c u b d : Nat) (m : Bool) (i : Nat) : (s.detect c u b d m i).seqs = s.seqs := rfl
@[simp] theorem State.detect_probes (s : State) (c u b d : Nat) (m : Bool) (i : Nat) : (s.detect c u b d m i).probes = s.probes := rfl
@[simp] theorem State.detect_lims (s : State) (c u b d : Nat) (m : Bool) (i : Nat) : (s.detect c u b d m i).lims = s.lims := rfl
@[simp] theorem State.detect_txLinks (s : State) (c u b d : Nat) (m : Bool) (i : Nat) : (s.detect c u b d m i).txLinks = s.txLinks := rfl
@[simp] theorem State.detect_reedIn (s : State) (c u b d : Nat) (m : Bool) (i : Nat) : (s.detect c u b d m i).reedIn = s.reedIn := rfl
@[simp] theorem State.detect_reedBind (s : State) (c u b d : Nat) (m : Bool) (i : Nat) : (s.detect c u b d m i).reedBind = s.reedBind := rfl
@[simp] theorem State.detect_reedPend (s : State) (c u b d : Nat) (m : Bool) (i : Nat) : (s.detect c u b d m i).reedPend = s.reedPend := rfl
@[simp] theorem State.detect_bscan (s : State) (c u b d : Nat) (m : Bool) (i : Nat) : (s.detect c u b d m i).bscan = s.bscan := rfl
@[simp] theorem State.detect_gates (s : State) (c u b d : Nat) (m : Bool) (i : Nat) : (s.detect c u b d m i).gates = s.gates := rfl
@[simp] theorem State.detect_mus (s : State) (c u b d : Nat) (m : Bool) (i : Nat) : (s.detect c u b d m i).mus = s.mus := rfl
@[simp] theorem State.detect_cd (s : State) (c u b d : Nat) (m : Bool) (i : Nat) : (s.detect c u b d m i).cd = s.cd := rfl
@[simp] theorem State.detect_gov (s : State) (c u b d : Nat) (m : Bool) (i : Nat) : (s.detect c u b d m i).gov = s.gov := rfl
@[simp] theorem State.detect_cal (s : State) (c u b d : Nat) (m : Bool) (i : Nat) : (s.detect c u b d m i).cal = s.cal := rfl
@[simp] theorem State.detect_vals (s : State) (c u b d : Nat) (m : Bool) (i : Nat) : (s.detect c u b d m i).vals = s.vals := rfl
@[simp] theorem State.detect_loads (s : State) (c u b d : Nat) (m : Bool) (i : Nat) : (s.detect c u b d m i).loads = s.loads := rfl
@[simp] theorem State.detect_rxCal (s : State) (c u b d : Nat) (m : Bool) (i : Nat) : (s.detect c u b d m i).rxCal = s.rxCal := rfl
@[simp] theorem State.detect_rx (s : State) (c u b d : Nat) (m : Bool) (i : Nat) : (s.detect c u b d m i).rx = s.rx := rfl
@[simp] theorem State.detect_spare (s : State) (c u b d : Nat) (m : Bool) (i : Nat) : (s.detect c u b d m i).spare = s.spare := rfl
@[simp] theorem State.detect_res (s : State) (c u b d : Nat) (m : Bool) (i : Nat) : (s.detect c u b d m i).res = s.res := rfl
@[simp] theorem State.detect_resStreams (s : State) (c u b d : Nat) (m : Bool) (i : Nat) : (s.detect c u b d m i).resStreams = s.resStreams := rfl
@[simp] theorem State.detect_resOld (s : State) (c u b d : Nat) (m : Bool) (i : Nat) : (s.detect c u b d m i).resOld = s.resOld := rfl
@[simp] theorem State.detect_skeins (s : State) (c u b d : Nat) (m : Bool) (i : Nat) : (s.detect c u b d m i).skeins = s.skeins := rfl
@[simp] theorem State.detect_readers (s : State) (c u b d : Nat) (m : Bool) (i : Nat) : (s.detect c u b d m i).readers = s.readers := rfl
@[simp] theorem State.detect_regions (s : State) (c u b d : Nat) (m : Bool) (i : Nat) : (s.detect c u b d m i).regions = s.regions := rfl
@[simp] theorem State.detect_dramMt (s : State) (c u b d : Nat) (m : Bool) (i : Nat) : (s.detect c u b d m i).dramMt = s.dramMt := rfl
@[simp] theorem State.detect_boltMt (s : State) (c u b d : Nat) (m : Bool) (i : Nat) : (s.detect c u b d m i).boltMt = s.boltMt := rfl
@[simp] theorem State.detect_rtMt (s : State) (c u b d : Nat) (m : Bool) (i : Nat) : (s.detect c u b d m i).rtMt = s.rtMt := rfl
@[simp] theorem State.detect_host (s : State) (c u b d : Nat) (m : Bool) (i : Nat) : (s.detect c u b d m i).host = s.host := rfl
@[simp] theorem State.detect_queues (s : State) (c u b d : Nat) (m : Bool) (i : Nat) : (s.detect c u b d m i).queues = s.queues := rfl
@[simp] theorem State.detect_served (s : State) (c u b d : Nat) (m : Bool) (i : Nat) : (s.detect c u b d m i).served = s.served := rfl
@[simp] theorem State.detect_selv (s : State) (c u b d : Nat) (m : Bool) (i : Nat) : (s.detect c u b d m i).selv = s.selv := rfl
@[simp] theorem State.detect_health (s : State) (c u b d : Nat) (m : Bool) (i : Nat) : (s.detect c u b d m i).health = s.health := rfl
@[simp] theorem State.detect_lamps (s : State) (c u b d : Nat) (m : Bool) (i : Nat) : (s.detect c u b d m i).lamps = s.lamps := rfl
@[simp] theorem State.detect_holds (s : State) (c u b d : Nat) (m : Bool) (i : Nat) : (s.detect c u b d m i).holds = s.holds := rfl
@[simp] theorem State.detect_pwr (s : State) (c u b d : Nat) (m : Bool) (i : Nat) : (s.detect c u b d m i).pwr = s.pwr := rfl
@[simp] theorem State.detect_draft (s : State) (c u b d : Nat) (m : Bool) (i : Nat) : (s.detect c u b d m i).draft = s.draft := rfl
@[simp] theorem State.detect_bobbin (s : State) (c u b d : Nat) (m : Bool) (i : Nat) : (s.detect c u b d m i).bobbin = s.bobbin := rfl
@[simp] theorem State.detect_mgmt (s : State) (c u b d : Nat) (m : Bool) (i : Nat) : (s.detect c u b d m i).mgmt = s.mgmt := rfl
@[simp] theorem State.detect_aonLock (s : State) (c u b d : Nat) (m : Bool) (i : Nat) : (s.detect c u b d m i).aonLock = s.aonLock := rfl
@[simp] theorem State.detect_binds (s : State) (c u b d : Nat) (m : Bool) (i : Nat) : (s.detect c u b d m i).binds = s.binds := rfl

/-! ### One output changes -/

@[simp] theorem State.setOut_regs (s : State) (o : Nat) (x : OutSt) : (s.setOut o x).regs = s.regs := rfl
@[simp] theorem State.setOut_shadow (s : State) (o : Nat) (x : OutSt) : (s.setOut o x).shadow = s.shadow := rfl
@[simp] theorem State.setOut_staged (s : State) (o : Nat) (x : OutSt) : (s.setOut o x).staged = s.staged := rfl
@[simp] theorem State.setOut_now (s : State) (o : Nat) (x : OutSt) : (s.setOut o x).now = s.now := rfl
@[simp] theorem State.setOut_freeIdx (s : State) (o : Nat) (x : OutSt) : (s.setOut o x).freeIdx = s.freeIdx := rfl
@[simp] theorem State.setOut_pending (s : State) (o : Nat) (x : OutSt) : (s.setOut o x).pending = s.pending := rfl
@[simp] theorem State.setOut_hsf (s : State) (o : Nat) (x : OutSt) : (s.setOut o x).hsf = s.hsf := rfl
@[simp] theorem State.setOut_stalled (s : State) (o : Nat) (x : OutSt) : (s.setOut o x).stalled = s.stalled := rfl
@[simp] theorem State.setOut_sentAt (s : State) (o : Nat) (x : OutSt) : (s.setOut o x).sentAt = s.sentAt := rfl
@[simp] theorem State.setOut_store (s : State) (o : Nat) (x : OutSt) : (s.setOut o x).store = s.store := rfl
@[simp] theorem State.setOut_clk (s : State) (o : Nat) (x : OutSt) : (s.setOut o x).clk = s.clk := rfl
@[simp] theorem State.setOut_banks (s : State) (o : Nat) (x : OutSt) : (s.setOut o x).banks = s.banks := rfl
@[simp] theorem State.setOut_voters (s : State) (o : Nat) (x : OutSt) : (s.setOut o x).voters = s.voters := rfl
@[simp] theorem State.setOut_hin (s : State) (o : Nat) (x : OutSt) : (s.setOut o x).hin = s.hin := rfl
@[simp] theorem State.setOut_lines (s : State) (o : Nat) (x : OutSt) : (s.setOut o x).lines = s.lines := rfl
@[simp] theorem State.setOut_pins (s : State) (o : Nat) (x : OutSt) : (s.setOut o x).pins = s.pins := rfl
@[simp] theorem State.setOut_rgs (s : State) (o : Nat) (x : OutSt) : (s.setOut o x).rgs = s.rgs := rfl
@[simp] theorem State.setOut_old (s : State) (o : Nat) (x : OutSt) : (s.setOut o x).old = s.old := rfl
@[simp] theorem State.setOut_fresh (s : State) (o : Nat) (x : OutSt) : (s.setOut o x).fresh = s.fresh := rfl
@[simp] theorem State.setOut_evts (s : State) (o : Nat) (x : OutSt) : (s.setOut o x).evts = s.evts := rfl
@[simp] theorem State.setOut_chain (s : State) (o : Nat) (x : OutSt) : (s.setOut o x).chain = s.chain := rfl
@[simp] theorem State.setOut_seqs (s : State) (o : Nat) (x : OutSt) : (s.setOut o x).seqs = s.seqs := rfl
@[simp] theorem State.setOut_probes (s : State) (o : Nat) (x : OutSt) : (s.setOut o x).probes = s.probes := rfl
@[simp] theorem State.setOut_lims (s : State) (o : Nat) (x : OutSt) : (s.setOut o x).lims = s.lims := rfl
@[simp] theorem State.setOut_txLinks (s : State) (o : Nat) (x : OutSt) : (s.setOut o x).txLinks = s.txLinks := rfl
@[simp] theorem State.setOut_reedIn (s : State) (o : Nat) (x : OutSt) : (s.setOut o x).reedIn = s.reedIn := rfl
@[simp] theorem State.setOut_reedBind (s : State) (o : Nat) (x : OutSt) : (s.setOut o x).reedBind = s.reedBind := rfl
@[simp] theorem State.setOut_reedPend (s : State) (o : Nat) (x : OutSt) : (s.setOut o x).reedPend = s.reedPend := rfl
@[simp] theorem State.setOut_bscan (s : State) (o : Nat) (x : OutSt) : (s.setOut o x).bscan = s.bscan := rfl
@[simp] theorem State.setOut_gates (s : State) (o : Nat) (x : OutSt) : (s.setOut o x).gates = s.gates := rfl
@[simp] theorem State.setOut_mus (s : State) (o : Nat) (x : OutSt) : (s.setOut o x).mus = s.mus := rfl
@[simp] theorem State.setOut_cd (s : State) (o : Nat) (x : OutSt) : (s.setOut o x).cd = s.cd := rfl
@[simp] theorem State.setOut_gov (s : State) (o : Nat) (x : OutSt) : (s.setOut o x).gov = s.gov := rfl
@[simp] theorem State.setOut_cal (s : State) (o : Nat) (x : OutSt) : (s.setOut o x).cal = s.cal := rfl
@[simp] theorem State.setOut_vals (s : State) (o : Nat) (x : OutSt) : (s.setOut o x).vals = s.vals := rfl
@[simp] theorem State.setOut_loads (s : State) (o : Nat) (x : OutSt) : (s.setOut o x).loads = s.loads := rfl
@[simp] theorem State.setOut_rxCal (s : State) (o : Nat) (x : OutSt) : (s.setOut o x).rxCal = s.rxCal := rfl
@[simp] theorem State.setOut_rx (s : State) (o : Nat) (x : OutSt) : (s.setOut o x).rx = s.rx := rfl
@[simp] theorem State.setOut_spare (s : State) (o : Nat) (x : OutSt) : (s.setOut o x).spare = s.spare := rfl
@[simp] theorem State.setOut_res (s : State) (o : Nat) (x : OutSt) : (s.setOut o x).res = s.res := rfl
@[simp] theorem State.setOut_resStreams (s : State) (o : Nat) (x : OutSt) : (s.setOut o x).resStreams = s.resStreams := rfl
@[simp] theorem State.setOut_resOld (s : State) (o : Nat) (x : OutSt) : (s.setOut o x).resOld = s.resOld := rfl
@[simp] theorem State.setOut_skeins (s : State) (o : Nat) (x : OutSt) : (s.setOut o x).skeins = s.skeins := rfl
@[simp] theorem State.setOut_readers (s : State) (o : Nat) (x : OutSt) : (s.setOut o x).readers = s.readers := rfl
@[simp] theorem State.setOut_regions (s : State) (o : Nat) (x : OutSt) : (s.setOut o x).regions = s.regions := rfl
@[simp] theorem State.setOut_dramMt (s : State) (o : Nat) (x : OutSt) : (s.setOut o x).dramMt = s.dramMt := rfl
@[simp] theorem State.setOut_boltMt (s : State) (o : Nat) (x : OutSt) : (s.setOut o x).boltMt = s.boltMt := rfl
@[simp] theorem State.setOut_rtMt (s : State) (o : Nat) (x : OutSt) : (s.setOut o x).rtMt = s.rtMt := rfl
@[simp] theorem State.setOut_host (s : State) (o : Nat) (x : OutSt) : (s.setOut o x).host = s.host := rfl
@[simp] theorem State.setOut_queues (s : State) (o : Nat) (x : OutSt) : (s.setOut o x).queues = s.queues := rfl
@[simp] theorem State.setOut_served (s : State) (o : Nat) (x : OutSt) : (s.setOut o x).served = s.served := rfl
@[simp] theorem State.setOut_detected (s : State) (o : Nat) (x : OutSt) : (s.setOut o x).detected = s.detected := rfl
@[simp] theorem State.setOut_selv (s : State) (o : Nat) (x : OutSt) : (s.setOut o x).selv = s.selv := rfl
@[simp] theorem State.setOut_health (s : State) (o : Nat) (x : OutSt) : (s.setOut o x).health = s.health := rfl
@[simp] theorem State.setOut_lamps (s : State) (o : Nat) (x : OutSt) : (s.setOut o x).lamps = s.lamps := rfl
@[simp] theorem State.setOut_holds (s : State) (o : Nat) (x : OutSt) : (s.setOut o x).holds = s.holds := rfl
@[simp] theorem State.setOut_pwr (s : State) (o : Nat) (x : OutSt) : (s.setOut o x).pwr = s.pwr := rfl
@[simp] theorem State.setOut_draft (s : State) (o : Nat) (x : OutSt) : (s.setOut o x).draft = s.draft := rfl
@[simp] theorem State.setOut_bobbin (s : State) (o : Nat) (x : OutSt) : (s.setOut o x).bobbin = s.bobbin := rfl
@[simp] theorem State.setOut_mgmt (s : State) (o : Nat) (x : OutSt) : (s.setOut o x).mgmt = s.mgmt := rfl
@[simp] theorem State.setOut_aonLock (s : State) (o : Nat) (x : OutSt) : (s.setOut o x).aonLock = s.aonLock := rfl
@[simp] theorem State.setOut_binds (s : State) (o : Nat) (x : OutSt) : (s.setOut o x).binds = s.binds := rfl

/-- Where no event of Heddle lies ahead, time alone passes. -/
theorem State.flowTo_nil {s : State} (t : Nat) (h : s.pins = []) : s.flowTo t = s.until_ t := by
  unfold State.flowTo; rw [h]; rfl

/-- Where no event of Heddle lies ahead, time alone passes. -/
theorem State.flowBefore_nil {s : State} (t : Nat) (h : s.pins = []) : s.flowBefore t = s.until_ t := by
  unfold State.flowBefore; rw [h]; rfl

end Sys2Proof.Machine
end

