-- ==== Sys2Proof/Laws/Ops.lean ====
section
/-! SUPPORT. What the shared operations on register words and fields do: the word or field written, and that every other word, and every
other field of the same word, keeps its value. -/

namespace Sys2Proof.Machine

/-! ### Words -/

/-- The word at an address of a state depends on its register store alone. -/
theorem State.word_congr {s t : State} (h : t.regs = s.regs) (a : Nat) : t.word a = s.word a := by unfold State.word; rw [h]

/-- A word stored reads back. -/
@[simp] theorem State.word_setWord_same (s : State) (a : Nat) (w : Word) : (s.setWord a w).word a = w :=
  RegMap.find_put_same _ _ _ _

/-- Storing a word leaves every other word as it was. -/
theorem State.word_setWord_ne (s : State) {a b : Nat} (w : Word) (h : b ≠ a) : (s.setWord a w).word b = s.word b := by
  unfold State.word State.setWord; rw [RegMap.find_put_ne _ _ _ h]

/-- The word at `b` after a store at `a`. -/
theorem State.word_setWord (s : State) (a b : Nat) (w : Word) : (s.setWord a w).word b = if b = a then w else s.word b := by
  split
  · rename_i h; subst h; simp
  · rename_i h; exact State.word_setWord_ne s w h

/-- The word at `b` after a field store. -/
theorem State.word_put (s : State) (f : Fld) (v o b : Nat) :
    (s.put f v o).word b = if b = f.base + o then f.set (s.word b) v else s.word b := by
  unfold State.put; rw [State.word_setWord]; split
  · rename_i h; rw [h]
  · rfl

/-- Storing a field leaves the words at other addresses as they were. -/
theorem State.word_put_ne (s : State) (f : Fld) (v : Nat) {o b : Nat} (h : b ≠ f.base + o) : (s.put f v o).word b = s.word b := by
  rw [State.word_put, if_neg h]

/-- Noting an event stores no word. -/
@[simp] theorem State.word_noteEvt (s : State) (f : Fld) (o : Nat) (g : Nat → Nat) (b : Nat) : (s.noteEvt f o g).word b = s.word b :=
  State.word_congr (State.noteEvt_regs s f o g) b

/-- The word at `b` after a flag is set. -/
theorem State.word_flag (s : State) (f : Fld) (o b : Nat) : (s.flag f o).word b = if b = f.base + o then f.set (s.word b) 1 else s.word b := by
  unfold State.flag; rw [State.word_put, State.word_noteEvt]

/-- The word at `b` after a flag is cleared. -/
theorem State.word_unflag (s : State) (f : Fld) (o b : Nat) : (s.unflag f o).word b = if b = f.base + o then f.set (s.word b) 0 else s.word b :=
  State.word_put s f 0 o b

/-- The word at `b` after a counter advances. -/
theorem State.word_bump (s : State) (f : Fld) (o n b : Nat) :
    (s.bump f o n).word b = if b = f.base + o then f.set (s.word b) (satU (fldWidth f) (s.get f o + n)) else s.word b := by
  unfold State.bump; rw [State.word_put, State.word_noteEvt]

/-- Passing time stores no word. -/
@[simp] theorem State.word_until (s : State) (t b : Nat) : (s.until_ t).word b = s.word b := State.word_congr (State.until_regs s t) b

/-- Detecting a fault stores no word. -/
@[simp] theorem State.word_detect (s : State) (c u b d : Nat) (m : Bool) (i a : Nat) : (s.detect c u b d m i).word a = s.word a := rfl

/-- Changing an output's own state stores no word. -/
@[simp] theorem State.word_setOut (s : State) (o : Nat) (x : OutSt) (a : Nat) : (s.setOut o x).word a = s.word a := rfl

/-! ### Fields -/

/-- A field stored reads back modulo its width. -/
theorem State.get_put_same (s : State) (f : Fld) (v o : Nat) (h : f.lo + fldWidth f ≤ 36) :
    (s.put f v o).get f o = v % 2 ^ fldWidth f := by
  unfold State.get; rw [State.word_put, if_pos rfl, Fld.get_set_same _ _ _ h]

/-- A field of another word keeps its value. -/
theorem State.get_put_word (s : State) (f g : Fld) (v o p : Nat) (h : g.base + p ≠ f.base + o) : (s.put f v o).get g p = s.get g p := by
  unfold State.get; rw [State.word_put_ne _ _ _ h]

/-- A field beside the stored one in the same word keeps its value. -/
theorem State.get_put_beside (s : State) (f g : Fld) (v o p : Nat) (hf : f.lo + fldWidth f ≤ 36) (hg : g.lo + fldWidth g ≤ 36)
    (h : f.lo + fldWidth f ≤ g.lo ∨ g.lo + fldWidth g ≤ f.lo) : (s.put f v o).get g p = s.get g p := by
  unfold State.get; rw [State.word_put]; split
  · exact Fld.get_set_ne f g _ v hf hg h
  · rfl

/-- A flag set reads 1. -/
theorem State.is_flag (s : State) (f : Fld) (o : Nat) (h : f.lo + fldWidth f ≤ 36) : (s.flag f o).is f o = true := by
  unfold State.is State.flag; rw [State.get_put_same _ _ _ _ h]
  have : 1 % 2 ^ fldWidth f = 1 := Nat.mod_eq_of_lt (Nat.one_lt_two_pow (by unfold fldWidth; omega))
  simp [this]

/-- A flag cleared reads 0. -/
theorem State.is_unflag (s : State) (f : Fld) (o : Nat) (h : f.lo + fldWidth f ≤ 36) : (s.unflag f o).is f o = false := by
  unfold State.is State.unflag; rw [State.get_put_same _ _ _ _ h]; simp

/-! ### Changes of register words alone -/

/-- No change is a change of register words alone. -/
theorem RegsOnly.refl (s : State) : RegsOnly s s := rfl

/-- Changes of register words alone follow one another. -/
theorem RegsOnly.trans {s t u : State} (h : RegsOnly s t) (k : RegsOnly t u) : RegsOnly s u := by
  unfold RegsOnly at h k ⊢; rw [k, h]

/-- Storing a word changes register words alone. -/
theorem RegsOnly.setWord (s : State) (a : Nat) (w : Word) : RegsOnly s (s.setWord a w) := rfl

/-- Storing a field changes register words alone. -/
theorem RegsOnly.put (s : State) (f : Fld) (v o : Nat) : RegsOnly s (s.put f v o) := rfl

/-- Noting an event changes its note alone. -/
theorem RegsOnly.noteEvt (s : State) (f : Fld) (o : Nat) (g : Nat → Nat) : RegsOnly s (s.noteEvt f o g) := by
  unfold RegsOnly State.noteEvt; dsimp only; split <;> [rfl; split <;> rfl]

/-- Setting a flag changes register words and the note of events alone. -/
theorem RegsOnly.flag (s : State) (f : Fld) (o : Nat) : RegsOnly s (s.flag f o) := (RegsOnly.noteEvt s f o _).trans (RegsOnly.put _ _ _ _)

/-- Clearing a flag changes register words alone. -/
theorem RegsOnly.unflag (s : State) (f : Fld) (o : Nat) : RegsOnly s (s.unflag f o) := rfl

/-- Counting changes register words and the note of events alone. -/
theorem RegsOnly.bump (s : State) (f : Fld) (o n : Nat) : RegsOnly s (s.bump f o n) := (RegsOnly.noteEvt s f o _).trans (RegsOnly.put _ _ _ _)

/-! ### The canonical form -/

/-- Storing a word keeps the stores canonical. -/
theorem State.canon_setWord {s : State} (a : Nat) (w : Word) (h : s.Canon) : (s.setWord a w).Canon :=
  ⟨RegMap.wf_put a w h.1, h.2.1, h.2.2⟩

/-- Storing a field keeps the stores canonical. -/
theorem State.canon_put {s : State} (f : Fld) (v o : Nat) (h : s.Canon) : (s.put f v o).Canon := State.canon_setWord _ _ h

/-- A state with the same three stores is as canonical. -/
theorem State.canon_congr {s t : State} (hr : t.regs = s.regs) (hs : t.shadow = s.shadow) (hg : t.staged = s.staged) (h : s.Canon) : t.Canon := by
  unfold State.Canon; rw [hr, hs, hg]; exact h

/-- Passing time keeps the stores canonical. -/
theorem State.canon_until {s : State} (t : Nat) (h : s.Canon) : (s.until_ t).Canon :=
  State.canon_congr (State.until_regs s t) (State.until_shadow s t) (State.until_staged s t) h

/-- Applying a shadow word keeps the stores canonical. -/
theorem State.canon_applyWord {s : State} (a : Nat) (h : s.Canon) : (s.applyWord a).Canon := by
  unfold State.applyWord; split
  · exact h
  · exact State.canon_setWord _ _ h
  · split
    · exact h
    · exact ⟨RegMap.wf_put a _ h.1, RegMap.rises_erase a h.2.1, h.2.2⟩

end Sys2Proof.Machine
end

