-- ==== Sys2Proof/WellFormed.lean ====
section
/-! DEFINITION. Which terms of the command syntax are commands: operands whose types are wider than the manual's ranges lie within them. The
other operands' types allow only what the manual does. Nothing in a meaning depends on this check. -/

namespace Sys2Proof

/-- An instant is 72 bits (R22). -/
def instWf (t : Nat) : Bool := decide (t < 2 ^ 72)

/-- A chain frame's header fields fit their bits (R416). Log: 3 DESIGN CHOICE. -/
def ChFrame.wf (f : ChFrame) : Bool :=
  decide (f.typ < 16 ∧ f.dst < 1024 ∧ f.src < 1024 ∧ f.hops < 512 ∧ f.seq < 4096 ∧ f.arg < 1024 ∧ f.words.length ≤ 8192)

/-- A due-time command has a four-bit action, an instant and a source code (R43, R48). Log: 3 DESIGN CHOICE. -/
def DueCmd.wf (c : DueCmd) : Bool := decide (c.action < 16 ∧ c.src < 7) && instWf c.due

/-- An mt tick finds an instant and one pair of readings for each of the eight sites (R35, R554). Log: 3 DESIGN CHOICE. -/
def MtObs.wf (o : MtObs) : Bool := instWf o.stamp && o.temps.length == 8

/-- What the echo checker sees lies at an instant. Log: 3 DESIGN CHOICE. -/
def EdgeObs.wf : EdgeObs → Bool
  | .seen _ => true
  | .none_ => true
  | .extra t _ => instWf t

/-- What the voter sees lies at an instant. Log: 3 DESIGN CHOICE. -/
def VoteObs.wf : VoteObs → Bool
  | .arrivals _ _ => true
  | .extra _ t => instWf t
  | .stuck _ t => instWf t

/-- A capture's wc are 62-bit (R251). Log: 3 DESIGN CHOICE. -/
def TiCap.wf (c : TiCap) : Bool := decide (c.cA < 2 ^ 62 ∧ c.cB < 2 ^ 62)

/-- A rank has at most 64 bins (R251, R269). Log: 3 DESIGN CHOICE. -/
def BinHits.wf (h : BinHits) : Bool := decide (h.hits.length ≤ 64)

/-- Both ranks of an input are ranks. Log: 3 DESIGN CHOICE. -/
def InMeas.wf (m : InMeas) : Bool := m.rankA.wf && m.rankB.wf

/-- A release finds at most four used positions, of samples in 16-bit containers (R299, R300). Log: 3 DESIGN CHOICE. -/
def RelObs.wf (o : RelObs) : Bool :=
  decide (o.samples.length ≤ 4) && o.samples.all (fun l => l.all (fun x => decide (-32768 ≤ x.1 ∧ x.1 ≤ 32767)))

/-- An Ethernet source is an IPv4 address and a port. Log: 3 DESIGN CHOICE. -/
def EthHdr.wf (r : EthHdr) : Bool := decide (r.src < 2 ^ 48)

/-- Is a term a command? Log: 3 DESIGN CHOICE, 92 DESIGN CHOICE. -/
def Instr.wf : Instr → Bool
  | .registerWrite _ _ _ _ => true
  | .readClear _ _ _ => true
  | .tbNowRead => true
  | .tbMtStampRead => true
  | .mtTick obs => obs.wf
  | .tbLoadNow => true
  | .tbLoadSyncIn => true
  | .tbLoadModeNone _ => true
  | .syncInEdge => true
  | .commandAccept _ fw => (match fw with | some c => c.wf | none => true)
  | .commandCommit => true
  | .refActivityLoss _ => true
  | .refQualify _ => true
  | .refRereference => true
  | .prefWrite _ => true
  | .pllcLost => true
  | .pllcReturn => true
  | .retuneGo => true
  | .drainComplete => true
  | .drainLimitExpiry => true
  | .dividerAlign => true
  | .guardPass => true
  | .guardLimitExpiry => true
  | .pllwReturn resid => decide (-512 ≤ resid ∧ resid ≤ 511)
  | .trimWrite trim => decide (-8388608 ≤ trim ∧ trim ≤ 8388607)
  | .trimRampDone => true
  | .lockLost => true
  | .phaseStep stamps => stamps.all instWf
  | .trigger => true
  | .stop => true
  | .tapply => true
  | .actionNotUsed => true
  | .leadingEdge _ => true
  | .trailingEdge _ => true
  | .enableWrite _ _ => true
  | .driverAwake _ => true
  | .warpApply _ _ => true
  | .warpTapplyArm _ _ => true
  | .warpTapplyCancel => true
  | .echoClassify _ obs => obs.wf
  | .echoLevelCheck _ _ => true
  | .failoverCopyDone _ => true
  | .failoverSwitch _ => true
  | .foRelease _ _ => true
  | .foReleaseSwitch _ => true
  | .foForce _ _ => true
  | .tiCrossing _ cap _ _ => cap.wf
  | .heddleInPsSync _ => true
  | .rgGo _ => true
  | .rgStop _ => true
  | .rgTick _ => true
  | .fire => true
  | .arm => true
  | .disarm => true
  | .heddleArmCmdArm _ => true
  | .heddleArmCmdDisarm _ => true
  | .armWindowExpiry _ => true
  | .heddleFireCtrlGo _ _ => true
  | .heddleLastRead => true
  | .voteClassify _ obs => obs.wf
  | .swapCopyDone _ => true
  | .swapTakeover _ => true
  | .replace _ _ => true
  | .clearFaulty _ _ => true
  | .moutApply _ => true
  | .moutTapplyArm _ => true
  | .moutTapplyCancel => true
  | .seqGo _ => true
  | .runStart _ => true
  | .seqStop _ => true
  | .seqStopAtEnd _ => true
  | .seqJump _ _ => true
  | .seqRelease _ => true
  | .seqApply _ => true
  | .seqTapplyArm _ => true
  | .seqTapplyCancel _ => true
  | .nop _ => true
  | .chip _ => true
  | .edge _ => true
  | .wait _ => true
  | .loop _ => true
  | .jump _ => true
  | .mark _ => true
  | .endItem _ => true
  | .idle _ => true
  | .itemNotUsed _ => true
  | .waitRelease _ => true
  | .decisionPoint _ => true
  | .segmentBoundary _ => true
  | .refillGranule _ => true
  | .shotBoundary _ => true
  | .probeApply _ => true
  | .probeTapplyArm _ => true
  | .probeTapplyCancel => true
  | .txLinkEnable _ => true
  | .txLinkDisable _ => true
  | .txClockCheck _ _ => true
  | .txLinkUp _ => true
  | .txFifoError _ => true
  | .limiterCut _ => true
  | .maxonCut _ => true
  | .capLock => true
  | .interlockAssert _ => true
  | .ilClear _ => true
  | .stampMerge => true
  | .gateOpen _ => true
  | .gateClose _ => true
  | .gateArm _ => true
  | .gateHostOpen _ => true
  | .gateHostClose _ => true
  | .gateStop _ => true
  | .muResult _ => true
  | .muResultRead _ => true
  | .cdGo _ _ => true
  | .cdAbort => true
  | .cdDone meas => meas.all InMeas.wf
  | .calGoBank _ => true
  | .calGoMout _ => true
  | .calGoTi _ => true
  | .calGoRx _ => true
  | .calGoAll => true
  | .calKindNotUsed _ => true
  | .calAbort => true
  | .calSamplerPassDone ranks => ranks.all BinHits.wf
  | .generatorRunDone _ => true
  | .calHandover _ => true
  | .handoverLimitExpiry => true
  | .tiRunDone meas => meas.all InMeas.wf
  | .calValueLoad _ => true
  | .calRecordWrite a _ => decide (a < 16777216)
  | .rxLinkEnable _ => true
  | .rxLinkDisable _ => true
  | .rxClockCheck _ _ => true
  | .rxLinkUp _ => true
  | .rxRelease _ obs => obs.wf
  | .laneLockLoss _ => true
  | .slicePlausFault _ => true
  | .spareDwell => true
  | .mismatch => true
  | .judgeEnd _ _ => true
  | .rxFoForce _ => true
  | .rxFoRelease _ => true
  | .rxClearFaulty _ => true
  | .rxSelftestDone _ => true
  | .rxEstimateDone _ => true
  | .rxwApply _ => true
  | .rxwTapplyArm _ => true
  | .rxwTapplyCancel => true
  | .eccDbe _ _ _ lost => decide (lost.1 ≤ lost.2)
  | .residue _ _ _ => true
  | .rowComplete _ _ => true
  | .rebase _ => true
  | .packetWord _ _ _ _ _ _ => true
  | .consumerRead _ _ => true
  | .popRead _ => true
  | .pushMiddle _ => true
  | .pushSop _ => true
  | .pushEop _ => true
  | .pushSopEop _ => true
  | .pushBad => true
  | .flush _ => true
  | .boltScrubPass _ _ => true
  | .skeinFrameWrite _ => true
  | .rawFrameWrite _ => true
  | .histMark _ => true
  | .histRelease _ _ => true
  | .markLocated _ _ => true
  | .readerGo _ => true
  | .readerStop _ => true
  | .readerFrame _ => true
  | .retentionTestGo _ _ => true
  | .retentionTestDone _ => true
  | .streamRegionReset _ => true
  | .streamRegionWrite _ => true
  | .dramDbe _ _ _ _ => true
  | .dramScrubPass _ => true
  | .dramReady => true
  | .portTrain _ => true
  | .portUp _ => true
  | .portLoss _ => true
  | .helloTimer _ => true
  | .hello _ f _ => f.wf
  | .timeExchangeTimer _ dep => instWf dep
  | .time _ f _ arr => f.wf && instWf arr
  | .chainStep => true
  | .announceTimer => true
  | .announce _ f _ => f.wf
  | .break _ f _ => f.wf
  | .healHoldExpiry _ => true
  | .heal _ f _ => f.wf
  | .join _ f _ => f.wf
  | .enumGo => true
  | .walk _ f _ => f.wf
  | .walkTimeout => true
  | .assign _ f _ => f.wf
  | .trig _ f _ => f.wf
  | .chainTrigGo _ _ _ _ => true
  | .fault _ f _ => f.wf
  | .regWr _ f _ => f.wf
  | .regRd _ f _ => f.wf
  | .regRsp _ f _ => f.wf
  | .data _ f _ => f.wf
  | .credit _ _ => true
  | .moduleRead _ _ _ => true
  | .moduleWrite _ _ _ _ => true
  | .moduleAccessDone _ _ _ => true
  | .remoteWrite _ _ _ => true
  | .remoteRead _ _ => true
  | .remoteReadTimeout => true
  | .bar2Push _ _ _ _ => true
  | .ringRdWrite _ _ => true
  | .ringInterruptTimer _ => true
  | .pcieLinkDown _ => true
  | .ethWrite r _ _ _ => r.wf
  | .ethRead r _ _ => r.wf
  | .ethPush r _ recs => r.wf && recs.all (fun x => decide (1 ≤ x.2.2.length ∧ x.2.2.length ≤ 8192))
  | .ethStrobe r _ _ => r.wf
  | .ethOpNotUsed src _ => decide (src < 2 ^ 48)
  | .arpRequest _ => true
  | .ethFrameDiscard => true
  | .streamDatagramTimer _ => true
  | .spiWrite _ _ => true
  | .spiRead _ _ => true
  | .spiStatus => true
  | .regacc _ _ _ => true
  | .hostStrobe _ _ _ => true
  | .draftBegin => true
  | .draftAbort => true
  | .draftData _ => true
  | .draftVerifyDone => true
  | .draftApply => true
  | .draftApplyRun => true
  | .draftCommit => true
  | .draftCommitDone _ => true
  | .configScan => true
  | .islandHoldReq _ => true
  | .held _ => true
  | .islandRelease _ => true
  | .holdExpired _ => true
  | .groupTapplyArm _ => true
  | .groupTapplyCancel => true
  | .groupTapply => true
  | .maintClaimGo _ => true
  | .maintClaimRelease _ => true
  | .lockstep => true
  | .mgmtDbe _ => true
  | .kick => true
  | .watchdogExpiry => true
  | .mgmtReset => true
  | .reboot => true
  | .bootOk => true
  | .fwBegin => true
  | .fwAbort => true
  | .fwData _ => true
  | .fwWriteDone _ => true
  | .mbxGo _ _ => true
  | .version => true
  | .checkpoint _ => true
  | .calsetCommit _ => true
  | .calibrate => true
  | .health => true
  | .mbxReboot => true
  | .logRead _ => true
  | .mbxUnknown => true
  | .ckptGo => true
  | .ckptDone _ => true
  | .calsetGo => true
  | .calsetDone _ => true
  | .powerUp _ _ => true
  | .resetN _ _ => true
  | .restoreDone => true
  | .wakeTakeover => true
  | .resume => true
  | .autoResume => true
  | .pwrReqOn _ => true
  | .pwrReqOff _ _ => true
  | .pwrReqRetain _ => true
  | .governorAdmit _ => true
  | .saveDone _ => true
  | .wakeDone _ => true
  | .tableReloadDone _ => true
  | .retainEntered => true
  | .sdClear => true
  | .supplyExcursion _ _ => true
  | .wake => true
  | .selvedgeFaultReport => true
  | .faultActiveClear _ => true
  | .holdRelease => true
  | .pinFault _ => true
  | .selvedgeDisagree => true
  | .svcStale => true
  | .genShift _ _ _ _ => true
  | .genMiss _ _ _ _ => true
  | .ballStuck _ _ _ _ => true
  | .pllwUnlock _ _ _ _ => true
  | .pllwStep _ _ _ _ => true
  | .refStop _ _ _ _ => true
  | .tripleFlip _ _ _ _ => true
  | .structFlip _ _ _ _ => true
  | .sramSbe _ _ _ _ => true
  | .sramDbe _ _ _ _ => true
  | .dramSbe _ _ _ _ => true
  | .dramDbeInject _ _ _ _ => true
  | .linkDrop _ _ _ _ => true
  | .jesdCrc _ _ _ _ => true
  | .sliceCmp _ _ _ _ => true
  | .slicePar _ _ _ _ => true
  | .weftResidue _ _ _ _ => true
  | .injectLockstep _ _ _ _ => true
  | .kickBlock _ _ _ _ => true
  | .injectSensor _ _ _ _ => true
  | .injectMonitor _ _ _ _ => true
  | .injectSupply _ _ _ _ => true
  | .injectLogic _ _ _ _ => true
  | .injectPin _ _ _ _ => true
  | .injectKindNotUsed _ _ _ _ _ => true
  | .missed => true
  | .dayClose => true
  | .trimReref => true
  | .lampReref => true
  | .monPass a b _ => a.length == 16 && b.length == 16
  | .monSelftestGo => true
  | .monSelftestDone _ => true
  | .frameSync _ => true
  | .frameFlywheel => true
  | .lampApply => true
  | .lampPulse _ _ => true
  | .lampSpan _ _ => true
  | .ocCut _ => true
  | .lampClr _ => true
  | .pllwFirstLock => true
  | .hostLinkTrained _ => true
  | .perstN _ => true
  | .mgmtScrubPass _ _ => true
  | .weftMemoryScrub => true
  | .logicMismatch _ _ => true
  | .injectionEnd => true
  | .powerLoss _ => true
  | .frameTypeNotUsed _ f => f.wf

end Sys2Proof
end

