-- ==== Sys2Proof/Tests/Slice0.lean ====
section
/-! SUPPORT. The model's own tests: the well-formedness check refuses an ill-formed term for each thing it checks; worked examples of
the manual; and, for each statement with hypotheses, a theorem that shows states and operands meeting them. -/

open Sys2Proof Sys2Proof.Machine

section
set_option Elab.async false
set_option maxRecDepth 10000

/-! ### The well-formedness check -/

/-- A chain frame of TYPE 0 with nothing in it. -/
def plainFrame : ChFrame := ⟨0, 0, 0, 0, 0, 0, []⟩

/-- Commands at the ends of their ranges are well formed. -/
theorem test_wf_accepts : (Instr.pllwReturn (-512)).wf ∧ (Instr.trimWrite 8388607).wf ∧ (Instr.regWr 0 plainFrame 0).wf ∧
    (Instr.commandAccept 0 (some ⟨.line 63, 15, 2 ^ 72 - 1, 6⟩)).wf := by decide +kernel

/-- Commands with one operand just outside its range are refused: residual, trim, address, due-time command, instants. -/
theorem test_wf_refuses_ranges : ¬ (Instr.pllwReturn 512).wf ∧ ¬ (Instr.trimWrite (-8388609)).wf ∧ ¬ (Instr.phaseStep [2 ^ 72]).wf ∧
    ¬ (Instr.calRecordWrite 16777216 0).wf ∧ ¬ (Instr.commandAccept 0 (some ⟨.line 0, 16, 0, 0⟩)).wf ∧
    ¬ (Instr.commandAccept 0 (some ⟨.line 0, 1, 0, 7⟩)).wf ∧ ¬ (Instr.commandAccept 0 (some ⟨.line 0, 1, 2 ^ 72, 0⟩)).wf ∧
    ¬ (Instr.echoClassify 0 (.extra (2 ^ 72) true)).wf ∧ ¬ (Instr.voteClassify 0 (.extra 0 (2 ^ 72))).wf ∧
    ¬ (Instr.voteClassify 0 (.stuck 0 (2 ^ 72))).wf ∧ ¬ (Instr.tiCrossing 0 ⟨2 ^ 62, none, 0, none⟩ true 0).wf ∧
    ¬ (Instr.timeExchangeTimer 0 (2 ^ 72)).wf ∧ ¬ (Instr.time 0 plainFrame 0 (2 ^ 72)).wf := by decide +kernel

/-- Observations of the wrong size are refused: sensor sites, bins, monitor channels, samples, lost codewords. -/
theorem test_wf_refuses_observations : ¬ (Instr.mtTick ⟨0, 0, 0, []⟩).wf ∧ ¬ (Instr.mtTick ⟨2 ^ 72, 0, 0, List.replicate 8 (0, 0)⟩).wf ∧
    ¬ (Instr.cdDone [⟨0, ⟨List.replicate 65 0, 0⟩, ⟨[], 0⟩, 0, 0⟩]).wf ∧ ¬ (Instr.calSamplerPassDone [⟨List.replicate 65 0, 0⟩]).wf ∧
    ¬ (Instr.rxRelease 0 ⟨0, none, 0, List.replicate 5 []⟩).wf ∧ ¬ (Instr.rxRelease 0 ⟨0, none, 0, [[(32768, false)]]⟩).wf ∧
    ¬ (Instr.eccDbe 0 0 0 (2, 1)).wf ∧ ¬ (Instr.monPass [] (List.replicate 16 0) false).wf := by decide +kernel

/-- Frames and requests whose header fields do not fit are refused. -/
theorem test_wf_refuses_frames : ¬ (Instr.data 0 { plainFrame with typ := 16 } 0).wf ∧ ¬ (Instr.data 0 { plainFrame with dst := 1024 } 0).wf ∧
    ¬ (Instr.data 0 { plainFrame with seq := 4096 } 0).wf ∧ ¬ (Instr.frameTypeNotUsed 0 { plainFrame with hops := 512 }).wf ∧
    ¬ (Instr.ethRead ⟨2 ^ 48, 0, 0, false⟩ 0 1).wf ∧ ¬ (Instr.ethPush ⟨0, 0, 0, false⟩ 0 [(false, false, [])]).wf ∧
    ¬ (Instr.ethOpNotUsed (2 ^ 48) 0).wf := by decide +kernel

/-! ### Worked examples of the manual -/

/-- Chapter 01, the Corrowin reference: KEEPER_MT_LEN 0xBC2C_0000 and N 83 give TB_WC_PER_MT 0xF409_1000. -/
theorem test_corrowin_wc_per_mt :
    (State.reset.setWord aKEEPER_MT_LEN 0xBC2C0000).wcPerMtWord (fPLLW_CFG_N.set 0 83) 0 = 0xF4091000 := by decide +kernel

/-- A state whose warp clock runs at 4.000 GHz. -/
def fourGHz : State := (State.reset.setWord aKEEPER_MT_LEN (BitVec.ofNat 36 (10000 * 2 ^ 18))).put fPLLW_CFG_N 100

/-- Chapter 03, R98: at 4.000 GHz, 300 ps are 1 229 wc/1024. -/
theorem test_min_width : fourGHz.psUp 300 = 1229 := by decide +kernel

/-- R59: minimum safe offsets at 4.000 GHz and nominal clocks: SHUTTLE 76, WEFT 92, LINK and host strobes 134, MGMT 132 wc. -/
theorem test_safe_offsets : (List.range 7).map fourGHz.minSafeOffset = [132, 76, 76, 92, 134, 134, 132] := by decide +kernel

/-- Chapter 07, R226: at n = 1 000 001 the tone of FTW 0x9400_0000_0000 is at 37/64 of a cycle, that of 0x6C00_0000_0000 at 27/64. -/
theorem test_tone_phase : (State.reset.put fPROBE_TONE_FTW_HI_FTW_HI 0x940).ncoPhase 0 0 1000001 = 37 * 2 ^ 42 ∧
    (State.reset.put fPROBE_TONE_FTW_HI_FTW_HI 0x6C0).ncoPhase 0 0 1000001 = 27 * 2 ^ 42 := by decide +kernel

/-- Chapter 14, R430: stamps t1 to t4 with ASYM 12 000 at 4.000 GHz give d = 40 006.5 wc and θ = 2.25 wc. -/
theorem test_time_exchange :
    let s := (fourGHz.putSat fCHAIN_ASYM_ASYM 12000 0).setPort 0 { State.reset.port 0 with arr := some (6, 256 * 4160059), deps := [(9, 256 * 4200000)] }
    let f : ChFrame := ⟨1, 0, 5, 0, 7, 0, [tsLo (256 * 4000000), tsHi (256 * 4000000), tsLo (256 * 4359993), tsHi (256 * 4359993), 0x009002000, 0]⟩
    ((s.timeFrame 0 f 0).get fCHAIN_LINK_DELAY_DELAY, (s.timeFrame 0 f 0).geti fCHAIN_THETA_THETA) = (40006 * 1024 + 512, 2304) := by
  decide +kernel

/-- A state of queue 300 of chapter 12's worked example, with the pool's domain on and `n` words held. -/
def queue300 (n : Nat) : State :=
  ((((State.reset.put fPWR_STATE_STATE (3 * 2 ^ 15)).setWord (aBOLT_Q_CFG + 300) 0x882000000).setWord (aBOLT_Q_LIMIT + 300) 0x40004).setWord
    aBOLT_POP_CTRL 0x12C000000).setQueue 300 { words := List.replicate n ⟨0, false, true, false⟩ }

/-- Chapter 12, step 2: the word that needs a fifth cell finds the queue full; the packet is rewound and OVERRUN is set. -/
theorem test_queue_full :
    (let t := (queue300 128).queueWord 300 7 true false false
     (t.is fBOLT_Q_STATUS_OVERRUN 300, t.get fBOLT_Q_COUNT_DROP_PKTS 300, (t.queue 300).words.length)) = (true, 1, 128) := by
  decide +kernel

/-- Chapter 12, step 8: a read of the empty queue returns 0x8_0000_0000 with LAST_EMPTY 1. -/
theorem test_pop_empty :
    (let r := (queue300 0).pop false
     (r.1, r.2.get fBOLT_POP_CTRL_LAST_EMPTY)) = (0x800000000, 1) := by
  decide +kernel

/-- R412: the bits of a frame, padded with zeros, fill whole data blocks between START and TERMINATE, and read back as the frame and its CRC-32C. -/
theorem test_frame_blocks :
    let f : ChFrame := ⟨4, 1023, 9, 3, 77, 5, [0x8F0F0F0F1, 7, 0xFFFFFFFFF]⟩
    blocksFrame (frBlocks f) = some (f, frCrc f) ∧ (frBlocks f).length = 5 := by decide +kernel

/-- R412, R418: the bits of one word more or one bit changed have another CRC. -/
theorem test_frame_crc : frCrcOk ⟨4, 1023, 9, 3, 77, 5, [1]⟩ (frCrc ⟨4, 1023, 9, 3, 77, 5, [1]⟩) = true ∧
    frCrcOk ⟨4, 1023, 9, 3, 77, 5, [1]⟩ (frCrc ⟨4, 1023, 9, 3, 77, 5, [3]⟩) = false := by decide +kernel

/-- R637: at the end of a boundary scan no ball is driven. -/
theorem test_boundary_scan_ends : (State.reset.bscanRun [.preload [true, true], .extest]).bscan.drive = [] ∧
    (State.reset.bscanRun [.preload [true, true], .extest]).bscan.cells ≠ State.reset.bscan.cells := by decide +kernel

/-! ### A firmware image -/

/-- An unsigned image without instruction and data memory: header, header CRC, trailer, draft CRC (R515). -/
def testImage : List Nat :=
  let h := [0x50, 0x56, 0x46, 0x57, 0, 1, 0x36, 0x24, 4, 0, 0, 0, 168, 0, 0, 0] ++ List.replicate 44 0
  let b := h ++ leBytes 4 (crc32c h) ++ [0, 0, 0, 0]
  b ++ leBytes 4 (crc32c b) ++ List.replicate 96 0

/-- Its trailer passes where no key is programmed (R479). -/
theorem test_image_trailer (hk : fDRAFT_KEYS_PROG.get Config.draftKeys = 0) : trailerCheck testImage = none := by
  have h1 : trCommit testImage &&& 0xFFFFFF8C = 0 := by decide +kernel
  have h2 : leAt testImage (trOfs testImage + 4) 4 = crc32c (testImage.take (trOfs testImage + 4)) := by decide +kernel
  have h3 : drSigned testImage = false := by decide +kernel
  simp [trailerCheck, h1, h2, h3, hk]

/-- It passes every check where no key is programmed (R515, R516). -/
theorem test_image_passes (hk : fDRAFT_KEYS_PROG.get Config.draftKeys = 0) : imageCheck testImage = 1 := by
  have h1 : (leAt testImage 0 4 ≠ 0x57465650 ∨ leAt testImage 4 1 ≠ 0 ∨ leAt testImage 5 1 ≠ 1 ∨ leAt testImage 6 2 ≠ 0x2436 ∨ ¬ (leAt testImage 8 2).testBit 2 ∨ leAt testImage 10 2 ≠ 0 ∨
      leAt testImage 24 4 % 8 ≠ 0 ∨ 1048576 < leAt testImage 24 4 ∨ leAt testImage 28 4 % 8 ≠ 0 ∨ 524288 < leAt testImage 28 4 ∨ drLength testImage ≠ 168 + leAt testImage 24 4 + leAt testImage 28 4 ∨ testImage.length ≠ drLength testImage ∨
      (List.range 28).any (fun i => leAt testImage (32 + i) 1 != 0) ∨ leAt testImage 60 4 ≠ crc32c (testImage.take 60) ∨
      trCommit testImage &&& 0xFFFFFF8F ≠ 0 ∨ leAt testImage (trOfs testImage + 4) 4 ≠ crc32c (testImage.take (trOfs testImage + 4))) = False := by
    simp only [eq_iff_iff, iff_false]; decide +kernel
  unfold imageCheck
  simp only [h1, if_false, test_image_trailer hk]

/-- A state with a checked image in slot 0. -/
def testImageState : State :=
  { ((State.reset.put fMGMT_STATUS_FW_STATE 3).flag fMGMT_CFG_FW_EN).flag fMGMT_RESTORE_RESTORE_DONE with
    bobbin := { fw := [some ⟨1, testImage, true⟩, none] }, mgmt := { image := testImage } }

/-- Its slot holds the newest image. -/
theorem test_image_newest (hk : fDRAFT_KEYS_PROG.get Config.draftKeys = 0) : testImageState.newestImage = some 0 := by
  have h0 : testImageState.image 0 = some ⟨1, testImage, true⟩ := by
    have e : testImageState.bobbin.fw.getD 0 none = some ⟨1, testImage, true⟩ := by unfold testImageState; rfl
    unfold State.image
    rw [e]
    exact if_pos ⟨rfl, test_image_passes hk⟩
  have h1 : testImageState.image 1 = none := by unfold testImageState; rfl
  unfold State.newestImage; rw [h0, h1]

/-- A state that meets MgmtProcessor's clause of a loaded image; the keys are a constant of Config without a value. -/
theorem test_w_mgmtReset_loads (hk : fDRAFT_KEYS_PROG.get Config.draftKeys = 0) :
    testImageState.fwState = 3 ∧ (testImageState.restoreHold = false ∨ testImageState.is fMGMT_RESTORE_RESTORE_DONE = true) ∧
      testImageState.is fMGMT_CFG_FW_EN = true ∧ testImageState.get fMGMT_STATUS_FW_AVOID = 0 ∧ testImageState.newestImage = some 0 ∧
      testImageState.get fMGMT_STATUS_BOOT_FAILS < 3 :=
  ⟨by decide +kernel, by decide +kernel, by decide +kernel, by decide +kernel, test_image_newest hk, by decide +kernel⟩

/-- States that meet MgmtProcessor's clauses of a written image. -/
theorem test_w_fwWriteDone_passes (hk : fDRAFT_KEYS_PROG.get Config.draftKeys = 0) :
    let s := testImageState.put fMGMT_FW_CTRL_STATE 2
    s.get fMGMT_FW_CTRL_STATE = 2 ∧ imageCheck s.mgmt.image = 1 ∧ s.get fMGMT_FW_CTRL_SLOT < s.bobbin.fw.length :=
  ⟨by decide +kernel, test_image_passes hk, by decide +kernel⟩

/-! ### Witnesses of the statements' hypotheses -/

/-- States and operands that meet the hypotheses of each clause of TimebaseLoads. -/
theorem witness_TimebaseLoads :
    (∃ (s : State), (s.loadGo 1).loadReason = 0) ∧
    (∃ (s : State), (s.loadGo 1).loadReason ≠ 0) ∧
    (∃ (s : State), (s.loadGo 2).loadReason = 0) ∧
    (∃ (s : State), (s.loadGo 2).loadReason ≠ 0) ∧
    (∃ (s : State), s.loadWaits = true ∧ s.unlocked = false ∧ s.quiescent = true) ∧
    (∃ (s : State), s.loadWaits = true ∧ s.unlocked = true) ∧
    (∃ (s : State), s.loadWaits = true ∧ s.unlocked = false ∧ s.quiescent = false) ∧
    (∃ (s : State), s.loadWaits = false) :=
  ⟨⟨State.reset, by decide +kernel⟩,
   ⟨State.reset.flag fCLK_STATUS_WARP_SAFE, by decide +kernel⟩,
   ⟨State.reset, by decide +kernel⟩,
   ⟨State.reset.put fCHAIN_STATUS_TSTATE 3, by decide +kernel⟩,
   ⟨(State.reset.put fTB_LOAD_CTRL_MODE 2).flag fTB_LOAD_CTRL_GO, by decide +kernel⟩,
   ⟨(State.reset.flag fTB_LOAD_CTRL_GO).flag fCLK_STATUS_WARP_SAFE, by decide +kernel⟩,
   ⟨{ State.reset.flag fTB_LOAD_CTRL_GO with store := [⟨⟨.chan 5, 1, wcs 100, 1⟩, 0, false, 0⟩] }, by decide +kernel⟩,
   ⟨State.reset, by decide +kernel⟩⟩

/-- States and operands that meet the hypotheses of each clause of TimelyCommand. -/
theorem witness_TimelyCommand :
    (∃ (s : State) (src : Fin 7) (c : DueCmd), s.hsf.find? (fun d => d.src == src.val) = some c ∧ s.store.length < 256 ∧ s.pins = [] ∧
      isGroup c.target = false ∧ (outOf c.target).isSome ∨ isApply c = true ∧ 0 ≤ tDiff (tFloor c.due) (wcs (s.acceptWc c + 64))) ∧
    (∃ (s : State) (src : Fin 7) (c : DueCmd), s.hsf.find? (fun d => d.src == src.val) = some c ∧ 256 ≤ s.store.length ∧
      s.stalled.contains c = false) ∧
    (∃ (s : State) (src : Fin 7) (c : DueCmd), s.hsf.find? (fun d => d.src == src.val) = some c ∧ 256 ≤ s.store.length ∧
      s.stalled.contains c = true) ∧
    (∃ (s : State) (c : Stored), s.store.find? (fun c => !c.committed) = some c) :=
  ⟨⟨{ State.reset with hsf := [⟨.chan 5, 1, wcs 90 + 7, 1⟩], sentAt := [(⟨.chan 5, 1, wcs 90 + 7, 1⟩, 0)] }, 1, ⟨.chan 5, 1, wcs 90 +
    7, 1⟩, by decide +kernel⟩,
   ⟨{ State.reset with hsf := [⟨.chan 5, 1, wcs 64 + 7, 1⟩], store := List.replicate 256 ⟨⟨.chan 5, 1, wcs 100, 1⟩, 0, false, 0⟩ },
    1, ⟨.chan 5, 1, wcs 64 + 7, 1⟩, by decide +kernel⟩,
   ⟨{ State.reset with hsf := [⟨.chan 5, 1, wcs 64 + 7, 1⟩], stalled := [⟨.chan 5, 1, wcs 64 + 7, 1⟩], store := List.replicate 256 ⟨⟨.chan 5, 1, wcs 100, 1⟩, 0, false, 0⟩ },
    1, ⟨.chan 5, 1, wcs 64 + 7, 1⟩, by decide +kernel⟩,
   ⟨{ State.reset with store := [⟨⟨.chan 5, 1, wcs 100, 1⟩, 0, false, 0⟩] }, ⟨⟨.chan 5, 1, wcs 100, 1⟩, 0, false, 0⟩,
    by decide +kernel⟩⟩

/-- States and operands that meet the hypotheses of each clause of LateCommand. -/
theorem witness_LateCommand : ∃ (s : State) (src : Fin 7) (c : DueCmd) (n : Fin 64), s.hsf.find? (fun d => d.src == src.val) =
    some c ∧ s.store.length < 256 ∧ s.pins = [] ∧ c.target = .chan n ∧ c.action = 1 ∨ c.action = 2 ∧ s.is fWARP_CH_CTRL_LATE_POL
    n.val = false ∧ tDiff (tFloor c.due) (wcs (s.acceptWc c + 64)) < 0 :=
  ⟨{ State.reset with hsf := [⟨.chan 5, 1, wcs 63, 1⟩] }, 1, ⟨.chan 5, 1, wcs 63, 1⟩, 5, by decide +kernel⟩

/-- States and operands that meet the hypotheses of each clause of DueCommands. -/
theorem witness_DueCommands :
    (∃ (s : State) (c : Stored) (rest : List Stored) (o : Nat), s.store = c :: rest ∧ outOf c.cmd.target = some o ∧ c.cmd.action = 1 ∧
      s.applyFirst c = false ∧ (s.popDue c).unlocked = false ∧ (s.popDue c).calAll = false) ∧
    (∃ (s : State) (c : Stored) (rest : List Stored) (n : Fin 64), s.store = c :: rest ∧ c.cmd.target = .chan n ∧ c.cmd.action = 1 ∧
      s.applyFirst c = false ∧ s.pins = [] ∧ s.unlocked = true) ∧
    (∃ (s : State) (c : Stored) (rest : List Stored) (o : Nat), s.store = c :: rest ∧ outOf c.cmd.target = some o ∧ c.cmd.action = 2 ∧
      s.applyFirst c = false ∧ (s.popDue c).unlocked = false ∧ (s.popDue c).calAll = false) ∧
    (∃ (s : State) (c : Stored) (rest : List Stored) (n : Fin 64), s.store = c :: rest ∧ c.cmd.target = .chan n ∧ c.cmd.action = 0 ∨ 3
      < c.cmd.action ∧ (s.popDue c).unlocked = false ∧ (s.popDue c).calAll = false) ∧
    (∃ (s : State) (c : Stored), s.nextApply = some c ∧ isGroup c.cmd.target = false ∧ (s.takeApply c).unlocked = false) ∧
    (∃ (s : State) (c : Stored) (g : Fin 256), s.nextApply = some c ∧ c.cmd.target = .group g ∧ c.cmd.src = 6 ∧ (s.takeApply
      c).unlocked = false) ∧
    (∃ (s : State), s.is fGROUP_TAPPLY_CTRL_PENDING = false) ∧
    (∃ (s : State), s.is fGROUP_TAPPLY_CTRL_PENDING = true) ∧
    (∃ (s : State) (s' : State), s.cancelDue (fun c => isGroup c.target && c.src == 6) = some s') :=
  ⟨⟨{ State.reset with store := [⟨⟨.chan 5, 1, wcs 100, 1⟩, 0, false, 0⟩] }, ⟨⟨.chan 5, 1, wcs 100, 1⟩, 0, false, 0⟩, [], 5,
    by decide +kernel⟩,
   ⟨{ State.reset.flag fCLK_STATUS_WARP_SAFE with store := [⟨⟨.chan 5, 1, wcs 100, 1⟩, 0, false, 0⟩] }, ⟨⟨.chan 5, 1, wcs 100, 1⟩, 0,
    false, 0⟩, [], 5, by decide +kernel⟩,
   ⟨{ State.reset with store := [⟨⟨.mout 7, 2, wcs 100, 1⟩, 0, false, 0⟩] }, ⟨⟨.mout 7, 2, wcs 100, 1⟩, 0, false, 0⟩, [], 71,
    by decide +kernel⟩,
   ⟨{ State.reset with store := [⟨⟨.chan 0, 0, wcs 100, 1⟩, 0, false, 0⟩] }, ⟨⟨.chan 0, 0, wcs 100, 1⟩, 0, false, 0⟩, [], 0,
    by decide +kernel⟩,
   ⟨{ State.reset with store := [⟨⟨.probeApply 3, 3, wcs 100, 6⟩, 0, false, 0⟩] }, ⟨⟨.probeApply 3, 3, wcs 100, 6⟩, 0, false, 0⟩,
    by decide +kernel⟩,
   ⟨{ State.reset with store := [⟨⟨.group 3, 3, wcs 100, 6⟩, 0, false, 0⟩] }, ⟨⟨.group 3, 3, wcs 100, 6⟩, 0, false, 0⟩, 3,
    by decide +kernel⟩,
   ⟨State.reset, by decide +kernel⟩,
   ⟨State.reset.flag fGROUP_TAPPLY_CTRL_PENDING, by decide +kernel⟩,
   ⟨{ State.reset with hsf := [⟨.group 3, 3, wcs 100, 6⟩] }, { State.reset with hsf := [] }, by decide +kernel⟩⟩

/-- States and operands that meet the hypotheses of each clause of References. -/
theorem witness_References :
    (∃ (s : State), s.is fCLK_REF_STATUS_A_ACT = true) ∧
    (∃ (s : State), s.is fCLK_REF_STATUS_B_ACT = true) ∧
    (∃ (s : State) (b : Bool), s.refQual b = false ∧ max 1 (s.get fCLK_REF_CFG_QUAL_TIME) ≤ s.qualCount b) ∧
    (∃ (s : State) (b : Bool), s.refQual b = true ∧ s.refInUse ≠ b ∨ s.is fCLK_REF_STATUS_HOLD = true) ∧
    (∃ (s : State) (b : Bool), s.is fCLK_REF_STATUS_HOLD = false ∧ s.refInUse = b ∨ s.refQual b = false) ∧
    (∃ (s : State) (b : Bool), s.clk.reref = some b ∧ s.refQual b = true) ∧
    (∃ (s : State) (b : Bool), s.clk.reref = some b ∧ s.refQual b = false) ∧
    (∃ (s : State), s.clk.reref = none) :=
  ⟨⟨State.reset.flag fCLK_REF_STATUS_A_ACT, by decide +kernel⟩,
   ⟨(State.reset.flag fCLK_REF_STATUS_B_ACT).flag fCLK_REF_STATUS_B_QUAL, by decide +kernel⟩,
   ⟨{ State.reset.flag fCLK_REF_STATUS_HOLD with clk := { State.reset.clk with qualA := 1000000, qualB := 1000000 } }, false,
    by decide +kernel⟩,
   ⟨State.reset.flag fCLK_REF_STATUS_B_QUAL, true, by decide +kernel⟩,
   ⟨State.reset.unflag fCLK_REF_STATUS_HOLD, true, by decide +kernel⟩,
   ⟨{ State.reset.flag fCLK_REF_STATUS_B_QUAL with clk := { State.reset.clk with reref := some true } }, true, by decide +kernel⟩,
   ⟨{ State.reset with clk := { State.reset.clk with reref := some true } }, true, by decide +kernel⟩,
   ⟨State.reset, by decide +kernel⟩⟩

/-- States and operands that meet the hypotheses of each clause of PllC. -/
theorem witness_PllC :
    (∃ (s : State), s.is fCLK_STATUS_PLLC_LOCK = true ∧ s.is fCLK_STATUS_WARP_SAFE = false) ∧
    (∃ (s : State), s.is fCLK_STATUS_WARP_SAFE = false ∧ s.pins = []) :=
  ⟨⟨State.reset.flag fCLK_STATUS_PLLC_LOCK, by decide +kernel⟩,
   ⟨(State.reset.flag fCLK_STATUS_DEGRADED).flag fCLK_STATUS_SAFE_SRC, by decide +kernel⟩⟩

/-- States and operands that meet the hypotheses of each clause of Retune. -/
theorem witness_Retune :
    (∃ (s : State), s.retuneRefusal ≠ 0) ∧
    (∃ (s : State), s.retuneRefusal = 0) ∧
    (∃ (s : State), s.get fCLK_RETUNE_STATE = 1 ∧ s.drained = true) ∧
    (∃ (s : State), s.get fCLK_RETUNE_STATE = 1 ∧ max 1 (s.get fCLK_RETUNE_DRAIN_LIMIT) ≤ s.clk.drainMt) ∧
    (∃ (s : State), s.get fCLK_RETUNE_STATE = 2) ∧
    (∃ (s : State), s.injActs 4 ≠ none) ∧
    (∃ (s : State), s.anyQual = true ∧ s.injActs 4 = none ∧ s.get fCLK_RETUNE_STATE = 3) ∧
    (∃ (s : State), s.anyQual = true ∧ s.injActs 4 = none ∧ s.get fCLK_RETUNE_STATE = 7 ∧ s.clk.recover = false ∧ s.pins = []) ∧
    (∃ (s : State), max 1 (s.get fCLK_RETUNE_GUARD_LIMIT) ≤ s.clk.guardMt ∧ s.get fCLK_RETUNE_STATE = 3 ∧ s.clk.reverted = false) ∧
    (∃ (s : State), max 1 (s.get fCLK_RETUNE_GUARD_LIMIT) ≤ s.clk.guardMt ∧ s.get fCLK_RETUNE_STATE = 5 ∧ s.clk.reverted = true) ∧
    (∃ (s : State), s.get fCLK_RETUNE_STATE = 4) :=
  ⟨⟨State.reset, by decide +kernel⟩,
   ⟨(((State.reset.setWord aKEEPER_MT_LEN (12043 * 2 ^ 18)).setWord aPLLW_CFG (fPLLW_CFG_N.set 0 83)).flag fCLK_REF_STATUS_A_QUAL),
    by decide +kernel⟩,
   ⟨State.reset.put fCLK_RETUNE_STATE 1, by decide +kernel⟩,
   ⟨{ State.reset.put fCLK_RETUNE_STATE 1 with clk := { State.reset.clk with drainMt := 100000 } }, by decide +kernel⟩,
   ⟨State.reset.put fCLK_RETUNE_STATE 2, by decide +kernel⟩,
   ⟨State.reset.flag fFAULT_INJ_STATUS_BUSY |>.setInj
    { kind := 4, unit := 0, count := 1, value := 0, test := false, start := 0, left := 1 }, by decide +kernel⟩,
   ⟨(State.reset.put fCLK_RETUNE_STATE 3).flag fCLK_REF_STATUS_B_QUAL, by decide +kernel⟩,
   ⟨(State.reset.put fCLK_RETUNE_STATE 7).flag fCLK_REF_STATUS_A_QUAL, by decide +kernel⟩,
   ⟨{ State.reset.put fCLK_RETUNE_STATE 3 with clk := { State.reset.clk with guardMt := 100000 } }, by decide +kernel⟩,
   ⟨{ State.reset.put fCLK_RETUNE_STATE 5 with clk := { State.reset.clk with guardMt := 100000, reverted := true } },
    by decide +kernel⟩,
   ⟨State.reset.put fCLK_RETUNE_STATE 4, by decide +kernel⟩⟩

/-- States and operands that meet the hypotheses of each clause of TrimAndLock. -/
theorem witness_TrimAndLock :
    (∃ (s : State), s.servoOwns = true) ∧
    (∃ (s : State) (trim : Int), s.servoOwns = false ∧ -5000000 ≤ trim ∧ trim ≤ 5000000) ∧
    (∃ (s : State) (trim : Int), s.servoOwns = false ∧ 5000000 < trim) ∧
    (∃ (s : State) (trim : Int), s.servoOwns = false ∧ trim < -5000000) ∧
    (∃ (s : State), s.is fPLLW_TRIM_NOW_RAMP = true ∧ s.pins = []) ∧
    (∃ (s : State), s.safe = true) ∧
    (∃ (s : State), s.safe = false) ∧
    (∃ (s : State) (stamps : List Nat), stamps.length = 2 * s.watchLen ∧ s.watches (stamps.getLastD 0) = true ∧ s.isStep (s.watchDiff
      stamps) = true ∧ s.is fCLK_PHASE_WATCH_PS_ACTION = false ∧ s.pins = []) ∧
    (∃ (s : State), s.clk.lockedOnce = false ∧ s.gov.queue.any (fun x => x.1 == .pllw) = false) ∧
    (∃ (s : State), s.clk.lockedOnce = true) :=
  ⟨⟨(State.reset.put fCHAIN_STATUS_TSTATE 1).flag fCHAIN_CFG_ROLE, by decide +kernel⟩,
   ⟨State.reset, 5000000, by decide +kernel⟩,
   ⟨State.reset, 5000001, by decide +kernel⟩,
   ⟨State.reset, -5000001, by decide +kernel⟩,
   ⟨State.reset.flag fPLLW_TRIM_NOW_RAMP, by decide +kernel⟩,
   ⟨State.reset.flag fCLK_STATUS_WARP_SAFE, by decide +kernel⟩,
   ⟨State.reset, by decide +kernel⟩,
   ⟨(State.reset.setWord aKEEPER_MT_LEN (BitVec.ofNat 36 (10000 * 2 ^ 18))).put fPLLW_CFG_N 100, (List.range 32).map (fun i => 102400
    * i + if 16 ≤ i then 20 else 0), by decide +kernel⟩,
   ⟨{ State.reset with now := 7 }, by decide +kernel⟩,
   ⟨{ State.reset with now := 7, clk := { State.reset.clk with lockedOnce := true } }, by decide +kernel⟩⟩

/-- States and operands that meet the hypotheses of each clause of MtTick. -/
theorem witness_MtTick :
    (∃ (s : State) (obs : MtObs) (u : State), u = ((((s.keeperMt obs.stamp).refMt false obs.fA).refMt true obs.fB).rereference.thermMt
      obs.temps).calMt) ∧
    (∃ (s : State), s.pins = []) ∧
    (∃ (s : State), s.clk.lockedOnce = true) ∧
    (∃ (s : State) (b : Bool) (f : Nat), f ≠ 0 ∧ s.ppmOk f = true ∧ s.refGated b = false) :=
  ⟨⟨State.reset, ⟨0, 0, 0, []⟩, _, rfl⟩,
   ⟨State.reset, by decide +kernel⟩,
   ⟨{ State.reset with clk := { State.reset.clk with lockedOnce := true } }, by decide +kernel⟩,
   ⟨State.reset.setWord aKEEPER_MT_LEN (BitVec.ofNat 36 (10000 * 2 ^ 18)), true, 10000 * 2 ^ 18, by decide +kernel⟩⟩

/-- States and operands that meet the hypotheses of each clause of EdgesAtBalls. -/
theorem witness_EdgesAtBalls :
    (∃ (s : State) (o : Fin 72) (l : Nat), s.pins = [] ∧ (s.nextLead o.val).at_ = some l) ∧
    (∃ (s : State) (o : Fin 72) (l : Nat) (p : Pulse), s.pins = [] ∧ (s.nextLead o.val).at_ = some l ∧ s.pulseOf o.val (s.nextLead
      o.val) = some p ∧ s.safe = false ∧ s.breaks o.val l p.trail = false ∧ s.gateFibres o.val = []) ∧
    (∃ (s : State) (o : Fin 72) (l : Nat), s.pins = [] ∧ s.nextLead o.val = .grid l ∧ s.safe = true) ∧
    (∃ (s : State) (o : Fin 72) (p : Pulse) (e : Nat), s.pins = [] ∧ (s.out o.val).act = some p ∧ p.trail = some e) ∧
    (∃ (s : State) (o : Fin 72) (p : Pulse) (e : Nat), s.pins = [] ∧ (s.out o.val).act = some p ∧ p.trail = some e) ∧
    (∃ (v : Fin 4), v.val ≠ 3) ∧
    (∃ (s : State) (o : Fin 72), s.oEnable o.val ≠ 0 ∧ (s.out o.val).act = none ∧ s.loadWaits = false) ∧
    (∃ (s : State) (o : Fin 72), s.oDrv o.val = 1 ∧ (s.out o.val).admitted = true) ∧
    (∃ (s : State), s.oMode 71 = 1) :=
  ⟨⟨{ State.reset with outs := State.reset.outs.set 5 { trigs := [⟨0, 4096, 0, 4096, 8192, 1, 0, 0, 0, none, none⟩] } }, 5, 4096,
    by decide +kernel⟩,
   ⟨{ (State.reset.put fWARP_CH_CTRL_ENABLE 2 5).put fWARP_CH_STATUS_DRV 2 5 with outs := State.reset.outs.set 5 { trigs := [⟨0, 4096, 0, 4096, 8192, 1, 0, 0, 0, none, none⟩], enBall := 2 } },
    5, 4096, ⟨4096, some 8192, false, 0, false⟩, by decide +kernel⟩,
   ⟨{ (State.reset.flag fCLK_STATUS_WARP_SAFE).put fMOUT_CTRL_MODE 1 7 with outs := State.reset.outs.set 71 { gridFrom := some 8192 } },
    71, 8192, by decide +kernel⟩,
   ⟨{ State.reset with outs := State.reset.outs.set 0 { act := some ⟨4096, some 8192, true, 0, false⟩ } }, 0, ⟨4096, some 8192, true,
    0, false⟩, 8192, by decide +kernel⟩,
   ⟨{ State.reset with outs := State.reset.outs.set 71 { act := some ⟨4096, some 8192, true, 0, false⟩ } }, 71, ⟨4096, some 8192,
    true, 0, false⟩, 8192, by decide +kernel⟩,
   ⟨2, by decide +kernel⟩,
   ⟨State.reset.put fWARP_CH_CTRL_ENABLE 2 63, 63, by decide +kernel⟩,
   ⟨{ State.reset.put fWARP_CH_STATUS_DRV 1 9 with outs := State.reset.outs.set 9 { admitted := true } }, 9, by decide +kernel⟩,
   ⟨State.reset, by decide +kernel⟩⟩

/-- States and operands that meet the hypotheses of each clause of TimedApplyArming. -/
theorem witness_TimedApplyArming :
    (∃ (s : State) (banks : Fin 256) (chans : Fin 256), ((s.put fWARP_TAPPLY_CTRL_BANK_MASK banks.val).put fWARP_TAPPLY_CTRL_CH_MASK
      chans.val).is fWARP_TAPPLY_CTRL_PENDING = false) ∧
    (∃ (s : State), s.is fWARP_TAPPLY_CTRL_PENDING = true) ∧
    (∃ (s : State) (s' : State), s.cancelDue (fun c => isChApply c.target) = some s') ∧
    (∃ (s : State), s.cancelDue (fun c => isChApply c.target) = none) ∧
    (∃ (s : State), s.is fMOUT_TAPPLY_CTRL_PENDING = false) ∧
    (∃ (s : State), s.is fMOUT_TAPPLY_CTRL_PENDING = true) ∧
    (∃ (s : State) (s' : State), s.cancelDue (fun c => isMoApply c.target) = some s') ∧
    (∃ (s : State), s.cancelDue (fun c => isMoApply c.target) = none) :=
  ⟨⟨State.reset, 255, 1, by decide +kernel⟩,
   ⟨State.reset.flag fWARP_TAPPLY_CTRL_PENDING, by decide +kernel⟩,
   ⟨{ State.reset with hsf := [⟨.chApply 1 1, 3, 0, 6⟩] }, State.reset, by decide +kernel⟩,
   ⟨State.reset, by decide +kernel⟩,
   ⟨State.reset, by decide +kernel⟩,
   ⟨State.reset.flag fMOUT_TAPPLY_CTRL_PENDING, by decide +kernel⟩,
   ⟨{ State.reset with hsf := [⟨.moApply 1, 3, 0, 6⟩] }, State.reset, by decide +kernel⟩,
   ⟨State.reset, by decide +kernel⟩⟩

/-- States and operands that meet the hypotheses of each clause of EchoChecker. -/
theorem witness_EchoChecker :
    (∃ (s : State) (o : Fin 72) (obs : EdgeObs) (d : Int) (t : Nat) (lead : Bool) (rest : List (Nat × Bool)), s.echoRuns o.val = true
      ∧ s.selv.inj = none ∧ obs = .seen d ∧ (s.out o.val).echo = (t, lead) :: rest ∧ (s.flowTo (tAdd t 1024)).within (d -
      s.echoOfs o.val) 20 = true) ∧
    (∃ (s : State) (o : Fin 72) (obs : EdgeObs) (d : Int) (t : Nat) (lead : Bool) (rest : List (Nat × Bool)), s.echoRuns o.val = true
      ∧ s.selv.inj = none ∧ obs = .seen d ∧ (s.out o.val).echo = (t, lead) :: rest ∧ ((s.flowTo (tAdd t 1024)).echoTaken o.val
      rest).safe = false ∧ ((s.flowTo (tAdd t 1024)).echoTaken o.val rest).within (d - s.echoOfs o.val) 20 = false ∧ (d -
      s.echoOfs o.val).natAbs ≤ 1024) ∧
    (∃ (s : State) (o : Fin 72) (t : Nat) (lead : Bool) (rest : List (Nat × Bool)), s.echoRuns o.val = true ∧ s.selv.inj = none ∧
      (s.out o.val).echo = (t, lead) :: rest ∧ ((s.flowTo (tAdd t 1024)).echoTaken o.val rest).safe = false) ∧
    (∃ (s : State) (o : Fin 72) (high : Bool) (t : Nat), s.pins = [] ∧ s.echoRuns o.val = true ∧ s.nextCheck o.val = some t ∧ high =
      s.scheduledHigh o.val) ∧
    (∃ (s : State) (o : Fin 72) (high : Bool) (t : Nat), s.pins = [] ∧ s.echoRuns o.val = true ∧ s.nextCheck o.val = some t ∧ high ≠
      s.scheduledHigh o.val ∧ s.heldIdle o.val = false) ∧
    (∃ (s : State) (o : Fin 72) (high : Bool) (t : Nat), s.pins = [] ∧ s.echoRuns o.val = true ∧ s.nextCheck o.val = some t ∧ high ≠
      s.scheduledHigh o.val ∧ s.heldIdle o.val = true) :=
  ⟨⟨{ (State.reset.put fWARP_CH_CTRL_ENABLE 2 3).put fWARP_CH_STATUS_DRV 2 3 with outs := State.reset.outs.set 3 { echo := [(4096, true)] } },
    3, .seen 0, 0, 4096, true, [], by decide +kernel⟩,
   ⟨{ (State.reset.put fWARP_CH_CTRL_ENABLE 2 3).put fWARP_CH_STATUS_DRV 2 3 with outs := State.reset.outs.set 3 { echo := [(4096, true)] } },
    3, .seen 1024, 1024, 4096, true, [], by decide +kernel⟩,
   ⟨{ (State.reset.put fWARP_CH_CTRL_ENABLE 2 3).put fWARP_CH_STATUS_DRV 2 3 with outs := State.reset.outs.set 3 { echo := [(4096, true)] } },
    3, 4096, true, [], by decide +kernel⟩,
   ⟨(State.reset.put fMOUT_CTRL_ENABLE 2 7).put fMOUT_STATUS_DRV 2 7, 71, false, 40960, by decide +kernel⟩,
   ⟨(State.reset.put fMOUT_CTRL_ENABLE 2 7).put fMOUT_STATUS_DRV 2 7, 71, true, 40960, by decide +kernel⟩,
   ⟨((((State.reset.put fWARP_CH_CTRL_ENABLE 2 4).put fWARP_CH_STATUS_DRV 2 4).flag fLIGHT_CFG_GATE_EN 1).put fLIGHT_CFG_GATE_CH 4
    1).flag fLIGHT_LOCK_IL_LATCH, 4, true, 40960, by decide +kernel⟩⟩

/-- States and operands that meet the hypotheses of each clause of BankFailover. -/
theorem witness_BankFailover :
    (∃ (s : State) (b : Fin 8), s.get fWARP_BANK_STATUS_SPARE_STATE b.val = 3 ∧ (nth s.banks b.val).copied = false) ∧
    (∃ (s : State) (b : Fin 8), s.get fWARP_BANK_STATUS_SPARE_STATE b.val = 3 ∧ (nth s.banks b.val).copied = true ∧ s.idleWc (8 *
      b.val + s.get fWARP_BANK_STATUS_SPARE_CH b.val) = true ∧ s.get fWARP_BANK_STATUS_SPARE_CH b.val < 8) ∧
    (∃ (s : State) (b : Fin 8) (k : Fin 8), s.get fWARP_BANK_STATUS_SPARE_CH b.val ≠ k.val) ∧
    (∃ (s : State) (b : Fin 8) (k : Fin 8), s.get fWARP_BANK_STATUS_SPARE_CH b.val = k.val ∧ s.get fWARP_BANK_STATUS_SPARE_STATE b.val
      = 4) ∧
    (∃ (s : State) (b : Fin 8) (k : Fin 8), s.get fWARP_BANK_STATUS_SPARE_CH b.val = k.val ∧ s.get fWARP_BANK_STATUS_SPARE_STATE b.val
      = 3) ∧
    (∃ (s : State) (b : Fin 8), (nth s.banks b.val).release = true ∧ s.idleWc (8 * b.val + s.get fWARP_BANK_STATUS_SPARE_CH b.val) =
      true) ∧
    (∃ (s : State) (b : Fin 8) (k : Fin 8), s.is fWARP_CH_CTRL_FO_EN (8 * b.val + k.val) = true ∧ s.spareDrives (8 * b.val + k.val) =
      false) ∧
    (∃ (s : State) (b : Fin 8) (k : Fin 8), s.is fWARP_CH_CTRL_FO_EN (8 * b.val + k.val) = false ∨ s.spareDrives (8 * b.val + k.val) =
      true) :=
  ⟨⟨State.reset.put fWARP_BANK_STATUS_SPARE_STATE 3 7, 7, by decide +kernel⟩,
   ⟨{ (State.reset.put fWARP_BANK_STATUS_SPARE_STATE 3 7).put fWARP_BANK_STATUS_SPARE_CH 7 7 with banks := State.reset.banks.set 7 { copied := true } },
    7, by decide +kernel⟩,
   ⟨State.reset, 1, 1, by decide +kernel⟩,
   ⟨State.reset.put fWARP_BANK_STATUS_SPARE_STATE 4 2, 2, 0, by decide +kernel⟩,
   ⟨State.reset.put fWARP_BANK_STATUS_SPARE_STATE 3 2, 2, 0, by decide +kernel⟩,
   ⟨{ State.reset with banks := State.reset.banks.set 0 { release := true } }, 0, by decide +kernel⟩,
   ⟨State.reset.flag fWARP_CH_CTRL_FO_EN 63, 7, 7, by decide +kernel⟩,
   ⟨State.reset, 7, 7, by decide +kernel⟩⟩

/-- States and operands that meet the hypotheses of each clause of Voters. -/
theorem witness_Voters :
    (∃ (s : State) (m : Fin 8) (obs : VoteObs) (g : Fin 4) (t : Nat), obs = .stuck g t ∧ isCheck ((s.flowTo t).steady (64 + m.val)
      (((s.flowTo t).out (64 + m.val)).lastLead.getD 0)) t = true ∧ (s.flowTo t).role m.val g.val < 3) ∧
    (∃ (s : State) (m : Fin 8) (obs : VoteObs) (ds : List (Fin 4 × Option Int)) (e : Nat) (lead : Bool) (rest : List (Nat × Bool)),
      obs = .arrivals ds none ∧ s.selv.inj = none ∧ s.pins = [] ∧ (s.out (64 + m.val)).vote = (e, lead) :: rest ∧ ∀ g : Fin 4,
      (ds.find? (fun e => e.1.val == g.val)).bind (·.2) = some (s.echoOfs (64 + m.val))) ∧
    (∃ (s : State) (m : Fin 8) (obs : VoteObs) (ds : List (Fin 4 × Option Int)) (sh : Option (Option Int)), obs = .arrivals ds sh ∧
      (s.out (64 + m.val)).vote = []) ∧
    (∃ (s : State) (m : Fin 8) (w : Swap), (nth s.voters m.val).swap = some w ∧ w.compFrom = none) ∧
    (∃ (s : State) (m : Fin 8) (w : Swap) (c y : Nat), (nth s.voters m.val).swap = some w ∧ w.compFrom = some c ∧ (s.flowTo (tAdd c
      (wcs 64))).quietFrom (64 + m.val) (s.flowTo (tAdd c (wcs 64))).nowT = some y) ∧
    (∃ (s : State) (m : Fin 8) (g : Fin 4), 3 ≤ s.role m.val g.val) ∧
    (∃ (s : State) (m : Fin 8) (g : Fin 4), s.role m.val g.val < 3 ∧ s.is fMOUT_CTRL_REPLACE_EN m.val = true) ∧
    (∃ (s : State) (m : Fin 8) (g : Fin 4), s.role m.val g.val < 3 ∧ s.is fMOUT_CTRL_REPLACE_EN m.val = false) ∧
    (∃ (s : State) (m : Fin 8) (g : Fin 4), s.role m.val g.val = 6) ∧
    (∃ (s : State) (m : Fin 8) (g : Fin 4), s.role m.val g.val ≠ 6) :=
  ⟨⟨State.reset, 7, .stuck 0 40960, 0, 40960, by decide +kernel⟩,
   ⟨{ State.reset with outs := State.reset.outs.set 71 { vote := [(4096, true)] } }, 7, .arrivals [(0, some 0), (1, some 0), (2, some
    0), (3, some 0)] none, [(0, some 0), (1, some 0), (2, some 0), (3, some 0)], 4096, true, [], by decide +kernel⟩,
   ⟨State.reset, 7, .arrivals [] none, [], none, by decide +kernel⟩,
   ⟨{ State.reset with voters := State.reset.voters.set 7 { swap := some ⟨3, 0, .rotation, none, false, none⟩ } }, 7, ⟨3, 0,
    .rotation, none, false, none⟩, by decide +kernel⟩,
   ⟨{ State.reset with voters := State.reset.voters.set 7 { swap := some ⟨3, 0, .rotation, some 0, false, none⟩ } }, 7, ⟨3, 0,
    .rotation, some 0, false, none⟩, 0, 65536, by decide +kernel⟩,
   ⟨State.reset.put (roleFld 3) 6 0, 0, 3, by decide +kernel⟩,
   ⟨State.reset.flag fMOUT_CTRL_REPLACE_EN 0, 0, 0, by decide +kernel⟩,
   ⟨State.reset.unflag fMOUT_CTRL_REPLACE_EN 0, 0, 0, by decide +kernel⟩,
   ⟨{ State.reset.put (roleFld 3) 6 7 with voters := State.reset.voters.set 7 { faulty := [3, 1] } }, 7, 3, by decide +kernel⟩,
   ⟨State.reset, 7, 3, by decide +kernel⟩⟩

/-- States and operands that meet the hypotheses of each clause of HeddleInputsAndGenerators. -/
theorem witness_HeddleInputsAndGenerators :
    (∃ (s : State) (g : Fin 8), 4096 ≤ s.rgPeriod g.val ∧ s.get fHEDDLE_RG_CTRL_COUNT g.val = 0 ∧ nth s.rgs g.val = RgSt.mk none [] ∧
      g.val < s.rgs.length) ∧
    (∃ (s : State) (g : Fin 8), nth s.rgs g.val = RgSt.mk none []) ∧
    (∃ (s : State) (g : Fin 8) (r : RgGrid), (nth s.rgs g.val).prev = [] ∧ (nth s.rgs g.val).cur = some r) ∧
    (∃ (s : State) (i : Fin 16) (cap : TiCap), (s.flowTo ((s.stampOf i.val cap).getD (wcs (capWc cap)))).is fREED_IN_STATUS_CD_ACTIVE
      i.val = true) ∧
    (∃ (s : State) (i : Fin 16) (cap : TiCap) (u : State), u = s.flowTo ((s.stampOf i.val cap).getD (wcs (capWc cap))) ∧ u.is
      fREED_IN_STATUS_CD_ACTIVE i.val = false ∧ u.safe = true) ∧
    (∃ (s : State) (i : Fin 16) (cap : TiCap) (e : Nat) (u : State), s.stampOf i.val cap = some e ∧ u = s.flowTo e ∧ u.is
      fREED_IN_STATUS_CD_ACTIVE i.val = false ∧ u.safe = false) :=
  ⟨⟨State.reset.setWord (aHEDDLE_RG_PERIOD + 7) 4096, 7, by decide +kernel⟩,
   ⟨State.reset.flag fHEDDLE_RG_CTRL_RUN 7, 7, by decide +kernel⟩,
   ⟨{ State.reset with rgs := State.reset.rgs.set 7 ⟨some ⟨0, 4096, 0, 3, 0, none⟩, []⟩ }, 7, ⟨0, 4096, 0, 3, 0, none⟩,
    by decide +kernel⟩,
   ⟨State.reset.flag fREED_IN_STATUS_CD_ACTIVE 15, 15, ⟨5, none, 5, none⟩, by decide +kernel⟩,
   ⟨State.reset.flag fCLK_STATUS_WARP_SAFE, 15, ⟨0, none, 0, none⟩, State.reset.flag fCLK_STATUS_WARP_SAFE, by decide +kernel⟩,
   ⟨State.reset.setWord aREED_IN_CAL 1, 0, ⟨5, some 0, 5, none⟩, (((State.reset.setWord aREED_IN_CAL 1).stampOf 0 ⟨5, some 0, 5,
    none⟩).getD 0), ((State.reset.setWord aREED_IN_CAL 1).until_ (((State.reset.setWord aREED_IN_CAL 1).stampOf 0 ⟨5, some 0, 5,
    none⟩).getD 0)), rfl, rfl,
    (by unfold State.is State.get; rw [State.word_until, State.word_setWord_ne _ _ (by decide)]; decide +kernel),
    (by unfold State.safe State.is State.get; rw [State.word_until, State.word_setWord_ne _ _ (by decide)]; decide +kernel)⟩⟩

/-- States and operands that meet the hypotheses of each clause of HeddleLines. -/
theorem witness_HeddleLines :
    (∃ (s : State) (c : Stored) (rest : List Stored) (l : Fin 64), s.store = c :: rest ∧ c.cmd.target = .line l ∧ c.cmd.action = 1 ∧
      (s.popDue c).unlocked = false) ∧
    (∃ (s : State) (c : Stored) (rest : List Stored) (l : Fin 64), s.store = c :: rest ∧ c.cmd.target = .line l ∧ c.cmd.action = 1 ∧
      (s.popDue c).unlocked = true) ∧
    (∃ (s : State) (c : Stored) (rest : List Stored) (l : Fin 64), s.store = c :: rest ∧ c.cmd.target = .line l ∧ c.cmd.action = 2 ∧
      ({ s.flowBefore c.cmd.due with store := rest } : State).unlocked = false) ∧
    (∃ (s : State) (c : Stored) (rest : List Stored) (l : Fin 64), s.store = c :: rest ∧ c.cmd.target = .line l ∧ c.cmd.action = 3 ∧
      ({ s.flowBefore c.cmd.due with store := rest } : State).unlocked = false) ∧
    (∃ (s : State) (l : Fin 64), s.get fHEDDLE_LINE_CFG_ARM_MODE l.val = 2) ∧
    (∃ (s : State) (l : Fin 64), s.get fHEDDLE_LINE_CFG_ARM_MODE l.val = 3) ∧
    (∃ (s : State) (l : Fin 64), s.get fHEDDLE_LINE_CFG_ARM_MODE l.val < 2) ∧
    (∃ (s : State) (l : Fin 64), s.get fHEDDLE_LINE_CFG_ARM_MODE l.val = 2 ∨ s.get fHEDDLE_LINE_CFG_ARM_MODE l.val = 3 ∧ (nth s.lines
      l.val).armFrom.isSome = true ∧ (nth s.lines l.val).armEnd = none) ∧
    (∃ (s : State) (l : Fin 64) (e : Nat), s.pins = [] ∧ (nth s.lines l.val).armEnd = some e) ∧
    (∃ (s : State) (l : Fin 64), (nth s.lines l.val).armEnd = none) ∧
    (∃ (s : State), (s.hsf.filter (fun d => d.src == 6)).length < 8) ∧
    (∃ (s : State) (u : Nat × Nat), (nth s.lines (s.get fHEDDLE_LAST_SEL_LINE)).last = some u) :=
  ⟨⟨{ State.reset with store := [⟨⟨.line 63, 1, wcs 100, 6⟩, 0, false, 0⟩] }, ⟨⟨.line 63, 1, wcs 100, 6⟩, 0, false, 0⟩, [], 63,
    by decide +kernel⟩,
   ⟨{ State.reset.flag fCLK_STATUS_WARP_SAFE with store := [⟨⟨.line 63, 1, wcs 100, 6⟩, 0, false, 0⟩] }, ⟨⟨.line 63, 1, wcs 100, 6⟩,
    0, false, 0⟩, [], 63, by decide +kernel⟩,
   ⟨{ State.reset with store := [⟨⟨.line 63, 2, wcs 100, 6⟩, 0, false, 0⟩] }, ⟨⟨.line 63, 2, wcs 100, 6⟩, 0, false, 0⟩, [], 63,
    by decide +kernel⟩,
   ⟨{ State.reset with store := [⟨⟨.line 0, 3, wcs 100, 6⟩, 0, false, 0⟩] }, ⟨⟨.line 0, 3, wcs 100, 6⟩, 0, false, 0⟩, [], 0,
    by decide +kernel⟩,
   ⟨State.reset.put fHEDDLE_LINE_CFG_ARM_MODE 2 63, 63, by decide +kernel⟩,
   ⟨State.reset.put fHEDDLE_LINE_CFG_ARM_MODE 3 63, 63, by decide +kernel⟩,
   ⟨State.reset, 63, by decide +kernel⟩,
   ⟨{ State.reset.put fHEDDLE_LINE_CFG_ARM_MODE 2 63 with lines := State.reset.lines.set 63 { armFrom := some 5 } }, 63,
    by decide +kernel⟩,
   ⟨{ State.reset with lines := State.reset.lines.set 63 { armFrom := some 5, armEnd := some 4096 } }, 63, 4096, by decide +kernel⟩,
   ⟨State.reset, 0, by decide +kernel⟩,
   ⟨State.reset, by decide +kernel⟩,
   ⟨{ State.reset with lines := State.reset.lines.set 0 { last := some (77, 20) } }, (77, 20), by decide +kernel⟩⟩

/-- States and operands that meet the hypotheses of each clause of SequencerItems. -/
theorem witness_SequencerItems :
    (∃ (s : State) (q : Fin 2) (w : Word) (cn un : Bool), ((s.toIssue q.val).roll q.val).mayIssue q.val = true ∧ s.markFirst q.val [0]
      (some (((s.toIssue q.val).roll q.val).issueDate q.val)) = false ∧ ((s.toIssue q.val).roll q.val).seqFetch q.val = .item w cn
      un ∧ getBits w 32 4 = 0) ∧
    (∃ (s : State) (q : Fin 2) (w : Word) (cn un : Bool), ((s.toIssue q.val).roll q.val).mayIssue q.val = true ∧ s.markFirst q.val [0]
      none = false ∧ ((s.toIssue q.val).roll q.val).seqFetch q.val = .item w cn un ∧ getBits w 32 4 ≠ 0) ∧
    (∃ (s : State) (q : Fin 2) (w : Word) (cn un : Bool), ((s.toIssue q.val).roll q.val).mayIssue q.val = true ∧ s.markFirst q.val [8]
      (some (((s.toIssue q.val).roll q.val).issueDate q.val)) = false ∧ ((s.toIssue q.val).roll q.val).seqFetch q.val = .item w cn
      un ∧ getBits w 32 4 = 8) ∧
    (∃ (s : State) (q : Fin 2) (w : Word) (cn un : Bool), ((s.toIssue q.val).roll q.val).mayIssue q.val = true ∧ s.markFirst q.val [9,
      10, 11, 12, 13, 14, 15] (some (((s.toIssue q.val).roll q.val).issueDate q.val)) = false ∧ ((s.toIssue q.val).roll
      q.val).seqFetch q.val = .item w cn un ∧ 9 ≤ getBits w 32 4) ∧
    (∃ (s : State) (q : Fin 2) (w : Word) (cn un : Bool), ((s.toIssue q.val).roll q.val).mayIssue q.val = true ∧ s.markFirst q.val [2]
      (some (((s.toIssue q.val).roll q.val).issueDate q.val)) = false ∧ ((s.toIssue q.val).roll q.val).seqFetch q.val = .item w cn
      un ∧ getBits w 32 4 = 2) ∧
    (∃ (s : State) (q : Fin 2) (w : Word) (cn un : Bool), ((s.toIssue q.val).roll q.val).mayIssue q.val = true ∧ s.markFirst q.val [4]
      (some (((s.toIssue q.val).roll q.val).issueDate q.val)) = false ∧ ((s.toIssue q.val).roll q.val).seqFetch q.val = .item w cn
      un ∧ getBits w 32 4 = 4) ∧
    (∃ (s : State) (q : Fin 2) (w : Word) (cn un : Bool), ((s.toIssue q.val).roll q.val).mayIssue q.val = true ∧ s.markFirst q.val [5]
      (some (((s.toIssue q.val).roll q.val).issueDate q.val)) = false ∧ ((s.toIssue q.val).roll q.val).seqFetch q.val = .item w cn
      un ∧ getBits w 32 4 = 5) ∧
    (∃ (s : State) (q : Fin 2) (w : Word) (cn un : Bool), ((s.toIssue q.val).roll q.val).mayIssue q.val = true ∧ s.markFirst q.val [6]
      (some (((s.toIssue q.val).roll q.val).issueDate q.val)) = false ∧ ((s.toIssue q.val).roll q.val).seqFetch q.val = .item w cn
      un ∧ getBits w 32 4 = 6) ∧
    (∃ (s : State) (q : Fin 2) (w : Word) (cn un : Bool), ((s.toIssue q.val).roll q.val).mayIssue q.val = true ∧ s.markFirst q.val [1]
      (some (((s.toIssue q.val).roll q.val).issueDate q.val)) = false ∧ ((s.toIssue q.val).roll q.val).seqFetch q.val = .item w cn
      un ∧ getBits w 32 4 = 1) ∧
    (∃ (s : State) (q : Fin 2) (w : Word) (cn un : Bool), ((s.toIssue q.val).roll q.val).mayIssue q.val = true ∧ s.markFirst q.val [3]
      (some (((s.toIssue q.val).roll q.val).issueDate q.val)) = false ∧ ((s.toIssue q.val).roll q.val).seqFetch q.val = .item w cn
      un ∧ (s.seq q.val).wait = none ∧ getBits w 32 4 = 3) ∧
    (∃ (s : State) (q : Fin 2) (wt : SeqWait), (s.seq q.val).wait = some wt ∧ s.markFirst q.val [3] none = false ∧ s.seqState q.val =
      2) ∧
    (∃ (s : State) (q : Fin 2) (w : Word) (cn un : Bool), ((s.toIssue q.val).roll q.val).mayIssue q.val = true ∧ s.markFirst q.val [7]
      (some (((s.toIssue q.val).roll q.val).issueDate q.val)) = false ∧ ((s.toIssue q.val).roll q.val).seqFetch q.val = .item w cn
      un ∧ (s.seq q.val).ending = none ∧ getBits w 32 4 = 7) ∧
    (∃ (s : State) (q : Fin 2) (u : Nat), (s.seq q.val).ending = some (u, 6) ∧ s.markFirst q.val [7] none = false ∧ (s.seq q.val).bnd
      = none ∧ s.seqState q.val = 2) ∧
    (∃ (s : State) (q : Fin 2) (u m : Nat) (rest : List (Nat × Nat × Nat)), (s.seq q.val).marks = (u, m, 0) :: rest ∧ ((s.toIssue
      q.val).roll q.val).mayIssue q.val = false) :=
  ⟨⟨{ State.reset.put fSEQ_STATUS_STATE 2 1 with seqs := State.reset.seqs.set 1 { w1 := BitVec.ofNat 36 (15 * 2 ^ 16), per := 4096, live := true } },
    1, 0, true, false, by decide +kernel⟩,
   ⟨{ (State.reset.put fSEQ_STATUS_STATE 2 1).setWord aPATTERN_STORE (BitVec.ofNat 36 (8 * 2 ^ 32)) with seqs := State.reset.seqs.set 1 { w1 := BitVec.ofNat 36 (15 * 2 ^ 16), per := 4096, live := true } },
    1, BitVec.ofNat 36 (8 * 2 ^ 32), true, false, by decide +kernel⟩,
   ⟨{ (State.reset.put fSEQ_STATUS_STATE 2 1).setWord aPATTERN_STORE (BitVec.ofNat 36 (8 * 2 ^ 32)) with seqs := State.reset.seqs.set 1 { w1 := BitVec.ofNat 36 (15 * 2 ^ 16), per := 4096, live := true } },
    1, BitVec.ofNat 36 (8 * 2 ^ 32), true, false, by decide +kernel⟩,
   ⟨{ (State.reset.put fSEQ_STATUS_STATE 2 1).setWord aPATTERN_STORE (BitVec.ofNat 36 (15 * 2 ^ 32)) with seqs := State.reset.seqs.set 1 { w1 := BitVec.ofNat 36 (15 * 2 ^ 16), per := 4096, live := true } },
    1, BitVec.ofNat 36 (15 * 2 ^ 32), true, false, by decide +kernel⟩,
   ⟨{ (State.reset.put fSEQ_STATUS_STATE 2 1).setWord aPATTERN_STORE (BitVec.ofNat 36 (2 * 2 ^ 32)) with seqs := State.reset.seqs.set 1 { w1 := BitVec.ofNat 36 (15 * 2 ^ 16), per := 4096, live := true } },
    1, BitVec.ofNat 36 (2 * 2 ^ 32), true, false, by decide +kernel⟩,
   ⟨{ (State.reset.put fSEQ_STATUS_STATE 2 1).setWord aPATTERN_STORE (BitVec.ofNat 36 (4 * 2 ^ 32)) with seqs := State.reset.seqs.set 1 { w1 := BitVec.ofNat 36 (15 * 2 ^ 16), per := 4096, live := true } },
    1, BitVec.ofNat 36 (4 * 2 ^ 32), true, false, by decide +kernel⟩,
   ⟨{ (State.reset.put fSEQ_STATUS_STATE 2 1).setWord aPATTERN_STORE (BitVec.ofNat 36 (5 * 2 ^ 32)) with seqs := State.reset.seqs.set 1 { w1 := BitVec.ofNat 36 (15 * 2 ^ 16), per := 4096, live := true } },
    1, BitVec.ofNat 36 (5 * 2 ^ 32), true, false, by decide +kernel⟩,
   ⟨{ (State.reset.put fSEQ_STATUS_STATE 2 1).setWord aPATTERN_STORE (BitVec.ofNat 36 (6 * 2 ^ 32)) with seqs := State.reset.seqs.set 1 { w1 := BitVec.ofNat 36 (15 * 2 ^ 16), per := 4096, live := true } },
    1, BitVec.ofNat 36 (6 * 2 ^ 32), true, false, by decide +kernel⟩,
   ⟨{ (State.reset.put fSEQ_STATUS_STATE 2 1).setWord aPATTERN_STORE (BitVec.ofNat 36 (1 * 2 ^ 32)) with seqs := State.reset.seqs.set 1 { w1 := BitVec.ofNat 36 (15 * 2 ^ 16), per := 4096, live := true } },
    1, BitVec.ofNat 36 (1 * 2 ^ 32), true, false, by decide +kernel⟩,
   ⟨{ (State.reset.put fSEQ_STATUS_STATE 2 1).setWord aPATTERN_STORE (BitVec.ofNat 36 (3 * 2 ^ 32 + 9)) with seqs := State.reset.seqs.set 1 { w1 := BitVec.ofNat 36 (15 * 2 ^ 16), per := 4096, live := true } },
    1, BitVec.ofNat 36 (3 * 2 ^ 32 + 9), true, false, by decide +kernel⟩,
   ⟨{ State.reset.put fSEQ_STATUS_STATE 2 1 with seqs := State.reset.seqs.set 1 { per := 4096, live := true, wait := some ⟨0, 2, 0, none, none⟩ } },
    1, ⟨0, 2, 0, none, none⟩, by decide +kernel⟩,
   ⟨{ (State.reset.put fSEQ_STATUS_STATE 2 1).setWord aPATTERN_STORE (BitVec.ofNat 36 (7 * 2 ^ 32)) with seqs := State.reset.seqs.set 1 { w1 := BitVec.ofNat 36 (15 * 2 ^ 16), per := 4096, live := true } },
    1, BitVec.ofNat 36 (7 * 2 ^ 32), true, false, by decide +kernel⟩,
   ⟨{ State.reset.put fSEQ_STATUS_STATE 2 1 with seqs := State.reset.seqs.set 1 { per := 4096, ending := some (8192, 6) } }, 1, 8192,
    by decide +kernel⟩,
   ⟨{ State.reset with seqs := State.reset.seqs.set 1 { marks := [(8192, 5, 0)] } }, 1, 8192, 5, [], by decide +kernel⟩⟩

/-- States and operands that meet the hypotheses of each clause of SequencerRuns. -/
theorem witness_SequencerRuns :
    (∃ (s : State) (q : Fin 2), s.seqRunning q.val = true ∧ s.loadWaits = false) ∧
    (∃ (s : State) (q : Fin 2), s.seqRunning q.val = false ∧ s.get fSEQ_MODE_START_MODE q.val = 3 ∧ s.loadWaits = false) ∧
    (∃ (s : State) (q : Fin 2), s.seqRunning q.val = false ∧ s.get fSEQ_MODE_START_MODE q.val = 0 ∧ (s.seqGo q.val).seqState q.val = 1
      ∧ s.loadWaits = false ∧ (s.seqGo q.val).loadWaits = false) ∧
    (∃ (s : State) (q : Fin 2) (u : Nat), s.pins = [] ∧ (s.seq q.val).start = some u ∧ s.seqState q.val = 1 ∧ s.seqStored q.val u =
      false ∧ q.val < s.seqs.length) ∧
    (∃ (s : State) (q : Fin 2), s.seqState q.val = 0) ∧
    (∃ (s : State) (q : Fin 2), s.seqState q.val = 2 ∧ (s.seq q.val).live = true ∧ (s.seq q.val).wait = none) ∧
    (∃ (s : State) (q : Fin 2), s.seqState q.val = 2 ∨ s.seqState q.val = 3) ∧
    (∃ (s : State) (q : Fin 2) (wt : SeqWait), (s.seq q.val).wait = some wt ∧ wt.mode = 2 ∧ wt.rel = none) ∧
    (∃ (s : State) (q : Fin 2), s.seqRunning q.val = true) ∧
    (∃ (s : State) (q : Fin 2), s.seqRunning q.val = false) ∧
    (∃ (s : State) (q : Fin 2), s.is fSEQ_CMD_TAPPLY_PEND q.val = false) ∧
    (∃ (s : State) (q : Fin 2), s.is fSEQ_CMD_TAPPLY_PEND q.val = true) ∧
    (∃ (s : State) (q : Fin 2) (s' : State), s.cancelDue (fun c => c.target == .seqApply q) = some s') ∧
    (∃ (s : State) (q : Fin 2) (wt : SeqWait) (r : Nat), s.pins = [] ∧ (s.seq q.val).wait = some wt ∧ wt.rel = some r ∧ wt.limit =
      none ∧ s.seqState q.val = 3 ∧ (s.seq q.val).idx < segLen (s.seq q.val).w1) ∧
    (∃ (s : State) (q : Fin 2) (wt : SeqWait) (r : Nat), s.pins = [] ∧ (s.seq q.val).wait = some wt ∧ wt.rel = none ∧ wt.limit = some
      r ∧ s.seqState q.val = 3 ∧ (s.seq q.val).idx < segLen (s.seq q.val).w1) ∧
    (∃ (s : State) (q : Fin 2) (r : SeqReq) (u : Nat), s.pins = [] ∧ State.decisionAt q.val s = some u ∧ (s.seq q.val).req = some r ∧
      r.stop = true ∧ r.line = none ∧ q.val < s.seqs.length) ∧
    (∃ (s : State) (q : Fin 2) (u : Nat), s.pins = [] ∧ State.decisionAt q.val s = some u ∧ (s.seq q.val).req = none ∧ getBits (s.seq
      q.val).ent.2 16 20 = 0 ∨ (s.seq q.val).pass < getBits (s.seq q.val).ent.2 16 20 ∧ q.val < s.seqs.length) ∧
    (∃ (s : State) (q : Fin 2) (u v : Nat), (s.seq q.val).ending = some (u, v) ∧ (s.seq q.val).bnd = none ∧ s.seqState q.val = 2) ∧
    (∃ (s : State) (q : Fin 2) (e p : Nat) (ent : Word × Word) (w0 w1 : Word) (b : Bool), s.pins = [] ∧ s.seqState q.val = 2 ∧ (s.seq
      q.val).passOut = true ∧ (s.seq q.val).bnd = none ∧ (s.seq q.val).ending = none ∧ (s.seq q.val).next = .play e p ent w0 w1 b
      ∧ s.shadow.find (aSEQ_ITEM_PER + q.val) = none ∧ s.seqStored q.val ((s.seq q.val).slotT (s.seq q.val).k) = false ∧ q.val <
      s.seqs.length) ∧
    (∃ (s : State) (q : Fin 2) (ws : List Word) (s' : State), 64 * ((s.seq q.val).wr + 1) ≤ (s.seq q.val).keepFrom + 65536 ∧ s.domOn 3
      = true ∧ fSEQ_CFG_STREAM_SRC.get (s.seqCfg q.val) = 2 ∧ s.regionGranule q.val = some (ws, s')) ∧
    (∃ (s : State) (q : Fin 2), fSEQ_CFG_STREAM_SRC.get (s.seqCfg q.val) = 0) :=
  ⟨⟨State.reset.put fSEQ_STATUS_STATE 3 1, 1, by decide +kernel⟩,
   ⟨State.reset.put fSEQ_MODE_START_MODE 3 0, 0, by decide +kernel⟩,
   ⟨State.reset.setWord (aSEGMENT_TABLE + 1) (BitVec.ofNat 36 (3 * 2 ^ 16)), 0, by decide +kernel⟩,
   ⟨{ State.reset.put fSEQ_STATUS_STATE 1 1 with seqs := State.reset.seqs.set 1 { start := some (wcs 1024) } }, 1, wcs 1024,
    by decide +kernel⟩,
   ⟨State.reset, 1, by decide +kernel⟩,
   ⟨{ State.reset.put fSEQ_STATUS_STATE 2 1 with seqs := State.reset.seqs.set 1 { live := true } }, 1, by decide +kernel⟩,
   ⟨State.reset.put fSEQ_STATUS_STATE 3 1, 1, by decide +kernel⟩,
   ⟨{ State.reset with seqs := State.reset.seqs.set 1 { per := 4096, wait := some ⟨0, 2, 0, none, none⟩ } }, 1, ⟨0, 2, 0, none,
    none⟩, by decide +kernel⟩,
   ⟨State.reset.put fSEQ_STATUS_STATE 2 1, 1, by decide +kernel⟩,
   ⟨State.reset, 1, by decide +kernel⟩,
   ⟨State.reset, 1, by decide +kernel⟩,
   ⟨State.reset.flag fSEQ_CMD_TAPPLY_PEND 1, 1, by decide +kernel⟩,
   ⟨{ State.reset with hsf := [⟨.seqApply 1, 3, 0, 6⟩] }, 1, State.reset, by decide +kernel⟩,
   ⟨{ State.reset.put fSEQ_STATUS_STATE 3 1 with seqs := State.reset.seqs.set 1 { per := 4096, wait := some ⟨0, 2, 0, some 5, none⟩ } },
    1, ⟨0, 2, 0, some 5, none⟩, 5, by decide +kernel⟩,
   ⟨{ State.reset.put fSEQ_STATUS_STATE 3 1 with seqs := State.reset.seqs.set 1 { per := 4096, wait := some ⟨0, 2, 0, none, some 5⟩ } },
    1, ⟨0, 2, 0, none, some 5⟩, 5, by decide +kernel⟩,
   ⟨{ State.reset.put fSEQ_STATUS_STATE 2 1 with seqs := State.reset.seqs.set 1 { w1 := BitVec.ofNat 36 (15 * 2 ^ 16), per := 4096, live := true, idx := 1024 - 127, k := 5, req := some ⟨true, 0, none⟩ } },
    1, ⟨true, 0, none⟩, 16384, by decide +kernel⟩,
   ⟨{ State.reset.put fSEQ_STATUS_STATE 2 1 with seqs := State.reset.seqs.set 1 { w1 := BitVec.ofNat 36 (15 * 2 ^ 16), per := 4096, live := true, idx := 1024 - 127, k := 5 } },
    1, 16384, by decide +kernel⟩,
   ⟨{ State.reset.put fSEQ_STATUS_STATE 2 1 with seqs := State.reset.seqs.set 1 { per := 4096, ending := some (8192, 5) } }, 1, 8192,
    5, by decide +kernel⟩,
   ⟨{ State.reset.put fSEQ_STATUS_STATE 2 1 with seqs := State.reset.seqs.set 1 { w1 := BitVec.ofNat 36 (15 * 2 ^ 16), per := 4096, live := true, idx := 1024, k := 5, next := .play 1 1 (0, 0) 0 0 false } },
    1, 1, 1, (0, 0), 0, 0, false, by decide +kernel⟩,
   ⟨{ ((State.reset.put fSEQ_CFG_STREAM_SRC 2 1).flag fHIST_MEM_STATUS_READY).put fPWR_STATE_STATE (3 * 2 ^ 18 + 3 * 2 ^ 9) with regions := State.reset.regions.set 1 { items := List.replicate 128 0, written := 128 } },
    1, List.replicate 64 0,
    ({ ((State.reset.put fSEQ_CFG_STREAM_SRC 2 1).flag fHIST_MEM_STATUS_READY).put fPWR_STATE_STATE (3 * 2 ^ 18 + 3 * 2 ^ 9) with regions := State.reset.regions.set 1 { items := List.replicate 128 0, written := 128 } }
    : State).setRegion 1 { items := List.replicate 64 0, written := 128, rd := 64 }, by decide +kernel⟩,
   ⟨State.reset, 0, by decide +kernel⟩⟩

/-- States and operands that meet the hypotheses of each clause of ProbesAndTransmitLinks. -/
theorem witness_ProbesAndTransmitLinks :
    (∃ (s : State), s.feedRuns 0 = true) ∧
    (∃ (s : State), s.feedRuns 1 = true) ∧
    (∃ (s : State), s.feedRuns 0 = true ∧ s.feedRuns 1 = true) ∧
    (∃ (s : State), s.feedRuns 0 = false) ∧
    (∃ (s : State), s.feedRuns 1 = false) ∧
    (∃ (s : State), s.is fPROBE_TAPPLY_CTRL_PENDING = false) ∧
    (∃ (s : State), s.is fPROBE_TAPPLY_CTRL_PENDING = true) ∧
    (∃ (s : State) (s' : State), s.cancelDue (fun c => isProbeApply c.target) = some s') ∧
    (∃ (s : State) (f : Fin 2), s.get fPROBE_LINK_STATUS_STATE f.val ≠ 0) ∧
    (∃ (s : State) (f : Fin 2), s.get fPROBE_LINK_STATUS_STATE f.val = 0) ∧
    (∃ (s : State) (f : Fin 2) (span : Option Nat), s.get fPROBE_LINK_STATUS_STATE f.val ≠ 0 ∧ s.safe = false ∧ clockOk (s.txPeriod
      f.val) span = true) ∧
    (∃ (s : State) (f : Fin 2) (span : Option Nat), s.get fPROBE_LINK_STATUS_STATE f.val ≠ 0 ∧ s.safe = true ∨ clockOk (s.txPeriod
      f.val) span = false) ∧
    (∃ (s : State) (f : Fin 2), s.get fPROBE_LINK_STATUS_STATE f.val = 0) ∧
    (∃ (s : State) (f : Fin 2), s.get fPROBE_LINK_STATUS_STATE f.val = 1 ∧ 1024 ≤ (nth s.txLinks f.val).good ∧ s.safe = false) ∧
    (∃ (s : State) (f : Fin 2), s.get fPROBE_LINK_STATUS_STATE f.val ≠ 1 ∨ (nth s.txLinks f.val).good < 1024 ∨ s.safe = true) ∧
    (∃ (s : State) (f : Fin 2), s.get fPROBE_LINK_STATUS_STATE f.val ≠ 2) ∧
    (∃ (s : State) (f : Fin 2), s.get fPROBE_LINK_STATUS_STATE f.val = 2) ∧
    (∃ (s : State) (f : Fin 2) (u : Nat) (rest : List Nat), (nth s.probes f.val).shots = u :: rest) ∧
    (∃ (s : State) (f : Fin 2), (nth s.probes f.val).shots = []) :=
  ⟨⟨((State.reset.put fSEQ_CFG_FIBRE 1 0).put fSEQ_STATUS_STATE 2 0), by decide +kernel⟩,
   ⟨((State.reset.put fSEQ_CFG_FIBRE 2 0).put fSEQ_STATUS_STATE 2 0), by decide +kernel⟩,
   ⟨((State.reset.put fSEQ_CFG_FIBRE 3 0).put fSEQ_STATUS_STATE 2 0), by decide +kernel⟩,
   ⟨State.reset, by decide +kernel⟩,
   ⟨State.reset, by decide +kernel⟩,
   ⟨State.reset, by decide +kernel⟩,
   ⟨State.reset.flag fPROBE_TAPPLY_CTRL_PENDING, by decide +kernel⟩,
   ⟨{ State.reset with hsf := [⟨.probeApply 1, 3, 0, 6⟩] }, State.reset, by decide +kernel⟩,
   ⟨State.reset.put fPROBE_LINK_STATUS_STATE 2 1, 1, by decide +kernel⟩,
   ⟨State.reset, 1, by decide +kernel⟩,
   ⟨State.reset.put fPROBE_LINK_STATUS_STATE 1 1, 1, some (wcs (64 * 6) + 1024), by decide +kernel⟩,
   ⟨State.reset.put fPROBE_LINK_STATUS_STATE 2 0, 0, none, by decide +kernel⟩,
   ⟨State.reset, 0, by decide +kernel⟩,
   ⟨{ State.reset.put fPROBE_LINK_STATUS_STATE 1 1 with txLinks := [{}, { good := 1024 }] }, 1, by decide +kernel⟩,
   ⟨State.reset, 0, by decide +kernel⟩,
   ⟨State.reset, 1, by decide +kernel⟩,
   ⟨State.reset.put fPROBE_LINK_STATUS_STATE 2 1, 1, by decide +kernel⟩,
   ⟨{ State.reset with probes := [{}, { shots := [4096, 8192] }] }, 1, 4096, [8192], by decide +kernel⟩,
   ⟨State.reset, 0, by decide +kernel⟩⟩

/-- States and operands that meet the hypotheses of each clause of LightBudget. -/
theorem witness_LightBudget :
    (∃ (s : State) (f : Fin 2) (a m : Nat), s.pins = [] ∧ s.gateFibres (s.get fLIGHT_CFG_GATE_CH f.val) = [f.val] ∧ s.limitCutAt f.val
      = some a ∧ s.maxOnCutAt f.val = some m ∧ tFloor a ≠ tFloor m ∧ tLt m (tFloor a) = false ∧ s.endsAt f.val = some a ∧
      s.trailsBy (s.get fLIGHT_CFG_GATE_CH f.val) a = false ∧ f.val < s.lims.length ∧ s.get fLIGHT_CFG_GATE_CH f.val <
      s.outs.length) ∧
    (∃ (s : State) (f : Fin 2) (a m : Nat), s.pins = [] ∧ s.gateFibres (s.get fLIGHT_CFG_GATE_CH f.val) = [f.val] ∧ s.limitCutAt f.val
      = some a ∧ s.maxOnCutAt f.val = some m ∧ tFloor a ≠ tFloor m ∧ tLt a (tFloor m) = false ∧ s.endsAt f.val = some m ∧
      s.trailsBy (s.get fLIGHT_CFG_GATE_CH f.val) m = false ∧ f.val < s.lims.length ∧ s.get fLIGHT_CFG_GATE_CH f.val <
      s.outs.length) ∧
    (∃ (s : State) (f : Fin 2) (a m : Nat), s.pins = [] ∧ s.gateFibres (s.get fLIGHT_CFG_GATE_CH f.val) = [f.val] ∧ s.limitCutAt f.val
      = some a ∧ s.maxOnCutAt f.val = some m ∧ tFloor a = tFloor m ∧ tLt m a = false ∧ s.endsAt f.val = some a ∧ s.trailsBy (s.get
      fLIGHT_CFG_GATE_CH f.val) a = false ∧ f.val < s.lims.length ∧ s.get fLIGHT_CFG_GATE_CH f.val < s.outs.length) ∧
    (∃ (s : State) (f : Fin 2) (a m : Nat), s.pins = [] ∧ s.gateFibres (s.get fLIGHT_CFG_GATE_CH f.val) = [f.val] ∧ s.limitCutAt f.val
      = some a ∧ s.maxOnCutAt f.val = some m ∧ tFloor a = tFloor m ∧ tLt m a = false ∧ s.endsAt f.val = some a ∧ s.trailsBy (s.get
      fLIGHT_CFG_GATE_CH f.val) a = false ∧ f.val < s.lims.length ∧ s.get fLIGHT_CFG_GATE_CH f.val < s.outs.length) ∧
    (∃ (s : State) (f : Fin 2), (nth s.lims f.val).act = none) ∧
    (∃ (s : State) (f : Fin 2), (nth s.lims f.val).act = none) :=
  ⟨⟨{ ((State.reset.put fLIGHT_MAX_ON_MAX_ON 1000 1).put fLIGHT_CFG_GATE_EN 1 1).put fLIGHT_CFG_GATE_CH 9 1 with lims := [{}, { b := 65536, at_ := 0, act := some 0 }] },
    1,
    (({ ((State.reset.put fLIGHT_MAX_ON_MAX_ON 1000 1).put fLIGHT_CFG_GATE_EN 1 1).put fLIGHT_CFG_GATE_CH 9 1 with lims := [{}, { b := 65536, at_ := 0, act := some 0 }] }
    : State).limitCutAt 1).getD 0,
    (({ ((State.reset.put fLIGHT_MAX_ON_MAX_ON 1000 1).put fLIGHT_CFG_GATE_EN 1 1).put fLIGHT_CFG_GATE_CH 9 1 with lims := [{}, { b := 65536, at_ := 0, act := some 0 }] }
    : State).maxOnCutAt 1).getD 0, by decide +kernel⟩,
   ⟨{ ((State.reset.put fLIGHT_MAX_ON_MAX_ON 4 1).put fLIGHT_CFG_GATE_EN 1 1).put fLIGHT_CFG_GATE_CH 9 1 with lims := [{}, { b := 6553600000, at_ := 0, act := some 0 }] },
    1,
    (({ ((State.reset.put fLIGHT_MAX_ON_MAX_ON 4 1).put fLIGHT_CFG_GATE_EN 1 1).put fLIGHT_CFG_GATE_CH 9 1 with lims := [{}, { b := 6553600000, at_ := 0, act := some 0 }] }
    : State).limitCutAt 1).getD 0,
    (({ ((State.reset.put fLIGHT_MAX_ON_MAX_ON 4 1).put fLIGHT_CFG_GATE_EN 1 1).put fLIGHT_CFG_GATE_CH 9 1 with lims := [{}, { b := 6553600000, at_ := 0, act := some 0 }] }
    : State).maxOnCutAt 1).getD 0, by decide +kernel⟩,
   ⟨{ ((State.reset.put fLIGHT_MAX_ON_MAX_ON 1 1).put fLIGHT_CFG_GATE_EN 1 1).put fLIGHT_CFG_GATE_CH 9 1 with lims := [{}, { b := 67108864, at_ := 0, act := some 0 }] },
    1,
    (({ ((State.reset.put fLIGHT_MAX_ON_MAX_ON 1 1).put fLIGHT_CFG_GATE_EN 1 1).put fLIGHT_CFG_GATE_CH 9 1 with lims := [{}, { b := 67108864, at_ := 0, act := some 0 }] }
    : State).limitCutAt 1).getD 0,
    (({ ((State.reset.put fLIGHT_MAX_ON_MAX_ON 1 1).put fLIGHT_CFG_GATE_EN 1 1).put fLIGHT_CFG_GATE_CH 9 1 with lims := [{}, { b := 67108864, at_ := 0, act := some 0 }] }
    : State).maxOnCutAt 1).getD 0, by decide +kernel⟩,
   ⟨{ ((State.reset.put fLIGHT_MAX_ON_MAX_ON 1 1).put fLIGHT_CFG_GATE_EN 1 1).put fLIGHT_CFG_GATE_CH 9 1 with lims := [{}, { b := 67108864, at_ := 0, act := some 0 }] },
    1,
    (({ ((State.reset.put fLIGHT_MAX_ON_MAX_ON 1 1).put fLIGHT_CFG_GATE_EN 1 1).put fLIGHT_CFG_GATE_CH 9 1 with lims := [{}, { b := 67108864, at_ := 0, act := some 0 }] }
    : State).limitCutAt 1).getD 0,
    (({ ((State.reset.put fLIGHT_MAX_ON_MAX_ON 1 1).put fLIGHT_CFG_GATE_EN 1 1).put fLIGHT_CFG_GATE_CH 9 1 with lims := [{}, { b := 67108864, at_ := 0, act := some 0 }] }
    : State).maxOnCutAt 1).getD 0, by decide +kernel⟩,
   ⟨State.reset, 0, by decide +kernel⟩,
   ⟨State.reset, 0, by decide +kernel⟩⟩

/-- States and operands that meet the hypotheses of each clause of ReedMeasurement. -/
theorem witness_ReedMeasurement :
    (∃ (s : State) (a : Nat), s.stampAhead = some a) ∧
    (∃ (s : State) (i : Nat) (st : Stamp), s.pins = [] ∧ s.reedPend = [] ∧ oldestStamp s.stampHeads = some (i, st) ∧ (nth s.reedIn
      i).taken = none ∧ fREED_Q_CFG_EN.get (s.word (aREED_Q_CFG + s.get fREED_IN_CFG_QSEL i)) = 0 ∧ i < s.reedIn.length) ∧
    (∃ (s : State), s.stampAhead = none) ∧
    (∃ (s : State) (g : Fin 4) (o : Nat), (s.reedTo s.nowT).gateNext g.val = some (o, false)) ∧
    (∃ (s : State) (g : Fin 4) (o : Nat), s.pins = [] ∧ s.reedPend = [] ∧ (s.gate g.val).opened = none ∧ (s.gate g.val).opens = [(o,
      fREED_GATE_CFG_SRC.get (s.gateCfg g.val))] ∧ tLt s.nowT o = true ∧ o < tMod ∧ g.val < s.gates.length) ∧
    (∃ (s : State) (g : Fin 4) (e : Nat), (s.reedTo s.nowT).gateNext g.val = none ∨ (s.reedTo s.nowT).gateNext g.val = some (e, true)) ∧
    (∃ (s : State) (g : Fin 4) (c : Nat), (s.reedTo s.nowT).gateNext g.val = some (c, true)) ∧
    (∃ (s : State) (g : Fin 4) (o c : Nat), s.pins = [] ∧ s.reedPend = [] ∧ (s.gate g.val).opened = some o ∧ (s.gate g.val).opens = []
      ∧ (s.gate g.val).closeAt o = some c ∧ fREED_GATE_CFG_REPEAT.get (s.gate g.val).cfg = 0 ∧ tLt s.nowT c = true ∧ c < tMod ∧
      g.val < s.gates.length) ∧
    (∃ (s : State) (g : Fin 4) (e : Nat), (s.reedTo s.nowT).gateNext g.val = none ∨ (s.reedTo s.nowT).gateNext g.val = some (e,
      false)) ∧
    (∃ (s : State) (g : Fin 4) (r : State), s.reedTo s.nowT = r ∧ fREED_GATE_CFG_SRC.get (r.gateCfg g.val) = 3 ∧ (r.gate
      g.val).opened.isSome = true ∧ fREED_GATE_CFG_REPEAT.get (r.gateCfg g.val) = 1) ∧
    (∃ (s : State) (g : Fin 4) (r : State), s.reedTo s.nowT = r ∧ fREED_GATE_CFG_SRC.get (r.gateCfg g.val) = 3 ∧ (r.gate g.val).opened
      = none ∨ fREED_GATE_CFG_REPEAT.get (r.gateCfg g.val) = 0 ∧ tLt (tsOf (r.word (aREED_GATE_START_LO + g.val)) (r.word
      (aREED_GATE_START_HI + g.val))) (tAdd r.nowT (wcs 64)) = true) ∧
    (∃ (s : State) (g : Fin 4) (r : State), s.reedTo s.nowT = r ∧ fREED_GATE_CFG_SRC.get (r.gateCfg g.val) = 3 ∧ (r.gate g.val).opened
      = none ∨ fREED_GATE_CFG_REPEAT.get (r.gateCfg g.val) = 0 ∧ tLt (tsOf (r.word (aREED_GATE_START_LO + g.val)) (r.word
      (aREED_GATE_START_HI + g.val))) (tAdd r.nowT (wcs 64)) = false) ∧
    (∃ (s : State) (g : Fin 4), fREED_GATE_CFG_SRC.get ((s.reedTo s.nowT).gateCfg g.val) ≠ 3) ∧
    (∃ (s : State) (g : Fin 4), fREED_GATE_CFG_SRC.get ((s.reedTo s.nowT).gateCfg g.val) = 4) ∧
    (∃ (s : State) (g : Fin 4), fREED_GATE_CFG_SRC.get ((s.reedTo s.nowT).gateCfg g.val) ≠ 4) ∧
    (∃ (s : State) (g : Fin 4), fREED_GATE_CFG_SRC.get ((s.reedTo s.nowT).gateCfg g.val) = 4) ∧
    (∃ (s : State) (g : Fin 4), fREED_GATE_CFG_SRC.get ((s.reedTo s.nowT).gateCfg g.val) ≠ 4) ∧
    (∃ (s : State) (g : Fin 4), ((s.reedTo s.nowT).gate g.val).timed = true) ∧
    (∃ (s : State) (g : Fin 4), ((s.reedTo s.nowT).gate g.val).timed = false) ∧
    (∃ (s : State) (u : Fin 4) (q : State) (r : MuRes) (rest : List MuRes), s.reedTo s.nowT = q ∧ (q.mu u.val).results = r :: rest ∧
      (q.mu u.val).snap = false ∧ fREED_MU_CFG_RES_QEN.get r.cfg = 0 ∧ u.val < q.mus.length) ∧
    (∃ (s : State) (u : Fin 4) (q : State) (r : MuRes) (rest : List MuRes), s.reedTo s.nowT = q ∧ (q.mu u.val).results = r :: rest ∧
      (q.mu u.val).snap = true ∧ fREED_MU_CFG_RES_QEN.get r.cfg = 0 ∧ u.val < q.mus.length) ∧
    (∃ (s : State) (u : Fin 4), ((s.reedTo s.nowT).mu u.val).results = []) ∧
    (∃ (s : State) (u : Fin 4), u.val < s.mus.length) ∧
    (∃ (s : State) (mask : Fin 65536) (log2n : Fin 32), (((s.put fREED_CD_CTRL_MASK mask.val).put fREED_CD_CTRL_LOG2N log2n.val).claim
      1 ((0, true) :: inputRes mask.val)).2 = true) ∧
    (∃ (s : State) (mask : Fin 65536) (log2n : Fin 32), (((s.put fREED_CD_CTRL_MASK mask.val).put fREED_CD_CTRL_LOG2N log2n.val).claim
      1 ((0, true) :: inputRes mask.val)).2 = false) ∧
    (∃ (s : State), s.is fREED_CD_STATUS_BUSY = false) ∧
    (∃ (s : State) (meas : List InMeas), s.is fREED_CD_STATUS_BUSY = true ∧ (meas.filter (fun m => s.cd.mask.testBit m.input.val)).any
      (fun m => s.binCheck [m.rankA, m.rankB] (2 ^ s.cd.log2n) != 0) = false ∧ (bitList s.cd.mask 16).any (fun i => (meas.filter
      (fun m => s.cd.mask.testBit m.input.val)).all (fun m => m.input.val != i)) = false) :=
  ⟨⟨{ (State.reset.put fREED_Q_CFG_EN 1 0).put fREED_Q_CFG_FORM 1 0 with reedIn := State.reset.reedIn.set 15 { fifo := [⟨4096, true, 0, 0⟩] } },
    4096, by decide +kernel⟩,
   ⟨{ State.reset with reedIn := State.reset.reedIn.set 15 { fifo := [⟨4096, true, 0, 0⟩] } }, 15, ⟨4096, true, 0, 0⟩,
    by decide +kernel⟩,
   ⟨State.reset, by decide +kernel⟩,
   ⟨{ State.reset with gates := State.reset.gates.set 3 { opens := [(4096, 4)] } }, 3, 4096, by decide +kernel⟩,
   ⟨{ State.reset.put fREED_GATE_CFG_SRC 4 3 with gates := State.reset.gates.set 3 { opens := [(4096, 4)] } }, 3, 4096,
    by decide +kernel⟩,
   ⟨State.reset, 3, 0, by decide +kernel⟩,
   ⟨{ State.reset with gates := State.reset.gates.set 3 { opened := some 0, closes := [wcs 5000], cfg := fREED_GATE_CFG_SRC.set 0 1 } },
    3, wcs 5000, by decide +kernel⟩,
   ⟨{ State.reset with gates := State.reset.gates.set 3 { opened := some 0, closes := [wcs 5000], cfg := fREED_GATE_CFG_SRC.set 0 1 } },
    3, 0, wcs 5000, by decide +kernel⟩,
   ⟨State.reset, 3, 0, by decide +kernel⟩,
   ⟨{ State.reset with gates := State.reset.gates.set 3 { opened := some 0, cfg := fREED_GATE_CFG_REPEAT.set (fREED_GATE_CFG_SRC.set 0 3) 1 } },
    3,
    ({ State.reset with gates := State.reset.gates.set 3 { opened := some 0, cfg := fREED_GATE_CFG_REPEAT.set (fREED_GATE_CFG_SRC.set 0 3) 1 } }
    : State).reedTo State.reset.nowT, by decide +kernel⟩,
   ⟨State.reset.put fREED_GATE_CFG_SRC 3 3, 3, (State.reset.put fREED_GATE_CFG_SRC 3 3).reedTo State.reset.nowT, by decide +kernel⟩,
   ⟨(State.reset.put fREED_GATE_CFG_SRC 3 3).setWord (aREED_GATE_START_LO + 3) (BitVec.ofNat 36 (wcs 64)), 3, ((State.reset.put
    fREED_GATE_CFG_SRC 3 3).setWord (aREED_GATE_START_LO + 3) (BitVec.ofNat 36 (wcs 64))).reedTo State.reset.nowT,
    by decide +kernel⟩,
   ⟨State.reset, 3, by decide +kernel⟩,
   ⟨State.reset.put fREED_GATE_CFG_SRC 4 3, 3, by decide +kernel⟩,
   ⟨State.reset.put fREED_GATE_CFG_SRC 3 3, 3, by decide +kernel⟩,
   ⟨State.reset.put fREED_GATE_CFG_SRC 4 0, 0, by decide +kernel⟩,
   ⟨State.reset.put fREED_GATE_CFG_SRC 3 0, 0, by decide +kernel⟩,
   ⟨{ State.reset with gates := State.reset.gates.set 3 { opened := some 0, cfg := fREED_GATE_CFG_SRC.set 0 3 } }, 3,
    by decide +kernel⟩,
   ⟨State.reset, 3, by decide +kernel⟩,
   ⟨{ State.reset with mus := State.reset.mus.set 3 { results := [⟨0, [5, 6], true, false, true⟩] } }, 3,
    ({ State.reset with mus := State.reset.mus.set 3 { results := [⟨0, [5, 6], true, false, true⟩] } } : State).reedTo
    State.reset.nowT, ⟨0, [5, 6], true, false, true⟩, [], by decide +kernel⟩,
   ⟨{ State.reset with mus := State.reset.mus.set 3 { snap := true, results := [⟨0, [5, 6], true, false, true⟩] } }, 3,
    ({ State.reset with mus := State.reset.mus.set 3 { snap := true, results := [⟨0, [5, 6], true, false, true⟩] } } :
    State).reedTo State.reset.nowT, ⟨0, [5, 6], true, false, true⟩, [], by decide +kernel⟩,
   ⟨State.reset, 3, by decide +kernel⟩,
   ⟨State.reset, 3, by decide +kernel⟩,
   ⟨State.reset, 32769, 18, by decide +kernel⟩,
   ⟨State.reset.put fMAINT_OWNER_WRITER 2 0, 0, 18, by decide +kernel⟩,
   ⟨State.reset, by decide +kernel⟩,
   ⟨{ State.reset.flag fREED_CD_STATUS_BUSY with cd := { log2n := 18 } }, [], by decide +kernel⟩⟩

/-- States and operands that meet the hypotheses of each clause of CalibrationCommands. -/
theorem witness_CalibrationCommands :
    (∃ (s : State) (b : Fin 8), 2 ≤ s.get fWARP_BANK_STATUS_SPARE_STATE b.val ∧ s.get fWARP_BANK_STATUS_SPARE_STATE b.val ≤ 4 ∧
      (s.calCmd 0 b.val 0).get fWARP_BANK_STATUS_SPARE_STATE b.val = s.get fWARP_BANK_STATUS_SPARE_STATE b.val) ∧
    (∃ (s : State) (b : Fin 8), (s.calCmd 0 b.val 0).get fWARP_BANK_STATUS_SPARE_STATE b.val < 2 ∨ 5 ≤ (s.calCmd 0 b.val 0).get
      fWARP_BANK_STATUS_SPARE_STATE b.val) ∧
    (∃ (s : State) (fibres : Fin 4), ((s.calCmd 3 fibres.val 0).claim 5 [(27, true)]).2 = false) ∧
    (∃ (s : State) (fibres : Fin 4), ((s.calCmd 3 fibres.val 0).claim 5 [(27, true)]).2 = true) ∧
    (∃ (s : State), (s.calCmd 4 0 0).calAllOk = false) ∧
    (∃ (s : State), (s.calCmd 4 0 0).calAllOk = true) ∧
    (∃ (s : State), s.cal.phase = 3 ∧ max 1 (s.get fCAL_CFG_HANDOVER_LIMIT) ≤ s.cal.waitMt) ∧
    (∃ (s : State), s.cal.phase ≠ 3 ∨ s.cal.waitMt < max 1 (s.get fCAL_CFG_HANDOVER_LIMIT)) :=
  ⟨⟨State.reset.put fWARP_BANK_STATUS_SPARE_STATE 3 7, 7, by decide +kernel⟩,
   ⟨State.reset, 7, by decide +kernel⟩,
   ⟨State.reset.put fMAINT_OWNER_WRITER 6 27, 3, by decide +kernel⟩,
   ⟨State.reset, 3, by decide +kernel⟩,
   ⟨State.reset.put fSEQ_STATUS_STATE 2 0, by decide +kernel⟩,
   ⟨State.reset, by decide +kernel⟩,
   ⟨{ State.reset with cal := { phase := 3, waitMt := 100000 } }, by decide +kernel⟩,
   ⟨State.reset, by decide +kernel⟩⟩

/-- States and operands that meet the hypotheses of each clause of CalibrationRuns. -/
theorem witness_CalibrationRuns :
    (∃ (s : State) (ranks : List BinHits), s.cal.phase = 1 ∧ s.binCheck ranks (2 ^ 18) = 0 ∧ s.cal.kind = 0) ∧
    (∃ (s : State), s.cal.phase ≠ 1) ∧
    (∃ (s : State), s.cal.phase = 2) ∧
    (∃ (s : State), s.cal.phase = 4) ∧
    (∃ (s : State), s.cal.phase = 0 ∨ s.cal.phase = 1 ∨ s.cal.phase = 3) ∧
    (∃ (s : State) (b : Fin 8), s.safe = false ∧ (nth s.banks b.val).back = none ∧ s.cal.kind = 0 ∧ s.cal.bank = b.val ∧ s.cal.phase =
      3 ∧ s.idleWc (8 * b.val + s.cal.cur) = true) ∧
    (∃ (s : State) (b : Fin 8), s.safe = false ∧ (nth s.banks b.val).back = none ∧ s.cal.kind = 0 ∧ s.cal.bank = b.val ∧ s.cal.phase =
      5 ∧ s.idleWc (8 * b.val + s.cal.cur) = true) ∧
    (∃ (s : State), s.safe = true) ∧
    (∃ (s : State), s.cal.tiLeft = true ∧ s.cal.phase = 8) ∧
    (∃ (s : State), s.cal.tiLeft = false) ∧
    (∃ (s : State) (u : Fin 129) (v : Int), s.loadT u.val = some v ∧ s.unitHeld u.val = false ∧ 104 ≤ u.val ∧ u.val < 120) ∧
    (∃ (s : State) (u : Fin 129) (v : Int), s.loadT u.val = some v ∧ s.unitHeld u.val = false ∧ 72 ≤ u.val ∧ u.val < 104 ∧ s.idleWc
      (64 + (u.val - 72) / 4) = true) ∧
    (∃ (s : State) (u : Fin 129), 72 ≤ u.val ∧ u.val < 104 ∧ s.idleWc (64 + (u.val - 72) / 4) = false) ∧
    (∃ (s : State) (u : Fin 129), s.loadT u.val = none ∨ s.unitHeld u.val = true) ∧
    (∃ (s : State), s.rxCal.phase = 1) ∧
    (∃ (s : State) (r : State), s.rxCal.phase = 1 ∧ s.drifted s.rxCal.t0 = false ∧ s.rxRecord 8 (meanT s.rxCal.t0 s.calT) 0 0 0 0 = r
      ∧ r.spareRole = 4 ∧ r.spare.judge = none) ∧
    (∃ (s : State), s.rxCal.phase = 1 ∧ s.drifted s.rxCal.t0 = false ∧ (s.rxRecord 8 (meanT s.rxCal.t0 s.calT) 0 0 0 0).spareRole ≠ 4) ∧
    (∃ (s : State), s.rxCal.phase ≠ 1) ∧
    (∃ (s : State) (meas : List PosMeas), s.rxCal.phase = 2 ∧ ∀ m ∈ meas, (s.usedPos s.rxCal.cur).contains m.c.val = false) ∧
    (∃ (s : State) (meas : List PosMeas) (m : PosMeas), s.rxCal.phase = 2 ∧ s.usedPos s.rxCal.cur = [0, 1] ∧ meas = [m] ∧ m.c = 1 ∧
      (rxValues [m] m).2 = true ∧ 4 ≤ ((List.range 16).filter (fun n => s.is fPROBE_TONE_CTRL_EN (16 * s.rxCal.cur + n))).length ∧
      (s.calFail (120 + 4 * s.rxCal.cur) 9).drifted s.rxCal.t0 = false) ∧
    (∃ (s : State), s.rxCal.phase ≠ 2) :=
  ⟨⟨{ State.reset with cal := { phase := 1, kind := 0, bank := 7 } }, [], by decide +kernel⟩,
   ⟨State.reset, by decide +kernel⟩,
   ⟨{ State.reset with cal := { phase := 2, kind := 0, bank := 7 } }, by decide +kernel⟩,
   ⟨{ State.reset.put fWARP_BANK_STATUS_SPARE_STATE 2 7 with cal := { phase := 4, kind := 0, bank := 7, cur := 3 } },
    by decide +kernel⟩,
   ⟨State.reset, by decide +kernel⟩,
   ⟨{ State.reset with cal := { phase := 3, kind := 0, bank := 7, cur := 7 } }, 7, by decide +kernel⟩,
   ⟨{ State.reset with cal := { phase := 5, kind := 0, bank := 7, cur := 2 } }, 7, by decide +kernel⟩,
   ⟨State.reset.flag fCLK_STATUS_WARP_SAFE, by decide +kernel⟩,
   ⟨{ State.reset with cal := { phase := 8, kind := 2, tiLeft := true } }, by decide +kernel⟩,
   ⟨State.reset, by decide +kernel⟩,
   ⟨{ State.reset with loads := [(119, 5)] }, 119, 5, by decide +kernel⟩,
   ⟨{ State.reset with loads := [(103, 5)] }, 103, 5, by decide +kernel⟩,
   ⟨{ State.reset with loads := [(72, 5)], outs := State.reset.outs.set 64 { act := some { (default : Pulse) with shown := true } } },
    72, by decide +kernel⟩,
   ⟨State.reset, 0, by decide +kernel⟩,
   ⟨{ State.reset with rxCal := { phase := 1 } }, by decide +kernel⟩,
   ⟨{ State.reset.put fRXW_SPARE_STATUS_ROLE 4 with rxCal := { phase := 1, todo := [0] } },
    ({ State.reset.put fRXW_SPARE_STATUS_ROLE 4 with rxCal := { phase := 1, todo := [0] } } : State).rxRecord 8 (meanT
    ({ phase := 1, todo := [0] } : RxCal).t0 State.reset.calT) 0 0 0 0, by decide +kernel⟩,
   ⟨{ State.reset with rxCal := { phase := 1, todo := [0] } }, by decide +kernel⟩,
   ⟨State.reset, by decide +kernel⟩,
   ⟨{ State.reset with rxCal := { phase := 2, cur := 1 } }, [], by decide +kernel⟩,
   ⟨{ ((((State.reset.put fRXW_LINK_CFG_RXSET 2 1).flag fPROBE_TONE_CTRL_EN 16).flag fPROBE_TONE_CTRL_EN 17).flag fPROBE_TONE_CTRL_EN 18).flag fPROBE_TONE_CTRL_EN 19 with rxCal := { phase := 2, cur := 1 } },
    [⟨1, 0, 4398046511104, 0, 0⟩], ⟨1, 0, 4398046511104, 0, 0⟩, by decide +kernel⟩,
   ⟨State.reset, by decide +kernel⟩⟩

/-- States and operands that meet the hypotheses of each clause of ReceiveLinks. -/
theorem witness_ReceiveLinks :
    (∃ (s : State) (f : Fin 2), s.get fRXW_LINK_STATUS_STATE f.val ≠ 0) ∧
    (∃ (s : State) (f : Fin 2), s.get fRXW_LINK_STATUS_STATE f.val = 0) ∧
    (∃ (s : State) (f : Fin 2) (span : Option Nat), s.get fRXW_LINK_STATUS_STATE f.val ≠ 0 ∧ s.safe = true ∨ clockOk (s.rxPeriod
      f.val) span = false) ∧
    (∃ (s : State) (f : Fin 2) (span : Option Nat), s.get fRXW_LINK_STATUS_STATE f.val = 1 ∧ 1024 ≤ (s.rxOf f.val).good + 64 ∧ s.safe
      = false ∧ clockOk (s.rxPeriod f.val) span = true) ∧
    (∃ (s : State) (f : Fin 2) (span : Option Nat), s.get fRXW_LINK_STATUS_STATE f.val ≠ 0 ∧ s.get fRXW_LINK_STATUS_STATE f.val ≠ 1 ∨
      (s.rxOf f.val).good + 64 < 1024 ∧ s.safe = false ∧ clockOk (s.rxPeriod f.val) span = true) ∧
    (∃ (s : State) (f : Fin 2), s.get fRXW_LINK_STATUS_STATE f.val = 0) ∧
    (∃ (s : State) (f : Fin 2), s.get fRXW_LINK_STATUS_STATE f.val = 2) ∧
    (∃ (s : State) (f : Fin 2), s.get fRXW_LINK_STATUS_STATE f.val ≠ 2) ∧
    (∃ (s : State) (f : Fin 2), s.get fRXW_LINK_STATUS_STATE f.val ≠ 3) ∧
    (∃ (s : State) (f : Fin 2) (obs : RelObs) (l : Fin 6), s.get fRXW_LINK_STATUS_STATE f.val = 3 ∧ obs.late = some l) ∧
    (∃ (s : State) (f : Fin 2) (obs : RelObs) (u v : State), s.get fRXW_LINK_STATUS_STATE f.val = 3 ∧ obs.late = none ∧ obs.crc = 0 ∧
      s.flowTo (s.labelT f.val (s.blockLabel f.val (s.rxOf f.val).next)) = u ∧ u.injActs 14 = none ∧ (u.put
      fRXW_LINK_STATUS_ARRIVE_MIN (min (u.get fRXW_LINK_STATUS_ARRIVE_MIN f.val) obs.margin) f.val).setRx f.val
      { u.rxOf f.val with next := (s.rxOf f.val).next + 1 } = v) :=
  ⟨⟨State.reset.put fRXW_LINK_STATUS_STATE 3 1, 1, by decide +kernel⟩,
   ⟨State.reset, 1, by decide +kernel⟩,
   ⟨State.reset.put fRXW_LINK_STATUS_STATE 3 1, 1, none, by decide +kernel⟩,
   ⟨{ State.reset.put fRXW_LINK_STATUS_STATE 1 1 with rx := [{}, { good := 960 }] }, 1, some (wcs (64 * (State.reset.rxPeriod 1))),
    by decide +kernel⟩,
   ⟨{ State.reset.put fRXW_LINK_STATUS_STATE 1 1 with rx := [{}, { good := 959 }] }, 1, some (wcs (64 * (State.reset.rxPeriod 1))),
    by decide +kernel⟩,
   ⟨State.reset, 1, by decide +kernel⟩,
   ⟨State.reset.put fRXW_LINK_STATUS_STATE 2 1, 1, by decide +kernel⟩,
   ⟨State.reset, 1, by decide +kernel⟩,
   ⟨State.reset, 0, by decide +kernel⟩,
   ⟨State.reset.put fRXW_LINK_STATUS_STATE 3 1, 1, ⟨0, some 5, 0, []⟩, 5, by decide +kernel⟩,
   ⟨State.reset.put fRXW_LINK_STATUS_STATE 3 1, 1, ⟨0, none, 5, []⟩, (State.reset.put fRXW_LINK_STATUS_STATE 3 1).flowTo
    ((State.reset.put fRXW_LINK_STATUS_STATE 3 1).labelT 1 ((State.reset.put fRXW_LINK_STATUS_STATE 3 1).blockLabel 1 0)),
    ((((State.reset.put fRXW_LINK_STATUS_STATE 3 1).flowTo ((State.reset.put fRXW_LINK_STATUS_STATE 3 1).labelT 1
    ((State.reset.put fRXW_LINK_STATUS_STATE 3 1).blockLabel 1 0))).put fRXW_LINK_STATUS_ARRIVE_MIN 0 1).setRx 1
    { State.reset.rxOf 1 with next := 1 }), by decide +kernel⟩⟩

/-- States and operands that meet the hypotheses of each clause of SparesOfReceive. -/
theorem witness_SparesOfReceive :
    (∃ (p : Fin 9), p.val < 8) ∧
    (∃ (s : State) (n : Nat), s.spareRole = 1 ∧ s.spare.len ≤ s.spare.dwell ∧ s.posAfter s.sparePos = some n ∧ s.sparePos < n) ∧
    (∃ (s : State) (n : Nat), s.spareRole = 1 ∧ s.spare.len ≤ s.spare.dwell ∧ s.posAfter s.sparePos = some n ∧ n ≤ s.sparePos) ∧
    (∃ (s : State), s.spareRole = 1 ∧ s.spare.len ≤ s.spare.dwell ∧ s.posAfter s.sparePos = none) ∧
    (∃ (s : State), s.spareRole ≠ 1 ∨ s.spare.dwell < s.spare.len) ∧
    (∃ (s : State), s.spareComparing = false) ∧
    (∃ (s : State) (u : State), s.spareComparing = true ∧ (s.flag fRXW_SPARE_STATUS_MISMATCH).detect 15 s.sparePos 1 8 false s.nowT =
      u ∧ u.posAfter s.sparePos = none) ∧
    (∃ (s : State) (u : State) (n : Nat), s.spareComparing = true ∧ (s.flag fRXW_SPARE_STATUS_MISMATCH).detect 15 s.sparePos 1 8 false
      s.nowT = u ∧ u.posAfter s.sparePos = some n ∧ n ≠ s.sparePos) ∧
    (∃ (s : State) (u : State), s.spareComparing = true ∧ (s.flag fRXW_SPARE_STATUS_MISMATCH).detect 15 s.sparePos 1 8 false s.nowT =
      u ∧ u.posAfter s.sparePos = some s.sparePos) ∧
    (∃ (s : State), s.spare.judge = none) ∧
    (∃ (s : State) (p : Nat), s.spare.judge = some p ∧ s.spareRole ≠ 2 ∨ 4 ≤ s.spare.dwell) ∧
    (∃ (s : State) (recur : Bool) (p : Nat), s.spare.judge = some p ∧ s.spare.first = none ∧ s.spareRole ≠ 2 ∨ 4 ≤ s.spare.dwell ∧
      s.spare.sole = false ∨ recur = true) ∧
    (∃ (s : State) (p : Nat), s.spare.judge = some p ∧ s.spare.first = none ∧ s.spareRole ≠ 2 ∨ 4 ≤ s.spare.dwell ∧ s.spare.sole =
      true) ∧
    (∃ (p : Fin 9), p.val < 8) ∧
    (∃ (s : State) (p : Fin 9), s.spareRole = 3 ∧ s.sparePos = p.val) ∧
    (∃ (s : State) (p : Fin 9), s.spareRole ≠ 3 ∨ s.sparePos ≠ p.val) ∧
    (∃ (p : Fin 9), p.val < 8) ∧
    (∃ (s : State), s.spareRole = 5) ∧
    (∃ (s : State), s.spareRole ≠ 5) :=
  ⟨⟨7, by decide +kernel⟩,
   ⟨{ ((State.reset.setSpare 1 0).flag fRXW_LINK_CTRL_LINK_EN 0).put fRXW_LINK_STATUS_STATE 3 0 with spare := { dwell := 1000000 } },
    (({ ((State.reset.setSpare 1 0).flag fRXW_LINK_CTRL_LINK_EN 0).put fRXW_LINK_STATUS_STATE 3 0 with spare := { dwell := 1000000 } }
    : State).posAfter 0).getD 0, by decide +kernel⟩,
   ⟨{ ((State.reset.setSpare 1 7).flag fRXW_LINK_CTRL_LINK_EN 0).put fRXW_LINK_STATUS_STATE 3 0 with spare := { dwell := 1000000 } },
    (({ ((State.reset.setSpare 1 7).flag fRXW_LINK_CTRL_LINK_EN 0).put fRXW_LINK_STATUS_STATE 3 0 with spare := { dwell := 1000000 } }
    : State).posAfter 7).getD 0, by decide +kernel⟩,
   ⟨{ State.reset.setSpare 1 0 with spare := { dwell := 1000000 } }, by decide +kernel⟩,
   ⟨State.reset, by decide +kernel⟩,
   ⟨State.reset, by decide +kernel⟩,
   ⟨{ State.reset.setSpare 1 0 with now := 100000 }, (({ State.reset.setSpare 1 0 with now := 100000 } : State).flag
    fRXW_SPARE_STATUS_MISMATCH).detect 15 0 1 8 false (wcs 100000), by decide +kernel⟩,
   ⟨{ ((State.reset.setSpare 1 0).flag fRXW_LINK_CTRL_LINK_EN 0).put fRXW_LINK_STATUS_STATE 3 0 with now := 100000 },
    (({ ((State.reset.setSpare 1 0).flag fRXW_LINK_CTRL_LINK_EN 0).put fRXW_LINK_STATUS_STATE 3 0 with now := 100000 } :
    State).flag fRXW_SPARE_STATUS_MISMATCH).detect 15 0 1 8 false (wcs 100000), ((((State.reset.setSpare 1 0).flag
    fRXW_LINK_CTRL_LINK_EN 0).put fRXW_LINK_STATUS_STATE 3 0).posAfter 0).getD 0, by decide +kernel⟩,
   ⟨{ (((((State.reset.setSpare 1 0).flag fRXW_LINK_CTRL_LINK_EN 0).put fRXW_LINK_STATUS_STATE 3 0).putBit fRXW_SLICE_STATUS_FAULTY 1 true).putBit fRXW_SLICE_STATUS_FAULTY 2 true).putBit fRXW_SLICE_STATUS_FAULTY 3 true with now := 100000 },
    (({ (((((State.reset.setSpare 1 0).flag fRXW_LINK_CTRL_LINK_EN 0).put fRXW_LINK_STATUS_STATE 3 0).putBit fRXW_SLICE_STATUS_FAULTY 1 true).putBit fRXW_SLICE_STATUS_FAULTY 2 true).putBit fRXW_SLICE_STATUS_FAULTY 3 true with now := 100000 }
    : State).flag fRXW_SPARE_STATUS_MISMATCH).detect 15 0 1 8 false (wcs 100000), by decide +kernel⟩,
   ⟨State.reset, by decide +kernel⟩,
   ⟨{ State.reset with spare := { judge := some 7 } }, 7, by decide +kernel⟩,
   ⟨{ State.reset with spare := { judge := some 7 } }, false, 7, by decide +kernel⟩,
   ⟨{ State.reset with spare := { judge := some 7, sole := true } }, 7, by decide +kernel⟩,
   ⟨7, by decide +kernel⟩,
   ⟨State.reset.setSpare 3 7, 7, by decide +kernel⟩,
   ⟨State.reset, 8, by decide +kernel⟩,
   ⟨7, by decide +kernel⟩,
   ⟨State.reset.setSpare 5 0, by decide +kernel⟩,
   ⟨State.reset, by decide +kernel⟩⟩

/-- States and operands that meet the hypotheses of each clause of ReceiveAppliesAndErrors. -/
theorem witness_ReceiveAppliesAndErrors :
    (∃ (s : State), (s.put fRXW_APPLY_FIBRE_MASK 2).feedRuns 1 = false) ∧
    (∃ (s : State), (s.put fRXW_APPLY_FIBRE_MASK 1).feedRuns 0 = false) ∧
    (∃ (s : State), s.feedRuns 0 = true) ∧
    (∃ (s : State), s.feedRuns 1 = true) ∧
    (∃ (s : State), s.is fRXW_TAPPLY_CTRL_PENDING = false) ∧
    (∃ (s : State), s.is fRXW_TAPPLY_CTRL_PENDING = true) ∧
    (∃ (s : State) (s' : State), s.cancelDue (fun c => isRxwApply c.target) = some s') ∧
    (∃ (s : State) (f : Fin 2), f.val < s.rx.length) ∧
    (∃ (s : State) (f : Fin 2), earliestOrigin (s.rxOf f.val).origins = none ∨ s.toneRuns = false) ∧
    (∃ (s : State) (f : Fin 2) (o : Nat × Nat × Nat), s.pins = [] ∧ earliestOrigin (s.rxOf f.val).origins = some o ∧ s.toneRuns = true
      ∧ f.val < s.res.length) :=
  ⟨⟨State.reset, by decide +kernel⟩,
   ⟨State.reset, by decide +kernel⟩,
   ⟨((State.reset.put fSEQ_CFG_FIBRE 1 0).put fSEQ_STATUS_STATE 2 0), by decide +kernel⟩,
   ⟨((State.reset.put fSEQ_CFG_FIBRE 2 0).put fSEQ_STATUS_STATE 2 0), by decide +kernel⟩,
   ⟨State.reset, by decide +kernel⟩,
   ⟨State.reset.flag fRXW_TAPPLY_CTRL_PENDING, by decide +kernel⟩,
   ⟨{ State.reset with hsf := [⟨.rxwApply 1, 3, 0, 6⟩] }, State.reset, by decide +kernel⟩,
   ⟨State.reset, 1, by decide +kernel⟩,
   ⟨State.reset, 1, by decide +kernel⟩,
   ⟨{ (State.reset.flag fHIST_MEM_STATUS_READY).put fPWR_STATE_STATE (3 * 2 ^ 18) with rx := [{}, { origins := [(4096, 0, 1)] }] },
    1, (4096, 0, 1), by decide +kernel⟩⟩

/-- States and operands that meet the hypotheses of each clause of HistoryRings. -/
theorem witness_HistoryRings :
    (∃ (s : State) (k : Fin 64) (j : Fin 16), (nth (s.skein k.val).marks j.val).st ≠ 0 ∧ (nth (s.skein k.val).marks j.val).located =
      false) ∧
    (∃ (s : State) (k : Fin 64) (j : Fin 16), (nth (s.skein k.val).marks j.val).st = 0 ∨ (nth (s.skein k.val).marks j.val).located =
      true) ∧
    (∃ (s : State) (k : Fin 64) (q : Nat), s.memcQueue k.val = some q ∧ s.memcRuns = true ∧ s.is fHIST_SK_CFG_EN k.val = true ∧ s.is
      fHIST_SK_CFG_KIND k.val = false) ∧
    (∃ (s : State) (k : Fin 64), s.memcQueue k.val = none) ∧
    (∃ (s : State) (f : Fin 2) (k : Nat) (r : RawFrame) (rest : List RawFrame), (s.rxOf f.val).rawFrames = r :: rest ∧ s.rawSkein
      f.val = some k ∧ s.memcRuns = true) ∧
    (∃ (s : State) (f : Fin 2), (s.rxOf f.val).rawFrames = []) ∧
    (∃ (s : State) (r : Fin 8), s.is fHIST_RD_CTRL_RUN r.val = true) ∧
    (∃ (s : State) (r : Fin 8), s.is fHIST_RD_CTRL_RUN r.val = false ∧ fHIST_RD_CFG_FROM.get (s.word (aHIST_RD_CFG + r.val)) = 3 ∨
      fHIST_RD_CFG_UNTIL.get (s.word (aHIST_RD_CFG + r.val)) = 3) ∧
    (∃ (s : State) (r : Fin 8), s.is fHIST_RD_CTRL_RUN r.val = false ∧ fHIST_RD_CFG_FROM.get (s.word (aHIST_RD_CFG + r.val)) = 1 ∧
      (nth (s.skein (fHIST_RD_CFG_SKEIN.get (s.word (aHIST_RD_CFG + r.val)))).marks (fHIST_RD_CFG_SLOT.get (s.word (aHIST_RD_CFG +
      r.val)))).st = 0) ∧
    (∃ (s : State) (r : Fin 8) (k p : Nat), s.is fHIST_RD_CTRL_RUN r.val = false ∧ fHIST_RD_CFG_SKEIN.get (s.word (aHIST_RD_CFG +
      r.val)) = k ∧ fHIST_RD_CFG_UNTIL.get (s.word (aHIST_RD_CFG + r.val)) ≠ 3 ∧ (fHIST_RD_CFG_FROM.get (s.word (aHIST_RD_CFG +
      r.val)) = 0 ∧ p = (s.skein k).oldest) ∨ (fHIST_RD_CFG_FROM.get (s.word (aHIST_RD_CFG + r.val)) = 1 ∧ (nth (s.skein k).marks
      (fHIST_RD_CFG_SLOT.get (s.word (aHIST_RD_CFG + r.val)))).st ≠ 0 ∧ p = (nth (s.skein k).marks (fHIST_RD_CFG_SLOT.get (s.word
      (aHIST_RD_CFG + r.val)))).start) ∨ (fHIST_RD_CFG_FROM.get (s.word (aHIST_RD_CFG + r.val)) = 2 ∧ p = (s.skein k).firstAt
      (tsOf (s.word (aHIST_RD_T_LO + r.val)) (s.word (aHIST_RD_T_HI + r.val))))) ∧
    (∃ (s : State) (r : Fin 8), s.is fHIST_RD_CTRL_RUN r.val = false ∨ s.memcRuns = false) ∧
    (∃ (s : State) (r : Fin 8) (e : Nat), s.is fHIST_RD_CTRL_RUN r.val = true ∧ s.memcRuns = true ∧ s.readerEnd r.val = some e ∧ e ≤
      (s.word (aHIST_RD_POS + r.val)).toNat) ∧
    (∃ (s : State) (r : Fin 8) (fr : Frame) (v : State), s.is fHIST_RD_CTRL_RUN r.val = true ∧ s.memcRuns = true ∧
      fHIST_RD_CFG_UNTIL.get (s.reader r.val).cfg = 2 ∧ fHIST_RD_CFG_FROM.get (s.reader r.val).cfg ≠ 1 ∧ (s.reader r.val).until_ =
      none ∧ (s.skein (fHIST_RD_CFG_SKEIN.get (s.reader r.val).cfg)).frames.find? (fun f => f.no == (s.word (aHIST_RD_POS +
      r.val)).toNat) = some fr ∧ s.get fBOLT_Q_CFG_PROD (fHIST_RD_CFG_QUEUE.get (s.reader r.val).cfg) = 7 ∧ (s.packet
      (fHIST_RD_CFG_QUEUE.get (s.reader r.val).cfg) (readerPacket (fHIST_RD_CFG_SKEIN.get (s.reader r.val).cfg) (s.reader r.val)
      false fr)).2 = true ∧ v = (s.packet (fHIST_RD_CFG_QUEUE.get (s.reader r.val).cfg) (readerPacket (fHIST_RD_CFG_SKEIN.get
      (s.reader r.val).cfg) (s.reader r.val) false fr)).1) ∧
    (∃ (s : State) (q : Fin 2), s.memcQueue (0x80 + q.val) = none) ∧
    (∃ (s : State) (q : Fin 2) (b : Nat), s.memcQueue (0x80 + q.val) = some b ∧ s.memcRuns = true) :=
  ⟨⟨{ State.reset with skeins := State.reset.skeins.set 63 { marks := List.replicate 16 { st := 1 } } }, 63, 15, by decide +kernel⟩,
   ⟨State.reset, 63, 15, by decide +kernel⟩,
   ⟨{ ((((State.reset.flag fHIST_MEM_STATUS_READY).put fPWR_STATE_STATE (3 * 2 ^ 18 + 3 * 2 ^ 15)).flag fHIST_SK_CFG_EN 5).flag fBOLT_Q_CFG_EN 7).put fBOLT_Q_CFG_CONS 3 7 |>.put fBOLT_Q_CFG_CONS_SEL 5 7 with queues := [(7, { words := [⟨0, true, true, false⟩] })] },
    5, 7, by decide +kernel⟩,
   ⟨State.reset, 0, by decide +kernel⟩,
   ⟨{ (((State.reset.flag fHIST_MEM_STATUS_READY).put fPWR_STATE_STATE (3 * 2 ^ 18)).flag fHIST_SK_CFG_EN 63).flag fHIST_SK_CFG_KIND 63 |>.put fHIST_SK_CFG_FIBRE 1 63 with rx := [{}, { rawFrames := [⟨4096, false, [7]⟩] }] },
    1, 63, ⟨4096, false, [7]⟩, [], by decide +kernel⟩,
   ⟨State.reset, 1, by decide +kernel⟩,
   ⟨State.reset.flag fHIST_RD_CTRL_RUN 7, 7, by decide +kernel⟩,
   ⟨State.reset.put fHIST_RD_CFG_FROM 3 7, 7, by decide +kernel⟩,
   ⟨State.reset.put fHIST_RD_CFG_FROM 1 7, 7, by decide +kernel⟩,
   ⟨State.reset, 7, 0, 0, by decide +kernel⟩,
   ⟨State.reset, 7, by decide +kernel⟩,
   ⟨{ (((State.reset.flag fHIST_MEM_STATUS_READY).put fPWR_STATE_STATE (3 * 2 ^ 18)).flag fHIST_RD_CTRL_RUN 7).setWord (aHIST_RD_POS + 7) 9 with readers := State.reset.readers.set 7 { cfg := fHIST_RD_CFG_UNTIL.set 0 1, until_ := some 9 } },
    7, 9, by decide +kernel⟩,
   ⟨{ (((((State.reset.flag fHIST_MEM_STATUS_READY).put fPWR_STATE_STATE (3 * 2 ^ 18 + 3 * 2 ^ 15)).flag fHIST_RD_CTRL_RUN 7).flag fBOLT_Q_CFG_EN 0).put fBOLT_Q_CFG_PROD 7 0).setWord aBOLT_Q_LIMIT (BitVec.ofNat 36 (2 ^ 35 - 1)) with skeins := State.reset.skeins.set 0 { frames := [⟨0, 0, [7], false, false, [], 0⟩] }, readers := State.reset.readers.set 7 { cfg := fHIST_RD_CFG_UNTIL.set 0 2 } },
    7, ⟨0, 0, [7], false, false, [], 0⟩, _, (by decide +kernel), (by decide +kernel), (by decide +kernel), (by decide +kernel),
    (by decide +kernel), (by decide +kernel), (by decide +kernel), (by decide +kernel), rfl⟩,
   ⟨State.reset, 1, by decide +kernel⟩,
   ⟨{ ((((State.reset.flag fHIST_MEM_STATUS_READY).put fPWR_STATE_STATE (3 * 2 ^ 18 + 3 * 2 ^ 15)).flag fBOLT_Q_CFG_EN 7).put fBOLT_Q_CFG_CONS 3 7).put fBOLT_Q_CFG_CONS_SEL 0x81 7 with queues := [(7, { words := [⟨0, true, true, false⟩] })] },
    1, 7, by decide +kernel⟩⟩

/-- States and operands that meet the hypotheses of each clause of DramUpkeep. -/
theorem witness_DramUpkeep :
    (∃ (s : State), s.is fHIST_MEM_STATUS_READY = false ∧ s.domOn 6 = true ∧ s.gov.queue.any (fun x => x.1 == GovEvt.dram) = false) ∧
    (∃ (s : State), s.is fHIST_MEM_STATUS_READY = true ∨ s.domOn 6 = false ∨ s.gov.queue.any (fun x => x.1 == GovEvt.dram) = true) ∧
    (∃ (s : State), s.is fHIST_MEM_CTRL_SCRUB_EN = true ∧ s.is fHIST_MEM_STATUS_READY = true ∧ s.dramMt ≤ s.get
      fHIST_MEM_CTRL_SCRUB_PERIOD) ∧
    (∃ (s : State), s.is fHIST_MEM_CTRL_SCRUB_EN = true ∧ s.is fHIST_MEM_STATUS_READY = true ∧ s.get fHIST_MEM_CTRL_SCRUB_PERIOD <
      s.dramMt) ∧
    (∃ (s : State), s.is fHIST_MEM_CTRL_SCRUB_EN = false ∨ s.is fHIST_MEM_STATUS_READY = false) ∧
    (∃ (s : State) (page : Fin 16384) (hold : Fin 256), ((s.put fHIST_RT_CTRL_TEST_PAGE page.val).put fHIST_RT_CTRL_HOLD
      hold.val).ownedPage page.val = true) ∧
    (∃ (s : State) (page : Fin 16384) (hold : Fin 256), ((s.put fHIST_RT_CTRL_TEST_PAGE page.val).put fHIST_RT_CTRL_HOLD
      hold.val).ownedPage page.val = false ∧ (((s.put fHIST_RT_CTRL_TEST_PAGE page.val).put fHIST_RT_CTRL_HOLD hold.val).claim 12
      [(31, true)]).2 = true) ∧
    (∃ (s : State) (page : Fin 16384) (hold : Fin 256), ((s.put fHIST_RT_CTRL_TEST_PAGE page.val).put fHIST_RT_CTRL_HOLD
      hold.val).ownedPage page.val = false ∧ (((s.put fHIST_RT_CTRL_TEST_PAGE page.val).put fHIST_RT_CTRL_HOLD hold.val).claim 12
      [(31, true)]).2 = false) ∧
    (∃ (s : State), s.is fHIST_RT_CTRL_BUSY = true ∧ s.rtMt = 0) ∧
    (∃ (s : State), s.is fHIST_RT_CTRL_BUSY = false ∨ 0 < s.rtMt) :=
  ⟨⟨State.reset.put fPWR_STATE_STATE (3 * 2 ^ 18), by decide +kernel⟩,
   ⟨State.reset.flag fHIST_MEM_STATUS_READY, by decide +kernel⟩,
   ⟨(State.reset.flag fHIST_MEM_CTRL_SCRUB_EN).flag fHIST_MEM_STATUS_READY, by decide +kernel⟩,
   ⟨{ (State.reset.flag fHIST_MEM_CTRL_SCRUB_EN).flag fHIST_MEM_STATUS_READY with dramMt := 2 ^ 36 }, by decide +kernel⟩,
   ⟨State.reset, by decide +kernel⟩,
   ⟨(State.reset.flag fHIST_SK_CFG_EN 0).put fHIST_SK_MAP_PAGES_M1 5 0, 0, 255, by decide +kernel⟩,
   ⟨State.reset, 16383, 255, by decide +kernel⟩,
   ⟨State.reset.put fMAINT_OWNER_WRITER 3 31, 16383, 255, by decide +kernel⟩,
   ⟨State.reset.flag fHIST_RT_CTRL_BUSY, by decide +kernel⟩,
   ⟨State.reset, by decide +kernel⟩⟩

/-- States and operands that meet the hypotheses of each clause of BoltProducers. -/
theorem witness_BoltProducers :
    (∃ (s : State) (port : Fin 16) (q : Fin 4096), s.is fBOLT_Q_CFG_EN q.val = false ∨ s.get fBOLT_Q_CFG_PROD q.val ≠ port.val ∨
      s.domOn 5 = false) ∧
    (∃ (s : State) (port : Fin 16) (q : Fin 4096), s.is fBOLT_Q_CFG_EN q.val = true ∧ s.get fBOLT_Q_CFG_PROD q.val = port.val ∧
      s.domOn 5 = true ∧ (s.queue q.val).opn = none ∧ ((s.queue q.val).off + (s.queue q.val).held) % 32 ≠ 0 ∨ s.mayTake q.val =
      true) ∧
    (∃ (s : State) (port : Fin 16) (q : Fin 4096) (pk : List BWord), s.is fBOLT_Q_CFG_EN q.val = true ∧ s.get fBOLT_Q_CFG_PROD q.val =
      port.val ∧ s.domOn 5 = true ∧ (s.queue q.val).opn = some pk ∧ pk.length < 8192 ∧ ((s.queue q.val).off + (s.queue
      q.val).held) % 32 ≠ 0 ∨ s.mayTake q.val = true) ∧
    (∃ (s : State) (port : Fin 16) (q : Fin 4096) (pk : List BWord), s.is fBOLT_Q_CFG_EN q.val = true ∧ s.get fBOLT_Q_CFG_PROD q.val =
      port.val ∧ s.domOn 5 = true ∧ (s.queue q.val).opn = some pk ∧ pk.length < 8192 ∧ pk.any (fun b => b.dmg) = false ∧ ((s.queue
      q.val).off + (s.queue q.val).held) % 32 ≠ 0 ∨ s.mayTake q.val = true) ∧
    (∃ (s : State) (port : Fin 16) (q : Fin 4096) (pk : List BWord), s.is fBOLT_Q_CFG_EN q.val = true ∧ s.get fBOLT_Q_CFG_PROD q.val =
      port.val ∧ s.domOn 5 = true ∧ (s.queue q.val).opn = some pk ∧ pk.length < 8192 ∧ ((s.queue q.val).off + (s.queue
      q.val).held) % 32 ≠ 0 ∨ s.mayTake q.val = true) ∧
    (∃ (s : State) (port : Fin 16) (q : Fin 4096), s.is fBOLT_Q_CFG_EN q.val = true ∧ s.get fBOLT_Q_CFG_PROD q.val = port.val ∧
      s.domOn 5 = true ∧ (s.queue q.val).opn = none ∧ (s.queue q.val).ign = .none_) ∧
    (∃ (s : State), s.is fBOLT_Q_CFG_EN (s.get fBOLT_PUSH_CTRL_QUEUE) = true ∧ s.get fBOLT_Q_CFG_PROD (s.get fBOLT_PUSH_CTRL_QUEUE) =
      4 ∧ (s.queue (s.get fBOLT_PUSH_CTRL_QUEUE)).opn = none ∧ ((s.queue (s.get fBOLT_PUSH_CTRL_QUEUE)).off + (s.queue (s.get
      fBOLT_PUSH_CTRL_QUEUE)).held) % 32 ≠ 0 ∨ s.mayTake (s.get fBOLT_PUSH_CTRL_QUEUE) = true) ∧
    (∃ (s : State), s.get fBOLT_Q_CFG_PROD (s.get fBOLT_PUSH_CTRL_QUEUE) ≠ 4) ∧
    (∃ (s : State), s.get fBOLT_Q_CFG_PROD (s.get fBOLT_PUSH_CTRL_QUEUE) ≠ 4) ∧
    (∃ (s : State), s.get fBOLT_Q_CFG_PROD (s.get fBOLT_PUSH_CTRL_QUEUE) ≠ 4) ∧
    (∃ (s : State), s.get fBOLT_Q_CFG_PROD (s.get fBOLT_PUSH_CTRL_QUEUE) ≠ 4) ∧
    (∃ (s : State), s.is fBOLT_Q_CFG_EN (s.get fBOLT_PUSH_CTRL_QUEUE) = true ∧ s.get fBOLT_Q_CFG_PROD (s.get fBOLT_PUSH_CTRL_QUEUE) =
      4 ∧ (s.queue (s.get fBOLT_PUSH_CTRL_QUEUE)).opn = none ∧ ((s.queue (s.get fBOLT_PUSH_CTRL_QUEUE)).off + (s.queue (s.get
      fBOLT_PUSH_CTRL_QUEUE)).held) % 32 ≠ 0 ∨ s.mayTake (s.get fBOLT_PUSH_CTRL_QUEUE) = true) ∧
    (∃ (s : State) (pk : List BWord), s.is fBOLT_Q_CFG_EN (s.get fBOLT_PUSH_CTRL_QUEUE) = true ∧ s.get fBOLT_Q_CFG_PROD (s.get
      fBOLT_PUSH_CTRL_QUEUE) = 4 ∧ (s.queue (s.get fBOLT_PUSH_CTRL_QUEUE)).opn = some pk ∧ pk.length < 8192 ∧ ((s.queue (s.get
      fBOLT_PUSH_CTRL_QUEUE)).off + (s.queue (s.get fBOLT_PUSH_CTRL_QUEUE)).held) % 32 ≠ 0 ∨ s.mayTake (s.get
      fBOLT_PUSH_CTRL_QUEUE) = true) ∧
    (∃ (s : State) (pk : List BWord), s.is fBOLT_Q_CFG_EN (s.get fBOLT_PUSH_CTRL_QUEUE) = true ∧ s.get fBOLT_Q_CFG_PROD (s.get
      fBOLT_PUSH_CTRL_QUEUE) = 4 ∧ (s.queue (s.get fBOLT_PUSH_CTRL_QUEUE)).opn = some pk ∧ pk.length < 8192 ∧ pk.any (fun b =>
      b.dmg) = false ∧ ((s.queue (s.get fBOLT_PUSH_CTRL_QUEUE)).off + (s.queue (s.get fBOLT_PUSH_CTRL_QUEUE)).held) % 32 ≠ 0 ∨
      s.mayTake (s.get fBOLT_PUSH_CTRL_QUEUE) = true) ∧
    (∃ (s : State), s.get fBOLT_Q_CFG_PROD (s.get fBOLT_PUSH_CTRL_QUEUE) = 4 ∧ (s.queue (s.get fBOLT_PUSH_CTRL_QUEUE)).opn ≠ none) ∧
    (∃ (s : State), s.get fBOLT_Q_CFG_PROD (s.get fBOLT_PUSH_CTRL_QUEUE) ≠ 4 ∨ (s.queue (s.get fBOLT_PUSH_CTRL_QUEUE)).opn = none) :=
  ⟨⟨State.reset, 15, 4095, by decide +kernel⟩,
   ⟨((State.reset.flag fBOLT_Q_CFG_EN 4095).put fBOLT_Q_CFG_PROD 2 4095).put fPWR_STATE_STATE (3 * 2 ^ 15), 2, 4095,
    by decide +kernel⟩,
   ⟨(((State.reset.flag fBOLT_Q_CFG_EN 4095).put fBOLT_Q_CFG_PROD 2 4095).put fPWR_STATE_STATE (3 * 2 ^ 15)).setQueue 4095
    { opn := some [⟨1, true, false, false⟩] }, 2, 4095, [⟨1, true, false, false⟩], by decide +kernel⟩,
   ⟨(((State.reset.flag fBOLT_Q_CFG_EN 4095).put fBOLT_Q_CFG_PROD 2 4095).put fPWR_STATE_STATE (3 * 2 ^ 15)).setQueue 4095
    { opn := some [⟨1, true, false, false⟩] }, 2, 4095, [⟨1, true, false, false⟩], by decide +kernel⟩,
   ⟨(((State.reset.flag fBOLT_Q_CFG_EN 4095).put fBOLT_Q_CFG_PROD 2 4095).put fPWR_STATE_STATE (3 * 2 ^ 15)).setQueue 4095
    { opn := some [⟨1, true, false, false⟩] }, 2, 4095, [⟨1, true, false, false⟩], by decide +kernel⟩,
   ⟨((State.reset.flag fBOLT_Q_CFG_EN 0).put fBOLT_Q_CFG_PROD 1 0).put fPWR_STATE_STATE (3 * 2 ^ 15), 1, 0, by decide +kernel⟩,
   ⟨((State.reset.flag fBOLT_Q_CFG_EN 7).put fBOLT_Q_CFG_PROD 4 7).put fBOLT_PUSH_CTRL_QUEUE 7, by decide +kernel⟩,
   ⟨State.reset, by decide +kernel⟩,
   ⟨State.reset, by decide +kernel⟩,
   ⟨State.reset, by decide +kernel⟩,
   ⟨State.reset, by decide +kernel⟩,
   ⟨((State.reset.flag fBOLT_Q_CFG_EN 7).put fBOLT_Q_CFG_PROD 4 7).put fBOLT_PUSH_CTRL_QUEUE 7, by decide +kernel⟩,
   ⟨(((State.reset.flag fBOLT_Q_CFG_EN 7).put fBOLT_Q_CFG_PROD 4 7).put fBOLT_PUSH_CTRL_QUEUE 7).setQueue 7
    { opn := some [⟨1, true, false, false⟩] }, [⟨1, true, false, false⟩], by decide +kernel⟩,
   ⟨(((State.reset.flag fBOLT_Q_CFG_EN 7).put fBOLT_Q_CFG_PROD 4 7).put fBOLT_PUSH_CTRL_QUEUE 7).setQueue 7
    { opn := some [⟨1, true, false, false⟩] }, [⟨1, true, false, false⟩], by decide +kernel⟩,
   ⟨((State.reset.put fBOLT_Q_CFG_PROD 4 7).put fBOLT_PUSH_CTRL_QUEUE 7).setQueue 7 { opn := some [⟨1, true, false, false⟩] },
    by decide +kernel⟩,
   ⟨State.reset, by decide +kernel⟩⟩

/-- States and operands that meet the hypotheses of each clause of BoltReadsAndFlushes. -/
theorem witness_BoltReadsAndFlushes :
    (∃ (s : State), s.get fBOLT_Q_CFG_CONS (s.get fBOLT_POP_CTRL_QUEUE) ≠ 0 ∨ s.is fBOLT_Q_CFG_EN (s.get fBOLT_POP_CTRL_QUEUE) =
      false) ∧
    (∃ (s : State), s.get fBOLT_Q_CFG_CONS (s.get fBOLT_POP_CTRL_QUEUE) = 0 ∧ s.is fBOLT_Q_CFG_EN (s.get fBOLT_POP_CTRL_QUEUE) = true
      ∧ (s.queue (s.get fBOLT_POP_CTRL_QUEUE)).words = []) ∧
    (∃ (s : State), s.get fBOLT_Q_CFG_CONS (s.get fBOLT_POP_CTRL_QUEUE) = 0 ∧ s.is fBOLT_Q_CFG_EN (s.get fBOLT_POP_CTRL_QUEUE) = true
      ∧ s.visible (s.queue (s.get fBOLT_POP_CTRL_QUEUE)) = 0) ∧
    (∃ (s : State) (b : BWord) (l : List BWord), s.get fBOLT_Q_CFG_CONS (s.get fBOLT_POP_CTRL_QUEUE) = 0 ∧ s.is fBOLT_Q_CFG_EN (s.get
      fBOLT_POP_CTRL_QUEUE) = true ∧ (s.queue (s.get fBOLT_POP_CTRL_QUEUE)).words = b :: l ∧ s.visible (s.queue (s.get
      fBOLT_POP_CTRL_QUEUE)) ≠ 0) ∧
    (∃ (s : State), s.is fBOLT_SCRUB_STATUS_BUSY = false ∧ s.is fBOLT_CFG_SCRUB_EN = true ∧ s.domOn 5 = true ∧ s.resFree 28 true =
      false) ∧
    (∃ (s : State), s.is fBOLT_SCRUB_STATUS_BUSY = false ∧ s.is fBOLT_CFG_SCRUB_EN = true ∧ s.domOn 5 = true ∧ s.resFree 28 true =
      true) ∧
    (∃ (s : State), s.is fBOLT_SCRUB_STATUS_BUSY = true ∧ s.boltMt ≤ 80) ∧
    (∃ (s : State), s.domOn 5 = false) ∧
    (∃ (s : State) (q : Nat), s.domOn 5 = true ∧ s.choose 5 = some q) ∧
    (∃ (s : State) (q : Nat), s.consumerRuns 1 = true ∧ s.choose 1 = some q ∧ s.ethPers = false ∧ s.ringFits (s.get
      fBOLT_Q_CFG_CONS_SEL q) (8 + payBytes (firstPacket (s.queue q).words).length) = true) :=
  ⟨⟨State.reset, by decide +kernel⟩,
   ⟨State.reset.flag fBOLT_Q_CFG_EN 0, by decide +kernel⟩,
   ⟨(((State.reset.flag fBOLT_Q_CFG_EN 4095).put fBOLT_POP_CTRL_QUEUE 4095).put fPWR_STATE_STATE (3 * 2 ^ 15)).setQueue 4095
    { words := [⟨5, true, true, false⟩], hid := [(1, 1)] }, by decide +kernel⟩,
   ⟨(((State.reset.flag fBOLT_Q_CFG_EN 4095).put fBOLT_POP_CTRL_QUEUE 4095).put fPWR_STATE_STATE (3 * 2 ^ 15)).setQueue 4095
    { words := [⟨5, true, false, false⟩, ⟨6, false, true, true⟩] }, ⟨5, true, false, false⟩, [⟨6, false, true, true⟩],
    by decide +kernel⟩,
   ⟨{ (((State.reset.flag fBOLT_CFG_SCRUB_EN).put fPWR_STATE_STATE (3 * 2 ^ 15)).claim 10 [(28, true)]).1 with boltMt := 1 },
    by decide +kernel⟩,
   ⟨(State.reset.flag fBOLT_CFG_SCRUB_EN).put fPWR_STATE_STATE (3 * 2 ^ 15), by decide +kernel⟩,
   ⟨State.reset.flag fBOLT_SCRUB_STATUS_BUSY, by decide +kernel⟩,
   ⟨State.reset, by decide +kernel⟩,
   ⟨(((State.reset.flag fBOLT_Q_CFG_EN 7).put fBOLT_Q_CFG_CONS 5 7).put fPWR_STATE_STATE (3 * 2 ^ 15)).setQueue 7
    { words := [⟨5, true, true, false⟩] }, 7, by decide +kernel⟩,
   ⟨(((((((State.reset.flag fBOLT_Q_CFG_EN 7).put fBOLT_Q_CFG_CONS 1 7).put fBOLT_Q_CFG_CONS_SEL 63 7).put fPWR_STATE_STATE (3 * 2 ^
    15)).flag fHOST_RING_CFG_EN 63).put fHOST_RING_CFG_SIZE 12 63).flag fHOST_STATUS_LINK_UP).setQueue 7
    { words := [⟨5, true, true, false⟩] }, 7, by decide +kernel⟩⟩

/-- States and operands that meet the hypotheses of each clause of ChainPorts. -/
theorem witness_ChainPorts :
    (∃ (s : State) (p : Fin 2), s.chained = true ∧ s.portEn p.val = true ∧ s.get fCHAIN_LINK_STATUS_STATE p.val = 0) ∧
    (∃ (s : State) (p : Fin 2), s.chained = false ∨ s.portEn p.val = false ∨ s.get fCHAIN_LINK_STATUS_STATE p.val ≠ 0) ∧
    (∃ (s : State) (p : Fin 2), s.get fCHAIN_LINK_STATUS_STATE p.val = 1 ∧ s.isHead = false ∧ p.val < s.chain.ports.length ∧
      s.linkDrop p.val = false) ∧
    (∃ (s : State) (p : Fin 2), s.get fCHAIN_LINK_STATUS_STATE p.val ≠ 1) ∧
    (∃ (s : State) (p : Fin 2), s.chained = true ∧ s.portUp p.val = true ∧ p.val < s.chain.ports.length ∧ s.linkDrop p.val = false) ∧
    (∃ (s : State) (p : Fin 2), s.chained = false ∨ s.portUp p.val = false) ∧
    (∃ (s : State) (p : Fin 2) (f : ChFrame) (crc : Fin (2 ^ 32)), s.chained = true ∧ s.portUp p.val = true ∧ f.typ = 5 ∧ f.arg = 0 ∧
      frCrcOk f crc.val = true ∧ frLenOk f = true ∧ getBits (f.words.getD 1 0) 35 1 = p.val ∧ p.val < s.chain.ports.length) ∧
    (∃ (s : State) (p : Fin 2) (f : ChFrame) (crc : Fin (2 ^ 32)), s.chained = true ∧ s.portUp p.val = true ∧ f.typ = 5 ∧ f.arg = 0 ∧
      frCrcOk f crc.val = true ∧ frLenOk f = true ∧ getBits (f.words.getD 1 0) 35 1 ≠ p.val ∧ (s.port p.val).heard = true ∧
      (s.port p.val).waiting = [] ∧ f.words.getD 0 0 = s.word (aCHAIN_NBR_SIG + p.val)) ∧
    (∃ (s : State) (p : Fin 2) (f : ChFrame) (crc : Fin (2 ^ 32)), s.chained = true ∧ s.portUp p.val = true ∧ f.typ = 5 ∧ f.arg = 0 ∧
      frCrcOk f crc.val = false) ∧
    (∃ (s : State) (p : Fin 2) (f : ChFrame) (crc : Fin (2 ^ 32)), s.chained = true ∧ s.portUp p.val = true ∧ f.typ = 5 ∧ f.arg = 0 ∧
      frCrcOk f crc.val = true ∧ frLenOk f = false) ∧
    (∃ (s : State) (p : Fin 2), s.portUp p.val = false) ∧
    (∃ (s : State) (p : Fin 2), s.portUp p.val = true) ∧
    (∃ (s : State) (p : Fin 2), s.portUp p.val = true ∧ s.ring = false ∧ p.val < s.chain.ports.length) ∧
    (∃ (s : State) (p : Fin 2), s.portUp p.val = false) :=
  ⟨⟨(State.reset.flag fCHAIN_CFG_ROLE).flag fCHAIN_CFG_E_EN, 1, by decide +kernel⟩,
   ⟨State.reset, 1, by decide +kernel⟩,
   ⟨(State.reset.flag fCHAIN_CFG_ROLE).put fCHAIN_LINK_STATUS_STATE 1 1, 1, by decide +kernel⟩,
   ⟨State.reset, 1, by decide +kernel⟩,
   ⟨(((State.reset.flag fCHAIN_CFG_ROLE).put fCHAIN_LINK_STATUS_STATE 2 1).setPort 1 { heard := true, credit := 8 }).setPort 1
    { heard := true, hello := 7, seq := 9 }, 1, by decide +kernel⟩,
   ⟨State.reset, 1, by decide +kernel⟩,
   ⟨(((State.reset.flag fCHAIN_CFG_ROLE).put fCHAIN_LINK_STATUS_STATE 2 1).setPort 1 { heard := true, credit := 8 }), 1, ⟨5, 0, 3, 0,
    0, 0, [9, BitVec.ofNat 36 (2 ^ 35)]⟩, Fin.ofNat _ (frCrc (⟨5, 0, 3, 0, 0, 0, [9, BitVec.ofNat 36 (2 ^ 35)]⟩)),
    by decide +kernel⟩,
   ⟨(((State.reset.flag fCHAIN_CFG_ROLE).put fCHAIN_LINK_STATUS_STATE 2 1).setPort 1 { heard := true, credit := 8 }), 1, ⟨5, 0, 3, 0,
    0, 0, [0, BitVec.ofNat 36 (1023 * 2 ^ 25)]⟩, Fin.ofNat _ (frCrc (⟨5, 0, 3, 0, 0, 0, [0, BitVec.ofNat 36 (1023 * 2 ^ 25)]⟩)),
    by decide +kernel⟩,
   ⟨(((State.reset.flag fCHAIN_CFG_ROLE).put fCHAIN_LINK_STATUS_STATE 2 1).setPort 1 { heard := true, credit := 8 }), 1, ⟨5, 0, 3, 0,
    0, 0, [0, 0]⟩, 0, by decide +kernel⟩,
   ⟨(((State.reset.flag fCHAIN_CFG_ROLE).put fCHAIN_LINK_STATUS_STATE 2 1).setPort 1 { heard := true, credit := 8 }), 1, ⟨5, 0, 3, 0,
    0, 0, [0]⟩, Fin.ofNat _ (frCrc (⟨5, 0, 3, 0, 0, 0, [0]⟩)), by decide +kernel⟩,
   ⟨State.reset, 1, by decide +kernel⟩,
   ⟨(((State.reset.flag fCHAIN_CFG_ROLE).put fCHAIN_LINK_STATUS_STATE 2 1).setPort 1 { heard := true, credit := 8 }), 1,
    by decide +kernel⟩,
   ⟨(((State.reset.flag fCHAIN_CFG_ROLE).put fCHAIN_LINK_STATUS_STATE 2 1).setPort 1 { heard := true, credit := 8 }), 1,
    by decide +kernel⟩,
   ⟨State.reset, 0, by decide +kernel⟩⟩

/-- States and operands that meet the hypotheses of each clause of ChainTime. -/
theorem witness_ChainTime :
    (∃ (s : State) (p : Fin 2), s.chained = true ∧ s.portUp p.val = true ∧ (s.port p.val).heard = true ∧ p.val < s.chain.ports.length
      ∧ s.linkDrop p.val = false) ∧
    (∃ (s : State) (p : Fin 2) (f : ChFrame) (crc : Fin (2 ^ 32)) (n t2 t3 : Nat), s.chained = true ∧ s.portUp p.val = true ∧ (s.port
      p.val).heard = true ∧ f.typ = 1 ∧ frCrcOk f crc.val = true ∧ frLenOk f = true ∧ s.isHead = true ∧ (s.port p.val).arr = some
      (n, t2) ∧ (n + 1) % 4096 = f.seq % 4096 ∧ ((s.port p.val).deps.find? (fun e => e.1 == getBits (f.words.getD 4 0) 24 12)).map
      (fun e => e.2) = some t3) ∧
    (∃ (s : State) (th : Rat), s.theta? = some th ∧ s.tstate = 1 ∧ s.isHead = false ∧ s.quiescent = true ∧ s.unlocked = false) ∧
    (∃ (s : State), s.theta? = none ∨ s.tstate ≠ 1 ∨ s.isHead = true ∨ s.quiescent = false ∨ s.unlocked = true) ∧
    (∃ (s : State), s.isHead = true) ∧
    (∃ (s : State), s.isHead = false) ∧
    (∃ (s : State) (p : Fin 2) (f : ChFrame) (crc : Fin (2 ^ 32)), s.chained = true ∧ s.portUp p.val = true ∧ (s.port p.val).heard =
      true ∧ f.typ = 2 ∧ frCrcOk f crc.val = true ∧ frLenOk f = true ∧ f.arg = 0 ∧ f.dst = 1023 ∧ s.seenFrame f = false ∧ s.isHead
      = false ∧ f.words.getD 1 0 ≠ s.word aTB_WC_PER_MT) ∧
    (∃ (s : State) (p : Fin 2) (f : ChFrame) (crc : Fin (2 ^ 32)), s.chained = true ∧ s.portUp p.val = true ∧ (s.port p.val).heard =
      true ∧ f.typ = 2 ∧ frCrcOk f crc.val = true ∧ frLenOk f = true ∧ f.arg = 0 ∧ f.dst = 1023 ∧ s.seenFrame f = false ∧ s.isHead
      = false ∧ f.words.getD 1 0 = s.word aTB_WC_PER_MT) :=
  ⟨⟨(((State.reset.flag fCHAIN_CFG_ROLE).put fCHAIN_LINK_STATUS_STATE 2 1).setPort 1 { heard := true, credit := 8 }), 1,
    by decide +kernel⟩,
   ⟨(((State.reset.flag fCHAIN_CFG_ROLE).put fCHAIN_LINK_STATUS_STATE 2 0).flag fCHAIN_ADDR_HEAD |>.setPort 0
    { heard := true, credit := 8 }).setPort 0 { heard := true, arr := some (4095, 1000), deps := [(7, 500)] }, 0, ⟨1, 0, 3, 0, 0,
    0, [600, 0, 1100, 0, BitVec.ofNat 36 (7 * 2 ^ 24), 0]⟩, Fin.ofNat _ (frCrc (⟨1, 0, 3, 0, 0, 0, [600, 0, 1100, 0, BitVec.ofNat
    36 (7 * 2 ^ 24), 0]⟩)), 4095, 1000, 500, by decide +kernel⟩,
   ⟨({ (((((State.reset.flag fCHAIN_CFG_ROLE).put fCHAIN_LINK_STATUS_STATE 2 0).setPort 0 { heard := true, credit := 8 }).setPort 0 { heard := true, theta := 5000 }).flag fCHAIN_THETA_VALID 0).put fCHAIN_STATUS_TSTATE 1 with now := 3 }
    : State), 5000, by decide +kernel⟩,
   ⟨State.reset, by decide +kernel⟩,
   ⟨(((State.reset.flag fCHAIN_CFG_ROLE).put fCHAIN_LINK_STATUS_STATE 2 0).flag fCHAIN_ADDR_HEAD |>.setPort 0
    { heard := true, credit := 8 }), by decide +kernel⟩,
   ⟨State.reset, by decide +kernel⟩,
   ⟨(((State.reset.flag fCHAIN_CFG_ROLE).put fCHAIN_LINK_STATUS_STATE 2 1).setPort 1 { heard := true, credit := 8 }), 1, ⟨2, 1023, 3,
    0, 0, 0, [BitVec.ofNat 36 (4095 * 2 ^ 14), 77]⟩, Fin.ofNat _ (frCrc (⟨2, 1023, 3, 0, 0, 0, [BitVec.ofNat 36 (4095 * 2 ^ 14),
    77]⟩)), by decide +kernel⟩,
   ⟨(((State.reset.flag fCHAIN_CFG_ROLE).put fCHAIN_LINK_STATUS_STATE 2 1).setPort 1 { heard := true, credit := 8 }), 1, ⟨2, 1023, 3,
    0, 0, 0, [BitVec.ofNat 36 (512 * 2 ^ 26 + 1 * 2 ^ 13), State.reset.word aTB_WC_PER_MT]⟩, Fin.ofNat _ (frCrc (⟨2, 1023, 3, 0,
    0, 0, [BitVec.ofNat 36 (512 * 2 ^ 26 + 1 * 2 ^ 13), State.reset.word aTB_WC_PER_MT]⟩)), by decide +kernel⟩⟩

/-- States and operands that meet the hypotheses of each clause of ChainLinksAndEnumeration. -/
theorem witness_ChainLinksAndEnumeration :
    (∃ (s : State) (p : Fin 2) (f : ChFrame) (crc : Fin (2 ^ 32)), s.chained = true ∧ s.portUp p.val = true ∧ (s.port p.val).heard =
      true ∧ f.typ = 2 ∧ frCrcOk f crc.val = true ∧ frLenOk f = true ∧ f.arg = 1 ∧ f.dst = 1023 ∧ s.seenFrame f = false ∧
      s.chain.broken.contains (linkOf f) = false) ∧
    (∃ (s : State) (p : Fin 2) (f : ChFrame) (crc : Fin (2 ^ 32)), s.chained = true ∧ s.portUp p.val = true ∧ (s.port p.val).heard =
      true ∧ f.typ = 2 ∧ frCrcOk f crc.val = true ∧ frLenOk f = true ∧ f.arg = 2 ∧ f.dst = 1023 ∧ s.seenFrame f = false ∧
      s.chain.broken = [linkOf f]) ∧
    (∃ (s : State) (p : Fin 2), (s.port p.val).heal = none ∨ s.portUp p.val = false) ∧
    (∃ (s : State) (p : Fin 2) (n : Nat), (s.port p.val).heal = some n ∧ n < s.get fCHAIN_TT_CFG_HEAL_HOLD) ∧
    (∃ (s : State) (p : Fin 2) (n : Nat), (s.port p.val).heal = some n ∧ s.get fCHAIN_TT_CFG_HEAL_HOLD ≤ n ∧ s.portUp p.val = true ∧
      p.val < s.chain.ports.length) ∧
    (∃ (s : State) (p : Fin 2) (f : ChFrame) (crc : Fin (2 ^ 32)), s.chained = true ∧ s.portUp p.val = true ∧ (s.port p.val).heard =
      true ∧ f.typ = 2 ∧ frCrcOk f crc.val = true ∧ frLenOk f = true ∧ f.arg = 3 ∧ f.dst = 1023 ∧ s.seenFrame f = false ∧ s.isHead
      = true ∧ s.is fCHAIN_ENUM_CMD_BUSY = false ∧ s.is fCHAIN_LINK_STATUS_CABLE_ERR 0 = false ∧ s.is fCHAIN_LINK_STATUS_CABLE_ERR
      1 = false) ∧
    (∃ (s : State) (p : Fin 2) (f : ChFrame) (crc : Fin (2 ^ 32)), s.chained = true ∧ s.portUp p.val = true ∧ (s.port p.val).heard =
      true ∧ f.typ = 2 ∧ frCrcOk f crc.val = true ∧ frLenOk f = true ∧ f.arg = 3 ∧ f.dst = 1023 ∧ s.seenFrame f = false ∧ s.isHead
      = false) ∧
    (∃ (s : State), s.isHead = false) ∧
    (∃ (s : State), s.isHead = true ∧ s.is fCHAIN_ENUM_CMD_BUSY = true) ∧
    (∃ (s : State), s.isHead = true ∧ s.is fCHAIN_ENUM_CMD_BUSY = false ∧ s.is fCHAIN_LINK_STATUS_CABLE_ERR 1 = true) ∧
    (∃ (s : State), s.isHead = true ∧ s.is fCHAIN_ENUM_CMD_BUSY = false ∧ s.is fCHAIN_LINK_STATUS_CABLE_ERR 0 = false ∧ s.is
      fCHAIN_LINK_STATUS_CABLE_ERR 1 = false ∧ s.portUp 0 = true ∨ s.portUp 1 = true) ∧
    (∃ (s : State) (p : Fin 2) (f : ChFrame) (crc : Fin (2 ^ 32)), s.chained = true ∧ s.portUp p.val = true ∧ (s.port p.val).heard =
      true ∧ f.typ = 5 ∧ f.arg = 1 ∧ frCrcOk f crc.val = false) ∧
    (∃ (s : State) (p : Fin 2) (f : ChFrame) (crc : Fin (2 ^ 32)), s.chained = true ∧ s.portUp p.val = true ∧ (s.port p.val).heard =
      true ∧ f.typ = 5 ∧ frCrcOk f crc.val = true ∧ frLenOk f = true ∧ f.arg = 1 ∧ f.dst = 1023 ∧ s.isHead = false ∧ s.portUp (1 -
      p.val) = true) ∧
    (∃ (s : State), s.chain.walk ≠ none) ∧
    (∃ (s : State), s.chain.walk = none) ∧
    (∃ (s : State) (p : Fin 2) (f : ChFrame) (crc : Fin (2 ^ 32)) (e : Word × Word), s.chained = true ∧ s.portUp p.val = true ∧
      (s.port p.val).heard = true ∧ f.typ = 5 ∧ frCrcOk f crc.val = true ∧ frLenOk f = true ∧ f.arg = 2 ∧ f.dst = 1023 ∧
      s.seenFrame f = false ∧ (pairs (f.words.drop 1)).find? (fun e => e.1 == s.sig) = some e) ∧
    (∃ (s : State) (p : Fin 2) (f : ChFrame) (crc : Fin (2 ^ 32)), s.chained = true ∧ s.portUp p.val = true ∧ (s.port p.val).heard =
      true ∧ f.typ = 5 ∧ frCrcOk f crc.val = true ∧ frLenOk f = true ∧ f.arg = 2 ∧ f.dst = 1023 ∧ s.seenFrame f = false ∧ (pairs
      (f.words.drop 1)).find? (fun e => e.1 == s.sig) = none) :=
  ⟨⟨(((State.reset.flag fCHAIN_CFG_ROLE).put fCHAIN_LINK_STATUS_STATE 2 1).setPort 1 { heard := true, credit := 8 }), 1, ⟨2, 1023, 3,
    0, 0, 1, [BitVec.ofNat 36 (5 * 2 ^ 26 + 6 * 2 ^ 16)]⟩, Fin.ofNat _ (frCrc (⟨2, 1023, 3, 0, 0, 1, [BitVec.ofNat 36 (5 * 2 ^ 26
    + 6 * 2 ^ 16)]⟩)), by decide +kernel⟩,
   ⟨({ (((State.reset.flag fCHAIN_CFG_ROLE).put fCHAIN_LINK_STATUS_STATE 2 1).setPort 1 { heard := true, credit := 8 }).flag fCHAIN_STATUS_FAILOVER with chain := { ((((State.reset.flag fCHAIN_CFG_ROLE).put fCHAIN_LINK_STATUS_STATE 2 1).setPort 1 { heard := true, credit := 8 })).chain with broken := [(5, 6)] } }
    : State), 1, ⟨2, 1023, 3, 0, 0, 2, [BitVec.ofNat 36 (5 * 2 ^ 26 + 6 * 2 ^ 16)]⟩, Fin.ofNat _ (frCrc (⟨2, 1023, 3, 0, 0, 2,
    [BitVec.ofNat 36 (5 * 2 ^ 26 + 6 * 2 ^ 16)]⟩)), by decide +kernel⟩,
   ⟨State.reset, 1, by decide +kernel⟩,
   ⟨((((State.reset.flag fCHAIN_CFG_ROLE).put fCHAIN_LINK_STATUS_STATE 2 1).setPort 1 { heard := true, credit := 8 }).put
    fCHAIN_TT_CFG_HEAL_HOLD 5).setPort 1 { heard := true, heal := some 4 }, 1, 4, by decide +kernel⟩,
   ⟨(((State.reset.flag fCHAIN_CFG_ROLE).put fCHAIN_LINK_STATUS_STATE 2 1).setPort 1 { heard := true, credit := 8 }).setPort 1
    { heard := true, heal := some 100000 }, 1, 100000, by decide +kernel⟩,
   ⟨(((State.reset.flag fCHAIN_CFG_ROLE).put fCHAIN_LINK_STATUS_STATE 2 0).flag fCHAIN_ADDR_HEAD |>.setPort 0
    { heard := true, credit := 8 }), 0, ⟨2, 1023, 3, 0, 0, 3, [0]⟩, Fin.ofNat _ (frCrc (⟨2, 1023, 3, 0, 0, 3, [0]⟩)),
    by decide +kernel⟩,
   ⟨(((State.reset.flag fCHAIN_CFG_ROLE).put fCHAIN_LINK_STATUS_STATE 2 1).setPort 1 { heard := true, credit := 8 }), 1, ⟨2, 1023, 3,
    0, 0, 3, [0]⟩, Fin.ofNat _ (frCrc (⟨2, 1023, 3, 0, 0, 3, [0]⟩)), by decide +kernel⟩,
   ⟨State.reset, by decide +kernel⟩,
   ⟨(((State.reset.flag fCHAIN_CFG_ROLE).put fCHAIN_LINK_STATUS_STATE 2 0).flag fCHAIN_ADDR_HEAD |>.setPort 0
    { heard := true, credit := 8 }).flag fCHAIN_ENUM_CMD_BUSY, by decide +kernel⟩,
   ⟨(((State.reset.flag fCHAIN_CFG_ROLE).put fCHAIN_LINK_STATUS_STATE 2 0).flag fCHAIN_ADDR_HEAD |>.setPort 0
    { heard := true, credit := 8 }).flag fCHAIN_LINK_STATUS_CABLE_ERR 1, by decide +kernel⟩,
   ⟨(((State.reset.flag fCHAIN_CFG_ROLE).put fCHAIN_LINK_STATUS_STATE 2 0).flag fCHAIN_ADDR_HEAD |>.setPort 0
    { heard := true, credit := 8 }), by decide +kernel⟩,
   ⟨(((State.reset.flag fCHAIN_CFG_ROLE).put fCHAIN_LINK_STATUS_STATE 2 1).setPort 1 { heard := true, credit := 8 }), 1, ⟨5, 1023, 3,
    0, 0, 1, [1, 2]⟩, 0, by decide +kernel⟩,
   ⟨(((State.reset.flag fCHAIN_CFG_ROLE).put fCHAIN_LINK_STATUS_STATE 2 1).setPort 1 { heard := true, credit := 8 }).put
    fCHAIN_LINK_STATUS_STATE 2 0, 1, ⟨5, 1023, 3, 0, 0, 1, [1, 2]⟩, Fin.ofNat _ (frCrc (⟨5, 1023, 3, 0, 0, 1, [1, 2]⟩)),
    by decide +kernel⟩,
   ⟨({ State.reset with chain := { State.reset.chain with walk := some {} } } : State), by decide +kernel⟩,
   ⟨State.reset, by decide +kernel⟩,
   ⟨{ (((State.reset.flag fCHAIN_CFG_ROLE).put fCHAIN_LINK_STATUS_STATE 2 1).setPort 1 { heard := true, credit := 8 }) with regs := ((((State.reset.flag fCHAIN_CFG_ROLE).put fCHAIN_LINK_STATUS_STATE 2 1).setPort 1 { heard := true, credit := 8 })).regs ++ [(aCHAIN_SIG, 7)] },
    1, ⟨5, 1023, 3, 0, 0, 2, [BitVec.ofNat 36 (512 * 2 ^ 26), 7, BitVec.ofNat 36 (511 * 2 ^ 26 + 3 * 2 ^ 16)]⟩, Fin.ofNat _ (frCrc
    (⟨5, 1023, 3, 0, 0, 2, [BitVec.ofNat 36 (512 * 2 ^ 26), 7, BitVec.ofNat 36 (511 * 2 ^ 26 + 3 * 2 ^ 16)]⟩)), (7, BitVec.ofNat
    36 (511 * 2 ^ 26 + 3 * 2 ^ 16)), by decide +kernel⟩,
   ⟨(((State.reset.flag fCHAIN_CFG_ROLE).put fCHAIN_LINK_STATUS_STATE 2 1).setPort 1 { heard := true, credit := 8 }).flag
    fCHAIN_ADDR_PLACED, 1, ⟨5, 1023, 3, 0, 0, 2, [BitVec.ofNat 36 (512 * 2 ^ 26)]⟩, Fin.ofNat _ (frCrc (⟨5, 1023, 3, 0, 0, 2,
    [BitVec.ofNat 36 (512 * 2 ^ 26)]⟩)), by decide +kernel⟩⟩

/-- States and operands that meet the hypotheses of each clause of ChainFramesDelivered. -/
theorem witness_ChainFramesDelivered :
    (∃ (s : State) (p : Fin 2) (f : ChFrame) (crc : Fin (2 ^ 32)), s.chained = true ∧ s.portUp p.val = true ∧ (s.port p.val).heard =
      true ∧ f.typ = 3 ∧ frCrcOk f crc.val = true ∧ frLenOk f = true ∧ s.placed = true ∧ f.dst = s.addr ∧ f.dst ≠ 1023 ∧ s.ring =
      false) ∧
    (∃ (s : State), s.chained = false) ∧
    (∃ (s : State) (dst : Fin 1024), s.chained = true ∧ s.placed = true ∧ dst.val = s.addr ∧ dst.val ≠ 1023) ∧
    (∃ (s : State) (p : Fin 2) (f : ChFrame) (crc : Fin (2 ^ 32)), s.chained = true ∧ s.portUp p.val = true ∧ (s.port p.val).heard =
      true ∧ f.typ = 6 ∧ frCrcOk f crc.val = true ∧ frLenOk f = true ∧ s.placed = true ∧ f.dst = s.addr ∧ f.dst ≠ 1023 ∧
      s.frameWaits f = false ∧ bitOf (f.words.getD 0 0) 11 = false ∧ bitOf (f.words.getD 0 0) 10 = false) ∧
    (∃ (s : State) (p : Fin 2) (f : ChFrame) (crc : Fin (2 ^ 32)), s.chained = true ∧ s.portUp p.val = true ∧ (s.port p.val).heard =
      true ∧ f.typ = 7 ∧ frCrcOk f crc.val = true ∧ frLenOk f = true ∧ s.placed = true ∧ f.dst = s.addr ∧ f.dst ≠ 1023 ∧
      s.frameWaits f = false) ∧
    (∃ (s : State) (p : Fin 2) (f : ChFrame) (crc : Fin (2 ^ 32)), s.chained = true ∧ s.portUp p.val = true ∧ (s.port p.val).heard =
      true ∧ f.typ = 8 ∧ frCrcOk f crc.val = true ∧ frLenOk f = true ∧ s.placed = true ∧ f.dst = s.addr ∧ f.dst ≠ 1023 ∧
      s.host.waits.find? (fun x => x.seq == getBits (f.words.getD 0 0) 24 12) = none) ∧
    (∃ (s : State) (p : Fin 2) (f : ChFrame) (crc : Fin (2 ^ 32)) (y : RemoteWait), s.chained = true ∧ s.portUp p.val = true ∧ (s.port
      p.val).heard = true ∧ f.typ = 8 ∧ frCrcOk f crc.val = true ∧ frLenOk f = true ∧ s.placed = true ∧ f.dst = s.addr ∧ f.dst ≠
      1023 ∧ s.host.waits.find? (fun x => x.seq == getBits (f.words.getD 0 0) 24 12) = some y ∧ getBits (f.words.getD 0 0) 20 4 =
      0 ∧ y.eth = none ∧ y.write = false) ∧
    (∃ (s : State) (p : Fin 2) (f : ChFrame) (crc : Fin (2 ^ 32)), s.chained = true ∧ s.portUp p.val = true ∧ (s.port p.val).heard =
      true ∧ f.typ = 9 ∧ frCrcOk f crc.val = true ∧ frLenOk f = true ∧ s.placed = true ∧ f.dst = s.addr ∧ f.dst ≠ 1023 ∧
      f.arg.testBit 3 = false ∧ s.is fCHAIN_RXMAP_EN (f.arg / 16 % 64) = true) ∧
    (∃ (s : State) (p : Fin 2) (f : ChFrame) (crc : Fin (2 ^ 32)), s.frameWaits f = false ∧ s.chained = true ∧ s.portUp p.val = true ∧
      (s.port p.val).heard = true ∧ f.typ = 6 ∧ frCrcOk f crc.val = false) ∧
    (∃ (s : State) (p : Fin 2) (f : ChFrame), s.chained = true ∧ s.portUp p.val = true ∧ frLenOk f = false ∧ 4 ≤ f.typ ∧ f.typ ≤ 9) ∧
    (∃ (s : State) (p : Fin 2) (f : ChFrame), s.chained = true ∧ s.portUp p.val = true ∧ frLenOk f = false ∧ f.typ < 4 ∨ 9 < f.typ) ∧
    (∃ (s : State) (p : Fin 2), s.is fCHAIN_MOD_CTRL_BUSY p.val = true ∧ s.is fCHAIN_MOD_CTRL_RW p.val = false) ∧
    (∃ (s : State) (p : Fin 2), s.is fCHAIN_MOD_CTRL_BUSY p.val = true) ∧
    (∃ (s : State) (p : Fin 2), s.is fCHAIN_MOD_CTRL_BUSY p.val = false) :=
  ⟨⟨((((State.reset.flag fCHAIN_CFG_ROLE).put fCHAIN_LINK_STATUS_STATE 2 1).setPort 1 { heard := true, credit := 8 }).flag
    fCHAIN_ADDR_PLACED).put fCHAIN_ADDR_ADDR 9, 1, ⟨3, 9, 3, 0, 0, 0, [1, 2, 3]⟩, Fin.ofNat _ (frCrc (⟨3, 9, 3, 0, 0, 0, [1, 2,
    3]⟩)), by decide +kernel⟩,
   ⟨State.reset, by decide +kernel⟩,
   ⟨((((State.reset.flag fCHAIN_CFG_ROLE).put fCHAIN_LINK_STATUS_STATE 2 1).setPort 1 { heard := true, credit := 8 }).flag
    fCHAIN_ADDR_PLACED).put fCHAIN_ADDR_ADDR 9, 9, by decide +kernel⟩,
   ⟨((((State.reset.flag fCHAIN_CFG_ROLE).put fCHAIN_LINK_STATUS_STATE 2 1).setPort 1 { heard := true, credit := 8 }).flag
    fCHAIN_ADDR_PLACED).put fCHAIN_ADDR_ADDR 9, 1, ⟨6, 9, 3, 0, 0, 0, [BitVec.ofNat 36 (aCHAIN_TRIG_LO * 2 ^ 12), 2]⟩, Fin.ofNat _
    (frCrc (⟨6, 9, 3, 0, 0, 0, [BitVec.ofNat 36 (aCHAIN_TRIG_LO * 2 ^ 12), 2]⟩)), by decide +kernel⟩,
   ⟨((((State.reset.flag fCHAIN_CFG_ROLE).put fCHAIN_LINK_STATUS_STATE 2 1).setPort 1 { heard := true, credit := 8 }).flag
    fCHAIN_ADDR_PLACED).put fCHAIN_ADDR_ADDR 9, 1, ⟨7, 9, 3, 0, 0, 0, [BitVec.ofNat 36 (aCHAIN_TRIG_LO * 2 ^ 12 + 1)]⟩, Fin.ofNat
    _ (frCrc (⟨7, 9, 3, 0, 0, 0, [BitVec.ofNat 36 (aCHAIN_TRIG_LO * 2 ^ 12 + 1)]⟩)), by decide +kernel⟩,
   ⟨((((State.reset.flag fCHAIN_CFG_ROLE).put fCHAIN_LINK_STATUS_STATE 2 1).setPort 1 { heard := true, credit := 8 }).flag
    fCHAIN_ADDR_PLACED).put fCHAIN_ADDR_ADDR 9, 1, ⟨8, 9, 3, 0, 0, 0, [0, 5]⟩, Fin.ofNat _ (frCrc (⟨8, 9, 3, 0, 0, 0, [0, 5]⟩)),
    by decide +kernel⟩,
   ⟨({ ((((State.reset.flag fCHAIN_CFG_ROLE).put fCHAIN_LINK_STATUS_STATE 2 1).setPort 1 { heard := true, credit := 8 }).flag fCHAIN_ADDR_PLACED).put fCHAIN_ADDR_ADDR 9 with host := { State.reset.host with waits := [⟨4, none, false, 2, 0⟩, ⟨5, none, false, 0, 0⟩] } }
    : State), 1, ⟨8, 9, 3, 0, 0, 0, [BitVec.ofNat 36 (4 * 2 ^ 24), 5 * 2 ^ 32]⟩, Fin.ofNat _ (frCrc (⟨8, 9, 3, 0, 0, 0,
    [BitVec.ofNat 36 (4 * 2 ^ 24), 5 * 2 ^ 32]⟩)), ⟨4, none, false, 2, 0⟩, by decide +kernel⟩,
   ⟨((((((((State.reset.flag fCHAIN_CFG_ROLE).put fCHAIN_LINK_STATUS_STATE 2 1).setPort 1 { heard := true, credit := 8 }).flag
    fCHAIN_ADDR_PLACED).put fCHAIN_ADDR_ADDR 9).flag fCHAIN_RXMAP_EN 63).put fCHAIN_RXMAP_QUEUE 4 63).flag fBOLT_Q_CFG_EN 4).put
    fPWR_STATE_STATE (3 * 2 ^ 15), 1, ⟨9, 9, 3, 0, 0, 1008, [0, 5]⟩, Fin.ofNat _ (frCrc (⟨9, 9, 3, 0, 0, 1008, [0, 5]⟩)),
    by decide +kernel⟩,
   ⟨((((State.reset.flag fCHAIN_CFG_ROLE).put fCHAIN_LINK_STATUS_STATE 2 1).setPort 1 { heard := true, credit := 8 }).flag
    fCHAIN_ADDR_PLACED).put fCHAIN_ADDR_ADDR 9, 1, ⟨6, 9, 3, 0, 0, 0, [BitVec.ofNat 36 (aCHAIN_TRIG_LO * 2 ^ 12), 2]⟩, 0,
    by decide +kernel⟩,
   ⟨(((State.reset.flag fCHAIN_CFG_ROLE).put fCHAIN_LINK_STATUS_STATE 2 1).setPort 1 { heard := true, credit := 8 }), 1, ⟨4, 9, 3, 0,
    0, 0, [0]⟩, by decide +kernel⟩,
   ⟨(((State.reset.flag fCHAIN_CFG_ROLE).put fCHAIN_LINK_STATUS_STATE 2 1).setPort 1 { heard := true, credit := 8 }), 1, ⟨15, 9, 3,
    0, 0, 0, [0]⟩, by decide +kernel⟩,
   ⟨State.reset.flag fCHAIN_MOD_CTRL_BUSY 1, 1, by decide +kernel⟩,
   ⟨State.reset.flag fCHAIN_MOD_CTRL_BUSY 1, 1, by decide +kernel⟩,
   ⟨State.reset, 1, by decide +kernel⟩⟩

/-- States and operands that meet the hypotheses of each clause of RegisterAccess. -/
theorem witness_RegisterAccess :
    (∃ (s : State) (path : Fin 6) (a : Fin 16777216), s.pathOpen path.val = true ∧ s.mustWait a.val = false ∧ (regAt a.val).map (fun r
      => s.domAccess r.dom) = some true) ∧
    (∃ (s : State) (path : Fin 6) (a : Fin 16777216), s.pathOpen path.val = true ∧ s.mustWait a.val = false ∧ (regAt a.val).map (fun r
      => s.domAccess r.dom) = some false) ∧
    (∃ (s : State) (path : Fin 6) (a : Fin 16777216), s.pathOpen path.val = true ∧ s.mustWait a.val = false ∧ regAt a.val = none ∧
      path.val ≠ 4) ∧
    (∃ (s : State) (a : Fin 16777216), s.mustWait a.val = false ∧ regAt a.val = none) ∧
    (∃ (s : State) (a : Fin 16777216), s.pathOpen 0 = true ∧ s.mustWait a.val = false) ∧
    (∃ (s : State) (path : Fin 6) (a : Fin 16777216), s.pathOpen path.val = false ∨ s.mustWait a.val = true) ∧
    (∃ (s : State) (path : Fin 6) (a : Fin 16777216), path.val ≠ 0 ∧ s.pathOpen path.val = true ∧ s.mustWait a.val = false ∧ (regAt
      a.val).map (fun r => s.domAccess r.dom) = some true) ∧
    (∃ (s : State) (a : Fin 16777216) (size : Fin 4), size.val ≠ 3 ∧ s.pathOpen 0 = true ∧ s.mustWait a.val = false ∧ (regAt
      a.val).map (fun r => s.domAccess r.dom) = some true) ∧
    (∃ (s : State) (path : Fin 6) (a : Fin 16777216), path.val ≠ 0 ∧ s.pathOpen path.val = true ∧ s.mustWait a.val = false ∧ (regAt
      a.val).map (fun r => s.domAccess r.dom) = some false) ∧
    (∃ (s : State) (a : Fin 16777216) (size : Fin 4), size.val ≠ 3 ∧ s.pathOpen 0 = true ∧ s.mustWait a.val = false ∧ (regAt
      a.val).map (fun r => s.domAccess r.dom) = some false) ∧
    (∃ (s : State) (path : Fin 6) (a : Fin 16777216), path.val ≠ 0 ∧ path.val ≠ 4 ∧ s.pathOpen path.val = true ∧ s.mustWait a.val =
      false ∧ regAt a.val = none) ∧
    (∃ (s : State) (a : Fin 16777216), s.mustWait a.val = false ∧ regAt a.val = none) ∧
    (∃ (s : State) (a : Fin 16777216), s.pathOpen 0 = true ∧ s.mustWait a.val = false) ∧
    (∃ (s : State) (a : Fin 16777216), a.val = aBOLT_POOL_LOW ∧ (regAt a.val).map (fun r => s.domAccess r.dom) = some true ∧
      s.readEffect a.val = s) ∧
    (∃ (s : State) (path : Fin 6) (a : Fin 16777216), s.pathOpen path.val = false ∨ s.mustWait a.val = true) ∧
    (∃ (s : State) (a : Fin 16777216) (ws : List Word), s.runWaits a.val ws.length = false) ∧
    (∃ (s : State) (a : Fin 16777216) (n : Fin 16777216), s.runWaits a.val n.val = false) ∧
    (∃ (s : State) (a : Fin 16777216) (ws : List Word), s.runWaits a.val ws.length = true) ∧
    (∃ (s : State) (a : Fin 16777216) (n : Fin 16777216), s.runWaits a.val n.val = true) ∧
    (∃ (s : State) (a : Fin 16777216), s.mustWait a.val = false) ∧
    (∃ (s : State) (a : Fin 16777216), s.mustWait a.val = false ∧ (regAt a.val).map (fun r => s.domAccess r.dom) = some true) ∧
    (∃ (s : State) (a : Fin 16777216), s.mustWait a.val = true) :=
  ⟨⟨(((State.reset.put fPWR_STATE_STATE (27 + 3 * 2 ^ 21)).flag fHOST_STATUS_LINK_UP).put fDRAFT_APPLIED_TARGETS 1), 0, Fin.ofNat _
    aCHAIN_TRIG_LO, by decide +kernel⟩,
   ⟨State.reset, 2, Fin.ofNat _ aCHAIN_TRIG_LO, by decide +kernel⟩,
   ⟨State.reset, 2, 16777215, by decide +kernel⟩,
   ⟨State.reset, 16777215, by decide +kernel⟩,
   ⟨(((State.reset.put fPWR_STATE_STATE (27 + 3 * 2 ^ 21)).flag fHOST_STATUS_LINK_UP).put fDRAFT_APPLIED_TARGETS 1), 16777215,
    by decide +kernel⟩,
   ⟨State.reset, 0, 0, by decide +kernel⟩,
   ⟨(State.reset.put fPWR_STATE_STATE (27 + 3 * 2 ^ 21)).setWord aCHAIN_TRIG_LO 77, 2, Fin.ofNat _ aCHAIN_TRIG_LO, by decide +kernel⟩,
   ⟨(((State.reset.put fPWR_STATE_STATE (27 + 3 * 2 ^ 21)).flag fHOST_STATUS_LINK_UP).put fDRAFT_APPLIED_TARGETS 1).setWord
    aCHAIN_TRIG_LO 77, Fin.ofNat _ aCHAIN_TRIG_LO, 2, by decide +kernel⟩,
   ⟨State.reset, 2, Fin.ofNat _ aCHAIN_TRIG_LO, by decide +kernel⟩,
   ⟨((State.reset.put fPWR_STATE_STATE 27).flag fHOST_STATUS_LINK_UP).put fDRAFT_APPLIED_TARGETS 1, Fin.ofNat _ aCHAIN_TRIG_LO, 0,
    by decide +kernel⟩,
   ⟨State.reset, 2, 16777215, by decide +kernel⟩,
   ⟨State.reset, 16777215, by decide +kernel⟩,
   ⟨(((State.reset.put fPWR_STATE_STATE (27 + 3 * 2 ^ 21)).flag fHOST_STATUS_LINK_UP).put fDRAFT_APPLIED_TARGETS 1), 16777215,
    by decide +kernel⟩,
   ⟨(State.reset.put fPWR_STATE_STATE (27 + 3 * 2 ^ 15)).put fBOLT_POOL_LOW_LOW_FREE 7, Fin.ofNat _ aBOLT_POOL_LOW,
    by decide +kernel⟩,
   ⟨State.reset, 0, 0, by decide +kernel⟩,
   ⟨(State.reset.put fPWR_STATE_STATE (27 + 3 * 2 ^ 21)), Fin.ofNat _ aCHAIN_TRIG_LO, [5, 6], by decide +kernel⟩,
   ⟨(State.reset.put fPWR_STATE_STATE (27 + 3 * 2 ^ 21)), Fin.ofNat _ aCHAIN_TRIG_LO, 2, by decide +kernel⟩,
   ⟨State.reset.put fPWR_STATE_STATE (6 * 2 ^ (3 * domAt aSHAPE_BANK)), Fin.ofNat _ aSHAPE_BANK, [5], by decide +kernel⟩,
   ⟨State.reset.put fPWR_STATE_STATE (6 * 2 ^ (3 * domAt aSHAPE_BANK)), Fin.ofNat _ aSHAPE_BANK, 1, by decide +kernel⟩,
   ⟨(State.reset.put fPWR_STATE_STATE (27 + 3 * 2 ^ 21)), Fin.ofNat _ aCHAIN_TRIG_LO, by decide +kernel⟩,
   ⟨(State.reset.put fPWR_STATE_STATE (27 + 3 * 2 ^ 21)).setWord aCHAIN_TRIG_LO 77, Fin.ofNat _ aCHAIN_TRIG_LO, by decide +kernel⟩,
   ⟨State.reset.put fPWR_STATE_STATE (6 * 2 ^ (3 * domAt aSHAPE_BANK)), Fin.ofNat _ aSHAPE_BANK, by decide +kernel⟩⟩

/-- States and operands that meet the hypotheses of each clause of RemoteWindowAndPushes. -/
theorem witness_RemoteWindowAndPushes :
    (∃ (s : State), s.pathOpen 0 = true ∧ s.drafted = true ∧ s.chained = false) ∧
    (∃ (s : State), s.pathOpen 0 = true ∧ s.drafted = true ∧ s.chained = true ∧ s.is fHOST_REMOTE_ACK = false) ∧
    (∃ (s : State), s.pathOpen 0 = true ∧ s.drafted = true) ∧
    (∃ (s : State), s.pathOpen 0 = false ∨ s.drafted = false) ∧
    (∃ (s : State) (size : Fin 4), s.pathOpen 0 = true ∧ s.drafted = true ∧ size.val ≠ 3 ∧ s.chained = false ∨ 1022 ≤ s.get
      fHOST_REMOTE_DST) ∧
    (∃ (s : State) (size : Fin 4), s.pathOpen 0 = true ∧ s.drafted = true ∧ size.val ≠ 3 ∧ s.chained = true ∧ s.get fHOST_REMOTE_DST <
      1022) ∧
    (∃ (s : State), s.pathOpen 0 = true ∧ s.drafted = true) ∧
    (∃ (s : State), s.pathOpen 0 = false ∨ s.drafted = false) ∧
    (∃ (s : State) (y : RemoteWait) (rest : List RemoteWait) (u : State), s.host.waits = y :: rest ∧ y.eth = none ∧ y.write = false ∧
      s.flowTo (tAdd y.at_ (s.usUp (10 * max 1 (s.get fHOST_REMOTE_TIMEOUT)))) = u) ∧
    (∃ (s : State), s.host.waits = []) ∧
    (∃ (s : State) (c : Fin 64), s.pcieUp = true ∧ s.islandHeld 7 = false ∧ s.drafted = true ∧ s.is fHOST_PUSHQ_EN c.val = false ∨
      s.domOn 5 = false) ∧
    (∃ (s : State) (c : Fin 64), s.pcieUp = true ∧ s.islandHeld 7 = false ∧ s.drafted = true ∧ s.domOn 5 = true ∧ s.is fHOST_PUSHQ_EN
      c.val = true ∧ s.is fBOLT_Q_CFG_EN (s.get fHOST_PUSHQ_QUEUE c.val) = true ∧ s.get fBOLT_Q_CFG_PROD (s.get fHOST_PUSHQ_QUEUE
      c.val) = 4) ∧
    (∃ (s : State), s.pcieUp = true ∧ s.islandHeld 7 = false ∧ s.drafted = true) ∧
    (∃ (s : State) (n : Fin 64) (k : Nat), (s.ringSt n.val).first = some k ∧ s.get fHOST_RING_CFG_MOD_TIME n.val ≠ 0) ∧
    (∃ (s : State) (n : Fin 64), (s.ringSt n.val).first = none ∨ s.get fHOST_RING_CFG_MOD_TIME n.val = 0) ∧
    (∃ (s : State), s.hostUp = false ∧ s.islandHeld 7 = false ∧ s.ethPers = false ∧ s.host.perst = true ∧ s.host.redo = none) ∧
    (∃ (s : State), s.hostUp = true) ∧
    (∃ (s : State), s.pcieUp = true) ∧
    (∃ (s : State), s.pcieUp = false) ∧
    (∃ (s : State), s.ethPers = false) :=
  ⟨⟨(((State.reset.put fPWR_STATE_STATE (27 + 3 * 2 ^ 21)).flag fHOST_STATUS_LINK_UP).put fDRAFT_APPLIED_TARGETS 1),
    by decide +kernel⟩,
   ⟨((((State.reset.put fPWR_STATE_STATE (27 + 3 * 2 ^ 21)).flag fHOST_STATUS_LINK_UP).put fDRAFT_APPLIED_TARGETS 1).flag
    fCHAIN_CFG_ROLE).put fHOST_REMOTE_DST 1023, by decide +kernel⟩,
   ⟨(((State.reset.put fPWR_STATE_STATE (27 + 3 * 2 ^ 21)).flag fHOST_STATUS_LINK_UP).put fDRAFT_APPLIED_TARGETS 1),
    by decide +kernel⟩,
   ⟨State.reset, by decide +kernel⟩,
   ⟨(((State.reset.put fPWR_STATE_STATE (27 + 3 * 2 ^ 21)).flag fHOST_STATUS_LINK_UP).put fDRAFT_APPLIED_TARGETS 1), 2,
    by decide +kernel⟩,
   ⟨((((State.reset.put fPWR_STATE_STATE (27 + 3 * 2 ^ 21)).flag fHOST_STATUS_LINK_UP).put fDRAFT_APPLIED_TARGETS 1).flag
    fCHAIN_CFG_ROLE).put fHOST_REMOTE_DST 1021, 2, by decide +kernel⟩,
   ⟨(((State.reset.put fPWR_STATE_STATE (27 + 3 * 2 ^ 21)).flag fHOST_STATUS_LINK_UP).put fDRAFT_APPLIED_TARGETS 1),
    by decide +kernel⟩,
   ⟨State.reset, by decide +kernel⟩,
   ⟨({ State.reset with host := { State.reset.host with waits := [⟨5, none, false, 0, 0⟩] } } : State), ⟨5, none, false, 0, 0⟩, [],
    (({ State.reset with host := { State.reset.host with waits := [⟨5, none, false, 0, 0⟩] } } : State).flowTo (tAdd 0
    (State.reset.usUp (10 * max 1 (State.reset.get fHOST_REMOTE_TIMEOUT))))), by decide +kernel⟩,
   ⟨State.reset, by decide +kernel⟩,
   ⟨(((State.reset.put fPWR_STATE_STATE (27 + 3 * 2 ^ 21)).flag fHOST_STATUS_LINK_UP).put fDRAFT_APPLIED_TARGETS 1), 63,
    by decide +kernel⟩,
   ⟨(((((((State.reset.put fPWR_STATE_STATE (27 + 3 * 2 ^ 21)).flag fHOST_STATUS_LINK_UP).put fDRAFT_APPLIED_TARGETS 1).flag
    fHOST_PUSHQ_EN 63).put fHOST_PUSHQ_QUEUE 9 63).flag fBOLT_Q_CFG_EN 9).put fBOLT_Q_CFG_PROD 4 9).put fPWR_STATE_STATE (3 * 2 ^
    15), 63, by decide +kernel⟩,
   ⟨(((State.reset.put fPWR_STATE_STATE (27 + 3 * 2 ^ 21)).flag fHOST_STATUS_LINK_UP).put fDRAFT_APPLIED_TARGETS 1),
    by decide +kernel⟩,
   ⟨(State.reset.put fHOST_RING_CFG_MOD_TIME 1 63).setRing 63 { cnt := 1, first := some 5 }, 63, 5, by decide +kernel⟩,
   ⟨State.reset, 63, by decide +kernel⟩,
   ⟨({ State.reset with host := { State.reset.host with perst := true } } : State), by decide +kernel⟩,
   ⟨(((State.reset.put fPWR_STATE_STATE (27 + 3 * 2 ^ 21)).flag fHOST_STATUS_LINK_UP).put fDRAFT_APPLIED_TARGETS 1),
    by decide +kernel⟩,
   ⟨(((State.reset.put fPWR_STATE_STATE (27 + 3 * 2 ^ 21)).flag fHOST_STATUS_LINK_UP).put fDRAFT_APPLIED_TARGETS 1),
    by decide +kernel⟩,
   ⟨State.reset, by decide +kernel⟩,
   ⟨(((State.reset.put fPWR_STATE_STATE (27 + 3 * 2 ^ 21)).flag fHOST_STATUS_LINK_UP).put fDRAFT_APPLIED_TARGETS 1),
    by decide +kernel⟩⟩

/-- States and operands that meet the hypotheses of each clause of EthernetAndStrobes. -/
theorem witness_EthernetAndStrobes :
    (∃ (s : State) (r : EthHdr) (a : Fin 16777216) (ws : List Word), s.pathOpen 1 = true ∧ r.dev.val = s.addr ∧ s.runWaits a.val
      ws.length = false ∧ s.isDup r.src r.id.val = false ∧ r.ack = false ∧ ws ≠ [] ∧ ws.length ≤ 1024) ∧
    (∃ (s : State) (r : EthHdr) (a : Fin 16777216) (count : Fin 65536), s.pathOpen 1 = true ∧ r.dev.val = s.addr ∧ s.runWaits a.val
      (min count.val 1024) = false ∧ s.isDup r.src r.id.val = false ∧ count.val ≠ 0 ∧ count.val ≤ 1024) ∧
    (∃ (s : State) (r : EthHdr), s.pathOpen 1 = true ∧ r.dev.val ≠ s.addr ∧ s.isDup r.src r.id.val = true) ∧
    (∃ (s : State) (r : EthHdr), s.pathOpen 1 = true ∧ s.isDup r.src r.id.val = false) ∧
    (∃ (s : State) (r : EthHdr) (ctrl : Word), s.pathOpen 1 = true ∧ s.isDup r.src r.id.val = false ∧ fHOST_STROBE_CTRL_REL.get ctrl =
      0) ∧
    (∃ (s : State) (src : Nat) (id : Fin 65536), s.pathOpen 1 = true ∧ s.isDup src id.val = false) ∧
    (∃ (s : State) (src : Nat) (id : Fin 65536), s.pathOpen 1 = true ∧ s.isDup src id.val = true) ∧
    (∃ (s : State) (ip : Fin 4294967296), s.pathOpen 1 = true ∧ ip.val = s.get fHOST_ETH_IP_IP) ∧
    (∃ (s : State) (ip : Fin 4294967296), s.pathOpen 1 = true ∧ ip.val ≠ s.get fHOST_ETH_IP_IP) ∧
    (∃ (s : State), s.pathOpen 1 = true) ∧
    (∃ (s : State) (n : Fin 64) (k : Nat), (s.ringSt n.val).at_ = some k) ∧
    (∃ (s : State) (n : Fin 64), (s.ringSt n.val).at_ = none) :=
  ⟨⟨(((State.reset.put fPWR_STATE_STATE (27 + 3 * 2 ^ 21)).flag fHOST_STATUS_LINK_UP).put fHOST_CFG_PERS 1).put fCHAIN_ADDR_ADDR 0,
    EthHdr.mk 7 9 0 false, Fin.ofNat _ aCHAIN_TRIG_LO, [5], by decide +kernel⟩,
   ⟨(((State.reset.put fPWR_STATE_STATE (27 + 3 * 2 ^ 21)).flag fHOST_STATUS_LINK_UP).put fHOST_CFG_PERS 1).put fCHAIN_ADDR_ADDR 0,
    EthHdr.mk 7 9 0 false, Fin.ofNat _ aCHAIN_TRIG_LO, 2, by decide +kernel⟩,
   ⟨((((State.reset.put fPWR_STATE_STATE (27 + 3 * 2 ^ 21)).flag fHOST_STATUS_LINK_UP).put fHOST_CFG_PERS 1).put fCHAIN_ADDR_ADDR
    4).noteSrc 7 9, EthHdr.mk 7 9 0 false, by decide +kernel⟩,
   ⟨(((State.reset.put fPWR_STATE_STATE (27 + 3 * 2 ^ 21)).flag fHOST_STATUS_LINK_UP).put fHOST_CFG_PERS 1), EthHdr.mk 7 9 0 false,
    by decide +kernel⟩,
   ⟨(((State.reset.put fPWR_STATE_STATE (27 + 3 * 2 ^ 21)).flag fHOST_STATUS_LINK_UP).put fHOST_CFG_PERS 1), EthHdr.mk 7 9 0 false,
    0, by decide +kernel⟩,
   ⟨(((State.reset.put fPWR_STATE_STATE (27 + 3 * 2 ^ 21)).flag fHOST_STATUS_LINK_UP).put fHOST_CFG_PERS 1), 5, 65535,
    by decide +kernel⟩,
   ⟨(((State.reset.put fPWR_STATE_STATE (27 + 3 * 2 ^ 21)).flag fHOST_STATUS_LINK_UP).put fHOST_CFG_PERS 1).noteSrc 5 65535, 5,
    65535, by decide +kernel⟩,
   ⟨(((State.reset.put fPWR_STATE_STATE (27 + 3 * 2 ^ 21)).flag fHOST_STATUS_LINK_UP).put fHOST_CFG_PERS 1), 0, by decide +kernel⟩,
   ⟨(((State.reset.put fPWR_STATE_STATE (27 + 3 * 2 ^ 21)).flag fHOST_STATUS_LINK_UP).put fHOST_CFG_PERS 1), 4294967295,
    by decide +kernel⟩,
   ⟨(((State.reset.put fPWR_STATE_STATE (27 + 3 * 2 ^ 21)).flag fHOST_STATUS_LINK_UP).put fHOST_CFG_PERS 1), by decide +kernel⟩,
   ⟨State.reset.setRing 63 { recs := 1, at_ := some 7 }, 63, 7, by decide +kernel⟩,
   ⟨State.reset, 63, by decide +kernel⟩⟩

/-- States and operands that meet the hypotheses of each clause of DraftLoads. -/
theorem witness_DraftLoads :
    (∃ (s : State), s.drState ≠ 4 ∧ s.draft.slot = none ∧ s.domState 6 = 3) ∧
    (∃ (s : State), s.drState ≠ 4 ∧ s.draft.slot = none ∧ s.domState 6 ≠ 3) ∧
    (∃ (s : State), s.drState = 4 ∨ s.draft.slot ≠ none) ∧
    (∃ (s : State), s.drState = 0) ∧
    (∃ (s : State), s.drState = 4) ∧
    (∃ (s : State), s.drState = 2) ∧
    (∃ (s : State), s.drState = 1 ∨ s.drState = 3 ∨ s.drState = 5) ∧
    (∃ (s : State), s.drState ≠ 1 ∨ (s.is fHIST_MEM_STATUS_READY = true ∧ s.is fDRAFT_CTRL_SRC = true)) ∧
    (∃ (s : State) (v : Word), s.drState = 1 ∧ s.is fHIST_MEM_STATUS_READY = true ∧ s.is fDRAFT_CTRL_SRC = false ∧ formatCheck
      (s.draft.bytes ++ [getBits v 0 8, getBits v 8 8, getBits v 16 8, getBits v 24 8]) = none ∧ s.draft.bytes.length < 28) ∧
    (∃ (s : State) (v : Word) (e : Nat × Nat), s.drState = 1 ∧ s.is fHIST_MEM_STATUS_READY = true ∧ s.is fDRAFT_CTRL_SRC = false ∧
      formatCheck (s.draft.bytes ++ [getBits v 0 8, getBits v 8 8, getBits v 16 8, getBits v 24 8]) = some e) ∧
    (∃ (s : State), s.drState ≠ 1 ∧ s.is fDRAFT_CTRL_SRC = true ∧ s.get fBOLT_Q_CFG_CONS (s.get fDRAFT_CTRL_QUEUE) = 5 ∧ s.get
      fBOLT_Q_CFG_CONS_SEL (s.get fDRAFT_CTRL_QUEUE) = 255 ∧ s.visible (s.queue (s.get fDRAFT_CTRL_QUEUE)) ≠ 0 ∧ (s.queue (s.get
      fDRAFT_CTRL_QUEUE)).words ≠ []) ∧
    (∃ (s : State), s.visible (s.queue (s.get fDRAFT_CTRL_QUEUE)) = 0) ∧
    (∃ (s : State), s.drState = 1 ∧ s.is fHIST_MEM_STATUS_READY = false) ∧
    (∃ (s : State), s.drState ≠ 2) ∧
    (∃ (s : State), s.drState = 2) ∧
    (∃ (s : State) (e : Nat × Nat), s.drState = 2 ∧ trailerCheck s.draft.bytes = some e) ∧
    (∃ (s : State), s.drState = 3) ∧
    (∃ (s : State), s.drState ≠ 3) ∧
    (∃ (s : State), s.drState = 4 ∧ (List.range 9).all (fun i => !(drTargets s.draft.bytes).testBit i || s.held i) = true ∧
      (List.range 8).any (fun d => s.domState d == 6 && (domIslands d).any (fun i => (drTargets s.draft.bytes).testBit i)) = false
      ∧ drCommit s.draft.bytes = false) ∧
    (∃ (s : State), s.drState ≠ 4) ∧
    (∃ (s : State), s.draft.applied = false ∨ s.draft.slot ≠ none ∨ s.drState ≠ 0) ∧
    (∃ (s : State), s.draft.applied = true ∧ s.draft.slot = none ∧ s.drState = 0 ∧ s.resFree 29 true = true ∧ drPartial s.draft.bytes
      = false) ∧
    (∃ (s : State), s.draft.applied = true ∧ s.draft.slot = none ∧ s.drState = 0 ∧ s.resFree 29 true = false) ∧
    (∃ (s : State), s.draft.slot = none) ∧
    (∃ (s : State), s.draft.slot ≠ none) ∧
    (∃ (s : State), s.draft.slot ≠ none) ∧
    (∃ (s : State), s.is fDRAFT_SCAN_SCAN_EN = false) ∧
    (∃ (s : State), s.is fDRAFT_SCAN_SCAN_EN = true ∧ (List.range 9).all (fun i => s.held i || !s.crcBad i) = true) :=
  ⟨⟨(State.reset.put fPWR_STATE_STATE (3 * 2 ^ 18)).put fDRAFT_STATUS_STATE 5, by decide +kernel⟩,
   ⟨State.reset.put fDRAFT_STATUS_STATE 5, by decide +kernel⟩,
   ⟨State.reset.put fDRAFT_STATUS_STATE 4, by decide +kernel⟩,
   ⟨State.reset, by decide +kernel⟩,
   ⟨State.reset.put fDRAFT_STATUS_STATE 4, by decide +kernel⟩,
   ⟨State.reset.put fDRAFT_STATUS_STATE 2, by decide +kernel⟩,
   ⟨State.reset.put fDRAFT_STATUS_STATE 3, by decide +kernel⟩,
   ⟨State.reset, by decide +kernel⟩,
   ⟨(State.reset.put fDRAFT_STATUS_STATE 1).flag fHIST_MEM_STATUS_READY, 0x504556444, by decide +kernel⟩,
   ⟨({ (State.reset.put fDRAFT_STATUS_STATE 1).flag fHIST_MEM_STATUS_READY with draft := { bytes := List.replicate 28 0 } } : State),
    5, (1, 0), by decide +kernel⟩,
   ⟨(((((State.reset.put fPWR_STATE_STATE (3 * 2 ^ 15)).flag fDRAFT_CTRL_SRC).put fDRAFT_CTRL_QUEUE 9).put fBOLT_Q_CFG_CONS 5 9).put
    fBOLT_Q_CFG_CONS_SEL 255 9).setQueue 9 { words := [⟨5, true, false, false⟩, ⟨6, false, true, false⟩] }, by decide +kernel⟩,
   ⟨State.reset, by decide +kernel⟩,
   ⟨State.reset.put fDRAFT_STATUS_STATE 1, by decide +kernel⟩,
   ⟨State.reset, by decide +kernel⟩,
   ⟨State.reset.put fDRAFT_STATUS_STATE 2, by decide +kernel⟩,
   ⟨({ State.reset.put fDRAFT_STATUS_STATE 2 with draft := { bytes := [4] } } : State), (12, 0), by decide +kernel⟩,
   ⟨State.reset.put fDRAFT_STATUS_STATE 3, by decide +kernel⟩,
   ⟨State.reset, by decide +kernel⟩,
   ⟨({ State.reset.put fDRAFT_STATUS_STATE 4 with draft := { bytes := [] } } : State), by decide +kernel⟩,
   ⟨State.reset, by decide +kernel⟩,
   ⟨State.reset, by decide +kernel⟩,
   ⟨({ State.reset with draft := { applied := true } } : State), by decide +kernel⟩,
   ⟨({ State.reset.put fMAINT_OWNER_WRITER 9 29 with draft := { applied := true } } : State), by decide +kernel⟩,
   ⟨State.reset, by decide +kernel⟩,
   ⟨({ State.reset.flag fDRAFT_COMMIT_PENDING with draft := { slot := some 1 } } : State), by decide +kernel⟩,
   ⟨({ State.reset.flag fDRAFT_COMMIT_PENDING with draft := { slot := some 1 } } : State), by decide +kernel⟩,
   ⟨State.reset.unflag fDRAFT_SCAN_SCAN_EN, by decide +kernel⟩,
   ⟨(State.reset.flag fDRAFT_SCAN_SCAN_EN).put fISLAND_HOLD_HELD 511, by decide +kernel⟩⟩

/-- States and operands that meet the hypotheses of each clause of HoldsAndMaintenance. -/
theorem witness_HoldsAndMaintenance :
    (∃ (s : State) (n : Fin 9), s.holderOf n.val = true ∧ s.held n.val = false) ∧
    (∃ (s : State) (n : Fin 9), s.holderOf n.val = false ∨ s.held n.val = true) ∧
    (∃ (s : State) (n : Fin 9), s.held n.val = true ∧ s.holderOf n.val = false ∧ s.staged = []) ∧
    (∃ (s : State) (w : Word), s.held 6 = true ∧ s.holderOf 6 = false ∧ s.staged = [(aHIST_TONE_MAP, w)]) ∧
    (∃ (s : State) (n : Fin 9), s.held n.val = false ∨ s.holderOf n.val = true) ∧
    (∃ (s : State) (n : Fin 9), s.held n.val = true ∧ s.bit fISLAND_HOLD_REQ n.val = true ∧ max 1 (s.get fISLAND_HOLD_HOLD_LIMIT) ≤
      s.holds.mt.getD n.val 0 ∧ s.holds.draft = 0 ∧ s.staged = []) ∧
    (∃ (s : State) (n : Fin 9), s.held n.val = false ∨ s.bit fISLAND_HOLD_REQ n.val = false ∨ s.holds.mt.getD n.val 0 < max 1 (s.get
      fISLAND_HOLD_HOLD_LIMIT)) ∧
    (∃ (act : Fin 16), claimRes act.val = none) ∧
    (∃ (s : State) (act : Fin 16), act.val = 9 ∨ act.val = 10 ∨ act.val = 11 ∧ s.resFree 29 true = true) ∧
    (∃ (s : State) (act : Fin 16), act.val = 9 ∨ act.val = 10 ∨ act.val = 11 ∧ s.resFree 29 true = false) ∧
    (∃ (act : Fin 16), claimRes act.val = none) ∧
    (∃ (act : Fin 16), claimRes act.val ≠ none) :=
  ⟨⟨State.reset.put fISLAND_HOLD_REQ 511, 8, by decide +kernel⟩,
   ⟨State.reset, 8, by decide +kernel⟩,
   ⟨State.reset.put fISLAND_HOLD_HELD 511, 8, by decide +kernel⟩,
   ⟨({ State.reset.put fISLAND_HOLD_HELD 64 with staged := [(aHIST_TONE_MAP, 1280)] } : State), 1280, by decide +kernel⟩,
   ⟨State.reset, 0, by decide +kernel⟩,
   ⟨({ (State.reset.put fISLAND_HOLD_HELD 511).put fISLAND_HOLD_REQ 511 with holds := { mt := List.replicate 9 100000000 } } :
    State), 8, by decide +kernel⟩,
   ⟨State.reset, 8, by decide +kernel⟩,
   ⟨8, by decide +kernel⟩,
   ⟨State.reset, 11, by decide +kernel⟩,
   ⟨State.reset.put fMAINT_OWNER_WRITER 9 29, 11, by decide +kernel⟩,
   ⟨8, by decide +kernel⟩,
   ⟨15, by decide +kernel⟩⟩

/-- States and operands that meet the hypotheses of each clause of MgmtProcessor. -/
theorem witness_MgmtProcessor :
    (∃ (s : State), s.fwState = 2 ∧ s.is fMGMT_WDT_EN = true ∧ s.wdtPeriod ≤ s.mgmt.wdt) ∧
    (∃ (s : State), s.fwState ≠ 2 ∨ s.is fMGMT_WDT_EN = false ∨ s.mgmt.wdt < s.wdtPeriod) ∧
    (∃ (s : State), s.fwState = 3 ∧ s.restoreHold = false ∨ s.is fMGMT_RESTORE_RESTORE_DONE = true ∧ s.is fMGMT_CFG_FW_EN = false ∨
      (s.get fMGMT_STATUS_FW_AVOID = 0 ∧ s.newestImage = none)) ∧
    (∃ (s : State), s.fwState = 3 ∧ s.restoreHold = true ∧ s.is fMGMT_RESTORE_RESTORE_DONE = false) ∧
    (∃ (s : State), s.fwState ≠ 3) ∧
    (∃ (s : State), (s.injActs 19).any (fun x => decide (0 < x.left)) = true) ∧
    (∃ (s : State), (s.injActs 19).any (fun x => decide (0 < x.left)) = false) ∧
    (∃ (s : State), s.actHeld 11 = false) ∧
    (∃ (s : State), s.actHeld 11 = true) ∧
    (∃ (s : State), s.get fMGMT_FW_CTRL_STATE ≠ 0) ∧
    (∃ (s : State), s.get fMGMT_FW_CTRL_STATE = 0) ∧
    (∃ (s : State), s.get fMGMT_FW_CTRL_STATE ≠ 1) ∧
    (∃ (s : State), s.get fMGMT_FW_CTRL_STATE = 1) ∧
    (∃ (s : State), s.get fMGMT_FW_CTRL_STATE = 2 ∧ imageCheck s.mgmt.image ≠ 1) ∧
    (∃ (s : State), s.get fMGMT_FW_CTRL_STATE ≠ 2) ∧
    (∃ (i : Fin 3), i.val ≠ 2) ∧
    (∃ (i : Fin 3), i.val = 2) :=
  ⟨⟨({ (State.reset.put fMGMT_STATUS_FW_STATE 2).flag fMGMT_WDT_EN with mgmt := { wdt := 1000000000 } } : State), by decide +kernel⟩,
   ⟨State.reset.unflag fMGMT_WDT_EN, by decide +kernel⟩,
   ⟨((State.reset.put fMGMT_STATUS_FW_STATE 3).unflag fMGMT_CFG_FW_EN).flag fMGMT_RESTORE_RESTORE_DONE, by decide +kernel⟩,
   ⟨(State.reset.put fMGMT_STATUS_FW_STATE 3).flag fMGMT_RESUME_HOLD_ACTIVE, by decide +kernel⟩,
   ⟨State.reset, by decide +kernel⟩,
   ⟨({ State.reset.flag fFAULT_INJ_STATUS_BUSY with selv := { inj := some { kind := 19, unit := 0, count := 1, value := 0, test := false, start := 0, left := 1 } } }
    : State), by decide +kernel⟩,
   ⟨({ State.reset with mgmt := { wdt := 7 } } : State), by decide +kernel⟩,
   ⟨State.reset, by decide +kernel⟩,
   ⟨State.reset.putBit fMAINT_CLAIM_ACTIVE 10 true, by decide +kernel⟩,
   ⟨State.reset.put fMGMT_FW_CTRL_STATE 2, by decide +kernel⟩,
   ⟨State.reset, by decide +kernel⟩,
   ⟨State.reset, by decide +kernel⟩,
   ⟨State.reset.put fMGMT_FW_CTRL_STATE 1, by decide +kernel⟩,
   ⟨State.reset.put fMGMT_FW_CTRL_STATE 2, by decide +kernel⟩,
   ⟨State.reset, by decide +kernel⟩,
   ⟨1, by decide +kernel⟩,
   ⟨2, by decide +kernel⟩⟩

/-- States and operands that meet the hypotheses of each clause of MailboxCommands. -/
theorem witness_MailboxCommands :
    (∃ (s : State), s.mgmt.mbx ≠ none) ∧
    (∃ (s : State), s.mgmt.mbx = none ∧ s.fwState = 2) ∧
    (∃ (s : State), s.mgmt.mbx = none ∧ s.fwState ≠ 2) ∧
    (∃ (s : State) (args : List Word) (e : Elem), s.mgmt.mbx = some (1, args) ∧ s.fwState = 2 ∧ s.bobbin.fw.getD (s.get
      fMGMT_STATUS_FW_SLOT) none = some e) ∧
    (∃ (s : State) (args : List Word), s.mgmt.mbx = some (2, args) ∧ s.fwState = 2 ∧ s.resFree 29 true = false ∧ (s.word (aMGMT_POLICY
      + 3)).toNat ≤ s.mgmt.tries) ∧
    (∃ (s : State) (args : List Word), s.mgmt.mbx = some (2, args) ∧ s.fwState = 2 ∧ s.resFree 29 true = true) ∧
    (∃ (s : State) (args : List Word), s.mgmt.mbx = some (3, args) ∧ s.fwState = 2 ∧ s.resFree 29 true = false ∧ (s.word (aMGMT_POLICY
      + 3)).toNat ≤ s.mgmt.tries) ∧
    (∃ (s : State) (args : List Word), s.mgmt.mbx = some (3, args) ∧ s.fwState = 2 ∧ s.resFree 29 true = true ∧ s.is fCAL_CFG_STORE =
      false) ∧
    (∃ (s : State) (args : List Word), s.mgmt.mbx = some (4, args) ∧ s.fwState = 2 ∧ s.mgmt.running = false ∧ 4 < (args.getD 0
      0).toNat) ∧
    (∃ (s : State) (args : List Word), s.mgmt.mbx = some (4, args) ∧ s.fwState = 2 ∧ s.mgmt.running = true ∧ s.is fCAL_STATUS_BUSY =
      false) ∧
    (∃ (s : State) (args : List Word), s.mgmt.mbx = some (5, args) ∧ s.fwState = 2) ∧
    (∃ (s : State) (args : List Word), s.mgmt.mbx = some (6, args) ∧ s.fwState = 2) ∧
    (∃ (s : State) (args : List Word), s.mgmt.mbx = some (7, args) ∧ s.fwState = 2) ∧
    (∃ (s : State) (o : Nat) (args : List Word), s.mgmt.mbx = some (o, args) ∧ s.fwState = 2 ∧ o = 0 ∨ 7 < o) ∧
    (∃ (s : State), s.mgmt.mbx = none) ∧
    (∃ (s : State), s.mgmt.mbx.any (fun x => x.1 == 1) = false ∨ s.fwState ≠ 2) ∧
    (∃ (s : State), s.mgmt.mbx.any (fun x => x.1 == 2) = false ∨ s.fwState ≠ 2) ∧
    (∃ (s : State), s.mgmt.mbx.any (fun x => x.1 == 3) = false ∨ s.fwState ≠ 2) ∧
    (∃ (s : State), s.mgmt.mbx.any (fun x => x.1 == 4) = false ∨ s.fwState ≠ 2) ∧
    (∃ (s : State), s.mgmt.mbx.any (fun x => x.1 == 5) = false ∨ s.fwState ≠ 2) ∧
    (∃ (s : State), s.mgmt.mbx.any (fun x => x.1 == 6) = false ∨ s.fwState ≠ 2) ∧
    (∃ (s : State), s.mgmt.mbx.any (fun x => x.1 == 7) = false ∨ s.fwState ≠ 2) ∧
    (∃ (s : State) (args : List Word), s.mgmt.mbx = some (2, args) ∧ s.fwState = 2 ∧ s.resFree 29 true = false ∧ s.mgmt.tries <
      (s.word (aMGMT_POLICY + 3)).toNat) ∧
    (∃ (s : State) (args : List Word), s.mgmt.mbx = some (2, args) ∧ s.fwState = 2 ∧ s.resFree 29 true = true) ∧
    (∃ (s : State) (args : List Word), s.mgmt.mbx = some (3, args) ∧ s.fwState = 2 ∧ s.resFree 29 true = false ∧ s.mgmt.tries <
      (s.word (aMGMT_POLICY + 3)).toNat) ∧
    (∃ (s : State) (args : List Word), s.mgmt.mbx = some (3, args) ∧ s.fwState = 2 ∧ s.resFree 29 true = true ∧ s.is fCAL_CFG_STORE =
      true) ∧
    (∃ (s : State) (args : List Word), s.mgmt.mbx = some (4, args) ∧ s.fwState = 2 ∧ s.mgmt.running = true ∧ s.is fCAL_STATUS_BUSY =
      true) ∧
    (∃ (s : State) (args : List Word), s.mgmt.mbx = some (4, args) ∧ s.fwState = 2 ∧ s.mgmt.running = false ∧ (args.getD 0 0).toNat ≤
      4 ∧ (s.calStart (args.getD 0 0).toNat (args.getD 1 0).toNat (args.getD 2 0).toNat).is fCAL_STATUS_REFUSED = false) :=
  ⟨⟨({ State.reset with mgmt := { mbx := some (1, []) } } : State), by decide +kernel⟩,
   ⟨State.reset.put fMGMT_STATUS_FW_STATE 2, by decide +kernel⟩,
   ⟨State.reset, by decide +kernel⟩,
   ⟨({ State.reset.put fMGMT_STATUS_FW_STATE 2 with mgmt := { mbx := some (1, []) }, bobbin := { fw := [some ⟨9, [], true⟩, none] } }
    : State), [], ⟨9, [], true⟩, by decide +kernel⟩,
   ⟨({ (State.reset.put fMGMT_STATUS_FW_STATE 2).put fMAINT_OWNER_WRITER 8 29 with mgmt := { mbx := some (2, []), tries := 100 } } :
    State), [], by decide +kernel⟩,
   ⟨({ State.reset.put fMGMT_STATUS_FW_STATE 2 with mgmt := { mbx := some (2, []) } } : State), [], by decide +kernel⟩,
   ⟨({ (State.reset.put fMGMT_STATUS_FW_STATE 2).put fMAINT_OWNER_WRITER 8 29 with mgmt := { mbx := some (3, []), tries := 100 } } :
    State), [], by decide +kernel⟩,
   ⟨({ State.reset.put fMGMT_STATUS_FW_STATE 2 with mgmt := { mbx := some (3, []) } } : State), [], by decide +kernel⟩,
   ⟨({ State.reset.put fMGMT_STATUS_FW_STATE 2 with mgmt := { mbx := some (4, [5]) } } : State), [5], by decide +kernel⟩,
   ⟨({ State.reset.put fMGMT_STATUS_FW_STATE 2 with mgmt := { mbx := some (4, [4]), running := true } } : State), [4],
    by decide +kernel⟩,
   ⟨({ State.reset.put fMGMT_STATUS_FW_STATE 2 with mgmt := { mbx := some (5, []) } } : State), [], by decide +kernel⟩,
   ⟨({ State.reset.put fMGMT_STATUS_FW_STATE 2 with mgmt := { mbx := some (6, []) } } : State), [], by decide +kernel⟩,
   ⟨({ State.reset.put fMGMT_STATUS_FW_STATE 2 with mgmt := { mbx := some (7, []) } } : State), [], by decide +kernel⟩,
   ⟨({ State.reset.put fMGMT_STATUS_FW_STATE 2 with mgmt := { mbx := some (8, []) } } : State), 8, [], by decide +kernel⟩,
   ⟨State.reset, by decide +kernel⟩,
   ⟨State.reset, by decide +kernel⟩,
   ⟨State.reset, by decide +kernel⟩,
   ⟨State.reset, by decide +kernel⟩,
   ⟨State.reset, by decide +kernel⟩,
   ⟨State.reset, by decide +kernel⟩,
   ⟨State.reset, by decide +kernel⟩,
   ⟨State.reset, by decide +kernel⟩,
   ⟨({ ((State.reset.put fMGMT_STATUS_FW_STATE 2).put fMAINT_OWNER_WRITER 8 29).setWord (aMGMT_POLICY + 3) 5 with mgmt := { mbx := some (2, []), tries := 4 } }
    : State), [], by decide +kernel⟩,
   ⟨({ State.reset.put fMGMT_STATUS_FW_STATE 2 with mgmt := { mbx := some (2, []) } } : State), [], by decide +kernel⟩,
   ⟨({ ((State.reset.put fMGMT_STATUS_FW_STATE 2).put fMAINT_OWNER_WRITER 8 29).setWord (aMGMT_POLICY + 3) 5 with mgmt := { mbx := some (3, []), tries := 4 } }
    : State), [], by decide +kernel⟩,
   ⟨({ (State.reset.put fMGMT_STATUS_FW_STATE 2).flag fCAL_CFG_STORE with mgmt := { mbx := some (3, []) } } : State), [],
    by decide +kernel⟩,
   ⟨({ (State.reset.put fMGMT_STATUS_FW_STATE 2).flag fCAL_STATUS_BUSY with mgmt := { mbx := some (4, [4]), running := true } } :
    State), [4], by decide +kernel⟩,
   ⟨({ State.reset.put fMGMT_STATUS_FW_STATE 2 with mgmt := { mbx := some (4, [2, 0, 1]) } } : State), [2, 0, 1], by decide +kernel⟩⟩

/-- States and operands that meet the hypotheses of each clause of CheckpointsAndSets. -/
theorem witness_CheckpointsAndSets :
    (∃ (s : State), s.actHeld 9 = false) ∧
    (∃ (s : State), s.actHeld 9 = true ∧ s.is fMGMT_CKPT_BUSY = true) ∧
    (∃ (s : State), s.actHeld 9 = true ∧ s.is fMGMT_CKPT_BUSY = false) ∧
    (∃ (s : State), s.is fMGMT_CKPT_BUSY = true) ∧
    (∃ (s : State), s.is fMGMT_CKPT_BUSY = true) ∧
    (∃ (s : State), s.is fMGMT_CKPT_BUSY = false) ∧
    (∃ (s : State), s.actHeld 10 = false) ∧
    (∃ (s : State), s.actHeld 10 = true ∧ s.is fCAL_CFG_STORE = true) ∧
    (∃ (s : State), s.actHeld 10 = true ∧ s.is fCAL_CFG_STORE = false ∧ s.is fMGMT_CALSET_BUSY = false) ∧
    (∃ (s : State), s.is fMGMT_CALSET_BUSY = true) ∧
    (∃ (s : State), s.is fMGMT_CALSET_BUSY = true) ∧
    (∃ (s : State), s.is fMGMT_CALSET_BUSY = false) ∧
    (∃ (s : State), s.actHeld 10 = true ∧ s.is fCAL_CFG_STORE = false ∧ s.is fMGMT_CALSET_BUSY = true) :=
  ⟨⟨State.reset, by decide +kernel⟩,
   ⟨(State.reset.putBit fMAINT_CLAIM_ACTIVE 8 true).flag fMGMT_CKPT_BUSY, by decide +kernel⟩,
   ⟨State.reset.putBit fMAINT_CLAIM_ACTIVE 8 true, by decide +kernel⟩,
   ⟨State.reset.flag fMGMT_CKPT_BUSY, by decide +kernel⟩,
   ⟨State.reset.flag fMGMT_CKPT_BUSY, by decide +kernel⟩,
   ⟨State.reset, by decide +kernel⟩,
   ⟨State.reset, by decide +kernel⟩,
   ⟨(State.reset.putBit fMAINT_CLAIM_ACTIVE 9 true).flag fCAL_CFG_STORE, by decide +kernel⟩,
   ⟨State.reset.putBit fMAINT_CLAIM_ACTIVE 9 true, by decide +kernel⟩,
   ⟨State.reset.flag fMGMT_CALSET_BUSY, by decide +kernel⟩,
   ⟨State.reset.flag fMGMT_CALSET_BUSY, by decide +kernel⟩,
   ⟨State.reset, by decide +kernel⟩,
   ⟨(State.reset.putBit fMAINT_CLAIM_ACTIVE 9 true).flag fMGMT_CALSET_BUSY, by decide +kernel⟩⟩

/-- States and operands that meet the hypotheses of each clause of PowerDomains. -/
theorem witness_PowerDomains :
    (∃ (d : Fin 8), d.val < 2) ∧
    (∃ (s : State) (d : Fin 8), 2 ≤ d.val ∧ d.val ≠ 3 ∧ s.domState d.val = 0 ∧ s.domEn d.val = true ∧ s.is fPWR_THERM_SHUTDOWN =
      false) ∧
    (∃ (s : State) (d : Fin 8), 2 ≤ d.val ∧ s.domState d.val = 0 ∧ s.domEn d.val = false) ∧
    (∃ (d : Fin 8), d.val < 2) ∧
    (∃ (s : State), s.domState 5 = 3 ∧ s.domBusy 5 = false) ∧
    (∃ (d : Fin 8), d.val ≠ 5) ∧
    (∃ (s : State), s.domState 5 = 3 ∧ s.domEn 5 = true ∧ s.domBusy 5 = false ∧ s.is fPWR_THERM_SHUTDOWN = false) ∧
    (∃ (s : State) (d : Nat) (fr : Bool), d < 8 ∧ s.gov.queue = [(GovEvt.domain d, fr)] ∧ s.gov.ramps = [] ∧ s.gov.lastDomain = none) ∧
    (∃ (s : State) (d : Fin 8), s.domState d.val = 4 ∧ s.pwr.onAfter.testBit d.val = false) ∧
    (∃ (s : State), s.domState 5 = 4 ∧ s.pwr.onAfter.testBit 5 = false) ∧
    (∃ (s : State) (d : Fin 8), s.domState d.val ≠ 4) ∧
    (∃ (s : State) (d : Fin 8), s.domState d.val = 2 ∧ d.val = 3 ∨ d.val = 4 ∧ s.pwr.ever.testBit d.val = true) ∧
    (∃ (s : State), s.domState 5 = 2 ∧ s.pwr.kept = false ∧ s.pwr.offAfter.testBit 5 = false) ∧
    (∃ (s : State), s.domState 6 = 2 ∧ s.pwr.offAfter.testBit 6 = false) ∧
    (∃ (s : State), s.domState 4 = 6 ∧ s.newestSlot = none ∧ s.pwr.offAfter.testBit 4 = false) ∧
    (∃ (s : State) (d : Fin 8), s.domState d.val ≠ 6) ∧
    (∃ (s : State), s.domState 5 = 3 ∧ natBits (s.get fPWR_REQ_REQ) 10 2 = 2) ∧
    (∃ (s : State), s.domState 5 ≠ 3 ∨ natBits (s.get fPWR_REQ_REQ) 10 2 ≠ 2) ∧
    (∃ (s : State), s.is fPWR_THERM_SHUTDOWN = false ∨ 1520 ≤ s.geti fPWR_THERM_TJ) ∧
    (∃ (s : State), s.is fPWR_THERM_SHUTDOWN = true ∧ s.geti fPWR_THERM_TJ < 1520) ∧
    (∃ (rail : Fin 8), rail.val = 0) ∧
    (∃ (s : State), s.is fPWR_THERM_SHUTDOWN = false) ∧
    (∃ (s : State) (d : Fin 8), 2 ≤ d.val ∧ s.domState d.val = 3 ∨ s.domState d.val = 6 ∨ s.domState d.val = 1 ∨ s.domState d.val = 2) ∧
    (∃ (s : State) (d : Fin 8), 2 ≤ d.val ∧ s.domState d.val = 0 ∨ s.domState d.val = 4) ∧
    (∃ (s : State), s.domState 5 = 5) ∧
    (∃ (s : State) (d : Fin 8), s.domState d.val = 4 ∧ s.pwr.onAfter.testBit d.val = true) ∧
    (∃ (s : State) (d : Fin 8), s.domState d.val ≠ 2) ∧
    (∃ (s : State) (rail : Fin 8), 2 ≤ rail.val ∧ s.domOn rail.val = false) :=
  ⟨⟨1, by decide +kernel⟩,
   ⟨State.reset.put fPWR_ENABLED_EN 255, 7, by decide +kernel⟩,
   ⟨State.reset.put fPWR_ENABLED_EN 0, 7, by decide +kernel⟩,
   ⟨1, by decide +kernel⟩,
   ⟨State.reset.put fPWR_STATE_STATE (27 + 3 * 2 ^ 15), by decide +kernel⟩,
   ⟨7, by decide +kernel⟩,
   ⟨(State.reset.put fPWR_STATE_STATE (27 + 3 * 2 ^ 15)).put fPWR_ENABLED_EN 255, by decide +kernel⟩,
   ⟨({ State.reset with gov := { queue := [(.domain 7, true)] } } : State), 7, true, by decide +kernel⟩,
   ⟨State.reset.put fPWR_STATE_STATE (27 + 4 * 2 ^ 21), 7, by decide +kernel⟩,
   ⟨State.reset.put fPWR_STATE_STATE (27 + 4 * 2 ^ 15), by decide +kernel⟩,
   ⟨State.reset, 7, by decide +kernel⟩,
   ⟨({ State.reset.put fPWR_STATE_STATE (27 + 2 * 2 ^ 12) with pwr := { ever := 255 } } : State), 4, by decide +kernel⟩,
   ⟨State.reset.put fPWR_STATE_STATE (27 + 2 * 2 ^ 15), by decide +kernel⟩,
   ⟨State.reset.put fPWR_STATE_STATE (27 + 2 * 2 ^ 18), by decide +kernel⟩,
   ⟨State.reset.put fPWR_STATE_STATE (27 + 6 * 2 ^ 12), by decide +kernel⟩,
   ⟨State.reset, 4, by decide +kernel⟩,
   ⟨(State.reset.put fPWR_STATE_STATE (27 + 3 * 2 ^ 15)).setReq 5 2, by decide +kernel⟩,
   ⟨State.reset, by decide +kernel⟩,
   ⟨State.reset, by decide +kernel⟩,
   ⟨(State.reset.flag fPWR_THERM_SHUTDOWN).put fPWR_THERM_TJ 1519, by decide +kernel⟩,
   ⟨0, by decide +kernel⟩,
   ⟨State.reset.put fPWR_ENABLED_EN 255, by decide +kernel⟩,
   ⟨State.reset.put fPWR_STATE_STATE (27 + 3 * 2 ^ 15), 5, by decide +kernel⟩,
   ⟨State.reset, 7, by decide +kernel⟩,
   ⟨State.reset.put fPWR_STATE_STATE (27 + 5 * 2 ^ 15), by decide +kernel⟩,
   ⟨({ State.reset.put fPWR_STATE_STATE (27 + 4 * 2 ^ 21) with pwr := { onAfter := 128 } } : State), 7, by decide +kernel⟩,
   ⟨State.reset, 7, by decide +kernel⟩,
   ⟨State.reset, 7, by decide +kernel⟩⟩

/-- States and operands that meet the hypotheses of each clause of ResetsAndRestore. -/
theorem witness_ResetsAndRestore :
    (∃ (s : State), s.bobbinWrites = false) ∧
    (∃ (s : State), s.bobbinWrites = false) ∧
    (∃ (s : State), s.bobbin = State.reset.bobbin ∧ s.mgmt.aonKept = true) ∧
    (∃ (s : State), s.bobbin = State.reset.bobbin ∧ s.mgmt.aonKept = false) ∧
    (∃ (s : State), s.bobbin = State.reset.bobbin) ∧
    (∃ (s : State), s.is fMGMT_RESTORE_RESTORE_DONE = false ∧ s.restoreHold = true ∧ s.wakesDone = true) ∧
    (∃ (s : State), s.is fMGMT_RESTORE_RESTORE_DONE = true ∨ s.restoreHold = false ∨ s.wakesDone = false) ∧
    (∃ (s : State) (d : Fin 8), s.is fMGMT_RESTORE_WAKE_HANDOFF = true ∧ s.is fMGMT_RESTORE_RESTORE_DONE = false ∧ s.is
      fMGMT_RESTORE_WAKE_TAKEOVER = false ∧ 40 ≤ s.mgmt.wakeMt ∧ 2 ≤ d.val ∧ s.domEn d.val = true ∧ natBits (s.get fPWR_REQ_REQ)
      (2 * d.val) 2 = 0) ∧
    (∃ (s : State), s.mgmt.wakeMt < 40 ∨ s.is fMGMT_RESTORE_WAKE_HANDOFF = false ∨ s.is fMGMT_RESTORE_RESTORE_DONE = true ∨ s.is
      fMGMT_RESTORE_WAKE_TAKEOVER = true) ∧
    (∃ (s : State), s.is fMGMT_RESTORE_RESTORE_DONE = true ∧ s.restoreHold = false) ∧
    (∃ (s : State), s.is fMGMT_RESTORE_RESTORE_DONE = false) ∧
    (∃ (s : State), s.restoreHold = true ∧ s.is fMGMT_RESTORE_RESTORE_DONE = true) ∧
    (∃ (s : State), s.restoreHold = true ∧ s.is fMGMT_RESTORE_RESTORE_DONE = true ∧ s.is fMGMT_RESUME_AUTO_ARMED = true ∧ s.condClk =
      true ∧ s.condChain = true ∧ s.condCal = true) ∧
    (∃ (s : State), s.restoreHold = false ∨ s.is fMGMT_RESTORE_RESTORE_DONE = false ∨ s.is fMGMT_RESUME_AUTO_ARMED = false ∨ s.condClk
      = false ∨ s.condChain = false ∨ s.condCal = false) :=
  ⟨⟨State.reset, by decide +kernel⟩,
   ⟨({ State.reset with aonLock := true } : State), by decide +kernel⟩,
   ⟨({ State.reset with aonLock := true, mgmt := { State.reset.mgmt with aonKept := true } } : State), by decide +kernel⟩,
   ⟨({ State.reset with aonLock := true } : State), by decide +kernel⟩,
   ⟨({ State.reset with aonLock := true } : State), by decide +kernel⟩,
   ⟨(State.reset.flag fMGMT_RESUME_HOLD_ACTIVE).put fPWR_ENABLED_EN 0, by decide +kernel⟩,
   ⟨State.reset.flag fMGMT_RESTORE_RESTORE_DONE, by decide +kernel⟩,
   ⟨({ (State.reset.flag fMGMT_RESTORE_WAKE_HANDOFF).put fPWR_ENABLED_EN 128 with mgmt := { wakeMt := 40 } } : State), 7,
    by decide +kernel⟩,
   ⟨({ State.reset with mgmt := { wakeMt := 39 } } : State), by decide +kernel⟩,
   ⟨(State.reset.unflag fMGMT_RESUME_HOLD_ACTIVE).flag fMGMT_RESTORE_RESTORE_DONE, by decide +kernel⟩,
   ⟨State.reset, by decide +kernel⟩,
   ⟨(State.reset.flag fMGMT_RESUME_HOLD_ACTIVE).flag fMGMT_RESTORE_RESTORE_DONE, by decide +kernel⟩,
   ⟨(List.range 129).foldl (fun s u => s.setWord (recHdr u 0) (BitVec.ofNat 36 (2 ^ 35))) (((((State.reset.flag
    fMGMT_RESUME_HOLD_ACTIVE).flag fMGMT_RESTORE_RESTORE_DONE).flag fMGMT_RESUME_AUTO_ARMED).put fKEEPER_STATUS_STATE 0).flag
    fCAL_CFG_STORE), by decide +kernel⟩,
   ⟨State.reset.put fKEEPER_STATUS_STATE 1, by decide +kernel⟩⟩

/-- States and operands that meet the hypotheses of each clause of FaultReports. -/
theorem witness_FaultReports :
    (∃ (s : State), s.detected = []) ∧
    (∃ (s : State) (d : Det), s.detected = [d] ∧ s.isRepeat d = false ∧ 1 ≤ d.cls ∧ d.cls ≤ 25) ∧
    (∃ (s : State) (d : Det), s.detected = [d] ∧ s.isRepeat d = true) ∧
    (∃ (s : State) (p : Fin 2) (f : ChFrame) (crc : Fin (2 ^ 32)), s.chained = true ∧ s.portUp p.val = true ∧ (s.port p.val).heard =
      true ∧ f.typ = 4 ∧ frCrcOk f crc.val = true ∧ frLenOk f = true ∧ s.placed = true ∧ f.dst = s.addr ∧ f.dst ≠ 1023) ∧
    (∃ (s : State) (c : Fin 26), 1 ≤ c.val ∧ s.levelHolds c.val = false) ∧
    (∃ (s : State) (c : Fin 26), 1 ≤ c.val ∧ s.levelHolds c.val = true ∧ s.classBit fFAULT_ACTIVE_ACTIVE c.val = true) ∧
    (∃ (s : State), s.faultHold = false) ∧
    (∃ (s : State), s.faultHold = true ∧ (s.get fFAULT_ACTIVE_ACTIVE &&& s.get fFAULT_HOLD_EN_EN) ≠ 0) ∧
    (∃ (s : State), s.faultHold = true ∧ (s.get fFAULT_ACTIVE_ACTIVE &&& s.get fFAULT_HOLD_EN_EN) = 0) ∧
    (∃ (s : State) (pin : Fin 2), s.is (if pin.val = 0 then fFAULT_STATUS_FAULT_N else fFAULT_STATUS_INT_N) = true) ∧
    (∃ (s : State) (pin : Fin 2), s.is (if pin.val = 0 then fFAULT_STATUS_FAULT_N else fFAULT_STATUS_INT_N) = false) ∧
    (∃ (s : State), 2 * max 1 (s.get fFAULT_CFG_DET_PERIOD) ≤ s.selv.svcMt) ∧
    (∃ (s : State), s.selv.svcMt < 2 * max 1 (s.get fFAULT_CFG_DET_PERIOD)) ∧
    (∃ (s : State) (y : InjSt), s.selv.inj = some y ∧ y.done = false ∧ y.test = false) ∧
    (∃ (s : State), s.selv.inj.any (fun x => !x.done) = false) ∧
    (∃ (s : State) (y : InjSt) (u : Nat), s.selv.inj = some y ∧ s.is fFAULT_INJ_STATUS_BUSY = true ∧ y.test = false ∧ y.kind ≠ 22 ∧
      y.kind ≠ 4 ∧ s.injEnd y = some u) ∧
    (∃ (s : State) (y : InjSt) (u : Nat), s.selv.inj = some y ∧ s.is fFAULT_INJ_STATUS_BUSY = true ∧ y.test = false ∧ y.kind = 4 ∧
      s.injEnd y = some u) ∧
    (∃ (s : State) (y : InjSt) (u : Nat), s.selv.inj = some y ∧ s.is fFAULT_INJ_STATUS_BUSY = true ∧ y.test = false ∧ y.kind = 22 ∧
      s.injEnd y = some u) ∧
    (∃ (s : State) (y : InjSt), s.selv.inj = some y ∧ s.injEnd y = none) ∧
    (∃ (s : State), s.is fFAULT_INJ_STATUS_BUSY = false ∨ s.selv.inj = none) :=
  ⟨⟨State.reset, by decide +kernel⟩,
   ⟨({ State.reset.put fFAULT_LOG_PTR_WR 63 with detected := [{ cls := 25, unit := 3, sub := 1, detail := 5, masked := false, inst := 77, inj := false }] }
    : State), { cls := 25, unit := 3, sub := 1, detail := 5, masked := false, inst := 77, inj := false }, by decide +kernel⟩,
   ⟨({ State.reset.put fFAULT_ACTIVE_ACTIVE 1 with detected := [{ cls := 1, unit := 3, sub := 1, detail := 5, masked := false, inst := 77, inj := false }], selv := { pairs := [(1, 3)] } }
    : State), { cls := 1, unit := 3, sub := 1, detail := 5, masked := false, inst := 77, inj := false }, by decide +kernel⟩,
   ⟨((((State.reset.flag fCHAIN_CFG_ROLE).put fCHAIN_LINK_STATUS_STATE 2 1).flag fCHAIN_ADDR_PLACED).put fCHAIN_ADDR_ADDR 9).setPort
    1 { heard := true }, 1, ⟨4, 9, 1023, 0, 0, 0, [1, 2, 3, 4, 5]⟩, Fin.ofNat _ (frCrc (⟨4, 9, 1023, 0, 0, 0, [1, 2, 3, 4, 5]⟩)),
    by decide +kernel⟩,
   ⟨State.reset.put fFAULT_ACTIVE_ACTIVE (2 ^ 31 - 1), 25, by decide +kernel⟩,
   ⟨(State.reset.put fFAULT_ACTIVE_ACTIVE (2 ^ 31 - 1)).flag fPWR_THERM_SHUTDOWN, 22, by decide +kernel⟩,
   ⟨State.reset, by decide +kernel⟩,
   ⟨((State.reset.flag fFAULT_STATUS_FHOLD).put fFAULT_ACTIVE_ACTIVE 1).put fFAULT_HOLD_EN_EN 1, by decide +kernel⟩,
   ⟨State.reset.flag fFAULT_STATUS_FHOLD, by decide +kernel⟩,
   ⟨State.reset.flag fFAULT_STATUS_INT_N, 1, by decide +kernel⟩,
   ⟨State.reset, 1, by decide +kernel⟩,
   ⟨({ State.reset with selv := { svcMt := 1000000000 } } : State), by decide +kernel⟩,
   ⟨State.reset, by decide +kernel⟩,
   ⟨({ State.reset with selv := { inj := some { kind := 1, unit := 0, count := 1, value := 0, test := false, start := 0, left := 1 } } }
    : State), { kind := 1, unit := 0, count := 1, value := 0, test := false, start := 0, left := 1 }, by decide +kernel⟩,
   ⟨State.reset, by decide +kernel⟩,
   ⟨({ State.reset.flag fFAULT_INJ_STATUS_BUSY with selv := { inj := some { kind := 1, unit := 0, count := 1, value := 0, test := false, start := 0, left := 0 } } }
    : State), { kind := 1, unit := 0, count := 1, value := 0, test := false, start := 0, left := 0 }, 0, by decide +kernel⟩,
   ⟨({ State.reset.flag fFAULT_INJ_STATUS_BUSY with selv := { inj := some { kind := 4, unit := 0, count := 1, value := 0, test := false, start := 0, left := 1 } } }
    : State), { kind := 4, unit := 0, count := 1, value := 0, test := false, start := 0, left := 1 }, tAdd 0 (State.reset.usUp 1),
    by decide +kernel⟩,
   ⟨({ State.reset.flag fFAULT_INJ_STATUS_BUSY with selv := { rails := 1, inj := some { kind := 22, unit := 0, count := 1, value := 0, test := false, start := 0, left := 1 } } }
    : State), { kind := 22, unit := 0, count := 1, value := 0, test := false, start := 0, left := 1 }, tAdd 0 (State.reset.usUp
    1), by decide +kernel⟩,
   ⟨({ State.reset.flag fFAULT_INJ_STATUS_BUSY with selv := { inj := some { kind := 1, unit := 0, count := 1, value := 0, test := false, start := 0, left := 1 } } }
    : State), { kind := 1, unit := 0, count := 1, value := 0, test := false, start := 0, left := 1 }, by decide +kernel⟩,
   ⟨State.reset, by decide +kernel⟩⟩

/-- States and operands that meet the hypotheses of each clause of Injections. -/
theorem witness_Injections :
    (∃ (s : State) (unit : Fin 2048) (en : Bool), s.injReason en 1 unit.val = 0) ∧
    (∃ (s : State) (unit : Fin 2048) (en : Bool), s.injReason en 1 unit.val ≠ 0) ∧
    (∃ (s : State) (unit : Fin 2048) (en : Bool), s.injReason en 2 unit.val = 0) ∧
    (∃ (s : State) (unit : Fin 2048) (en : Bool), s.injReason en 2 unit.val ≠ 0) ∧
    (∃ (s : State) (unit : Fin 2048) (en : Bool), s.injReason en 3 unit.val = 0) ∧
    (∃ (s : State) (unit : Fin 2048) (en : Bool), s.injReason en 3 unit.val ≠ 0) ∧
    (∃ (s : State) (unit : Fin 2048) (en : Bool), s.injReason en 4 unit.val = 0) ∧
    (∃ (s : State) (unit : Fin 2048) (en : Bool), s.injReason en 4 unit.val = 0) ∧
    (∃ (s : State) (unit : Fin 2048) (en : Bool), s.injReason en 4 unit.val ≠ 0) ∧
    (∃ (s : State) (unit : Fin 2048) (en : Bool), s.injReason en 5 unit.val = 0) ∧
    (∃ (s : State) (unit : Fin 2048) (count : Fin 16384) (en : Bool) (s1 : State) (d : Int), s.injReason en 5 unit.val = 0 ∧ s1 =
      (s.injCtrl 5 unit.val count.val false).injStart 5 unit.val count.val false ∧ d = sgn 10 (getBits (s.word aFAULT_INJ_ARG) 26
      10) ∧ s1.free.2.watches s.nowT = true ∧ s1.free.2.psUp 5 < d.natAbs) ∧
    (∃ (s : State) (unit : Fin 2048) (count : Fin 16384) (en : Bool) (s1 : State) (d : Int), s.injReason en 5 unit.val = 0 ∧ s1 =
      (s.injCtrl 5 unit.val count.val false).injStart 5 unit.val count.val false ∧ d = sgn 10 (getBits (s.word aFAULT_INJ_ARG) 26
      10) ∧ s1.free.2.watches s.nowT = false ∨ d = 0 ∨ (d.natAbs ≤ s1.free.2.psUp 5 ∧ d.natAbs < s1.free.2.psUp 2)) ∧
    (∃ (s : State) (unit : Fin 2048) (en : Bool), s.injReason en 5 unit.val = 0) ∧
    (∃ (s : State) (unit : Fin 2048) (en : Bool), s.injReason en 5 unit.val ≠ 0) ∧
    (∃ (s : State) (unit : Fin 2048) (en : Bool), s.injReason en 6 unit.val = 0) ∧
    (∃ (s : State) (unit : Fin 2048) (en : Bool), s.injReason en 6 unit.val = 0) ∧
    (∃ (s : State) (unit : Fin 2048) (en : Bool), s.injReason en 6 unit.val ≠ 0) ∧
    (∃ (s : State) (unit : Fin 2048) (en : Bool), s.injReason en 7 unit.val = 0) ∧
    (∃ (s : State) (unit : Fin 2048) (en : Bool), s.injReason en 7 unit.val = 0) ∧
    (∃ (s : State) (unit : Fin 2048) (en : Bool), s.injReason en 7 unit.val ≠ 0) ∧
    (∃ (s : State) (unit : Fin 2048) (en : Bool), s.injReason en 8 unit.val = 0) ∧
    (∃ (s : State) (unit : Fin 2048) (en : Bool), s.injReason en 8 unit.val = 0) ∧
    (∃ (s : State) (unit : Fin 2048) (en : Bool), s.injReason en 8 unit.val ≠ 0) ∧
    (∃ (s : State) (unit : Fin 2048) (en : Bool), s.injReason en 9 unit.val = 0) ∧
    (∃ (s : State) (unit : Fin 2048) (en : Bool), s.injReason en 9 unit.val ≠ 0) ∧
    (∃ (s : State) (unit : Fin 2048) (en : Bool), s.injReason en 10 unit.val = 0) ∧
    (∃ (s : State) (unit : Fin 2048) (en : Bool), s.injReason en 10 unit.val ≠ 0) ∧
    (∃ (s : State) (unit : Fin 2048) (en : Bool), s.injReason en 11 unit.val = 0) ∧
    (∃ (s : State) (unit : Fin 2048) (en : Bool), s.injReason en 11 unit.val ≠ 0) ∧
    (∃ (s : State) (unit : Fin 2048) (en : Bool), s.injReason en 12 unit.val = 0) ∧
    (∃ (s : State) (unit : Fin 2048) (en : Bool), s.injReason en 12 unit.val ≠ 0) ∧
    (∃ (s : State) (unit : Fin 2048) (en : Bool), s.injReason en 13 unit.val = 0) ∧
    (∃ (s : State) (unit : Fin 2048) (en : Bool), s.injReason en 13 unit.val ≠ 0) ∧
    (∃ (s : State) (unit : Fin 2048) (en : Bool), s.injReason en 14 unit.val = 0) ∧
    (∃ (s : State) (unit : Fin 2048) (en : Bool), s.injReason en 14 unit.val ≠ 0) ∧
    (∃ (s : State) (unit : Fin 2048) (en : Bool), s.injReason en 15 unit.val = 0) ∧
    (∃ (s : State) (unit : Fin 2048) (en : Bool), s.injReason en 15 unit.val ≠ 0) ∧
    (∃ (s : State) (unit : Fin 2048) (en : Bool), s.injReason en 16 unit.val = 0) ∧
    (∃ (s : State) (unit : Fin 2048) (en : Bool), s.injReason en 16 unit.val = 0) ∧
    (∃ (s : State) (unit : Fin 2048) (en : Bool), s.injReason en 16 unit.val ≠ 0) ∧
    (∃ (s : State) (unit : Fin 2048) (en : Bool), s.injReason en 17 unit.val = 0) ∧
    (∃ (s : State) (unit : Fin 2048) (en : Bool), s.injReason en 17 unit.val ≠ 0) ∧
    (∃ (s : State) (unit : Fin 2048) (en : Bool), s.injReason en 18 unit.val = 0) ∧
    (∃ (s : State) (unit : Fin 2048) (en : Bool), s.injReason en 18 unit.val = 0) ∧
    (∃ (s : State) (unit : Fin 2048) (en : Bool), s.injReason en 18 unit.val ≠ 0) ∧
    (∃ (s : State) (unit : Fin 2048) (en : Bool), s.injReason en 19 unit.val = 0) ∧
    (∃ (s : State) (unit : Fin 2048) (en : Bool), s.injReason en 19 unit.val ≠ 0) ∧
    (∃ (s : State) (unit : Fin 2048) (en : Bool), s.injReason en 20 unit.val = 0) ∧
    (∃ (s : State) (unit : Fin 2048) (en : Bool), s.injReason en 20 unit.val ≠ 0) ∧
    (∃ (s : State) (unit : Fin 2048) (en : Bool), s.injReason en 21 unit.val = 0) ∧
    (∃ (s : State) (unit : Fin 2048) (en : Bool), s.injReason en 21 unit.val ≠ 0) ∧
    (∃ (s : State) (unit : Fin 2048) (en : Bool), s.injReason en 22 unit.val = 0) ∧
    (∃ (s : State) (unit : Fin 2048) (en : Bool), s.injReason en 22 unit.val = 0) ∧
    (∃ (s : State) (unit : Fin 2048) (en : Bool), s.injReason en 22 unit.val ≠ 0) ∧
    (∃ (s : State) (unit : Fin 2048) (en : Bool), s.injReason en 23 unit.val = 0) ∧
    (∃ (s : State) (unit : Fin 2048) (en : Bool), s.injReason en 23 unit.val = 0) ∧
    (∃ (s : State) (unit : Fin 2048) (en : Bool), s.injReason en 23 unit.val ≠ 0) ∧
    (∃ (s : State) (unit : Fin 2048) (en : Bool), s.injReason en 24 unit.val = 0) ∧
    (∃ (s : State) (unit : Fin 2048) (en : Bool), s.injReason en 24 unit.val = 0) ∧
    (∃ (s : State) (unit : Fin 2048) (en : Bool), s.injReason en 24 unit.val ≠ 0) ∧
    (∃ (kind : Fin 256), kind.val = 0 ∨ 24 < kind.val) ∧
    (∃ (kind : Fin 256), 1 ≤ kind.val ∧ kind.val ≤ 24) :=
  ⟨⟨((State.reset.flag fFAULT_INJ_CTRL_INJ_EN)), 0, true, by decide +kernel⟩,
   ⟨State.reset, 2047, false, by decide +kernel⟩,
   ⟨((State.reset.flag fFAULT_INJ_CTRL_INJ_EN)), 0, true, by decide +kernel⟩,
   ⟨State.reset, 2047, false, by decide +kernel⟩,
   ⟨((State.reset.flag fFAULT_INJ_CTRL_INJ_EN)), 0, true, by decide +kernel⟩,
   ⟨State.reset, 2047, false, by decide +kernel⟩,
   ⟨((State.reset.flag fFAULT_INJ_CTRL_INJ_EN)), 0, true, by decide +kernel⟩,
   ⟨((State.reset.flag fFAULT_INJ_CTRL_INJ_EN)), 0, true, by decide +kernel⟩,
   ⟨State.reset, 2047, false, by decide +kernel⟩,
   ⟨((State.reset.flag fFAULT_INJ_CTRL_INJ_EN)), 0, true, by decide +kernel⟩,
   ⟨((((((State.reset.flag fFAULT_INJ_CTRL_INJ_EN)) : State).setWord aFAULT_INJ_ARG (BitVec.ofNat 36 (100 * 2 ^ 26))).flag
    fCLK_STATUS_PLLW_LOCK).unflag fCLK_STATUS_WARP_SAFE), 0, 16383, true, (((((((State.reset.flag fFAULT_INJ_CTRL_INJ_EN)) :
    State).setWord aFAULT_INJ_ARG (BitVec.ofNat 36 (100 * 2 ^ 26))).flag fCLK_STATUS_PLLW_LOCK).unflag
    fCLK_STATUS_WARP_SAFE).injCtrl 5 0 16383 false).injStart 5 0 16383 false, 100, by decide +kernel⟩,
   ⟨((State.reset.flag fFAULT_INJ_CTRL_INJ_EN)), 0, 16383, true, ((((State.reset.flag fFAULT_INJ_CTRL_INJ_EN)) : State).injCtrl 5 0
    16383 false).injStart 5 0 16383 false, 0, by decide +kernel⟩,
   ⟨((State.reset.flag fFAULT_INJ_CTRL_INJ_EN)), 0, true, by decide +kernel⟩,
   ⟨State.reset, 2047, false, by decide +kernel⟩,
   ⟨((State.reset.flag fFAULT_INJ_CTRL_INJ_EN)), 0, true, by decide +kernel⟩,
   ⟨((State.reset.flag fFAULT_INJ_CTRL_INJ_EN)), 0, true, by decide +kernel⟩,
   ⟨State.reset, 2047, false, by decide +kernel⟩,
   ⟨((State.reset.flag fFAULT_INJ_CTRL_INJ_EN)).setWord aFAULT_INJ_ARG (BitVec.ofNat 36 ((aHEDDLE_LINE_SRC * 2 ^ 12 + 35 * 2 ^ 6))),
    0, true, by decide +kernel⟩,
   ⟨((State.reset.flag fFAULT_INJ_CTRL_INJ_EN)).setWord aFAULT_INJ_ARG (BitVec.ofNat 36 ((aHEDDLE_LINE_SRC * 2 ^ 12 + 35 * 2 ^ 6))),
    0, true, by decide +kernel⟩,
   ⟨State.reset, 2047, false, by decide +kernel⟩,
   ⟨((State.reset.flag fFAULT_INJ_CTRL_INJ_EN)).setWord aFAULT_INJ_ARG (BitVec.ofNat 36 (aHIST_TONE_MAP * 2 ^ 12 + 8 * 2 ^ 6)), 0,
    true, by decide +kernel⟩,
   ⟨((State.reset.flag fFAULT_INJ_CTRL_INJ_EN)).setWord aFAULT_INJ_ARG (BitVec.ofNat 36 (aHIST_TONE_MAP * 2 ^ 12 + 8 * 2 ^ 6)), 0,
    true, by decide +kernel⟩,
   ⟨State.reset, 2047, false, by decide +kernel⟩,
   ⟨((State.reset.flag fFAULT_INJ_CTRL_INJ_EN)), 0, true, by decide +kernel⟩,
   ⟨State.reset, 2047, false, by decide +kernel⟩,
   ⟨((State.reset.flag fFAULT_INJ_CTRL_INJ_EN)), 0, true, by decide +kernel⟩,
   ⟨State.reset, 2047, false, by decide +kernel⟩,
   ⟨((State.reset.flag fFAULT_INJ_CTRL_INJ_EN)), 0, true, by decide +kernel⟩,
   ⟨State.reset, 2047, false, by decide +kernel⟩,
   ⟨((State.reset.flag fFAULT_INJ_CTRL_INJ_EN)), 0, true, by decide +kernel⟩,
   ⟨State.reset, 2047, false, by decide +kernel⟩,
   ⟨((State.reset.flag fFAULT_INJ_CTRL_INJ_EN)), 0, true, by decide +kernel⟩,
   ⟨State.reset, 2047, false, by decide +kernel⟩,
   ⟨((State.reset.flag fFAULT_INJ_CTRL_INJ_EN)), 0, true, by decide +kernel⟩,
   ⟨State.reset, 2047, false, by decide +kernel⟩,
   ⟨((State.reset.flag fFAULT_INJ_CTRL_INJ_EN)), 0, true, by decide +kernel⟩,
   ⟨State.reset, 2047, false, by decide +kernel⟩,
   ⟨((State.reset.flag fFAULT_INJ_CTRL_INJ_EN)), 8, true, by decide +kernel⟩,
   ⟨((State.reset.flag fFAULT_INJ_CTRL_INJ_EN)), 8, true, by decide +kernel⟩,
   ⟨State.reset, 2047, false, by decide +kernel⟩,
   ⟨((State.reset.flag fFAULT_INJ_CTRL_INJ_EN)), 0, true, by decide +kernel⟩,
   ⟨State.reset, 2047, false, by decide +kernel⟩,
   ⟨((State.reset.flag fFAULT_INJ_CTRL_INJ_EN)), 0, true, by decide +kernel⟩,
   ⟨((State.reset.flag fFAULT_INJ_CTRL_INJ_EN)), 0, true, by decide +kernel⟩,
   ⟨State.reset, 2047, false, by decide +kernel⟩,
   ⟨((State.reset.flag fFAULT_INJ_CTRL_INJ_EN)), 0, true, by decide +kernel⟩,
   ⟨State.reset, 2047, false, by decide +kernel⟩,
   ⟨((State.reset.flag fFAULT_INJ_CTRL_INJ_EN)), 0, true, by decide +kernel⟩,
   ⟨State.reset, 2047, false, by decide +kernel⟩,
   ⟨((State.reset.flag fFAULT_INJ_CTRL_INJ_EN)), 0, true, by decide +kernel⟩,
   ⟨State.reset, 2047, false, by decide +kernel⟩,
   ⟨((State.reset.flag fFAULT_INJ_CTRL_INJ_EN)), 0, true, by decide +kernel⟩,
   ⟨((State.reset.flag fFAULT_INJ_CTRL_INJ_EN)), 0, true, by decide +kernel⟩,
   ⟨State.reset, 2047, false, by decide +kernel⟩,
   ⟨((State.reset.flag fFAULT_INJ_CTRL_INJ_EN)), 0, true, by decide +kernel⟩,
   ⟨((State.reset.flag fFAULT_INJ_CTRL_INJ_EN)), 0, true, by decide +kernel⟩,
   ⟨State.reset, 2047, false, by decide +kernel⟩,
   ⟨((State.reset.flag fFAULT_INJ_CTRL_INJ_EN)), 0, true, by decide +kernel⟩,
   ⟨((State.reset.flag fFAULT_INJ_CTRL_INJ_EN)), 0, true, by decide +kernel⟩,
   ⟨State.reset, 2047, false, by decide +kernel⟩,
   ⟨255, by decide +kernel⟩,
   ⟨24, by decide +kernel⟩⟩

/-- States and operands that meet the hypotheses of each clause of AgeingAndMonitors. -/
theorem witness_AgeingAndMonitors :
    (∃ (s : State), s.get fHEALTH_DAY_MT_DAY_MT < dayTicks) ∧
    (∃ (s : State), dayTicks ≤ s.get fHEALTH_DAY_MT_DAY_MT) ∧
    (∃ (s : State) (a : List (Fin 4096)) (e : Fin 16), e.val < a.length ∧ s.is fMON_SEQ_EN e.val = true) ∧
    (∃ (s : State), s.resFree 30 true = true) ∧
    (∃ (s : State), s.resFree 30 true = false) ∧
    (∃ (s : State) (means : List (Fin 3 × Fin 4 × Nat)), s.is fMON_SELFTEST_BUSY = true ∧ s.lamps.stopB = true ∧ selftestPairs.all
      (fun p => means.any (fun m => m.1 == p.1 && m.2.1 == p.2)) = true ∧ means.all (fun m => decide (((m.2.2 : Int) - (monRef
      m.1.val : Nat)).natAbs ≤ s.get fMON_CFG_XCHK_TOL)) = true) ∧
    (∃ (s : State) (means : List (Fin 3 × Fin 4 × Nat)), s.is fMON_SELFTEST_BUSY = true ∧ s.lamps.stopB = true ∧ selftestPairs.all
      (fun p => means.any (fun m => m.1 == p.1 && m.2.1 == p.2)) = true ∧ means.any (fun m => decide (s.get fMON_CFG_XCHK_TOL <
      ((m.2.2 : Int) - (monRef m.1.val : Nat)).natAbs)) = true) ∧
    (∃ (s : State) (means : List (Fin 3 × Fin 4 × Nat)), s.is fMON_SELFTEST_BUSY = false ∨ s.lamps.stopB = false ∨ selftestPairs.all
      (fun p => means.any (fun m => m.1 == p.1 && m.2.1 == p.2)) = false) :=
  ⟨⟨State.reset.put fHEALTH_DAY_MT_DAY_MT 345599999, by decide +kernel⟩,
   ⟨State.reset.put fHEALTH_DAY_MT_DAY_MT 345600000, by decide +kernel⟩,
   ⟨({ State.reset.flag fMON_SEQ_EN 0 with lamps := { State.reset.lamps with stopB := true } } : State), [4095], 0,
    by decide +kernel⟩,
   ⟨State.reset, by decide +kernel⟩,
   ⟨State.reset.put fMAINT_OWNER_WRITER 13 30, by decide +kernel⟩,
   ⟨({ State.reset.flag fMON_SELFTEST_BUSY with lamps := { State.reset.lamps with stopB := true } } : State), [(0, 0, 8192), (0, 1,
    8192), (0, 2, 8192), (0, 3, 8192), (1, 0, 32768), (1, 1, 32768), (2, 0, 57344)], by decide +kernel⟩,
   ⟨({ State.reset.flag fMON_SELFTEST_BUSY with lamps := { State.reset.lamps with stopB := true } } : State), [(0, 0, 8192), (0, 1,
    8192), (0, 2, 8192), (0, 3, 8192), (1, 0, 32768), (1, 1, 32768), (2, 0, 65535)], by decide +kernel⟩,
   ⟨State.reset, [], by decide +kernel⟩⟩

/-- States and operands that meet the hypotheses of each clause of LampFramesAndPulses. -/
theorem witness_LampFramesAndPulses :
    (∃ (s : State), s.is fLAMP_FRAME_CFG_FS_SRC = true) ∧
    (∃ (s : State) (ticks : Nat), s.is fLAMP_FRAME_CFG_FS_SRC = false ∧ s.lamps.fresh = false ∧ s.lamps.running = true ∧ ticks ≤ 1) ∧
    (∃ (s : State) (ticks : Nat), s.is fLAMP_FRAME_CFG_FS_SRC = false ∧ s.lamps.fresh = false ∧ s.lamps.running = true ∧ 1 < ticks ∧
      100 * ticks < 99 * s.frameTicks) ∧
    (∃ (s : State) (ticks : Nat), s.is fLAMP_FRAME_CFG_FS_SRC = false ∧ s.lamps.fresh = false ∧ s.lamps.running = true ∧ 1 < ticks ∧
      99 * s.frameTicks ≤ 100 * ticks ∧ 100 * ticks ≤ 101 * s.frameTicks) ∧
    (∃ (s : State) (ticks : Nat), s.is fLAMP_FRAME_CFG_FS_SRC = false ∧ s.lamps.fresh = false ∧ s.lamps.running = true ∧ 1 < ticks ∧
      101 * s.frameTicks < 100 * ticks) ∧
    (∃ (s : State), s.is fLAMP_FRAME_CFG_FS_SRC = false ∧ s.lamps.running = false) ∧
    (∃ (s : State), s.is fLAMP_FRAME_CFG_FS_SRC = true) ∧
    (∃ (s : State), s.is fLAMP_FRAME_CFG_FS_SRC = false ∧ s.lamps.running = true) ∧
    (∃ (s : State), s.is fLAMP_FRAME_CFG_FS_SRC = false ∧ s.lamps.running = false) ∧
    (∃ (s : State) (l : Fin 32), s.lamps.running = false ∨ s.lampClass l.val ≠ 1 ∨ (s.get fLAMP_PULSE_B_COUNT l.val ≠ 0 ∧ s.get
      fLAMP_PULSE_B_COUNT l.val ≤ (s.lamp l.val).k) ∨ s.frameTicks ≤ 4 * s.get fLAMP_PULSE_A_OFFSET l.val + (s.lamp l.val).k *
      s.lampPeriod l.val) ∧
    (∃ (s : State) (l : Fin 32), s.lamps.running = true ∧ s.lampClass l.val = 1 ∧ s.get fLAMP_PULSE_B_COUNT l.val = 0 ∨ (s.lamp
      l.val).k < s.get fLAMP_PULSE_B_COUNT l.val ∧ 4 * s.get fLAMP_PULSE_A_OFFSET l.val + (s.lamp l.val).k * s.lampPeriod l.val <
      s.frameTicks ∧ s.lampForced l.val = true) ∧
    (∃ (s : State) (l : Fin 32), s.lamps.running = true ∧ s.lampClass l.val = 1 ∧ s.get fLAMP_PULSE_B_COUNT l.val = 0 ∨ (s.lamp
      l.val).k < s.get fLAMP_PULSE_B_COUNT l.val ∧ 4 * s.get fLAMP_PULSE_A_OFFSET l.val + (s.lamp l.val).k * s.lampPeriod l.val <
      s.frameTicks ∧ s.lampForced l.val = false ∧ s.is fLAMP_STAT_OC_LATCH l.val = false ∧ s.matrix = false ∧ 8 ≤ s.get
      fLAMP_PULSE_A_WIDTH l.val ∧ s.get fLAMP_PULSE_A_WIDTH l.val ≤ s.widthCap l.val ∧ l.val < s.lamps.outs.length) ∧
    (∃ (s : State) (l : Fin 32), s.lamps.running = false ∨ s.emitsB l.val = false ∨ s.lampSlots ≤ (s.lamp l.val).n) ∧
    (∃ (s : State) (l : Fin 32), s.lamps.running = true ∧ s.emitsB l.val = true ∧ (s.lamp l.val).n < s.lampSlots ∧ s.lampForced l.val
      = false ∧ s.is fLAMP_STAT_OC_LATCH l.val = false ∧ s.matrix = false ∧ (s.lamp l.val).stretch ≠ some (s.lamp l.val).n ∧ 8 ≤
      s.onTicks l.val (s.lamp l.val).n ∧ l.val < s.lamps.outs.length) ∧
    (∃ (s : State) (l : Fin 32), s.lamps.running = true ∧ s.emitsB l.val = true ∧ (s.lamp l.val).n < s.lampSlots ∧ s.lampForced l.val
      = false ∧ s.is fLAMP_STAT_OC_LATCH l.val = false ∧ s.matrix = false ∧ (s.lamp l.val).stretch = some (s.lamp l.val).n ∧ l.val
      < s.lamps.outs.length) ∧
    (∃ (s : State) (l : Fin 32), (s.lamp l.val).win = none ∨ s.lampForced l.val = true) ∧
    (∃ (s : State) (l : Fin 32), (s.lamp l.val).win ≠ none ∧ s.lampForced l.val = false ∧ l.val < s.lamps.outs.length) ∧
    (∃ (s : State) (l : Fin 32), s.lamps.running = true ∧ s.emitsB l.val = true ∧ (s.lamp l.val).n < s.lampSlots ∧ s.lampForced l.val
      = true) :=
  ⟨⟨State.reset.flag fLAMP_FRAME_CFG_FS_SRC, by decide +kernel⟩,
   ⟨({ State.reset with lamps := { State.reset.lamps with running := true, fresh := false } } : State), 1, by decide +kernel⟩,
   ⟨({ State.reset.put fLAMP_FRAME_CFG_FRAME_LEN 10 with lamps := { State.reset.lamps with running := true, fresh := false } } :
    State), 3959, by decide +kernel⟩,
   ⟨({ State.reset.put fLAMP_FRAME_CFG_FRAME_LEN 10 with lamps := { State.reset.lamps with running := true, fresh := false } } :
    State), 3960, by decide +kernel⟩,
   ⟨({ State.reset.put fLAMP_FRAME_CFG_FRAME_LEN 10 with lamps := { State.reset.lamps with running := true, fresh := false } } :
    State), 4041, by decide +kernel⟩,
   ⟨State.reset, by decide +kernel⟩,
   ⟨State.reset.flag fLAMP_FRAME_CFG_FS_SRC, by decide +kernel⟩,
   ⟨({ State.reset with lamps := { State.reset.lamps with running := true } } : State), by decide +kernel⟩,
   ⟨State.reset, by decide +kernel⟩,
   ⟨State.reset, 31, by decide +kernel⟩,
   ⟨({ ((State.reset.put fLAMP_FRAME_CFG_FRAME_LEN 10).put fLAMP_CFG_CLASS 1 31).flag fMGMT_RESUME_HOLD_ACTIVE with lamps := { State.reset.lamps with running := true } }
    : State), 31, by decide +kernel⟩,
   ⟨({ (((((State.reset.put fLAMP_FRAME_CFG_FRAME_LEN 10).put fLAMP_CFG_CLASS 1 31).unflag fMGMT_RESUME_HOLD_ACTIVE).put fLAMP_PULSE_A_WIDTH 8 31).put fLAMP_CFG_DUTY_CAP 4095 31).put fLIGHT_LOCK_IL_LATCH 0 with lamps := { State.reset.lamps with running := true } }
    : State), 31, by decide +kernel⟩,
   ⟨State.reset, 31, by decide +kernel⟩,
   ⟨({ (((((State.reset.put fLAMP_FRAME_CFG_FRAME_LEN 10).put fLAMP_CFG_CLASS 2 31).unflag fMGMT_RESUME_HOLD_ACTIVE).put fFRAME_SHADOW_LEVEL 4095 31).put fLAMP_CFG_DUTY_CAP 4095 31).put fLIGHT_LOCK_IL_LATCH 0 with lamps := { State.reset.lamps with running := true } }
    : State), 31, by decide +kernel⟩,
   ⟨({ (((((State.reset.put fLAMP_FRAME_CFG_FRAME_LEN 10).put fLAMP_CFG_CLASS 2 31).unflag fMGMT_RESUME_HOLD_ACTIVE).put fFRAME_SHADOW_LEVEL 100 31).put fLAMP_CFG_DUTY_CAP 4095 31).put fLIGHT_LOCK_IL_LATCH 0 with lamps := { State.reset.lamps with running := true, outs := State.reset.lamps.outs.set 31 { stretch := some 0 } } }
    : State), 31, by decide +kernel⟩,
   ⟨State.reset, 31, by decide +kernel⟩,
   ⟨((State.reset.unflag fMGMT_RESUME_HOLD_ACTIVE).put fLIGHT_LOCK_IL_LATCH 0).setLamp 31 { win := some (5, 9), cuts := 2 }, 31,
    by decide +kernel⟩,
   ⟨({ ((State.reset.put fLAMP_FRAME_CFG_FRAME_LEN 10).put fLAMP_CFG_CLASS 2 31).flag fMGMT_RESUME_HOLD_ACTIVE with lamps := { State.reset.lamps with running := true } }
    : State), 31, by decide +kernel⟩⟩

/-- States and operands that meet the hypotheses of each clause of StepTakesFront. -/
theorem witness_StepTakesFront : ∃ (s : State), s.pending = [] :=
  ⟨State.reset, by decide +kernel⟩

/-- States and operands that meet the hypotheses of each clause of StepKeepsCanon. -/
theorem witness_StepKeepsCanon : ∃ (s t : State), s.Canon ∧ step s = .next t :=
  ⟨State.reset, State.reset.idle, ⟨⟨rfl, rfl, rfl⟩, rfl⟩⟩

/-- States and operands that meet the hypotheses of each clause of ExecKeepsQueue. -/
theorem witness_ExecKeepsQueue : ∃ (c : Instr) (s t : State), exec c s = .next t :=
  ⟨.tbNowRead, State.reset, (execTbNowRead State.reset).after State.reset, rfl⟩

/-- States and operands that meet the hypotheses of each clause of FirstLateRecord. -/
theorem witness_FirstLateRecord : ∃ (s s' : State) (src : Fin 7) (fw : Option DueCmd) (c : DueCmd), s' =
    (match fw with | some d => s.sendDue { d with src := src.val } | none => s) ∧ s'.hsf.find? (fun d => d.src == src.val) = some
    c ∧ s'.store.length < 256 ∧ ∀ l, c.target = .line l → s'.lineAccepts l.val c = true ∧ tDiff (tFloor c.due) (wcs (s'.now + 64))
    < 0 :=
  ⟨{ State.reset with hsf := [⟨.mout 7, 3, wcs 63, 6⟩] }, { State.reset with hsf := [⟨.mout 7, 3, wcs 63, 6⟩] }, 6, none, ⟨.mout 7,
    3, wcs 63, 6⟩, by decide +kernel⟩

/-- States and operands that meet the hypotheses of each clause of ResumeEarly. -/
theorem witness_ResumeEarly :
    (∃ (s : State), s.is fMGMT_RESTORE_RESTORE_DONE = false) ∧
    (∃ (s : State), s.is fMGMT_RESTORE_RESTORE_DONE = true ∧ s.restoreHold = true ∧ s.fwState = 0) ∧
    (∃ (s : State), s.is fMGMT_RESTORE_RESTORE_DONE = true ∧ s.restoreHold = true ∧ s.fwState = 0 ∧ s.is fMGMT_RESUME_AUTO_ARMED =
      true ∧ s.condClk = true ∧ s.condChain = true ∧ s.condCal = true) :=
  ⟨⟨State.reset.flag fMGMT_RESUME_HOLD_ACTIVE, by decide +kernel⟩,
   ⟨(State.reset.flag fMGMT_RESUME_HOLD_ACTIVE).flag fMGMT_RESTORE_RESTORE_DONE, by decide +kernel⟩,
   ⟨(List.range 129).foldl (fun s u => s.setWord (recHdr u 0) (BitVec.ofNat 36 (2 ^ 35))) (((((State.reset.flag
    fMGMT_RESUME_HOLD_ACTIVE).flag fMGMT_RESTORE_RESTORE_DONE).flag fMGMT_RESUME_AUTO_ARMED).put fKEEPER_STATUS_STATE 0).flag
    fCAL_CFG_STORE), by decide +kernel⟩⟩

/-- States and operands that meet the hypotheses of each clause of ClockGrid. -/
theorem witness_ClockGrid : ∃ (per : Nat), 0 < per :=
  ⟨7, by decide +kernel⟩

/-- States and operands that meet the hypotheses of each clause of RegisterFieldsRead. -/
theorem witness_RegisterFieldsRead : ∃ (s : State) (path : Fin 6) (a : Fin 16777216), path.val ≠ 0 ∧ s.pathOpen path.val = true ∧
    s.mustWait a.val = false ∧ (regAt a.val).map (fun r => s.domAccess r.dom) = some true ∧ s.readEffect a.val = s ∧ s.evts = [] ∧
    a.val ≠ aBOLT_POOL_LOW :=
  ⟨(State.reset.put fPWR_STATE_STATE (27 + 3 * 2 ^ 21)).setWord aCHAIN_TRIG_LO 77, 2, Fin.ofNat _ aCHAIN_TRIG_LO, by decide +kernel⟩

/-- States and operands that meet the hypotheses of each clause of LiveWordWrite. -/
theorem witness_LiveWordWrite : ∃ (s : State) (a : Fin 16777216), a.val = aCHAIN_TRIG_LO ∨ a.val = aHOST_STROBE_HI ∧ (regAt
    a.val).map (fun r => s.domAccess r.dom) = some true :=
  ⟨State.reset.put fPWR_STATE_STATE (27 + 3 * 2 ^ 21), Fin.ofNat _ aCHAIN_TRIG_LO, by decide +kernel⟩

end
end

/-! # Register access: what a write and a read of one word by a path do (R9, R460, R466, R468) -/

namespace Sys2Proof.Machine

/-! ### One word on the bus -/

section
variable {s : State} {path a : Nat}

theorem State.busWrite_unmapped (w : Word) (h : regAt a = none) :
    s.busWrite path a w = (if path = 4 then s else s.flag fHOST_STATUS_ACC_ERR, false) := by
  simp only [State.busWrite, h]

theorem State.busWrite_off (w : Word) (h : (regAt a).map (fun r => s.domAccess r.dom) = some false) :
    s.busWrite path a w = (s.flag fHOST_STATUS_ACC_ERR, true) := by
  obtain ⟨r, hr, hd⟩ := Option.map_eq_some_iff.mp h
  simp [State.busWrite, hr, hd]

theorem State.busWrite_on (w : Word) (h : (regAt a).map (fun r => s.domAccess r.dom) = some true) :
    s.busWrite path a w = (s.writeAll path a w, true) := by
  obtain ⟨r, hr, hd⟩ := Option.map_eq_some_iff.mp h
  simp [State.busWrite, hr, hd]

theorem State.busRead_unmapped (h : regAt a = none) :
    s.busRead path a = (0, if path = 4 then s else s.flag fHOST_STATUS_ACC_ERR, false) := by
  simp only [State.busRead, h]

theorem State.busRead_off (h : (regAt a).map (fun r => s.domAccess r.dom) = some false) :
    s.busRead path a = (0, s.flag fHOST_STATUS_ACC_ERR, true) := by
  obtain ⟨r, hr, hd⟩ := Option.map_eq_some_iff.mp h
  simp [State.busRead, hr, hd]

theorem State.busRead_on (h : (regAt a).map (fun r => s.domAccess r.dom) = some true) :
    s.busRead path a = ((s.readEffect a).readValue a, (s.readEffect a).clearRc a, true) := by
  obtain ⟨r, hr, hd⟩ := Option.map_eq_some_iff.mp h
  simp [State.busRead, hr, hd]

end

/-! ### The commands of one word -/

section
variable {s : State} {path : Fin 6} {a : Fin 16777216}

theorem exec_registerWrite_stays {w : Word} {whole : Bool} (h : s.pathOpen path.val = false ∨ s.mustWait a.val = true) :
    exec (.registerWrite path a w whole) s = .next s :=
  if_pos (h.imp_left (by simp [·]))

theorem exec_readClear_stays {size : Fin 4} (h : s.pathOpen path.val = false ∨ s.mustWait a.val = true) :
    exec (.readClear path a size) s = .next s :=
  if_pos (h.imp_left (by simp [·]))

variable (ho : s.pathOpen path.val = true) (hw : s.mustWait a.val = false)
include ho hw

theorem access_goes : ¬ (¬ s.pathOpen path.val = true ∨ s.mustWait a.val = true) := by
  simp [ho, hw]

theorem exec_registerWrite {w : Word} {whole : Bool} (hb : path.val = 0 → whole = true) :
    exec (.registerWrite path a w whole) s = .next (s.busWrite path.val a.val w).1 :=
  (if_neg (access_goes ho hw)).trans (if_neg fun ⟨hp, hn⟩ => hn (hb hp))

theorem exec_registerWrite_part {w : Word} (hp : path.val = 0) :
    exec (.registerWrite path a w false) s = .next (s.flag fHOST_STATUS_ACC_ERR) :=
  (if_neg (access_goes ho hw)).trans (if_pos ⟨hp, Bool.false_ne_true⟩)

theorem exec_readClear_words {size : Fin 4} (hp : path.val ≠ 0) : exec (.readClear path a size) s =
    .next ((s.busRead path.val a.val).2.1.send (.words path.val [(s.busRead path.val a.val).1])) :=
  (if_neg (access_goes ho hw)).trans <| (if_neg fun h => hp h.1).trans <|
    congrArg (fun o => Host.Outcome.next ((s.busRead path.val a.val).2.1.send o)) (if_neg hp)

theorem exec_readClear_bar {size : Fin 4} (hp : path.val = 0) (hz : size.val ≠ 3) : exec (.readClear path a size) s =
    .next ((s.busRead path.val a.val).2.1.send (.bar (slotHalf size.val (s.busRead path.val a.val).1.toNat))) :=
  (if_neg (access_goes ho hw)).trans <| (if_neg fun h => hz h.2).trans <|
    congrArg (fun o => Host.Outcome.next ((s.busRead path.val a.val).2.1.send o)) (if_pos hp)

theorem exec_readClear_badSize {size : Fin 4} (hp : path.val = 0) (hz : size.val = 3) :
    exec (.readClear path a size) s = .next (s.flag fHOST_STATUS_ACC_ERR) :=
  (if_neg (access_goes ho hw)).trans (if_pos ⟨hp, hz⟩)

end


/-! ### LOW_FREE (chapter 12) -/

/-- The count of free cells fits LOW_FREE. -/
theorem State.freeCells_lt (s : State) : s.freeCells < 2 ^ fldWidth fBOLT_POOL_LOW_LOW_FREE :=
  lt_of_le_of_lt (Nat.sub_le 524288 _) (by decide)

theorem State.clearRc_boltPoolLow (s : State) : s.clearRc aBOLT_POOL_LOW = s.put fBOLT_POOL_LOW_LOW_FREE s.freeCells := if_pos rfl

theorem exec_readClear_boltPoolLow {s : State} {a : Fin 16777216} {size : Fin 4} (ha : a.val = aBOLT_POOL_LOW)
    (hd : (regAt a.val).map (fun r => s.domAccess r.dom) = some true) (he : s.readEffect a.val = s) :
    ∃ t, exec (.readClear 2 a size) s = .next t ∧ t.get fBOLT_POOL_LOW_LOW_FREE = s.freeCells ∧ Only [aBOLT_POOL_LOW] s t := by
  have hw : s.mustWait a.val = false := by rw [ha]; exact Bool.and_false _
  refine ⟨_, exec_readClear_words rfl hw (by decide), ?_, fun b hb => ?_⟩ <;>
    rw [State.busRead_on hd, he, ha, State.clearRc_boltPoolLow]
  · exact (State.get_put_same s _ _ 0 (by decide)).trans (Nat.mod_eq_of_lt (State.freeCells_lt s))
  · exact State.word_put_ne s _ _ fun h => hb (List.mem_singleton.mpr h)

/-! ### Serial and JTAG access (R466) -/

section
variable {s : State} {a : Fin 16777216}

theorem exec_regacc_write {w : Word} (h : s.mustWait a.val = false) :
    exec (.regacc true a w) s = .next ((s.send (.words 3 [s.host.jtag])).busWrite 3 a.val w).1 :=
  if_neg (by simp [h])

theorem exec_regacc_read {w : Word} (h : s.mustWait a.val = false)
    (hd : (regAt a.val).map (fun r => s.domAccess r.dom) = some true) :
    ∃ t, exec (.regacc false a w) s = .next t ∧
      t.host.jtag = ((s.send (.words 3 [s.host.jtag])).readEffect a.val).readValue a.val :=
  ⟨_, if_neg (by simp [h]), congrArg Prod.fst (State.busRead_on (s := s.send (.words 3 [s.host.jtag])) (path := 3) hd)⟩

end

/-- Settles O36: `busWrite` and `busRead` are read by the address (unmapped, its domain off, its domain accessible), and each
command by its conditions. A half read that acts on the whole word is log entry 90, the domain states with access log entry 9, and the
free status byte of SPI log entry 58. -/
theorem registerAccess : Obligations.RegisterAccess := by
  unfold Obligations.RegisterAccess
  refine ⟨?_, ?_, ?_, ?_, ?_, ?_, ?_, ?_, ?_, ?_, ?_, ?_, ?_, ?_, ?_, ?_, ?_, ?_, ?_, ?_, ?_, ?_, ?_⟩
  · intro s path a w ho hw hd
    rw [exec_registerWrite ho hw fun _ => rfl, State.busWrite_on w hd]
  · intro s path a w ho hw hd
    rw [exec_registerWrite ho hw fun _ => rfl, State.busWrite_off w hd]
  · intro s path a w ho hw hn hp
    rw [exec_registerWrite ho hw fun _ => rfl, State.busWrite_unmapped w hn, if_neg hp]
  · intro s a w whole hw hn
    rw [exec_registerWrite rfl hw fun h => absurd h (by decide), State.busWrite_unmapped w hn]
    rfl
  · exact fun s a w ho hw => exec_registerWrite_part ho hw rfl
  · exact fun s path a w whole h => exec_registerWrite_stays h
  · intro s path a size hp ho hw hd
    rw [exec_readClear_words ho hw hp, State.busRead_on hd]
  · intro s a size hz ho hw hd
    rw [exec_readClear_bar ho hw rfl hz, State.busRead_on hd]
  · intro s path a size hp ho hw hd
    rw [exec_readClear_words ho hw hp, State.busRead_off hd]
  · intro s a size hz ho hw hd
    rw [exec_readClear_bar ho hw rfl hz, State.busRead_off hd]
    simp [slotHalf]
  · intro s path a size hp hc ho hw hn
    rw [exec_readClear_words ho hw hp, State.busRead_unmapped hn, if_neg hc]
  · intro s a size hw hn
    rw [exec_readClear_words rfl hw (by decide), State.busRead_unmapped hn]
    rfl
  · exact fun s a ho hw => exec_readClear_badSize ho hw rfl rfl
  · exact fun s a size ha hd he => exec_readClear_boltPoolLow ha hd he
  · exact fun s path a size h => exec_readClear_stays h
  · exact fun s a ws h => if_neg (by simp [h])
  · exact fun s a n h => if_neg (by simp [h])
  · exact fun s a ws h => if_pos h
  · exact fun s a n h => if_pos h
  · exact fun s => ⟨_, rfl, rfl, rfl, rfl⟩
  · exact fun s a w h => exec_regacc_write h
  · exact fun s a w h hd => exec_regacc_read h hd
  · exact fun s write a w h => if_pos h

/-! ### RC fields (R9, R10) -/

theorem Fld.get_eq_zero_iff (f : Fld) (w : Word) : f.get w = 0 ↔ ∀ i < fldWidth f, w.toNat.testBit (f.lo + i) = false := by
  constructor
  · intro h i hi
    have hb := testBit_natBits w.toNat f.lo (fldWidth f) i
    rw [show natBits w.toNat f.lo (fldWidth f) = 0 from h] at hb
    simpa [hi] using hb.symm
  · intro h
    refine Nat.eq_of_testBit_eq fun i => ?_
    rw [Fld.get, getBits, testBit_natBits, Nat.zero_testBit]
    by_cases hi : i < fldWidth f
    · rw [h i hi, Bool.and_false]
    · simp [hi]

/-- Clearing a field sets no bit. -/
theorem Fld.testBit_clear (f : Fld) (w : Word) (j : Nat) :
    (f.set w 0).toNat.testBit j = (w.toNat.testBit j && !decide (f.lo ≤ j ∧ j < f.lo + fldWidth f)) := by
  by_cases hj : j < 36
  · rw [Fld.set, testBit_setBits _ _ _ _ _ hj]
    split <;> simp [*]
  · have (x : Word) : x.toNat.testBit j = false :=
      Nat.testBit_lt_two_pow (lt_of_lt_of_le x.isLt (Nat.pow_le_pow_right (by decide) (not_lt.mp hj)))
    rw [this, this, Bool.false_and]

theorem Fld.get_clear_same (f : Fld) (w : Word) : f.get (f.set w 0) = 0 := by
  rw [Fld.get_eq_zero_iff]
  intro i hi
  simp [Fld.testBit_clear, hi]

theorem Fld.get_clear_of_zero (f g : Fld) {w : Word} (h : g.get w = 0) : g.get (f.set w 0) = 0 := by
  rw [Fld.get_eq_zero_iff] at h ⊢
  intro i hi
  rw [Fld.testBit_clear, h i hi, Bool.false_and]

/-- Fields cleared in turn all read zero, even where they share bits. -/
theorem get_foldl_clear {fs : List Fld} {g : Fld} {w : Word} (h : g ∈ fs ∨ g.get w = 0) :
    g.get (fs.foldl (fun w f => f.set w 0) w) = 0 := by
  induction fs generalizing w with
  | nil => exact h.resolve_left List.not_mem_nil
  | cons f fs ih =>
    refine ih ?_
    rcases h with h | h
    · rcases List.mem_cons.mp h with rfl | h
      · exact .inr (Fld.get_clear_same g w)
      · exact .inl h
    · exact .inr (Fld.get_clear_of_zero f g h)

section
variable {s : State} {a : Nat}

theorem State.rcKept_of_no_evts (h : s.evts = []) (f : Fld) : s.rcKept a f = 0 := by
  simp [State.rcKept, State.evtAt, h]

variable (ha : a ≠ aBOLT_POOL_LOW)
include ha

/-- What clearing the RC fields of a word can do: nothing where it has none, and else store the word with them at what they keep. -/
theorem State.clearRc_cases : ((fieldsAt a).filter (fun f => f.acc == .rc) = [] ∧ s.clearRc a = s) ∨
    ∃ e, s.clearRc a = { s.setWord a (((fieldsAt a).filter (fun f => f.acc == .rc)).foldl
      (fun w f => f.set w (s.rcKept a f)) (s.word a)) with evts := e } := by
  unfold State.clearRc
  rw [if_neg ha]
  dsimp only
  split
  · exact .inl ⟨‹_›, rfl⟩
  · exact .inr ⟨_, rfl⟩

theorem only_clearRc : Only [a] s (s.clearRc a) := by
  intro b hb
  rcases State.clearRc_cases (s := s) ha with ⟨-, h⟩ | ⟨e, h⟩ <;> rw [h]
  exact (State.word_setWord s a b _).trans (if_neg fun h => hb (List.mem_singleton.mpr h))

theorem State.nowT_clearRc : (s.clearRc a).nowT = s.nowT := by
  rcases State.clearRc_cases (s := s) ha with ⟨-, h⟩ | ⟨e, h⟩ <;> rw [h]
  rfl

/-- Every RC field reads zero after a read, where no event of the wc has set one. -/
theorem State.get_clearRc (he : s.evts = []) {f : Fld} (hf : f ∈ fieldsAt a) (hc : f.acc = .rc) : f.get ((s.clearRc a).word a) = 0 := by
  have hm : f ∈ (fieldsAt a).filter (fun f => f.acc == .rc) := List.mem_filter.mpr ⟨hf, by simp [hc]⟩
  rcases State.clearRc_cases (s := s) ha with ⟨h, -⟩ | ⟨e, h⟩
  · exact absurd (h ▸ hm) List.not_mem_nil
  · rw [h]
    refine (congrArg f.get ((State.word_setWord s a a _).trans (if_pos rfl))).trans ?_
    simp only [State.rcKept_of_no_evts he]
    exact get_foldl_clear (.inl hm)

end

theorem State.sent_send (s : State) (o : HostOut) : (s.send o).host.sent.getLast? = some (s.nowT, o) := List.getLast?_concat

/-- Settles O59: the read answers the word (`exec_readClear_words`), its RC fields read zero after it (`State.get_clearRc`), and no other
word changes (`only_clearRc`). -/
theorem registerFieldsRead : Obligations.RegisterFieldsRead := by
  unfold Obligations.RegisterFieldsRead
  intro s path a size hp ho hw hd hs he ha
  refine ⟨_, exec_readClear_words ho hw hp, ?_⟩
  rw [State.busRead_on hd, hs]
  exact ⟨fun f hf hc => State.get_clearRc ha he hf hc, only_clearRc ha, (State.sent_send _ _).trans (by rw [State.nowT_clearRc ha])⟩

/-! ### Words with nothing but live RW fields (R8, R9) -/

/-- CHAIN_TRIG_LO and HOST_STROBE_HI: words that hold live RW fields and that no unit acts on. -/
def StoredOnly (a : Nat) : Prop := a = aCHAIN_TRIG_LO ∨ a = aHOST_STROBE_HI

section
variable {a : Nat} (s : State) (w : Word) (ha : StoredOnly a)
include ha

theorem State.mustWait_storedOnly : s.mustWait a = false := by
  rcases ha with rfl | rfl <;> exact Bool.and_false _

theorem noShadow_storedOnly : (fieldsAt a).any (fun f => f.cls == .d) = false := by
  rcases ha with rfl | rfl <;> rfl

theorem State.writeStruct_storedOnly (path : Nat) : s.writeStruct path a w = s := by
  have hf : structFields a = [] := by rcases ha with rfl | rfl <;> rfl
  exact if_pos (.inl hf)

theorem State.writeShadow_storedOnly : s.writeShadow a w = s := by
  rcases ha with rfl | rfl <;> rfl

theorem State.lockedWord_storedOnly : s.lockedWord a = false := by
  have hn : ¬ aLIGHT_CFG ≤ a := by rcases ha with rfl | rfl <;> decide
  simp [State.lockedWord, hn]

theorem State.writeLive_storedOnly (path : Nat) : s.writeLive path a w = s.setWord a (s.liveWord a w) := by
  have hl : (s.bringUp a).lockedWord a ≠ true := Bool.eq_false_iff.mp (State.lockedWord_storedOnly _ ha)
  rcases ha with rfl | rfl <;> exact (if_neg (not_or.mpr ⟨by decide, hl⟩)).trans rfl

theorem State.clearOnes_storedOnly : s.clearOnes a w = s := by
  rcases ha with rfl | rfl <;> rfl

theorem State.strobes_storedOnly (armed : Bool) (path : Nat) : s.strobes armed path a w = s := by
  rcases ha with rfl | rfl <;> rfl

/-- A write of such a word stores its live fields and does nothing else. -/
theorem State.writeAll_storedOnly (path : Nat) : s.writeAll path a w = s.setWord a (s.liveWord a w) := by
  unfold State.writeAll State.writeFields
  simp only [noShadow_storedOnly ha, Bool.false_eq_true, if_false, State.writeStruct_storedOnly s w ha, State.writeShadow_storedOnly s w ha,
    State.writeLive_storedOnly s w ha, State.clearOnes_storedOnly _ w ha, State.strobes_storedOnly _ w ha]

/-- Each field of such a word takes the bits written. -/
theorem State.get_liveWord_storedOnly {f : Fld} (hf : f ∈ fieldsAt a) : f.get (s.liveWord a w) = f.get w := by
  have hg (g : Fld) : g.get w % 2 ^ fldWidth g = g.get w := Nat.mod_mod _ _
  rcases ha with rfl | rfl
  · have hm : s.liveWord aCHAIN_TRIG_LO w = fCHAIN_TRIG_LO_FINE.set (fCHAIN_TRIG_LO_COARSE.set (s.word aCHAIN_TRIG_LO)
      (fCHAIN_TRIG_LO_COARSE.get w)) (fCHAIN_TRIG_LO_FINE.get w) := rfl
    rcases List.mem_pair.mp (show f ∈ [fCHAIN_TRIG_LO_COARSE, fCHAIN_TRIG_LO_FINE] from hf) with rfl | rfl <;> rw [hm]
    · rw [Fld.get_set_ne _ _ _ _ (by decide) (by decide) (by decide), Fld.get_set_same _ _ _ (by decide), hg]
    · rw [Fld.get_set_same _ _ _ (by decide), hg]
  · have hm : s.liveWord aHOST_STROBE_HI w = fHOST_STROBE_HI_EPOCH.set (s.word aHOST_STROBE_HI) (fHOST_STROBE_HI_EPOCH.get w) := rfl
    obtain rfl := List.mem_singleton.mp (show f ∈ [fHOST_STROBE_HI_EPOCH] from hf)
    rw [hm, Fld.get_set_same _ _ _ (by decide), hg]

end

/-- Settles O60: the write is the word's own store (`State.writeAll_storedOnly`), in which each field takes its bits
(`State.get_liveWord_storedOnly`). -/
theorem liveWordWrite : Obligations.LiveWordWrite := by
  unfold Obligations.LiveWordWrite
  intro s a w whole ha hd
  refine ⟨s.setWord a.val (s.liveWord a.val w), ?_, fun f hf _ => ?_, fun b hb => ?_, RegsOnly.setWord ..⟩
  · rw [exec_registerWrite rfl (State.mustWait_storedOnly s ha) fun h => absurd h (by decide), State.busWrite_on w hd,
      State.writeAll_storedOnly s w ha]
  · rw [State.word_setWord, if_pos rfl, State.get_liveWord_storedOnly s w ha hf]
  · rw [State.word_setWord, if_neg fun h => hb (List.mem_singleton.mpr h)]

end Sys2Proof.Machine


/-! # Every command completes, and keeps the stores canonical and the queue

`Keeps s t` says that `t` follows `s` with the sparse stores canonical where they were and the queue of commands as it was. Each
function of the model that changes the state has one lemma, of its name: its result keeps what its argument did. The proof follows
the function's own text, a conditional by `Keeps.ite` (or `when`, `unless`), a loop by `Keeps.foldl` (or `forN`), a call by the lemma
of the function called. The commands (`OutKeeps`) end with `Keeps.exec`, which covers them all. -/

namespace Sys2Proof.Machine

-- one thread: the lemmas are many and small
set_option Elab.async false

/-- `t` follows `s` by changes that keep the sparse stores canonical and leave the queue of commands as it was. -/
structure Keeps (s t : State) : Prop where
  canon : s.Canon → t.Canon
  pending : t.pending = s.pending

/-- The outcome `o` goes on, to a state that `Keeps` allows after `s`. -/
def OutKeeps (s : State) (o : Out) : Prop := ∃ t, o = .next t ∧ Keeps s t

variable {s t u v : State}

/-! ### How steps are put together -/

theorem Keeps.refl (s : State) : Keeps s s := ⟨id, rfl⟩

theorem Keeps.trans (h : Keeps s t) (k : Keeps t u) : Keeps s u := ⟨k.canon ∘ h.canon, k.pending.trans h.pending⟩

theorem Keeps.ite {c : Prop} {_ : Decidable c} (ht : Keeps s t) (hu : Keeps s u) : Keeps s (if c then t else u) := by
  split <;> assumption

/-- A step taken where a condition holds. -/
theorem Keeps.when {c : Prop} {_ : Decidable c} (h : Keeps s t) (k : Keeps s t → Keeps s u) : Keeps s (if c then u else t) :=
  (k h).ite h

/-- A step taken where a condition does not hold. -/
theorem Keeps.unless {c : Prop} {_ : Decidable c} (h : Keeps s t) (k : Keeps s t → Keeps s u) : Keeps s (if c then t else u) :=
  h.ite (k h)

theorem Keeps.foldl {α : Type} {l : List α} {f : State → α → State} (h : Keeps s t)
    (hf : ∀ {u x}, Keeps s u → Keeps s (f u x)) : Keeps s (l.foldl f t) := by
  induction l generalizing t with
  | nil => exact h
  | cons x l ih => exact ih (hf h)

theorem Keeps.forN {n : Nat} {f : State → Nat → State} (h : Keeps s t) (hf : ∀ {u i}, Keeps s u → Keeps s (f u i)) :
    Keeps s (t.forN n f) := h.foldl hf

theorem Keeps.foldlFst {α β : Type} {l : List α} {f : State × β → α → State × β} {a : State × β} (h : Keeps s a.1)
    (hf : ∀ {a x}, Keeps s a.1 → Keeps s (f a x).1) : Keeps s (l.foldl f a).1 := by
  induction l generalizing a with
  | nil => exact h
  | cons x l ih => exact ih (hf h)

theorem OutKeeps.next (h : Keeps s t) : OutKeeps s (.next t) := ⟨t, rfl, h⟩

theorem OutKeeps.ite {c : Prop} {_ : Decidable c} {o p : Out} (ho : OutKeeps s o) (hp : OutKeeps s p) :
    OutKeeps s (if c then o else p) := by
  split <;> assumption

theorem Keeps.noEvent (h : Keeps s t) : OutKeeps s (noEvent t) := .next h

theorem OutKeeps.after {o : Out} (h : OutKeeps s o) : Keeps s (o.after t) := by
  obtain ⟨u, rfl, hu⟩ := h
  exact hu

/-! ### The stores -/

/-- A store of words filtered keeps its canonical form. -/
theorem RegMap.wf_filter (p : Nat × Word → Bool) {m : RegMap} (h : m.wf = true) : RegMap.wf (m.filter p) = true := by
  rw [RegMap.wf, RegMap.wfFrom_iff] at h ⊢
  exact ⟨RegMap.rises_filter p h.1, fun e he => h.2 e (List.mem_of_mem_filter he)⟩

/-- At reset no store lists a word. -/
theorem State.canon_reset : State.reset.Canon := ⟨rfl, rfl, rfl⟩

theorem Keeps.setWord {a : Nat} {w : Word} (h : Keeps s t) : Keeps s (t.setWord a w) :=
  ⟨fun c => State.canon_setWord a w (h.canon c), h.pending⟩

theorem Keeps.filterRegs {p : Nat × Word → Bool} (h : Keeps s t) : Keeps s { t with regs := t.regs.filter p } :=
  ⟨fun c => ⟨RegMap.wf_filter p (h.canon c).1, (h.canon c).2⟩, h.pending⟩

theorem Keeps.setShadow {m : RegMap} (h : Keeps s t) (hm : t.shadow.risesFrom none = true → m.risesFrom none = true) :
    Keeps s { t with shadow := m } :=
  ⟨fun c => ⟨(h.canon c).1, hm (h.canon c).2.1, (h.canon c).2.2⟩, h.pending⟩

theorem Keeps.setStaged {m : RegMap} (h : Keeps s t) (hm : t.staged.risesFrom none = true → m.risesFrom none = true) :
    Keeps s { t with staged := m } :=
  ⟨fun c => ⟨(h.canon c).1, (h.canon c).2.1, hm (h.canon c).2.2⟩, h.pending⟩

/-! ### Parts of the state other than the stores and the queue -/

/-- A state with the same stores and the same queue. -/
theorem Keeps.rest (h : Keeps s t) (hr : u.regs = t.regs := by exact rfl) (hs : u.shadow = t.shadow := by exact rfl)
    (hg : u.staged = t.staged := by exact rfl) (hp : u.pending = t.pending := by exact rfl) : Keeps s u :=
  ⟨fun c => State.canon_congr hr hs hg (h.canon c), hp.trans h.pending⟩

section
variable (h : Keeps s t)
include h

theorem Keeps.withLims {x : List LimSt} : Keeps s { t with lims := x } := h.rest
theorem Keeps.withRgs {x : List RgSt} : Keeps s { t with rgs := x } := h.rest
theorem Keeps.withStore {x : List Stored} : Keeps s { t with store := x } := h.rest
theorem Keeps.withProbes {x : List ProbeSt} : Keeps s { t with probes := x } := h.rest
theorem Keeps.withLoads {x : List (Nat × Int)} : Keeps s { t with loads := x } := h.rest
theorem Keeps.withVals {x : List (Nat × GenVals)} : Keeps s { t with vals := x } := h.rest
theorem Keeps.withSpare {x : SpareSt} : Keeps s { t with spare := x } := h.rest
theorem Keeps.withRes {x : List ResSt} : Keeps s { t with res := x } := h.rest
theorem Keeps.withCal {x : CalSt} : Keeps s { t with cal := x } := h.rest
theorem Keeps.withChain {x : ChainSt} : Keeps s { t with chain := x } := h.rest
theorem Keeps.withLamps {x : LampsSt} : Keeps s { t with lamps := x } := h.rest
theorem Keeps.withSelv {x : SelvSt} : Keeps s { t with selv := x } := h.rest
theorem Keeps.withPwr {x : PwrSt} : Keeps s { t with pwr := x } := h.rest
theorem Keeps.withTxLinks {x : List LinkSt} : Keeps s { t with txLinks := x } := h.rest
theorem Keeps.withReedIn {x : List ReedIn} : Keeps s { t with reedIn := x } := h.rest
theorem Keeps.withRegions {x : List RegionSt} {n : Nat} : Keeps s { t with regions := x, dramMt := n } := h.rest
theorem Keeps.withNow {n : Nat} : Keeps s { t with now := n } := h.rest
theorem Keeps.withHost {x : HostSt} : Keeps s { t with host := x } := h.rest
theorem Keeps.withClk {x : ClkSt} : Keeps s { t with clk := x } := h.rest
theorem Keeps.withHealth {x : HealthSt} : Keeps s { t with health := x } := h.rest
theorem Keeps.withDraft {x : DraftSt} : Keeps s { t with draft := x } := h.rest
theorem Keeps.withAonLock {b : Bool} : Keeps s { t with aonLock := b } := h.rest
theorem Keeps.withTaken {x y : List DueCmd} {z : List (DueCmd × Nat)} : Keeps s { t with hsf := x, stalled := y, sentAt := z } := h.rest
theorem Keeps.withZero {n : Nat} {x : ClkSt} {y : List OutSt} : Keeps s { t with now := n, clk := x, outs := y } := h.rest
theorem Keeps.withTimed {a : ClkSt} {b : List HedLine} {c : List LimSt} {d : List ProbeSt} {e : List PinEvt} :
    Keeps s { t with clk := a, lines := b, lims := c, probes := d, pins := e } := h.rest
theorem Keeps.withAon {a : ChainSt} {b : Bool} {c : HealthSt} {d : BscanSt} :
    Keeps s { t with chain := a, aonLock := b, health := c, bscan := d } := h.rest

end

/-! ### The functions of `Machine/Ops.lean` -/

theorem Keeps.put (h : Keeps s t) {f : Fld} {v o : Nat} : Keeps s (t.put f v o) := h.setWord
theorem Keeps.putSat (h : Keeps s t) {f : Fld} {z : Int} {o : Nat} : Keeps s (t.putSat f z o) := h.put

theorem Keeps.noteEvt (h : Keeps s t) {f : Fld} {o : Nat} {g : Nat → Nat} : Keeps s (t.noteEvt f o g) :=
  h.unless (fun hu => .ite hu.rest hu.rest)

theorem Keeps.flag (h : Keeps s t) {f : Fld} {o : Nat} : Keeps s (t.flag f o) := h.noteEvt.put
theorem Keeps.unflag (h : Keeps s t) {f : Fld} {o : Nat} : Keeps s (t.unflag f o) := h.put
theorem Keeps.bump (h : Keeps s t) {f : Fld} {o n : Nat} : Keeps s (t.bump f o n) := h.noteEvt.put
theorem Keeps.putBit (h : Keeps s t) {f : Fld} {i : Nat} {b : Bool} {o : Nat} : Keeps s (t.putBit f i b o) := (h.when (·.noteEvt)).put
theorem Keeps.free (h : Keeps s t) : Keeps s t.free.2 := h.rest
theorem Keeps.wakeLane (h : Keeps s t) {l : Nat} : Keeps s (t.wakeLane l) := h.unless (·.rest)
theorem Keeps.until_ (h : Keeps s t) {t' : Nat} : Keeps s (t.until_ t') := h.when (·.rest)
theorem Keeps.noteShadow (h : Keeps s t) {a : Nat} : Keeps s (t.noteShadow a) := h.unless (·.rest)

theorem Keeps.applyWord (h : Keeps s t) {a : Nat} : Keeps s (t.applyWord a) := by
  refine ⟨fun c => State.canon_applyWord a (h.canon c), .trans ?_ h.pending⟩
  unfold State.applyWord; split
  · rfl
  · rfl
  · split <;> rfl

theorem Keeps.applyWords (h : Keeps s t) {as : List Nat} : Keeps s (t.applyWords as) := .foldl h (·.applyWord)
theorem Keeps.setWordFrom (h : Keeps s t) {a : Nat} {w : Word} {c : Nat} : Keeps s (t.setWordFrom a w c) := h.setWord.rest
theorem Keeps.setWordDated (h : Keeps s t) {a : Nat} {w : Word} : Keeps s (t.setWordDated a w) := h.setWordFrom

theorem Keeps.detect (h : Keeps s t) {cls unit sub detail : Nat} {masked : Bool} {inst : Nat} :
    Keeps s (t.detect cls unit sub detail masked inst) :=
  h.rest

theorem Keeps.setInj (h : Keeps s t) {x : InjSt} : Keeps s (t.setInj x) := h.rest

theorem Keeps.injEdgeUsed (h : Keeps s t) {u t' : Nat} : Keeps s (t.injEdgeUsed u t') := by
  unfold State.injEdgeUsed; split; exacts [h.setInj, h.setInj, h]

theorem Keeps.report (h : Keeps s t) {cls unit sub : Nat} : Keeps s (t.report cls unit sub) := h.detect
theorem Keeps.reportMem (h : Keeps s t) {sub : Nat} : Keeps s (t.reportMem sub) := h.free.detect
theorem Keeps.setOut (h : Keeps s t) {o : Nat} {x : OutSt} : Keeps s (t.setOut o x) := h.rest
theorem Keeps.setBank (h : Keeps s t) {b : Nat} {x : BankSt} : Keeps s (t.setBank b x) := h.rest
theorem Keeps.setVoter (h : Keeps s t) {m : Nat} {x : VoterSt} : Keeps s (t.setVoter m x) := h.rest

/-! ### The functions of `Machine/Struct.lean` -/

theorem Keeps.stage (h : Keeps s t) {a : Nat} {w : Word} : Keeps s (t.stage a w) := h.setStaged (RegMap.rises_ins _ _)
theorem Keeps.unstage (h : Keeps s t) {a : Nat} : Keeps s (t.unstage a) := h.setWord.setStaged (RegMap.rises_erase _)
theorem Keeps.goldenCrc (h : Keeps s t) {i : Nat} : Keeps s (t.goldenCrc i) := h.put

/-! ### The functions of `Machine/Queues.lean` -/

theorem Keeps.setQueue (h : Keeps s t) {q : Nat} {x : BQueue} : Keeps s (t.setQueue q x) := h.rest
theorem Keeps.trackLow (h : Keeps s t) : Keeps s t.trackLow := h.when (·.put)
theorem Keeps.rewind (h : Keeps s t) {q : Nat} {ign : Ignore} : Keeps s (t.rewind q ign) := h.setQueue

theorem Keeps.placeWord (h : Keeps s t) {q : Nat} {w : Word} {sop eop bad : Bool} : Keeps s (t.placeWord q w sop eop bad) :=
  .ite h.rewind.flag.bump <| .ite h.rewind.flag.bump <| .ite h.setQueue.trackLow <| .ite h.rewind.flag.bump h.free.setQueue.trackLow

theorem Keeps.queueWord (h : Keeps s t) {q : Nat} {w : Word} {sop eop bad : Bool} : Keeps s (t.queueWord q w sop eop bad) :=
  .ite (h.when (·.rewind.flag.bump)).setQueue.placeWord <|
  .ite h.placeWord (by split; exacts [(h.when (·.setQueue)).flag, h.when (·.setQueue), h.flag.bump])

theorem Keeps.markBad (h : Keeps s t) {q : Nat} : Keeps s (t.markBad q) := h.when (·.rewind.flag.bump)

theorem Keeps.writeWords {ws : List Word} {q : Nat} {first : Bool} (h : Keeps s t) : Keeps s (t.writeWords q first ws) := by
  induction ws generalizing t first with
  | nil => exact h
  | cons w ws ih => exact ih h.queueWord

theorem Keeps.packet (h : Keeps s t) {q : Nat} {ws : List Word} : Keeps s (t.packet q ws).1 := by
  unfold State.packet; split; exacts [h, h.writeWords]

theorem Keeps.packet? (h : Keeps s t) {q : Option Nat} {ws : List Word} : Keeps s (t.packet? q ws) := by
  unfold State.packet?; split; exacts [h, h.packet]

theorem Keeps.popWord (h : Keeps s t) {q : Nat} : Keeps s (t.popWord q).2 := by
  unfold State.popWord; dsimp only; split; exacts [h, h.setQueue]

theorem Keeps.popN (h : Keeps s t) {q n : Nat} : Keeps s (t.popN q n) := h.setQueue
theorem Keeps.flushQueue (h : Keeps s t) {q : Nat} : Keeps s (t.flushQueue q) := (h.when (·.flag)).setQueue.flag

/-! ### The functions of `Machine/Health.lean` -/

theorem Keeps.showStress (h : Keeps s t) : Keeps s t.showStress := .foldl h (·.setWord)
theorem Keeps.stressMt (h : Keeps s t) {temps : List Int} : Keeps s (t.stressMt temps) := h.rest.showStress
theorem Keeps.erased (h : Keeps s t) {sec : Nat} : Keeps s (t.erased sec) := h.rest.put
theorem Keeps.showWeek (h : Keeps s t) : Keeps s t.showWeek := ((h.forN (·.put.put)).forN (·.put)).forN (·.putSat)
theorem Keeps.execDayClose (h : Keeps s t) : OutKeeps s (execDayClose t) := .ite h.noEvent <| .next h.put.bump.rest.showWeek
theorem Keeps.dayMt (h : Keeps s t) : Keeps s t.dayMt := h.put
theorem Keeps.healthTrim (h : Keeps s t) {g c : Nat} : Keeps s (t.healthTrim g c) := h.put.put.unless (·.put.put.flag)

theorem Keeps.healthLamp (h : Keeps s t) {l d : Nat} : Keeps s (t.healthLamp l d) := by
  unfold State.healthLamp; split; exacts [h.rest.flag.putSat, .ite h.free.put h.putSat]

theorem Keeps.execTrimReref (h : Keeps s t) : OutKeeps s (execTrimReref t) := .next (h.forN (·.unflag))
theorem Keeps.execLampReref (h : Keeps s t) : OutKeeps s (execLampReref t) := .next (h.rest.forN (·.unflag))

/-! ### The functions of `Machine/Maint.lean` -/

theorem Keeps.resShow (h : Keeps s t) {r : Nat} : Keeps s (t.resShow r) := h.putBit
theorem Keeps.resTake (h : Keeps s t) {act r : Nat} {w : Bool} : Keeps s (t.resTake act r w) := (Keeps.ite h.put h.putBit).resShow
theorem Keeps.resDrop (h : Keeps s t) {act r : Nat} : Keeps s (t.resDrop act r) := (h.when (·.put)).putBit.resShow
theorem Keeps.claimRefused (h : Keeps s t) {act r : Nat} : Keeps s (t.claimRefused act r) := h.flag.put.put.bump

theorem Keeps.claim (h : Keeps s t) {act : Nat} {res : List (Nat × Bool)} : Keeps s (t.claim act res).1 := by
  unfold State.claim; split; exacts [h.claimRefused, (Keeps.foldl h (·.resTake)).putBit]

theorem Keeps.release (h : Keeps s t) {act : Nat} : Keeps s (t.release act) := (h.forN (·.resDrop)).putBit

theorem Keeps.execMaintClaimGo (h : Keeps s t) {act : Fin 16} : OutKeeps s (execMaintClaimGo act t) := by
  unfold Machine.execMaintClaimGo; dsimp only; split; exacts [.next h.put.flag, .next (.ite h.put.claim h.put.claim.flag)]

theorem Keeps.execMaintClaimRelease (h : Keeps s t) {act : Fin 16} : OutKeeps s (execMaintClaimRelease act t) :=
  .next (h.put.when (·.release))

/-! ### The functions of `Machine/Bobbin.lean` -/

theorem Keeps.erasedAll (h : Keeps s t) {secs : List Nat} : Keeps s (t.erasedAll secs) := .foldl h (·.erased)
theorem Keeps.ageRecord (h : Keeps s t) : Keeps s t.ageRecord := h.rest.when (·.erased)
theorem Keeps.commitFail (h : Keeps s t) {cause : Nat} : Keeps s (t.commitFail cause) := h.unflag.flag.put

theorem Keeps.startCommit (h : Keeps s t) : Keeps s t.startCommit :=
  .ite h.claim.commitFail <|
  .ite (by split; exacts [h.claim.release.commitFail, .ite h.claim.release.commitFail h.claim.rest.flag.put])
    h.claim.erasedAll.rest.flag.put

theorem Keeps.showChain (h : Keeps s t) : Keeps s t.showChain := by
  unfold State.showChain; split; exacts [h, by dsimp only; split; exacts [h, h.put.put.put.put]]

theorem Keeps.execDraftCommitDone (h : Keeps s t) {ok : Bool} : OutKeeps s (execDraftCommitDone ok t) := by
  unfold Machine.execDraftCommitDone; split; exacts [h.noEvent,
    .next (Keeps.ite h.rest.unflag.flag.showChain h.rest.commitFail).ageRecord.release]

theorem Keeps.execDraftCommit (h : Keeps s t) : OutKeeps s (execDraftCommit t) := .next (.ite h.startCommit h.flag)

/-! ### The functions of `Machine/Outputs.lean` -/

theorem Keeps.oPut (h : Keeps s t) {o : Nat} {fc fm : Fld} {v : Nat} : Keeps s (t.oPut o fc fm v) := .ite h.put h.put
theorem Keeps.oFlag (h : Keeps s t) {o : Nat} {fc fm : Fld} : Keeps s (t.oFlag o fc fm) := .ite h.flag h.flag
theorem Keeps.oBump (h : Keeps s t) {o : Nat} {fc fm : Fld} : Keeps s (t.oBump o fc fm) := .ite h.bump h.bump
theorem Keeps.oDrop (h : Keeps s t) {o : Nat} {fc fm : Fld} : Keeps s (t.oDrop o fc fm) := h.oFlag.oBump
theorem Keeps.oOverlap (h : Keeps s t) {o : Nat} : Keeps s (t.oOverlap o) := h.oFlag.oBump
theorem Keeps.oSuppress (h : Keeps s t) {o : Nat} : Keeps s (t.oSuppress o) := h.oFlag.oBump
theorem Keeps.oClampCheck (h : Keeps s t) {o : Nat} : Keeps s (t.oClampCheck o) := h.when (·.oFlag)
theorem Keeps.wakeGroup (h : Keeps s t) {g : Nat} : Keeps s (t.wakeGroup g) := h.unless (·.rest)
theorem Keeps.setDrv (h : Keeps s t) {o v : Nat} : Keeps s (t.setDrv o v) := h.oPut
theorem Keeps.reform (h : Keeps s t) {o : Nat} : Keeps s (t.reform o) := (Keeps.foldl h (·.unstage)).unless (·.setDrv.setOut.wakeGroup)
theorem Keeps.oRefresh (h : Keeps s t) {o : Nat} : Keeps s (t.oRefresh o) := h.setOut.oPut.oPut.when (·.reform)
theorem Keeps.gridsOn (h : Keeps s t) : Keeps s t.gridsOn := h.forN (fun hu => hu.when (·.setOut.oRefresh))

theorem Keeps.applyOut (h : Keeps s t) {o : Nat} : Keeps s (t.applyOut o) :=
  ((h.applyWords.oPut.oClampCheck.when (·.setOut)).when (·.oPut)).oRefresh

theorem Keeps.requestApply (h : Keeps s t) {o : Nat} : Keeps s (t.requestApply o) := .ite h.applyOut h.oPut
theorem Keeps.applyIfWaiting (h : Keeps s t) {o : Nat} : Keeps s (t.applyIfWaiting o) := h.when (·.applyOut)
theorem Keeps.acceptTrig (h : Keeps s t) {o t' : Nat} {keep : List Trig} : Keeps s (t.acceptTrig o t' keep) := h.setOut.oRefresh

theorem Keeps.startTrigger (h : Keeps s t) {o t' : Nat} : Keeps s (t.startTrigger o t') :=
  h.unless fun hu =>
    .ite hu.oDrop <| .ite hu.oDrop <| .ite (.ite hu.oFlag (.ite hu.oOverlap hu.acceptTrig)) <|
    .ite hu.acceptTrig <| .ite hu.oDrop <| .ite hu.acceptTrig (.ite (.ite hu.acceptTrig hu.oDrop) hu.oDrop)

theorem Keeps.stopOut (h : Keeps s t) {o t' : Nat} {line : Option Nat} : Keeps s (t.stopOut o t' line) :=
  .ite h.oDrop <| .ite h.setOut.oRefresh.applyIfWaiting <| h.when (·.flag)

theorem Keeps.lineToOut (h : Keeps s t) {l t' o : Nat} : Keeps s (t.lineToOut l t' o) :=
  h.unless fun hu =>
    .ite hu.bump <| .ite (.ite hu.oDrop (hu.bump.unless (·.flag))) <|
    .ite hu.oFlag (.ite (.ite hu.stopOut hu.startTrigger) (.ite hu.startTrigger hu.stopOut))

theorem Keeps.lineToOuts (h : Keeps s t) {l t' : Nat} : Keeps s (t.lineToOuts l t') := h.forN (·.lineToOut)

theorem Keeps.consumeLead (h : Keeps s t) {o : Nat} {n : NextLead} : Keeps s (t.consumeLead o n) := by
  unfold State.consumeLead; dsimp only; split; exacts [h, h.setOut, h.setOut, h.setOut]

/-! ### The functions of `Machine/ReedOps.lean` -/

theorem Keeps.setMu (h : Keeps s t) {u : Nat} {x : MuSt} : Keeps s (t.setMu u x) := h.rest
theorem Keeps.setGate (h : Keeps s t) {g : Nat} {x : GateSt} : Keeps s (t.setGate g x) := h.rest
theorem Keeps.muOpen (h : Keeps s t) {g u : Nat} : Keeps s (t.muOpen g u) := h.unless (·.setMu.flag)

theorem Keeps.muCross (h : Keeps s t) {c : ReedX} {u : Nat} : Keeps s (t.muCross c u) := by
  unfold State.muCross; dsimp only; split
  · exact h.unless fun hu =>
      .ite (hu.when (·.setMu)) <|
      .ite (.ite ((hu.when (·.bump)).when (·.setMu)) (hu.unless fun hv => .ite (hv.when (·.bump)).setMu hv.setMu)) <|
      hu.when (·.setMu)
  · exact h

theorem Keeps.muResult (h : Keeps s t) {u o c : Nat} {g : GateSt} : Keeps s (t.muResult u o c g) := by
  unfold State.muResult
  refine Keeps.setMu ?_
  have hb {i : Prop} {_ : Decidable i} {f : Fld} {n : Nat} : Keeps s (if i then t.bump f n else t) := h.when (·.bump)
  split
  · exact hb
  split
  · split; exacts [hb.free.free.free.free, hb]
  · dsimp only; split
    · exact hb.free.free
    · split; exacts [hb.free, hb]

theorem Keeps.muClose (h : Keeps s t) {g o c u : Nat} {gs : GateSt} : Keeps s (t.muClose g o c u gs) := h.when (·.muResult.unflag)

theorem Keeps.gateOpenStep (h : Keeps s t) {g o : Nat} : Keeps s (t.gateOpenStep g o) :=
  .ite h.setGate.flag <| h.setGate.unless (fun hu => (hu.setGate.flag.when (·.flag)).forN (·.muOpen))

theorem Keeps.gateCloseStep (h : Keeps s t) {g c : Nat} : Keeps s (t.gateCloseStep g c) := by
  unfold State.gateCloseStep; dsimp only; split; exacts [h, ((h.when (·.flag)).forN (·.muClose)).setGate.unflag.bump]

theorem Keeps.gateSync {g t' n : Nat} (h : Keeps s t) : Keeps s (t.gateSync g t' n) := by
  induction n generalizing t with
  | zero => exact h
  | succ n ih =>
    unfold State.gateSync; split
    exacts [h, .ite (ih (.ite h.gateCloseStep h.gateOpenStep)) h]

theorem Keeps.gatesSync (h : Keeps s t) {t' : Nat} : Keeps s (t.gatesSync t') := h.forN (·.gateSync)
theorem Keeps.gateOpening (h : Keeps s t) {g t' src : Nat} : Keeps s (t.gateOpening g t' src) := h.setGate
theorem Keeps.gateClosing (h : Keeps s t) {g t' : Nat} : Keeps s (t.gateClosing g t') := h.setGate

theorem Keeps.gateStamp (h : Keeps s t) {i t' : Nat} {rising : Bool} : Keeps s (t.gateStamp i t' rising) :=
  h.forN (fun hu => hu.when (fun hv => .ite hv.gateOpening hv.gateClosing))

theorem Keeps.gatesClkEvt (h : Keeps s t) {broken : Bool} : Keeps s (t.gatesClkEvt broken) := h.forN (fun hu => hu.when (·.setGate.flag))

theorem Keeps.offerStamp (h : Keeps s t) {i : Nat} {st : Stamp} : Keeps s (t.offerStamp i st) :=
  h.unless (fun hu => hu.unless (fun hv => .ite hv.rest.bump.flag hv.rest))

theorem Keeps.reedTake (h : Keeps s t) {c : ReedX} : Keeps s (t.reedTake c) := by
  unfold State.reedTake
  extract_lets t₁ t₂ t₃
  have h₃ : Keeps s t₃ := (h.gatesSync.when (·.gateStamp.gatesSync)).forN (·.muCross)
  split; exacts [h₃.offerStamp, h₃]

theorem Keeps.reedTo (h : Keeps s t) {t' : Nat} : Keeps s (t.reedTo t') := (Keeps.foldl h.rest (·.reedTake)).gatesSync
theorem Keeps.reedAll (h : Keeps s t) : Keeps s t.reedAll := (Keeps.foldl h.rest (·.reedTake)).gatesSync

theorem Keeps.lineToGates (h : Keeps s t) {l t' : Nat} : Keeps s (t.lineToGates l t') :=
  h.reedTo.forN (fun hu => hu.unless (fun hv => (hv.when (·.gateOpening)).when (·.gateClosing)))

theorem Keeps.reedCross (h : Keeps s t) {i : Nat} {cap : TiCap} {st : Option Nat} {rising : Bool} :
    Keeps s (t.reedCross i cap st rising) := by
  unfold State.reedCross; dsimp only; split; exacts [(h.when (·.flag)).rest, .ite (h.when (·.flag)).flag.bump.rest (h.when (·.flag)).rest]

theorem Keeps.reedSafe (h : Keeps s t) {i : Nat} {rising : Bool} : Keeps s (t.reedSafe i rising) := h.flag.rest

/-! ### The functions of `Machine/Due.lean` -/

theorem Keeps.viewLag (h : Keeps s t) {ps : Nat} : Keeps s (t.viewLag ps).2 := h.free
theorem Keeps.sendDue (h : Keeps s t) {c : DueCmd} : Keeps s (t.sendDue c) := (h.when (·.bump)).rest
theorem Keeps.lateRecord (h : Keeps s t) {c : DueCmd} : Keeps s (t.lateRecord c) := (h.unless (·.setWord.setWord.put)).flag.bump

theorem Keeps.tapplyOver (h : Keeps s t) {t' : DueTarget} {src : Nat} : Keeps s (t.tapplyOver t' src) := by
  unfold State.tapplyOver; split; exacts [h.unflag, h.unflag, h.unflag, h.unflag, h.unflag, h.when (·.unflag), h]

theorem Keeps.groupDiscard (h : Keeps s t) {c : DueCmd} : Keeps s (t.groupDiscard c) := h.when (·.bump)

theorem Keeps.tapplyLate (h : Keeps s t) {c : DueCmd} : Keeps s (t.tapplyLate c) :=
  h.lateRecord.flag.tapplyOver.groupDiscard.when (·.flag)

theorem Keeps.lateAtTarget (h : Keeps s t) {t' : DueTarget} : Keeps s (t.lateAtTarget t') := by
  unfold State.lateAtTarget; split; exacts [h.flag.bump, h.flag.bump, h.flag, h]

theorem Keeps.asapAtTarget (h : Keeps s t) {t' : DueTarget} : Keeps s (t.asapAtTarget t') := by
  unfold State.asapAtTarget; split; exacts [h.flag, h.flag, h]

theorem Keeps.acceptDue (h : Keeps s t) {c : DueCmd} {acc : Nat} : Keeps s (t.acceptDue c acc) :=
  .ite (.ite h.flag.groupDiscard.tapplyOver h.rest) <| .ite h.lateAtTarget.tapplyLate <|
  h.lateAtTarget.lateRecord.when (·.asapAtTarget.flag.bump.rest)

theorem Keeps.loadRefuse (h : Keeps s t) {r : Nat} : Keeps s (t.loadRefuse r) := h.put.unflag
theorem Keeps.checkLoad (h : Keeps s t) : Keeps s t.checkLoad := h.unless (fun hu => .ite hu.loadRefuse (hu.when (·.loadRefuse)))
theorem Keeps.shiftTimers (h : Keeps s t) {d : Nat} : Keeps s (t.shiftTimers d) := h.rest

theorem Keeps.shiftElapsed (h : Keeps s t) {d : Nat} : Keeps s (t.shiftElapsed d) := by
  have h₁ := h.shiftTimers (d := d)
  unfold State.shiftElapsed
  generalize t.shiftTimers d = u at h₁ ⊢
  exact h₁.rest

theorem Keeps.setRx (h : Keeps s t) {f : Nat} {x : RxSt} : Keeps s (t.setRx f x) := h.rest

theorem Keeps.stepTimebase (h : Keeps s t) {new : Nat} : Keeps s (t.stepTimebase new) := by
  unfold State.stepTimebase
  extract_lets t₁ old d t₂ clk ck ls lm pb pn src t₃ spare t₄ t₅ t₆
  have h₂ : Keeps s (t₂.shiftElapsed d) := h.reedAll.gatesClkEvt.withNow.shiftElapsed
  have h₃ : Keeps s t₃ := h₂.withTimed
  have h₆ : Keeps s t₆ := (h₃.withSpare.forN (·.setRx)).forN (·.when (·.setOut))
  refine h₆.forN fun hu => ?_
  dsimp only; split
  exacts [hu.withRgs.put, (hu.withRgs.when (·.flag)).withRgs.unless (·.put)]

theorem Keeps.loadGo (h : Keeps s t) {mode : Nat} : Keeps s (t.loadGo mode) := h.put.unflag.put.unflag
theorem Keeps.lockDrop (h : Keeps s t) {c : DueCmd} : Keeps s (t.lockDrop c) := h.flag.bump.tapplyOver.groupDiscard
theorem Keeps.execTbLoadSyncIn (h : Keeps s t) : OutKeeps s (execTbLoadSyncIn t) := .next (.ite h.loadGo.loadRefuse h.loadGo.flag)
theorem Keeps.execTbLoadModeNone (h : Keeps s t) {mode3 : Bool} : OutKeeps s (execTbLoadModeNone mode3 t) := .next h.loadGo.loadRefuse
theorem Keeps.execTbNowRead (h : Keeps s t) : OutKeeps s (execTbNowRead t) := .next h.setWord.setWord
theorem Keeps.execTbMtStampRead (h : Keeps s t) : OutKeeps s (execTbMtStampRead t) := .next h.setWord.setWord

/-! ### The functions of `Machine/ChainOps.lean` -/

theorem Keeps.setPort (h : Keeps s t) {p : Nat} {x : PortSt} : Keeps s (t.setPort p x) := h.rest
theorem Keeps.routeDrop (h : Keeps s t) : Keeps s t.routeDrop := h.bump
theorem Keeps.emit (h : Keeps s t) {p : Nat} {f : ChFrame} : Keeps s (t.emit p f) := h.unless (·.setPort)

theorem Keeps.freeBuf (h : Keeps s t) {src : Option Nat} {f : ChFrame} : Keeps s (t.freeBuf src f) := by
  unfold State.freeBuf; split; exacts [h, .ite h.setPort h.setPort]

theorem Keeps.drainPort {p n : Nat} (h : Keeps s t) : Keeps s (t.drainPort p n) := by
  induction n generalizing t with
  | zero => exact h
  | succ n ih =>
    refine h.unless fun _ => ?_
    dsimp only; split
    exacts [h, ih h.setPort.emit.freeBuf]

theorem Keeps.sendVia (h : Keeps s t) {p : Nat} {f : ChFrame} {src : Option Nat} : Keeps s (t.sendVia p f src) :=
  .ite h.routeDrop.freeBuf <| .ite h.emit h.setPort.drainPort

theorem Keeps.sendPort (h : Keeps s t) {p : Nat} {f : ChFrame} : Keeps s (t.sendPort p f) := h.sendVia

theorem Keeps.routeVia (h : Keeps s t) {f : ChFrame} {src : Option Nat} : Keeps s (t.routeVia f src) := by
  unfold State.routeVia; split; exacts [h.routeDrop.freeBuf, h.sendVia]

theorem Keeps.sendRoute (h : Keeps s t) {f : ChFrame} : Keeps s (t.sendRoute f) := h.routeVia

theorem Keeps.forwardVia (h : Keeps s t) {p : Nat} {f : ChFrame} {src : Nat} : Keeps s (t.forwardVia p f src) :=
  .ite h.routeDrop.freeBuf <| .ite h.sendVia h.freeBuf

theorem Keeps.noteFrame (h : Keeps s t) {f : ChFrame} : Keeps s (t.noteFrame f) := h.rest
theorem Keeps.newFrame (h : Keeps s t) {typ dst arg : Nat} {ws : List Word} : Keeps s (t.newFrame typ dst arg ws).2 := h.rest
theorem Keeps.sendBoth (h : Keeps s t) {f : ChFrame} : Keeps s (t.sendBoth f) := h.forN (fun hu => hu.when (·.sendPort))
theorem Keeps.broadcast (h : Keeps s t) {f : ChFrame} : Keeps s (t.broadcast f) := h.noteFrame.sendBoth

theorem Keeps.sendTrig (h : Keeps s t) {dst due dline action group : Nat} : Keeps s (t.sendTrig dst due dline action group) :=
  h.unless fun hu =>
    .ite hu.newFrame.broadcast.sendDue <| .ite hu.newFrame.sendDue (.ite hu.newFrame.noteFrame.sendBoth hu.newFrame.sendRoute)

theorem Keeps.chainEmit (h : Keeps s t) {l t' : Nat} : Keeps s (t.chainEmit l t') := h.forN (fun hu => hu.when (·.sendTrig))

theorem Keeps.passOn (h : Keeps s t) {p : Nat} {f : ChFrame} : Keeps s (t.passOn p f) :=
  .ite h.forwardVia <| .ite h.routeDrop.freeBuf h.routeVia

theorem Keeps.receive (h : Keeps s t) {p : Nat} {f : ChFrame} {deliver : State → State}
    (hdeliver : ∀ {u}, Keeps s u → Keeps s (deliver u)) : Keeps s (t.receive p f deliver) :=
  .ite (.ite h.bump.freeBuf (hdeliver h.noteFrame.forwardVia)) <|
  .ite (.ite (.ite h.bump (hdeliver h.noteFrame)) (hdeliver h).freeBuf) h.passOn

theorem Keeps.badCrc (h : Keeps s t) {p : Nat} {f : ChFrame} : Keeps s (t.badCrc p f) :=
  .ite h.bump.freeBuf <| .ite (h.bump.unless (·.forwardVia)) <| h.bump.unless (·.passOn)

theorem Keeps.chainRecv (h : Keeps s t) {p : Nat} {f : ChFrame} {crc typ : Nat} {arg : Option Nat} {deliver : State → State}
    (hdeliver : ∀ {u}, Keeps s u → Keeps s (deliver u)) : OutKeeps s (t.chainRecv p f crc typ arg deliver) :=
  .ite h.noEvent <| .ite (.next h) <| .ite (.next h.badCrc) <| .ite (.next h.bump.freeBuf) <| .ite (.next (hdeliver h)) <|
  .next (h.receive (fun hu => hdeliver hu))

/-! ### The functions of `Machine/SeqOps.lean` -/

theorem Keeps.setSeq (h : Keeps s t) {q : Nat} {x : SeqSt} : Keeps s (t.setSeq q x) := h.rest
theorem Keeps.setSeqState (h : Keeps s t) {q st : Nat} : Keeps s (t.setSeqState q st) := h.put
theorem Keeps.perClamp (h : Keeps s t) {q p : Nat} : Keeps s (t.perClamp q p) := h.unless (·.flag)
theorem Keeps.itemErr (h : Keeps s t) {q code : Nat} : Keeps s (t.itemErr q code) := h.flag.put.bump
theorem Keeps.segErr (h : Keeps s t) {q code : Nat} : Keeps s (t.segErr q code) := h.flag.put
theorem Keeps.jumpPend (h : Keeps s t) {q : Nat} : Keeps s (t.jumpPend q) := h.put
theorem Keeps.jumpLost (h : Keeps s t) {q : Nat} : Keeps s (t.jumpLost q) := h.flag.bump

theorem Keeps.seqRequest (h : Keeps s t) {q : Nat} {r : SeqReq} : Keeps s (t.seqRequest q r) :=
  ((h.when (·.jumpLost)).when (·.flag)).setSeq.jumpPend

theorem Keeps.seqApply (h : Keeps s t) {q : Nat} : Keeps s (t.seqApply q) := h.applyWords.unflag
theorem Keeps.seqTapplyDone (h : Keeps s t) {q : Nat} : Keeps s (t.seqTapplyDone q) := h.flag.unflag

theorem Keeps.seqBoundaryApply (h : Keeps s t) {q t' : Nat} : Keeps s (t.seqBoundaryApply q t') :=
  (h.setSeq.when (·.seqApply)).when (·.seqTapplyDone)

theorem Keeps.cancelDue (h : Keeps s t) {p : DueCmd → Bool} (e : t.cancelDue p = some u) : Keeps s u := by
  unfold State.cancelDue at e
  split at e
  · cases e; exact h.rest
  · split at e <;> cases e
    exact h.rest

theorem Keeps.seqPosRead (h : Keeps s t) {q : Nat} : Keeps s (t.seqPosRead q) := h.setWord.put

theorem Keeps.patternEdge (h : Keeps s t) {o t' : Nat} {lead : Bool} : Keeps s (t.patternEdge o t' lead) := by
  unfold State.patternEdge
  extract_lets x d e t₁
  have h₁ : Keeps s t₁ := h.when (·.flag)
  clear_value t₁
  refine .ite h₁.setOut ?_
  split
  · exact .ite h₁.setOut.oOverlap h₁.setOut
  · exact h₁
  · split; exacts [h₁.when (·.setOut), h₁]

theorem Keeps.closeLevels (h : Keeps s t) {q t' : Nat} : Keeps s (t.closeLevels q t') :=
  (Keeps.foldl h (fun hu => hu.when (·.patternEdge))).setSeq

theorem Keeps.streamsEnd (h : Keeps s t) {q : Nat} : Keeps s (t.streamsEnd q) := h.forN (fun hu => hu.when (·.oRefresh.applyIfWaiting))
theorem Keeps.seqEnding (h : Keeps s t) {q st t' : Nat} : Keeps s (t.seqEnding q st t') := h.closeLevels.setSeq

theorem Keeps.seqEnd (h : Keeps s t) {q st : Nat} {t' : Option Nat} : Keeps s (t.seqEnd q st t') := by
  unfold State.seqEnd
  extract_lets t₁ x fixed t₂ t₃ t₄
  have h₁ : Keeps s t₁ := by unfold t₁; split; exacts [h.closeLevels, h]
  clear_value t₁
  have h₂ : Keeps s t₂ := h₁.when (·.jumpLost)
  have h₃ : Keeps s t₃ := h₂.when (·.jumpLost)
  exact h₃.setSeq.setSeqState.jumpPend.seqBoundaryApply.streamsEnd

theorem Keeps.marksDrop (h : Keeps s t) : Keeps s t.marksDrop := h.rest.unless (·.flag.bump)
theorem Keeps.seqHalt (h : Keeps s t) {q : Nat} : Keeps s (t.seqHalt q) := h.when (·.seqEnd.setSeq.flag)

theorem Keeps.lineStart (h : Keeps s t) {l t' q : Nat} : Keeps s (t.lineStart l t' q) := by
  unfold State.lineStart; dsimp only; split; exacts [h.when (fun hu => (hu.when (·.flag)).setSeq), h]

theorem Keeps.lineToSeq (h : Keeps s t) {l t' q : Nat} : Keeps s (t.lineToSeq l t' q) :=
  (show Keeps _ _ from by split; exacts [h.lineStart.when (·.setSeq), h.lineStart]).when (·.seqRequest)

/-! ### The functions of `Machine/Heddle.lean` -/

theorem Keeps.setLine (h : Keeps s t) {l : Nat} {x : HedLine} : Keeps s (t.setLine l x) := h.rest
theorem Keeps.armLine (h : Keeps s t) {l t' : Nat} : Keeps s (t.armLine l t') := .ite h.setLine <| h.when (·.setLine)
theorem Keeps.disarmLine (h : Keeps s t) {l t' : Nat} : Keeps s (t.disarmLine l t') := h.when (·.setLine)

theorem Keeps.fireLine (h : Keeps s t) {l t' src : Nat} : Keeps s (t.fireLine l t' src) :=
  (((h.setLine.flag.bump.when (·.flag)).when (·.packet?)).forN (fun hu =>
    hu.when (·.armLine))).lineToOuts.lineToGates.lineToSeq.lineToSeq.chainEmit.checkLoad

theorem Keeps.sourceEvent (h : Keeps s t) {l src t' : Nat} : Keeps s (t.sourceEvent l src t') :=
  h.unless (fun hu => .ite hu.flag (.ite hu.flag (.ite hu.fireLine hu.setLine)))

theorem Keeps.fireCmd (h : Keeps s t) {l t' : Nat} : Keeps s (t.fireCmd l t') := h.unless (fun hu => .ite hu.flag hu.fireLine)
theorem Keeps.pinStep (h : Keeps s t) {p : PinEvt} : Keeps s (t.pinStep p) := h.rest.until_.sourceEvent

theorem Keeps.flowGo {ok : Nat → Bool} {n : Nat} (h : Keeps s t) : Keeps s (State.flowGo ok n t) := by
  induction n generalizing t with
  | zero => exact h
  | succ n ih =>
    unfold State.flowGo; split
    exacts [h, .ite (ih h.pinStep) h]

theorem Keeps.flowTo (h : Keeps s t) {t' : Nat} : Keeps s (t.flowTo t') := h.flowGo.until_
theorem Keeps.flowBefore (h : Keeps s t) {t' : Nat} : Keeps s (t.flowBefore t') := h.flowGo.until_

theorem Keeps.settle {at_ : State → Option Nat} {n : Nat} (h : Keeps s t) : Keeps s (State.settle at_ n t) := by
  induction n generalizing t with
  | zero => exact h
  | succ n ih =>
    unfold State.settle; split
    exacts [h, .ite (ih h.pinStep) h]

theorem Keeps.sourceToLines (h : Keeps s t) {bit src t' : Nat} {pin : Bool} : Keeps s (t.sourceToLines bit src t' pin) := h.rest.flowTo
theorem Keeps.markers (h : Keeps s t) {q marks t' : Nat} : Keeps s (t.markers q marks t') := .foldl h (·.sourceToLines)
theorem Keeps.glitchOver (h : Keeps s t) {i : Nat} : Keeps s (t.glitchOver i) := h.rest

theorem Keeps.heddleCross (h : Keeps s t) {i t' c : Nat} {rising : Bool} {hold : Nat} : Keeps s (t.heddleCross i t' c rising hold) :=
  .ite h.glitchOver <| .ite h.rest <| .ite h.rest.flag.bump <|
  h.rest.put.unless (fun hu => .ite hu.flag.bump (hu.rest.when (·.sourceToLines)))

theorem Keeps.tiCross (h : Keeps s t) {i : Nat} {cap : TiCap} {rising : Bool} {hold : Nat} : Keeps s (t.tiCross i cap rising hold) :=
  .ite h.flowTo.glitchOver.bump <|
  .ite h.flowTo.reedSafe.glitchOver.flag.bump (by dsimp only; split; exacts [h.flowTo.reedCross.heddleCross, h.flowTo.reedCross])

theorem Keeps.execRgGo (h : Keeps s t) {g : Fin 8} : OutKeeps s (execRgGo g t) := .next ((h.when (·.flag)).when (·.flag)).withRgs.put
theorem Keeps.execRgStop (h : Keeps s t) {g : Fin 8} : OutKeeps s (execRgStop g t) := .next h.rest.put

theorem Keeps.rgTick (h : Keeps s t) {g : Nat} (e : t.rgTick g = some u) : Keeps s u := by
  unfold State.rgTick at e
  split at e <;> cases e
  exact h.withRgs.put.sourceToLines

theorem Keeps.execTiCrossing (h : Keeps s t) {i : Fin 16} {cap : TiCap} {rising : Bool} {hold : Nat} :
    OutKeeps s (execTiCrossing i cap rising hold t) :=
  .next h.tiCross

theorem Keeps.execRgTick (h : Keeps s t) {g : Fin 8} : OutKeeps s (execRgTick g t) := by
  unfold Machine.execRgTick; split
  exacts [.next (h.rgTick ‹_›), h.noEvent]

theorem Keeps.execHeddleArmCmdArm (h : Keeps s t) {l : Fin 64} : OutKeeps s (execHeddleArmCmdArm l t) := .next h.armLine
theorem Keeps.execHeddleArmCmdDisarm (h : Keeps s t) {l : Fin 64} : OutKeeps s (execHeddleArmCmdDisarm l t) := .next h.disarmLine

theorem Keeps.execArmWindowExpiry (h : Keeps s t) {l : Fin 64} : OutKeeps s (execArmWindowExpiry l t) := by
  unfold Machine.execArmWindowExpiry; split; exacts [h.noEvent, .next (h.flowBefore.when (·.setLine))]

theorem Keeps.execHeddleFireCtrlGo (h : Keeps s t) {l : Fin 64} {action : Fin 16} : OutKeeps s (execHeddleFireCtrlGo l action t) :=
  .next h.sendDue

theorem Keeps.execHeddleInPsSync (h : Keeps s t) {mask : Fin 65536} : OutKeeps s (execHeddleInPsSync mask t) := .next h.rest
theorem Keeps.execHeddleLastRead (h : Keeps s t) : OutKeeps s (execHeddleLastRead t) := .next h.setWord.setWord
theorem Keeps.heddleSwitch (h : Keeps s t) : Keeps s t.heddleSwitch := h.rest
theorem Keeps.heddleReturn (h : Keeps s t) : Keeps s t.heddleReturn := h.rest

/-! ### The functions of `Machine/Light.lean` -/

theorem Keeps.limTo (h : Keeps s t) {f t' : Nat} : Keeps s (t.limTo f t') := h.rest

theorem Keeps.gateLead (h : Keeps s t) {o t' : Nat} : Keeps s (t.gateLead o t').1 :=
  .foldl h (fun hu => (hu.limTo.when (·.bump)).when (·.rest))

theorem Keeps.gateTrail (h : Keeps s t) {o t' : Nat} : Keeps s (t.gateTrail o t') := .foldl h (·.limTo.withLims)
theorem Keeps.gateCut (h : Keeps s t) {o t' : Nat} : Keeps s (t.gateCut o t') := h.setOut.gateTrail
theorem Keeps.cutFlags (h : Keeps s t) {f : Nat} {c : Bool × Bool} : Keeps s (t.cutFlags f c) := ((h.when (·.flag)).when (·.flag)).bump
theorem Keeps.limitCut (h : Keeps s t) {o t' : Nat} : Keeps s (t.limitCut o t') := .foldl h.flowTo.gateCut (·.cutFlags)

theorem Keeps.cutBy (h : Keeps s t) {f : Nat} {a b : Option Nat} : OutKeeps s (t.cutBy f a b) := by
  unfold Machine.State.cutBy; dsimp only; split; exacts [.ite h.noEvent (.next h.limitCut), h.noEvent]

theorem Keeps.execLimiterCut (h : Keeps s t) {f : Fin 2} : OutKeeps s (execLimiterCut f t) := h.cutBy
theorem Keeps.execMaxonCut (h : Keeps s t) {f : Fin 2} : OutKeeps s (execMaxonCut f t) := h.cutBy
theorem Keeps.lightWrite (h : Keeps s t) {f a : Nat} {w : Word} : Keeps s (t.lightWrite f a w) := h.limTo.setWordFrom.withLims
theorem Keeps.designate (h : Keeps s t) {f : Nat} : Keeps s (t.designate f) := h.rest

theorem Keeps.interlockGates (h : Keeps s t) : Keeps s t.interlockGates :=
  h.forN (fun hu => hu.when (fun hv => by dsimp only; split; exacts [hv.gateCut, hv]))

theorem Keeps.ilRelease (h : Keeps s t) : Keeps s t.ilRelease := (h.when (fun hu => hu.forN (fun hv => hv.when (·.oSuppress)))).unflag
theorem Keeps.execCapLock (h : Keeps s t) : OutKeeps s (execCapLock t) := .next h.flag.rest

/-! ### The functions of `Machine/CalOps.lean` -/

theorem Keeps.redundancy (h : Keeps s t) {m : Nat} : Keeps s (t.redundancy m) := h.put
theorem Keeps.setRole (h : Keeps s t) {m g r : Nat} : Keeps s (t.setRole m g r) := h.put.redundancy

theorem Keeps.startRoles (h : Keeps s t) {m : Nat} {faulty : List Nat} : Keeps s (t.startRoles m faulty) :=
  (Keeps.foldl h.setVoter (·.put)).redundancy

theorem Keeps.holdInputs (h : Keeps s t) {mask : Nat} {on : Bool} : Keeps s (t.holdInputs mask on) := .foldl h (·.put)
theorem Keeps.calBusy (h : Keeps s t) : Keeps s t.calBusy := h.put
theorem Keeps.calEnd (h : Keeps s t) : Keeps s t.calEnd := h.holdInputs.release.rest.calBusy
theorem Keeps.calDone (h : Keeps s t) : Keeps s t.calDone := h.flag.bump.setWord.setWord.put
theorem Keeps.calFail (h : Keeps s t) {unit reason : Nat} : Keeps s (t.calFail unit reason) := h.flag.put.put.bump
theorem Keeps.rxCalEnd (h : Keeps s t) : Keeps s t.rxCalEnd := h.release.rest.calBusy
theorem Keeps.rxCalAbort (h : Keeps s t) {reason : Nat} : Keeps s (t.rxCalAbort reason) := h.unless (·.flag.put.bump.rxCalEnd)
theorem Keeps.spareBack (h : Keeps s t) {b : Nat} {faulty : Bool} : Keeps s (t.spareBack b faulty) := h.put

theorem Keeps.calAbort (h : Keeps s t) {reason : Nat} : Keeps s (t.calAbort reason) :=
  h.unless (fun hu => ((hu.flag.put.bump.when (·.spareBack)).when (·.setRole)).calEnd.when (·.setBank))

theorem Keeps.cdFail (h : Keeps s t) {reason : Nat} : Keeps s (t.cdFail reason) := h.when (·.holdInputs.rest.release.unflag.flag.put)

/-! ### The functions of `Machine/Triggers.lean` -/

theorem Keeps.execCommandAccept (h : Keeps s t) {src : Nat} {fw : Option DueCmd} : OutKeeps s (execCommandAccept src fw t) := by
  unfold Machine.execCommandAccept
  extract_lets t₁
  have h₁ : Keeps s t₁ := by unfold t₁; split; exacts [h.sendDue, h]
  split; · exact h₁.noEvent
  refine .ite (.next (h₁.unless (·.rest.bump))) ?_
  extract_lets acc t₂ t₃
  have h₃ : Keeps s t₃ := h₁.flowTo.withTaken
  split
  exacts [.next (Keeps.ite h₃.acceptDue h₃.flag).checkLoad, .next h₃.acceptDue.checkLoad]

theorem Keeps.execCommandCommit (h : Keeps s t) : OutKeeps s (execCommandCommit t) := by
  unfold Machine.execCommandCommit; split
  exacts [h.noEvent, .next h.flowTo.withStore]

theorem Keeps.popDue (h : Keeps s t) {c : Stored} : Keeps s (t.popDue c) := h.flowTo.rest

theorem Keeps.dueAtOut (h : Keeps s t) {a : Nat} {f : State → Nat → Nat → State} (hf : ∀ {u x1 x2}, Keeps s u → Keeps s (f u x1 x2)) :
    OutKeeps s (t.dueAtOut a f) := by
  unfold Machine.State.dueAtOut; split; exacts [h.noEvent,
    by split; exacts [h.noEvent, .ite h.noEvent (.next (.ite h.popDue.lockDrop (.ite h.popDue.bump (hf h.popDue))))]]

theorem Keeps.execTrigger (h : Keeps s t) : OutKeeps s (execTrigger t) := h.dueAtOut (·.startTrigger)
theorem Keeps.execStop (h : Keeps s t) : OutKeeps s (execStop t) := h.dueAtOut (·.stopOut)

theorem Keeps.execActionNotUsed (h : Keeps s t) : OutKeeps s (execActionNotUsed t) := by
  unfold Machine.execActionNotUsed; split; exacts [h.noEvent,
    by split; exacts [h.noEvent, .ite h.noEvent (.next (.ite h.popDue.lockDrop (.ite h.popDue.bump h.popDue.oBump)))]]

theorem Keeps.dueAtLine (h : Keeps s t) {a : Nat} {f : State → Nat → Nat → State} (hf : ∀ {u l d}, Keeps s u → Keeps s (f u l d))
    (e : t.dueAtLine a f = some u) : Keeps s u := by
  unfold State.dueAtLine at e
  split at e; · cases e
  split at e
  · split at e <;> cases e
    have hd {c : Stored} : Keeps s (if a = 1 then t.popDue c else { t.flowBefore c.cmd.due with store := t.store.drop 1 }) :=
      .ite h.popDue h.flowBefore.withStore
    exact .ite hd.lockDrop (hf hd)
  · cases e

theorem Keeps.execFire (h : Keeps s t) : OutKeeps s (execFire t) := by
  unfold Machine.execFire; split
  exacts [.next (h.dueAtLine (·.fireCmd) ‹_›), h.noEvent]

theorem Keeps.execArm (h : Keeps s t) : OutKeeps s (execArm t) := by
  unfold Machine.execArm; split
  exacts [.next (h.dueAtLine (·.armLine) ‹_›), h.noEvent]

theorem Keeps.execDisarm (h : Keeps s t) : OutKeeps s (execDisarm t) := by
  unfold Machine.execDisarm; split
  exacts [.next (h.dueAtLine (·.disarmLine) ‹_›), h.noEvent]

/-! ### The functions of `Machine/Edges.lean` -/

theorem Keeps.driverOff (h : Keeps s t) {o : Nat} : Keeps s (t.driverOff o) := h.setDrv.setOut

theorem Keeps.enable (h : Keeps s t) {o v : Nat} : Keeps s (t.enable o v) :=
  h.unless fun hu =>
    have h₁ := hu.oPut.when (·.oSuppress)
    .ite h₁.setDrv.setOut.wakeGroup (h₁.unless fun hv => .ite hv.driverOff hv.setOut)

theorem Keeps.execEnableWrite (h : Keeps s t) {o : Fin 72} {v : Fin 4} : OutKeeps s (execEnableWrite o v t) := .next h.enable.checkLoad
theorem Keeps.execDriverAwake (h : Keeps s t) {o : Fin 72} : OutKeeps s (execDriverAwake o t) := .ite (.next h.setDrv.setOut) h.noEvent
theorem Keeps.emitEdge (h : Keeps s t) {o t' : Nat} : Keeps s (t.emitEdge o t') := h.setOut
theorem Keeps.expectEdge (h : Keeps s t) {o t' : Nat} {lead shown : Bool} : Keeps s (t.expectEdge o t' lead shown) := h.setOut

theorem Keeps.leadEdge (h : Keeps s t) {o : Nat} {n : NextLead} {l : Nat} : Keeps s (t.leadEdge o n l) := by
  unfold State.leadEdge
  extract_lets t₀ tr shows gate shown t₁ x
  have h₀ : Keeps s t₀ := h.until_
  clear_value t₀
  refine .ite h₀.consumeLead.oSuppress.oRefresh.applyIfWaiting <| .ite h₀.consumeLead.oOverlap.oRefresh.applyIfWaiting ?_
  split; · exact h₀
  extract_lets t₂ t₃ t₄
  have h₁ : Keeps s t₁ := Keeps.consumeLead (by unfold gate; split; exacts [h₀.gateLead, h₀])
  clear_value t₁
  have h₃ : Keeps s t₃ := h₁.setOut.expectEdge
  exact (Keeps.ite h₃.emitEdge (h₃.unless fun hu => hu.when (·.oSuppress))).oRefresh

theorem Keeps.execLeadingEdge (h : Keeps s t) {o : Fin 72} : OutKeeps s (execLeadingEdge o t) := by
  unfold Machine.execLeadingEdge; dsimp only; split; exacts [h.noEvent, .next h.settle.leadEdge]

theorem Keeps.trailEdge (h : Keeps s t) {o t' : Nat} {p : Pulse} : Keeps s (t.trailEdge o t' p) :=
  have h₁ := h.until_.expectEdge.when (·.gateTrail.emitEdge)
  have h₂ := Keeps.ite h₁.setOut.driverOff h₁.setOut.setOut
  .ite h₂.oRefresh.applyOut h₂.oRefresh.applyIfWaiting

theorem Keeps.execTrailingEdge (h : Keeps s t) {o : Fin 72} : OutKeeps s (execTrailingEdge o t) := by
  unfold Machine.execTrailingEdge; dsimp only; split
  exacts [h.noEvent, by split; exacts [h.noEvent, .next (h.when (·.settle)).trailEdge]]

theorem Keeps.failoverCopy (h : Keeps s t) {b k : Nat} : Keeps s (t.failoverCopy b k) := h.put.put.setBank

theorem Keeps.failoverStart (h : Keeps s t) {n : Nat} : Keeps s (t.failoverStart n) :=
  .ite (h.when (·.calAbort)).failoverCopy.setBank <| .ite (by split; exacts [h.unless (·.flag), h.calAbort.setBank]) <| h.unless (·.flag)

theorem Keeps.execFailoverCopyDone (h : Keeps s t) {b : Fin 8} : OutKeeps s (execFailoverCopyDone b t) := .ite (.next h.setBank) h.noEvent

theorem Keeps.execFailoverSwitch (h : Keeps s t) {b : Fin 8} : OutKeeps s (execFailoverSwitch b t) :=
  .ite (.next (h.when (·.flag)).put.flag.bump) h.noEvent

theorem Keeps.execFoRelease (h : Keeps s t) {b k : Fin 8} : OutKeeps s (execFoRelease b k t) :=
  .ite (.next h.put) <| .ite (.next h.put.setBank) <| .ite (.next h.put.put.setBank) <| .next h.put

theorem Keeps.execFoReleaseSwitch (h : Keeps s t) {b : Fin 8} : OutKeeps s (execFoReleaseSwitch b t) :=
  .ite (.next h.put.unflag.setBank) h.noEvent

theorem Keeps.execFoForce (h : Keeps s t) {b k : Fin 8} : OutKeeps s (execFoForce b k t) := .next (h.put.when (·.failoverStart))

theorem Keeps.echoErrorCh (h : Keeps s t) {n cause : Nat} {d : Int} {t' at_ : Nat} : Keeps s (t.echoErrorCh n cause d t' at_) :=
  have h₁ := (h.flag.put.bump.unless (·.setWord.setWord.setWord)).detect.packet?
  .ite h₁.flag (.ite h₁.calAbort.setBank (h₁.when (·.failoverStart)))

theorem Keeps.echoErrorMo (h : Keeps s t) {m cause : Nat} {d : Int} {t' at_ : Nat} : Keeps s (t.echoErrorMo m cause d t' at_) :=
  (h.flag.put.bump.unless (·.setWord.setWord.setWord)).detect

theorem Keeps.echoError (h : Keeps s t) {o cause : Nat} {d : Int} {t' at_ : Nat} : Keeps s (t.echoError o cause d t' at_) :=
  .ite h.echoErrorCh h.echoErrorMo

theorem Keeps.gateErr (h : Keeps s t) {o : Nat} : Keeps s (t.gateErr o) := (Keeps.foldl h (·.flag)).detect

theorem Keeps.injSeen (h : Keeps s t) {o t' : Nat} {lead : Bool} {obs : EdgeObs} : Keeps s (t.injSeen o t' lead obs).2 := by
  unfold State.injSeen
  extract_lets d r t₁
  have h₁ : Keeps s t₁ := by unfold t₁ r; split; exacts [h.injEdgeUsed, h]
  clear_value t₁
  split; · exact h₁
  split; · exact h₁
  dsimp only; split <;> exact h₁.setInj

theorem Keeps.echoTaken (h : Keeps s t) {o : Nat} {rest : List (Nat × Bool)} : Keeps s (t.echoTaken o rest) := h.setOut

theorem Keeps.execEchoClassify (h : Keeps s t) {o : Fin 72} {obs : EdgeObs} : OutKeeps s (execEchoClassify o obs t) := by
  unfold Machine.execEchoClassify
  extract_lets o' x r t₁
  have h₁ : Keeps s t₁ := by unfold t₁ r; split; exacts [h, h, h.injSeen]
  clear_value t₁ r
  refine .ite h₁.noEvent ?_
  split
  · exact .ite h₁.noEvent (.ite (.next h₁.flowTo.gateErr) (.next h₁.flowTo.echoError))
  · split; · exact h₁.noEvent
    exact .ite (.next h₁.flowTo.echoTaken) (.ite (.next h₁.flowTo.echoTaken.echoError) (.next h₁.flowTo.echoTaken.echoError))
  · split; · exact h₁.noEvent
    exact .ite (.next h₁.flowTo.echoTaken) (.next h₁.flowTo.echoTaken.echoError)

theorem Keeps.levelCheck (h : Keeps s t) {o t' : Nat} {high : Bool} : Keeps s (t.levelCheck o t' high) :=
  h.setOut.unless (fun hu => .ite hu.gateErr hu.echoError)

theorem Keeps.execEchoLevelCheck (h : Keeps s t) {o : Fin 72} {high : Bool} : OutKeeps s (execEchoLevelCheck o high t) :=
  .ite h.noEvent (by split; exacts [h.noEvent, .next h.settle.until_.levelCheck])

/-! ### The functions of `Machine/Sequencer.lean` -/

theorem Keeps.roll (h : Keeps s t) {q : Nat} : Keeps s (t.roll q) := by
  unfold State.roll; dsimp only; split; exacts [h.perClamp.setSeq, h.when (·.perClamp.setSeq)]

theorem Keeps.regrid (h : Keeps s t) {q : Nat} : Keeps s (t.regrid q) := h.unless (·.perClamp.setSeq)

theorem Keeps.lastSlot (h : Keeps s t) {q : Nat} : Keeps s (t.lastSlot q) :=
  h.when (fun hu => by split; exacts [hu.seqEnding, hu.seqEnding, hu.seqEnding, hu])

theorem Keeps.underrun (h : Keeps s t) {q t' : Nat} : Keeps s (t.underrun q t') := (h.unless (·.setWord.setWord)).flag.bump
theorem Keeps.seqShowPos (h : Keeps s t) {q : Nat} : Keeps s (t.seqShowPos q) := h.put.put
theorem Keeps.shotMarks (h : Keeps s t) {q marks t' : Nat} : Keeps s (t.shotMarks q marks t') := .foldl h (fun hu => hu.when (·.rest))

theorem Keeps.seqBreak (h : Keeps s t) {q : Nat} {f : SeqFetch} : Keeps s (t.seqBreak q f) := by
  unfold State.seqBreak; dsimp only; split; exacts [h.until_.segErr.seqEnding, h.until_.underrun.seqEnding]

theorem Keeps.sendMarks (h : Keeps s t) {q : Nat} {w : Word} {t' : Nat} : Keeps s (t.sendMarks q w t') := h.unless (·.setSeq)

theorem Keeps.fireMarks (h : Keeps s t) {q : Nat} : Keeps s (t.fireMarks q) := by
  unfold State.fireMarks; split; exacts [h.flowTo.setSeq.markers, h]

theorem Keeps.playItem (h : Keeps s t) {q : Nat} {w : Word} {counted under : Bool} {act : State → Word → Nat → State × Nat}
    (hact : ∀ {u x1 x2}, Keeps s u → Keeps s (act u x1 x2).1) : Keeps s (t.playItem q w counted under act) :=
  (hact (h.until_.when (·.underrun)).shotMarks.sendMarks).setSeq.seqShowPos.lastSlot

theorem Keeps.elseMarks (h : Keeps s t) {q : Nat} {tys : List Nat} : OutKeeps s (t.elseMarks q tys) := .ite (.next h.fireMarks) h.noEvent
theorem Keeps.toIssue (h : Keeps s t) {q : Nat} : Keeps s (t.toIssue q) := h.settle

theorem Keeps.issue (h : Keeps s t) {q : Nat} {tys : List Nat} {act : State → Word → Nat → State × Nat}
    (hact : ∀ {u x1 x2}, Keeps s u → Keeps s (act u x1 x2).1) : OutKeeps s (t.issue q tys act) := by
  have hr := (h.toIssue (q := q)).roll (q := q)
  unfold State.issue
  generalize (t.toIssue q).roll q = r at hr ⊢
  dsimp only
  split; · exact h.elseMarks
  split; · exact .next h.fireMarks
  cases r.seqFetch q with
  | item w counted under => exact .ite (.next (hr.playItem hact)) h.elseMarks
  | beyond => exact .next hr.seqBreak
  | _ => exact h.elseMarks

theorem Keeps.plainItem (h : Keeps s t) {q : Nat} {x : Word} {x' : Nat} : Keeps s (plainItem q t x x').1 := h
theorem Keeps.execNop (h : Keeps s t) {q : Fin 2} : OutKeeps s (execNop q t) := h.issue (·.plainItem)

theorem Keeps.execIdle (h : Keeps s t) {q : Fin 2} : OutKeeps s (execIdle q t) := by
  unfold Machine.execIdle
  refine .ite h.elseMarks <| .ite (.next h.fireMarks) ?_
  split
  · exact .next (h.toIssue.roll.until_.when (·.underrun)).setSeq.seqShowPos.lastSlot
  · exact .next h.toIssue.roll.seqBreak
  · exact .next h.toIssue.roll.seqBreak
  · exact h.issue (·.plainItem)

theorem Keeps.execItemNotUsed (h : Keeps s t) {q : Fin 2} : OutKeeps s (execItemNotUsed q t) := h.issue (·.itemErr.plainItem)
theorem Keeps.addChip (h : Keeps s t) {f tone sym t' : Nat} : Keeps s (t.addChip f tone sym t') := h.rest

theorem Keeps.chipItem (h : Keeps s t) {q : Nat} {w : Word} {t' : Nat} : Keeps s (chipItem q t w t').1 :=
  .foldl ((h.when (·.itemErr)).when (·.itemErr)) (fun hu => .foldl hu (·.addChip))

theorem Keeps.seqEdge (h : Keeps s t) {q o : Nat} {e : Nat × Bool} : Keeps s (t.seqEdge q o e) :=
  .ite h.flag <| .ite h.flag h.patternEdge.setSeq

theorem Keeps.execEdge (h : Keeps s t) {q : Fin 2} : OutKeeps s (execEdge q t) := h.issue (fun hu => .foldl hu (·.seqEdge))

theorem Keeps.waitItem (h : Keeps s t) {q : Nat} {w : Word} {x : Nat} : Keeps s (waitItem q t w x).1 := by
  unfold Machine.waitItem; dsimp only; split; exacts [h.when (·.itemErr), (h.when (·.itemErr)).setSeq]

theorem Keeps.execWait (h : Keeps s t) {q : Fin 2} : OutKeeps s (execWait q t) := by
  unfold Machine.execWait; dsimp only; split; exacts [h.issue (·.waitItem),
    .ite (.next h.fireMarks) (.ite (.next h.flowTo.setSeqState) h.noEvent)]

theorem Keeps.execWaitRelease (h : Keeps s t) {q : Fin 2} : OutKeeps s (execWaitRelease q t) := by
  unfold Machine.execWaitRelease; dsimp only; split
  exacts [h.noEvent, by split; exacts [h.noEvent, .next ((h.settle.until_.when (·.flag)).setSeq.lastSlot.when (·.setSeqState))]]

theorem Keeps.loopStep (h : Keeps s t) {q : Nat} {w : Word} : Keeps s (t.loopStep q w).1 := by
  unfold State.loopStep
  extract_lets x a cnt back top early t₁ t₂ t₃ once stack
  have h₃ : Keeps s t₃ := ((h.when (·.itemErr)).when (·.itemErr)).when (·.itemErr)
  clear_value t₃ stack
  split; · exact h₃.setSeq
  split
  · split <;> exact h₃.setSeq
  · exact h₃

theorem Keeps.execLoop (h : Keeps s t) {q : Fin 2} : OutKeeps s (execLoop q t) :=
  h.issue (fun hu => by split; exacts [hu.itemErr, hu.loopStep])

theorem Keeps.execJump (h : Keeps s t) {q : Fin 2} : OutKeeps s (execJump q t) := h.issue (·.seqRequest)
theorem Keeps.execMark (h : Keeps s t) {q : Fin 2} : OutKeeps s (execMark q t) := h.issue (fun hu => hu.when (·.packet?))

theorem Keeps.seqEnded (h : Keeps s t) {q : Nat} : OutKeeps s (t.seqEnded q) := by
  unfold Machine.State.seqEnded; split; exacts [.ite (.next h.flowTo.seqEnd) h.noEvent, h.noEvent]

theorem Keeps.endItem (h : Keeps s t) {q : Nat} {x : Word} {x' : Nat} : Keeps s (endItem q t x x').1 := h.seqEnding

theorem Keeps.execEnd (h : Keeps s t) {q : Fin 2} : OutKeeps s (execEnd q t) :=
  .ite (.ite (.next h.fireMarks) h.seqEnded) <| h.issue (·.endItem)

theorem Keeps.follow (h : Keeps s t) {q e p : Nat} {req : Bool} : Keeps s (t.follow q e p req).1 := by
  unfold State.follow; dsimp only; split; exacts [h.segErr, h]

theorem Keeps.execDecisionPoint (h : Keeps s t) {q : Fin 2} : OutKeeps s (execDecisionPoint q t) := by
  unfold Machine.execDecisionPoint
  extract_lets q' t₁
  have h₁ : Keeps s t₁ := h.settle
  clear_value t₁
  split; · exact h.noEvent
  extract_lets t₂ x ok t₃ late pend w0 rep r
  have h₃ : Keeps s t₃ := h₁.until_.when (·.flag)
  clear_value t₃
  have hr : Keeps s r.1 := by
    unfold r; split
    · split; exacts [h₃, h₃.follow]
    · split; · exact h₃.follow
      split; exacts [h₃, h₃.follow]
  exact .next hr.setSeq.jumpPend

theorem Keeps.execSegmentBoundary (h : Keeps s t) {q : Fin 2} : OutKeeps s (execSegmentBoundary q t) :=
  .ite h.seqEnded (by dsimp only; split; exacts [h.noEvent, .ite h.noEvent (.next h.roll.flowTo.setSeq.jumpPend.seqBoundaryApply.regrid)])

theorem Keeps.execRunStart (h : Keeps s t) {q : Fin 2} : OutKeeps s (execRunStart q t) := by
  unfold Machine.execRunStart; dsimp only; split; exacts [h.noEvent,
    .ite h.noEvent (.next (h.flowTo.setSeq.setSeqState.seqBoundaryApply.regrid.forN (fun hu => hu.when (·.oPut))))]

theorem Keeps.seqGo (h : Keeps s t) {q : Nat} : Keeps s (t.seqGo q) := by
  unfold State.seqGo
  refine .ite h.flag ?_
  extract_lets md ts soon e src x t₁ r at_
  refine .ite h.flag ?_
  have hr : Keeps s r.1 := h.setSeq.jumpPend.follow
  clear_value r
  split
  · extract_lets y t₂ l
    have h₂ : Keeps s t₂ := hr.perClamp.setSeq.setSeqState
    clear_value t₂
    split; exacts [h₂.when (·.lineStart), h₂]
  · exact hr.setSeqState

theorem Keeps.seqStopIdle (h : Keeps s t) {q : Nat} : Keeps s (t.seqStopIdle q) := .ite h.seqEnd h.setSeqState
theorem Keeps.execSeqStop (h : Keeps s t) {q : Fin 2} : OutKeeps s (execSeqStop q t) := .next (.ite h.put.seqEnd h.put.seqStopIdle)

theorem Keeps.execSeqStopAtEnd (h : Keeps s t) {q : Fin 2} : OutKeeps s (execSeqStopAtEnd q t) :=
  .ite (.next h.put.seqRequest) <| .next h.put.seqStopIdle

theorem Keeps.execSeqJump (h : Keeps s t) {q : Fin 2} {target : Fin 1024} : OutKeeps s (execSeqJump q target t) := .next h.put.seqRequest

theorem Keeps.execSeqRelease (h : Keeps s t) {q : Fin 2} : OutKeeps s (execSeqRelease q t) := by
  unfold Machine.execSeqRelease; dsimp only; split; exacts [.ite (.next h.setSeq) (.next h), .next h]

theorem Keeps.execSeqApply (h : Keeps s t) {q : Fin 2} : OutKeeps s (execSeqApply q t) := .next (.ite h.flag h.seqApply)

theorem Keeps.execSeqTapplyArm (h : Keeps s t) {q : Fin 2} : OutKeeps s (execSeqTapplyArm q t) :=
  .ite (.next h.flag) <| .next h.flag.sendDue

theorem Keeps.execSeqTapplyCancel (h : Keeps s t) {q : Fin 2} : OutKeeps s (execSeqTapplyCancel q t) := by
  unfold Machine.execSeqTapplyCancel; split
  exacts [.next (h.cancelDue ‹_›).unflag, .next h]

/-! ### The functions of `Machine/Probe.lean` -/

theorem Keeps.probeSample (h : Keeps s t) {f n : Nat} : Keeps s (t.probeSample f n) := .ite h.rest <| h.rest.when (·.flag.bump)
theorem Keeps.bandCheck (h : Keeps s t) {f : Nat} : Keeps s (t.bandCheck f) := h.when (·.flag)
theorem Keeps.probeTo (h : Keeps s t) {f t' : Nat} : Keeps s (t.probeTo f t') := (Keeps.foldl h.withProbes (·.probeSample)).withProbes
theorem Keeps.probesNow (h : Keeps s t) : Keeps s t.probesNow := h.probeTo.probeTo
theorem Keeps.probeGrid (h : Keeps s t) {f : Nat} : Keeps s (t.probeGrid f) := h.rest
theorem Keeps.execIlClear (h : Keeps s t) {high : Bool} : OutKeeps s (execIlClear high t) := .next (h.probesNow.put.when (·.ilRelease))
theorem Keeps.applyProbe (h : Keeps s t) {f t' : Nat} : Keeps s (t.applyProbe f t') := h.probeTo.rest.applyWords.unflag.bandCheck

theorem Keeps.execProbeApply (h : Keeps s t) {mask : Fin 4} : OutKeeps s (execProbeApply mask t) :=
  .next (.foldl h.put (fun hu => .ite hu.flag hu.applyProbe))

theorem Keeps.execProbeTapplyArm (h : Keeps s t) {mask : Fin 4} : OutKeeps s (execProbeTapplyArm mask t) :=
  .ite (.next h.put.flag) <| .next h.put.flag.sendDue

theorem Keeps.execProbeTapplyCancel (h : Keeps s t) : OutKeeps s (execProbeTapplyCancel t) := by
  unfold Machine.execProbeTapplyCancel; split
  exacts [.next (h.cancelDue ‹_›).unflag, .next h]

theorem Keeps.probeShot (h : Keeps s t) {f t' : Nat} : Keeps s (t.probeShot f t') := (h.probeTo.when (·.applyProbe)).rest.flag.bump

theorem Keeps.execChip (h : Keeps s t) {q : Fin 2} : OutKeeps s (execChip q t) := by
  obtain ⟨u, e, hu⟩ := h.issue (q := q.val) (tys := [1]) (act := Machine.chipItem q.val) (·.chipItem)
  unfold Machine.execChip; rw [e]
  exact .next hu.probeTo.probeTo

theorem Keeps.txDrops (h : Keeps s t) {f : Nat} : Keeps s (t.txDrops f) := h.rest.unless (·.bump)
theorem Keeps.txState (h : Keeps s t) {f st : Nat} : Keeps s (t.txState f st) := h.txDrops.rest.put

theorem Keeps.execTxLinkEnable (h : Keeps s t) {f : Fin 2} : OutKeeps s (execTxLinkEnable f t) :=
  .next (h.flag.when (fun hu => hu.txState.forN (·.wakeLane)))

theorem Keeps.execTxLinkDisable (h : Keeps s t) {f : Fin 2} : OutKeeps s (execTxLinkDisable f t) := .next h.unflag.txState
theorem Keeps.txClockFail (h : Keeps s t) {f : Nat} : Keeps s (t.txClockFail f) := h.txState.flag.report

theorem Keeps.execTxClockCheck (h : Keeps s t) {f : Fin 2} {span : Option Nat} : OutKeeps s (execTxClockCheck f span t) :=
  .ite h.noEvent <| .ite (.next h.rest) <| .next h.txClockFail

theorem Keeps.execTxLinkUp (h : Keeps s t) {f : Fin 2} : OutKeeps s (execTxLinkUp f t) := .ite (.next h.flowTo.txState) h.noEvent
theorem Keeps.txSwitch (h : Keeps s t) : Keeps s t.txSwitch := h.forN (fun hu => hu.when (·.txClockFail))

theorem Keeps.bringUp (h : Keeps s t) {a : Nat} : Keeps s (t.bringUp a) :=
  .ite h.probeTo <| .ite h.probeTo <| .ite h.txDrops <| h.when (·.reedTo)

theorem Keeps.execTxFifoError (h : Keeps s t) {f : Fin 2} : OutKeeps s (execTxFifoError f t) := .next (h.flag.report.when (·.txState))

/-! ### The functions of `Machine/CalVals.lean` -/

theorem Keeps.tiLoad (h : Keeps s t) {i : Nat} {t' : Int} : Keeps s (t.tiLoad i t') := (h.forN (·.setWordDated)).setWordDated
theorem Keeps.rxLoad (h : Keeps s t) {p : Nat} {t' : Int} : Keeps s (t.rxLoad p t') := h.setWord.setWord
theorem Keeps.loadOver (h : Keeps s t) {u : Nat} : Keeps s (t.loadOver u) := h.rest
theorem Keeps.loadWait (h : Keeps s t) {u : Nat} {t' : Int} : Keeps s (t.loadWait u t') := h.loadOver.withLoads
theorem Keeps.tiLoadNow (h : Keeps s t) {u : Nat} {t' : Int} : Keeps s (t.tiLoadNow u t') := .ite h.loadOver.tiLoad h.loadWait
theorem Keeps.recompute (h : Keeps s t) : Keeps s t.recompute := h.put.forN (·.tiLoadNow)

theorem Keeps.genRecord (h : Keeps s t) {u : Nat} {t' : Int} {cs : List (Int × Int)} {skew echo : Int} :
    Keeps s (t.genRecord u t' cs skew echo) :=
  (Keeps.foldl h (·.setWord)).setWord.loadWait

theorem Keeps.heldRecord (h : Keeps s t) {m : Nat} : Keeps s (t.heldRecord m) := by
  unfold State.heldRecord; split; exacts [h, h.flag.genRecord.rest]

/-! ### The functions of `Machine/Rx.lean` -/

theorem Keeps.slErrOpen (h : Keeps s t) {p t' : Nat} : Keeps s (t.slErrOpen p t') := h.unless (·.setRx)
theorem Keeps.slErrClose (h : Keeps s t) {p t' : Nat} : Keeps s (t.slErrClose p t') := h.setRx
theorem Keeps.setSpare (h : Keeps s t) {role pos : Nat} : Keeps s (t.setSpare role pos) := h.put.put
theorem Keeps.spareJoin (h : Keeps s t) {p : Nat} : Keeps s (t.spareJoin p) := h.rest.setSpare

theorem Keeps.spareRest (h : Keeps s t) : Keeps s t.spareRest :=
  h.when (fun hu => .ite hu.setSpare (.ite (hu.unless (fun hv => .ite hv.spareJoin hv.rest.setSpare)) hu.spareJoin))

theorem Keeps.spareCarry (h : Keeps s t) {p : Nat} : Keeps s (t.spareCarry p) := h.unless (fun hu => .ite hu.flag hu.rest.setSpare)

theorem Keeps.markFaulty (h : Keeps s t) {p : Nat} : Keeps s (t.markFaulty p) :=
  h.unless (fun hu => .ite hu.putBit.slErrOpen.spareRest (.ite hu.putBit.slErrOpen.rest hu.putBit.slErrOpen.spareCarry))

theorem Keeps.spareFaulty (h : Keeps s t) : Keeps s t.spareFaulty :=
  ((h.when (·.flag)).flag.setSpare.unflag.rest.when (·.slErrOpen)).rxCalAbort

theorem Keeps.spareUp (h : Keeps s t) : Keeps s t.spareUp :=
  have h1 := Keeps.foldl h.rest (·.slErrOpen); .ite h1.setSpare (.ite (.foldl h1 (·.spareCarry)) h1.spareRest)

theorem Keeps.rxState (h : Keeps s t) {f st : Nat} : Keeps s (t.rxState f st) := h.setRx.put.spareRest
theorem Keeps.laneLocks (h : Keeps s t) {f : Nat} {on : Bool} : Keeps s (t.laneLocks f on) := .foldl h (·.put.put)

theorem Keeps.execRxLinkEnable (h : Keeps s t) {f : Fin 2} : OutKeeps s (execRxLinkEnable f t) :=
  .next (h.flag.put.when (fun hu => .foldl hu.rxState (·.wakeLane)))

theorem Keeps.execRxLinkDisable (h : Keeps s t) {f : Fin 2} : OutKeeps s (execRxLinkDisable f t) := .next h.unflag.laneLocks.rxState
theorem Keeps.rxClockFail (h : Keeps s t) {f : Nat} : Keeps s (t.rxClockFail f) := h.laneLocks.rxState.flag.report

theorem Keeps.execRxClockCheck (h : Keeps s t) {f : Fin 2} {span : Option Nat} : OutKeeps s (execRxClockCheck f span t) :=
  .ite h.noEvent <| .ite (.next h.rxClockFail) <| .next (h.setRx.when (·.rxState))

theorem Keeps.execRxLinkUp (h : Keeps s t) {f : Fin 2} : OutKeeps s (execRxLinkUp f t) :=
  .ite h.noEvent <| .next h.flowTo.setRx.laneLocks.rxState

theorem Keeps.rxUnlock (h : Keeps s t) {f lane sub : Nat} : Keeps s (t.rxUnlock f lane sub) := h.report.when (·.rxState)

theorem Keeps.execLaneLockLoss (h : Keeps s t) {l : Fin 12} : OutKeeps s (execLaneLockLoss l t) :=
  .next h.unflag.unflag.bump.flag.rxUnlock

theorem Keeps.sliceOut (h : Keeps s t) {p : Nat} {x uI : Int} : Keeps s (t.sliceOut p x uI).2 :=
  .ite (by split; exacts [h, h.free]) (show Keeps _ _ from by split; exacts [h, h.free]).setRx

theorem Keeps.sliceErrUsed (h : Keeps s t) {f t' : Nat} : Keeps s (t.sliceErrUsed f t') := by
  unfold State.sliceErrUsed; split; exacts [h.when (·.setInj), h]

theorem Keeps.rawAdd (h : Keeps s t) {f k t' : Nat} {ws : List Word} : Keeps s (t.rawAdd f k t' ws) :=
  .ite h.setRx <| .ite h.setRx.bump h.setRx

theorem Keeps.rxLabel (h : Keeps s t) {f n : Nat} {xs : List (Int × Bool)} : Keeps s (t.rxLabel f n xs) := by
  unfold State.rxLabel
  extract_lets tl cs mx v t₁ r t₂
  have h₁ : Keeps s t₁ := .foldl h fun hu => (hu.setRx.when (·.putBit)).when (·.putBit)
  clear_value t₁
  have h₂ : Keeps s t₂ := (Keeps.foldlFst (a := (t₁, [])) h₁ fun hu => hu.sliceOut).sliceErrUsed
  clear_value t₂ r
  split; exacts [h₂, h₂.rawAdd]

theorem Keeps.execRxRelease (h : Keeps s t) {f : Fin 2} {obs : RelObs} : OutKeeps s (execRxRelease f obs t) := by
  unfold Machine.execRxRelease
  refine .ite h.noEvent ?_
  dsimp only; split
  · exact .next h.flowTo.flag.rxUnlock
  · refine .next <| Keeps.forN (Keeps.unless ?_ fun hu => .foldl hu.setRx.flag.bump (·.bump.report)) (·.rxLabel)
    split; exacts [h.flowTo.put.setRx.setInj, h.flowTo.put.setRx]

theorem Keeps.execSlicePlausFault (h : Keeps s t) {p : Fin 9} : OutKeeps s (execSlicePlausFault p t) :=
  .ite (.next h.report.flag.spareFaulty) <| .next h.report.putBit.markFaulty

theorem Keeps.execSpareDwell (h : Keeps s t) : OutKeeps s (execSpareDwell t) :=
  .ite (by split; exacts [.next h.spareRest, .next (h.when (·.bump)).spareJoin]) h.noEvent

theorem Keeps.execMismatch (h : Keeps s t) : OutKeeps s (execMismatch t) := by
  unfold Machine.execMismatch
  split; · exact h.noEvent
  extract_lets p t₁
  have h₁ : Keeps s t₁ := h.flag.detect
  split
  exacts [.next (.ite h₁.withSpare.setSpare h₁.withSpare.setSpare), .next h₁.withSpare.setSpare]

theorem Keeps.execJudgeEnd (h : Keeps s t) {bad recur : Bool} : OutKeeps s (execJudgeEnd bad recur t) := by
  unfold Machine.execJudgeEnd; split; · exact h.noEvent
  refine .ite h.noEvent <| .ite (.next h.report.spareFaulty) <| .next (Keeps.unless ?_ (·.report.markFaulty)).spareRest
  split; exacts [h.rest.spareJoin.spareCarry, h.rest.spareJoin]

theorem Keeps.execRxFoForce (h : Keeps s t) {p : Fin 9} : OutKeeps s (execRxFoForce p t) := .next (h.put.when (·.spareCarry))
theorem Keeps.execRxFoRelease (h : Keeps s t) {p : Fin 9} : OutKeeps s (execRxFoRelease p t) := .next (h.put.when (·.rest))

theorem Keeps.execRxClearFaulty (h : Keeps s t) {p : Fin 9} : OutKeeps s (execRxClearFaulty p t) :=
  .ite (.next (h.put.unflag.when (·.setSpare)).spareRest) <| .next h.put.putBit.slErrClose.spareRest

theorem Keeps.resApplyWord (h : Keeps s t) {t' a : Nat} : Keeps s (t.resApplyWord t' a) := h.applyWord.unless (·.rest)

theorem Keeps.applyRes (h : Keeps s t) {f t' : Nat} : Keeps s (t.applyRes f t') :=
  (Keeps.foldl h (·.resApplyWord)).setRx.unless (·.withRes)

theorem Keeps.execRxwApply (h : Keeps s t) {fibres : Fin 4} : OutKeeps s (execRxwApply fibres t) :=
  .next (.foldl h.put (fun hu => .ite hu.setRx hu.applyRes))

theorem Keeps.execRxwTapplyArm (h : Keeps s t) {fibres : Fin 4} : OutKeeps s (execRxwTapplyArm fibres t) :=
  .ite (.next h.put.flag) <| .next h.put.flag.sendDue

theorem Keeps.execRxwTapplyCancel (h : Keeps s t) : OutKeeps s (execRxwTapplyCancel t) := by
  unfold Machine.execRxwTapplyCancel; split
  exacts [.next (h.cancelDue ‹_›).unflag, .next h]

theorem Keeps.spareShot (h : Keeps s t) {f t' : Nat} : Keeps s (t.spareShot f t') := by
  unfold State.spareShot
  refine Keeps.when ?_ fun hu => (hu.rest.unflag.spareJoin.when (·.slErrOpen)).spareRest
  split; exacts [h.when (·.rest.flag.slErrClose), h]

theorem Keeps.rxShot (h : Keeps s t) {f t' : Nat} : Keeps s (t.rxShot f t') := by
  unfold State.rxShot
  refine (Keeps.foldl (h.bump.bump.when (·.applyRes)) fun hu => ?_).spareShot.unless (·.rest)
  dsimp only; split; exacts [hu.unless (·.loadOver.rxLoad), hu]

theorem Keeps.rxSwitch (h : Keeps s t) : Keeps s t.rxSwitch := h.forN (fun hu => hu.unless (·.rxClockFail))

theorem Keeps.execEccDbe (h : Keeps s t) {c : Fin 64} {f : Fin 2} {a : Nat} {lost : Nat × Nat} : OutKeeps s (execEccDbe c f a lost t) :=
  .next h.setRx.flag.bump.detect

theorem Keeps.execResidue (h : Keeps s t) {c : Fin 64} {stage : Fin 16} {f : Fin 2} : OutKeeps s (execResidue c stage f t) :=
  .next (h.setRx.flag.bump.unless (·.setWord)).detect

/-! ### The functions of `Machine/Clock.lean` -/

theorem Keeps.keeperShow (h : Keeps s t) : Keeps s t.keeperShow := h.put.put
theorem Keeps.guardAfresh (h : Keeps s t) : Keeps s t.guardAfresh := h.rest
theorem Keeps.setQual (h : Keeps s t) {b v : Bool} : Keeps s (t.setQual b v) := h.put.unless (·.rest)
theorem Keeps.refSwitch (h : Keeps s t) {b : Bool} : Keeps s (t.refSwitch b) := (h.unless (·.flag.bump)).put.unflag.keeperShow

theorem Keeps.refLost (h : Keeps s t) {b : Bool} {sub : Nat} : Keeps s (t.refLost b sub) :=
  have h2 := Keeps.ite h.setQual.refSwitch (h.setQual.when (·.put)); (Keeps.ite h2.keeperShow.guardAfresh h2.keeperShow).when (·.detect)

theorem Keeps.execRefActivityLoss (h : Keeps s t) {b : Bool} : OutKeeps s (execRefActivityLoss b t) :=
  .ite h.noEvent <| .next h.unflag.bump.rest.refLost

theorem Keeps.execRefQualify (h : Keeps s t) {b : Bool} : OutKeeps s (execRefQualify b t) :=
  .ite h.noEvent <| .next (h.setQual.keeperShow.when (·.rest))

theorem Keeps.execPrefWrite (h : Keeps s t) {b : Bool} : OutKeeps s (execPrefWrite b t) := .next (.ite h.put.rest (h.put.unless (·.rest)))

theorem Keeps.rereference (h : Keeps s t) : Keeps s t.rereference := by
  unfold State.rereference; split; exacts [h, h.rest.when (·.refSwitch)]

theorem Keeps.execRefRereference (h : Keeps s t) : OutKeeps s (execRefRereference t) := .next h.rereference
theorem Keeps.trimTo (h : Keeps s t) : Keeps s t.trimTo := h.unless (·.rest)
theorem Keeps.planEnds (h : Keeps s t) : Keeps s t.planEnds := h.trimTo.rest

theorem Keeps.safeCycles (h : Keeps s t) {rem : Nat} : Keeps s (t.safeCycles rem).2 := by
  unfold State.safeCycles; dsimp only; split; exacts [h.free, h]

theorem Keeps.safeSpan (h : Keeps s t) {n : Nat} : Keeps s (t.safeSpan n).2 := by
  unfold State.safeSpan; dsimp only; split; exacts [h.free, h]

theorem Keeps.retimeTo (h : Keeps s t) {o n : Nat} : Keeps s (t.retimeTo o n) := by
  unfold State.retimeTo; split; exacts [h, h.safeSpan.setOut]

theorem Keeps.pulseSwitch (h : Keeps s t) {o : Nat} : Keeps s (t.pulseSwitch o) := by
  unfold State.pulseSwitch; split; exacts [h, by split; exacts [h.retimeTo, h.setOut.when (·.flag)]]

theorem Keeps.outSwitch (h : Keeps s t) {o : Nat} : Keeps s (t.outSwitch o) := h.pulseSwitch.unless (·.oPut)

theorem Keeps.toSafe (h : Keeps s t) : Keeps s t.toSafe :=
  h.unless fun hu =>
    have hp := hu.limTo.limTo.probeTo.probeTo.reedTo.trimTo.put.keeperShow.guardAfresh
    (hp.forN (·.outSwitch)).heddleSwitch.gatesClkEvt.seqHalt.seqHalt.marksDrop.rxSwitch.txSwitch

theorem Keeps.outReturn (h : Keeps s t) {retune : Bool} {o : Nat} : Keeps s (t.outReturn retune o) :=
  ((((h.when (·.oPut)).when (·.setOut)).oRefresh.when (·.oPut)).when (·.oClampCheck)).applyIfWaiting

theorem Keeps.toPllw (h : Keeps s t) {retune : Bool} : Keeps s (t.toPllw retune) :=
  (h.limTo.limTo.probeTo.probeTo.reedTo.trimTo.unflag.flag.keeperShow.forN (·.outReturn)).heddleReturn

theorem Keeps.safeSource (h : Keeps s t) {ring : Bool} : Keeps s (t.safeSource ring) := by
  refine h.unless fun _ => .ite h.put (.foldl (Keeps.put ?_) (·.retimeTo))
  refine Keeps.foldlFst (a := (t, [])) h fun hu => ?_
  split
  · split; exacts [hu.safeCycles, hu]
  · exact hu

theorem Keeps.toRing (h : Keeps s t) {relock : Bool} : Keeps s (t.toRing relock) := h.free.put.rest

theorem Keeps.execPllcLost (h : Keeps s t) : OutKeeps s (execPllcLost t) :=
  .ite h.noEvent <| .next h.unflag.flag.flag.safeSource.toRing.report

theorem Keeps.execPllcReturn (h : Keeps s t) : OutKeeps s (execPllcReturn t) := .next (h.unless (·.flowTo)).put.unflag.safeSource.rest

theorem Keeps.execRetuneGo (h : Keeps s t) : OutKeeps s (execRetuneGo t) :=
  .ite (.next h.put) <| .next h.rest.put.calAbort.rxCalAbort.cdFail.checkLoad

theorem Keeps.execDrainComplete (h : Keeps s t) : OutKeeps s (execDrainComplete t) := .ite (.next h.toSafe.put) h.noEvent

theorem Keeps.drainCut (h : Keeps s t) {o : Nat} : Keeps s (t.drainCut o) :=
  (show Keeps _ _ from by split; exacts [h.setOut.bump.when (·.pulseSwitch), h.setOut.bump]).oRefresh.applyIfWaiting

theorem Keeps.execDrainLimitExpiry (h : Keeps s t) : OutKeeps s (execDrainLimitExpiry t) := .ite (.next (h.forN (·.drainCut))) h.noEvent

theorem Keeps.execDividerAlign (h : Keeps s t) : OutKeeps s (Machine.execDividerAlign t) := by
  have hs {u : State} {a b : Nat} {w x : Word} (hu : Keeps s u) : Keeps s { u with shadow := (u.shadow.ins a w).ins b x } :=
    hu.setShadow fun c => RegMap.rises_ins _ _ (RegMap.rises_ins _ _ c)
  exact .ite (.next ((Keeps.ite h.planEnds.applyWords
    (hs h.planEnds).setWord.setWord).setWord.withClk.unflag.reedAll.gatesClkEvt.guardAfresh.when (·.put))) h.noEvent

theorem Keeps.execGuardPass (h : Keeps s t) : OutKeeps s (execGuardPass t) :=
  .ite (.next (.ite h.flowTo.put.rest h.flowTo.put.put)) h.noEvent

theorem Keeps.execGuardLimitExpiry (h : Keeps s t) : OutKeeps s (execGuardLimitExpiry t) :=
  .ite h.noEvent <| .ite (.next h.rest.flag.put) <| .ite (.next h.put.put.report) h.noEvent

theorem Keeps.rampStart (h : Keeps s t) {from_ : Int} : Keeps s (t.rampStart from_) := .ite h.trimTo.rest.unflag.putSat h.trimTo.rest.flag

theorem Keeps.takeTrim (h : Keeps s t) {v : Int} : Keeps s (t.takeTrim v) :=
  have h3 := (h.trimTo.unless (·.flag)).putSat; .ite h3.unflag.putSat h3.rampStart

theorem Keeps.execTrimWrite (h : Keeps s t) {trim : Int} : OutKeeps s (execTrimWrite trim t) := .next (.ite h.flag h.takeTrim)
theorem Keeps.execTrimRampDone (h : Keeps s t) : OutKeeps s (execTrimRampDone t) := .ite h.noEvent <| .next h.flowTo.trimTo.unflag.putSat

theorem Keeps.execPllwReturn (h : Keeps s t) {resid : Int} : OutKeeps s (execPllwReturn resid t) :=
  .ite h.noEvent <| .next ((h.putSat.toPllw.put.unless (·.put)).rest.when (·.put)).rampStart

theorem Keeps.lockLossCount (h : Keeps s t) : Keeps s t.lockLossCount := h.bump.report

theorem Keeps.lockLoss (h : Keeps s t) : Keeps s t.lockLoss :=
  .ite (h.unflag.lockLossCount.guardAfresh.rest.when (·.put))
    (h.unflag.unless (·.setWord.setWord)).flag.lockLossCount.trimTo.calAbort.rxCalAbort.cdFail.toSafe.put.checkLoad

theorem Keeps.execLockLost (h : Keeps s t) : OutKeeps s (execLockLost t) := .next h.lockLoss

theorem Keeps.phaseFlag (h : Keeps s t) {d : Int} {t' : Nat} : Keeps s (t.phaseFlag d t') :=
  (h.unless (·.putSat)).flag.bump.rest.detect.when (·.lockLoss)

theorem Keeps.execPhaseStep (h : Keeps s t) {stamps : List Nat} : OutKeeps s (execPhaseStep stamps t) :=
  .ite h.noEvent <| .next h.flowTo.phaseFlag

theorem Keeps.execPllwFirstLock (h : Keeps s t) : OutKeeps s (execPllwFirstLock t) :=
  .ite h.noEvent <| .next h.shiftTimers.withZero.put.keeperShow

/-! ### The functions of `Machine/LampOps.lean` -/

theorem Keeps.setLamp (h : Keeps s t) {l : Nat} {x : LampSt} : Keeps s (t.setLamp l x) := h.rest
theorem Keeps.setMat (h : Keeps s t) {i : Nat} {x : LampSt} : Keeps s (t.setMat i x) := h.rest
theorem Keeps.forceLamps (h : Keeps s t) : Keeps s t.forceLamps := h.forN (fun hu => hu.when (·.setLamp))
theorem Keeps.showLamp (h : Keeps s t) {l : Nat} : Keeps s (t.showLamp l) := h.unless (·.put.flag)
theorem Keeps.putMat (h : Keeps s t) {f : Fld} {v i : Nat} : Keeps s (t.putMat f v i) := h.setWord
theorem Keeps.showMat (h : Keeps s t) {i : Nat} : Keeps s (t.showMat i) := h.putMat.putMat
theorem Keeps.starved (h : Keeps s t) {l : Nat} : Keeps s (t.starved l) := h.bump.setLamp.showLamp
theorem Keeps.closePeriod (h : Keeps s t) {l : Nat} : Keeps s (t.closePeriod l) := .ite h.setLamp h.setLamp.starved
theorem Keeps.closeMat (h : Keeps s t) {i : Nat} : Keeps s (t.closeMat i) := .ite h.setMat h.putMat.setMat.showMat
theorem Keeps.resetLamp (h : Keeps s t) {l : Nat} : Keeps s (t.resetLamp l) := h.setLamp.put.showLamp
theorem Keeps.resetMat (h : Keeps s t) {i : Nat} : Keeps s (t.resetMat i) := h.setMat.putMat.putMat

theorem Keeps.lampApplyPoint (h : Keeps s t) : Keeps s t.lampApplyPoint :=
  h.unless (fun hu => ((hu.forN (·.applyWord)).forN (·.applyWord.applyWord)).unflag)

theorem Keeps.planStretch (h : Keeps s t) {l : Nat} : Keeps s (t.planStretch l) :=
  h.setLamp.unless (fun hu => by dsimp only; split; exacts [hu.bump, .ite hu.bump hu.setLamp])

theorem Keeps.frameStart (h : Keeps s t) {el : Nat} : Keeps s (t.frameStart el) :=
  have h₁ := (h.forN (·.setLamp)).forN fun hu => hu.when (·.closePeriod)
  have h₂ := (h₁.when fun hu => hu.forN (·.closeMat)).when fun hu => .foldl hu (·.unstage)
  have h₃ := h₂.when fun hu => (hu.forN (·.resetLamp)).forN (·.resetMat)
  h₃.put.lampApplyPoint.rest.forN (·.setLamp.planStretch)

theorem Keeps.lampOn (h : Keeps s t) {l n lead on : Nat} {sense : Option Nat} : Keeps s (t.lampOn l n lead on sense) :=
  .ite (h.setLamp.when (fun hu => .foldl hu (·.setMat))).setMat h.setLamp

theorem Keeps.captureCut (h : Keeps s t) {l : Nat} : Keeps s (t.captureCut l) := .ite (.foldl h (·.setMat)) <| h.setLamp.when (·.starved)

theorem Keeps.diagnose (h : Keeps s t) {l : Nat} : Keeps s (t.diagnose l) := by
  unfold State.diagnose; dsimp only; split; exacts [h, h.put.put.setLamp.showLamp.healthLamp]

theorem Keeps.diagnoseMat (h : Keeps s t) {i : Nat} : Keeps s (t.diagnoseMat i) := by
  unfold State.diagnoseMat; dsimp only; split; exacts [h, h.putMat.putMat.setMat.showMat]

/-! ### The functions of `Machine/LoadCheck.lean` -/

theorem Keeps.present (h : Keeps s t) : Keeps s t.present := .foldl h (·.setWord)
theorem Keeps.takeBinds (h : Keeps s t) {bs : List Nat} : Keeps s (t.takeBinds bs) := h.rest

theorem Keeps.putDraft (h : Keeps s t) {bs : List Nat} {p : Nat → Bool} : Keeps s (t.putDraft bs p) :=
  have hp := h.present.unless fun hu => .foldl hu (·.setWord)
  (Keeps.foldl (.foldl (.foldl hp (·.setWord)) (·.setWord)) fun hu => hu.when (·.setWord)).takeBinds

/-! ### The functions of `Machine/Master.lean` -/

theorem Keeps.calMoutNext {ms : List Nat} (h : Keeps s t) : Keeps s (t.calMoutNext ms) := by
  induction ms generalizing t with
  | nil => exact h.calDone.calEnd
  | cons m ms ih => exact .ite (ih h.put.put) h.withCal.put.setRole

theorem Keeps.calMoutSkip (h : Keeps s t) : Keeps s t.calMoutSkip := h.heldRecord.put.calMoutNext
theorem Keeps.startSwap (h : Keeps s t) {m inc out : Nat} {why : SwapWhy} : Keeps s (t.startSwap m inc out why) := h.setVoter.setRole

theorem Keeps.replaceGen (h : Keeps s t) {m g : Nat} : Keeps s (t.replaceGen m g) := by
  unfold State.replaceGen; dsimp only; split; exacts [.ite (.ite h.setVoter h.setVoter) h.flag,
    .ite (h.when (·.calMoutSkip)).startSwap (.ite (h.flag.put.startSwap.when (·.calMoutSkip)) h.flag)]

theorem Keeps.voteErr (h : Keeps s t) {m g cause : Nat} {d : Int} {t' : Nat} : Keeps s (t.voteErr m g cause d t') :=
  (h.flag.bump.unless (·.setWord.setWord.setWord)).detect

theorem Keeps.disagree (h : Keeps s t) {m : Nat} {es : List (Nat × Nat × Int)} {t' : Nat} : Keeps s (t.disagree m es t') := by
  unfold State.disagree
  extract_lets v gs new t₁ t₂
  have h₂ : Keeps s t₂ := .foldl h.setVoter.redundancy (·.voteErr)
  clear_value t₂
  split; exacts [h₂, h₂.when (·.replaceGen)]

theorem Keeps.shadowFails (h : Keeps s t) {m g t' : Nat} : Keeps s (t.shadowFails m g t') :=
  (h.setVoter.setRole.flag.voteErr.when (·.flag)).when (·.calMoutSkip)

theorem Keeps.voteOne (h : Keeps s t) {m g cause t' : Nat} : OutKeeps s (t.voteOne m g cause t') :=
  .ite (.next h.disagree) <| .ite (.next h.shadowFails) h.noEvent

theorem Keeps.earlyExtras (h : Keeps s t) {m t' : Nat} {ref : Int} {vs : List (Nat × Option Int)} : Keeps s (t.earlyExtras m t' ref vs) :=
  .foldl h (fun hu => by split; exacts [hu.when (·.flowTo.disagree), hu])

theorem Keeps.execVoteClassify (h : Keeps s t) {m : Fin 8} {obs : VoteObs} : OutKeeps s (Machine.execVoteClassify m obs t) := by
  unfold Machine.execVoteClassify
  extract_lets m' o x
  split
  · exact .ite h.noEvent h.flowTo.voteOne
  · exact .ite h.flowTo.voteOne h.flowTo.noEvent
  · split; · exact h.noEvent
    extract_lets vs t₁ second ref t' f t₂ t₃ out t₄ counts es t₅
    have h₁ : Keeps s t₁ := .foldl h (·.injEdgeUsed)
    have h₃ : Keeps s t₃ := (Keeps.ite h₁.free h₁.free.earlyExtras).flowTo
    clear_value t₃
    have h₅ : Keeps s t₅ := h₃.setOut.unless (·.disagree)
    clear_value t₅
    split; exacts [.next (h₅.injEdgeUsed.when (·.shadowFails)), .next h₅]

theorem Keeps.execSwapCopyDone (h : Keeps s t) {m : Fin 8} : OutKeeps s (execSwapCopyDone m t) := by
  unfold Machine.execSwapCopyDone; dsimp only; split; exacts [.ite (.next h.setVoter) h.noEvent, h.noEvent]

theorem Keeps.faultyLeaves (h : Keeps s t) {m : Nat} : Keeps s (t.faultyLeaves m) :=
  h.when (fun hu => by split; exacts [hu.startSwap, hu])

theorem Keeps.swapDone (h : Keeps s t) {m : Nat} {w : Swap} : Keeps s (t.swapDone m w) := by
  unfold State.swapDone
  extract_lets v r faulty rest t₁ cal t₂ t₃ src t₄
  have h₃ : Keeps s t₃ := h.setVoter.put.setRole
  have h₄ : Keeps s t₄ := h₃.when fun _ => .ite h₃.calMoutSkip h₃.withCal.put
  clear_value t₄
  split; exacts [h₄.replaceGen, h₄]

theorem Keeps.execSwapTakeover (h : Keeps s t) {m : Fin 8} : OutKeeps s (execSwapTakeover m t) := by
  unfold Machine.execSwapTakeover; split; exacts [h.noEvent,
    by split; exacts [h.noEvent, by dsimp only; split; exacts [.next h.flowTo.flowTo.swapDone, .next h.flowTo.setVoter.flowTo]]]

theorem Keeps.execReplace (h : Keeps s t) {m : Fin 8} {g : Fin 4} : OutKeeps s (execReplace m g t) :=
  .next (.ite h.put.flag (h.put.when (·.replaceGen)))

theorem Keeps.execClearFaulty (h : Keeps s t) {m : Fin 8} {g : Fin 4} : OutKeeps s (execClearFaulty m g t) :=
  .ite (.next h.put.setVoter.setRole) <| .next h.put

theorem Keeps.execWarpApply (h : Keeps s t) {banks chans : Fin 256} : OutKeeps s (execWarpApply banks chans t) :=
  .next (.foldl h.put.put (·.requestApply))

theorem Keeps.execMoutApply (h : Keeps s t) {outs : Fin 256} : OutKeeps s (execMoutApply outs t) :=
  .next (Keeps.foldl h.put (fun hu => .ite hu.applyOut hu.requestApply)).checkLoad

theorem Keeps.execWarpTapplyArm (h : Keeps s t) {banks chans : Fin 256} : OutKeeps s (execWarpTapplyArm banks chans t) :=
  .ite (.next h.put.put.flag) <| .next h.put.put.flag.sendDue

theorem Keeps.execWarpTapplyCancel (h : Keeps s t) : OutKeeps s (execWarpTapplyCancel t) := by
  unfold Machine.execWarpTapplyCancel; split
  exacts [.next (h.cancelDue ‹_›).unflag, .next h]

theorem Keeps.execMoutTapplyArm (h : Keeps s t) {outs : Fin 256} : OutKeeps s (execMoutTapplyArm outs t) :=
  .ite (.next h.put.flag) <| .next h.put.flag.sendDue

theorem Keeps.execMoutTapplyCancel (h : Keeps s t) : OutKeeps s (execMoutTapplyCancel t) := by
  unfold Machine.execMoutTapplyCancel; split
  exacts [.next (h.cancelDue ‹_›).unflag, .next h]

/-! ### The functions of `Machine/Apply.lean` -/

theorem Keeps.seqTimed (h : Keeps s t) {q : Nat} {own : Bool} {due : Nat} : Keeps s (t.seqTimed q own due) :=
  .ite h.setSeq <| h.seqApply.when (·.seqTapplyDone)

theorem Keeps.outsTimed (h : Keeps s t) {os : List Nat} : Keeps s (t.outsTimed os) := .foldl h (·.applyOut)
theorem Keeps.takeApply (h : Keeps s t) {c : Stored} : Keeps s (t.takeApply c) := h.flowBefore.rest

theorem Keeps.timedApply (h : Keeps s t) {c : DueCmd} : Keeps s (t.timedApply c) := by
  unfold State.timedApply; split; exacts [.ite h.bump h.applyOut, .ite h.bump h.applyOut, .ite h.bump.unflag h.outsTimed.unflag.flag,
    .ite h.bump.unflag h.outsTimed.unflag.flag, h.seqTimed, (Keeps.foldl h (·.applyProbe)).unflag.flag,
    (Keeps.foldl h (·.applyRes)).unflag.flag, h, h]

theorem Keeps.groupApply (h : Keeps s t) {g : Word} {due : Nat} : Keeps s (t.groupApply g due) :=
  (Keeps.foldl (.foldl (.foldl (h.unless (fun hu => .ite hu.bump hu.outsTimed)) (·.seqTimed)) (·.applyProbe)) (·.applyRes)).bump

theorem Keeps.execTapply (h : Keeps s t) : OutKeeps s (execTapply t) := by
  unfold Machine.execTapply; split; exacts [h.noEvent, .ite h.noEvent (.next (.ite h.takeApply.lockDrop h.takeApply.timedApply))]

theorem Keeps.execGroupTapply (h : Keeps s t) : OutKeeps s (execGroupTapply t) := by
  unfold Machine.execGroupTapply; split; exacts [h.noEvent,
    .ite h.noEvent (.ite (.next h.takeApply.lockDrop) (.next (h.takeApply.groupApply.when (·.unflag.flag))))]

theorem Keeps.execGroupTapplyArm (h : Keeps s t) {g : Fin 256} : OutKeeps s (execGroupTapplyArm g t) :=
  .ite (.next h.put.flag) <| .next h.put.flag.sendDue

theorem Keeps.execGroupTapplyCancel (h : Keeps s t) : OutKeeps s (execGroupTapplyCancel t) := by
  unfold Machine.execGroupTapplyCancel; split
  exacts [.next (h.cancelDue ‹_›).unflag, .next h]

/-! ### The functions of `Machine/Reed.lean` -/

theorem Keeps.bindHigh (h : Keeps s t) {q : Nat} {v : Option Nat} : Keeps s (t.bindHigh q v) := h.forN (fun hu => hu.when (·.rest))

theorem Keeps.mergeOldest (h : Keeps s t) : Keeps s t.mergeOldest := by
  unfold State.mergeOldest
  split; · exact h
  extract_lets x t₁ t₂ b ws y q r wrote src t₃
  have h₁ : Keeps s t₁ := h.flowTo
  have h₂ : Keeps s t₂ := by unfold t₂; split; exacts [h₁.flowTo, h₁]
  have h₃ : Keeps s t₃ := h₂.packet.withReedIn
  exact h₃.unless (·.bindHigh)

theorem Keeps.execStampMerge (h : Keeps s t) : OutKeeps s (execStampMerge t) := by
  unfold Machine.execStampMerge; split; exacts [h.noEvent, .next h.flowTo.reedAll.mergeOldest]

theorem Keeps.gateEvent (h : Keeps s t) {g : Nat} {close : Bool} : OutKeeps s (t.gateEvent g close) := by
  unfold Machine.State.gateEvent; dsimp only; split; exacts [.ite (.next h.reedTo.flowTo.reedTo) h.noEvent, h.noEvent]

theorem Keeps.execGateOpen (h : Keeps s t) {g : Fin 4} : OutKeeps s (execGateOpen g t) := h.gateEvent
theorem Keeps.execGateClose (h : Keeps s t) {g : Fin 4} : OutKeeps s (execGateClose g t) := h.gateEvent

theorem Keeps.execGateArm (h : Keeps s t) {g : Fin 4} : OutKeeps s (execGateArm g t) :=
  .ite (.next h.reedTo) <| .ite (.next h.reedTo.flag) <| .ite (.next h.reedTo.flag) <| .next h.reedTo.gateOpening

theorem Keeps.execGateHostOpen (h : Keeps s t) {g : Fin 4} : OutKeeps s (execGateHostOpen g t) :=
  .ite (.next h.reedTo) <| .next h.reedTo.gateOpening.gatesSync

theorem Keeps.execGateHostClose (h : Keeps s t) {g : Fin 4} : OutKeeps s (execGateHostClose g t) :=
  .ite (.next h.reedTo) <| .next h.reedTo.gateClosing.gatesSync

theorem Keeps.execGateStop (h : Keeps s t) {g : Fin 4} : OutKeeps s (execGateStop g t) := .next (h.reedTo.when (·.setGate))

theorem Keeps.execMuResult (h : Keeps s t) {u : Fin 4} : OutKeeps s (execMuResult u t) := by
  unfold Machine.execMuResult; dsimp only; split; exacts [h.noEvent,
    .next (((h.reedTo.setMu.forN (·.setWord)).when (·.flag)).when (·.packet)).flag.put.put.put]

theorem Keeps.execMuResultRead (h : Keeps s t) {u : Fin 4} : OutKeeps s (execMuResultRead u t) := .next (h.setMu.forN (·.setWord))

/-! ### The functions of `Machine/Hist.lean` -/

theorem Keeps.setSkein (h : Keeps s t) {k : Nat} {x : SkeinSt} : Keeps s (t.setSkein k x) := h.rest
theorem Keeps.setReader (h : Keeps s t) {r : Nat} {x : RdSt} : Keeps s (t.setReader r x) := h.rest
theorem Keeps.setRegion (h : Keeps s t) {q : Nat} {x : RegionSt} : Keeps s (t.setRegion q x) := h.rest

theorem Keeps.placeMark (h : Keeps s t) {k : Nat} {m : MarkSt} : Keeps s (t.placeMark k m) :=
  h.unless (fun hu => by dsimp only; split; exacts [hu.bump, hu.setSkein])

theorem Keeps.detectorMark (h : Keeps s t) {inst fibre det id : Nat} : Keeps s (t.detectorMark inst fibre det id) :=
  h.forN (fun hu => hu.when (·.placeMark))

theorem Keeps.freeMark (h : Keeps s t) {k j : Nat} : Keeps s (t.freeMark k j) := (h.forN (fun hu => hu.when (·.setReader))).setSkein
theorem Keeps.rawDrop (h : Keeps s t) {k : Nat} {cfg : Word} : Keeps s (t.rawDrop k cfg) := h.unless (·.setRx.bump)

theorem Keeps.emptySkein (h : Keeps s t) {k : Nat} : Keeps s (t.emptySkein k) :=
  (h.forN (fun hu => hu.when (·.unflag.flag))).setSkein.unflag

theorem Keeps.execHistMark (h : Keeps s t) {k : Fin 64} : OutKeeps s (execHistMark k t) := .next h.put.put.placeMark

theorem Keeps.execHistRelease (h : Keeps s t) {k : Fin 64} {j : Fin 16} : OutKeeps s (execHistRelease k j t) :=
  .next h.put.put.put.freeMark

theorem Keeps.execMarkLocated (h : Keeps s t) {k : Fin 64} {j : Fin 16} : OutKeeps s (execMarkLocated k j t) :=
  .ite h.noEvent <| .next h.setSkein

theorem Keeps.invalidate (h : Keeps s t) {k : Nat} {vs : List Frame} : Keeps s (t.invalidate k vs) :=
  h.unless (fun hu => (hu.setSkein.flag.unless (·.flag)).forN (fun hv => hv.when (·.setReader.flag.bump.setWord)))

theorem Keeps.writeFrame (h : Keeps s t) {k inst : Nat} {ws : List Word} {damaged gap : Bool} :
    Keeps s (t.writeFrame k inst ws damaged gap) :=
  .ite h.setSkein.flag.bump h.invalidate.setSkein

theorem Keeps.captureInst (h : Keeps s t) {k : Nat} {ws : List Word} : Keeps s (t.captureInst k ws).2 := by
  unfold State.captureInst; dsimp only; split
  exacts [h, h.viewLag (ps := Config.memcPs)]

theorem Keeps.capture (h : Keeps s t) {k q : Nat} : Keeps s (t.capture k q) := .ite h.popN.flag h.popN.captureInst.writeFrame

theorem Keeps.execSkeinFrameWrite (h : Keeps s t) {k : Fin 64} : OutKeeps s (execSkeinFrameWrite k t) := by
  unfold Machine.execSkeinFrameWrite; split; exacts [h.noEvent, .ite (.next h.capture) h.noEvent]

theorem Keeps.execRawFrameWrite (h : Keeps s t) {f : Fin 2} : OutKeeps s (execRawFrameWrite f t) := by
  unfold Machine.execRawFrameWrite; dsimp only; split; exacts [.ite (.next h.setRx.writeFrame) h.noEvent, h.noEvent]

theorem Keeps.execReaderGo (h : Keeps s t) {r : Fin 8} : OutKeeps s (execReaderGo r t) :=
  .ite (.next h) <| .ite (.next h.flag) <| .next h.setReader.flag.setWord

theorem Keeps.execReaderStop (h : Keeps s t) {r : Fin 8} : OutKeeps s (execReaderStop r t) := .next h.unflag
theorem Keeps.readerDone (h : Keeps s t) {r : Nat} : Keeps s (t.readerDone r) := h.flag.unflag

theorem Keeps.markRead (h : Keeps s t) {r no : Nat} : Keeps s (t.markRead r no) :=
  h.unless (fun hu => .ite hu.freeMark (hu.when (·.setSkein)))

theorem Keeps.execReaderFrame (h : Keeps s t) {r : Fin 8} : OutKeeps s (execReaderFrame r t) :=
  .ite h.noEvent <|
  .ite (.next h.readerDone) (by split; exacts [h.noEvent, .ite h.noEvent (.next (h.packet.setReader.setWord.markRead.when (·.readerDone)))])

theorem Keeps.execStreamRegionReset (h : Keeps s t) {q : Fin 2} : OutKeeps s (execStreamRegionReset q t) := .next h.setRegion

theorem Keeps.regionTake (h : Keeps s t) {q b : Nat} {ws : List BWord} : Keeps s (t.regionTake q b ws) :=
  .ite h.setRegion.popN.bump h.setRegion.popN

theorem Keeps.execStreamRegionWrite (h : Keeps s t) {q : Fin 2} : OutKeeps s (execStreamRegionWrite q t) := by
  unfold Machine.execStreamRegionWrite; split; exacts [h.noEvent, .ite h.noEvent (.next h.regionTake)]

theorem Keeps.regionGranule (h : Keeps s t) {q : Nat} {ws : List Word} (e : t.regionGranule q = some (ws, u)) : Keeps s u := by
  unfold State.regionGranule at e
  split at e; · cases e
  dsimp only at e
  split at e <;> split at e <;> cases e <;> exact h.setRegion

theorem Keeps.regionGo (h : Keeps s t) {q : Nat} : Keeps s (t.regionGo q) := h.when (·.setRegion)
theorem Keeps.toneDbe (h : Keeps s t) {f l : Nat} {ws : List Nat} : Keeps s (t.toneDbe f l ws) := h.rest

theorem Keeps.execDramDbe (h : Keeps s t) {page : Fin 16384} {line : Fin 32768} {ws : List (Fin 13)} {patrol : Bool} :
    OutKeeps s (execDramDbe page line ws patrol t) :=
  have h₁ := (h.forN fun hu => hu.when (·.setSkein)).forN fun hu => hu.when (·.setRegion)
  .next (h₁.forN fun hu => hu.when (·.toneDbe)).flag.bump.detect

theorem Keeps.execDramScrubPass (h : Keeps s t) {sbe : Nat} : OutKeeps s (execDramScrubPass sbe t) :=
  .ite h.noEvent <| .next (h.bump.rest.when (·.flag))

theorem Keeps.toneZero (h : Keeps s t) {f : Nat} : Keeps s (t.toneZero f) := h.rest
theorem Keeps.dramClear (h : Keeps s t) : Keeps s t.dramClear := ((h.forN (·.emptySkein)).forN (·.toneZero)).withRegions
theorem Keeps.execDramReady (h : Keeps s t) : OutKeeps s (execDramReady t) := .ite h.noEvent <| .next h.dramClear.flag

theorem Keeps.execRetentionTestGo (h : Keeps s t) {page : Fin 16384} {hold : Fin 256} : OutKeeps s (execRetentionTestGo page hold t) :=
  .ite (.next h.put.put.flag) <| .next (.ite h.put.put.claim.flag.rest h.put.put.claim.flag)

theorem Keeps.execRetentionTestDone (h : Keeps s t) {weak : Nat} : OutKeeps s (execRetentionTestDone weak t) :=
  .ite h.noEvent <| .next h.put.unflag.release

/-! ### The functions of `Machine/Results.lean` -/

theorem Keeps.setRes (h : Keeps s t) {f : Nat} {x : ResSt} : Keeps s (t.setRes f x) := h.rest

theorem Keeps.sendFrame (h : Keeps s t) {k f : Nat} {r : FrameRow} {is : List Nat} : Keeps s (t.sendFrame k f r is) :=
  h.packet.rest.unless (·.flag.bump)

theorem Keeps.sendFrames {k f n fuel : Nat} {r : FrameRow} {is : List Nat} (h : Keeps s t) : Keeps s (t.sendFrames k f n r fuel is) := by
  induction fuel generalizing t is with
  | zero => exact h
  | succ fuel ih => exact h.unless fun _ => ih h.sendFrame

theorem Keeps.sendRow (h : Keeps s t) {f src t' top : Nat} {p : Nat → Bool} {r : Nat → FrameRow} : Keeps s (t.sendRow f src t' top p r) :=
  h.forN (fun hu => hu.when (·.sendFrames))

theorem Keeps.writeRec (h : Keeps s t) {f d : Nat} {inst : Nat → Nat} {r : DetRec} : Keeps s (t.writeRec f d inst r) :=
  h.unless (fun hu => hu.packet.setRes.unless (·.flag.flag))

theorem Keeps.startRec (h : Keeps s t) {f d : Nat} {inst : Nat → Nat} {r : DetRec} : Keeps s (t.startRec f d inst r) :=
  (h.bump.when (fun hu => .ite hu.viewLag.bump hu.viewLag.setRes.sendDue)).when (·.detectorMark)

theorem Keeps.detRow (h : Keeps s t) {f d t' flags : Nat} {inst : Nat → Nat} {inp : Nat → Option Int} :
    Keeps s (t.detRow f d t' flags inst inp) :=
  (Keeps.foldl h.setRes (fun hu => hu.writeRec.unless (·.startRec))).put

theorem Keeps.detRows (h : Keeps s t) {f t' flags : Nat} {p : Nat → Bool} {inst : Nat → Nat} {inp : Nat → Nat → Option Int} :
    Keeps s (t.detRows f t' flags p inst inp) :=
  h.forN (fun hu => hu.when (·.detRow))

theorem Keeps.zeroGauges (h : Keeps s t) {f : Nat} : Keeps s (t.zeroGauges f) := h.setRes

theorem Keeps.formRow (h : Keeps s t) {f t' tone flags : Nat} {p : Profile} {lost : List (Nat × Nat)} :
    Keeps s (t.formRow f t' tone flags p lost).1 := by
  unfold State.formRow
  extract_lets ctrl gl x0 len bad t₁
  have h₁ : Keeps s t₁ := h.unless (·.flag)
  clear_value t₁
  refine Keeps.foldlFst (a := (t₁, [])) h₁ fun {a g} hu => ?_
  extract_lets u m r ps u₁ x valid p u₂ u₃ u₄
  have hp : Keeps s u₁ := by unfold u₁ ps; split; exacts [hu.free, hu]
  exact (hp.setRes.when (·.flag)).when (·.bump)

theorem Keeps.decFrames (h : Keeps s t) {f : Nat} {rows : List Row} {row : Row} : Keeps s (t.decFrames f rows row) :=
  (h.unless (·.free)).sendRow

theorem Keeps.bandRow (h : Keeps s t) {f b i : Nat} {row : Row} : Keeps s (t.bandRow f b i row) :=
  h.unless (fun hu => .ite hu.setRes hu.setRes.sendRow.detRows)

theorem Keeps.rowOut (h : Keeps s t) {f i : Nat} {row : Row} : Keeps s (t.rowOut f i row) := by
  unfold State.rowOut
  exact ((h.sendRow.sendRow.when (·.decFrames)).forN (·.bandRow)).detRows

theorem Keeps.specRow (h : Keeps s t) {f : Nat} {row : Row} : Keeps s (t.specRow f row) := h.when (·.setRes)

theorem Keeps.execRowComplete (h : Keeps s t) {f : Fin 2} {p : Profile} : OutKeeps s (execRowComplete f p t) := by
  unfold Machine.execRowComplete; dsimp only; split; · exact h.noEvent
  refine .ite h.noEvent (.next ?_)
  exact (((h.flowTo.setRx.unless fun hu => hu.flag.bump.unless (·.flag)).when
    (·.zeroGauges)).formRow.setRes.when (·.put.put.put)).specRow.rowOut

theorem Keeps.execRebase (h : Keeps s t) {f : Fin 2} : OutKeeps s (execRebase f t) := .next h.setRes
theorem Keeps.specEnd (h : Keeps s t) {f t' : Nat} : Keeps s (t.specEnd f t') := h.sendRow.detRows.setRes
theorem Keeps.specShot (h : Keeps s t) {f t' : Nat} : Keeps s (t.specShot f t') := .ite h.setRes <| h.setRes.when (·.specEnd)

/-! ### The functions of `Machine/Cal.lean` -/

theorem Keeps.calCmd (h : Keeps s t) {kind target mask : Nat} : Keeps s (t.calCmd kind target mask) := h.put.put.put
theorem Keeps.calRefuse (h : Keeps s t) {reason : Nat} : Keeps s (t.calRefuse reason) := h.flag.put

theorem Keeps.calGo (h : Keeps s t) {c : CalSt} {res : List (Nat × Bool)} : Keeps s (t.calGo c res) :=
  .ite h.claim.rest.holdInputs.put.put.calBusy h.claim.calRefuse

theorem Keeps.execCalGoBank (h : Keeps s t) {b : Fin 8} : OutKeeps s (execCalGoBank b t) :=
  .ite (.next h.calCmd.calRefuse) <| .next h.calCmd.calGo

theorem Keeps.execCalGoMout (h : Keeps s t) {outs : Fin 256} : OutKeeps s (execCalGoMout outs t) := .next h.calCmd.calGo
theorem Keeps.execCalGoTi (h : Keeps s t) {mask : Fin 65536} : OutKeeps s (execCalGoTi mask t) := .next h.calCmd.calGo

theorem Keeps.execCalGoRx (h : Keeps s t) {fibres : Fin 4} : OutKeeps s (execCalGoRx fibres t) :=
  .ite (.next h.calCmd.claim.calRefuse) <| .next (h.calCmd.claim.rest.put.put.put.calBusy.when (·.setSpare))

theorem Keeps.execCalGoAll (h : Keeps s t) : OutKeeps s (execCalGoAll t) := .ite (.next h.calCmd.calRefuse) <| .next h.calCmd.calGo
theorem Keeps.execCalKindNotUsed (h : Keeps s t) {kind : Fin 3} : OutKeeps s (execCalKindNotUsed kind t) := .next h.calCmd.calRefuse
theorem Keeps.execCalAbort (h : Keeps s t) : OutKeeps s (execCalAbort t) := .next h.calAbort.rxCalAbort

theorem Keeps.tiRecord (h : Keeps s t) {i : Nat} {t' : Int} {ws : List Nat} {rankB : Nat} {dly : Int} :
    Keeps s (t.tiRecord i t' ws rankB dly) :=
  (Keeps.foldl h (·.setWord)).setWord.setWord

theorem Keeps.tiFlush (h : Keeps s t) : Keeps s t.tiFlush := h.forN (fun hu => by split; exacts [hu.tiLoadNow, hu])
theorem Keeps.calFinish (h : Keeps s t) : Keeps s t.calFinish := h.calDone.calEnd.tiFlush
theorem Keeps.calChannel (h : Keeps s t) {k : Nat} : Keeps s (t.calChannel k) := .ite h.spareBack.calFinish h.rest.put

theorem Keeps.calAllFrom {u n : Nat} (h : Keeps s t) : Keeps s (t.calAllFrom u n) := by
  induction n generalizing t u with
  | zero => exact h
  | succ n ih => exact .ite (h.withCal.unless (·.calFinish)) (.ite (ih h.put.put) h.withCal.put)

theorem Keeps.execCalSamplerPassDone (h : Keeps s t) {ranks : List BinHits} : OutKeeps s (execCalSamplerPassDone ranks t) :=
  .ite h.noEvent <| .ite (.next h.calFail.calEnd.tiFlush) <| .ite (.next (h.unless (·.resDrop)).rest.put.put) <|
  .ite (.next (h.unless (·.resDrop)).rest.calMoutNext) <| .next (h.unless (·.resDrop)).rest.calAllFrom

theorem Keeps.genOutcome (h : Keeps s t) {u : Nat} {g : GenMeas} : Keeps s (t.genOutcome u g).1 := by
  unfold State.genOutcome
  extract_lets gc wait b r t₁
  have h₁ : Keeps s t₁ := h.when (·.flag)
  clear_value t₁ r b
  split
  exacts [h₁.calFail, (Keeps.ite h₁.withCal h₁.genRecord).healthTrim]

theorem Keeps.moutBall (h : Keeps s t) {m : Nat} {g : GenMeas} : Keeps s (t.moutBall m g) := by
  unfold State.moutBall; dsimp only; split; exacts [h, .ite (h.rest.when (·.flag)).calFail (h.rest.when (·.flag)).genRecord]

theorem Keeps.moutAfter (h : Keeps s t) {g : GenMeas} : Keeps s (t.moutAfter g) := by
  unfold State.moutAfter; dsimp only; split; exacts [h.rest.rest.startSwap, h.rest.moutBall.setRole.faultyLeaves.calMoutNext]

theorem Keeps.allMaster (h : Keeps s t) {u : Nat} {ok : Bool} : Keeps s (t.allMaster u ok) :=
  h.unless (fun hu => .ite (hu.when (·.setRole.faultyLeaves)) hu.setVoter.setRole)

theorem Keeps.execGeneratorRunDone (h : Keeps s t) {g : GenMeas} : OutKeeps s (execGeneratorRunDone g t) :=
  .ite h.noEvent <|
  .ite (.next (.ite h.genOutcome.calChannel h.genOutcome.spareBack.calEnd)) <|
  .ite (.next (.ite h.genOutcome.withCal h.genOutcome.calChannel)) <|
  .ite (.next (.ite h.genOutcome.moutAfter h.genOutcome.moutBall.setVoter.setRole.calMoutSkip)) <|
  .next h.genOutcome.allMaster.calAllFrom

theorem Keeps.carryBack (h : Keeps s t) {b : Nat} {bad : Bool} : Keeps s (t.carryBack b bad) := by
  unfold State.carryBack; dsimp only; split; exacts [.ite h.spareBack.setBank.flag h.spareBack.setBank.failoverCopy, h.spareBack.setBank]

theorem Keeps.execCalHandover (h : Keeps s t) {b : Fin 8} : OutKeeps s (execCalHandover b t) := by
  unfold Machine.execCalHandover
  refine .ite h.noEvent ?_
  split
  · exact .ite (.next h.carryBack) h.noEvent
  · exact .ite (.next h.rest.put.put) (.ite (.next h.put.calChannel) h.noEvent)

theorem Keeps.execHandoverLimitExpiry (h : Keeps s t) : OutKeeps s (execHandoverLimitExpiry t) := .ite (.next h.put.calChannel) h.noEvent
theorem Keeps.tiOutcome (h : Keeps s t) {t0 : Int} {m : InMeas} : Keeps s (t.tiOutcome t0 m) := .ite h.calFail h.tiRecord.loadWait

theorem Keeps.execTiRunDone (h : Keeps s t) {meas : List InMeas} : OutKeeps s (execTiRunDone meas t) :=
  .ite h.noEvent <| .next ((Keeps.foldl h (·.tiOutcome)).rest.when (·.calFinish))

theorem Keeps.execCdGo (h : Keeps s t) {mask : Fin 65536} {log2n : Fin 32} : OutKeeps s (execCdGo mask log2n t) :=
  .ite (.next h.put.put.claim.rest.holdInputs.flag) <| .next h.put.put.claim.flag.put

theorem Keeps.execCdAbort (h : Keeps s t) : OutKeeps s (execCdAbort t) := .next h.cdFail.tiFlush

theorem Keeps.cdOutcome (h : Keeps s t) {t0 : Int} {n : Nat} {m : InMeas} : Keeps s (t.cdOutcome t0 n m) :=
  have h1 := Keeps.foldl h (·.setWordDated); .ite h1.calFail h1.tiRecord

theorem Keeps.execCdDone (h : Keeps s t) {meas : List InMeas} : OutKeeps s (execCdDone meas t) :=
  .ite h.noEvent <| .ite (.next h.cdFail.tiFlush) <| .next (Keeps.foldl h (·.cdOutcome)).holdInputs.rest.release.unflag.flag.tiFlush

theorem Keeps.execCalValueLoad (h : Keeps s t) {u : Fin 129} : OutKeeps s (execCalValueLoad u t) := by
  unfold Machine.execCalValueLoad; dsimp only; split; · exact h.noEvent
  exact .ite h.noEvent (.ite (.next h.loadOver) (.ite (.ite h.noEvent (.next h.loadOver.rxLoad))
    (.ite (.next h.loadOver.tiLoad) (.ite (.next h.loadOver.withVals) h.noEvent))))

theorem Keeps.recWrite (h : Keeps s t) {a : Nat} {w : Word} : Keeps s (t.recWrite a w) := by
  unfold State.recWrite; split; exacts [h, .ite h.flag (h.unless (fun hu => hu.setWord.when (·.recompute)))]

theorem Keeps.execCalRecordWrite (h : Keeps s t) {a : Nat} {w : Word} : OutKeeps s (execCalRecordWrite a w t) := .next h.recWrite

theorem Keeps.rxRecord (h : Keeps s t) {p : Nat} {t' ofs gain xt sk : Int} : Keeps s (t.rxRecord p t' ofs gain xt sk) :=
  (h.setWord.unless (·.setWord.setWord)).loadWait

theorem Keeps.rxCalNext (h : Keeps s t) {x : List Nat} : Keeps s (t.rxCalNext x) := by
  unfold State.rxCalNext; split; exacts [h.calDone.rxCalEnd, h.rest.put]

theorem Keeps.execRxSelftestDone (h : Keeps s t) {pass_ : Bool} : OutKeeps s (execRxSelftestDone pass_ t) :=
  .ite h.noEvent <| .ite (.next h.calFail.rxCalEnd.spareFaulty) <|
  .next ((Keeps.ite h.calFail h.rxRecord).when (·.setSpare.spareRest)).rxCalNext

theorem Keeps.execRxEstimateDone (h : Keeps s t) {meas : List PosMeas} : OutKeeps s (execRxEstimateDone meas t) :=
  .ite h.noEvent <|
  .next (Keeps.foldl h (fun hu => by dsimp only; split; exacts [hu.calFail, .ite hu.calFail (.ite hu.calFail hu.rxRecord)])).rxCalNext

/-! ### The functions of `Machine/Chain.lean` -/

theorem Keeps.announce (h : Keeps s t) : Keeps s t.announce := h.newFrame.broadcast
theorem Keeps.headLoad (h : Keeps s t) : Keeps s t.headLoad := h.when (·.put.announce)

theorem Keeps.rebase (h : Keeps s t) {new : Nat} : Keeps s (t.rebase new) :=
  h.probesNow.txDrops.txDrops.stepTimebase.probeGrid.probeGrid.withTxLinks

theorem Keeps.doLoad (h : Keeps s t) : Keeps s t.doLoad := h.rebase.flag.headLoad
theorem Keeps.execTbLoadNow (h : Keeps s t) : OutKeeps s (execTbLoadNow t) := .next (.ite h.loadGo.loadRefuse h.loadGo.doLoad)
theorem Keeps.execSyncInEdge (h : Keeps s t) : OutKeeps s (execSyncInEdge t) := .next (h.checkLoad.when (·.doLoad.unflag))
theorem Keeps.execAnnounceTimer (h : Keeps s t) : OutKeeps s (execAnnounceTimer t) := .ite (.next h.announce) h.noEvent
theorem Keeps.toTstate (h : Keeps s t) {t' : Nat} : Keeps s (t.toTstate t') := (h.unless (·.unflag)).put.rest
theorem Keeps.showPaths (h : Keeps s t) : Keeps s t.showPaths := h.put.when (·.toTstate)
theorem Keeps.dropPath (h : Keeps s t) {p : Nat} : Keeps s (t.dropPath p) := h.unflag.put.showPaths
theorem Keeps.servo (h : Keeps s t) : Keeps s t.servo := (h.free.when (·.flag)).takeTrim.rest

theorem Keeps.exchange (h : Keeps s t) {th : ℚ} : Keeps s (t.exchange th) :=
  have h₂ := (h.when (·.toTstate)).when (·.toTstate)
  .ite (.ite h₂.toTstate (h₂.unless (·.flag))) <|
  h₂.when fun hu => .ite (hu.rest.when (·.flag)).toTstate (hu.rest.when (·.toTstate)).servo

theorem Keeps.execChainStep (h : Keeps s t) : OutKeeps s (execChainStep t) := by
  unfold Machine.execChainStep; split; exacts [h.noEvent, .ite h.noEvent (.next (h.rebase.unflag.forN (·.setPort.putSat)))]

theorem Keeps.execTimeExchangeTimer (h : Keeps s t) {p : Fin 2} {dep : Nat} : OutKeeps s (execTimeExchangeTimer p dep t) :=
  .ite h.noEvent <| .next h.setPort.emit

theorem Keeps.timeFrame (h : Keeps s t) {p : Nat} {f : ChFrame} {arr : Nat} : Keeps s (t.timeFrame p f arr) := by
  unfold State.timeFrame; dsimp only; split; exacts [.ite h.setPort.put.setPort.flag.putSat.put.showPaths h.setPort.put.dropPath,
    h.setPort.unless (·.dropPath)]

theorem Keeps.execTime (h : Keeps s t) {p : Fin 2} {f : ChFrame} {crc : Fin (2 ^ 32)} {arr : Nat} : OutKeeps s (execTime p f crc arr t) :=
  h.chainRecv (fun hu => hu.timeFrame.unless (fun hv => by split; exacts [hv, hv.exchange]))

theorem Keeps.execAnnounce (h : Keeps s t) {p : Fin 2} {f : ChFrame} {crc : Fin (2 ^ 32)} : OutKeeps s (execAnnounce p f crc t) :=
  h.chainRecv (fun hu => hu.unless (fun hv => .ite hv.put.put.put.flag.toTstate (hv.put.put.put.unflag.when (·.toTstate))))

theorem Keeps.sendLink (h : Keeps s t) {arg : Nat} {l : Nat × Nat} : Keeps s (t.sendLink arg l) := h.unless (·.newFrame.broadcast)
theorem Keeps.setRingOk (h : Keeps s t) {b : Bool} : Keeps s (t.setRingOk b) := h.put.when (·.announce)

theorem Keeps.breakLink (h : Keeps s t) {l : Nat × Nat} : Keeps s (t.breakLink l) :=
  h.unless (fun hu => hu.rest.flag.setRingOk.forN (fun hv => hv.when (·.dropPath)))

theorem Keeps.healLink (h : Keeps s t) {l : Nat × Nat} : Keeps s (t.healLink l) := h.rest.when (·.unflag.setRingOk)

theorem Keeps.execBreak (h : Keeps s t) {p : Fin 2} {f : ChFrame} {crc : Fin (2 ^ 32)} : OutKeeps s (execBreak p f crc t) :=
  h.chainRecv (·.flag.breakLink)

theorem Keeps.execHeal (h : Keeps s t) {p : Fin 2} {f : ChFrame} {crc : Fin (2 ^ 32)} : OutKeeps s (execHeal p f crc t) :=
  h.chainRecv (·.healLink)

theorem Keeps.execHealHoldExpiry (h : Keeps s t) {p : Fin 2} : OutKeeps s (execHealHoldExpiry p t) := by
  unfold Machine.execHealHoldExpiry; split; exacts [h.noEvent, .ite h.noEvent (.next h.setPort.sendLink.healLink)]

theorem Keeps.walkEnd (h : Keeps s t) {err : Nat} : Keeps s (t.walkEnd err) := h.put.unflag.rest

theorem Keeps.takeAssign (h : Keeps s t) {ws : List Word} : Keeps s (t.takeAssign ws) := by
  unfold State.takeAssign
  extract_lets w es tbl c₁ t₁ c₂ t₂ c₃
  have h₂ : Keeps s t₂ := .ite h.withChain.withChain.unflag.flag h.withChain.unflag
  clear_value t₂
  split; exacts [h₂.put.unflag, h₂.put.put.put.flag.withChain]

theorem Keeps.walkFinish (h : Keeps s t) {w : WalkSt} : Keeps s (t.walkFinish w) :=
  .ite h.walkEnd <| .ite h.walkEnd <| h.newFrame.broadcast.takeAssign.walkEnd.flag.when (·.announce)

theorem Keeps.startWalk (h : Keeps s t) : Keeps s t.startWalk :=
  h.unless fun _ => .ite h.flag.put.walkEnd (.ite h.flag.put.walkFinish h.flag.put.newFrame.withChain.sendBoth)

theorem Keeps.execEnumGo (h : Keeps s t) : OutKeeps s (execEnumGo t) := .next (.ite h.put h.startWalk)

theorem Keeps.collect (h : Keeps s t) {p : Nat} {f : ChFrame} {round : Bool} : Keeps s (t.collect p f round) := by
  unfold State.collect; split; exacts [h, h.unless (fun hu => .ite hu.walkFinish hu.rest)]

theorem Keeps.walkOn (h : Keeps s t) {p : Nat} {f : ChFrame} : Keeps s (t.walkOn p f) := .ite h.routeDrop <| h.when (·.sendPort)

theorem Keeps.execWalk (h : Keeps s t) {p : Fin 2} {f : ChFrame} {crc : Fin (2 ^ 32)} : OutKeeps s (execWalk p f crc t) :=
  .ite h.noEvent <| .ite (.next h) <| .ite (.next h.badCrc) <| .ite (.next h.bump.freeBuf) <| .ite (.next h.freeBuf.collect) <|
  .ite (.next h.freeBuf.walkOn) <| .next (.ite h.freeBuf.walkOn h.freeBuf.walkOn)

theorem Keeps.execWalkTimeout (h : Keeps s t) : OutKeeps s (execWalkTimeout t) := .ite h.noEvent <| .next h.walkEnd

theorem Keeps.execAssign (h : Keeps s t) {p : Fin 2} {f : ChFrame} {crc : Fin (2 ^ 32)} : OutKeeps s (execAssign p f crc t) :=
  h.chainRecv (·.takeAssign)

theorem Keeps.execJoin (h : Keeps s t) {p : Fin 2} {f : ChFrame} {crc : Fin (2 ^ 32)} : OutKeeps s (execJoin p f crc t) :=
  h.chainRecv (fun hu => hu.when (·.startWalk))

theorem Keeps.sendHello (h : Keeps s t) {p : Nat} : Keeps s (t.sendHello p) := h.setPort.sendPort

theorem Keeps.execPortTrain (h : Keeps s t) {p : Fin 2} : OutKeeps s (execPortTrain p t) :=
  .ite h.noEvent <| .next (h.flag.put.forN (·.wakeLane))

theorem Keeps.execPortUp (h : Keeps s t) {p : Fin 2} : OutKeeps s (execPortUp p t) :=
  .ite h.noEvent <| .next (h.put.setPort.sendHello.when (·.startWalk))

theorem Keeps.execPortLoss (h : Keeps s t) {p : Fin 2} : OutKeeps s (execPortLoss p t) :=
  .ite h.noEvent <| .next ((Keeps.foldl h.put.flag.bump.bump.setPort (·.freeBuf)).dropPath.detect.when (·.sendLink.breakLink))

theorem Keeps.execHelloTimer (h : Keeps s t) {p : Fin 2} : OutKeeps s (execHelloTimer p t) := .ite (.next h.sendHello) h.noEvent

theorem Keeps.execHello (h : Keeps s t) {p : Fin 2} {f : ChFrame} {crc : Fin (2 ^ 32)} : OutKeeps s (execHello p f crc t) :=
  .ite h.noEvent <| .ite (.next h.bump) <| .ite (.next h.bump) <| .ite (.next h.setPort.flag.detect) <|
  .next ((h.setPort.put.unless (·.flag.setWord)).unless (fun hu => .ite hu.setPort (hu.sendLink.when (·.startWalk)))).drainPort

theorem Keeps.execCredit (h : Keeps s t) {p : Fin 2} {n : Fin 65536} : OutKeeps s (execCredit p n t) :=
  .ite h.noEvent <| .next h.setPort.drainPort

theorem Keeps.execTrig (h : Keeps s t) {p : Fin 2} {f : ChFrame} {crc : Fin (2 ^ 32)} : OutKeeps s (execTrig p f crc t) :=
  h.chainRecv (·.sendDue)

theorem Keeps.execChainTrigGo (h : Keeps s t) {dst : Fin 1024} {dline : Fin 64} {action : Fin 16} {group : Fin 256} :
    OutKeeps s (execChainTrigGo dst dline action group t) :=
  .next h.put.put.put.put.sendTrig

theorem Keeps.badPacket (h : Keeps s t) {q : Nat} {ws : List Word} : Keeps s (t.badPacket q ws) :=
  h.unless (fun hu => .foldl hu (·.queueWord))

theorem Keeps.dataIn (h : Keeps s t) {f : ChFrame} : Keeps s (t.dataIn f) := .ite (h.when (·.bump)).packet (h.when (·.bump)).routeDrop

theorem Keeps.dataOut (h : Keeps s t) {c : Nat} {p : List BWord} : Keeps s (t.dataOut c p) :=
  .ite h.newFrame.broadcast.dataIn <| .ite h.newFrame.dataIn h.newFrame.sendRoute

theorem Keeps.execData (h : Keeps s t) {p : Fin 2} {f : ChFrame} {crc : Fin (2 ^ 32)} : OutKeeps s (execData p f crc t) := by
  unfold Machine.execData
  exact (h.when (·.badPacket)).chainRecv (·.dataIn)

theorem Keeps.execFrameTypeNotUsed (h : Keeps s t) {p : Fin 2} {f : ChFrame} : OutKeeps s (execFrameTypeNotUsed p f t) :=
  .ite (.next (h.bump.when (·.freeBuf))) h.noEvent

theorem Keeps.moduleGo (h : Keeps s t) {p page offset : Nat} {w : Bool} : Keeps s (t.moduleGo p page offset w) :=
  (h.put.put.put.unless (·.rest)).flag

theorem Keeps.execModuleRead (h : Keeps s t) {p : Fin 2} {page offset : Fin 256} : OutKeeps s (execModuleRead p page offset t) :=
  .next h.moduleGo

theorem Keeps.execModuleWrite (h : Keeps s t) {p : Fin 2} {page offset data : Fin 256} :
    OutKeeps s (execModuleWrite p page offset data t) :=
  .next h.put.moduleGo

theorem Keeps.execModuleAccessDone (h : Keeps s t) {p : Fin 2} {data : Fin 256} {ack : Bool} :
    OutKeeps s (execModuleAccessDone p data ack t) :=
  .ite h.noEvent <| .next (.ite h.unflag.flag (h.unflag.unless (·.put)))

/-! ### The functions of `Machine/Lamp.lean` -/

theorem Keeps.execFrameSync (h : Keeps s t) {ticks : Nat} : OutKeeps s (execFrameSync ticks t) :=
  .ite (.next h) <| .ite (.next h.frameStart.rest) <| .ite (.next h) <| .ite (.next h.flag) <| .ite (.next h.frameStart) h.noEvent

theorem Keeps.execFrameFlywheel (h : Keeps s t) : OutKeeps s (execFrameFlywheel t) :=
  .ite (.next h.frameStart) <| .ite h.noEvent <| .next h.flag.bump.frameStart

theorem Keeps.execLampApply (h : Keeps s t) : OutKeeps s (execLampApply t) := .next h.flag

theorem Keeps.execLampPulse (h : Keeps s t) {l : Fin 32} {sense : Option (Fin 4096)} : OutKeeps s (execLampPulse l sense t) :=
  .ite h.noEvent <|
  .ite (.next h.setLamp) (have h3 := h.setLamp.setLamp.when (·.flag); .ite (.next h3) (.next (h3.lampOn.unless (·.starved))))

theorem Keeps.execLampSpan (h : Keeps s t) {l : Fin 32} {sense : Option (Fin 4096)} : OutKeeps s (execLampSpan l sense t) :=
  .ite h.noEvent <| .ite (.next h.setLamp.setLamp) <| .ite (.next h.setLamp) <| .ite (.next h.setLamp) <| .next h.setLamp.lampOn

theorem Keeps.execOcCut (h : Keeps s t) {l : Fin 32} : OutKeeps s (execOcCut l t) :=
  .ite (.next h) <| .ite h.noEvent <|
  .next ((h.captureCut.flag.bump.setLamp.when (·.flag)).showLamp.when (fun hu => .foldl hu (·.showMat)))

theorem Keeps.execLampClr (h : Keeps s t) {mask : Fin (2 ^ 32)} : OutKeeps s (execLampClr mask t) :=
  .next (.foldl h (fun hu => hu.unflag.setLamp.showLamp.when (fun hv => .foldl hv (·.showMat))))

theorem Keeps.monConvert (h : Keeps s t) {c : Nat} {codes : List (Fin 4096)} : Keeps s (t.monConvert c codes) :=
  .foldl h (fun hu => hu.unless (·.put.put.put))

theorem Keeps.crossCheck (h : Keeps s t) : Keeps s t.crossCheck := h.unless (·.flag.detect)

theorem Keeps.execMonPass (h : Keeps s t) {a b : List (Fin 4096)} {late : Bool} : OutKeeps s (Machine.execMonPass a b late t) := by
  unfold Machine.execMonPass
  extract_lets src lamps t₁ t₂ t₃ t₄ t₅ t₆
  have h₃ : Keeps s t₃ := (h.when (·.flag.withLamps)).monConvert.unless (·.monConvert.crossCheck)
  clear_value t₃
  have h₄ : Keeps s t₄ := by unfold t₄; split; exacts [h₃.setInj, h₃]
  exact .next ((Keeps.ite (h₄.forN (·.diagnoseMat)) (h₄.forN (·.diagnose))).when (·.flag)).bump

theorem Keeps.execMonSelftestGo (h : Keeps s t) : OutKeeps s (execMonSelftestGo t) := .next (.ite h.claim.flag h.claim.flag)

theorem Keeps.execMonSelftestDone (h : Keeps s t) {means : List (Fin 3 × Fin 4 × Nat)} : OutKeeps s (execMonSelftestDone means t) := by
  refine .ite h.noEvent (.next (Keeps.withLamps (Keeps.release (Keeps.unflag (Keeps.unflag ?_)))))
  split; exacts [h.flag, h.flag.detect]

/-! ### The functions of `Machine/Bolt.lean` -/

theorem Keeps.boltDbe (h : Keeps s t) {kind : Nat} {at_ : Option (Nat × Nat)} : Keeps s (t.boltDbe kind at_) :=
  ((show Keeps _ _ from by split; exacts [h, h.setQueue.flag]).bump.unless (·.free.setWord)).reportMem

theorem Keeps.execPacketWord (h : Keeps s t) {port : Fin 16} {q : Fin 4096} {w : Word} {sop eop bad : Bool} :
    OutKeeps s (execPacketWord port q w sop eop bad t) :=
  .ite (.next h.queueWord) h.noEvent

theorem Keeps.pushTo (h : Keeps s t) {q : Nat} {w : Word} {sop eop : Bool} : Keeps s (t.pushTo q w sop eop).1 := by
  unfold State.pushTo; split; exacts [h, h.queueWord]

theorem Keeps.push (h : Keeps s t) {w : Word} {sop eop : Bool} : Keeps s (t.push w sop eop) := .ite h.pushTo h.pushTo.flag
theorem Keeps.execPushMiddle (h : Keeps s t) {w : Word} : OutKeeps s (execPushMiddle w t) := .next h.push
theorem Keeps.execPushSop (h : Keeps s t) {w : Word} : OutKeeps s (execPushSop w t) := .next h.push
theorem Keeps.execPushEop (h : Keeps s t) {w : Word} : OutKeeps s (execPushEop w t) := .next h.push
theorem Keeps.execPushSopEop (h : Keeps s t) {w : Word} : OutKeeps s (execPushSopEop w t) := .next h.push
theorem Keeps.execPushBad (h : Keeps s t) : OutKeeps s (execPushBad t) := .next (h.when (·.markBad))

theorem Keeps.pop (h : Keeps s t) {dbe : Bool} : Keeps s (t.pop dbe).2 := by
  unfold State.pop
  extract_lets q t₁ r show_ x
  split; · exact h.flag.unflag
  have h₁ : Keeps s t₁ := h.when (·.boltDbe)
  have hr : Keeps s r.2 := by unfold r; split; exacts [h₁, h₁.popWord]
  clear_value r
  split; exacts [h₁.put.put.put.put, hr.setQueue.put.put.put.put]

theorem Keeps.execPopRead (h : Keeps s t) {dbe : Bool} : OutKeeps s (execPopRead dbe t) := .next h.pop.setWord
theorem Keeps.ringFlush (h : Keeps s t) {q : Nat} : Keeps s (t.ringFlush q) := h.forN (fun hu => hu.when (·.unflag.rest))

theorem Keeps.flush (h : Keeps s t) {q : Nat} : Keeps s (t.flush q) :=
  (h.flushQueue.ringFlush.forN (fun hu => hu.when (·.rest))).forN (fun hu => hu.when (·.setSeq.bump.flag))

theorem Keeps.execFlush (h : Keeps s t) {q : Fin 4096} : OutKeeps s (execFlush q t) := .next h.flush

theorem Keeps.execBoltScrubPass (h : Keeps s t) {sbe : Nat} {dbes : List (Option (Nat × Nat))} :
    OutKeeps s (execBoltScrubPass sbe dbes t) :=
  .ite (.ite h.noEvent (.ite (.next h.flag) (.next h.claim.rest.unflag.flag))) <|
  .next ((Keeps.foldl h.bump (·.boltDbe)).when (·.flag)).unflag.flag.release

theorem Keeps.granule (h : Keeps s t) {q : Nat} {ws : List Word} : Keeps s (t.granule q ws) :=
  .ite h.setSeq.bump <| .foldl h.setSeq (·.setWord)

theorem Keeps.execRefillGranule (h : Keeps s t) {q : Fin 2} : OutKeeps s (execRefillGranule q t) := by
  refine .ite h.noEvent (.ite (.ite h.noEvent (.next (.ite h.popN.setSeq h.popN.granule))) (.ite ?_ h.noEvent))
  split; exacts [.next (h.regionGranule ‹_›).granule, h.noEvent]

theorem Keeps.execSeqGo (h : Keeps s t) {q : Fin 2} : OutKeeps s (execSeqGo q t) := .next (h.seqGo.when (·.regionGo)).checkLoad

/-! ### The functions of `Machine/Host.lean` -/

theorem Keeps.send (h : Keeps s t) {o : HostOut} : Keeps s (t.send o) := h.rest
theorem Keeps.setRing (h : Keeps s t) {n : Nat} {x : RingSt} : Keeps s (t.setRing n x) := h.rest
theorem Keeps.ringIrq (h : Keeps s t) {n : Nat} : Keeps s (t.ringIrq n) := h.send.setRing

theorem Keeps.ringWrite (h : Keeps s t) {n : Nat} {bytes : List Nat} : Keeps s (t.ringWrite n bytes) :=
  h.send.put.setRing.when (·.ringIrq)

theorem Keeps.execRingRdWrite (h : Keeps s t) {n : Fin 64} {rd : Fin (2 ^ 30)} : OutKeeps s (execRingRdWrite n rd t) :=
  .next (h.put.when (·.unflag))

theorem Keeps.execRingInterruptTimer (h : Keeps s t) {n : Fin 64} : OutKeeps s (execRingInterruptTimer n t) := by
  unfold Machine.execRingInterruptTimer; split; exacts [h.noEvent, .ite h.noEvent (.next h.flowTo.ringIrq)]

theorem Keeps.gramSend (h : Keeps s t) {n : Nat} : Keeps s (t.gramSend n) := h.unless (·.send.setRing)

theorem Keeps.gramPacket {n q k : Nat} {dmg sop : Bool} {ws : List Word} (h : Keeps s t) : Keeps s (t.gramPacket n q dmg sop ws k) := by
  induction k generalizing t sop ws with
  | zero => exact h
  | succ k ih => exact .ite (ih h.gramSend) ((h.setRing.when (·.gramSend)).unless (ih ·))

theorem Keeps.execStreamDatagramTimer (h : Keeps s t) {n : Fin 64} : OutKeeps s (execStreamDatagramTimer n t) := by
  unfold Machine.execStreamDatagramTimer; split; exacts [h.noEvent, .next h.flowTo.gramSend]

theorem Keeps.chooseHost {k : Nat} (h : Keeps s t) : Keeps s (t.chooseHost k).2 := by
  induction k generalizing t with
  | zero => exact h
  | succ k ih =>
    unfold State.chooseHost; split; · exact h
    dsimp only; split
    exacts [h, ih h.flag.setRing]

theorem Keeps.toHost (h : Keeps s t) {n q : Nat} {p : List BWord} : Keeps s (t.toHost n q p) := .ite h.gramPacket h.ringWrite

theorem Keeps.deliver (h : Keeps s t) {c q : Nat} : Keeps s (t.deliver c q) :=
  .ite h.rest.popN.toHost <| .ite h.rest.popN.dataOut <| .ite (.ite h.rest.capture h.rest.regionTake) h.rest.popN.send

theorem Keeps.nextOf (h : Keeps s t) {c : Nat} : Keeps s (t.nextOf c).2 := by
  unfold State.nextOf; split; exacts [h.chooseHost, h]

theorem Keeps.execConsumerRead (h : Keeps s t) {c : Fin 6} {dbe : List (Fin 8192)} : OutKeeps s (execConsumerRead c dbe t) :=
  .ite h.noEvent (by dsimp only; split; exacts [.next h.nextOf, .next (Keeps.foldl h.nextOf (·.boltDbe)).deliver])

theorem Keeps.execHostLinkTrained (h : Keeps s t) {gen : Fin 6} : OutKeeps s (execHostLinkTrained gen t) :=
  .ite h.noEvent <| .next (by split; exacts [h.flag.put.rest.toHost, h.flag.put])

theorem Keeps.hostDown (h : Keeps s t) : Keeps s t.hostDown := h.unflag.put

theorem Keeps.execPcieLinkDown (h : Keeps s t) {busy : Bool} : OutKeeps s (execPcieLinkDown busy t) :=
  .ite h.noEvent <| .ite (.next h.hostDown) (by dsimp only; split; exacts [.next h.nextOf.hostDown, .next h.nextOf.popN.hostDown.rest])

theorem Keeps.execPerstN (h : Keeps s t) {high : Bool} : OutKeeps s (execPerstN high t) := .next (h.rest.unless (·.hostDown))

theorem Keeps.channelPush (h : Keeps s t) {c : Nat} {w : Word} {sop eop : Bool} : Keeps s (t.channelPush c w sop eop) :=
  .ite h.flag <| .ite h.pushTo h.pushTo.flag

theorem Keeps.execBar2Push (h : Keeps s t) {c : Fin 64} {j : Fin 4} {w : Word} {whole : Bool} : OutKeeps s (execBar2Push c j w whole t) :=
  .ite h.noEvent <| .ite (.next h.flag) <| .next h.channelPush

theorem Keeps.strobeDue (h : Keeps s t) {rel : Bool} : Keeps s (t.strobeDue rel).2 := by
  unfold State.strobeDue; split
  exacts [h, h.viewLag (ps := 2560)]

theorem Keeps.execHostStrobe (h : Keeps s t) {rel : Bool} {l : Fin 64} {action : Fin 16} : OutKeeps s (execHostStrobe rel l action t) :=
  .next h.put.put.put.strobeDue.sendDue

/-! ### The functions of `Machine/Selvedge.lean` -/

theorem Keeps.showPins (h : Keeps s t) : Keeps s t.showPins := h.put.put.when (·.send)

theorem Keeps.logRecord (h : Keeps s t) {w0 w1 w2 w3 : Word} : Keeps s (t.logRecord w0 w1 w2 w3) :=
  (h.when (·.bump)).setWord.setWord.setWord.setWord.put.put.withSelv

theorem Keeps.faultFrame (h : Keeps s t) {w0 w1 w2 w3 : Word} : Keeps s (t.faultFrame w0 w1 w2 w3) := h.unless (·.newFrame.broadcast)

theorem Keeps.injRecord (h : Keeps s t) {d : Det} : Keeps s (t.injRecord d) :=
  h.unless (fun hu => by dsimp only; split; exacts [hu.flag, .ite hu.flag.setInj (hu.flag.free.setInj.flag.put.when (·.unflag))])

theorem Keeps.holdStart (h : Keeps s t) {c : Nat} : Keeps s (t.holdStart c) := h.when (·.flag.forceLamps)

theorem Keeps.reportFault (h : Keeps s t) {d : Det} : Keeps s (t.reportFault d) :=
  .ite h.bump.bump ((h.logRecord.withSelv.unless (·.setWord.setWord.setWord.flag)).unless
    (·.setWord.withSelv)).putBit.bump.injRecord.showPins.faultFrame.holdStart

theorem Keeps.execSelvedgeFaultReport (h : Keeps s t) : OutKeeps s (execSelvedgeFaultReport t) := by
  unfold Machine.execSelvedgeFaultReport; split; exacts [h.noEvent, .next h.rest.reportFault]

theorem Keeps.execFault (h : Keeps s t) {p : Fin 2} {f : ChFrame} {crc : Fin (2 ^ 32)} : OutKeeps s (execFault p f crc t) :=
  h.chainRecv (·.flag.put.bump.logRecord.flag.showPins)

theorem Keeps.clearClass (h : Keeps s t) {c : Nat} : Keeps s (t.clearClass c) := h.unless (fun hu => .ite hu.flag hu.putBit.rest)

theorem Keeps.execFaultActiveClear (h : Keeps s t) {mask : Fin (2 ^ 31)} : OutKeeps s (execFaultActiveClear mask t) :=
  .next (Keeps.foldl h (·.clearClass)).showPins

theorem Keeps.execHoldRelease (h : Keeps s t) : OutKeeps s (execHoldRelease t) :=
  .ite (.next h) <| .ite (.next h.flag) <| .next h.unflag.checkLoad

theorem Keeps.execPinFault (h : Keeps s t) {pin : Fin 2} : OutKeeps s (execPinFault pin t) := .ite (.next h.report) h.noEvent
theorem Keeps.execSelvedgeDisagree (h : Keeps s t) : OutKeeps s (execSelvedgeDisagree t) := .next h.report
theorem Keeps.execSvcStale (h : Keeps s t) : OutKeeps s (execSvcStale t) := .ite h.noEvent <| .next h.flag
theorem Keeps.testPassed (h : Keeps s t) {c : Nat} : Keeps s (t.testPassed c) := .ite h.rest.bump.unflag h.rest

theorem Keeps.execInjectionEnd (h : Keeps s t) : OutKeeps s (execInjectionEnd t) := by
  unfold Machine.execInjectionEnd
  split; · exact h.noEvent
  split; · exact h.noEvent
  extract_lets t₁ clk t₂ selv t₃ r
  have h₃ : Keeps s t₃ := (h.flowTo.unflag.when (·.rest)).when (·.rest)
  exact .ite (.next h₃) (.next h₃.free.setInj.flag.put.testPassed)

theorem Keeps.execMissed (h : Keeps s t) : OutKeeps s (execMissed t) := by
  unfold Machine.execMissed; split; exacts [h.noEvent,
    .ite h.noEvent (have h2 := h.flowTo.setInj.flag.unflag; .ite (.next h2) (.next (h2.unless (·.put.put)).flag.detect))]

theorem Keeps.execLogicMismatch (h : Keeps s t) {island : Fin 10} {sub : Fin 3} : OutKeeps s (execLogicMismatch island sub t) :=
  .next h.report

/-! ### The functions of `Machine/Islands.lean` -/

theorem Keeps.zeroGaugesAt (h : Keeps s t) {f t' : Nat} : Keeps s (t.zeroGaugesAt f t') := h.rest

theorem Keeps.emptyStage (h : Keeps s t) {f stage : Nat} : Keeps s (t.emptyStage f stage) :=
  .ite h.zeroGaugesAt <| .ite h.rest <| .ite h.rest <| .ite h.rest <| h.when (·.rest)

theorem Keeps.portReset (h : Keeps s t) {p : Nat} : Keeps s (t.portReset p) := h.put.bump.setPort.dropPath

theorem Keeps.structEffect (h : Keeps s t) {a : Nat} {old new : Word} : Keeps s (t.structEffect a old new) :=
  .ite h.setLine <| .ite h.setLine <| .ite (h.when (·.setSeq)) <| .ite ((Keeps.ite h.rest h.probeGrid).unless (·.txState)) <|
  .ite h.rest <| .ite h.designate <| .ite (h.unless (·.laneLocks.rxState)) <| .ite h.zeroGaugesAt <| .ite h.emptyStage <| .ite h.rest <|
  .ite h.rest <| .ite (h.when (·.emptyStage)) <| .ite h.flush <| .ite h.flush <| .ite h.setRegion <| .ite h.setRegion <|
  .ite h.emptySkein.rawDrop <| .ite h.emptySkein <| .ite h.hostDown <| .ite (h.unless (fun hu => (hu.forN (·.portReset)).toTstate)) <|
  h.when (·.unflag.flag.safeSource.toRing)

theorem Keeps.takeWord (h : Keeps s t) {a : Nat} : Keeps s (t.takeWord a) :=
  (Keeps.ite h.limTo.probesNow (h.when (·.probesNow))).unstage.unless (·.structEffect)

theorem Keeps.showHeld (h : Keeps s t) : Keeps s t.showHeld := h.put

theorem Keeps.holdIsland (h : Keeps s t) {n : Nat} : Keeps s (t.holdIsland n) :=
  h.unless (fun hu => (hu.putBit.showHeld.rest.when (·.calAbort)).when (·.rxCalAbort))

theorem Keeps.releaseIsland (h : Keeps s t) {n : Nat} : Keeps s (t.releaseIsland n) :=
  .foldl ((Keeps.foldl h.putBit.showHeld (·.takeWord)).when (fun hu => hu.forN (·.oRefresh))) (·.goldenCrc)

theorem Keeps.execIslandHoldReq (h : Keeps s t) {mask : Fin 512} : OutKeeps s (execIslandHoldReq mask t) := .next h.put
theorem Keeps.execHeld (h : Keeps s t) {n : Fin 9} : OutKeeps s (execHeld n t) := .ite (.next h.holdIsland) h.noEvent
theorem Keeps.execIslandRelease (h : Keeps s t) {n : Fin 9} : OutKeeps s (execIslandRelease n t) := .ite (.next h.releaseIsland) h.noEvent

theorem Keeps.execHoldExpired (h : Keeps s t) {n : Fin 9} : OutKeeps s (execHoldExpired n t) :=
  .ite h.noEvent <| .next (h.putBit.flag.unless (·.releaseIsland))

theorem Keeps.holdMt (h : Keeps s t) : Keeps s t.holdMt := h.rest
theorem Keeps.weftShot (h : Keeps s t) {f : Nat} : Keeps s (t.weftShot f) := h.unless (fun hu => .foldl hu (·.takeWord))

/-! ### The functions of `Machine/Power.lean` -/

theorem Keeps.setDom (h : Keeps s t) {d v : Nat} : Keeps s (t.setDom d v) := h.put
theorem Keeps.setReq (h : Keeps s t) {d v : Nat} : Keeps s (t.setReq d v) := h.put
theorem Keeps.showGov (h : Keeps s t) : Keeps s t.showGov := h.put.put.put
theorem Keeps.govAsk (h : Keeps s t) {e : GovEvt} : Keeps s (t.govAsk e) := h.unless (·.rest.showGov)
theorem Keeps.govDrop (h : Keeps s t) {e : GovEvt} : Keeps s (t.govDrop e) := h.rest.showGov

theorem Keeps.govStart (h : Keeps s t) {e : GovEvt} : Keeps s (t.govStart e) := by
  unfold State.govStart; split; exacts [h.setDom, h.forN (fun hu => hu.when (·.setOut)), h]

theorem Keeps.execGovernorAdmit (h : Keeps s t) {n : Nat} : OutKeeps s (execGovernorAdmit n t) :=
  .next (Keeps.foldl h.rest (·.govStart)).bump.showGov

theorem Keeps.pwrRefuse (h : Keeps s t) {d reason : Nat} : Keeps s (t.pwrRefuse d reason) := h.flag.put.put
theorem Keeps.wakeAsk (h : Keeps s t) {d : Nat} : Keeps s (t.wakeAsk d) := h.setDom.govAsk

theorem Keeps.reqOn (h : Keeps s t) {d : Nat} : Keeps s (t.reqOn d) :=
  .ite (h.unless (·.setReq.rest)) <| .ite h.pwrRefuse <| .ite h.setReq.rest <| .ite h.setReq.rest.wakeAsk h.setReq.wakeAsk

theorem Keeps.execPwrReqOn (h : Keeps s t) {d : Fin 8} : OutKeeps s (execPwrReqOn d t) := .next h.reqOn
theorem Keeps.saving (h : Keeps s t) {d : Nat} : Keeps s (t.saving d) := .ite h.setDom.calAbort <| h.setDom.when (·.rxCalAbort)
theorem Keeps.dropQueues (h : Keeps s t) : Keeps s t.dropQueues := h.rest

theorem Keeps.reqOff (h : Keeps s t) {d path : Nat} : Keeps s (t.reqOff d path) :=
  .ite h.setReq.rest <| .ite h.pwrRefuse <| .ite (h.setReq.govDrop.setDom.when (·.rest.dropQueues)) <| .ite h.setReq.rest <|
  .ite h.setReq.setDom.dropQueues h.setReq.saving

theorem Keeps.execPwrReqOff (h : Keeps s t) {d : Fin 8} {path : Fin 6} : OutKeeps s (execPwrReqOff d path t) := .next h.reqOff
theorem Keeps.rewindAll (h : Keeps s t) : Keeps s t.rewindAll := .foldl h (fun hu => hu.when (·.rewind.markBad))

theorem Keeps.reqRetain (h : Keeps s t) {d : Nat} : Keeps s (t.reqRetain d) :=
  .ite h.pwrRefuse <| h.unless (fun hu => .ite hu.pwrRefuse (.ite hu.pwrRefuse (.ite hu.pwrRefuse (hu.unless (·.setReq.rewindAll)))))

theorem Keeps.execPwrReqRetain (h : Keeps s t) {d : Fin 8} : OutKeeps s (execPwrReqRetain d t) := .next h.reqRetain
theorem Keeps.execRetainEntered (h : Keeps s t) : OutKeeps s (execRetainEntered t) := .ite (.next h.setDom) h.noEvent
theorem Keeps.saveWords (h : Keeps s t) {d : Nat} : Keeps s (t.saveWords d) := h.filterRegs.setShadow (RegMap.rises_filter _)

theorem Keeps.domLost (h : Keeps s t) {d : Nat} : Keeps s (t.domLost d) :=
  .ite (h.rest.unflag.when (·.toTstate)) <| .ite h.rest <| .ite h.rest <| .ite h.dropQueues <| .ite h.dramClear.unflag <|
  h.when (fun hu => ((hu.forN (·.portReset)).hostDown.forN (·.laneLocks.rxState)).rest)

theorem Keeps.execSaveDone (h : Keeps s t) {d : Fin 8} : OutKeeps s (execSaveDone d t) :=
  .ite h.noEvent (have h1 := h.domLost.saveWords.setDom; .ite (.next h1.rest.wakeAsk) (.next h1))

theorem Keeps.wakeOuts (h : Keeps s t) : Keeps s t.wakeOuts := h.forN (fun hu => hu.unless (·.setDrv.setOut.wakeGroup))
theorem Keeps.warpUp (h : Keeps s t) : Keeps s t.warpUp := (h.setWord.forN (·.startRoles)).gridsOn.wakeOuts

theorem Keeps.domUp (h : Keeps s t) {d : Nat} : Keeps s (t.domUp d) :=
  have ht := (h.setDom.rest.forN (·.bandCheck)).forN fun hu => hu.when fun hv => hv.execTxLinkEnable.after
  have hr := ((h.setDom.rest.forN (·.wakeLane)).forN fun hu => hu.when fun hv => hv.execRxLinkEnable.after).spareUp
  have hg := (h.setDom.rest.forN fun hu => hu.when (·.govAsk)).forN (·.zeroGaugesAt)
  have hm := h.setDom.rest.when fun hu => (Keeps.ite hu.unflag.claim.flag hu.unflag.claim.flag).rest
  (Keeps.ite h.setDom.rest.warpUp.govAsk (.ite ht (.ite hr (.ite h.setDom.rest.govAsk (.ite hg hm))))).when (·.rest.saving)

theorem Keeps.execWakeDone (h : Keeps s t) {d : Fin 8} : OutKeeps s (execWakeDone d t) :=
  .ite h.noEvent <| .ite (.next h.setDom) <| .next h.domUp

theorem Keeps.execWake (h : Keeps s t) : OutKeeps s (execWake t) := .next (h.forN (fun hu => hu.when (·.reqOn)))

theorem Keeps.engineWake (h : Keeps s t) {d : Nat} : Keeps s (t.engineWake d) :=
  .ite (.ite h.setReq.wakeAsk (.ite h.setReq.rest h.reqOn)) h.reqOn

theorem Keeps.wakeAll (h : Keeps s t) : Keeps s t.wakeAll := h.forN (fun hu => hu.when (·.engineWake))

theorem Keeps.shutDomain (h : Keeps s t) {d : Nat} : Keeps s (t.shutDomain d) :=
  .ite (h.govDrop.setReq.rest.setDom.when (·.rest.dropQueues)) <| .ite h.govDrop.setReq.rest.setDom.dropQueues <|
  h.govDrop.setReq.rest.when (·.saving)

theorem Keeps.darken (h : Keeps s t) : Keeps s t.darken := h.probeTo.probeTo.interlockGates

theorem Keeps.shutdown (h : Keeps s t) {site tj : Nat} : Keeps s (t.shutdown site tj) :=
  .foldl (h.darken.flag.bump.forceLamps.detect.forN (fun hu => hu.unless (·.enable))) (·.shutDomain)

theorem Keeps.siteMt (h : Keeps s t) {i : Nat} {ab : Int × Int} : Keeps s (t.siteMt i ab) :=
  (Keeps.ite h.flag.putBit.detect (h.when (·.putBit))).rest.put.put.put

theorem Keeps.unthrottle (h : Keeps s t) {f : Nat} : Keeps s (t.unthrottle f) := h.rest.when (·.unflag)

theorem Keeps.thermMt (h : Keeps s t) {temps : List (Int × Int)} : Keeps s (t.thermMt temps) := by
  unfold State.thermMt
  extract_lets inj t₁ t₂ site tj t₃ t₄ src thr t₅ cool pwr t₆
  have h₁ : Keeps s t₁ := by unfold t₁ inj; split; exacts [h.setInj, h]
  have h₃ : Keeps s t₃ := (h₁.forN (·.siteMt)).put.put
  have h₅ : Keeps s t₅ := (h₃.when (·.shutdown)).when (·.flag.bump.withPwr)
  clear_value t₅
  exact h₅.withPwr.when (·.forN (·.when (·.unthrottle)))

theorem Keeps.throttleShot (h : Keeps s t) {f : Nat} : Keeps s (t.throttleShot f) := h.when (·.unthrottle)

theorem Keeps.execSdClear (h : Keeps s t) : OutKeeps s (execSdClear t) :=
  .ite (.next h) <| .next (h.unflag.forN (fun hu => hu.when (·.engineWake)))

theorem Keeps.execSupplyExcursion (h : Keeps s t) {rail : Fin 8} {outside : Bool} : OutKeeps s (execSupplyExcursion rail outside t) :=
  .ite (.next h.rest) <| .ite h.noEvent <| .next (Keeps.ite h.flag h.putBit).bump.rest.detect

/-! ### The functions of `Machine/Write.lean` -/

theorem Keeps.blockBusy (h : Keeps s t) {a : Nat} : Keeps s (t.blockBusy a) :=
  .ite h.flag <| .ite h.flag <| .ite h.flag <| .ite h.flag <| .ite h.flag <| .ite h.flag <| h.when (·.flag)

theorem Keeps.cfgBusy (h : Keeps s t) {path a : Nat} {is : List Nat} : Keeps s (t.cfgBusy path a is) :=
  (Keeps.foldl h.blockBusy (·.putBit)).bump.unless (·.flag.put.put)

theorem Keeps.writeStruct (h : Keeps s t) {path a : Nat} {w : Word} : Keeps s (t.writeStruct path a w) :=
  h.unless (fun hu => .ite hu.cfgBusy (.ite hu.cfgBusy hu.stage.flag))

theorem Keeps.writeShadow (h : Keeps s t) {a : Nat} {w : Word} : Keeps s (t.writeShadow a w) :=
  h.unless (·.setShadow (RegMap.rises_ins _ _))

theorem Keeps.pwrWrite (h : Keeps s t) {path : Nat} {w : Word} : Keeps s (t.pwrWrite path w) :=
  h.forN (fun hu => .ite hu.reqOff (.ite hu.reqOn (.ite hu.reqRetain hu.pwrRefuse)))

theorem Keeps.inEnabled (h : Keeps s t) {i : Nat} {w : Word} : Keeps s (t.inEnabled i w) := (h.when (·.rest)).unless (·.rest)

theorem Keeps.writeLive (h : Keeps s t) {path a : Nat} {w : Word} : Keeps s (t.writeLive path a w) :=
  h.bringUp.unless fun hu =>
    .ite hu.setWord.enable.checkLoad <|
    .ite hu.setWord.enable.checkLoad <|
    .ite hu.setWord.execPrefWrite.after <|
    .ite hu.execTrimWrite.after <|
    .ite (hu.unless fun hv => .ite hv.execTxLinkEnable.after hv.execTxLinkDisable.after) <|
    .ite (hu.unless fun hv => .ite hv.execRxLinkEnable.after hv.execRxLinkDisable.after) <|
    .ite hu.lightWrite <| .ite hu.recWrite <| .ite hu.execRingRdWrite.after <| .ite hu.setWordFrom <| .ite hu.pwrWrite <|
    .ite hu.setWord.showPins <| .ite hu.inEnabled.setWordDated <| .ite hu.setWordDated <|
    .ite (hu.when (·.probesNow)).setWordFrom (.ite hu.probesNow.setWord hu.setWord)

theorem Keeps.writeFields (h : Keeps s t) {path a : Nat} {w : Word} : Keeps s (t.writeFields path a w) :=
  h.writeStruct.writeShadow.writeLive

/-! ### The functions of `Machine/Draft.lean` -/

theorem Keeps.reject (h : Keeps s t) {reason : Nat} : Keeps s (t.reject reason) := h.put.put.bump
theorem Keeps.clearStage (h : Keeps s t) {st : Nat} : Keeps s (t.clearStage st) := h.rest.put.put.put.put.put.put

theorem Keeps.execDraftBegin (h : Keeps s t) : OutKeeps s (execDraftBegin t) :=
  .ite (.next h.flag) <| .next (h.clearStage.unless (·.reqOn))

theorem Keeps.execDraftAbort (h : Keeps s t) : OutKeeps s (execDraftAbort t) :=
  .ite (.next h.flag) <| .ite (.next h.reject) <| .ite (.next h.clearStage) <| .next h

theorem Keeps.draftBytes (h : Keeps s t) {w : Word} : Keeps s (t.draftBytes w) :=
  .ite h.flag (by dsimp only; split; exacts [h.rest.put.reject.put, h.rest.put.when (·.put)])

theorem Keeps.execDraftData (h : Keeps s t) {w : Option Word} : OutKeeps s (execDraftData w t) := by
  refine .ite h.noEvent ?_
  split
  · exact .next (.ite h.flag h.draftBytes)
  · refine .ite h.noEvent ?_
    have hq := h.popWord (q := t.get fDRAFT_CTRL_QUEUE)
    generalize t.popWord _ = r at hq ⊢
    split; exacts [h.noEvent, .next hq.draftBytes]

theorem Keeps.execDraftVerifyDone (h : Keeps s t) : OutKeeps s (execDraftVerifyDone t) :=
  .ite h.noEvent (by split; exacts [.next h.reject.put, by split; exacts [.next h.reject.put.put, .next h.put]])

theorem Keeps.execDraftApply (h : Keeps s t) : OutKeeps s (execDraftApply t) := .ite (.next h.flag) <| .next h.put.rest

theorem Keeps.frameWrite (h : Keeps s t) {ty a : Nat} {w : Word} : Keeps s (t.frameWrite ty a w) :=
  .ite h.flag <| .ite h.stage <| .ite h.writeShadow.writeLive <| h.when (·.setWord)

theorem Keeps.zeroStage (h : Keeps s t) : Keeps s t.zeroStage := .foldl h (fun hu => .ite hu.setWord (hu.unless (·.stage)))
theorem Keeps.framesWrite (h : Keeps s t) {bs : List Nat} : Keeps s (t.framesWrite bs) := .foldl h (fun hu => .foldl hu (·.frameWrite))

theorem Keeps.applyUnit (h : Keeps s t) {a : Nat} : Keeps s (t.applyUnit a) :=
  .ite h.requestApply <| .ite (.ite h.applyOut h.requestApply) <| .ite (.ite h.flag h.seqApply) <| .ite (.ite h.flag h.applyProbe) <|
  .ite h.flag (by split; exacts [.ite h.setRx h.applyRes, h])

theorem Keeps.draftRetune (h : Keeps s t) {ws : List Nat} : Keeps s (t.draftRetune ws) :=
  h.unless (fun hu => hu.execRetuneGo.after.when (·.flag))

theorem Keeps.derive (h : Keeps s t) {weft : Bool} : Keeps s (t.derive weft) := h.setWord.when (fun hu => hu.forN (·.setWord))

theorem Keeps.applyRelease (h : Keeps s t) {ws : List Nat} {n : Nat} : Keeps s (t.applyRelease ws n) :=
  (Keeps.foldl (h.rest.unless (·.releaseIsland)) (fun hu => hu.when (·.applyUnit))).when (·.draftRetune)

theorem Keeps.showApplied (h : Keeps s t) {bs : List Nat} : Keeps s (t.showApplied bs) := h.put.put.put.put.put.unless (·.unflag)
theorem Keeps.wakeClusters (h : Keeps s t) {old : State} : Keeps s (t.wakeClusters old) := h.unless (·.forN (·.when (·.govAsk)))

theorem Keeps.execDraftApplyRun (h : Keeps s t) : OutKeeps s (execDraftApplyRun t) :=
  .ite h.noEvent (.next (((Keeps.foldl (h.unless (·.zeroStage)).framesWrite.takeBinds
    (·.when (·.applyRelease))).derive.wakeClusters.showApplied.bump.put.withDraft.when (·.startCommit)).checkLoad))

theorem Keeps.execConfigScan (h : Keeps s t) : OutKeeps s (execConfigScan t) :=
  .ite h.noEvent <| .next (Keeps.foldl h (fun hu => (hu.unless (·.flag.put)).report)).bump

theorem Keeps.reloadWindows (h : Keeps s t) {d : Nat} : Keeps s (t.reloadWindows d) :=
  .foldl h.filterRegs fun hu => .foldl (hu.unless (·.filterRegs)) (·.setWord)

theorem Keeps.execTableReloadDone (h : Keeps s t) {d : Fin 8} : OutKeeps s (execTableReloadDone d t) :=
  .ite h.noEvent <| .next (h.reloadWindows.unless (·.flag)).domUp

/-! ### The functions of `Machine/Mgmt.lean` -/

theorem Keeps.setMgmt (h : Keeps s t) {m : MgmtSt} : Keeps s (t.setMgmt m) := h.rest
theorem Keeps.execFwBegin (h : Keeps s t) : OutKeeps s (execFwBegin t) := .ite (.next h.put) <| .next h.rest.setMgmt.put.put.put.put
theorem Keeps.fwEnd (h : Keeps s t) {r : Nat} : Keeps s (t.fwEnd r) := h.put.put
theorem Keeps.execFwAbort (h : Keeps s t) : OutKeeps s (execFwAbort t) := .next (h.unless (·.fwEnd))

theorem Keeps.execFwData (h : Keeps s t) {w : Word} : OutKeeps s (execFwData w t) :=
  .ite (.next h) <| .next (.ite h.setMgmt.put.erasedAll.fwEnd (h.setMgmt.put.erasedAll.when (·.put)))

theorem Keeps.execFwWriteDone (h : Keeps s t) {ok : Bool} : OutKeeps s (execFwWriteDone ok t) :=
  .ite h.noEvent <| .ite (.next h.fwEnd.ageRecord) <| .ite (.next h.fwEnd.ageRecord) <| .next h.rest.fwEnd.put.ageRecord

theorem Keeps.loadImage (h : Keeps s t) {i : Nat} : Keeps s (t.loadImage i) := h.put.put.put

theorem Keeps.boot (h : Keeps s t) : Keeps s t.boot :=
  h.put.unless (fun hu => .ite (.ite h.loadImage hu) (by split; exacts [hu, .ite h.loadImage (.ite h.flag.put.put.loadImage hu)]))

theorem Keeps.mbxAnswer (h : Keeps s t) {status : Nat} {ws : List Word} : Keeps s (t.mbxAnswer status ws) :=
  (h.flag.put.put.put.forN (·.setWord)).setMgmt

theorem Keeps.mgmtRegs (h : Keeps s t) : Keeps s t.mgmtRegs := h.filterRegs

theorem Keeps.mgmtReset (h : Keeps s t) {cause : Nat} : Keeps s (t.mgmtReset cause) :=
  have h₁ := ((h.when (·.unflag.flag.put)).when (·.unflag.flag.put)).when (·.fwEnd.release)
  ((Keeps.foldl h₁ (·.release)).mgmtRegs.setMgmt.when (·.flag.put.put)).unflag.put.put.bump

theorem Keeps.execLockstep (h : Keeps s t) : OutKeeps s (execLockstep t) := .next h.flag.report.mgmtReset
theorem Keeps.execMgmtDbe (h : Keeps s t) {data : Bool} : OutKeeps s (execMgmtDbe data t) := .next h.flag.reportMem.mgmtReset

theorem Keeps.execMgmtScrubPass (h : Keeps s t) {sbe : Nat} {dbe : Option (Fin 3)} : OutKeeps s (execMgmtScrubPass sbe dbe t) :=
  .next (by split; exacts [h.bump, .ite h.bump.reportMem h.bump.flag.reportMem.mgmtReset])

theorem Keeps.execKick (h : Keeps s t) : OutKeeps s (execKick t) := .next (h.unless (·.setMgmt))

theorem Keeps.wdtMt (h : Keeps s t) : Keeps s t.wdtMt := by
  unfold State.wdtMt
  extract_lets t₁
  have h₁ : Keeps s t₁ := by unfold t₁; split; exacts [h.setInj, h]
  exact .ite h₁.setMgmt h₁.setMgmt

theorem Keeps.execWatchdogExpiry (h : Keeps s t) : OutKeeps s (execWatchdogExpiry t) := .ite h.noEvent <| .next h.report.mgmtReset.flag
theorem Keeps.execReboot (h : Keeps s t) : OutKeeps s (execReboot t) := .next h.mgmtReset
theorem Keeps.execBootOk (h : Keeps s t) : OutKeeps s (execBootOk t) := .next h.put
theorem Keeps.ckptStart (h : Keeps s t) : Keeps s t.ckptStart := h.rest.erased.flag.put

theorem Keeps.ckptEnd (h : Keeps s t) {ok : Bool} : Keeps s (t.ckptEnd ok) :=
  (Keeps.ite h.rest.unflag.flag.put.put h.rest.unflag.flag.put).ageRecord

theorem Keeps.execCkptGo (h : Keeps s t) : OutKeeps s (execCkptGo t) := .ite (.next h.flag.put) <| .ite (.next h) <| .next h.ckptStart
theorem Keeps.execCkptDone (h : Keeps s t) {ok : Bool} : OutKeeps s (execCkptDone ok t) := .ite (.next h.ckptEnd) h.noEvent
theorem Keeps.calsetStart (h : Keeps s t) : Keeps s t.calsetStart := h.rest.erasedAll.flag

theorem Keeps.calsetEnd (h : Keeps s t) {ok : Bool} : Keeps s (t.calsetEnd ok) :=
  (Keeps.ite h.rest.unflag.flag.put.put h.rest.unflag.flag.put).ageRecord

theorem Keeps.execCalsetGo (h : Keeps s t) : OutKeeps s (execCalsetGo t) :=
  .ite (.next h.flag.put) <| .ite (.next h.flag.put) <| .ite (.next h) <| .next h.calsetStart

theorem Keeps.execCalsetDone (h : Keeps s t) {ok : Bool} : OutKeeps s (execCalsetDone ok t) := .ite (.next h.calsetEnd) h.noEvent

theorem Keeps.execMbxGo (h : Keeps s t) {op tag : Fin 256} : OutKeeps s (execMbxGo op tag t) :=
  .ite (.next h.flag) <| .next (h.put.put.setMgmt.unless (·.mbxAnswer))

theorem Keeps.mbxRun (h : Keeps s t) {op : Nat} {f : List Word → State} (hf : ∀ {x1}, Keeps s (f x1)) : OutKeeps s (t.mbxRun op f) := by
  unfold Machine.State.mbxRun; split; exacts [.ite (.next hf) h.noEvent, h.noEvent]

theorem Keeps.execVersion (h : Keeps s t) : OutKeeps s (execVersion t) := h.mbxRun (by dsimp only; split <;> exact h.mbxAnswer)
theorem Keeps.mbxRetry (h : Keeps s t) : Keeps s t.mbxRetry := .ite h.mbxAnswer h.setMgmt

theorem Keeps.execCheckpoint (h : Keeps s t) {ok : Bool} : OutKeeps s (execCheckpoint ok t) :=
  h.mbxRun (.ite h.claim.mbxRetry (have h1 := h.claim.ckptStart.ckptEnd.release; .ite h1.mbxAnswer h1.mbxAnswer))

theorem Keeps.execCalsetCommit (h : Keeps s t) {ok : Bool} : OutKeeps s (execCalsetCommit ok t) := by
  unfold Machine.execCalsetCommit
  refine h.mbxRun <| .ite h.claim.mbxRetry <| .ite h.claim.flag.put.release.mbxAnswer ?_
  extract_lets i t₁
  have h₁ : Keeps s t₁ := h.claim.calsetStart.calsetEnd.release
  split; exacts [.ite h₁.mbxAnswer h₁.mbxAnswer, h₁.mbxAnswer]

theorem Keeps.calStart (h : Keeps s t) {kind target mask : Nat} : Keeps s (t.calStart kind target mask) :=
  OutKeeps.after (.ite h.execCalGoBank (.ite h.execCalGoMout (.ite h.execCalGoTi (.ite h.execCalGoRx (.ite h.execCalGoAll h.execCalKindNotUsed)))))

theorem Keeps.execCalibrate (h : Keeps s t) : OutKeeps s (execCalibrate t) :=
  h.mbxRun (.ite (h.unless (·.mbxAnswer)) (.ite h.mbxAnswer (.ite h.calStart.mbxRetry (.ite h.calStart.mbxAnswer h.calStart.setMgmt))))

theorem Keeps.execHealth (h : Keeps s t) : OutKeeps s (execHealth t) := h.mbxRun h.mbxAnswer
theorem Keeps.execMbxReboot (h : Keeps s t) : OutKeeps s (execMbxReboot t) := h.mbxRun h.mbxAnswer.mgmtReset
theorem Keeps.execLogRead (h : Keeps s t) {ws : List Word} : OutKeeps s (execLogRead ws t) := h.mbxRun h.mbxAnswer

theorem Keeps.execMbxUnknown (h : Keeps s t) : OutKeeps s (execMbxUnknown t) := by
  unfold Machine.execMbxUnknown; split; exacts [.ite (.next h.mbxAnswer) h.noEvent, h.noEvent]

theorem Keeps.execWeftMemoryScrub (h : Keeps s t) : OutKeeps s (execWeftMemoryScrub t) := .next h

/-! ### The functions of `Machine/Inject.lean` -/

theorem Keeps.injCtrl (h : Keeps s t) {kind unit count : Nat} {test : Bool} : Keeps s (t.injCtrl kind unit count test) :=
  h.put.put.put.put.unflag

theorem Keeps.injRefuse (h : Keeps s t) {reason : Nat} : Keeps s (t.injRefuse reason) := h.flag.put

theorem Keeps.injStart (h : Keeps s t) {kind unit count : Nat} {test : Bool} : Keeps s (t.injStart kind unit count test) :=
  h.setInj.flag.put

theorem Keeps.injGo (h : Keeps s t) {kind unit count : Nat} {test en : Bool} {act : State → State}
    (hact : ∀ {u}, Keeps s u → Keeps s (act u)) : Keeps s (t.injGo kind unit count test en act) :=
  .ite h.injCtrl.injRefuse <| h.injCtrl.injStart.unless (fun hu => hact hu)

theorem Keeps.execGenShift (h : Keeps s t) {unit : Fin 2048} {count : Fin 16384} {test en : Bool} :
    OutKeeps s (execGenShift unit count test en t) :=
  .next (h.injGo (fun hu => hu))

theorem Keeps.execGenMiss (h : Keeps s t) {unit : Fin 2048} {count : Fin 16384} {test en : Bool} :
    OutKeeps s (execGenMiss unit count test en t) :=
  .next (h.injGo (fun hu => hu))

theorem Keeps.execBallStuck (h : Keeps s t) {unit : Fin 2048} {count : Fin 16384} {test en : Bool} :
    OutKeeps s (execBallStuck unit count test en t) :=
  .next (h.injGo (fun hu => hu))

theorem Keeps.execPllwUnlock (h : Keeps s t) {unit : Fin 2048} {count : Fin 16384} {test en : Bool} :
    OutKeeps s (execPllwUnlock unit count test en t) :=
  .next (h.injGo (·.lockLoss))

theorem Keeps.execPllwStep (h : Keeps s t) {unit : Fin 2048} {count : Fin 16384} {test en : Bool} :
    OutKeeps s (execPllwStep unit count test en t) :=
  .next (h.injGo (fun hu => .ite hu.free.phaseFlag hu.free))

theorem Keeps.execRefStop (h : Keeps s t) {unit : Fin 2048} {count : Fin 16384} {test en : Bool} :
    OutKeeps s (execRefStop unit count test en t) :=
  .next (h.injGo (·.execRefActivityLoss.after))

theorem Keeps.execTripleFlip (h : Keeps s t) {unit : Fin 2048} {count : Fin 16384} {test en : Bool} :
    OutKeeps s (execTripleFlip unit count test en t) :=
  .next (h.injGo (·.detect))

theorem Keeps.execStructFlip (h : Keeps s t) {unit : Fin 2048} {count : Fin 16384} {test en : Bool} :
    OutKeeps s (execStructFlip unit count test en t) :=
  .next (h.injGo (·.setWord))

theorem Keeps.execSramSbe (h : Keeps s t) {unit : Fin 2048} {count : Fin 16384} {test en : Bool} :
    OutKeeps s (execSramSbe unit count test en t) :=
  .next (h.injGo (fun hu => hu))

theorem Keeps.execSramDbe (h : Keeps s t) {unit : Fin 2048} {count : Fin 16384} {test en : Bool} :
    OutKeeps s (execSramDbe unit count test en t) :=
  .next (h.injGo (fun hu => hu))

theorem Keeps.execDramSbe (h : Keeps s t) {unit : Fin 2048} {count : Fin 16384} {test en : Bool} :
    OutKeeps s (execDramSbe unit count test en t) :=
  .next (h.injGo (fun hu => hu))

theorem Keeps.execDramDbeInject (h : Keeps s t) {unit : Fin 2048} {count : Fin 16384} {test en : Bool} :
    OutKeeps s (execDramDbeInject unit count test en t) :=
  .next (h.injGo (fun hu => hu))

theorem Keeps.execLinkDrop (h : Keeps s t) {unit : Fin 2048} {count : Fin 16384} {test en : Bool} :
    OutKeeps s (execLinkDrop unit count test en t) :=
  .next (h.injGo (fun hu => hu))

theorem Keeps.execJesdCrc (h : Keeps s t) {unit : Fin 2048} {count : Fin 16384} {test en : Bool} :
    OutKeeps s (execJesdCrc unit count test en t) :=
  .next (h.injGo (fun hu => hu))

theorem Keeps.execSliceCmp (h : Keeps s t) {unit : Fin 2048} {count : Fin 16384} {test en : Bool} :
    OutKeeps s (execSliceCmp unit count test en t) :=
  .next (h.injGo (fun hu => hu))

theorem Keeps.execSlicePar (h : Keeps s t) {unit : Fin 2048} {count : Fin 16384} {test en : Bool} :
    OutKeeps s (execSlicePar unit count test en t) :=
  .next (h.injGo (·.execSlicePlausFault.after))

theorem Keeps.execWeftResidue (h : Keeps s t) {unit : Fin 2048} {count : Fin 16384} {test en : Bool} :
    OutKeeps s (execWeftResidue unit count test en t) :=
  .next (h.injGo (fun hu => hu))

theorem Keeps.execInjectLockstep (h : Keeps s t) {unit : Fin 2048} {count : Fin 16384} {test en : Bool} :
    OutKeeps s (execInjectLockstep unit count test en t) :=
  .next (h.injGo (·.execLockstep.after))

theorem Keeps.execKickBlock (h : Keeps s t) {unit : Fin 2048} {count : Fin 16384} {test en : Bool} :
    OutKeeps s (execKickBlock unit count test en t) :=
  .next (h.injGo (fun hu => hu))

theorem Keeps.execInjectSensor (h : Keeps s t) {unit : Fin 2048} {count : Fin 16384} {test en : Bool} :
    OutKeeps s (execInjectSensor unit count test en t) :=
  .next (h.injGo (fun hu => hu))

theorem Keeps.execInjectMonitor (h : Keeps s t) {unit : Fin 2048} {count : Fin 16384} {test en : Bool} :
    OutKeeps s (execInjectMonitor unit count test en t) :=
  .next (h.injGo (fun hu => hu))

theorem Keeps.execInjectSupply (h : Keeps s t) {unit : Fin 2048} {count : Fin 16384} {test en : Bool} :
    OutKeeps s (execInjectSupply unit count test en t) :=
  .next (h.injGo (·.execSupplyExcursion.after))

theorem Keeps.execInjectLogic (h : Keeps s t) {unit : Fin 2048} {count : Fin 16384} {test en : Bool} :
    OutKeeps s (execInjectLogic unit count test en t) :=
  .next (h.injGo (·.free.report))

theorem Keeps.execInjectPin (h : Keeps s t) {unit : Fin 2048} {count : Fin 16384} {test en : Bool} :
    OutKeeps s (execInjectPin unit count test en t) :=
  .next (h.injGo (·.execPinFault.after))

theorem Keeps.execInjectKindNotUsed (h : Keeps s t) {kind : Fin 256} {unit : Fin 2048} {count : Fin 16384} {test en : Bool} :
    OutKeeps s (execInjectKindNotUsed kind unit count test en t) :=
  .ite h.noEvent <| .next (h.injGo (fun hu => hu))

/-! ### The functions of `Machine/Scan.lean` -/

theorem Keeps.bscanRun (h : Keeps s t) {ops : List ScanOp} : Keeps s (t.bscanRun ops) := h.rest

/-! ### The functions of `Machine/Restore.lean` -/

theorem Keeps.wiped (h : Keeps s t) {aon : Bool} : Keeps s (t.wiped aon) := by
  unfold State.wiped
  extract_lets z₀ z
  have hz : Keeps s z := ⟨fun _ => State.canon_reset, h.pending⟩
  exact .ite (.foldl hz.withAon.put.put.setWord (·.setWord)) hz

theorem Keeps.execPowerLoss (h : Keeps s t) {aon : Bool} : OutKeeps s (execPowerLoss aon t) := .next h.free.rest.wiped.setMgmt
theorem Keeps.takeEntry (h : Keeps s t) {e : Nat × Word} : Keeps s (t.takeEntry e) := h.setWord

theorem Keeps.restoreLight (h : Keeps s t) {ilLow pwr : Bool} : Keeps s (t.restoreLight ilLow pwr) := by
  unfold State.restoreLight
  extract_lets t₁ lock t₂
  have h₁ : Keeps s t₁ := by unfold t₁; split; exacts [.foldl h (·.takeEntry), h]
  exact .ite h₁.put.put.unflag.put.withAonLock h₁.put.put.put

theorem Keeps.restoreFw (h : Keeps s t) : Keeps s t.restoreFw :=
  (show Keeps _ _ from by split; exacts [.foldl h (·.takeEntry), h]).boot.put

theorem Keeps.restoreElem (h : Keeps s t) {bs : List Nat} : Keeps s (t.restoreElem bs) := h.putDraft.showApplied.when (·.flag)

theorem Keeps.restoreChain {es : List Elem} {n : Nat} (h : Keeps s t) : Keeps s (State.restoreChain es t n).1 := by
  induction es generalizing t n with
  | nil => exact h
  | cons e es ih => unfold State.restoreChain; split; exacts [ih h.restoreElem, h]

theorem Keeps.restoreDraft (h : Keeps s t) : Keeps s t.restoreDraft.1 := by
  unfold State.restoreDraft; split; exacts [h, h.restoreChain.put.put.put.put.put.put.put.put]

theorem Keeps.restoreRet (h : Keeps s t) {chain : Option (Nat × Nat)} : Keeps s (t.restoreRet chain) := by
  unfold State.restoreRet; split; exacts [h, (Keeps.foldl h.put.put.put (·.takeEntry)).forN (·.startRoles)]

theorem Keeps.restoreCal (h : Keeps s t) {draft : Bool} : Keeps s (t.restoreCal draft) :=
  h.unless (fun hu => .ite hu.put (by split; exacts [hu, (Keeps.foldl hu (·.setWord)).put.put.put.recompute]))

theorem Keeps.restoreAge (h : Keeps s t) : Keeps s t.restoreAge := by
  unfold State.restoreAge
  extract_lets t₁
  have h₁ : Keeps s t₁ := h.filterRegs.withHealth
  split; exacts [h₁.flag, .foldl h₁.withHealth.put (·.setWord)]

theorem Keeps.restoreWake (h : Keeps s t) {draft : Bool} : Keeps s (t.restoreWake draft) :=
  .ite h.setMgmt.flag <| .ite h.setMgmt.wakeAll h.setMgmt.setReq.wakeAsk

theorem Keeps.restoreRest (h : Keeps s t) {pwr : Bool} : Keeps s (t.restoreRest pwr) :=
  (Keeps.foldl (h.restoreFw.restoreDraft.restoreRet.restoreCal.when (·.restoreAge)).derive.toTstate (·.goldenCrc)).restoreWake

theorem Keeps.restore (h : Keeps s t) {head ilLow pwr : Bool} : Keeps s (t.restore head ilLow pwr) := h.put.flag.restoreLight.restoreRest
theorem Keeps.restoreAgain (h : Keeps s t) : Keeps s t.restoreAgain := (h.restoreLight.put.when (·.unflag)).restoreRest
theorem Keeps.execMgmtReset (h : Keeps s t) : OutKeeps s (execMgmtReset t) := .ite h.noEvent <| .next (.ite h.restoreAgain h.boot)
theorem Keeps.execPowerUp (h : Keeps s t) {head ilLow : Bool} : OutKeeps s (execPowerUp head ilLow t) := .next h.wiped.put.restore

theorem Keeps.execResetN (h : Keeps s t) {head : Bool} {low : ResetLow} : OutKeeps s (execResetN head low t) :=
  .next h.bscanRun.wiped.put.restore

theorem Keeps.execRestoreDone (h : Keeps s t) : OutKeeps s (execRestoreDone t) := .ite h.noEvent <| .next h.flag
theorem Keeps.execWakeTakeover (h : Keeps s t) : OutKeeps s (execWakeTakeover t) := .ite h.noEvent <| .next h.flag.wakeAll
theorem Keeps.wakeMt (h : Keeps s t) : Keeps s t.wakeMt := h.when (·.setMgmt)
theorem Keeps.resume (h : Keeps s t) {by_ : Nat} : Keeps s (t.resume by_) := h.unflag.put.checkLoad
theorem Keeps.execResume (h : Keeps s t) : OutKeeps s (execResume t) := .ite (.next h.flag) <| .ite (.next h) <| .next h.resume
theorem Keeps.execAutoResume (h : Keeps s t) : OutKeeps s (execAutoResume t) := .ite (.next h.resume) h.noEvent

/-! ### The functions of `Machine/Tick.lean` -/

theorem Keeps.slip (h : Keeps s t) : Keeps s t.slip := h.flag.bump.report

theorem Keeps.keeperMt (h : Keeps s t) {stamp : Nat} : Keeps s (t.keeperMt stamp) :=
  h.put.unless (fun hu => hu.flowTo.trimTo.rest.when (·.slip))

theorem Keeps.setQualCount (h : Keeps s t) {b : Bool} {n : Nat} : Keeps s (t.setQualCount b n) := h.rest

theorem Keeps.refMt (h : Keeps s t) {b : Bool} {f : Nat} : Keeps s (t.refMt b f) :=
  .ite (h.unless (·.put)).rest.setQualCount <| .ite (h.unless (·.put)).rest.refLost (h.unless (·.put)).rest.setQualCount

theorem Keeps.scrubsLate (h : Keeps s t) : Keeps s t.scrubsLate := (h.when (·.flag)).when (·.flag)
theorem Keeps.waitsMt (h : Keeps s t) : Keeps s t.waitsMt := h.rest.scrubsLate.forN (fun hu => by split; exacts [hu.setPort, hu])
theorem Keeps.calMt (h : Keeps s t) : Keeps s t.calMt := h.put.when (·.recompute)

theorem Keeps.execMtTick (h : Keeps s t) {obs : MtObs} : OutKeeps s (execMtTick obs t) :=
  .next h.keeperMt.refMt.refMt.rereference.thermMt.calMt.stressMt.dayMt.waitsMt.holdMt.wdtMt.wakeMt

theorem Keeps.execShotBoundary (h : Keeps s t) {f : Fin 2} : OutKeeps s (execShotBoundary f t) := by
  unfold Machine.execShotBoundary; dsimp only; split
  exacts [h.noEvent, .next h.flowTo.rest.probeShot.specShot.rxShot.throttleShot.weftShot]

theorem Keeps.execInterlockAssert (h : Keeps s t) {low : Bool} : OutKeeps s (execInterlockAssert low t) :=
  .ite (.next h.flag) <| .next h.darken.flag.unflag.forceLamps

/-! ### The functions of `Machine/Strobes.lean` -/

theorem Keeps.strobe (h : Keeps s t) {f : Fld} {w : Word} {act : State → Out} (hact : ∀ {u}, Keeps s u → OutKeeps s (act u)) :
    Keeps s (t.strobe f w act) :=
  h.when (fun hu => (hact hu).after)

theorem Keeps.strobesWarp (h : Keeps s t) {a : Nat} {w : Word} : Keeps s (t.strobesWarp a w) :=
  .ite (h.strobe (fun hu => .ite hu.execTbLoadNow (.ite hu.execTbLoadSyncIn hu.execTbLoadModeNone))) <|
  .ite (h.strobe (·.execRetuneGo)) <| .ite ((h.strobe (·.execFoForce)).strobe (·.execFoRelease)) <| .ite (h.strobe (·.execWarpApply)) <|
  h.when (fun hu => (hu.strobe (·.execWarpTapplyCancel)).strobe (·.execWarpTapplyArm))

theorem Keeps.strobesHeddle (h : Keeps s t) {a : Nat} {w : Word} : Keeps s (t.strobesHeddle a w) := by
  refine .ite h.execHeddleInPsSync.after (.ite (h.strobe fun hu => ?_)
    (.ite ((h.strobe (·.execRgGo)).strobe (·.execRgStop)) (.ite (h.strobe (·.execHeddleFireCtrlGo))
      (.ite ((h.strobe (·.execReplace)).strobe (·.execClearFaulty)) (.ite (h.strobe (·.execMoutApply))
        (.ite ((h.strobe (·.execMoutTapplyCancel)).strobe (·.execMoutTapplyArm)) h))))))
  split; exacts [hu.execHeddleArmCmdArm, hu.execHeddleArmCmdDisarm]

theorem Keeps.strobesShuttle (h : Keeps s t) {a : Nat} {w : Word} : Keeps s (t.strobesShuttle a w) := by
  refine .ite (Keeps.strobe (Keeps.strobe (Keeps.strobe (Keeps.strobe (Keeps.strobe (Keeps.strobe (h.strobe (·.execSeqGo)) fun hu => ?_)
    (·.execSeqJump)) (·.execSeqRelease)) (·.execSeqApply)) (·.execSeqTapplyCancel)) (·.execSeqTapplyArm))
      (.ite (h.strobe (·.execProbeApply)) (.ite ((h.strobe (·.execProbeTapplyCancel)).strobe (·.execProbeTapplyArm))
        (.ite ((h.strobe (·.execCapLock)).strobe (·.execIlClear)) h)))
  split; exacts [hu.execSeqStopAtEnd, hu.execSeqStop]

theorem Keeps.strobesReed (h : Keeps s t) {a : Nat} {w : Word} : Keeps s (t.strobesReed a w) :=
  .ite ((((h.strobe (·.execGateArm)).strobe (·.execGateHostOpen)).strobe (·.execGateHostClose)).strobe (·.execGateStop)) <|
  .ite ((h.strobe (·.execCdGo)).strobe (·.execCdAbort)) <|
  .ite ((h.strobe (fun hu => .next hu.calStart.put.put.put)).strobe (·.execCalAbort)) <|
  .ite (h.unless (fun hu => ((hu.strobe (·.execRxFoForce)).strobe (·.execRxFoRelease)).strobe (·.execRxClearFaulty))) <|
  .ite (h.strobe (·.execRxwApply)) <| .ite ((h.strobe (·.execRxwTapplyCancel)).strobe (·.execRxwTapplyArm)) <|
  h.when (fun hu => hu.strobe (·.execRebase))

theorem Keeps.strobesBolt (h : Keeps s t) {a : Nat} {w : Word} : Keeps s (t.strobesBolt a w) := by
  refine .ite (h.strobe (·.execPushBad)) (.ite (OutKeeps.after ?push) (.ite (h.strobe (·.execFlush)) (.ite (h.strobe (·.execStreamRegionReset))
    (.ite (h.strobe fun hu => ?mark) (.ite (h.strobe (·.execRetentionTestGo)) (.ite ((h.strobe (·.execReaderGo)).strobe (·.execReaderStop))
      (.ite (h.strobe (·.execEnumGo)) (.ite (h.strobe (·.execChainTrigGo)) (.ite (h.strobe fun hu => ?module)
        (.ite (h.strobe (·.execHostStrobe)) h))))))))))
  case push => split; exacts [h.execPushMiddle, h.execPushSop, h.execPushEop, h.execPushSopEop]
  case mark => split; exacts [hu.execHistMark, hu.execHistRelease]
  case module => split; exacts [hu.execModuleRead, hu.execModuleWrite]

theorem Keeps.fwClaim (h : Keeps s t) {path act : Nat} : Keeps s (t.fwClaim path act) := h.when (·.setMgmt)

theorem Keeps.strobesMgmt (h : Keeps s t) {path a : Nat} {w : Word} : Keeps s (t.strobesMgmt path a w) :=
  .ite ((((h.strobe (·.execDraftBegin)).strobe (·.execDraftAbort)).strobe (·.execDraftApply)).strobe (·.execDraftCommit)) <|
  .ite h.execDraftData.after <| .ite ((h.strobe (·.execGroupTapplyCancel)).strobe (·.execGroupTapplyArm)) <|
  .ite ((h.strobe (·.execMaintClaimRelease)).strobe (·.execMaintClaimGo)).fwClaim <|
  .ite ((h.strobe (·.execBootOk)).strobe (·.execReboot)) <| .ite (h.strobe (·.execKick)) <| .ite (h.strobe (·.execResume)) <|
  .ite (h.strobe (·.execCkptGo)) <| .ite (h.strobe (·.execCalsetGo)) <| .ite ((h.strobe (·.execFwBegin)).strobe (·.execFwAbort)) <|
  .ite h.execFwData.after <| h.when (fun hu => hu.strobe (·.execMbxGo))

theorem Keeps.injectGo (h : Keeps s t) {kind : Nat} {u : Fin 2048} {c : Fin 16384} {x e : Bool} :
    OutKeeps s (injectGo kind u c x e t) := by
  unfold Machine.injectGo; split
  exacts [h.execGenShift, h.execGenMiss, h.execBallStuck, h.execPllwUnlock, h.execPllwStep, h.execRefStop, h.execTripleFlip,
    h.execStructFlip, h.execSramSbe, h.execSramDbe, h.execDramSbe, h.execDramDbeInject, h.execLinkDrop, h.execJesdCrc, h.execSliceCmp,
    h.execSlicePar, h.execWeftResidue, h.execInjectLockstep, h.execKickBlock, h.execInjectSensor, h.execInjectMonitor,
    h.execInjectSupply, h.execInjectLogic, h.execInjectPin, h.execInjectKindNotUsed]

theorem Keeps.strobesSelvedge (h : Keeps s t) {armed : Bool} {a : Nat} {w : Word} : Keeps s (t.strobesSelvedge armed a w) :=
  .ite (h.strobe (·.execSdClear)) <| .ite (h.strobe (·.execHoldRelease)) <| .ite (h.strobe (·.injectGo)) <|
  .ite ((h.strobe (·.execTrimReref)).strobe (·.execLampReref)) <| .ite (h.strobe (·.execMonSelftestGo)) <|
  .ite (h.strobe (·.execLampApply)) <| h.when (·.execLampClr.after)

theorem Keeps.strobes (h : Keeps s t) {armed : Bool} {path a : Nat} {w : Word} : Keeps s (t.strobes armed path a w) :=
  h.strobesWarp.strobesHeddle.strobesShuttle.strobesReed.strobesBolt.strobesMgmt.strobesSelvedge

theorem Keeps.clearOnes (h : Keeps s t) {a : Nat} {w : Word} : Keeps s (t.clearOnes a w) :=
  .ite h.execFaultActiveClear.after <| h.unless (fun hu => hu.setWord.when (·.showPins))

theorem Keeps.writeAll (h : Keeps s t) {path a : Nat} {w : Word} : Keeps s (t.writeAll path a w) :=
  (h.when (·.noteShadow)).writeFields.clearOnes.strobes

/-! ### The functions of `Machine/Access.lean` -/

theorem Keeps.readEffect (h : Keeps s t) {a : Nat} : Keeps s (t.readEffect a) :=
  .ite h.execTbNowRead.after <| .ite h.execTbMtStampRead.after <| .ite h.execHeddleLastRead.after <|
  .ite h.execMuResultRead.after <| .ite h.execPopRead.after <| .ite h.seqPosRead h.bringUp

theorem Keeps.clearRc (h : Keeps s t) {a : Nat} : Keeps s (t.clearRc a) := .ite h.put <| h.unless (·.setWord.rest)

theorem Keeps.busRead (h : Keeps s t) {path a : Nat} : Keeps s (t.busRead path a).2.1 := by
  unfold State.busRead; split; exacts [h.unless (·.flag), by split; exacts [h.flag, h.readEffect.clearRc]]

theorem Keeps.busWrite (h : Keeps s t) {path a : Nat} {w : Word} : Keeps s (t.busWrite path a w).1 := by
  unfold State.busWrite; split; exacts [h.unless (·.flag), by split; exacts [h.flag, h.writeAll]]

theorem Keeps.readRun {path a n : Nat} (h : Keeps s t) : Keeps s (t.readRun path a n).2.1 := by
  induction n generalizing t a with
  | zero => exact h
  | succ n ih => exact ih h.busRead

theorem Keeps.writeRun {path a : Nat} {ws : List Word} (h : Keeps s t) : Keeps s (t.writeRun path a ws).1 := by
  induction ws generalizing t a with
  | nil => exact h
  | cons w ws ih => exact ih h.busWrite

theorem Keeps.writeRepl (h : Keeps s t) {path a banks chans : Nat} {ws : List Word} : Keeps s (t.writeRepl path a banks chans ws).1 :=
  Keeps.foldlFst (a := (t, true)) h fun hu => .foldlFst hu (·.busWrite)

theorem Keeps.writeWords' (h : Keeps s t) {path a : Nat} {masks : Option (Nat × Nat)} {ws : List Word} :
    Keeps s (t.writeWords' path a masks ws).1 := by
  unfold State.writeWords'; split; exacts [by split; exacts [h, h.writeRepl], h.writeRun]

theorem Keeps.execRegisterWrite (h : Keeps s t) {path : Fin 6} {a : Fin 16777216} {w : Word} {whole : Bool} :
    OutKeeps s (execRegisterWrite path a w whole t) :=
  .ite h.noEvent <| .ite (.next h.flag) <| .next h.busWrite

theorem Keeps.execReadClear (h : Keeps s t) {path : Fin 6} {a : Fin 16777216} {size : Fin 4} : OutKeeps s (execReadClear path a size t) :=
  .ite h.noEvent <| .ite (.next h.flag) <| .next h.busRead.send

theorem Keeps.execSpiWrite (h : Keeps s t) {a : Fin 16777216} {ws : List Word} : OutKeeps s (execSpiWrite a ws t) :=
  .ite h.noEvent <| .next h.writeRun

theorem Keeps.execSpiRead (h : Keeps s t) {a n : Fin 16777216} : OutKeeps s (execSpiRead a n t) := .ite h.noEvent <| .next h.readRun.send
theorem Keeps.execSpiStatus (h : Keeps s t) : OutKeeps s (execSpiStatus t) := .next h.free.send

theorem Keeps.execRegacc (h : Keeps s t) {write : Bool} {a : Fin 16777216} {w : Word} : OutKeeps s (execRegacc write a w t) :=
  .ite h.noEvent <| .ite (.next h.send.busWrite) <| .next h.send.busRead.rest

theorem Keeps.sendAnswer {src op id dev addr st k : Nat} {ws : List Word} (h : Keeps s t) :
    Keeps s (t.sendAnswer src op id dev addr st ws k) := by
  induction k generalizing t addr ws with
  | zero => exact h
  | succ k ih => exact h.send.unless (ih ·)

theorem Keeps.emitAnswer (h : Keeps s t) {x : HostOut} : Keeps s (t.emitAnswer x) := by
  unfold State.emitAnswer; split; exacts [h.sendAnswer, h.send]

theorem Keeps.storeAnswer (h : Keeps s t) {src id : Nat} {o : HostOut} : Keeps s (t.storeAnswer src id o) := h.rest

theorem Keeps.answer (h : Keeps s t) {r : EthReq} {write : Bool} {st : Nat} {ws : List Word} : Keeps s (t.answer r write st ws) := by
  unfold State.answer
  exact h.storeAnswer.emitAnswer

theorem Keeps.remoteDone (h : Keeps s t) {x : RemoteWait} {st : Nat} {ws : List Word} : Keeps s (t.remoteDone x st ws) := by
  unfold State.remoteDone; split; exacts [h.unless (·.answer), h.unless (·.send)]

theorem Keeps.takeRsp (h : Keeps s t) {f : ChFrame} : Keeps s (t.takeRsp f) := by
  unfold State.takeRsp; dsimp only; split; exacts [h, (h.rest.unless (·.flag.put)).remoteDone]

theorem Keeps.sendOne (h : Keeps s t) {f : ChFrame} {self : State → State} (hself : ∀ {u}, Keeps s u → Keeps s (self u)) :
    Keeps s (t.sendOne f self) :=
  .ite (hself h) h.sendRoute

theorem Keeps.sendRsp (h : Keeps s t) {f : ChFrame} {st : Nat} {ws : List Word} : Keeps s (t.sendRsp f st ws) :=
  h.unless (fun hu => hu.newFrame.sendOne (·.takeRsp))

theorem Keeps.performWr (h : Keeps s t) {f : ChFrame} : Keeps s (t.performWr f) := .ite h.writeWords'.sendRsp h.writeWords'
theorem Keeps.performRd (h : Keeps s t) {f : ChFrame} : Keeps s (t.performRd f) := h.readRun.sendRsp

theorem Keeps.execRegWr (h : Keeps s t) {p : Fin 2} {f : ChFrame} {crc : Fin (2 ^ 32)} : OutKeeps s (execRegWr p f crc t) :=
  .ite h.noEvent <| h.chainRecv (·.performWr)

theorem Keeps.execRegRd (h : Keeps s t) {p : Fin 2} {f : ChFrame} {crc : Fin (2 ^ 32)} : OutKeeps s (execRegRd p f crc t) :=
  .ite (.ite h.noEvent (.ite (.next h) (.next (.ite h.routeDrop.freeBuf h.badCrc)))) <| .ite h.noEvent <| h.chainRecv (·.performRd)

theorem Keeps.execRegRsp (h : Keeps s t) {p : Fin 2} {f : ChFrame} {crc : Fin (2 ^ 32)} : OutKeeps s (execRegRsp p f crc t) :=
  h.chainRecv (·.takeRsp)

theorem Keeps.waitOnly (h : Keeps s t) {x : Option RemoteWait} : Keeps s (t.waitOnly x) := by
  unfold State.waitOnly; split; exacts [h.rest, h]

theorem Keeps.originateWr (h : Keeps s t) {dst : Nat} {ack : Bool} {a : Nat} {masks : Option (Nat × Nat)} {ws : List Word}
    {wait : Nat → Option RemoteWait} : Keeps s (t.originateWr dst ack a masks ws wait) :=
  .ite h.waitOnly <| .ite h.newFrame.waitOnly.broadcast.performWr <| h.newFrame.waitOnly.sendOne (·.performWr)

theorem Keeps.originateRd (h : Keeps s t) {dst a n : Nat} {wait : Nat → RemoteWait} : Keeps s (t.originateRd dst a n wait) :=
  .ite h.waitOnly <| h.newFrame.waitOnly.sendOne (·.performRd)

theorem Keeps.execRemoteWrite (h : Keeps s t) {a : Fin 16777216} {w : Word} {whole : Bool} : OutKeeps s (execRemoteWrite a w whole t) :=
  .ite h.noEvent <| .ite (.next h.flag) <| .ite (.next h) <| .next h.originateWr

theorem Keeps.execRemoteRead (h : Keeps s t) {a : Fin 16777216} {size : Fin 4} : OutKeeps s (execRemoteRead a size t) :=
  .ite h.noEvent <| .ite (.next h.flag) <| .ite (.next h.flag.send) <| .next h.originateRd

theorem Keeps.execRemoteReadTimeout (h : Keeps s t) : OutKeeps s (execRemoteReadTimeout t) := by
  unfold Machine.execRemoteReadTimeout; split
  exacts [h.noEvent, .next (h.flowTo.withHost.unless (·.flag)).remoteDone]

theorem Keeps.dupReq (h : Keeps s t) {src : Nat} : Keeps s (t.dupReq src) := by
  unfold State.dupReq; dsimp only; split; exacts [by split; exacts [h.bump.emitAnswer, h.bump], h.bump]

theorem Keeps.noteSrc (h : Keeps s t) {src id : Nat} : Keeps s (t.noteSrc src id) := h.rest

theorem Keeps.ethRequest (h : Keeps s t) {r : EthHdr} {act : State → State} (hact : ∀ {u}, Keeps s u → Keeps s (act u)) :
    OutKeeps s (t.ethRequest r act) :=
  .ite h.noEvent <| .ite (.next h.dupReq) <| .next (hact h.noteSrc)

theorem Keeps.ethDrop (h : Keeps s t) : Keeps s t.ethDrop := h.bump

theorem Keeps.execEthWrite (h : Keeps s t) {r : EthHdr} {a : Fin 16777216} {masks : Option (Fin 256 × Fin 256)} {ws : List Word} :
    OutKeeps s (execEthWrite r a masks ws t) :=
  .ite h.noEvent <|
  h.ethRequest (fun hu => .ite hu.ethDrop (.ite (.ite hu.writeWords'.answer hu.writeWords') (.ite (hu.when (·.answer)) hu.originateWr)))

theorem Keeps.execEthRead (h : Keeps s t) {r : EthHdr} {a : Fin 16777216} {count : Fin 65536} : OutKeeps s (execEthRead r a count t) :=
  .ite h.noEvent <| h.ethRequest (fun hu => .ite hu.ethDrop (.ite hu.readRun.answer (.ite hu.flag.answer hu.originateRd)))

theorem Keeps.pushRecord (h : Keeps s t) {c : Nat} {r : Bool × Bool × List Word} : Keeps s (t.pushRecord c r) := .foldl h (·.channelPush)

theorem Keeps.execEthPush (h : Keeps s t) {r : EthHdr} {c : Fin 64} {recs : List (Bool × Bool × List Word)} :
    OutKeeps s (execEthPush r c recs t) :=
  h.ethRequest (fun hu => .foldl hu (·.pushRecord))

theorem Keeps.execEthStrobe (h : Keeps s t) {r : EthHdr} {due ctrl : Word} : OutKeeps s (execEthStrobe r due ctrl t) :=
  h.ethRequest (·.setWord.strobeDue.setWord.sendDue)

theorem Keeps.execEthOpNotUsed (h : Keeps s t) {src : Nat} {id : Fin 65536} : OutKeeps s (execEthOpNotUsed src id t) :=
  .ite h.noEvent <| .next (.ite h.dupReq h.ethDrop)

theorem Keeps.execArpRequest (h : Keeps s t) {ip : Fin 4294967296} : OutKeeps s (execArpRequest ip t) :=
  .ite h.noEvent <| .next (.ite h.send h.ethDrop)

theorem Keeps.execEthFrameDiscard (h : Keeps s t) : OutKeeps s (execEthFrameDiscard t) := .ite h.noEvent <| .next h.ethDrop

/-! ### The functions of `Machine/Dispatch.lean` -/

theorem Keeps.exec (h : Keeps s t) : (i : Instr) → OutKeeps s (exec i t)
  | .registerWrite .. => h.execRegisterWrite
  | .readClear .. => h.execReadClear
  | .tbNowRead => h.execTbNowRead
  | .tbMtStampRead => h.execTbMtStampRead
  | .mtTick .. => h.execMtTick
  | .tbLoadNow => h.execTbLoadNow
  | .tbLoadSyncIn => h.execTbLoadSyncIn
  | .tbLoadModeNone .. => h.execTbLoadModeNone
  | .syncInEdge => h.execSyncInEdge
  | .commandAccept .. => h.execCommandAccept
  | .commandCommit => h.execCommandCommit
  | .refActivityLoss .. => h.execRefActivityLoss
  | .refQualify .. => h.execRefQualify
  | .refRereference => h.execRefRereference
  | .prefWrite .. => h.execPrefWrite
  | .pllcLost => h.execPllcLost
  | .pllcReturn => h.execPllcReturn
  | .retuneGo => h.execRetuneGo
  | .drainComplete => h.execDrainComplete
  | .drainLimitExpiry => h.execDrainLimitExpiry
  | .dividerAlign => h.execDividerAlign
  | .guardPass => h.execGuardPass
  | .guardLimitExpiry => h.execGuardLimitExpiry
  | .pllwReturn .. => h.execPllwReturn
  | .trimWrite .. => h.execTrimWrite
  | .trimRampDone => h.execTrimRampDone
  | .lockLost => h.execLockLost
  | .phaseStep .. => h.execPhaseStep
  | .trigger => h.execTrigger
  | .stop => h.execStop
  | .tapply => h.execTapply
  | .actionNotUsed => h.execActionNotUsed
  | .leadingEdge .. => h.execLeadingEdge
  | .trailingEdge .. => h.execTrailingEdge
  | .enableWrite .. => h.execEnableWrite
  | .driverAwake .. => h.execDriverAwake
  | .warpApply .. => h.execWarpApply
  | .warpTapplyArm .. => h.execWarpTapplyArm
  | .warpTapplyCancel => h.execWarpTapplyCancel
  | .echoClassify .. => h.execEchoClassify
  | .echoLevelCheck .. => h.execEchoLevelCheck
  | .failoverCopyDone .. => h.execFailoverCopyDone
  | .failoverSwitch .. => h.execFailoverSwitch
  | .foRelease .. => h.execFoRelease
  | .foReleaseSwitch .. => h.execFoReleaseSwitch
  | .foForce .. => h.execFoForce
  | .tiCrossing .. => h.execTiCrossing
  | .heddleInPsSync .. => h.execHeddleInPsSync
  | .rgGo .. => h.execRgGo
  | .rgStop .. => h.execRgStop
  | .rgTick .. => h.execRgTick
  | .fire => h.execFire
  | .arm => h.execArm
  | .disarm => h.execDisarm
  | .heddleArmCmdArm .. => h.execHeddleArmCmdArm
  | .heddleArmCmdDisarm .. => h.execHeddleArmCmdDisarm
  | .armWindowExpiry .. => h.execArmWindowExpiry
  | .heddleFireCtrlGo .. => h.execHeddleFireCtrlGo
  | .heddleLastRead => h.execHeddleLastRead
  | .voteClassify .. => h.execVoteClassify
  | .swapCopyDone .. => h.execSwapCopyDone
  | .swapTakeover .. => h.execSwapTakeover
  | .replace .. => h.execReplace
  | .clearFaulty .. => h.execClearFaulty
  | .moutApply .. => h.execMoutApply
  | .moutTapplyArm .. => h.execMoutTapplyArm
  | .moutTapplyCancel => h.execMoutTapplyCancel
  | .seqGo .. => h.execSeqGo
  | .runStart .. => h.execRunStart
  | .seqStop .. => h.execSeqStop
  | .seqStopAtEnd .. => h.execSeqStopAtEnd
  | .seqJump .. => h.execSeqJump
  | .seqRelease .. => h.execSeqRelease
  | .seqApply .. => h.execSeqApply
  | .seqTapplyArm .. => h.execSeqTapplyArm
  | .seqTapplyCancel .. => h.execSeqTapplyCancel
  | .nop .. => h.execNop
  | .chip .. => h.execChip
  | .edge .. => h.execEdge
  | .wait .. => h.execWait
  | .loop .. => h.execLoop
  | .jump .. => h.execJump
  | .mark .. => h.execMark
  | .endItem .. => h.execEnd
  | .idle .. => h.execIdle
  | .itemNotUsed .. => h.execItemNotUsed
  | .waitRelease .. => h.execWaitRelease
  | .decisionPoint .. => h.execDecisionPoint
  | .segmentBoundary .. => h.execSegmentBoundary
  | .refillGranule .. => h.execRefillGranule
  | .shotBoundary .. => h.execShotBoundary
  | .probeApply .. => h.execProbeApply
  | .probeTapplyArm .. => h.execProbeTapplyArm
  | .probeTapplyCancel => h.execProbeTapplyCancel
  | .txLinkEnable .. => h.execTxLinkEnable
  | .txLinkDisable .. => h.execTxLinkDisable
  | .txClockCheck .. => h.execTxClockCheck
  | .txLinkUp .. => h.execTxLinkUp
  | .txFifoError .. => h.execTxFifoError
  | .limiterCut .. => h.execLimiterCut
  | .maxonCut .. => h.execMaxonCut
  | .capLock => h.execCapLock
  | .interlockAssert .. => h.execInterlockAssert
  | .ilClear .. => h.execIlClear
  | .stampMerge => h.execStampMerge
  | .gateOpen .. => h.execGateOpen
  | .gateClose .. => h.execGateClose
  | .gateArm .. => h.execGateArm
  | .gateHostOpen .. => h.execGateHostOpen
  | .gateHostClose .. => h.execGateHostClose
  | .gateStop .. => h.execGateStop
  | .muResult .. => h.execMuResult
  | .muResultRead .. => h.execMuResultRead
  | .cdGo .. => h.execCdGo
  | .cdAbort => h.execCdAbort
  | .cdDone .. => h.execCdDone
  | .calGoBank .. => h.execCalGoBank
  | .calGoMout .. => h.execCalGoMout
  | .calGoTi .. => h.execCalGoTi
  | .calGoRx .. => h.execCalGoRx
  | .calGoAll => h.execCalGoAll
  | .calKindNotUsed .. => h.execCalKindNotUsed
  | .calAbort => h.execCalAbort
  | .calSamplerPassDone .. => h.execCalSamplerPassDone
  | .generatorRunDone .. => h.execGeneratorRunDone
  | .calHandover .. => h.execCalHandover
  | .handoverLimitExpiry => h.execHandoverLimitExpiry
  | .tiRunDone .. => h.execTiRunDone
  | .calValueLoad .. => h.execCalValueLoad
  | .calRecordWrite .. => h.execCalRecordWrite
  | .rxLinkEnable .. => h.execRxLinkEnable
  | .rxLinkDisable .. => h.execRxLinkDisable
  | .rxClockCheck .. => h.execRxClockCheck
  | .rxLinkUp .. => h.execRxLinkUp
  | .rxRelease .. => h.execRxRelease
  | .laneLockLoss .. => h.execLaneLockLoss
  | .slicePlausFault .. => h.execSlicePlausFault
  | .spareDwell => h.execSpareDwell
  | .mismatch => h.execMismatch
  | .judgeEnd .. => h.execJudgeEnd
  | .rxFoForce .. => h.execRxFoForce
  | .rxFoRelease .. => h.execRxFoRelease
  | .rxClearFaulty .. => h.execRxClearFaulty
  | .rxSelftestDone .. => h.execRxSelftestDone
  | .rxEstimateDone .. => h.execRxEstimateDone
  | .rxwApply .. => h.execRxwApply
  | .rxwTapplyArm .. => h.execRxwTapplyArm
  | .rxwTapplyCancel => h.execRxwTapplyCancel
  | .eccDbe .. => h.execEccDbe
  | .residue .. => h.execResidue
  | .rowComplete .. => h.execRowComplete
  | .rebase .. => h.execRebase
  | .packetWord .. => h.execPacketWord
  | .consumerRead .. => h.execConsumerRead
  | .popRead .. => h.execPopRead
  | .pushMiddle .. => h.execPushMiddle
  | .pushSop .. => h.execPushSop
  | .pushEop .. => h.execPushEop
  | .pushSopEop .. => h.execPushSopEop
  | .pushBad => h.execPushBad
  | .flush .. => h.execFlush
  | .boltScrubPass .. => h.execBoltScrubPass
  | .skeinFrameWrite .. => h.execSkeinFrameWrite
  | .rawFrameWrite .. => h.execRawFrameWrite
  | .histMark .. => h.execHistMark
  | .histRelease .. => h.execHistRelease
  | .markLocated .. => h.execMarkLocated
  | .readerGo .. => h.execReaderGo
  | .readerStop .. => h.execReaderStop
  | .readerFrame .. => h.execReaderFrame
  | .retentionTestGo .. => h.execRetentionTestGo
  | .retentionTestDone .. => h.execRetentionTestDone
  | .streamRegionReset .. => h.execStreamRegionReset
  | .streamRegionWrite .. => h.execStreamRegionWrite
  | .dramDbe .. => h.execDramDbe
  | .dramScrubPass .. => h.execDramScrubPass
  | .dramReady => h.execDramReady
  | .portTrain .. => h.execPortTrain
  | .portUp .. => h.execPortUp
  | .portLoss .. => h.execPortLoss
  | .helloTimer .. => h.execHelloTimer
  | .hello .. => h.execHello
  | .timeExchangeTimer .. => h.execTimeExchangeTimer
  | .time .. => h.execTime
  | .chainStep => h.execChainStep
  | .announceTimer => h.execAnnounceTimer
  | .announce .. => h.execAnnounce
  | .break .. => h.execBreak
  | .healHoldExpiry .. => h.execHealHoldExpiry
  | .heal .. => h.execHeal
  | .join .. => h.execJoin
  | .enumGo => h.execEnumGo
  | .walk .. => h.execWalk
  | .walkTimeout => h.execWalkTimeout
  | .assign .. => h.execAssign
  | .trig .. => h.execTrig
  | .chainTrigGo .. => h.execChainTrigGo
  | .fault .. => h.execFault
  | .regWr .. => h.execRegWr
  | .regRd .. => h.execRegRd
  | .regRsp .. => h.execRegRsp
  | .data .. => h.execData
  | .credit .. => h.execCredit
  | .moduleRead .. => h.execModuleRead
  | .moduleWrite .. => h.execModuleWrite
  | .moduleAccessDone .. => h.execModuleAccessDone
  | .remoteWrite .. => h.execRemoteWrite
  | .remoteRead .. => h.execRemoteRead
  | .remoteReadTimeout => h.execRemoteReadTimeout
  | .bar2Push .. => h.execBar2Push
  | .ringRdWrite .. => h.execRingRdWrite
  | .ringInterruptTimer .. => h.execRingInterruptTimer
  | .pcieLinkDown .. => h.execPcieLinkDown
  | .ethWrite .. => h.execEthWrite
  | .ethRead .. => h.execEthRead
  | .ethPush .. => h.execEthPush
  | .ethStrobe .. => h.execEthStrobe
  | .ethOpNotUsed .. => h.execEthOpNotUsed
  | .arpRequest .. => h.execArpRequest
  | .ethFrameDiscard => h.execEthFrameDiscard
  | .streamDatagramTimer .. => h.execStreamDatagramTimer
  | .spiWrite .. => h.execSpiWrite
  | .spiRead .. => h.execSpiRead
  | .spiStatus => h.execSpiStatus
  | .regacc .. => h.execRegacc
  | .hostStrobe .. => h.execHostStrobe
  | .draftBegin => h.execDraftBegin
  | .draftAbort => h.execDraftAbort
  | .draftData .. => h.execDraftData
  | .draftVerifyDone => h.execDraftVerifyDone
  | .draftApply => h.execDraftApply
  | .draftApplyRun => h.execDraftApplyRun
  | .draftCommit => h.execDraftCommit
  | .draftCommitDone .. => h.execDraftCommitDone
  | .configScan => h.execConfigScan
  | .islandHoldReq .. => h.execIslandHoldReq
  | .held .. => h.execHeld
  | .islandRelease .. => h.execIslandRelease
  | .holdExpired .. => h.execHoldExpired
  | .groupTapplyArm .. => h.execGroupTapplyArm
  | .groupTapplyCancel => h.execGroupTapplyCancel
  | .groupTapply => h.execGroupTapply
  | .maintClaimGo .. => h.execMaintClaimGo
  | .maintClaimRelease .. => h.execMaintClaimRelease
  | .lockstep => h.execLockstep
  | .mgmtDbe .. => h.execMgmtDbe
  | .kick => h.execKick
  | .watchdogExpiry => h.execWatchdogExpiry
  | .mgmtReset => h.execMgmtReset
  | .reboot => h.execReboot
  | .bootOk => h.execBootOk
  | .fwBegin => h.execFwBegin
  | .fwAbort => h.execFwAbort
  | .fwData .. => h.execFwData
  | .fwWriteDone .. => h.execFwWriteDone
  | .mbxGo .. => h.execMbxGo
  | .version => h.execVersion
  | .checkpoint .. => h.execCheckpoint
  | .calsetCommit .. => h.execCalsetCommit
  | .calibrate => h.execCalibrate
  | .health => h.execHealth
  | .mbxReboot => h.execMbxReboot
  | .logRead .. => h.execLogRead
  | .mbxUnknown => h.execMbxUnknown
  | .ckptGo => h.execCkptGo
  | .ckptDone .. => h.execCkptDone
  | .calsetGo => h.execCalsetGo
  | .calsetDone .. => h.execCalsetDone
  | .powerUp .. => h.execPowerUp
  | .resetN .. => h.execResetN
  | .restoreDone => h.execRestoreDone
  | .wakeTakeover => h.execWakeTakeover
  | .resume => h.execResume
  | .autoResume => h.execAutoResume
  | .pwrReqOn .. => h.execPwrReqOn
  | .pwrReqOff .. => h.execPwrReqOff
  | .pwrReqRetain .. => h.execPwrReqRetain
  | .governorAdmit .. => h.execGovernorAdmit
  | .saveDone .. => h.execSaveDone
  | .wakeDone .. => h.execWakeDone
  | .tableReloadDone .. => h.execTableReloadDone
  | .retainEntered => h.execRetainEntered
  | .sdClear => h.execSdClear
  | .supplyExcursion .. => h.execSupplyExcursion
  | .wake => h.execWake
  | .selvedgeFaultReport => h.execSelvedgeFaultReport
  | .faultActiveClear .. => h.execFaultActiveClear
  | .holdRelease => h.execHoldRelease
  | .pinFault .. => h.execPinFault
  | .selvedgeDisagree => h.execSelvedgeDisagree
  | .svcStale => h.execSvcStale
  | .genShift .. => h.execGenShift
  | .genMiss .. => h.execGenMiss
  | .ballStuck .. => h.execBallStuck
  | .pllwUnlock .. => h.execPllwUnlock
  | .pllwStep .. => h.execPllwStep
  | .refStop .. => h.execRefStop
  | .tripleFlip .. => h.execTripleFlip
  | .structFlip .. => h.execStructFlip
  | .sramSbe .. => h.execSramSbe
  | .sramDbe .. => h.execSramDbe
  | .dramSbe .. => h.execDramSbe
  | .dramDbeInject .. => h.execDramDbeInject
  | .linkDrop .. => h.execLinkDrop
  | .jesdCrc .. => h.execJesdCrc
  | .sliceCmp .. => h.execSliceCmp
  | .slicePar .. => h.execSlicePar
  | .weftResidue .. => h.execWeftResidue
  | .injectLockstep .. => h.execInjectLockstep
  | .kickBlock .. => h.execKickBlock
  | .injectSensor .. => h.execInjectSensor
  | .injectMonitor .. => h.execInjectMonitor
  | .injectSupply .. => h.execInjectSupply
  | .injectLogic .. => h.execInjectLogic
  | .injectPin .. => h.execInjectPin
  | .injectKindNotUsed .. => h.execInjectKindNotUsed
  | .missed => h.execMissed
  | .dayClose => h.execDayClose
  | .trimReref => h.execTrimReref
  | .lampReref => h.execLampReref
  | .monPass .. => h.execMonPass
  | .monSelftestGo => h.execMonSelftestGo
  | .monSelftestDone .. => h.execMonSelftestDone
  | .frameSync .. => h.execFrameSync
  | .frameFlywheel => h.execFrameFlywheel
  | .lampApply => h.execLampApply
  | .lampPulse .. => h.execLampPulse
  | .lampSpan .. => h.execLampSpan
  | .ocCut .. => h.execOcCut
  | .lampClr .. => h.execLampClr
  | .pllwFirstLock => h.execPllwFirstLock
  | .hostLinkTrained .. => h.execHostLinkTrained
  | .perstN .. => h.execPerstN
  | .mgmtScrubPass .. => h.execMgmtScrubPass
  | .weftMemoryScrub => h.execWeftMemoryScrub
  | .logicMismatch .. => h.execLogicMismatch
  | .injectionEnd => h.execInjectionEnd
  | .powerLoss .. => h.execPowerLoss
  | .frameTypeNotUsed .. => h.execFrameTypeNotUsed

/-! ### The steps of the block -/

theorem Keeps.idle (h : Keeps s t) : Keeps s t.idle := h.flowBefore

/-- Every command goes on from every state, to one that `Keeps` allows after it. -/
theorem outKeeps_exec (c : Instr) (s : State) : OutKeeps s (exec c s) := (Keeps.refl s).exec c

/-- Settles O52: an idle step and every command keep the stores canonical, whatever command the queue gives (`Keeps.idle`,
`outKeeps_exec`). The canonical form is the model's choice (log entry 7). -/
theorem stepKeepsCanon : Obligations.StepKeepsCanon := by
  unfold Obligations.StepKeepsCanon
  intro s t hc hst
  unfold step at hst
  split at hst
  · obtain rfl := Host.Outcome.next.inj hst
    exact (Keeps.refl s).idle.canon hc
  · rename_i c rest _
    obtain ⟨u, hu, hk⟩ := outKeeps_exec c { s with pending := rest }
    obtain rfl := Host.Outcome.next.inj (hu.symm.trans hst)
    exact hk.canon hc

/-- Settles O54: no arm of `exec` ends in a fault or a refusal (`outKeeps_exec`). That a command which finds nothing to do answers
its state unchanged is the model's reading (log entry 4). -/
theorem everyCommandCompletes : Obligations.EveryCommandCompletes := by
  unfold Obligations.EveryCommandCompletes
  intro c s
  obtain ⟨t, ht, -⟩ := outKeeps_exec c s
  exact ⟨t, ht⟩

/-- Settles O51: at reset the stores list no word and the queue no command. -/
theorem resetCanonical : Obligations.ResetCanonical := ⟨State.canon_reset, rfl, rfl⟩

end Sys2Proof.Machine


/-! # Reading registers after a command: fields that share no bit, and the words a command may change -/

namespace Sys2Proof.Machine

/-! ### Fields apart -/

/-- Field `f` at offset `o` and field `g` at offset `p` share no bit: they lie in different words, or beside each other in one. -/
abbrev Fld.Apart (f : Fld) (o : Nat) (g : Fld) (p : Nat) : Prop :=
  g.base + p ≠ f.base + o ∨
    f.lo + fldWidth f ≤ 36 ∧ g.lo + fldWidth g ≤ 36 ∧ (f.lo + fldWidth f ≤ g.lo ∨ g.lo + fldWidth g ≤ f.lo)

/-- A field of a state depends on its register store alone. -/
theorem State.get_congr {s t : State} (h : t.regs = s.regs) (f : Fld) (o : Nat) : t.get f o = s.get f o :=
  congrArg f.get (State.word_congr h _)

/-- A flag of a state depends on its register store alone. -/
theorem State.is_congr {s t : State} (h : t.regs = s.regs) (f : Fld) (o : Nat) : t.is f o = s.is f o :=
  congrArg (· == 1) (State.get_congr h f o)

section
variable {f g : Fld} {o p : Nat} (s : State)

@[simp] theorem State.get_noteEvt (k : Nat → Nat) : (s.noteEvt f o k).get g p = s.get g p := State.get_congr (by simp) g p

@[simp] theorem State.get_setWord_ne {a : Nat} (w : Word) (h : g.base + p ≠ a) : (s.setWord a w).get g p = s.get g p :=
  congrArg g.get (State.word_setWord_ne s w h)

@[simp] theorem State.get_put_apart (v : Nat) (h : f.Apart o g p) : (s.put f v o).get g p = s.get g p := by
  rcases h with h | ⟨hf, hg, h⟩
  · exact State.get_put_word s f g v o p h
  · exact State.get_put_beside s f g v o p hf hg h

@[simp] theorem State.get_unflag_apart (h : f.Apart o g p) : (s.unflag f o).get g p = s.get g p := State.get_put_apart s 0 h

@[simp] theorem State.get_flag_apart (h : f.Apart o g p) : (s.flag f o).get g p = s.get g p :=
  (State.get_put_apart _ 1 h).trans (State.get_noteEvt s _)

@[simp] theorem State.get_bump_apart (n : Nat) (h : f.Apart o g p) : (s.bump f o n).get g p = s.get g p :=
  (State.get_put_apart _ _ h).trans (State.get_noteEvt s _)

@[simp] theorem State.get_putSat_apart (z : Int) (h : f.Apart o g p) : (s.putSat f z o).get g p = s.get g p := State.get_put_apart s _ h

end

/-! ### The field written -/

section
variable {f : Fld} {o : Nat} (s : State) (hf : f.lo + fldWidth f ≤ 36)
include hf

@[simp] theorem State.get_unflag_same : (s.unflag f o).get f o = 0 := (State.get_put_same s f 0 o hf).trans (Nat.zero_mod _)

@[simp] theorem State.get_flag_same : (s.flag f o).get f o = 1 := eq_of_beq (State.is_flag s f o hf)

theorem State.get_put_of_lt {v : Nat} (hv : v < 2 ^ fldWidth f) : (s.put f v o).get f o = v :=
  (State.get_put_same s f v o hf).trans (Nat.mod_eq_of_lt hv)

@[simp] theorem State.get_bump_same (n : Nat) : (s.bump f o n).get f o = satU (fldWidth f) (s.get f o + n) :=
  State.get_put_of_lt _ hf (lt_of_le_of_lt (Nat.min_le_right ..) (Nat.sub_lt (Nat.two_pow_pos _) Nat.one_pos))

end

/-! ### Signed fields -/

theorem satS_bounds (wd : Nat) (z : Int) : -(2 ^ (wd - 1) : Nat) ≤ satS wd z ∧ satS wd z < (2 ^ (wd - 1) : Nat) := by
  have : (0 : Int) < (2 ^ (wd - 1) : Nat) := by positivity
  unfold satS
  omega

theorem satS_of_bounds {wd : Nat} {z : Int} (hl : -(2 ^ (wd - 1) : Nat) ≤ z) (hu : z < (2 ^ (wd - 1) : Nat)) : satS wd z = z := by
  unfold satS
  omega

theorem sgn_bounds {wd : Nat} (hw : 0 < wd) (n : Nat) : -(2 ^ (wd - 1) : Nat) ≤ sgn wd n ∧ sgn wd n < (2 ^ (wd - 1) : Nat) := by
  have h2 : 2 ^ wd = 2 * 2 ^ (wd - 1) := (mul_pow_sub_one hw.ne' 2).symm
  have hn := Nat.mod_lt n (Nat.two_pow_pos wd)
  unfold sgn
  split <;> omega

/-- A signed value in range is read back from its two's complement code. -/
theorem sgn_enc {wd : Nat} {z : Int} (hw : 0 < wd) (hl : -(2 ^ (wd - 1) : Nat) ≤ z) (hu : z < (2 ^ (wd - 1) : Nat)) :
    sgn wd (enc wd z) = z := by
  have h2 : 2 ^ wd = 2 * 2 ^ (wd - 1) := (mul_pow_sub_one hw.ne' 2).symm
  have hlt : enc wd z < 2 ^ wd := (Int.toNat_lt' (Nat.two_pow_pos wd)).mpr (Int.emod_lt_of_pos _ (by positivity))
  unfold sgn
  rw [Nat.mod_eq_of_lt hlt]
  unfold enc
  rcases le_or_gt 0 z with hz | hz
  · rw [Int.emod_eq_of_lt hz (by omega), if_pos (by omega), Int.toNat_of_nonneg hz]
  · rw [← Int.add_emod_right, Int.emod_eq_of_lt (by omega) (by omega), if_neg (by omega)]
    omega

theorem State.geti_putSat_same {f : Fld} (s : State) (z : Int) (o : Nat) (hf : f.lo + fldWidth f ≤ 36) :
    (s.putSat f z o).geti f o = satS (fldWidth f) z := by
  obtain ⟨hl, hu⟩ := satS_bounds (fldWidth f) z
  have hm (n : Nat) : sgn (fldWidth f) (n % 2 ^ fldWidth f) = sgn (fldWidth f) n := by simp only [sgn, Nat.mod_mod]
  unfold State.geti State.putSat
  rw [State.get_put_same _ _ _ _ hf, hm]
  exact sgn_enc (Nat.succ_pos _) hl hu

/-! ### The words a command may change -/

section
variable {ws : List Nat} {s t u : State} {f : Fld} {o : Nat}

theorem Only.refl (ws : List Nat) (s : State) : Only ws s s := fun _ _ => rfl

theorem Only.trans (h : Only ws s t) (k : Only ws t u) : Only ws s u := fun a ha => (k a ha).trans (h a ha)

theorem Only.of_regs (h : t.regs = s.regs) : Only ws s t := fun a _ => State.word_congr h a

theorem Only.rest (h : Only ws s t) (hr : u.regs = t.regs := by rfl) : Only ws s u := h.trans (.of_regs hr)

theorem Only.setWord {a : Nat} {w : Word} (h : Only ws s t) (ha : a ∈ ws := by decide) : Only ws s (t.setWord a w) :=
  h.trans fun _ hb => State.word_setWord_ne t w fun e => hb (e ▸ ha)

theorem Only.put {v : Nat} (h : Only ws s t) (ha : f.base + o ∈ ws := by decide) : Only ws s (t.put f v o) := h.setWord ha

theorem Only.unflag (h : Only ws s t) (ha : f.base + o ∈ ws := by decide) : Only ws s (t.unflag f o) := h.put ha

theorem Only.putSat {z : Int} (h : Only ws s t) (ha : f.base + o ∈ ws := by decide) : Only ws s (t.putSat f z o) := h.put ha

theorem Only.flag (h : Only ws s t) (ha : f.base + o ∈ ws := by decide) : Only ws s (t.flag f o) :=
  (h.rest (State.noteEvt_regs ..)).put ha

theorem Only.bump {n : Nat} (h : Only ws s t) (ha : f.base + o ∈ ws := by decide) : Only ws s (t.bump f o n) :=
  (h.rest (State.noteEvt_regs ..)).put ha

theorem Only.until_ {i : Nat} (h : Only ws s t) : Only ws s (t.until_ i) := h.rest (State.until_regs ..)

theorem Only.flowTo {i : Nat} (h : Only ws s t) (hp : t.pins = []) : Only ws s (t.flowTo i) := State.flowTo_nil i hp ▸ h.until_

theorem Only.ite {c : Prop} {_ : Decidable c} (ht : Only ws s t) (hu : Only ws s u) : Only ws s (if c then t else u) := by
  split <;> assumption

theorem Only.mono {vs : List Nat} (h : Only vs s t) (hv : vs ⊆ ws) : Only ws s t := fun a ha => h a fun hm => ha (hv hm)

theorem Only.get (h : Only ws s t) (ha : f.base + o ∉ ws) : t.get f o = s.get f o := congrArg f.get (h _ ha)

theorem Only.is (h : Only ws s t) (ha : f.base + o ∉ ws) : t.is f o = s.is f o := congrArg (· == 1) (h.get ha)

end

/-- Passing time changes the time alone. -/
theorem State.until_eq (s : State) (t : Nat) : s.until_ t = { s with now := (s.until_ t).now } := by
  unfold State.until_
  split <;> rfl

end Sys2Proof.Machine


/-! # Timebase: its order, its reads, its steps and its loads (chapter 01) -/

namespace Sys2Proof.Machine

/-! ### Instants (R22) -/

/-- The span from one instant back to another is their difference modulo 2^72. -/
theorem tSub_eq_emod (a b : Nat) : (tSub a b : Int) = ((a : Int) - b) % 2 ^ 72 := by
  unfold tSub tMod
  omega

/-- An instant is at or before another when their difference modulo 2^72 is zero or at least 2^71. -/
theorem tLe_eq_true_iff (a b : Nat) : tLe a b = true ↔ tSub a b = 0 ∨ 2 ^ 71 ≤ tSub a b := by
  have h : tSub a b < 2 ^ 72 := Nat.mod_lt _ (Nat.two_pow_pos 72)
  unfold tLe tDiff sgn
  rw [decide_eq_true_iff, Nat.mod_eq_of_lt h]
  split <;> omega

/-- Settles O55: the test reads the difference modulo 2^72 as a signed number (`tLe_eq_true_iff`, `tSub_eq_emod`). -/
theorem timestampOrder : Obligations.TimestampOrder := by
  unfold Obligations.TimestampOrder
  refine ⟨fun d t => ?_, fun t => ?_⟩
  · rw [← Bool.not_eq_true, tLe_eq_true_iff, ← tSub_eq_emod]
    omega
  · rw [tLe_eq_true_iff]
    left
    have := tSub_eq_emod t t
    omega

/-! ### Steps of the queue -/

/-- A state with no command waiting and one source event of line 0 ahead, in the present wc. -/
def State.eventAhead : State := { State.reset with pins := [⟨0, 0, 0⟩] }

/-- Refutes O50: an idle step also performs the events of Heddle's lines that fall in the wc it ends (log entry 93), so from
`State.eventAhead` it changes `pins` besides the time. The first clause, that a step takes the front of the queue, holds. -/
theorem not_stepTakesFront : ¬ Obligations.StepTakesFront := by
  unfold Obligations.StepTakesFront
  rintro ⟨-, hidle⟩
  have hnext : State.eventAhead.idle = { State.eventAhead with now := (State.eventAhead.now + 1) % 2 ^ 62 } :=
    Host.Outcome.next.inj (hidle State.eventAhead rfl)
  have hgone : State.eventAhead.idle.pins = [] := by decide
  rw [hnext] at hgone
  exact List.cons_ne_nil _ _ hgone

/-! ### Snapshots (R23, R35) -/

/-- FINE of the present instant is zero: it is the start of a wc. -/
theorem fine_tsLo_nowT (s : State) : getBits (tsLo s.nowT) 0 10 = 0 := by
  simp only [getBits, natBits, tsLo, State.nowT, wcs, BitVec.toNat_ofNat, Nat.shiftRight_zero]
  omega

/-- Settles O1: both reads store the two words of an instant and nothing else. -/
theorem timebaseReads : Obligations.TimebaseReads := by
  unfold Obligations.TimebaseReads
  refine ⟨fun s => ⟨_, rfl, ?_, ?_, ?fine, (Only.refl _ s).setWord.setWord, rfl⟩,
    fun s => ⟨_, rfl, ?_, ?_, (Only.refl _ s).setWord.setWord, rfl⟩⟩
  case fine =>
    rw [State.word_setWord_ne _ _ (by decide), State.word_setWord_same]
    exact fine_tsLo_nowT s
  all_goals simp [State.word_setWord, aTB_NOW_LO, aTB_NOW_HI, aTB_MT_STAMP_LO, aTB_MT_STAMP_HI]

/-! ### Loads of the timebase (R37 to R39, R646) -/

theorem State.loadReason_le (s : State) : s.loadReason ≤ 3 := by
  unfold State.loadReason
  split <;> [decide; split <;> [decide; split <;> decide]]

theorem RegsOnly.loadGo (s : State) (m : Nat) : RegsOnly s (s.loadGo m) := rfl

theorem Only.loadGo (s : State) (m : Nat) : Only [aTB_LOAD_CTRL] s (s.loadGo m) := (Only.refl _ s).put.unflag.put.unflag

theorem RegsOnly.loadRefuse (s : State) (r : Nat) : RegsOnly s (s.loadRefuse r) := rfl

theorem Only.loadRefuse {ws : List Nat} {s t : State} {r : Nat} (h : Only ws s t) (ha : aTB_LOAD_CTRL ∈ ws := by decide) :
    Only ws s (t.loadRefuse r) := (h.put ha).unflag ha

theorem State.loadWaits_loadRefuse (s : State) (r : Nat) : (s.loadRefuse r).loadWaits = false :=
  State.is_unflag _ fTB_LOAD_CTRL_GO 0 (by decide)

theorem State.get_loadRefuse_go (s : State) (r : Nat) : (s.loadRefuse r).get fTB_LOAD_CTRL_GO = 0 :=
  State.get_unflag_same _ (by decide)

theorem State.get_loadRefuse_refuse (s : State) {r : Nat} (hr : r < 16) : (s.loadRefuse r).get fTB_LOAD_CTRL_REFUSE = r :=
  (State.get_unflag_apart _ (by decide)).trans (State.get_put_of_lt s (by decide) hr)

/-- A refused load: REFUSE takes the reason, GO is 0 and only TB_LOAD_CTRL changes. -/
def LoadRefused (r : Nat) (s t : State) : Prop :=
  t.get fTB_LOAD_CTRL_REFUSE = r ∧ t.get fTB_LOAD_CTRL_GO = 0 ∧ Only [aTB_LOAD_CTRL] s t ∧ RegsOnly s t

theorem LoadRefused.loadRefuse (s : State) {r : Nat} (hr : r < 16) : LoadRefused r s (s.loadRefuse r) :=
  ⟨s.get_loadRefuse_refuse hr, s.get_loadRefuse_go r, (Only.refl _ s).loadRefuse, .loadRefuse s r⟩

theorem LoadRefused.after_loadGo (s : State) (m : Nat) {r : Nat} (hr : r < 16) : LoadRefused r s ((s.loadGo m).loadRefuse r) :=
  ⟨State.get_loadRefuse_refuse _ hr, State.get_loadRefuse_go _ r, (Only.loadGo s m).loadRefuse, .trans (.loadGo s m) (.loadRefuse _ r)⟩

/-! ### The check of a waiting load -/

section
variable {s : State}

theorem State.checkLoad_of_none (hw : s.loadWaits = false) : s.checkLoad = s := if_pos (by simp [hw])

theorem State.checkLoad_of_unlocked (hw : s.loadWaits = true) (hu : s.unlocked = true) : s.checkLoad = s.loadRefuse 3 :=
  (if_neg (by simp [hw])).trans (if_pos hu)

theorem State.checkLoad_of_active (hw : s.loadWaits = true) (hu : s.unlocked = false) (hq : s.quiescent = false) :
    s.checkLoad = s.loadRefuse 1 :=
  (if_neg (by simp [hw])).trans <| (if_neg (by simp [hu])).trans (if_pos (by simp [hq]))

theorem State.checkLoad_of_quiescent (hu : s.unlocked = false) (hq : s.quiescent = true) : s.checkLoad = s := by
  simp [State.checkLoad, hu, hq]

/-- What the check can do: nothing, or refuse the load that waits. -/
theorem State.checkLoad_cases (s : State) : s.checkLoad = s ∨ ∃ r, s.checkLoad = s.loadRefuse r := by
  unfold State.checkLoad
  split <;> [exact .inl rfl; split <;> [exact .inr ⟨3, rfl⟩; split <;> [exact .inr ⟨1, rfl⟩; exact .inl rfl]]]

theorem Only.checkLoad {ws : List Nat} {t : State} (h : Only ws s t) (ha : aTB_LOAD_CTRL ∈ ws := by decide) :
    Only ws s t.checkLoad := by
  rcases t.checkLoad_cases with e | ⟨r, e⟩ <;> rw [e] <;> [exact h; exact h.loadRefuse ha]

/-- The check changes words of the register store alone, and notes no event. -/
theorem State.checkLoad_eq (s : State) : s.checkLoad = { s with regs := s.checkLoad.regs } := by
  rcases s.checkLoad_cases with e | ⟨r, e⟩ <;> rw [e]
  rfl

theorem exec_syncInEdge_of_refused {r : Nat} (h : s.checkLoad = s.loadRefuse r) : exec .syncInEdge s = .next (s.loadRefuse r) := by
  change Host.Outcome.next (if s.checkLoad.loadWaits = true then _ else _) = _
  rw [h, State.loadWaits_loadRefuse, if_neg (by decide)]

theorem exec_syncInEdge_of_kept (h : s.checkLoad = s) :
    exec .syncInEdge s = .next (if s.loadWaits then s.doLoad.unflag fTB_LOAD_CTRL_GO else s) := by
  change Host.Outcome.next (if s.checkLoad.loadWaits = true then _ else _) = _
  rw [h]

end

/-- Settles O2: each command is the load (`State.doLoad`), a refusal (`LoadRefused`) or the arming, as the reason decides, and a SYNC_IN
edge follows the check of the load that waits (`State.checkLoad`). -/
theorem timebaseLoads : Obligations.TimebaseLoads := by
  unfold Obligations.TimebaseLoads
  have hr (s : State) : s.loadReason < 16 := lt_of_le_of_lt s.loadReason_le (by decide)
  refine ⟨?now, ?nowRefused, ?armed, ?armRefused, ?none, ?edge, ?edgeUnlocked, ?edgeActive, ?noLoad, fun _ => rfl⟩
  case now => exact fun s h => congrArg Host.Outcome.next (if_neg (not_not.mpr h))
  case nowRefused =>
    intro s h
    obtain ⟨hrf, hgo, ho, hg⟩ := LoadRefused.after_loadGo s 1 (hr (s.loadGo 1))
    refine ⟨_, congrArg Host.Outcome.next (if_pos h), hrf, hgo, ?_, ho, hg⟩
    simp (disch := decide) [State.loadRefuse, State.loadGo]
  case armed =>
    intro s h
    refine ⟨_, congrArg Host.Outcome.next (if_neg (not_not.mpr h)), State.get_flag_same _ (by decide), ?_, ?_,
      (Only.loadGo s 2).flag, .trans (.loadGo s 2) (.flag _ _ _)⟩ <;>
    simp (disch := decide) [State.loadGo, State.get_put_of_lt]
  case armRefused => exact fun s h => ⟨_, congrArg Host.Outcome.next (if_pos h), LoadRefused.after_loadGo s 2 (hr (s.loadGo 2))⟩
  case none => exact fun s mode3 => ⟨_, rfl, LoadRefused.after_loadGo s _ (by decide)⟩
  case edge =>
    intro s hw hu hq
    rw [exec_syncInEdge_of_kept (State.checkLoad_of_quiescent hu hq), hw, if_pos rfl]
  case edgeUnlocked =>
    exact fun s hw hu => ⟨_, exec_syncInEdge_of_refused (State.checkLoad_of_unlocked hw hu), LoadRefused.loadRefuse s (by decide)⟩
  case edgeActive =>
    exact fun s hw hu hq => ⟨_, exec_syncInEdge_of_refused (State.checkLoad_of_active hw hu hq), LoadRefused.loadRefuse s (by decide)⟩
  case noLoad =>
    intro s hw
    rw [exec_syncInEdge_of_kept (State.checkLoad_of_none hw), hw, if_neg (by decide)]

end Sys2Proof.Machine


/-! # Due-time commands: acceptance, commit and what falls due (chapter 01) -/

namespace Sys2Proof.Machine

/-! ### Acceptance (R47, R48, R51) -/

/-- The state in which a command accepted in wc `a` is judged: time has passed to `a` and the command has left its FIFO. -/
def State.accepted (s : State) (c : DueCmd) (a : Nat) : State :=
  let s := s.flowTo (wcs a)
  { s with hsf := s.hsf.erase c, stalled := s.stalled.erase c, sentAt := s.sentAt.eraseP (fun e => e.1 == c) }

theorem State.accepted_eq {s : State} (h : s.pins = []) (c : DueCmd) (a : Nat) :
    s.accepted c a = { s with now := (s.until_ (wcs a)).now, hsf := s.hsf.erase c, stalled := s.stalled.erase c,
                              sentAt := s.sentAt.eraseP (fun e => e.1 == c) } := by
  unfold State.accepted
  rw [State.flowTo_nil _ h, State.until_eq]

section
variable {s : State} {src : Fin 7} {c : DueCmd} (hc : s.hsf.find? (fun d => d.src == src.val) = some c)
include hc

/-- A command that finds room in the store and names no line is judged at its acceptance wc. -/
theorem exec_commandAccept_room (hr : s.store.length < 256) (hl : ∀ l, c.target ≠ .line l) : exec (.commandAccept src none) s =
    .next ((s.accepted c (s.acceptWc c)).acceptDue c (s.acceptWc c)).checkLoad := by
  change execCommandAccept src.val none s = _
  unfold execCommandAccept
  simp only [hc]
  rw [if_neg (not_le.mpr hr)]
  rfl

/-- A command that finds the store full stays, and is counted once. -/
theorem exec_commandAccept_full (hr : 256 ≤ s.store.length) : exec (.commandAccept src none) s =
    .next (if s.stalled.contains c then s else ({ s with stalled := s.stalled ++ [c] } : State).bump fHSF_STALL_STALLS src.val) := by
  change execCommandAccept src.val none s = _
  unfold execCommandAccept
  simp only [hc]
  rw [if_pos hr]

end

section
variable {s : State} {c : DueCmd} {a : Nat}

/-- A timely command of no group enters the store. -/
theorem State.acceptDue_timely (hg : isGroup c.target = false) (ht : 0 ≤ tDiff (tFloor c.due) (wcs (a + 64))) :
    s.acceptDue c a = { s with store := insertStored ⟨c, a, false, 0⟩ s.store } := by
  have hw : s.groupWord c = 0 := by
    unfold State.groupWord
    split
    · rename_i g h
      exact absurd ((congrArg isGroup h).symm.trans hg) (by simp [isGroup])
    · rfl
  unfold State.acceptDue
  rw [if_pos ht, if_neg (by simp [State.groupOff, hg]), hw]

/-- A late command under DROP that is no timed apply is recorded at its target and in the late record, and no more. -/
theorem State.acceptDue_dropped (ha : isApply c = false) (ht : tDiff (tFloor c.due) (wcs (a + 64)) < 0)
    (hp : ((s.lateAtTarget c.target).lateRecord c).latePol c.target = false) :
    s.acceptDue c a = (s.lateAtTarget c.target).lateRecord c := by
  unfold State.acceptDue
  rw [if_neg (not_le.mpr ht)]
  simp only [ha, Bool.false_eq_true, if_false, hp, false_and]

end

/-- Settles O3: acceptance (`exec_commandAccept_room`, `exec_commandAccept_full`) with the store's insertion
(`State.acceptDue_timely`). The acceptance wc of a crossing is log entry 10, the one count of a stalled command log entry 28. -/
theorem timelyCommand : Obligations.TimelyCommand := by
  unfold Obligations.TimelyCommand
  refine ⟨?timely, ?stalls, ?stalled, ?commit⟩
  case timely =>
    intro s src c hc hr hp hg hk ht
    have hl (l) : c.target ≠ .line l := fun h => by simp [h, isApply, outOf] at hk
    have ho : Only [aTB_LOAD_CTRL] s ({ s.accepted c (s.acceptWc c) with
        store := insertStored ⟨c, s.acceptWc c, false, 0⟩ (s.accepted c (s.acceptWc c)).store } : State).checkLoad :=
      Only.checkLoad (.of_regs (by rw [State.accepted_eq hp]))
    refine ⟨_, exec_commandAccept_room hc hr hl, ?_⟩
    rw [State.acceptDue_timely hg ht]
    rw [State.accepted_eq hp] at ho ⊢
    refine ⟨?_, ?_, ?_, ho, ?_⟩ <;> rw [State.checkLoad_eq]
  case stalls =>
    intro s src c hc hr hn
    rw [exec_commandAccept_full hc hr, hn, if_neg Bool.false_ne_true]
  case stalled =>
    intro s src c hc hr hn
    rw [exec_commandAccept_full hc hr, hn, if_pos rfl]
  case commit =>
    intro s c hc
    change execCommandCommit s = _
    unfold execCommandCommit
    simp only [hc]

/-! ### The late record (R52, R53, R110) -/

theorem RegsOnly.lateRecord (s : State) (c : DueCmd) : RegsOnly s (s.lateRecord c) := by
  unfold State.lateRecord
  refine .trans ?_ (.trans (.flag _ _ _) (.bump _ _ _ _))
  split <;> rfl

theorem Only.lateRecord {ws : List Nat} {s t : State} {c : DueCmd} (h : Only ws s t)
    (ha : ∀ a ∈ [aLEAD_STATUS, aLEAD_COUNT, aLEAD_FIRST_LO, aLEAD_FIRST_HI], a ∈ ws) : Only ws s (t.lateRecord c) := by
  have hs : aLEAD_STATUS ∈ ws := ha _ (by decide)
  have hf : Only ws s (if t.is fLEAD_STATUS_LATE then t
      else ((t.setWord aLEAD_FIRST_LO (tsLo c.due)).setWord aLEAD_FIRST_HI (tsHi c.due)).put fLEAD_STATUS_FIRST_SRC c.src) :=
    .ite h (((h.setWord (ha _ (by decide))).setWord (ha _ (by decide))).put hs)
  exact (hf.flag hs).bump (ha _ (by decide))

section
variable {s : State} (c : DueCmd)

theorem State.lateRecord_of_late (h : s.is fLEAD_STATUS_LATE = true) :
    s.lateRecord c = (s.flag fLEAD_STATUS_LATE).bump fLEAD_COUNT_LATE_COUNT := by
  simp only [State.lateRecord, h, if_true]

theorem State.lateRecord_of_clear (h : s.is fLEAD_STATUS_LATE = false) : s.lateRecord c =
    ((((s.setWord aLEAD_FIRST_LO (tsLo c.due)).setWord aLEAD_FIRST_HI (tsHi c.due)).put fLEAD_STATUS_FIRST_SRC c.src).flag
      fLEAD_STATUS_LATE).bump fLEAD_COUNT_LATE_COUNT := by
  simp only [State.lateRecord, h, Bool.false_eq_true, if_false]

theorem State.is_lateRecord_late (s : State) : (s.lateRecord c).is fLEAD_STATUS_LATE = true := by
  unfold State.lateRecord State.is
  simp (disch := decide)

theorem State.get_lateRecord_count (s : State) : (s.lateRecord c).get fLEAD_COUNT_LATE_COUNT =
    satU (fldWidth fLEAD_COUNT_LATE_COUNT) (s.get fLEAD_COUNT_LATE_COUNT + 1) := by
  cases h : s.is fLEAD_STATUS_LATE with
  | true => rw [State.lateRecord_of_late c h]; simp (disch := decide)
  | false => rw [State.lateRecord_of_clear c h]; simp (disch := decide)

/-- With LATE clear the record takes the command's due time and source. -/
theorem State.lateRecord_first (h : s.is fLEAD_STATUS_LATE = false) : (s.lateRecord c).word aLEAD_FIRST_LO = tsLo c.due ∧
    (s.lateRecord c).word aLEAD_FIRST_HI = tsHi c.due ∧ (s.lateRecord c).get fLEAD_STATUS_FIRST_SRC = c.src % 16 := by
  rw [State.lateRecord_of_clear c h]
  refine ⟨?_, ?_, ?_⟩
  · simp [State.word_bump, State.word_flag, State.word_put, State.word_setWord, fLEAD_COUNT_LATE_COUNT, fLEAD_STATUS_LATE,
      fLEAD_STATUS_FIRST_SRC, aLEAD_FIRST_LO, aLEAD_FIRST_HI, aLEAD_COUNT, aLEAD_STATUS]
  · simp [State.word_bump, State.word_flag, State.word_put, fLEAD_COUNT_LATE_COUNT, fLEAD_STATUS_LATE, fLEAD_STATUS_FIRST_SRC,
      aLEAD_FIRST_HI, aLEAD_COUNT, aLEAD_STATUS]
  · rw [State.get_bump_apart _ _ (by decide), State.get_flag_apart _ (by decide), State.get_put_same _ _ _ _ (by decide)]
    rfl

/-- With LATE set the record stays. -/
theorem State.lateRecord_later (h : s.is fLEAD_STATUS_LATE = true) :
    (s.lateRecord c).word aLEAD_FIRST_LO = s.word aLEAD_FIRST_LO ∧ (s.lateRecord c).word aLEAD_FIRST_HI = s.word aLEAD_FIRST_HI ∧
    (s.lateRecord c).get fLEAD_STATUS_FIRST_SRC = s.get fLEAD_STATUS_FIRST_SRC := by
  rw [State.lateRecord_of_late c h]
  have ho : Only [aLEAD_STATUS, aLEAD_COUNT] s ((s.flag fLEAD_STATUS_LATE).bump fLEAD_COUNT_LATE_COUNT) :=
    (Only.refl _ s).flag.bump
  exact ⟨ho _ (by decide), ho _ (by decide), by simp (disch := decide)⟩

end

/-! ### A late command to an edge channel -/

/-- A word at or above all of a list's is none of them. -/
theorem not_mem_of_lt {ws : List Nat} {a : Nat} (b : Nat) (h : ∀ x ∈ ws, x < b) (ha : b ≤ a) : a ∉ ws :=
  fun hm => absurd (h a hm) (not_lt.mpr ha)

/-- A word below all of a list's is none of them. -/
theorem not_mem_of_gt {ws : List Nat} {a : Nat} (b : Nat) (h : ∀ x ∈ ws, b ≤ x) (ha : a < b) : a ∉ ws :=
  fun hm => absurd (h a hm) (not_le.mpr ha)

theorem RegsOnly.lateAtTarget (s : State) (t : DueTarget) : RegsOnly s (s.lateAtTarget t) := by
  unfold State.lateAtTarget
  split
  · exact .trans (.flag _ _ _) (.bump _ _ _ _)
  · exact .trans (.flag _ _ _) (.bump _ _ _ _)
  · exact .flag _ _ _
  · exact .refl _

/-- What a late command to edge channel `n` leaves under DROP: its channel's flag and count, and the late record. -/
def State.lateChan (s : State) (c : DueCmd) (n : Fin 64) : State := (s.lateAtTarget (.chan n)).lateRecord c

section
variable (s : State) (c : DueCmd) {n : Fin 64}

theorem State.acceptDue_lateChan {a : Nat} (ht : c.target = .chan n) (ha : c.action = 1 ∨ c.action = 2)
    (hl : tDiff (tFloor c.due) (wcs (a + 64)) < 0) (hp : (s.lateChan c n).is fWARP_CH_CTRL_LATE_POL n.val = false) :
    s.acceptDue c a = s.lateChan c n := by
  have hk : isApply c = false := by
    simp only [isApply, ht]
    rcases ha with h | h <;> rw [h] <;> rfl
  rw [State.acceptDue_dropped hk hl (by rw [ht]; exact hp), ht]
  rfl

theorem RegsOnly.lateChan : RegsOnly s (s.lateChan c n) := (RegsOnly.lateAtTarget s _).trans (RegsOnly.lateRecord _ c)

theorem Only.lateAtChan : Only [aWARP_CH_STATUS + n.val, aWARP_CH_COUNT + n.val] s (s.lateAtTarget (.chan n)) :=
  Only.bump (f := fWARP_CH_COUNT_LATE) (Only.flag (f := fWARP_CH_STATUS_LATE) (.refl _ s) (List.mem_cons_self ..))
    (List.mem_cons_of_mem _ (List.mem_cons_self ..))

theorem Only.lateChan : Only [aLEAD_STATUS, aLEAD_COUNT, aLEAD_FIRST_LO, aLEAD_FIRST_HI, aWARP_CH_STATUS + n.val, aWARP_CH_COUNT + n.val]
    s (s.lateChan c n) :=
  ((Only.lateAtChan s).mono (by simp)).lateRecord (by simp)

/-- The words of the late record lie below the channels'. -/
theorem not_mem_chan {x : Nat} (hx : x < aWARP_CH_STATUS) : x ∉ [aWARP_CH_STATUS + n.val, aWARP_CH_COUNT + n.val] :=
  not_mem_of_gt aWARP_CH_STATUS (by simp [aWARP_CH_STATUS, aWARP_CH_COUNT, Nat.le_add_right_of_le]) hx

theorem not_mem_lead {x : Nat} (hx : aWARP_CH_CTRL ≤ x) :
    x ∉ [aLEAD_STATUS, aLEAD_COUNT, aLEAD_FIRST_LO, aLEAD_FIRST_HI, aTB_LOAD_CTRL] :=
  not_mem_of_lt aWARP_CH_CTRL (by decide) hx

theorem chan_status_ne_count : aWARP_CH_STATUS + n.val ≠ aWARP_CH_COUNT + n.val := by
  simp [aWARP_CH_STATUS, aWARP_CH_COUNT]

/-- The late record leaves the channel's words. -/
theorem Only.lateChan_record : Only [aLEAD_STATUS, aLEAD_COUNT, aLEAD_FIRST_LO, aLEAD_FIRST_HI, aTB_LOAD_CTRL]
    (s.lateAtTarget (.chan n)) (s.lateChan c n) := (Only.refl _ _).lateRecord (by decide)

theorem State.is_lateChan_chan : (s.lateChan c n).is fWARP_CH_STATUS_LATE n.val = true := by
  rw [(Only.lateChan_record s c).is (not_mem_lead (Nat.le_add_right_of_le (by decide)))]
  exact beq_iff_eq.mpr ((State.get_bump_apart _ _ (.inl chan_status_ne_count)).trans (State.get_flag_same _ (by decide)))

theorem State.get_lateChan_chan : (s.lateChan c n).get fWARP_CH_COUNT_LATE n.val =
    satU (fldWidth fWARP_CH_COUNT_LATE) (s.get fWARP_CH_COUNT_LATE n.val + 1) := by
  rw [(Only.lateChan_record s c).get (not_mem_lead (Nat.le_add_right_of_le (by decide)))]
  refine (State.get_bump_same _ (by decide) 1).trans ?_
  rw [State.get_flag_apart _ (.inl chan_status_ne_count.symm)]

theorem State.get_lateChan_count : (s.lateChan c n).get fLEAD_COUNT_LATE_COUNT =
    satU (fldWidth fLEAD_COUNT_LATE_COUNT) (s.get fLEAD_COUNT_LATE_COUNT + 1) := by
  unfold State.lateChan
  rw [State.get_lateRecord_count, (Only.lateAtChan s).get (not_mem_chan (by decide))]

theorem State.lateChan_first (h : s.is fLEAD_STATUS_LATE = false) : (s.lateChan c n).word aLEAD_FIRST_LO = tsLo c.due ∧
    (s.lateChan c n).word aLEAD_FIRST_HI = tsHi c.due ∧ (s.lateChan c n).get fLEAD_STATUS_FIRST_SRC = c.src % 16 :=
  State.lateRecord_first c (((Only.lateAtChan s).is (not_mem_chan (by decide))).trans h)

theorem State.lateChan_later (h : s.is fLEAD_STATUS_LATE = true) : (s.lateChan c n).word aLEAD_FIRST_LO = s.word aLEAD_FIRST_LO ∧
    (s.lateChan c n).word aLEAD_FIRST_HI = s.word aLEAD_FIRST_HI ∧
    (s.lateChan c n).get fLEAD_STATUS_FIRST_SRC = s.get fLEAD_STATUS_FIRST_SRC := by
  obtain ⟨hlo, hhi, hsrc⟩ := State.lateRecord_later c (((Only.lateAtChan (n := n) s).is (not_mem_chan (by decide))).trans h)
  exact ⟨hlo.trans (Only.lateAtChan s _ (not_mem_chan (by decide))), hhi.trans (Only.lateAtChan s _ (not_mem_chan (by decide))),
    hsrc.trans ((Only.lateAtChan s).get (not_mem_chan (by decide)))⟩

/-- A channel's LATE_POL lies below its status and count. -/
theorem State.is_lateChan_latePol : (s.lateChan c n).is fWARP_CH_CTRL_LATE_POL n.val = s.is fWARP_CH_CTRL_LATE_POL n.val := by
  rw [(Only.lateChan_record s c).is (not_mem_lead (Nat.le_add_right ..)), (Only.lateAtChan s).is (not_mem_chan ?_)]
  simp only [fWARP_CH_CTRL_LATE_POL, aWARP_CH_CTRL, aWARP_CH_STATUS]
  omega

end

/-- Settles O4: the command is dropped at its acceptance (`State.acceptDue_lateChan`), which sets the channel's flag and count and the
late record; the check of a waiting load follows. Its acceptance wc is log entry 10. -/
theorem lateCommand : Obligations.LateCommand := by
  unfold Obligations.LateCommand
  intro s src c n hc hr hp htgt hact hpol hlate
  set a := s.accepted c (s.acceptWc c) with ha
  have hregs : a.regs = s.regs := by rw [ha, State.accepted_eq hp]
  have hexec : exec (.commandAccept src none) s = .next (a.lateChan c n).checkLoad := by
    rw [exec_commandAccept_room hc hr (by simp [htgt]), ← ha, State.acceptDue_lateChan a c htgt hact hlate]
    rw [State.is_lateChan_latePol, State.is_congr hregs, hpol]
  have hload : Only [aTB_LOAD_CTRL] (a.lateChan c n) (a.lateChan c n).checkLoad := (Only.refl _ _).checkLoad
  have hchan {x : Nat} (hx : aWARP_CH_CTRL ≤ x) : x ∉ [aTB_LOAD_CTRL] := not_mem_of_lt aWARP_CH_CTRL (by decide) hx
  refine ⟨_, hexec, ?_, ?_, ?_, ?_, ?_, ?_, ?_, ?_, ?_⟩
  · rw [State.checkLoad_eq, RegsOnly.lateChan a c, ha, State.accepted_eq hp]
  · rw [State.checkLoad_eq, RegsOnly.lateChan a c, ha, State.accepted_eq hp]
  · exact (hload.is (by decide)).trans (State.is_lateRecord_late c _)
  · rw [hload.get (by decide), State.get_lateChan_count, State.get_congr hregs]
  · exact (hload.is (hchan (Nat.le_add_right_of_le (by decide)))).trans (State.is_lateChan_chan a c)
  · rw [hload.get (hchan (Nat.le_add_right_of_le (by decide))), State.get_lateChan_chan, State.get_congr hregs]
  · intro h
    rw [hload _ (by decide), hload _ (by decide), hload.get (by decide)]
    exact State.lateChan_first a c ((State.is_congr hregs ..).trans h)
  · intro h
    rw [hload _ (by decide), hload _ (by decide), hload.get (by decide), ← State.word_congr hregs, ← State.word_congr hregs,
      ← State.get_congr hregs]
    exact State.lateChan_later a c ((State.is_congr hregs ..).trans h)
  · exact ((Only.of_regs hregs).trans ((Only.lateChan a c).mono (by simp))).trans (hload.mono (by simp))

/-! ### What falls due (R49, R50, R55, R99, R100) -/

section
variable {s : State} {c : Stored} {rest : List Stored}

theorem State.popDue_eq (hp : s.pins = []) (c : Stored) :
    s.popDue c = { s with now := (s.until_ c.cmd.due).now, store := s.store.drop 1 } := by
  unfold State.popDue
  rw [State.flowTo_nil _ hp, State.until_eq]

/-- The head of the store, addressed to an output, with no timed apply of its wc to come first. -/
theorem State.dueAtOut_head {a o : Nat} (f : State → Nat → Nat → State) (hs : s.store = c :: rest) (ho : outOf c.cmd.target = some o)
    (ha : c.cmd.action = a) (hf : s.applyFirst c = false) : s.dueAtOut a f = .next (if (s.popDue c).unlocked then
      (s.popDue c).lockDrop c.cmd else if (s.popDue c).calAll then (s.popDue c).bump fCAL_DISCARD_DISCARD
      else f (s.popDue c) o c.cmd.due) := by
  unfold State.dueAtOut
  simp only [hs, ho]
  rw [if_neg (by simp [ha, hf])]

/-- Where WARP is on PLL_W without a retune and no ALL calibration runs, the head acts. -/
theorem State.dueAtOut_acts {a o : Nat} (f : State → Nat → Nat → State) (hs : s.store = c :: rest) (ho : outOf c.cmd.target = some o)
    (ha : c.cmd.action = a) (hf : s.applyFirst c = false) (hu : (s.popDue c).unlocked = false) (hc : (s.popDue c).calAll = false) :
    s.dueAtOut a f = .next (f (s.popDue c) o c.cmd.due) := by
  rw [State.dueAtOut_head f hs ho ha hf, hu, hc, if_neg Bool.false_ne_true, if_neg Bool.false_ne_true]

end

/-- A start or stop for a channel that meets the safe clock or a retune is counted and no more (R55). -/
theorem State.lockDrop_chan {c : DueCmd} {n : Fin 64} (s : State) (h : c.target = .chan n) :
    s.lockDrop c = (s.flag fLEAD_STATUS_LOCK_DROP).bump fLEAD_STATUS_LOCK_DROP_COUNT := by
  simp [State.lockDrop, State.tapplyOver, State.groupDiscard, isGroup, h]

theorem State.unlocked_congr {s t : State} (h : t.regs = s.regs) : t.unlocked = s.unlocked := by
  simp only [State.unlocked, State.safe, State.retuning, State.is_congr h, State.get_congr h]

/-- Settles O5: the head of the store acts or is dropped (`State.dueAtOut_head`), the timed applies follow `State.nextApply`, and the local
group apply its control word (R117, R502, R503). -/
theorem dueCommands : Obligations.DueCommands := by
  unfold Obligations.DueCommands
  refine ⟨?start, ?dropped, ?stop, ?notUsed, ?tapply, ?group, ?arm, ?armBusy, ?cancel⟩
  case start => exact fun s c rest o hs ho ha hf hu hc => State.dueAtOut_acts (fun s o t => s.startTrigger o t) hs ho ha hf hu hc
  case stop => exact fun s c rest o hs ho ha hf hu hc => State.dueAtOut_acts (fun s o t => s.stopOut o t none) hs ho ha hf hu hc
  case dropped =>
    intro s c rest n hs ht ha hf hp hu
    have hpop : s.popDue c = { s with now := (s.until_ c.cmd.due).now, store := rest } := by rw [State.popDue_eq hp, hs]; rfl
    have hexec : exec .trigger s =
        .next (((s.popDue c).flag fLEAD_STATUS_LOCK_DROP).bump fLEAD_STATUS_LOCK_DROP_COUNT) := by
      refine (State.dueAtOut_head _ hs (congrArg outOf ht) ha hf).trans ?_
      rw [if_pos ((State.unlocked_congr (by rw [hpop])).trans hu), State.lockDrop_chan _ ht]
    have hregs : RegsOnly (s.popDue c) (((s.popDue c).flag fLEAD_STATUS_LOCK_DROP).bump fLEAD_STATUS_LOCK_DROP_COUNT) :=
      .trans (.flag _ _ _) (.bump _ _ _ _)
    have hpopRegs : (s.popDue c).regs = s.regs := by rw [hpop]
    refine ⟨_, hexec, ?_, ?_, ?_, (((Only.refl _ s).rest hpopRegs).flag).bump, ?_⟩
    · rw [hregs, hpop]
    · simp (disch := decide) [State.is]
    · simp (disch := decide) [State.get_congr hpopRegs]
    · rw [hregs, hpop]
  case notUsed =>
    intro s c rest n hs ht ha hu hc
    change execActionNotUsed s = _
    unfold execActionNotUsed
    have ho : outOf c.cmd.target = some n.val := congrArg outOf ht
    simp only [hs, ho]
    rw [if_neg (by omega), hu, hc, if_neg Bool.false_ne_true, if_neg Bool.false_ne_true]
    exact congrArg Host.Outcome.next (if_pos n.isLt)
  case tapply =>
    intro s c hn hg hu
    change execTapply s = _
    unfold execTapply
    simp only [hn]
    rw [hg, if_neg Bool.false_ne_true, hu, if_neg Bool.false_ne_true]
  case group =>
    intro s c g hn ht hsrc hu
    have hg : isGroup c.cmd.target = true := by rw [ht]; rfl
    refine ⟨_, ?_, ?_, ?_, rfl⟩
    · change execGroupTapply s = _
      unfold execGroupTapply
      simp only [hn]
      rw [hg, if_neg (not_not.mpr rfl), hu, if_neg Bool.false_ne_true, if_pos hsrc]
    · simp (disch := decide)
    · simp (disch := decide)
  case arm =>
    intro s g hp
    have hput : (s.put fGROUP_TAPPLY_CTRL_GROUP g.val).is fGROUP_TAPPLY_CTRL_PENDING = false := by
      simpa (disch := decide) [State.is] using hp
    change execGroupTapplyArm g s = _
    unfold execGroupTapplyArm
    dsimp only
    rw [hput, if_neg Bool.false_ne_true, State.word_put_ne _ _ _ (by decide), State.word_put_ne _ _ _ (by decide)]
  case armBusy =>
    intro s g hp
    have hput : (s.put fGROUP_TAPPLY_CTRL_GROUP g.val).is fGROUP_TAPPLY_CTRL_PENDING = true := by
      simpa (disch := decide) [State.is] using hp
    exact if_pos hput
  case cancel =>
    intro s s' h
    change execGroupTapplyCancel s = _
    unfold execGroupTapplyCancel
    simp only [h]

end Sys2Proof.Machine


/-! # The warp clock's trim, its losses of lock and phase steps, and the mt tick (chapters 01 and 02) -/

namespace Sys2Proof.Machine

/-! ### Trim (R84, R85) -/

/-- Bringing the sum of trims up to the present changes the clock's own counts alone. -/
theorem State.trimTo_eq (s : State) : s.trimTo = { s with clk := s.trimTo.clk } := by
  unfold State.trimTo
  split <;> rfl

@[simp] theorem State.trimTo_regs (s : State) : s.trimTo.regs = s.regs := by rw [State.trimTo_eq]

theorem Only.trimTo {ws : List Nat} {s t : State} (h : Only ws s t) : Only ws s t.trimTo := h.rest t.trimTo_regs

theorem Only.rampStart {ws : List Nat} {s t : State} {z : Int} (h : Only ws s t) (ha : aPLLW_TRIM_NOW ∈ ws := by decide) :
    Only ws s (t.rampStart z) := by
  have hr : Only ws s ({ t.trimTo with clk := { t.trimTo.clk with rampAt := t.trimTo.now, rampFrom := z } } : State) := h.trimTo.rest
  exact .ite ((hr.unflag ha).putSat ha) (hr.flag ha)

theorem State.trim_bounds (s : State) : -2 ^ 23 ≤ s.trim ∧ s.trim < 2 ^ 23 := sgn_bounds (wd := 24) (by decide) _

theorem State.trim_of_only {ws : List Nat} {s t : State} (h : Only ws s t) (ha : aPLLW_TRIM ∉ ws) : t.trim = s.trim :=
  congrArg (sgn _) (h.get ha)

/-- A value of TRIM cut to its range. -/
def clampTrim (z : Int) : Int := max (-5000000) (min 5000000 z)

theorem clampTrim_satS (z : Int) : clampTrim (satS 24 z) = clampTrim z := by
  have h : ((2 ^ (24 - 1) : Nat) : Int) = 8388608 := by norm_num
  unfold clampTrim satS
  rw [h]
  omega

/-- TRIM takes the value cut to its range, a cut one sets TRIM_CLAMP, and of what follows only PLLW_TRIM_NOW shows. -/
theorem State.takeTrim_stores (s : State) (z : Int) : ∃ u : State, u.regs = s.regs ∧ Only [aPLLW_TRIM_NOW]
    ((if clampTrim z = z then u else u.flag fCLK_STATUS_TRIM_CLAMP).putSat fPLLW_TRIM_TRIM (clampTrim z)) (s.takeTrim z) :=
  ⟨s.trimTo, s.trimTo_regs, .ite (Only.refl _ _).unflag.putSat (Only.refl _ _).rampStart⟩

theorem State.trim_takeTrim (s : State) (z : Int) : (s.takeTrim z).trim = clampTrim z := by
  obtain ⟨u, -, ho⟩ := s.takeTrim_stores z
  rw [State.trim_of_only ho (by decide)]
  refine (State.geti_putSat_same _ _ 0 (by decide)).trans (satS_of_bounds ?_ ?_) <;>
  · simp only [clampTrim, show fldWidth fPLLW_TRIM_TRIM = 24 from rfl]
    norm_num

theorem State.is_takeTrim_clamp (s : State) {z : Int} (h : clampTrim z ≠ z) : (s.takeTrim z).is fCLK_STATUS_TRIM_CLAMP = true := by
  obtain ⟨u, -, ho⟩ := s.takeTrim_stores z
  rw [ho.is (by decide), if_neg h]
  simp (disch := decide) [State.is]

theorem exec_trimWrite_taken {s : State} (h : s.servoOwns = false) (z : Int) :
    exec (.trimWrite z) s = .next (s.takeTrim (satS 24 z)) := by
  change Host.Outcome.next (if s.servoOwns = true then _ else _) = _
  rw [h, if_neg Bool.false_ne_true]

/-- A ramp ends at some instant, up to which the events ahead take place. -/
theorem exec_trimRampDone {s : State} (h : s.is fPLLW_TRIM_NOW_RAMP = true) : ∃ i, exec .trimRampDone s =
    .next (((s.flowTo i).trimTo.unflag fPLLW_TRIM_NOW_RAMP).putSat fPLLW_TRIM_NOW_TRIM_NOW (s.flowTo i).trimTo.trim) :=
  ⟨_, if_neg (not_not.mpr h)⟩

/-! ### Loss of lock (R88, R89, R93) -/

/-- On the safe clock: what a loss of lock leaves apart from STATE, the clock's own counts being `ck`. -/
def State.lockLossSafe (s : State) (ck : ClkSt) : State := { (s.unflag fCLK_STATUS_PLLW_LOCK).lockLossCount with clk := ck }

theorem State.safe_unflag_lock (s : State) : (s.unflag fCLK_STATUS_PLLW_LOCK).safe = s.safe := by
  simp (disch := decide) [State.safe, State.is]

theorem State.lockLoss_of_safe {s : State} (h : s.safe = true) : ∃ ck, s.lockLoss =
    if s.get fCLK_RETUNE_STATE = 4 then (s.lockLossSafe ck).put fCLK_RETUNE_STATE 3 else s.lockLossSafe ck :=
  ⟨_, if_pos (s.safe_unflag_lock.trans h)⟩

theorem State.get_lockLoss_of_pllw {s : State} (h : s.safe = false) :
    s.lockLoss.get fCLK_RETUNE_STATE = if s.get fCLK_RETUNE_STATE = 1 then 2 else 7 := by
  unfold State.lockLoss
  dsimp only
  rw [s.safe_unflag_lock, h, if_neg Bool.false_ne_true, (Only.refl [aTB_LOAD_CTRL] _).checkLoad.get (by decide)]
  exact State.get_put_of_lt _ (by decide) (by split <;> decide)

section
variable (s : State) (ck : ClkSt)

theorem State.lockLossSafe_regs :
    (s.lockLossSafe ck).regs = ((s.unflag fCLK_STATUS_PLLW_LOCK).bump fCLK_COUNT_LOCK_LOSS).regs := rfl

theorem Only.lockLossSafe : Only [aCLK_STATUS, aCLK_COUNT, aCLK_RETUNE] s (s.lockLossSafe ck) :=
  (Only.refl _ s).unflag.bump.rest (s.lockLossSafe_regs ck)

theorem State.get_lockLossSafe_lock : (s.lockLossSafe ck).get fCLK_STATUS_PLLW_LOCK = 0 := by
  rw [State.get_congr (s.lockLossSafe_regs ck)]
  simp (disch := decide)

theorem State.get_lockLossSafe_count : (s.lockLossSafe ck).get fCLK_COUNT_LOCK_LOSS =
    satU (fldWidth fCLK_COUNT_LOCK_LOSS) (s.get fCLK_COUNT_LOCK_LOSS + 1) := by
  rw [State.get_congr (s.lockLossSafe_regs ck)]
  simp (disch := decide)

theorem State.get_lockLossSafe_state : (s.lockLossSafe ck).get fCLK_RETUNE_STATE = s.get fCLK_RETUNE_STATE := by
  rw [State.get_congr (s.lockLossSafe_regs ck)]
  simp (disch := decide)

theorem State.detected_lockLossSafe : (s.lockLossSafe ck).detected.length = s.detected.length + 1 := by
  simp [State.lockLossSafe, State.lockLossCount, State.report, State.detect]

end

/-! ### The phase watch (R92, R272) -/

/-- A flagged step before its report: STEP keeps the first difference, PHASE_STEP is set and PHASE_STEPS counts. -/
def State.phaseNoted (s : State) (d : Int) : State :=
  ((if s.is fCLK_STATUS_PHASE_STEP then s else s.putSat fCLK_PHASE_WATCH_STEP d).flag fCLK_STATUS_PHASE_STEP).bump
    fCLK_COUNT_PHASE_STEPS

section
variable (s : State) (d : Int)

theorem Only.phaseNoted : Only [aCLK_STATUS, aCLK_COUNT, aCLK_PHASE_WATCH] s (s.phaseNoted d) :=
  (Only.ite (.refl _ s) (Only.refl _ s).putSat).flag.bump

theorem RegsOnly.phaseNoted : RegsOnly s (s.phaseNoted d) := by
  refine .trans ?_ (.trans (.flag _ _ _) (.bump _ _ _ _))
  split <;> rfl

theorem State.is_phaseNoted_step : (s.phaseNoted d).is fCLK_STATUS_PHASE_STEP = true := by
  simp (disch := decide) [State.is, State.phaseNoted]

theorem State.get_phaseNoted_count : (s.phaseNoted d).get fCLK_COUNT_PHASE_STEPS =
    satU (fldWidth fCLK_COUNT_PHASE_STEPS) (s.get fCLK_COUNT_PHASE_STEPS + 1) := by
  unfold State.phaseNoted
  rw [State.get_bump_same _ (by decide), State.get_flag_apart _ (by decide)]
  split <;> simp (disch := decide)

theorem State.is_phaseNoted_action : (s.phaseNoted d).is fCLK_PHASE_WATCH_PS_ACTION = s.is fCLK_PHASE_WATCH_PS_ACTION := by
  unfold State.is State.phaseNoted
  rw [State.get_bump_apart _ _ (by decide), State.get_flag_apart _ (by decide)]
  split <;> simp (disch := decide)

variable {s}

theorem State.geti_phaseNoted (h : s.is fCLK_STATUS_PHASE_STEP = false) :
    (s.phaseNoted d).geti fCLK_PHASE_WATCH_STEP = satS (fldWidth fCLK_PHASE_WATCH_STEP) d := by
  have hn : s.phaseNoted d = ((s.putSat fCLK_PHASE_WATCH_STEP d).flag fCLK_STATUS_PHASE_STEP).bump fCLK_COUNT_PHASE_STEPS := by
    simp only [State.phaseNoted, h, Bool.false_eq_true, if_false]
  rw [hn, ← State.geti_putSat_same s d 0 (by decide)]
  unfold State.geti
  rw [State.get_bump_apart _ _ (by decide), State.get_flag_apart _ (by decide)]

theorem State.word_phaseNoted (h : s.is fCLK_STATUS_PHASE_STEP = true) :
    (s.phaseNoted d).word aCLK_PHASE_WATCH = s.word aCLK_PHASE_WATCH := by
  have hn : s.phaseNoted d = (s.flag fCLK_STATUS_PHASE_STEP).bump fCLK_COUNT_PHASE_STEPS := by simp only [State.phaseNoted, h, if_true]
  have ho : Only [aCLK_STATUS, aCLK_COUNT] s (s.phaseNoted d) := hn ▸ (Only.refl _ s).flag.bump
  exact ho _ (by decide)

end

/-- A flagged step noted and reported at instant `t`. -/
def State.phaseReported (s : State) (d : Int) (t : Nat) : State :=
  let s := s.phaseNoted d
  { s with clk := { s.clk with stepAt := some t } }.detect 1 0 1 (enc 14 (satS 14 d)) false s.nowT

theorem State.phaseReported_regs (s : State) (d : Int) (t : Nat) : (s.phaseReported d t).regs = (s.phaseNoted d).regs := rfl

theorem State.detected_phaseReported (s : State) (d : Int) (t : Nat) :
    (s.phaseReported d t).detected.length = s.detected.length + 1 := by
  have h : (s.phaseNoted d).detected = s.detected := by rw [RegsOnly.phaseNoted s d]
  simp [State.phaseReported, State.detect, h]

/-- With PS_ACTION 0 a flagged step is noted and reported, and no more. -/
theorem State.phaseFlag_of_quiet {s : State} (d : Int) (t : Nat) (h : s.is fCLK_PHASE_WATCH_PS_ACTION = false) :
    s.phaseFlag d t = s.phaseReported d t :=
  if_neg (ne_true_of_eq_false ((State.is_congr (s.phaseReported_regs d t) _ _).trans ((s.is_phaseNoted_action d).trans h)))

/-! ### The first lock (R20, R31) -/

theorem exec_pllwFirstLock_again {s : State} (h : s.clk.lockedOnce = true) : exec .pllwFirstLock s = .next s := if_pos (.inl h)

/-- Settles O9: trims by `State.takeTrim_stores`, a loss of lock by `State.lockLoss_of_safe` and `State.get_lockLoss_of_pllw`, a phase step
by `State.phaseFlag_of_quiet`. That detection and switch are one step is log entry 13, STATE kept in REVERT and HELD log entry 100. -/
theorem trimAndLock : Obligations.TrimAndLock := by
  unfold Obligations.TrimAndLock
  refine ⟨?owned, ?taken, ?high, ?low, ?ramp, ?lossSafe, ?loss, ?step, ?first, fun s h => exec_pllwFirstLock_again h⟩
  case owned => exact fun s z h => congrArg Host.Outcome.next (if_pos h)
  case taken =>
    intro s z h hz
    refine ⟨_, exec_trimWrite_taken h z, ?_⟩
    rw [State.trim_takeTrim, clampTrim_satS, clampTrim]
    omega
  case high =>
    intro s z h hz
    have hc : clampTrim (satS 24 z) = 5000000 := by rw [clampTrim_satS, clampTrim]; omega
    refine ⟨_, exec_trimWrite_taken h z, (State.trim_takeTrim _ _).trans hc, State.is_takeTrim_clamp s ?_⟩
    rw [hc]
    norm_num [satS]
    omega
  case low =>
    intro s z h hz
    have hc : clampTrim (satS 24 z) = -5000000 := by rw [clampTrim_satS, clampTrim]; omega
    refine ⟨_, exec_trimWrite_taken h z, (State.trim_takeTrim _ _).trans hc, State.is_takeTrim_clamp s ?_⟩
    rw [hc]
    norm_num [satS]
    omega
  case ramp =>
    intro s hr hp
    obtain ⟨i, hexec⟩ := exec_trimRampDone hr
    rw [State.flowTo_nil _ hp] at hexec
    refine ⟨_, hexec, ?_, ?_, ((Only.refl _ s).until_.trimTo.unflag).putSat, ?_⟩
    · simp (disch := decide)
    · rw [State.geti_putSat_same _ _ 0 (by decide), State.trim_of_only ((Only.refl [] s).until_.trimTo) List.not_mem_nil]
      exact satS_of_bounds s.trim_bounds.1 s.trim_bounds.2
    · rw [State.trimTo_eq, State.until_eq]
      rfl
  case lossSafe =>
    intro s h
    obtain ⟨ck, hl⟩ := State.lockLoss_of_safe h
    refine ⟨_, congrArg Host.Outcome.next hl, ?_, ?_, ?_, ?_, .ite (Only.lockLossSafe s ck).put (Only.lockLossSafe s ck)⟩ <;> split
    · exact (State.get_put_apart _ _ (by decide)).trans (s.get_lockLossSafe_lock ck)
    · exact s.get_lockLossSafe_lock ck
    · exact (State.get_put_apart _ _ (by decide)).trans (s.get_lockLossSafe_count ck)
    · exact s.get_lockLossSafe_count ck
    · exact s.detected_lockLossSafe ck
    · exact s.detected_lockLossSafe ck
    · exact State.get_put_of_lt _ (by decide) (by decide)
    · exact s.get_lockLossSafe_state ck
  case loss => exact fun s h => ⟨_, rfl, State.get_lockLoss_of_pllw h⟩
  case step =>
    intro s stamps hn hw hd ha hp
    have hexec : exec (.phaseStep stamps) s = .next ((s.flowTo (stamps.getLastD 0)).phaseFlag (s.watchDiff stamps + 1 / 2).floor
        (stamps.getLastD 0)) := if_neg (not_or.mpr ⟨not_not.mpr hn,
          not_or.mpr ⟨ne_false_of_eq_true hw, ne_false_of_eq_true hd⟩⟩)
    have hur : (s.until_ (stamps.getLastD 0)).regs = s.regs := State.until_regs ..
    have hud : (s.until_ (stamps.getLastD 0)).detected = s.detected := State.until_detected ..
    rw [State.flowTo_nil _ hp, State.phaseFlag_of_quiet _ _ ((State.is_congr hur _ _).trans ha)] at hexec
    generalize s.until_ (stamps.getLastD 0) = u at hexec hur hud
    have hr := State.phaseReported_regs u (s.watchDiff stamps + 1 / 2).floor (stamps.getLastD 0)
    refine ⟨_, hexec, ?_, ?_, fun h => ?_, fun h => ?_, ?_, ?_⟩
    · exact (State.is_congr hr _ _).trans (u.is_phaseNoted_step _)
    · rw [State.get_congr hr, State.get_phaseNoted_count, State.get_congr hur]
    · exact (congrArg (sgn _) (State.get_congr hr _ _)).trans (State.geti_phaseNoted _ ((State.is_congr hur _ _).trans h))
    · rw [State.word_congr hr, State.word_phaseNoted _ ((State.is_congr hur _ _).trans h), State.word_congr hur]
    · rw [State.detected_phaseReported, hud]
    · exact ((Only.of_regs hur).trans (Only.phaseNoted u _)).rest hr
  case first =>
    intro s hl hg
    refine ⟨_, if_neg (by simp [hl, hg]), rfl, rfl, rfl, rfl, ?_, ((Only.refl _ s).rest.put).put.put⟩
    simp (disch := decide) [State.keeperShow, State.get_put_same]

/-! ### The mt tick (R28, R31, R33, R35, R67) -/

theorem Only.slip {ws : List Nat} {s t : State} (h : Only ws s t) (ha : aKEEPER_STATUS ∈ ws := by decide) : Only ws s t.slip :=
  ((h.flag ha).bump ha).rest

theorem State.slip_clk (s : State) : s.slip.clk = s.clk := by simp [State.slip, State.report]

/-- The state with the tick counted in TB_MT_COUNT. -/
def State.mtCounted (s : State) : State := s.put fTB_MT_COUNT_MT_COUNT ((s.get fTB_MT_COUNT_MT_COUNT + 1) % 2 ^ 36)

/-- The counted tick stamped after the events up to its stamp, the clock's own counts being `ck`. -/
def State.mtStamped (s : State) (stamp : Nat) (ck : ClkSt) : State := { (s.mtCounted.flowTo stamp).trimTo with clk := ck }

section
variable {s : State} (stamp : Nat)

/-- Before the first lock of PLL_W the keeper's part counts alone. -/
theorem State.keeperMt_of_unlocked (h : s.clk.lockedOnce = false) : s.keeperMt stamp = s.mtCounted :=
  if_pos (ne_true_of_eq_false h)

/-- After it the tick is stamped, and a slip is reported or not. -/
theorem State.keeperMt_of_locked (h : s.clk.lockedOnce = true) : ∃ (ck : ClkSt) (bad : Bool),
    s.keeperMt stamp = (if bad then (s.mtStamped stamp ck).slip else s.mtStamped stamp ck) ∧ ck.stamp = stamp % tMod :=
  ⟨_, _, if_neg (not_not.mpr h), rfl⟩

theorem State.stamp_keeperMt (h : s.clk.lockedOnce = true) : (s.keeperMt stamp).clk.stamp = stamp % tMod := by
  obtain ⟨ck, bad, hk, hs⟩ := State.keeperMt_of_locked stamp h
  rw [hk, ← hs]
  split
  · rw [State.slip_clk]
    rfl
  · rfl

/-- Beside its count the keeper's part stores only KEEPER_STATUS, where no event lies ahead. -/
theorem Only.keeperMt (hp : s.pins = []) : Only [aKEEPER_STATUS] s.mtCounted (s.keeperMt stamp) := by
  cases h : s.clk.lockedOnce with
  | false => exact State.keeperMt_of_unlocked stamp h ▸ .refl _ _
  | true =>
    obtain ⟨ck, bad, hk, -⟩ := State.keeperMt_of_locked stamp h
    have hc : s.mtCounted.pins = [] := hp
    have ho : Only [aKEEPER_STATUS] s.mtCounted (s.mtStamped stamp ck) := (Only.flowTo (.refl _ s.mtCounted) hc).trimTo.rest
    exact hk ▸ .ite ho.slip ho

theorem State.get_keeperMt_count (hp : s.pins = []) :
    (s.keeperMt stamp).get fTB_MT_COUNT_MT_COUNT = (s.get fTB_MT_COUNT_MT_COUNT + 1) % 2 ^ 36 :=
  ((Only.keeperMt stamp hp).get (by decide)).trans (State.get_put_of_lt s (by decide) (Nat.mod_lt _ (by decide)))

end

theorem State.qualCount_setQualCount (s : State) (b : Bool) (n : Nat) : (s.setQualCount b n).qualCount b = n := by
  cases b <;> rfl

/-- The measured length is judged by KEEPER_MT_LEN and QUAL_PPM. -/
theorem State.ppmOk_of_only {s t : State} (h : Only [aCLK_REF_STATUS] s t) (f : Nat) : t.ppmOk f = s.ppmOk f := by
  have hl : t.mtLen = s.mtLen := congrArg BitVec.toNat (h _ (by decide))
  simp only [State.ppmOk, hl, h.get (f := fCLK_REF_CFG_QUAL_PPM) (o := 0) (by decide)]

/-- A reference with edges in the mt, inside QUAL_PPM and not gated off, counts a qualifying mt, or 0 after a loss of its activity. -/
theorem State.qualCount_refMt {s : State} {b : Bool} {f : Nat} (hf : f ≠ 0) (hp : s.ppmOk f = true) (hg : s.refGated b = false) :
    (s.refMt b f).qualCount b = if (if b then s.clk.lossB else s.clk.lossA) = true then 0 else s.qualCount b + 1 := by
  set act := if b then fCLK_REF_STATUS_B_ACT else fCLK_REF_STATUS_A_ACT with ha
  have hact : (s.put act 1).is act = true := by
    rw [ha]
    cases b <;> exact beq_iff_eq.mpr (State.get_put_of_lt s (by decide) (by decide))
  have hppm : (s.put act 1).ppmOk f = true := by
    rw [State.ppmOk_of_only ((Only.refl _ s).put (by rw [ha]; cases b <;> decide)), hp]
  unfold State.refMt
  simp only [hg, Bool.false_eq_true, if_false, if_neg hf]
  refine (congrArg (State.qualCount · b) (if_pos ⟨hact, hppm⟩)).trans ((State.qualCount_setQualCount _ _ _).trans ?_)
  cases b <;> rfl

/-- Settles O10: the order is that of `execMtTick`, the keeper's part `State.keeperMt_of_locked`, the references' `State.qualCount_refMt`. The
order of the once-per-mt parts is the model's own, and a count that a loss starts afresh log entry 18. -/
theorem mtTick : Obligations.MtTick := by
  unfold Obligations.MtTick
  refine ⟨?order, fun s stamp h => State.get_keeperMt_count stamp h, fun s stamp h => State.stamp_keeperMt stamp h,
    fun s b f hf hp hg => State.qualCount_refMt hf hp hg⟩
  rintro s obs u rfl
  rfl

end Sys2Proof.Machine


/-! # The clock's words and counts under the events ahead, and under the ends of a retune's start (chapter 02)

`ClockKept s t` says that `t` follows `s` with the clock's words up to CLK_RETUNE and its own counts as they were. As with `Keeps`, each
function that a line event, the start of a retune or the end of Reed's crossings runs through has one lemma, of its name, that follows
the function's text. -/

namespace Sys2Proof.Machine

-- one thread: the lemmas are many and small
set_option Elab.async false

/-- `t` follows `s` with the words from CLK_REF_CFG to CLK_RETUNE (references, plans, trim and retune) and the clock's own counts as
they were. -/
structure ClockKept (s t : State) : Prop where
  word : ∀ a, aCLK_REF_CFG ≤ a → a ≤ aCLK_RETUNE → t.word a = s.word a
  clk : t.clk = s.clk

variable {s t u : State}

/-! ### How steps are put together -/

theorem ClockKept.refl (s : State) : ClockKept s s := ⟨fun _ _ _ => rfl, rfl⟩

theorem ClockKept.get (h : ClockKept s t) {f : Fld} {o : Nat} (hl : aCLK_REF_CFG ≤ f.base + o := by decide)
    (hu : f.base + o ≤ aCLK_RETUNE := by decide) : t.get f o = s.get f o :=
  congrArg f.get (h.word _ hl hu)

theorem ClockKept.ite {c : Prop} {_ : Decidable c} (ht : ClockKept s t) (hu : ClockKept s u) : ClockKept s (if c then t else u) := by
  split <;> assumption

/-- A step taken where a condition holds. -/
theorem ClockKept.when {c : Prop} {_ : Decidable c} (h : ClockKept s t) (k : ClockKept s t → ClockKept s u) :
    ClockKept s (if c then u else t) :=
  (k h).ite h

/-- A step taken where a condition does not hold. -/
theorem ClockKept.unless {c : Prop} {_ : Decidable c} (h : ClockKept s t) (k : ClockKept s t → ClockKept s u) :
    ClockKept s (if c then t else u) :=
  h.ite (k h)

theorem ClockKept.foldl {α : Type} {l : List α} {f : State → α → State} (h : ClockKept s t)
    (hf : ∀ {u x}, x ∈ l → ClockKept s u → ClockKept s (f u x)) : ClockKept s (l.foldl f t) := by
  induction l generalizing t with
  | nil => exact h
  | cons x l ih => exact ih (hf List.mem_cons_self h) fun hx => hf (List.mem_cons_of_mem _ hx)

theorem ClockKept.forN {n : Nat} {f : State → Nat → State} (h : ClockKept s t) (hf : ∀ {u i}, ClockKept s u → ClockKept s (f u i)) :
    ClockKept s (t.forN n f) := h.foldl fun _ => hf

/-- A state with the same registers and the same counts of the clock. -/
theorem ClockKept.rest (h : ClockKept s t) (hr : u.regs = t.regs := by rfl) (hc : u.clk = t.clk := by rfl) : ClockKept s u :=
  ⟨fun a hl hu => (State.word_congr hr a).trans (h.word a hl hu), hc.trans h.clk⟩

/-! ### Words, fields, time and free values -/

theorem ClockKept.setWord {a : Nat} {w : Word} (h : ClockKept s t) (ha : a < aCLK_REF_CFG ∨ aCLK_RETUNE < a) :
    ClockKept s (t.setWord a w) :=
  ⟨fun b hl hu => (State.word_setWord_ne t w (by omega)).trans (h.word b hl hu), h.clk⟩

section
variable (h : ClockKept s t) {f : Fld} {o : Nat}
include h

theorem ClockKept.put {v : Nat} (hf : aCLK_RETUNE < f.base := by decide) : ClockKept s (t.put f v o) :=
  h.setWord (.inr (Nat.lt_add_right o hf))

/-- A field stored in a word before the clock's. -/
theorem ClockKept.putLow {v : Nat} (ho : f.base + o < aCLK_REF_CFG := by decide) : ClockKept s (t.put f v o) := h.setWord (.inl ho)

theorem ClockKept.unflag (hf : aCLK_RETUNE < f.base := by decide) : ClockKept s (t.unflag f o) := h.put hf

theorem ClockKept.noteEvt {g : Nat → Nat} : ClockKept s (t.noteEvt f o g) :=
  h.rest (State.noteEvt_regs ..) (State.noteEvt_clk ..)

theorem ClockKept.flag (hf : aCLK_RETUNE < f.base := by decide) : ClockKept s (t.flag f o) := h.noteEvt.put hf
theorem ClockKept.bump {n : Nat} (hf : aCLK_RETUNE < f.base := by decide) : ClockKept s (t.bump f o n) := h.noteEvt.put hf

theorem ClockKept.putBit {i : Nat} {b : Bool} (hf : aCLK_RETUNE < f.base := by decide) : ClockKept s (t.putBit f i b o) :=
  (h.when (·.noteEvt)).put hf

theorem ClockKept.putBitLow {i : Nat} {b : Bool} (ho : f.base + o < aCLK_REF_CFG := by decide) : ClockKept s (t.putBit f i b o) :=
  (h.when (·.noteEvt)).putLow ho

theorem ClockKept.free : ClockKept s t.free.2 := h.rest
theorem ClockKept.until_ {i : Nat} : ClockKept s (t.until_ i) := h.rest (State.until_regs ..) (State.until_clk ..)

theorem ClockKept.applyWord {a : Nat} (ha : aCLK_RETUNE < a) : ClockKept s (t.applyWord a) := by
  unfold State.applyWord
  split
  · exact h
  · exact h.setWord (.inr ha)
  · split
    · exact h
    · exact (ClockKept.setWord h (.inr ha)).rest

theorem ClockKept.applyWords {as : List Nat} (ha : ∀ a ∈ as, aCLK_RETUNE < a) : ClockKept s (t.applyWords as) :=
  h.foldl fun hx hu => hu.applyWord (ha _ hx)

theorem ClockKept.unstage {a : Nat} (ha : aCLK_RETUNE < a) : ClockKept s (t.unstage a) :=
  (ClockKept.setWord h (.inr ha)).rest

end

/-! ### Queues of Bolt -/

section
variable (h : ClockKept s t) {q : Nat}
include h

theorem ClockKept.setQueue {x : BQueue} : ClockKept s (t.setQueue q x) := h.rest
theorem ClockKept.trackLow : ClockKept s t.trackLow := h.when (·.put)
theorem ClockKept.rewind {ign : Ignore} : ClockKept s (t.rewind q ign) := h.setQueue

theorem ClockKept.placeWord {w : Word} {sop eop bad : Bool} : ClockKept s (t.placeWord q w sop eop bad) :=
  .ite h.rewind.flag.bump <| .ite h.rewind.flag.bump <| .ite h.setQueue.trackLow <| .ite h.rewind.flag.bump h.free.setQueue.trackLow

theorem ClockKept.queueWord {w : Word} {sop eop bad : Bool} : ClockKept s (t.queueWord q w sop eop bad) :=
  .ite (h.when (·.rewind.flag.bump)).setQueue.placeWord <|
  .ite h.placeWord (by split; exacts [(h.when (·.setQueue)).flag, h.when (·.setQueue), h.flag.bump])

end

theorem ClockKept.writeWords {ws : List Word} {q : Nat} {first : Bool} (h : ClockKept s t) : ClockKept s (t.writeWords q first ws) := by
  induction ws generalizing t first with
  | nil => exact h
  | cons w ws ih => exact ih h.queueWord

theorem ClockKept.packet? (h : ClockKept s t) {q : Option Nat} {ws : List Word} : ClockKept s (t.packet? q ws) := by
  cases q with
  | none => exact h
  | some q =>
    unfold State.packet? State.packet
    dsimp only
    split
    exacts [h, h.writeWords]

/-! ### Outputs (chapters 03 and 05) -/

theorem outStruct_above {o a : Nat} (ha : a ∈ outStruct o) : aCLK_RETUNE < a := by
  unfold outStruct at ha
  split at ha <;>
  · simp only [List.mem_cons, List.not_mem_nil, or_false, aWARP_CH_CTRL, aMOUT_CTRL, aMOUT_FMT, aCLK_RETUNE] at ha ⊢
    omega

theorem outWords_above {o a : Nat} (ha : a ∈ outWords o) : aCLK_RETUNE < a := by
  unfold outWords at ha
  split at ha <;>
  · simp only [List.mem_cons, List.not_mem_nil, or_false, aWARP_CH_CTRL, aWARP_CH_DELAY, aWARP_CH_DELAY_EXT, aWARP_CH_WIDTH,
      aWARP_CH_PERIOD, aWARP_CH_BURST, aMOUT_CTRL, aMOUT_FMT, aMOUT_DELAY, aMOUT_WIDTH, aMOUT_PERIOD, aMOUT_PHASE, aMOUT_BURST,
      aCLK_RETUNE] at ha ⊢
    omega

section
variable (h : ClockKept s t) {o i l : Nat} {fc fm : Fld}
include h

theorem ClockKept.setOut {x : OutSt} : ClockKept s (t.setOut o x) := h.rest

theorem ClockKept.oPut {v : Nat} (hc : aCLK_RETUNE < fc.base := by decide) (hm : aCLK_RETUNE < fm.base := by decide) :
    ClockKept s (t.oPut o fc fm v) := .ite (h.put hc) (h.put hm)

theorem ClockKept.oFlag (hc : aCLK_RETUNE < fc.base := by decide) (hm : aCLK_RETUNE < fm.base := by decide) :
    ClockKept s (t.oFlag o fc fm) := .ite (h.flag hc) (h.flag hm)

theorem ClockKept.oBump (hc : aCLK_RETUNE < fc.base := by decide) (hm : aCLK_RETUNE < fm.base := by decide) :
    ClockKept s (t.oBump o fc fm) := .ite (h.bump hc) (h.bump hm)

theorem ClockKept.oDrop (hc : aCLK_RETUNE < fc.base := by decide) (hm : aCLK_RETUNE < fm.base := by decide) :
    ClockKept s (t.oDrop o fc fm) := (h.oFlag hc hm).oBump

theorem ClockKept.oOverlap : ClockKept s (t.oOverlap o) := h.oFlag.oBump
theorem ClockKept.oClampCheck : ClockKept s (t.oClampCheck o) := h.when (·.oFlag)
theorem ClockKept.wakeGroup {g : Nat} : ClockKept s (t.wakeGroup g) := h.unless (·.rest)
theorem ClockKept.setDrv {v : Nat} : ClockKept s (t.setDrv o v) := h.oPut

theorem ClockKept.reform : ClockKept s (t.reform o) :=
  (h.foldl fun hx hu => hu.unstage (outStruct_above hx)).unless (·.setDrv.setOut.wakeGroup)

theorem ClockKept.oRefresh : ClockKept s (t.oRefresh o) := h.setOut.oPut.oPut.when (·.reform)

theorem ClockKept.applyOut : ClockKept s (t.applyOut o) :=
  (((h.applyWords fun _ => outWords_above).oPut.oClampCheck.when (·.setOut)).when (·.oPut)).oRefresh

theorem ClockKept.applyIfWaiting : ClockKept s (t.applyIfWaiting o) := h.when (·.applyOut)
theorem ClockKept.acceptTrig {keep : List Trig} : ClockKept s (t.acceptTrig o i keep) := h.setOut.oRefresh

theorem ClockKept.startTrigger : ClockKept s (t.startTrigger o i) :=
  h.unless fun hu =>
    .ite hu.oDrop <| .ite hu.oDrop <| .ite (.ite hu.oFlag (.ite hu.oOverlap hu.acceptTrig)) <|
    .ite hu.acceptTrig <| .ite hu.oDrop <| .ite hu.acceptTrig (.ite (.ite hu.acceptTrig hu.oDrop) hu.oDrop)

theorem ClockKept.stopOut {line : Option Nat} : ClockKept s (t.stopOut o i line) :=
  .ite h.oDrop <| .ite h.setOut.oRefresh.applyIfWaiting <| h.when (·.flag)

theorem ClockKept.lineToOut : ClockKept s (t.lineToOut l i o) :=
  h.unless fun hu =>
    .ite hu.bump <| .ite (.ite hu.oDrop (hu.bump.unless (·.flag))) <|
    .ite hu.oFlag (.ite (.ite hu.stopOut hu.startTrigger) (.ite hu.startTrigger hu.stopOut))

theorem ClockKept.lineToOuts : ClockKept s (t.lineToOuts l i) := h.forN (·.lineToOut)

end

/-! ### Reed's gates and measurement units (chapter 08) -/

section
variable (h : ClockKept s t) {g u' o c i : Nat}
include h

theorem ClockKept.setMu {x : MuSt} : ClockKept s (t.setMu u' x) := h.rest
theorem ClockKept.setGate {x : GateSt} : ClockKept s (t.setGate g x) := h.rest
theorem ClockKept.muOpen : ClockKept s (t.muOpen g u') := h.unless (·.setMu.flag)

theorem ClockKept.muCross {x : ReedX} : ClockKept s (t.muCross x u') := by
  unfold State.muCross
  dsimp only
  split
  · exact h.unless fun hu =>
      .ite (hu.when (·.setMu)) <|
      .ite (.ite ((hu.when (·.bump)).when (·.setMu)) (hu.unless fun hv => .ite (hv.when (·.bump)).setMu hv.setMu)) <|
      hu.when (·.setMu)
  · exact h

theorem ClockKept.muResult {gs : GateSt} : ClockKept s (t.muResult u' o c gs) := by
  unfold State.muResult
  refine ClockKept.setMu ?_
  have hb {p : Prop} {_ : Decidable p} : ClockKept s (if p then t.bump fREED_MU_STATUS_UNPAIRED u' else t) := h.when (·.bump)
  split
  · exact hb
  split
  · split
    exacts [hb.free.free.free.free, hb]
  dsimp only
  split
  · exact hb.free.free
  split
  exacts [hb.free, hb]

theorem ClockKept.muClose {gs : GateSt} : ClockKept s (t.muClose g o c u' gs) := h.when (·.muResult.unflag)

theorem ClockKept.gateOpenStep : ClockKept s (t.gateOpenStep g o) :=
  .ite h.setGate.flag <| h.setGate.unless fun hu => (hu.setGate.flag.when (·.flag)).forN (·.muOpen)

theorem ClockKept.gateCloseStep : ClockKept s (t.gateCloseStep g c) := by
  unfold State.gateCloseStep
  dsimp only
  split
  exacts [h, ((h.when (·.flag)).forN (·.muClose)).setGate.unflag.bump]

end

theorem ClockKept.gateSync {g i n : Nat} (h : ClockKept s t) : ClockKept s (t.gateSync g i n) := by
  induction n generalizing t with
  | zero => exact h
  | succ n ih =>
    unfold State.gateSync
    split
    exacts [h, .ite (ih (.ite h.gateCloseStep h.gateOpenStep)) h]

section
variable (h : ClockKept s t) {g i l : Nat}
include h

theorem ClockKept.gatesSync : ClockKept s (t.gatesSync i) := h.forN (·.gateSync)
theorem ClockKept.gateOpening {src : Nat} : ClockKept s (t.gateOpening g i src) := h.setGate
theorem ClockKept.gateClosing : ClockKept s (t.gateClosing g i) := h.setGate

theorem ClockKept.gateStamp {n : Nat} {rising : Bool} : ClockKept s (t.gateStamp n i rising) :=
  h.forN fun hu => hu.when fun hv => .ite hv.gateOpening hv.gateClosing

theorem ClockKept.gatesClkEvt {broken : Bool} : ClockKept s (t.gatesClkEvt broken) := h.forN fun hu => hu.when (·.setGate.flag)

theorem ClockKept.offerStamp {st : Stamp} : ClockKept s (t.offerStamp i st) :=
  h.unless fun hu => hu.unless fun hv => .ite (ClockKept.rest hv).bump.flag hv.rest

theorem ClockKept.reedTake {c : ReedX} : ClockKept s (t.reedTake c) := by
  unfold State.reedTake
  extract_lets t₁ t₂ t₃
  have h₃ : ClockKept s t₃ := (h.gatesSync.when (·.gateStamp.gatesSync)).forN (·.muCross)
  split
  exacts [h₃.offerStamp, h₃]

theorem ClockKept.reedTo : ClockKept s (t.reedTo i) := (ClockKept.foldl h.rest fun _ => (·.reedTake)).gatesSync
theorem ClockKept.reedAll : ClockKept s t.reedAll := (ClockKept.foldl h.rest fun _ => (·.reedTake)).gatesSync

theorem ClockKept.lineToGates : ClockKept s (t.lineToGates l i) :=
  h.reedTo.forN fun hu => hu.unless fun hv => (hv.when (·.gateOpening)).when (·.gateClosing)

end

/-! ### Due commands, the timebase load and the chain (chapters 01 and 14) -/

theorem trigCmd_src (ws : List Word) : (trigCmd ws).src = 4 := by
  unfold trigCmd
  dsimp only
  split <;> rfl

section
variable (h : ClockKept s t) {p : Nat} {f : ChFrame} {src : Option Nat}
include h

/-- HSF_STALL holds one word for each of the seven sources. -/
theorem ClockKept.sendDue {c : DueCmd} (hs : c.src < 7) : ClockKept s (t.sendDue c) := by
  refine (ClockKept.when h fun hu => hu.noteEvt.putLow ?_).rest
  simp only [fHSF_STALL_STALLS, aHSF_STALL, aCLK_REF_CFG]
  omega

theorem ClockKept.checkLoad : ClockKept s t.checkLoad := by
  rcases t.checkLoad_cases with e | ⟨r, e⟩ <;> rw [e]
  exacts [h, h.putLow.putLow]

theorem ClockKept.setPort {x : PortSt} : ClockKept s (t.setPort p x) := h.rest
theorem ClockKept.routeDrop : ClockKept s t.routeDrop := h.bump
theorem ClockKept.emit : ClockKept s (t.emit p f) := h.unless (·.setPort)

theorem ClockKept.freeBuf : ClockKept s (t.freeBuf src f) := by
  unfold State.freeBuf
  split
  exacts [h, .ite h.setPort h.setPort]

end

theorem ClockKept.drainPort {p n : Nat} (h : ClockKept s t) : ClockKept s (t.drainPort p n) := by
  induction n generalizing t with
  | zero => exact h
  | succ n ih =>
    refine h.unless fun _ => ?_
    dsimp only
    split
    exacts [h, ih h.setPort.emit.freeBuf]

section
variable (h : ClockKept s t) {p l i : Nat} {f : ChFrame} {src : Option Nat}
include h

theorem ClockKept.sendVia : ClockKept s (t.sendVia p f src) :=
  .ite h.routeDrop.freeBuf <| .ite h.emit h.setPort.drainPort

theorem ClockKept.sendRoute : ClockKept s (t.sendRoute f) := by
  unfold State.sendRoute State.routeVia
  split
  exacts [h.routeDrop.freeBuf, h.sendVia]

theorem ClockKept.noteFrame : ClockKept s (t.noteFrame f) := h.rest

theorem ClockKept.newFrame {typ dst arg : Nat} {ws : List Word} : ClockKept s (t.newFrame typ dst arg ws).2 := h.rest

theorem ClockKept.sendBoth : ClockKept s (t.sendBoth f) := h.forN fun hu => hu.when (·.sendVia)

theorem ClockKept.sendTrig {dst due dline action group : Nat} : ClockKept s (t.sendTrig dst due dline action group) :=
  have hs (ws : List Word) : (trigCmd ws).src < 7 := by rw [trigCmd_src]; decide
  h.unless fun hu =>
    .ite (hu.newFrame.noteFrame.sendBoth.sendDue (hs _)) <| .ite (hu.newFrame.sendDue (hs _)) <|
    .ite hu.newFrame.noteFrame.sendBoth hu.newFrame.sendRoute

theorem ClockKept.chainEmit : ClockKept s (t.chainEmit l i) := h.forN fun hu => hu.when (·.sendTrig)

end

/-! ### Sequencers and Heddle's lines (chapters 04 and 06) -/

section
variable (h : ClockKept s t) {q l i : Nat}
include h

theorem ClockKept.setSeq {x : SeqSt} : ClockKept s (t.setSeq q x) := h.rest
theorem ClockKept.jumpPend : ClockKept s (t.jumpPend q) := h.put
theorem ClockKept.jumpLost : ClockKept s (t.jumpLost q) := h.flag.bump

theorem ClockKept.seqRequest {r : SeqReq} : ClockKept s (t.seqRequest q r) :=
  ((h.when (·.jumpLost)).when (·.flag)).setSeq.jumpPend

theorem ClockKept.lineStart : ClockKept s (t.lineStart l i q) := by
  unfold State.lineStart
  dsimp only
  split
  exacts [h.when fun hu => (hu.when (·.flag)).setSeq, h]

theorem ClockKept.lineToSeq : ClockKept s (t.lineToSeq l i q) :=
  (show ClockKept _ _ from by split; exacts [h.lineStart.when (·.setSeq), h.lineStart]).when (·.seqRequest)

theorem ClockKept.setLine {x : HedLine} : ClockKept s (t.setLine l x) := h.rest
theorem ClockKept.armLine : ClockKept s (t.armLine l i) := .ite h.setLine <| h.when (·.setLine)

theorem ClockKept.fireLine {src : Nat} : ClockKept s (t.fireLine l i src) :=
  (((h.setLine.flag.bump.when (·.flag)).when (·.packet?)).forN fun hu =>
    hu.when (·.armLine)).lineToOuts.lineToGates.lineToSeq.lineToSeq.chainEmit.checkLoad

theorem ClockKept.sourceEvent {src : Nat} : ClockKept s (t.sourceEvent l src i) :=
  h.unless fun hu => .ite hu.flag (.ite hu.flag (.ite hu.fireLine hu.setLine))

theorem ClockKept.pinStep {p : PinEvt} : ClockKept s (t.pinStep p) := (ClockKept.rest h).until_.sourceEvent

end

theorem ClockKept.flowGo {ok : Nat → Bool} {n : Nat} (h : ClockKept s t) : ClockKept s (State.flowGo ok n t) := by
  induction n generalizing t with
  | zero => exact h
  | succ n ih =>
    unfold State.flowGo
    split
    exacts [h, .ite (ih h.pinStep) h]

theorem ClockKept.flowTo (h : ClockKept s t) {i : Nat} : ClockKept s (t.flowTo i) := h.flowGo.until_

/-! ### The calibrations that a retune aborts (R269, R296) -/

theorem roleFld_above (g : Nat) : aCLK_RETUNE < (roleFld g).base := by
  unfold roleFld
  split <;> [decide; split <;> [decide; split <;> decide]]

section
variable (h : ClockKept s t) {reason : Nat}
include h

/-- MAINT_OWNER holds one word for each of the 32 resources. -/
theorem ClockKept.resDrop {act r : Nat} (hr : r < 32) : ClockKept s (t.resDrop act r) :=
  have hw : aMAINT_OWNER + r < aCLK_REF_CFG := lt_trans (Nat.add_lt_add_left hr _) (by decide)
  ((h.when (·.putLow (f := fMAINT_OWNER_WRITER) hw)).putBitLow (f := fMAINT_OWNER_READERS) hw).putBitLow (f := fMAINT_HELD_HELD)

theorem ClockKept.release {act : Nat} : ClockKept s (t.release act) :=
  (h.foldl fun hr hu => hu.resDrop (List.mem_range.mp hr)).putBitLow

theorem ClockKept.holdInputs {mask : Nat} {on : Bool} : ClockKept s (t.holdInputs mask on) := h.foldl fun _ => (·.put)
theorem ClockKept.setRole {m g r : Nat} : ClockKept s (t.setRole m g r) := (h.put (roleFld_above g)).put
theorem ClockKept.calEnd : ClockKept s t.calEnd := (ClockKept.rest h.holdInputs.release).put
theorem ClockKept.rxCalEnd : ClockKept s t.rxCalEnd := (ClockKept.rest h.release).put
theorem ClockKept.rxCalAbort : ClockKept s (t.rxCalAbort reason) := h.unless (·.flag.put.bump.rxCalEnd)

theorem ClockKept.setBank {b : Nat} {x : BankSt} : ClockKept s (t.setBank b x) := h.rest
theorem ClockKept.spareBack {b : Nat} {faulty : Bool} : ClockKept s (t.spareBack b faulty) := h.put

theorem ClockKept.calAbort : ClockKept s (t.calAbort reason) :=
  h.unless fun hu => ((hu.flag.put.bump.when (·.spareBack)).when (·.setRole)).calEnd.when (·.setBank)

theorem ClockKept.cdFail : ClockKept s (t.cdFail reason) :=
  h.when fun hu => (ClockKept.rest hu.holdInputs).release.unflag.flag.put

end

end Sys2Proof.Machine


/-! # References: their loss, their qualification and the re-reference (R67 to R72) -/

namespace Sys2Proof.Machine

/-! ### One-bit fields -/

theorem State.get_put_b2n (s : State) {f : Fld} {o : Nat} (b : Bool) (hf : f.lo + fldWidth f ≤ 36) :
    (s.put f (b2n b) o).get f o = b2n b :=
  State.get_put_of_lt s hf (by cases b <;> [exact Nat.two_pow_pos _; exact Nat.one_lt_two_pow (Nat.succ_ne_zero _)])

@[simp] theorem State.is_put_b2n (s : State) {f : Fld} {o : Nat} (b : Bool) (hf : f.lo + fldWidth f ≤ 36) :
    (s.put f (b2n b) o).is f o = b := by
  rw [State.is, State.get_put_b2n s b hf]
  cases b <;> rfl

@[simp] theorem State.is_put_apart (s : State) {f g : Fld} {o p : Nat} (v : Nat) (h : f.Apart o g p) :
    (s.put f v o).is g p = s.is g p :=
  congrArg (· == 1) (State.get_put_apart s v h)

@[simp] theorem State.is_bump_apart (s : State) {f g : Fld} {o p : Nat} (n : Nat) (h : f.Apart o g p) :
    (s.bump f o n).is g p = s.is g p :=
  congrArg (· == 1) (State.get_bump_apart s n h)

@[simp] theorem State.is_unflag_apart (s : State) {f g : Fld} {o p : Nat} (h : f.Apart o g p) : (s.unflag f o).is g p = s.is g p :=
  State.is_put_apart s 0 h

/-! ### The words and counts that each step of a reference changes -/

/-- QUAL of reference `b`. -/
def qualFld (b : Bool) : Fld := if b then fCLK_REF_STATUS_B_QUAL else fCLK_REF_STATUS_A_QUAL

/-- ACT of reference `b`. -/
def actFld (b : Bool) : Fld := if b then fCLK_REF_STATUS_B_ACT else fCLK_REF_STATUS_A_ACT

/-- The loss count of reference `b`. -/
def lossFld (b : Bool) : Fld := if b then fCLK_REF_STATUS_B_LOSS else fCLK_REF_STATUS_A_LOSS

theorem State.refQual_eq (s : State) (b : Bool) : s.refQual b = s.is (qualFld b) := by cases b <;> rfl

theorem State.setQual_regs (s : State) (b v : Bool) : (s.setQual b v).regs = (s.put (qualFld b) (b2n v)).regs := by cases v <;> rfl

section
variable {ws : List Nat} {s t : State} {b : Bool}

theorem Only.keeperShow (h : Only ws s t) (ha : aKEEPER_STATUS ∈ ws := by decide) : Only ws s t.keeperShow := (h.put ha).put ha

theorem Only.setQual {v : Bool} (h : Only ws s t) (ha : aCLK_REF_STATUS ∈ ws := by decide) : Only ws s (t.setQual b v) :=
  (h.put (f := qualFld b) (by cases b <;> exact ha)).rest (t.setQual_regs b v)

theorem Only.refSwitch (s : State) (b : Bool) :
    Only [aCLK_REF_STATUS, aCLK_STATUS, aCLK_COUNT, aKEEPER_STATUS] s (s.refSwitch b) :=
  (Only.ite (.refl _ s) (Only.refl _ s).flag.bump).put.unflag.keeperShow

theorem RegsOnly.keeperShow (s : State) : RegsOnly s s.keeperShow := rfl

theorem RegsOnly.refSwitch (s : State) (b : Bool) : RegsOnly s (s.refSwitch b) := by
  refine .trans ?_ (.trans (.trans (.put _ _ _ _) (.unflag _ _ _)) (.keeperShow _))
  split
  exacts [rfl, .trans (.flag _ _ _) (.bump _ _ _ _)]

end

section
variable (s : State) {f : Fld} {o : Nat}

@[simp] theorem State.get_keeperShow (h : f.base + o ∉ [aKEEPER_STATUS]) : s.keeperShow.get f o = s.get f o :=
  (Only.refl [aKEEPER_STATUS] s).keeperShow.get h

@[simp] theorem State.is_keeperShow (h : f.base + o ∉ [aKEEPER_STATUS]) : s.keeperShow.is f o = s.is f o :=
  (Only.refl [aKEEPER_STATUS] s).keeperShow.is h

/-- A field of CLK_REF_STATUS apart from IN_USE and HOLD keeps its value at a switch, and so does any other word but CLK_STATUS, CLK_COUNT
and KEEPER_STATUS. -/
theorem State.get_refSwitch (b : Bool) (h : f.base + o ∉ [aCLK_STATUS, aCLK_COUNT, aKEEPER_STATUS])
    (hu : fCLK_REF_STATUS_IN_USE.Apart 0 f o) (hh : fCLK_REF_STATUS_HOLD.Apart 0 f o) : (s.refSwitch b).get f o = s.get f o := by
  unfold State.refSwitch
  rw [State.get_keeperShow _ (by simp_all), State.get_unflag_apart _ hh, State.get_put_apart _ _ hu]
  exact (Only.ite (.refl _ s) (Only.refl _ s).flag.bump).get h

theorem State.refInUse_refSwitch (b : Bool) : (s.refSwitch b).refInUse = b := by
  unfold State.refSwitch State.refInUse
  simp (disch := decide)

theorem State.is_refSwitch_hold (b : Bool) : (s.refSwitch b).is fCLK_REF_STATUS_HOLD = false := by
  unfold State.refSwitch State.is
  simp (disch := decide)

end

/-- A switch to the other reference is shown and counted. -/
theorem State.refSwitch_counts {s : State} {b : Bool} (h : s.refInUse ≠ b) : (s.refSwitch b).is fCLK_STATUS_REF_SWITCH = true ∧
    (s.refSwitch b).get fCLK_COUNT_REF_SWITCHES =
      satU (fldWidth fCLK_COUNT_REF_SWITCHES) (s.get fCLK_COUNT_REF_SWITCHES + 1) := by
  unfold State.refSwitch State.is
  rw [if_neg h]
  constructor <;> simp (disch := decide)

/-- A re-reference to the reference in use is no switch. -/
theorem Only.refSwitch_same {s : State} {b : Bool} (h : s.refInUse = b) :
    Only [aCLK_REF_STATUS, aKEEPER_STATUS] s (s.refSwitch b) := by
  unfold State.refSwitch
  rw [if_pos h]
  exact (Only.refl _ s).put.unflag.keeperShow

/-! ### A reference stops (R67, R70, R71) -/

/-- The state with ACT of reference `b` cleared, the loss counted, and the mt marked as one with a loss. -/
def State.lossNoted (s : State) (b : Bool) : State :=
  let v := (s.unflag (actFld b)).bump (lossFld b)
  { v with clk := if b then { v.clk with lossB := true } else { v.clk with lossA := true } }

/-- The same with QUAL cleared as well. -/
def State.refFallen (s : State) (b : Bool) : State := (s.lossNoted b).setQual b false

/-- Do the loops follow reference `b`: is it in use, out of holdover? -/
def State.followed (s : State) (b : Bool) : Bool := s.refInUse == b && !s.is fCLK_REF_STATUS_HOLD

/-- Does a loss of reference `b` make the loops fail over: followed, with FAILOVER 1 and the other qualified? -/
def State.failsOver (s : State) (b : Bool) : Bool := s.followed b && s.is fCLK_REF_CFG_FAILOVER && s.refQual (!b)

/-- The state after the loops have failed over, hold over, or stay. -/
def State.refMoved (s : State) (b : Bool) : State :=
  if s.failsOver b then s.refSwitch (!b) else if s.followed b then s.put fCLK_REF_STATUS_HOLD 1 else s

section
variable (s : State) (b : Bool)

theorem State.refFallen_regs : (s.refFallen b).regs = (((s.unflag (actFld b)).bump (lossFld b)).put (qualFld b) (b2n false)).regs := rfl

theorem Only.refFallen : Only [aCLK_REF_STATUS] s (s.refFallen b) :=
  have ha : (actFld b).base + 0 ∈ [aCLK_REF_STATUS] := by cases b <;> decide
  have hl : (lossFld b).base + 0 ∈ [aCLK_REF_STATUS] := by cases b <;> decide
  have hq : (qualFld b).base + 0 ∈ [aCLK_REF_STATUS] := by cases b <;> decide
  ((((Only.refl _ s).unflag ha).bump hl).put hq).rest (s.refFallen_regs b)

/-- IN_USE and HOLD. -/
theorem State.is_refFallen {f : Fld} (hf : f = fCLK_REF_STATUS_IN_USE ∨ f = fCLK_REF_STATUS_HOLD) : (s.refFallen b).is f = s.is f := by
  rw [State.is_congr (s.refFallen_regs b)]
  rcases hf with rfl | rfl <;> cases b <;> simp (disch := decide) [actFld, lossFld, qualFld]

theorem State.is_refFallen_act : (s.refFallen b).is (actFld b) = false := by
  rw [State.is_congr (s.refFallen_regs b)]
  cases b <;> simp (disch := decide) [State.is, actFld, lossFld, qualFld]

theorem State.get_refFallen_loss :
    (s.refFallen b).get (lossFld b) = satU (fldWidth (lossFld b)) (s.get (lossFld b) + 1) := by
  rw [State.get_congr (s.refFallen_regs b)]
  cases b <;> simp (disch := decide) [actFld, lossFld, qualFld]

theorem State.is_refFallen_qual : (s.refFallen b).is (qualFld b) = false := by
  rw [State.is_congr (s.refFallen_regs b)]
  exact State.is_put_b2n _ false (by cases b <;> decide)

theorem State.is_refFallen_other : (s.refFallen b).is (qualFld !b) = s.is (qualFld !b) := by
  rw [State.is_congr (s.refFallen_regs b)]
  cases b <;> simp (disch := decide) [actFld, lossFld, qualFld]

theorem State.followed_refFallen : (s.refFallen b).followed b = s.followed b := by
  unfold State.followed State.refInUse
  rw [s.is_refFallen b (.inl rfl), s.is_refFallen b (.inr rfl)]

theorem State.failsOver_refFallen : (s.refFallen b).failsOver b = s.failsOver b := by
  unfold State.failsOver
  rw [s.followed_refFallen, State.refQual_eq, State.refQual_eq, s.is_refFallen_other, (Only.refFallen s b).is (by decide)]

/-! ### Failover and holdover -/

theorem Only.refMoved : Only [aCLK_REF_STATUS, aCLK_STATUS, aCLK_COUNT, aKEEPER_STATUS] s (s.refMoved b) :=
  .ite (.refSwitch s _) (.ite (Only.refl _ s).put (.refl _ s))

theorem RegsOnly.refMoved : RegsOnly s (s.refMoved b) := by
  unfold State.refMoved
  split
  · exact .refSwitch s _
  · split <;> rfl

/-- ACT, LOSS and QUAL of a reference stay at a failover or holdover. -/
theorem State.get_shown_refMoved {f : Fld} (hf : f ∈ [actFld b, lossFld b, qualFld b]) :
    (s.refMoved b).keeperShow.get f = s.get f := by
  have hk : f.base + 0 ∉ [aCLK_STATUS, aCLK_COUNT, aKEEPER_STATUS] ∧ f.base + 0 ∉ [aKEEPER_STATUS] ∧
      fCLK_REF_STATUS_IN_USE.Apart 0 f 0 ∧ fCLK_REF_STATUS_HOLD.Apart 0 f 0 := by
    revert f
    cases b <;> decide
  obtain ⟨hw, hs, hu, hh⟩ := hk
  rw [State.get_keeperShow _ hs]
  unfold State.refMoved
  split
  · exact s.get_refSwitch _ hw hu hh
  · split
    exacts [State.get_put_apart s 1 hh, rfl]

theorem State.refInUse_refMoved : (s.refMoved b).refInUse = if s.failsOver b then !b else s.refInUse := by
  unfold State.refMoved
  split
  · exact s.refInUse_refSwitch _
  · split
    exacts [State.is_put_apart s 1 (by decide), rfl]

theorem State.is_refMoved_hold : (s.refMoved b).is fCLK_REF_STATUS_HOLD =
    if s.failsOver b then false else s.followed b || s.is fCLK_REF_STATUS_HOLD := by
  unfold State.refMoved
  split
  · exact s.is_refSwitch_hold _
  · split
    next h => exact (State.is_put_b2n s true (by decide)).trans (by rw [h]; rfl)
    next h => rw [Bool.eq_false_of_not_eq_true h, Bool.false_or]

/-- Of what follows the move only the keeper's status shows, and the guard may start afresh. -/
theorem State.refLost_after (sub : Nat) : ∃ g,
    (s.refLost b sub).regs = ((s.setQual b false).refMoved b).keeperShow.regs ∧
      (s.refLost b sub).clk = { (s.setQual b false).clk with guardAt := g } := by
  have hm : ((s.setQual b false).refMoved b).clk = (s.setQual b false).clk := by rw [RegsOnly.refMoved]
  have hs (c : Prop) [Decidable c] : ∃ g,
      (if c then ((s.setQual b false).refMoved b).keeperShow.guardAfresh else ((s.setQual b false).refMoved b).keeperShow).clk =
        { (s.setQual b false).clk with guardAt := g } := by
    rw [← hm]
    split
    exacts [⟨_, rfl⟩, ⟨((s.setQual b false).refMoved b).clk.guardAt, rfl⟩]
  obtain ⟨g, hg⟩ := hs ((s.setQual b false).followed b = true)
  refine ⟨g, ?_, .trans ?_ hg⟩
  · refine iteInduction (motive := fun x => State.regs x = _) (fun _ => ?_) (fun _ => ?_) <;>
      exact iteInduction (motive := fun x => State.regs x = _) (fun _ => rfl) (fun _ => rfl)
  · exact iteInduction (motive := fun x => State.clk x = _) (fun _ => rfl) (fun _ => rfl)

variable {s b}

/-- A reference that stops: what is counted, and whether the loops fail over or hold over. -/
theorem exec_refActivityLoss (h : s.is (actFld b) = true) : ∃ t, exec (.refActivityLoss b) s = .next t ∧
    t.is (actFld b) = false ∧ t.get (lossFld b) = satU (fldWidth (lossFld b)) (s.get (lossFld b) + 1) ∧ t.refQual b = false ∧
    t.qualCount b = 0 ∧ (if b then t.clk.lossB else t.clk.lossA) = true ∧
    t.refInUse = (if s.failsOver b then !b else s.refInUse) ∧
    t.is fCLK_REF_STATUS_HOLD = (if s.failsOver b then false else s.followed b || s.is fCLK_REF_STATUS_HOLD) ∧
    Only [aCLK_REF_STATUS, aCLK_STATUS, aCLK_COUNT, aKEEPER_STATUS] s t := by
  obtain ⟨g, hr, hc⟩ := (s.lossNoted b).refLost_after b 0
  have ho : Only [aCLK_REF_STATUS, aCLK_STATUS, aCLK_COUNT, aKEEPER_STATUS] (s.refFallen b) _ :=
    (Only.refMoved (s.refFallen b) b).keeperShow.rest hr
  have hi {f : Fld} (hf : f.base + 0 ∉ [aKEEPER_STATUS]) : State.is _ f = ((s.refFallen b).refMoved b).is f :=
    (State.is_congr hr f 0).trans (State.is_keeperShow _ hf)
  have hg {f : Fld} (hf : f ∈ [actFld b, lossFld b, qualFld b]) : State.get _ f = (s.refFallen b).get f :=
    (State.get_congr hr f 0).trans (State.get_shown_refMoved _ b hf)
  refine ⟨_, if_neg (not_not.mpr h), ?_, ?_, ?_, ?_, ?_, ?_, ?_, ((Only.refFallen s b).mono (by decide)).trans ho⟩
  · exact (congrArg (· == 1) (hg (by simp))).trans (s.is_refFallen_act b)
  · exact (hg (by simp)).trans (s.get_refFallen_loss b)
  · exact (State.refQual_eq _ b).trans ((congrArg (· == 1) (hg (by simp))).trans (s.is_refFallen_qual b))
  · unfold State.qualCount
    refine (congrArg (fun c : ClkSt => if b then c.qualB else c.qualA) hc).trans ?_
    cases b <;> rfl
  · refine (congrArg (fun c : ClkSt => if b then c.lossB else c.lossA) hc).trans ?_
    cases b <;> rfl
  · refine (hi (by decide)).trans (((s.refFallen b).refInUse_refMoved b).trans ?_)
    rw [s.failsOver_refFallen, State.refInUse, s.is_refFallen b (.inl rfl)]
    rfl
  · refine (hi (by decide)).trans (((s.refFallen b).is_refMoved_hold b).trans ?_)
    rw [s.failsOver_refFallen, s.followed_refFallen, s.is_refFallen b (.inr rfl)]

end

/-! ### A reference qualifies (R67, R72) -/

/-- The state with QUAL of `b` set and shown by the keeper. -/
def State.refQualified (s : State) (b : Bool) : State := (s.setQual b true).keeperShow

/-- The state with `r` as the re-reference that waits. -/
def State.withReref (s : State) (r : Option Bool) : State := { s with clk := { s.clk with reref := r } }

/-- The re-reference that waits once `b` has become qualified: out of holdover, or as PREF and REVERT say, or the one that waited. -/
def State.rerefAfter (s : State) (b : Bool) : Option Bool :=
  if s.is fCLK_REF_STATUS_HOLD || (s.is fCLK_REF_CFG_PREF == b && s.is fCLK_REF_CFG_REVERT && s.refInUse != b) then
    some (if s.is fCLK_REF_STATUS_HOLD then s.holdTo b else b)
  else s.clk.reref

section
variable (s : State) (b : Bool)

theorem Only.refQualified : Only [aCLK_REF_STATUS, aKEEPER_STATUS] s (s.refQualified b) := (Only.refl _ s).setQual.keeperShow

theorem State.is_refQualified {f : Fld} (hk : f.base + 0 ∉ [aKEEPER_STATUS]) (hq : (qualFld b).Apart 0 f 0) :
    (s.refQualified b).is f = s.is f :=
  (State.is_keeperShow _ hk).trans (State.is_put_apart s _ hq)

theorem State.refQual_refQualified : (s.refQualified b).refQual b = true := by
  rw [State.refQual_eq]
  exact (State.is_keeperShow _ (by cases b <;> decide)).trans (State.is_put_b2n s true (by cases b <;> decide))

variable {s b}

theorem State.rerefAfter_of_hold (hh : s.is fCLK_REF_STATUS_HOLD = true) (hr : s.clk.reref = none) : s.rerefAfter b = some b := by
  simp [State.rerefAfter, State.holdTo, hh, hr]

theorem State.rerefAfter_of_follow (hh : s.is fCLK_REF_STATUS_HOLD = false) : s.rerefAfter b =
    if s.is fCLK_REF_CFG_PREF = b ∧ s.is fCLK_REF_CFG_REVERT = true ∧ s.refInUse ≠ b then some b else s.clk.reref := by
  simp [State.rerefAfter, hh, and_assoc]

theorem exec_refQualify (hq : s.refQual b = false) (hn : max 1 (s.get fCLK_REF_CFG_QUAL_TIME) ≤ s.qualCount b) :
    exec (.refQualify b) s =
      .next ((s.refQualified b).withReref ((s.refQualified b).rerefAfter b)) :=
  (if_neg (not_or.mpr ⟨ne_true_of_eq_false hq, Nat.not_lt.mpr hn⟩)).trans
    (congrArg Host.Outcome.next (apply_ite (s.refQualified b).withReref _ _ _).symm)

end

/-! ### PREF and the re-reference (R72) -/

/-- Whether a reference preferred can be taken up does not depend on PREF. -/
theorem State.prefWritten_iff (s : State) (b : Bool) : ((s.put fCLK_REF_CFG_PREF (b2n b)).refQual b = true ∧
    ((s.put fCLK_REF_CFG_PREF (b2n b)).refInUse ≠ b ∨ (s.put fCLK_REF_CFG_PREF (b2n b)).is fCLK_REF_STATUS_HOLD = true)) ↔
    s.refQual b = true ∧ (s.refInUse ≠ b ∨ s.is fCLK_REF_STATUS_HOLD = true) := by
  rw [State.refQual_eq, State.refQual_eq, State.refInUse, State.refInUse, State.is_put_apart _ _ (by cases b <;> decide),
    State.is_put_apart _ _ (by decide), State.is_put_apart _ _ (by decide)]

theorem exec_refRereference {s : State} {b : Bool} (hr : s.clk.reref = some b) (hq : s.refQual b = true) :
    exec .refRereference s = .next (State.refSwitch { s with clk := { s.clk with reref := none } } b) := by
  change Host.Outcome.next s.rereference = _
  unfold State.rereference
  rw [hr]
  exact congrArg Host.Outcome.next (if_pos hq)

/-- Settles O6: a loss is `exec_refActivityLoss`, a qualification `exec_refQualify`, a re-reference `State.refSwitch`. That PREF written
back withdraws a waiting switch, and that an mt with a loss counts none, is log entry 18. -/
theorem references : Obligations.References := by
  unfold Obligations.References
  refine ⟨?lossA, ?lossB, ?qualify, ?prefer, ?takeBack, ?switch, ?dropped, ?none⟩
  case lossA =>
    intro s h
    obtain ⟨t, hexec, hact, hloss, hq, hn, hl, hu, hh, ho⟩ := exec_refActivityLoss (s := s) (b := false) h
    refine ⟨t, hexec, hact, hloss, hq, hn, hl, hu.trans ?_, hh.trans ?_, ho⟩ <;>
    · unfold State.failsOver State.followed
      cases s.refInUse <;> cases s.is fCLK_REF_STATUS_HOLD <;> simp
  case lossB =>
    intro s h
    obtain ⟨t, hexec, hact, hloss, hq, hn, hl, hu, hh, ho⟩ := exec_refActivityLoss (s := s) (b := true) h
    refine ⟨t, hexec, hact, hloss, hq, hn, hl, hu.trans ?_, hh.trans ?_, ho⟩ <;>
    · unfold State.failsOver State.followed
      cases s.refInUse <;> cases s.is fCLK_REF_STATUS_HOLD <;> simp
  case qualify =>
    intro s b hq hn
    have hi {f : Fld} (hk : f.base + 0 ∉ [aKEEPER_STATUS]) (hf : (qualFld b).Apart 0 f 0) := s.is_refQualified b hk hf
    have hhold := hi (f := fCLK_REF_STATUS_HOLD) (by decide) (by cases b <;> decide)
    refine ⟨_, exec_refQualify hq hn, s.refQual_refQualified b, fun hh hr => State.rerefAfter_of_hold (hhold.trans hh) hr,
      fun hh => (State.rerefAfter_of_follow (hhold.trans hh)).trans ?_, (Only.refQualified s b).rest, rfl⟩
    rw [hi (by decide) (by cases b <;> decide), hi (by decide) (by cases b <;> decide), State.refInUse,
      hi (by decide) (by cases b <;> decide)]
    rfl
  case prefer =>
    intro s b hq hh
    exact congrArg Host.Outcome.next (if_pos (s.prefWritten_iff b |>.mpr ⟨hq, hh⟩))
  case takeBack =>
    intro s b hh hq
    have hn : ¬ (s.refQual b = true ∧ (s.refInUse ≠ b ∨ s.is fCLK_REF_STATUS_HOLD = true)) := by
      rcases hq with h | h <;> simp [h, hh]
    have hp : (s.put fCLK_REF_CFG_PREF (b2n b)).is fCLK_REF_STATUS_HOLD = false := (State.is_put_apart s _ (by decide)).trans hh
    exact congrArg Host.Outcome.next ((if_neg (mt (s.prefWritten_iff b).mp hn)).trans (if_neg (ne_true_of_eq_false hp)))
  case switch =>
    intro s b hr hq
    refine ⟨_, exec_refRereference hr hq, State.refInUse_refSwitch _ b, State.is_refSwitch_hold _ b,
      fun h => State.refSwitch_counts h, fun h => ?_, Only.refSwitch { s with clk := { s.clk with reref := none } } b, ?_⟩
    · have ho := Only.refSwitch_same (s := { s with clk := { s.clk with reref := none } }) h
      exact ⟨ho _ (by decide), ho _ (by decide)⟩
    · exact RegsOnly.refSwitch { s with clk := { s.clk with reref := none } } b
  case dropped =>
    intro s b hr hq
    change Host.Outcome.next s.rereference = _
    unfold State.rereference
    rw [hr]
    exact congrArg Host.Outcome.next (if_neg (ne_true_of_eq_false hq))
  case none =>
    intro s hr
    change Host.Outcome.next s.rereference = _
    unfold State.rereference
    rw [hr]

end Sys2Proof.Machine


/-! # PLL_C: its loss and its return (R73, R75) -/

namespace Sys2Proof.Machine

theorem State.get_lt (s : State) (f : Fld) (o : Nat) : s.get f o < 2 ^ fldWidth f := Nat.mod_lt _ (Nat.two_pow_pos _)

/-- A one-bit field as a number. -/
theorem State.get_eq_b2n (s : State) {f : Fld} {o : Nat} (hf : fldWidth f = 1) : s.get f o = b2n (s.is f o) := by
  have hlt : s.get f o < 2 ^ 1 := hf ▸ s.get_lt f o
  unfold State.is b2n
  split
  next h => exact eq_of_beq h
  next h =>
    have := ne_of_beq_false (Bool.eq_false_of_not_eq_true h)
    omega

/-! ### The source of the safe clock -/

section
variable {s : State} (ring : Bool)

/-- While WARP is on PLL_W a change of the source is one of SAFE_SRC alone. -/
theorem State.safeSource_of_pllw (h : s.safe = false) :
    s.safeSource ring = if s.is fCLK_STATUS_SAFE_SRC = ring then s else s.put fCLK_STATUS_SAFE_SRC (b2n ring) := by
  unfold State.safeSource
  split
  · rfl
  · exact if_pos (ne_true_of_eq_false h)

variable (h : s.safe = false)
include h

theorem State.get_safeSource : (s.safeSource ring).get fCLK_STATUS_SAFE_SRC = b2n ring := by
  rw [State.safeSource_of_pllw ring h]
  split
  next he => exact (s.get_eq_b2n rfl).trans (congrArg b2n he)
  · exact s.get_put_b2n ring (by decide)

theorem State.get_safeSource_apart {f : Fld} (hf : fCLK_STATUS_SAFE_SRC.Apart 0 f 0) : (s.safeSource ring).get f = s.get f := by
  rw [State.safeSource_of_pllw ring h]
  split
  exacts [rfl, State.get_put_apart s _ hf]

theorem RegsOnly.safeSource : RegsOnly s (s.safeSource ring) := by
  rw [State.safeSource_of_pllw ring h]
  split <;> rfl

theorem Only.safeSource : Only [aCLK_STATUS] s (s.safeSource ring) :=
  State.safeSource_of_pllw ring h ▸ .ite (.refl _ s) (Only.refl _ s).put

end

/-! ### Loss and return -/

/-- WEFT and BOLT on the ring oscillator show their FRACTION. -/
theorem State.toRing_regs (s : State) (relock : Bool) : ∃ x, (s.toRing relock).regs = (s.put fRXW_WEFT_STATUS_FRACTION x).regs := ⟨_, rfl⟩

/-- What a loss of PLL_C shows in CLK_STATUS before the safe clock changes its source. -/
def State.pllcMarked (s : State) : State :=
  ((s.unflag fCLK_STATUS_PLLC_LOCK).flag fCLK_STATUS_PLLC_LOST).flag fCLK_STATUS_DEGRADED

theorem exec_pllcLost {s : State} (h : s.is fCLK_STATUS_PLLC_LOCK = true) :
    exec .pllcLost s = .next (((s.pllcMarked.safeSource true).toRing false).report 2 0 0) :=
  if_neg (not_not.mpr h)

/-- What a return of PLL_C shows in CLK_STATUS before the safe clock changes its source. -/
def State.pllcBack (s : State) : State := (s.put fCLK_STATUS_PLLC_LOCK 1).unflag fCLK_STATUS_DEGRADED

/-- The return of PLL_C is dated at its 4 096th cycle of lock where it did not hold lock already. -/
theorem exec_pllcReturn {s : State} (hp : s.pins = []) : ∃ n, exec .pllcReturn s =
    .next { ({ s with now := n } : State).pllcBack.safeSource false with
      clk := { (({ s with now := n } : State).pllcBack.safeSource false).clk with pllcRelock := false } } := by
  have hn : ∃ n, (if s.is fCLK_STATUS_PLLC_LOCK then s else s.flowTo (wcs (s.refCycles s.clk.pllcAt 4096))) = { s with now := n } := by
    split
    · exact ⟨s.now, rfl⟩
    · exact ⟨_, (State.flowTo_nil _ hp).trans (State.until_eq s _)⟩
  obtain ⟨n, hn⟩ := hn
  refine ⟨n, ?_⟩
  rw [← hn]
  rfl

/-- Settles O7: on PLL_W the safe clock's source changes in SAFE_SRC alone (`State.safeSource_of_pllw`). That PLL_C indicates lock at its
return is log entry 12. -/
theorem pllC : Obligations.PllC := by
  unfold Obligations.PllC
  refine ⟨?lost, ?back⟩
  case lost =>
    intro s hl hs
    have hm : s.pllcMarked.safe = false := (State.is_congr rfl _ _).trans (by simpa (disch := decide) [State.is, State.pllcMarked] using hs)
    obtain ⟨x, hr⟩ := (s.pllcMarked.safeSource true).toRing_regs false
    have hg {f : Fld} (hf : fRXW_WEFT_STATUS_FRACTION.Apart 0 f 0) : State.get _ f = (s.pllcMarked.safeSource true).get f :=
      (State.get_congr hr f 0).trans (State.get_put_apart _ x hf)
    have ha {f : Fld} (hf : fRXW_WEFT_STATUS_FRACTION.Apart 0 f 0) (hc : fCLK_STATUS_SAFE_SRC.Apart 0 f 0) :=
      (hg hf).trans (State.get_safeSource_apart true hm hc)
    refine ⟨_, exec_pllcLost hl, (ha (by decide) (by decide)).trans ?_, (ha (by decide) (by decide)).trans ?_,
      (ha (by decide) (by decide)).trans ?_, (hg (by decide)).trans (State.get_safeSource true hm), rfl, ?_, ?_⟩
    · simp (disch := decide) [State.pllcMarked]
    · simp (disch := decide) [State.pllcMarked]
    · simp (disch := decide) [State.pllcMarked]
    · have hd : (s.pllcMarked.safeSource true).detected = s.detected := by
        rw [RegsOnly.safeSource true hm]
        simp [State.pllcMarked]
      simp [State.report, State.detect, State.toRing, State.free, hd]
    · have ho : Only [aCLK_STATUS] s (s.pllcMarked.safeSource true) :=
        ((Only.refl _ s).unflag.flag.flag).trans (Only.safeSource true hm)
      exact ((ho.mono (by decide)).put (v := x)).rest hr
  case back =>
    intro s hs hp
    obtain ⟨n, hexec⟩ := exec_pllcReturn hp
    have hm : ({ s with now := n } : State).pllcBack.safe = false :=
      (show _ = s.is fCLK_STATUS_WARP_SAFE by simp (disch := decide) [State.safe, State.pllcBack]; rfl).trans hs
    refine ⟨_, hexec, (State.get_safeSource_apart false hm (by decide)).trans ?_,
      (State.get_safeSource_apart false hm (by decide)).trans ?_, State.get_safeSource false hm, ?_, ?_⟩
    · simp (disch := decide) [State.pllcBack, State.get_put_same]
    · simp (disch := decide) [State.pllcBack]
    · exact ((Only.refl _ s).rest.put.unflag.trans (Only.safeSource false hm)).rest
    · rw [RegsOnly.safeSource false hm]
      rfl

end Sys2Proof.Machine


/-! # Retuning: GO, DRAIN, ALIGN, GUARD, CORRECT, REVERT and HELD (R77 to R82, R91) -/

namespace Sys2Proof.Machine

section
variable {s : State}

/-! ### GO and DRAIN -/

/-- An accepted GO before the calibrations it aborts and the load it ends: STATE, and the plan in force kept as the previous one. -/
def State.retuneBegun (s : State) : State :=
  let ck : ClkSt := { s.clk with prevCfg := s.word aPLLW_CFG, prevFrac := s.word aPLLW_FRAC, drainMt := 0, guardMt := 0,
                                 reverted := false, recover := false }
  ({ s with clk := ck } : State).put fCLK_RETUNE_STATE (if s.safe then 2 else 1)

theorem exec_retuneGo (h : s.retuneRefusal = 0) :
    exec .retuneGo s = .next (((s.retuneBegun.calAbort 12).rxCalAbort 12).cdFail 4).checkLoad :=
  if_neg (not_not.mpr h)

/-! ### ALIGN -/

/-- The guard that starts afresh keeps its mt count and its revert mark. -/
theorem ClockKept.guardAfresh {t : State} (h : ClockKept s t) :
    t.guardAfresh.clk.guardMt = s.clk.guardMt ∧ t.guardAfresh.clk.reverted = s.clk.reverted :=
  ⟨show t.clk.guardMt = _ from congrArg ClkSt.guardMt h.clk, show t.clk.reverted = _ from congrArg ClkSt.reverted h.clk⟩

/-- ALIGN ends with STATE 3 and the counts of the guard at none. -/
theorem exec_dividerAlign (h : s.get fCLK_RETUNE_STATE = 2) : ∃ u : State, exec .dividerAlign s = .next (u.put fCLK_RETUNE_STATE 3) ∧
    u.clk.guardMt = 0 ∧ u.clk.reverted = false := by
  refine ⟨_, (if_pos (.inl h)).trans (congrArg Host.Outcome.next (if_pos h)), ?_⟩
  have hk (x : State) := ((ClockKept.refl x).unflag (f := fCLK_STATUS_PLLW_LOCK) (o := 0)).reedAll.gatesClkEvt (broken := true)
  exact ⟨(hk _).guardAfresh.1, (hk _).guardAfresh.2.trans (by simp [h])⟩

/-! ### GUARD -/

theorem exec_guardPass (hq : s.anyQual = true) (hi : s.injActs 4 = none) (hg : s.guarding = true) {u : State}
    (hu : u = (s.flowTo (wcs (s.refCycles s.clk.guardAt 4096))).put fCLK_STATUS_PLLW_LOCK 1) : exec .guardPass s =
    .next (if u.get fCLK_RETUNE_STATE = 7 then { u with clk := { u.clk with recover := true } } else u.put fCLK_RETUNE_STATE 4) :=
  hu ▸ if_pos ⟨hq, hg, by rw [hi]; rfl⟩

/-! ### The return to PLL_W -/

/-- A ramp that starts leaves the retune's marks. -/
theorem State.clk_rampStart (s : State) (z : Int) :
    (s.rampStart z).clk.recover = s.clk.recover ∧ (s.rampStart z).clk.reverted = s.clk.reverted := by
  have ht : s.trimTo.clk.recover = s.clk.recover ∧ s.trimTo.clk.reverted = s.clk.reverted := by
    unfold State.trimTo
    split <;> exact ⟨rfl, rfl⟩
  unfold State.rampStart
  dsimp only
  split
  · exact ht
  · rw [State.flag_clk]
    exact ht

/-- The return in CORRECT before the servo and the trim take up their work: STATE is 0 and no recovery and no revert last. -/
theorem exec_pllwReturn (resid : Int) (h : s.get fCLK_RETUNE_STATE = 4) : ∃ u : State,
    exec (.pllwReturn resid) s = .next ((if u.servoOwns then u.put fCHAIN_STATUS_TSTATE 1 else u).rampStart
      (if u.servoOwns then u.put fCHAIN_STATUS_TSTATE 1 else u).trimNow) ∧
    u.get fCLK_RETUNE_STATE = 0 ∧ u.clk.recover = false ∧ u.clk.reverted = false := by
  refine ⟨_, if_neg fun hc => hc.1 h, ?_, rfl, rfl⟩
  refine (State.get_congr rfl _ _).trans ?_
  refine iteInduction (motive := fun x => State.get x fCLK_RETUNE_STATE = 0) (fun _ => ?_) (fun _ => ?_)
  · exact State.get_put_of_lt _ (by decide) (by decide)
  · exact (State.get_put_apart _ _ (by decide)).trans (State.get_put_of_lt _ (by decide) (by decide))

end

/-- Settles O8: the calibrations, loads and line events on the way leave CLK_RETUNE and the clock's counts (`ClockKept`). That a passed guard
shows PLLW_LOCK is log entry 12, limits counted in keeper ticks 14, and the loop held open by an injection 86. -/
theorem retune : Obligations.Retune := by
  unfold Obligations.Retune
  refine ⟨?refused, ?go, ?drained, ?limit, ?align, ?openLoop, ?pass, ?recover, ?fail, ?held, ?back⟩
  case refused => exact fun s h => if_pos h
  case go =>
    intro s h
    have hk : ClockKept s.retuneBegun (((s.retuneBegun.calAbort 12).rxCalAbort 12).cdFail 4).checkLoad :=
      (ClockKept.refl _).calAbort.rxCalAbort.cdFail.checkLoad
    refine ⟨_, exec_retuneGo h, hk.get.trans (State.get_put_of_lt _ (by decide) ?_), ?_, ?_, ?_⟩
    · split <;> decide
    all_goals
      rw [hk.clk]
      rfl
  case drained => exact fun s h hd => if_pos ⟨h, hd⟩
  case limit => exact fun s h hd => if_pos ⟨h, hd⟩
  case align =>
    intro s h
    obtain ⟨u, hexec, hm, hr⟩ := exec_dividerAlign h
    exact ⟨_, hexec, State.get_put_of_lt u (by decide) (by decide), hm, hr⟩
  case openLoop =>
    intro s h
    exact if_neg fun hp => h (Option.isNone_iff_eq_none.mp hp.2.2)
  case pass =>
    intro s hq hi h
    have hk : (s.flowTo (wcs (s.refCycles s.clk.guardAt 4096))).get fCLK_RETUNE_STATE = 3 := (ClockKept.refl s).flowTo.get.trans h
    refine (exec_guardPass hq hi (by simp [State.guarding, h]) rfl).trans (congrArg Host.Outcome.next (if_neg ?_))
    rw [State.get_put_apart _ _ (by decide), hk]
    decide
  case recover =>
    intro s hq hi h hr hp
    have ho : Only [aCLK_STATUS] s ((s.flowTo (wcs (s.refCycles s.clk.guardAt 4096))).put fCLK_STATUS_PLLW_LOCK 1) :=
      ((Only.refl _ s).flowTo hp).put
    have h7 := (ho.get (f := fCLK_RETUNE_STATE) (by decide)).trans h
    refine ⟨_, (exec_guardPass hq hi (by simp [State.guarding, h, hr]) rfl).trans (congrArg Host.Outcome.next (if_pos h7)), ?_, h7, rfl,
      ho.rest⟩
    exact State.get_put_of_lt _ (by decide) (by decide)
  case fail =>
    intro s hn h hr
    refine ⟨_, (if_neg (Nat.not_lt.mpr hn)).trans (if_pos ⟨h, hr⟩), ?_, ?_, ?_, ?_⟩
    · exact State.get_put_of_lt _ (by decide) (by decide)
    · simp (disch := decide)
    · simp
    · exact (Only.refl _ s).rest.flag.put
  case held =>
    intro s hn h hr
    refine ⟨_, (if_neg (Nat.not_lt.mpr hn)).trans ((if_neg ?_).trans (if_pos ⟨.inr h, hr⟩)), ?_, ?_, ?_, ?_⟩
    · exact fun hc => ne_true_of_eq_false hc.2 hr
    · exact (State.get_put_apart _ _ (by decide)).trans (State.get_put_of_lt s (by decide) (by decide))
    · exact State.get_put_of_lt _ (by decide) (by decide)
    · have hb : ((s.put fCLK_RETUNE_STATE 6).put fCLK_RETUNE_RESULT 8).injMarks 1 0 = s.injMarks 1 0 := by
        unfold State.injMarks
        rw [State.is_put_apart _ _ (by decide), State.is_put_apart _ _ (by decide)]
        rfl
      simp [State.report, State.detect, hb, State.nowT]
    · have ho : Only [aCLK_RETUNE] s ((s.put fCLK_RETUNE_STATE 6).put fCLK_RETUNE_RESULT 8) := (Only.refl _ s).put.put
      exact ho.rest
  case back =>
    intro s resid h
    obtain ⟨u, hexec, hs, hc, hr⟩ := exec_pllwReturn resid h
    refine ⟨_, hexec, ?_, (State.clk_rampStart _ _).1.trans ?_, (State.clk_rampStart _ _).2.trans ?_⟩
    · have ho : Only [aCHAIN_STATUS] u (if u.servoOwns then u.put fCHAIN_STATUS_TSTATE 1 else u) := .ite (Only.refl _ u).put (.refl _ u)
      exact ((Only.rampStart (.refl [aPLLW_TRIM_NOW] _)).get (by decide)).trans ((ho.get (by decide)).trans hs)
    all_goals split <;> assumption

end Sys2Proof.Machine


/-! # Edges at the balls, enables and applies (R95 to R97, R111 to R116, R166) -/

namespace Sys2Proof.Machine

/-! ### Fields of an output's own registers -/

/-- Fields apart in the first words of their arrays are apart in the words of every unit. -/
theorem Fld.Apart.at_same {f g : Fld} (h : f.Apart 0 g 0) (o : Nat) : f.Apart o g o :=
  h.imp_left fun hb he => hb (Nat.add_right_cancel he)

section
variable {fc fm gc gm : Fld} (s : State) (o : Nat)

theorem State.oGet_oPut_same {v : Nat} (hc : fc.lo + fldWidth fc ≤ 36) (hm : fm.lo + fldWidth fm ≤ 36) (hvc : v < 2 ^ fldWidth fc)
    (hvm : v < 2 ^ fldWidth fm) : (s.oPut o fc fm v).oGet o fc fm = v := by
  unfold State.oGet State.oPut
  split
  exacts [State.get_put_of_lt s hc hvc, State.get_put_of_lt s hm hvm]

variable (hc : fc.Apart 0 gc 0) (hm : fm.Apart 0 gm 0)
include hc hm

@[simp] theorem State.oGet_oPut_apart (v : Nat) : (s.oPut o fc fm v).oGet o gc gm = s.oGet o gc gm := by
  unfold State.oGet State.oPut
  split
  exacts [State.get_put_apart s v (hc.at_same _), State.get_put_apart s v (hm.at_same _)]

@[simp] theorem State.oGet_oFlag_apart : (s.oFlag o fc fm).oGet o gc gm = s.oGet o gc gm := by
  unfold State.oGet State.oFlag
  split
  exacts [State.get_flag_apart s (hc.at_same _), State.get_flag_apart s (hm.at_same _)]

@[simp] theorem State.oGet_oBump_apart : (s.oBump o fc fm).oGet o gc gm = s.oGet o gc gm := by
  unfold State.oGet State.oBump
  split
  exacts [State.get_bump_apart s 1 (hc.at_same _), State.get_bump_apart s 1 (hm.at_same _)]

end

/-! ### The edges of an output -/

/-- An output's own state depends on the list of the outputs' alone. -/
theorem State.out_congr {s t : State} (h : t.outs = s.outs) (o : Nat) : t.out o = s.out o := congrArg (nth · o) h

/-- What an output's own state says of its edges: the active pulse, the latest edges of the schedule, and the latest at the ball. -/
structure OutEdges where
  act : Option Pulse
  lastLead : Option Nat
  lastTrail : Option Nat
  sent : Option Nat

def OutSt.edges (x : OutSt) : OutEdges := ⟨x.act, x.lastLead, x.lastTrail, x.sent⟩

def State.edges (s : State) (o : Nat) : OutEdges := (s.out o).edges

section
variable {s t : State} {o : Nat} {x : OutSt}

theorem State.edges_congr (h : t.outs = s.outs) : t.edges o = s.edges o := congrArg OutSt.edges (State.out_congr h o)

/-- A new state of an output reads back where the output exists. -/
theorem State.out_setOut_same (h : o < s.outs.length) : (s.setOut o x).out o = x := by
  simp [State.out, State.setOut, nth, h]

/-- An output that is none of the outputs is in the state of reset. -/
theorem State.out_of_length_le (h : s.outs.length ≤ o) : s.out o = {} := by
  simp [State.out, nth, h]
  rfl

theorem State.edges_setOut_same (h : o < s.outs.length) : (s.setOut o x).edges o = x.edges :=
  congrArg OutSt.edges (State.out_setOut_same h)

/-- A new state of an output with the edges it has keeps them. -/
theorem State.edges_setOut (h : x.edges = s.edges o) : (s.setOut o x).edges o = s.edges o := by
  rcases Nat.lt_or_ge o s.outs.length with hl | hl
  · exact (State.edges_setOut_same hl).trans h
  · exact State.edges_congr (List.set_eq_of_length_le hl)

theorem State.setOut_length (s : State) (o : Nat) (x : OutSt) : (s.setOut o x).outs.length = s.outs.length := List.length_set

/-- An output with an active pulse is one of the outputs. -/
theorem State.lt_length_of_act {p : Pulse} (h : (s.out o).act = some p) : o < s.outs.length := by
  by_contra hl
  rw [State.out_of_length_le (not_lt.mp hl)] at h
  cases h

/-- An output with a leading edge ahead is one of the outputs. -/
theorem State.lt_length_of_nextLead {l : Nat} (h : (s.nextLead o).at_ = some l) : o < s.outs.length := by
  by_contra hl
  have hn : s.nextLead o = .none_ := by
    unfold State.nextLead State.gridLead
    rw [State.out_of_length_le (not_lt.mp hl)]
    rfl
  rw [hn] at h
  cases h

end

/-! ### The edges of an output through what leaves them

As with `Keeps`, each function on the way of an edge, an enable or an apply has one lemma, of its name, that follows the function's
text. -/

/-- `t` follows `s` with the edges of output `o` as they were, and as many outputs. -/
structure EdgesKept (o : Nat) (s t : State) : Prop where
  edges : t.edges o = s.edges o
  length : t.outs.length = s.outs.length

section
variable {s t u : State} {o : Nat}

theorem EdgesKept.refl (s : State) : EdgesKept o s s := ⟨rfl, rfl⟩

theorem EdgesKept.ite {c : Prop} {_ : Decidable c} (ht : EdgesKept o s t) (hu : EdgesKept o s u) :
    EdgesKept o s (if c then t else u) := by
  split <;> assumption

/-- A step taken where a condition holds. -/
theorem EdgesKept.when {c : Prop} {_ : Decidable c} (h : EdgesKept o s t) (k : EdgesKept o s t → EdgesKept o s u) :
    EdgesKept o s (if c then u else t) :=
  (k h).ite h

/-- A step taken where a condition does not hold. -/
theorem EdgesKept.unless {c : Prop} {_ : Decidable c} (h : EdgesKept o s t) (k : EdgesKept o s t → EdgesKept o s u) :
    EdgesKept o s (if c then t else u) :=
  h.ite (k h)

theorem EdgesKept.foldl {α : Type} {l : List α} {f : State → α → State} (h : EdgesKept o s t)
    (hf : ∀ {u x}, EdgesKept o s u → EdgesKept o s (f u x)) : EdgesKept o s (l.foldl f t) := by
  induction l generalizing t with
  | nil => exact h
  | cons x l ih => exact ih (hf h)

/-- A state with the same outputs. -/
theorem EdgesKept.rest (h : EdgesKept o s t) (ho : u.outs = t.outs := by rfl) : EdgesKept o s u :=
  ⟨(State.edges_congr ho).trans h.edges, (congrArg List.length ho).trans h.length⟩

/-- A new state of the output with the edges it has. -/
theorem EdgesKept.setOut {x : OutSt} (h : EdgesKept o s t) (hx : x.edges = t.edges o := by rfl) : EdgesKept o s (t.setOut o x) :=
  ⟨(State.edges_setOut hx).trans h.edges, (State.setOut_length ..).trans h.length⟩

section
variable (h : EdgesKept o s t) {fc fm : Fld} {v i : Nat}
include h

theorem EdgesKept.until_ : EdgesKept o s (t.until_ i) := h.rest (State.until_outs ..)
theorem EdgesKept.oPut : EdgesKept o s (t.oPut o fc fm v) := .ite h.rest h.rest
theorem EdgesKept.oFlag : EdgesKept o s (t.oFlag o fc fm) := .ite (h.rest (State.flag_outs ..)) (h.rest (State.flag_outs ..))
theorem EdgesKept.oBump : EdgesKept o s (t.oBump o fc fm) := .ite (h.rest (State.bump_outs ..)) (h.rest (State.bump_outs ..))
theorem EdgesKept.oSuppress : EdgesKept o s (t.oSuppress o) := h.oFlag.oBump
theorem EdgesKept.oClampCheck : EdgesKept o s (t.oClampCheck o) := h.when (·.oFlag)
theorem EdgesKept.setDrv : EdgesKept o s (t.setDrv o v) := h.oPut
theorem EdgesKept.wakeGroup {g : Nat} : EdgesKept o s (t.wakeGroup g) := h.unless (·.rest)

/-- DRV changes, and the output's own state with it. -/
theorem EdgesKept.setDrvOut {x : OutSt} (hx : x.edges = t.edges o := by rfl) : EdgesKept o s ((t.setDrv o v).setOut o x) :=
  h.setDrv.setOut (hx.trans (EdgesKept.refl t).setDrv.edges.symm)

theorem EdgesKept.driverOff : EdgesKept o s (t.driverOff o) := h.setDrvOut

theorem EdgesKept.applyWord {a : Nat} : EdgesKept o s (t.applyWord a) := by
  unfold State.applyWord
  split
  · exact h
  · exact h.rest
  · split
    exacts [h, h.rest]

theorem EdgesKept.applyWords {as : List Nat} : EdgesKept o s (t.applyWords as) := h.foldl (·.applyWord)

theorem EdgesKept.reform : EdgesKept o s (t.reform o) :=
  (EdgesKept.foldl h (·.rest)).unless (·.setDrvOut.wakeGroup)

theorem EdgesKept.oRefresh : EdgesKept o s (t.oRefresh o) := h.setOut.oPut.oPut.when (·.reform)

theorem EdgesKept.applyOut : EdgesKept o s (t.applyOut o) :=
  ((h.applyWords.oPut.oClampCheck.when (·.setOut)).when (·.oPut)).oRefresh

theorem EdgesKept.applyIfWaiting : EdgesKept o s (t.applyIfWaiting o) := h.when (·.applyOut)

theorem EdgesKept.consumeLead {n : NextLead} : EdgesKept o s (t.consumeLead o n) := by
  unfold State.consumeLead
  dsimp only
  split
  exacts [h, h.setOut, h.setOut, h.setOut]

theorem EdgesKept.expectEdge {lead shown : Bool} : EdgesKept o s (t.expectEdge o i lead shown) := h.setOut

/-- The end of an active phase of the light limiter changes the limiter alone. -/
theorem EdgesKept.gateTrail : EdgesKept o s (t.gateTrail o i) := h.foldl (·.rest)

end

end

/-! ### Commands with no event ahead -/

/-- Where no event of Heddle lies ahead, none has to take place before the instant that a command seeks. -/
theorem State.settle_nil {s : State} (at_ : State → Option Nat) (h : s.pins = []) : State.settle at_ s.pins.length s = s := by
  rw [h]
  rfl

section
variable {s : State} {o : Fin 72} (hp : s.pins = [])
include hp

theorem exec_leadingEdge {l : Nat} (hl : (s.nextLead o.val).at_ = some l) :
    exec (.leadingEdge o) s = .next (s.leadEdge o.val (s.nextLead o.val) l) := by
  change execLeadingEdge o s = _
  unfold execLeadingEdge
  simp only [State.settle_nil _ hp, hl]

theorem exec_trailingEdge {p : Pulse} {e : Nat} (ha : (s.out o.val).act = some p) (he : p.trail = some e) :
    exec (.trailingEdge o) s = .next (s.trailEdge o.val e p) := by
  change execTrailingEdge o s = _
  unfold execTrailingEdge
  simp only [State.settle_nil _ hp, ite_self, ha, he]

end

/-! ### A leading edge -/

section
variable (s : State) (o t : Nat)

theorem State.safe_until : (s.until_ t).safe = s.safe := State.is_congr (State.until_regs ..) _ _

theorem State.pulseOf_until (n : NextLead) : (s.until_ t).pulseOf o n = s.pulseOf o n := by rw [State.until_eq]; rfl

theorem State.breaks_until (l : Nat) (tr : Option Nat) : (s.until_ t).breaks o l tr = s.breaks o l tr := by rw [State.until_eq]; rfl

theorem State.shows_until : (s.until_ t).shows o = s.shows o := by rw [State.until_eq]; rfl

theorem State.gateFibres_until : (s.until_ t).gateFibres o = s.gateFibres o := by rw [State.until_eq]; rfl

end

section
variable {s : State} {o l : Nat} {n : NextLead}

/-- A channel that no fibre designates as its gate is judged by no limiter. -/
theorem State.gateLead_of_no_fibre (h : s.gateFibres o = []) : s.gateLead o l = (s, true) := by
  simp [State.gateLead, State.gateAdmits, h]

theorem State.leadEdge_of_safe (h : s.safe = true) :
    s.leadEdge o n l = ((((s.until_ l).consumeLead o n).oSuppress o).oRefresh o).applyIfWaiting o :=
  if_pos ((State.safe_until ..).trans h)

/-- The leading edge at `l` of pulse `p` taken by the schedule, before what the ball shows of it. -/
def State.pulseTaken (s : State) (o : Nat) (n : NextLead) (l : Nat) (p : Pulse) : State :=
  let u := (s.until_ l).consumeLead o n
  (u.setOut o { u.out o with act := some { p with shown := s.shows o, barred := false }, lastLead := some l }).expectEdge o l true
    (s.shows o)

/-- On PLL_W a pulse of no gate that breaks neither R95 nor R108 is taken: the ball shows it, or counts it as suppressed unless it is OFF. -/
theorem State.leadEdge_taken {p : Pulse} (hp : s.pulseOf o n = some p) (hs : s.safe = false) (hb : s.breaks o l p.trail = false)
    (hg : s.gateFibres o = []) : s.leadEdge o n l = (if s.shows o then (s.pulseTaken o n l p).emitEdge o l
      else if 1 ≤ ((s.pulseTaken o n l p).out o).enBall then (s.pulseTaken o n l p).oSuppress o else s.pulseTaken o n l p).oRefresh o := by
  have hgate : (if s.shows o = true ∧ o < 64 then (s.until_ l).gateLead o l else (s.until_ l, true)) = (s.until_ l, true) := by
    rw [State.gateLead_of_no_fibre ((s.gateFibres_until o l).trans hg), ite_self]
  unfold State.leadEdge State.pulseTaken
  simp only [State.safe_until, hs, State.pulseOf_until, hp, Option.bind_some, State.breaks_until, hb, Bool.false_eq_true, if_false, hgate,
    State.shows_until, Bool.and_true, Bool.and_not_self]
  cases s.shows o <;> rfl

theorem State.ballVals_pulseTaken {p : Pulse} : (s.pulseTaken o n l p).ballVals o = s.ballVals o := by
  have hv : ((s.until_ l).consumeLead o n).vals = s.vals := by
    rw [← State.until_vals s l]
    cases n <;> rfl
  exact congrArg (fun v => getKey {} v _) hv

section
variable {p : Pulse} (hl : o < s.outs.length)
include hl

theorem State.pulseTaken_length : o < (s.pulseTaken o n l p).outs.length := by
  unfold State.pulseTaken State.expectEdge
  simpa [State.setOut_length, (EdgesKept.refl (s.until_ l)).consumeLead.length] using hl

theorem State.edges_pulseTaken : (s.pulseTaken o n l p).edges o =
    ⟨some { p with shown := s.shows o, barred := false }, some l, (s.out o).lastTrail, (s.out o).sent⟩ := by
  have hk : EdgesKept o s ((s.until_ l).consumeLead o n) := (EdgesKept.refl s).until_.consumeLead
  unfold State.pulseTaken
  rw [(EdgesKept.refl _).expectEdge.edges, State.edges_setOut_same (hk.length.symm ▸ hl)]
  exact congrArg₂ (OutEdges.mk _ _) (congrArg OutEdges.lastTrail hk.edges) (congrArg OutEdges.sent hk.edges)

/-- The edges of an output after a leading edge: a shown one leaves the ball with the working SKEW added. -/
theorem State.edges_leadEdge (hp : s.pulseOf o n = some p) (hs : s.safe = false) (hb : s.breaks o l p.trail = false)
    (hg : s.gateFibres o = []) : (s.leadEdge o n l).edges o =
      ⟨some { p with shown := s.shows o, barred := false }, some l, (s.out o).lastTrail,
        if s.shows o then some (tShift l (s.ballVals o).skew) else (s.out o).sent⟩ := by
  rw [State.leadEdge_taken hp hs hb hg, (EdgesKept.refl _).oRefresh.edges]
  have ht := State.edges_pulseTaken (n := n) (l := l) (p := p) hl
  split
  · refine (State.edges_setOut_same (State.pulseTaken_length hl)).trans ?_
    rw [State.ballVals_pulseTaken]
    exact congrArg (fun e : OutEdges => OutEdges.mk e.act e.lastLead e.lastTrail _) ht
  · exact ((EdgesKept.refl _).when (·.oSuppress)).edges.trans ht

end
end

/-! ### A trailing edge -/

/-- A trailing edge at `e` leaves the output with no active pulse, and is the latest one. -/
theorem State.edges_trailEdge {s : State} {o e : Nat} {p : Pulse} (hl : o < s.outs.length) :
    ∃ lead sent, (s.trailEdge o e p).edges o = ⟨none, lead, some e, sent⟩ := by
  unfold State.trailEdge
  extract_lets s₁ s₂ s₃ x s₄ v y s₅ s₆
  have h₂ : EdgesKept o s s₂ := (EdgesKept.refl s).until_.expectEdge
  have h₃ : s₃.outs.length = s.outs.length := by
    unfold s₃
    split
    exacts [(State.setOut_length ..).trans h₂.gateTrail.length, h₂.length]
  have h₄ : s₄.edges o = ⟨none, x.lastLead, some e, x.sent⟩ := State.edges_setOut_same (h₃.symm ▸ hl)
  have h₅ : EdgesKept o s₄ s₅ := .ite (EdgesKept.refl s₄).driverOff (EdgesKept.refl s₄).setOut
  exact ⟨_, _, (EdgesKept.ite h₅.oRefresh.applyOut h₅.oRefresh.applyIfWaiting).edges.trans h₄⟩

/-! ### ENABLE and the driver -/

section
variable (s : State) (o : Nat)

@[simp] theorem State.oEnable_oSuppress : (s.oSuppress o).oEnable o = s.oEnable o :=
  (State.oGet_oBump_apart _ o (by decide) (by decide)).trans (State.oGet_oFlag_apart s o (by decide) (by decide))

@[simp] theorem State.oEnable_setDrv (v : Nat) : (s.setDrv o v).oEnable o = s.oEnable o :=
  State.oGet_oPut_apart s o (by decide) (by decide) v

@[simp] theorem State.oEnable_setOut (x : OutSt) : (s.setOut o x).oEnable o = s.oEnable o := rfl

@[simp] theorem State.oEnable_wakeGroup (g : Nat) : (s.wakeGroup g).oEnable o = s.oEnable o := by
  unfold State.wakeGroup
  split <;> rfl

@[simp] theorem State.oEnable_driverOff : (s.driverOff o).oEnable o = s.oEnable o := State.oEnable_setDrv s o 0

/-- ENABLE lies in a word after that of the timebase load. -/
theorem State.oEnable_checkLoad : s.checkLoad.oEnable o = s.oEnable o := by
  have ho : Only [aTB_LOAD_CTRL] s s.checkLoad := (Only.refl _ s).checkLoad
  have hc {b i : Nat} (hb : aTB_LOAD_CTRL < b) : b + i ∉ [aTB_LOAD_CTRL] :=
    not_mem_of_lt (aTB_LOAD_CTRL + 1) (by simp) (Nat.le_add_right_of_le hb)
  unfold State.oEnable State.oGet
  rw [ho.get (hc (by decide)), ho.get (hc (by decide))]

/-- ENABLE reads the value that takes effect, but for the value 3. -/
theorem State.oEnable_enable {v : Nat} (hv : v < 4) (h3 : v ≠ 3) : (s.enable o v).oEnable o = v := by
  have hp : (s.oPut o fWARP_CH_CTRL_ENABLE fMOUT_CTRL_ENABLE v).oEnable o = v :=
    State.oGet_oPut_same s o (by decide) (by decide) hv hv
  unfold State.enable
  rw [if_neg h3]
  extract_lets old s₁ s₂ x shown
  have h₂ : s₂.oEnable o = v := by
    unfold s₂
    split
    exacts [(State.oEnable_oSuppress s₁ o).trans hp, hp]
  split
  · simp [h₂]
  split
  · exact h₂
  split <;> simp [h₂]

theorem State.enable_notUsed : s.enable o 3 = s := if_pos rfl

/-- OFF while no pulse is active takes the driver off at once. -/
theorem State.enable_off {s : State} {o : Nat} (h : s.oEnable o ≠ 0) (ha : (s.out o).act = none) :
    s.enable o 0 = (s.oPut o fWARP_CH_CTRL_ENABLE fMOUT_CTRL_ENABLE 0).driverOff o := by
  have hout : (s.oPut o fWARP_CH_CTRL_ENABLE fMOUT_CTRL_ENABLE 0).out o = s.out o := by
    unfold State.oPut
    split <;> rfl
  simp [State.enable, h, hout, ha]

/-- The word of the timebase load is none of an output's. -/
theorem State.loadWaits_oPut {fc fm : Fld} (v : Nat) (hc : aTB_LOAD_CTRL < fc.base) (hm : aTB_LOAD_CTRL < fm.base) :
    (s.oPut o fc fm v).loadWaits = s.loadWaits := by
  have hb {b i : Nat} (h : aTB_LOAD_CTRL < b) : fTB_LOAD_CTRL_GO.base + 0 ≠ b + i := Nat.ne_of_lt (Nat.lt_add_right i h)
  unfold State.oPut
  split
  exacts [State.is_put_apart s v (.inl (hb hc)), State.is_put_apart s v (.inl (hb hm))]

theorem State.loadWaits_driverOff : (s.driverOff o).loadWaits = s.loadWaits := State.loadWaits_oPut s o 0 (by decide) (by decide)

end

/-! ### Applies -/

section
variable (s : State)

/-- With no bank selected no channel is. -/
theorem chansOf_no_bank (chans : Nat) : chansOf 0 chans = [] := by simp [chansOf]

theorem exec_warpApply_no_bank (chans : Fin 256) :
    exec (.warpApply 0 chans) s = .next ((s.put fWARP_APPLY_BANK_MASK 0).put fWARP_APPLY_CH_MASK chans.val) := by
  change execWarpApply 0 chans s = _
  unfold execWarpApply
  rw [Fin.val_zero, chansOf_no_bank]
  rfl

theorem RegsOnly.checkLoad : RegsOnly s s.checkLoad := by
  rcases s.checkLoad_cases with e | ⟨r, e⟩ <;> rw [e]
  exact .loadRefuse s r

/-- The mask of MOUT_APPLY lies apart from the outputs' modes. -/
theorem State.oMode_put_outMask (v : Nat) {o : Nat} (hl : 64 ≤ o) (hu : o < 72) :
    (s.put fMOUT_APPLY_OUT_MASK v).oMode o = s.oMode o := by
  have hne : aMOUT_CTRL + (o - 64) ≠ aMOUT_APPLY + 0 := by
    unfold aMOUT_CTRL aMOUT_APPLY
    omega
  unfold State.oMode
  rw [if_neg (not_lt.mpr hl), if_neg (not_lt.mpr hl), State.get_put_apart s v (.inl hne), State.is_put_apart s v (.inl hne)]

end

/-- Settles O11: the edges of an output through each command are those that `EdgesKept` follows (`State.edges_leadEdge`,
`State.edges_trailEdge`), ENABLE is read by `State.oEnable_enable`, and applies ask the outputs that their masks select (R166 for the master
outputs). A pulse judged by the pulses before it is log entry 95. -/
theorem edgesAtBalls : Obligations.EdgesAtBalls := by
  unfold Obligations.EdgesAtBalls
  refine ⟨?lead, ?taken, ?grid, ?trail, ?ended, ?enable, ?notUsed, ?off, ?awake, fun _ _ _ => rfl, ?noBank, ?noOutput, ?edgeMode⟩
  case lead => exact fun s o l hp hl => exec_leadingEdge hp hl
  case taken =>
    intro s o l p hp hl hpulse hs hb hg
    have he := State.edges_leadEdge (State.lt_length_of_nextLead hl) hpulse hs hb hg
    exact ⟨_, exec_leadingEdge hp hl, congrArg OutEdges.act he, congrArg OutEdges.lastLead he, congrArg OutEdges.sent he⟩
  case grid =>
    intro s o l hp hn hs
    have hl : (s.nextLead o.val).at_ = some l := by rw [hn]; rfl
    rw [exec_leadingEdge hp hl, State.leadEdge_of_safe hs, hn]
  case trail => exact fun s o p e hp ha he => exec_trailingEdge hp ha he
  case ended =>
    intro s o p e hp ha he
    obtain ⟨lead, sent, ht⟩ := State.edges_trailEdge (e := e) (p := p) (State.lt_length_of_act ha)
    exact ⟨_, exec_trailingEdge hp ha he, congrArg OutEdges.act ht, congrArg OutEdges.lastTrail ht⟩
  case enable =>
    exact fun s o v hv => ⟨_, rfl, (State.oEnable_checkLoad _ _).trans (State.oEnable_enable s o.val v.isLt hv), rfl⟩
  case notUsed => exact fun s o => congrArg (fun u : State => Host.Outcome.next u.checkLoad) (s.enable_notUsed o.val)
  case off =>
    intro s o h ha hw
    have hn : (s.enable o.val 0).loadWaits = false := by
      rw [State.enable_off h ha, State.loadWaits_driverOff, State.loadWaits_oPut s o.val 0 (by decide) (by decide), hw]
    exact congrArg Host.Outcome.next ((State.checkLoad_of_none hn).trans (State.enable_off h ha))
  case awake => exact fun s o h ha => if_pos ⟨h, ha⟩
  case noBank =>
    intro s chans
    refine ⟨_, exec_warpApply_no_bank s chans, ?_, ?_, (Only.refl _ s).put.put, rfl⟩
    · exact (State.get_put_apart _ _ (by decide)).trans (State.get_put_of_lt s (by decide) (by decide))
    · exact State.get_put_of_lt _ (by decide) chans.isLt
  case noOutput =>
    intro s
    refine ⟨_, rfl, ?_, (Only.refl [aMOUT_APPLY, aTB_LOAD_CTRL] s).put.checkLoad, .trans (.put s fMOUT_APPLY_OUT_MASK 0 0) (.checkLoad _)⟩
    exact ((Only.refl [aTB_LOAD_CTRL] _).checkLoad.get (by decide)).trans (State.get_put_of_lt s (by decide) (by decide))
  case edgeMode =>
    intro s h
    have hm : (s.put fMOUT_APPLY_OUT_MASK 128).oMode 71 ≠ 5 := by rw [State.oMode_put_outMask s 128 (by decide) (by decide), h]; decide
    exact congrArg (fun u : State => Host.Outcome.next u.checkLoad) (if_neg fun hc => hm hc.1)

end Sys2Proof.Machine


/-! # Timed applies of channels and master outputs: ARM and CANCEL (R117, R167) -/

namespace Sys2Proof.Machine

/-! ### A command handed to its FIFO -/

theorem Only.sendDue {ws : List Nat} {s t : State} {c : DueCmd} (h : Only ws s t) (ha : aHSF_STALL + c.src ∈ ws) :
    Only ws s (t.sendDue c) :=
  (Only.ite (h.bump ha) h).rest

/-- A command handed over joins the FIFO with its commit in the present wc; beside them only the count of stalls may change. -/
theorem State.sendDue_eq (s : State) (c : DueCmd) : s.sendDue c = { s with
    regs := (s.sendDue c).regs, evts := (s.sendDue c).evts, hsf := s.hsf ++ [c], sentAt := s.sentAt ++ [(c, s.now)] } := by
  unfold State.sendDue
  dsimp only
  split
  · rw [RegsOnly.bump s fHSF_STALL_STALLS c.src 1]
  · rfl

/-! ### ARM -/

/-- An ARM that is accepted, from `s` to `t`: PENDING (field `f`) is set and command `c` of source 6 joins its FIFO, its commit in the
present wc; beside them only the control word, the FIFO's count of stalls and the note of the wc's events may change. -/
def TapplyArmed (f : Fld) (c : DueCmd) (s t : State) : Prop :=
  t.is f = true ∧ t.hsf = s.hsf ++ [c] ∧ t.sentAt = s.sentAt ++ [(c, s.now)] ∧ Only [f.base, aHSF_STALL + 6] s t ∧
    t = { s with regs := t.regs, evts := t.evts, hsf := t.hsf, sentAt := t.sentAt }

/-- ARM sets PENDING and hands its command over, once its masks are stored. -/
theorem TapplyArmed.sendDue {f : Fld} {c : DueCmd} {s u : State} (hf : f.lo + fldWidth f ≤ 36) (hs : f.base ≠ aHSF_STALL + 6)
    (hc : c.src = 6) (hr : RegsOnly s u) (ho : Only [f.base] s u) : TapplyArmed f c s ((u.flag f).sendDue c) := by
  have hv : RegsOnly s (u.flag f) := hr.trans (.flag u f 0)
  have hstall : Only [aHSF_STALL + 6] (u.flag f) ((u.flag f).sendDue c) := (Only.refl _ _).sendDue (by simp [hc])
  refine ⟨?_, ?_, ?_, ((ho.flag (by simp)).mono (by simp)).trans (hstall.mono (by simp)), ?_⟩
  · exact (hstall.is fun h => hs (List.mem_singleton.mp h)).trans (State.is_flag u f 0 hf)
  all_goals rw [State.sendDue_eq, hv]

section
variable {s : State}

theorem exec_warpTapplyArm {banks chans : Fin 256} {u : State}
    (hu : u = (s.put fWARP_TAPPLY_CTRL_BANK_MASK banks.val).put fWARP_TAPPLY_CTRL_CH_MASK chans.val)
    (h : u.is fWARP_TAPPLY_CTRL_PENDING = false) : exec (.warpTapplyArm banks chans) s = .next ((u.flag fWARP_TAPPLY_CTRL_PENDING).sendDue
      (DueCmd.mk (.chApply banks.val chans.val) 3 (tsOf (s.word aWARP_TAPPLY_LO) (s.word aWARP_TAPPLY_HI)) 6)) := by
  have ho : Only [aWARP_TAPPLY_CTRL] s u := hu ▸ (Only.refl _ s).put.put
  rw [← ho aWARP_TAPPLY_LO (by decide), ← ho aWARP_TAPPLY_HI (by decide)]
  subst hu
  exact if_neg (ne_true_of_eq_false h)

theorem exec_moutTapplyArm {outs : Fin 256} {u : State} (hu : u = s.put fMOUT_TAPPLY_CTRL_OUT_MASK outs.val)
    (h : u.is fMOUT_TAPPLY_CTRL_PENDING = false) : exec (.moutTapplyArm outs) s = .next ((u.flag fMOUT_TAPPLY_CTRL_PENDING).sendDue
      (DueCmd.mk (.moApply outs.val) 3 (tsOf (s.word aMOUT_TAPPLY_LO) (s.word aMOUT_TAPPLY_HI)) 6)) := by
  have ho : Only [aMOUT_TAPPLY_CTRL] s u := hu ▸ (Only.refl _ s).put
  rw [← ho aMOUT_TAPPLY_LO (by decide), ← ho aMOUT_TAPPLY_HI (by decide)]
  subst hu
  exact if_neg (ne_true_of_eq_false h)

/-! ### CANCEL -/

theorem exec_warpTapplyCancel : exec .warpTapplyCancel s =
    .next (((s.cancelDue (fun c => isChApply c.target)).map (·.unflag fWARP_TAPPLY_CTRL_PENDING)).getD s) := by
  change execWarpTapplyCancel s = _
  unfold execWarpTapplyCancel
  cases s.cancelDue _ <;> rfl

theorem exec_moutTapplyCancel : exec .moutTapplyCancel s =
    .next (((s.cancelDue (fun c => isMoApply c.target)).map (·.unflag fMOUT_TAPPLY_CTRL_PENDING)).getD s) := by
  change execMoutTapplyCancel s = _
  unfold execMoutTapplyCancel
  cases s.cancelDue _ <;> rfl

end

/-- Settles O12: an accepted ARM is `TapplyArmed`, one that finds PENDING set its masks and ARM_BUSY, and CANCEL follows what
`State.cancelDue` finds. -/
theorem timedApplyArming : Obligations.TimedApplyArming := by
  unfold Obligations.TimedApplyArming
  refine ⟨?warpArm, ?warpBusy, ?warpCancel, ?warpNone, ?moutArm, ?moutBusy, ?moutCancel, ?moutNone⟩
  case warpArm =>
    exact fun s banks chans h => ⟨_, exec_warpTapplyArm rfl h, TapplyArmed.sendDue (by decide) (by decide) rfl rfl
      (Only.refl _ s).put.put⟩
  case warpBusy =>
    intro s banks chans h
    exact if_pos ((State.is_put_apart _ _ (by decide)).trans ((State.is_put_apart s _ (by decide)).trans h))
  case warpCancel =>
    intro s s' h
    rw [exec_warpTapplyCancel, h]
    rfl
  case warpNone =>
    intro s h
    rw [exec_warpTapplyCancel, h]
    rfl
  case moutArm =>
    exact fun s outs h => ⟨_, exec_moutTapplyArm rfl ((State.is_put_apart s _ (by decide)).trans h),
      TapplyArmed.sendDue (by decide) (by decide) rfl rfl (Only.refl _ s).put⟩
  case moutBusy => exact fun s outs h => if_pos ((State.is_put_apart s _ (by decide)).trans h)
  case moutCancel =>
    intro s s' h
    rw [exec_moutTapplyCancel, h]
    rfl
  case moutNone =>
    intro s h
    rw [exec_moutTapplyCancel, h]
    rfl

end Sys2Proof.Machine


/-! # The echo checker (R121 to R125, R129, R175, R247) -/

namespace Sys2Proof.Machine

/-! ### Edges classified -/

section
variable {s : State}

/-- With no injection in force none acts. -/
theorem State.injActs_of_none (h : s.selv.inj = none) (k : Nat) : s.injActs k = none := by simp [State.injActs, h]

theorem State.injGen_of_none (h : s.selv.inj = none) (k u t : Nat) : s.injGen k u t = none := by
  simp [State.injGen, State.injActs_of_none h]

/-- With no injection in force the checker sees the edge, or its absence, as it is. -/
theorem State.injSeen_of_none {o t : Nat} {lead : Bool} (h : s.selv.inj = none) (d : Option Int) :
    s.injSeen o t lead (d.elim .none_ .seen) = (d.elim .none_ .seen, s) := by
  cases d <;> simp [State.injSeen, State.injEdge, State.injEdgeUsed, State.injGen_of_none h, State.injActs_of_none h]

/-- Taking an edge off the list leaves the frequency in force. -/
theorem State.within_echoTaken (s : State) (o : Nat) (rest : List (Nat × Bool)) (d : Int) (ps : Nat) :
    (s.echoTaken o rest).within d ps = s.within d ps := rfl

variable {o : Fin 72} {t : Nat} {lead : Bool} {rest : List (Nat × Bool)} (hr : s.echoRuns o.val = true) (hi : s.selv.inj = none)
  (he : (s.out o.val).echo = (t, lead) :: rest)
include hr hi he

/-- An expected edge seen is judged 1 wc after it by its deviation, the working ECHO_OFS removed. -/
theorem exec_echoClassify_seen {d : Int} {u : State} (hu : u = (s.flowTo (tAdd t 1024)).echoTaken o.val rest) :
    exec (.echoClassify o (.seen d)) s = if u.safe ∨ u.within (d - s.echoOfs o.val) 20 then .next u
      else if (d - s.echoOfs o.val).natAbs ≤ 1024 then .next (u.echoError o.val 4 (d - s.echoOfs o.val) t u.nowT)
      else .next (u.echoError o.val 1 0 t u.nowT) := by
  have hs : s.injSeen o.val t lead (.seen d) = (.seen d, s) := State.injSeen_of_none hi (some d)
  change execEchoClassify o (.seen d) s = _
  unfold execEchoClassify
  simp only [he, hs, hr, not_true_eq_false, if_false, hu]

/-- An expected edge that does not come is an error, but for a leading edge on the safe clock. -/
theorem exec_echoClassify_none {u : State} (hu : u = (s.flowTo (tAdd t 1024)).echoTaken o.val rest) :
    exec (.echoClassify o .none_) s = if u.safe ∧ lead then .next u else .next (u.echoError o.val 1 0 t u.nowT) := by
  have hs : s.injSeen o.val t lead .none_ = (.none_, s) := State.injSeen_of_none hi none
  change execEchoClassify o .none_ s = _
  unfold execEchoClassify
  simp only [he, hs, hr, not_true_eq_false, if_false, hu]

end

/-! ### Level checks -/

/-- The level check noted at instant `t`. -/
def State.checkNoted (s : State) (o t : Nat) : State := s.setOut o { s.out o with chk := some t }

section
variable {s : State} {o t : Nat} {high : Bool}

theorem State.act_checkNoted : ((s.checkNoted o t).out o).act = (s.out o).act :=
  congrArg OutEdges.act (State.edges_setOut (x := { s.out o with chk := some t }) rfl)

theorem State.scheduledHigh_checkNoted : (s.checkNoted o t).scheduledHigh o = s.scheduledHigh o := by
  unfold State.scheduledHigh
  rw [State.act_checkNoted]
  rfl

theorem State.heldIdle_checkNoted : (s.checkNoted o t).heldIdle o = s.heldIdle o := by
  unfold State.heldIdle
  rw [State.act_checkNoted]
  rfl

/-- A level check is noted; a level other than the schedule's is an error of the gate where its ball is held idle, and of the echo
elsewhere. -/
theorem State.levelCheck_eq : s.levelCheck o t high = if high = s.scheduledHigh o then s.checkNoted o t
    else if s.heldIdle o then (s.checkNoted o t).gateErr o else (s.checkNoted o t).echoError o 3 0 t t := by
  unfold State.levelCheck
  rw [← State.scheduledHigh_checkNoted (t := t), ← State.heldIdle_checkNoted (t := t)]
  rfl

/-- Passing time changes neither the ball's level in the schedule nor what holds it idle. -/
theorem State.scheduledHigh_until (i : Nat) : (s.until_ i).scheduledHigh o = s.scheduledHigh o := by rw [State.until_eq]; rfl

theorem State.heldIdle_until (i : Nat) : (s.until_ i).heldIdle o = s.heldIdle o := by
  have hl : (s.until_ i).ilLatch = s.ilLatch := State.is_congr (State.until_regs s i) _ _
  unfold State.heldIdle
  rw [State.gateFibres_until, State.out_congr (State.until_outs s i), hl]

theorem State.checkNoted_until (i : Nat) : (s.until_ i).checkNoted o t = (s.until_ i).setOut o { s.out o with chk := some t } := by
  unfold State.checkNoted
  rw [State.out_congr (State.until_outs s i)]

end

/-- Where no event lies ahead the next level check takes place at its instant. -/
theorem exec_echoLevelCheck {s : State} {o : Fin 72} {t : Nat} (high : Bool) (hp : s.pins = []) (hr : s.echoRuns o.val = true)
    (hc : s.nextCheck o.val = some t) : exec (.echoLevelCheck o high) s =
    .next (if high = s.scheduledHigh o.val then (s.until_ t).checkNoted o.val t else if s.heldIdle o.val then
      ((s.until_ t).checkNoted o.val t).gateErr o.val else ((s.until_ t).checkNoted o.val t).echoError o.val 3 0 t t) := by
  rw [← s.scheduledHigh_until t, ← s.heldIdle_until t, ← State.levelCheck_eq]
  change execEchoLevelCheck o high s = _
  unfold execEchoLevelCheck
  simp only [State.settle_nil _ hp, hr, not_true_eq_false, if_false, hc]

/-- Settles O13: with no injection in force the checker judges what comes (`exec_echoClassify_seen`, `exec_echoClassify_none`), and a level
check what `State.levelCheck_eq` says. That a record of a level check is dated at the check's instant is log entry 96. -/
theorem echoChecker : Obligations.EchoChecker := by
  unfold Obligations.EchoChecker
  refine ⟨?passes, ?late, ?missing, ?level, ?wrong, ?held⟩
  case passes =>
    rintro s o obs d t lead rest hr hi rfl he hw
    exact (exec_echoClassify_seen hr hi he rfl).trans (if_pos (.inr ((State.within_echoTaken ..).trans hw)))
  case late =>
    rintro s o obs d t lead rest hr hi rfl he hs hw hd
    refine (exec_echoClassify_seen hr hi he rfl).trans ((if_neg ?_).trans (if_pos hd))
    exact not_or.mpr ⟨ne_true_of_eq_false hs, ne_true_of_eq_false hw⟩
  case missing =>
    intro s o t lead rest hr hi he hs
    exact (exec_echoClassify_none hr hi he rfl).trans (if_neg fun h => ne_true_of_eq_false hs h.1)
  case level =>
    intro s o high t hp hr hc hh
    rw [exec_echoLevelCheck high hp hr hc, if_pos hh, State.checkNoted_until]
  case wrong =>
    intro s o high t hp hr hc hh hi
    rw [exec_echoLevelCheck high hp hr hc, if_neg hh, if_neg (ne_true_of_eq_false hi), State.checkNoted_until]
  case held =>
    intro s o high t hp hr hc hh hi
    rw [exec_echoLevelCheck high hp hr hc, if_neg hh, if_pos hi, State.checkNoted_until]

end Sys2Proof.Machine


/-! # Failover of a channel to its bank's spare (R125, R126, R130) -/

namespace Sys2Proof.Machine

/-! ### The words of a bank and of its channels -/

section
variable (s : State) (b k : Fin 8)

/-- The status words of the banks lie after those of the channels. -/
theorem chanStatus_ne_bankStatus {i : Nat} (hi : i < 8) : aWARP_CH_STATUS + (8 * b.val + i) ≠ aWARP_BANK_STATUS + b.val := by
  unfold aWARP_CH_STATUS aWARP_BANK_STATUS
  omega

/-- FO_CH of bank `b` is stored. -/
def State.foCh : State := s.put fWARP_BANK_CTRL_FO_CH k.val b.val

/-- The control words of the banks lie before their status words and after the words of the channels. -/
theorem State.get_foCh {f : Fld} {o : Nat} (h : f.base + o < aWARP_BANK_CTRL ∨ aWARP_BANK_CTRL + 8 ≤ f.base + o) :
    (s.foCh b k).get f o = s.get f o := by
  have hne : f.base + o ≠ fWARP_BANK_CTRL_FO_CH.base + b.val := by
    have hb : fWARP_BANK_CTRL_FO_CH.base = aWARP_BANK_CTRL := rfl
    omega
  exact State.get_put_apart s _ (.inl hne)

theorem State.get_foCh_bankStatus {f : Fld} {i : Nat} (h : f.base = aWARP_BANK_STATUS) : (s.foCh b k).get f i = s.get f i :=
  s.get_foCh b k (.inr (h ▸ Nat.le_add_right_of_le (by decide)))

theorem State.is_foCh_channel {f : Fld} {n : Nat} (h : f.base = aWARP_CH_CTRL ∨ f.base = aWARP_CH_STATUS) (hn : n < 64) :
    (s.foCh b k).is f n = s.is f n := by
  refine congrArg (· == 1) (s.get_foCh b k (.inl ?_))
  simp only [aWARP_CH_CTRL, aWARP_CH_STATUS, aWARP_BANK_CTRL] at h ⊢
  omega

theorem State.spareDrives_foCh {n : Nat} (hn : n < 64) : (s.foCh b k).spareDrives n = s.spareDrives n := by
  unfold State.spareDrives
  rw [State.get_foCh_bankStatus s b k rfl, State.get_foCh_bankStatus s b k rfl, State.is_foCh_channel s b k (.inr rfl) hn]

/-! ### FO_FORCE and FO_RELEASE -/

theorem exec_foRelease : exec (.foRelease b k) s = .next (if s.get fWARP_BANK_STATUS_SPARE_CH b.val ≠ k.val then s.foCh b k
    else if s.get fWARP_BANK_STATUS_SPARE_STATE b.val = 4 then (s.foCh b k).setBank b.val { nth s.banks b.val with release := true }
    else if s.get fWARP_BANK_STATUS_SPARE_STATE b.val = 3 then ((s.foCh b k).put fWARP_BANK_STATUS_SPARE_STATE 0 b.val).setBank b.val {}
    else s.foCh b k) := by
  rw [← s.get_foCh_bankStatus b k (f := fWARP_BANK_STATUS_SPARE_CH) rfl,
    ← s.get_foCh_bankStatus b k (f := fWARP_BANK_STATUS_SPARE_STATE) rfl, apply_ite Host.Outcome.next, apply_ite Host.Outcome.next,
    apply_ite Host.Outcome.next]
  rfl

theorem exec_foForce : exec (.foForce b k) s =
    .next (if s.is fWARP_CH_CTRL_FO_EN (8 * b.val + k.val) ∧ ¬ s.spareDrives (8 * b.val + k.val)
      then (s.foCh b k).failoverStart (8 * b.val + k.val) else s.foCh b k) := by
  have hn : 8 * b.val + k.val < 64 := by omega
  rw [← s.is_foCh_channel b k (.inl rfl) hn, ← s.spareDrives_foCh b k hn]
  rfl

end

/-! ### The switch to the spare -/

/-- The ball of channel `n` has gone to the spare of bank `b`. -/
def State.switched (s : State) (b n : Nat) : State :=
  ((s.put fWARP_BANK_STATUS_SPARE_STATE 4 b).flag fWARP_CH_STATUS_FO_ACTIVE n).bump fWARP_BANK_STATUS_FO_COUNT b

section
variable (s : State) {b n : Nat}

theorem RegsOnly.switched : RegsOnly s (s.switched b n) := .trans (.put ..) (.trans (.flag ..) (.bump ..))

theorem Only.switched {ws : List Nat} {s t : State} (h : Only ws s t) (hb : aWARP_BANK_STATUS + b ∈ ws) (hn : aWARP_CH_STATUS + n ∈ ws) :
    Only ws s (t.switched b n) := ((h.put hb).flag hn).bump hb

variable (hne : aWARP_CH_STATUS + n ≠ aWARP_BANK_STATUS + b)
include hne

theorem State.get_switched_state : (s.switched b n).get fWARP_BANK_STATUS_SPARE_STATE b = 4 := by
  unfold State.switched
  rw [State.get_bump_apart _ _ (Fld.Apart.at_same (by decide) b), State.get_flag_apart _ (.inl hne.symm)]
  exact State.get_put_of_lt s (by decide) (by decide)

theorem State.is_switched_active : (s.switched b n).is fWARP_CH_STATUS_FO_ACTIVE n = true :=
  (State.is_bump_apart _ _ (.inl hne)).trans (State.is_flag _ _ _ (by decide))

theorem State.get_switched_count : (s.switched b n).get fWARP_BANK_STATUS_FO_COUNT b =
    satU (fldWidth fWARP_BANK_STATUS_FO_COUNT) (s.get fWARP_BANK_STATUS_FO_COUNT b + 1) := by
  unfold State.switched
  rw [State.get_bump_same _ (by decide), State.get_flag_apart _ (.inl hne.symm),
    State.get_put_apart _ _ (Fld.Apart.at_same (by decide) b)]

end

/-- A switch in an idle wc after the copy; one later than 2 us after the failing edge is marked late. -/
theorem exec_failoverSwitch {s : State} {b : Fin 8} {n : Nat} (hn : n = 8 * b.val + s.get fWARP_BANK_STATUS_SPARE_CH b.val)
    (h3 : s.get fWARP_BANK_STATUS_SPARE_STATE b.val = 3) (hc : (nth s.banks b.val).copied = true) (hi : s.idleWc n = true) :
    ∃ u, (u = s ∨ u = s.flag fWARP_BANK_STATUS_FO_LATE b.val) ∧ exec (.failoverSwitch b) s = .next (u.switched b.val n) := by
  subst hn
  refine ⟨_, ?_, if_pos ⟨h3, hc, hi⟩⟩
  split
  exacts [.inr rfl, .inl rfl]

/-- Settles O14: FO_CH is apart from the words that decide (`exec_foRelease`, `exec_foForce`), and a switch stores what `State.switched`
does. That FO_FORCE acts only with FO_EN 1 is log entry 32. -/
theorem bankFailover : Obligations.BankFailover := by
  unfold Obligations.BankFailover
  refine ⟨?copied, ?switch, ?other, ?release, ?abandon, ?back, ?force, ?noForce⟩
  case copied => exact fun s b h hc => if_pos ⟨h, ne_true_of_eq_false hc⟩
  case switch =>
    intro s b h3 hc hi hk
    obtain ⟨u, hu, hexec⟩ := exec_failoverSwitch rfl h3 hc hi
    have hne := chanStatus_ne_bankStatus b hk
    have hcount : u.get fWARP_BANK_STATUS_FO_COUNT b.val = s.get fWARP_BANK_STATUS_FO_COUNT b.val := by
      rcases hu with rfl | rfl
      exacts [rfl, State.get_flag_apart s (Fld.Apart.at_same (by decide) b.val)]
    have hregs : RegsOnly s u := by
      rcases hu with rfl | rfl
      exacts [.refl _, .flag ..]
    have honly : Only [aWARP_BANK_STATUS + b.val, aWARP_CH_STATUS + (8 * b.val + s.get fWARP_BANK_STATUS_SPARE_CH b.val)] s u := by
      rcases hu with rfl | rfl
      exacts [.refl _ _, (Only.refl _ s).flag (List.mem_cons_self ..)]
    exact ⟨_, hexec, u.get_switched_state hne, u.is_switched_active hne, (u.get_switched_count hne).trans (by rw [hcount]),
      honly.switched (by simp) (by simp), hregs.trans (.switched u)⟩
  case other => exact fun s b k h => (exec_foRelease s b k).trans (congrArg Host.Outcome.next (if_pos h))
  case release =>
    intro s b k hk h4
    rw [exec_foRelease, if_neg (not_not.mpr hk), if_pos h4]
    rfl
  case abandon =>
    intro s b k hk h3
    rw [exec_foRelease, if_neg (not_not.mpr hk), if_neg (by omega), if_pos h3]
    rfl
  case back => exact fun s b hr hi => if_pos ⟨hr, hi⟩
  case force =>
    intro s b k he hd
    rw [exec_foForce, if_pos ⟨he, ne_true_of_eq_false hd⟩]
    rfl
  case noForce =>
    intro s b k h
    rw [exec_foForce, if_neg (by rcases h with h | h <;> simp [h])]
    rfl

end Sys2Proof.Machine


/-! # Heddle's inputs and rate generators (R135, R137, R139 to R141, R155, R270, R273) -/

namespace Sys2Proof.Machine

/-! ### A generator's grids and its RUN -/

/-- Generator `g` takes the grids `y`, and RUN shows whether ticks of them are still to come (R141). -/
def State.setRg (s : State) (g : Nat) (y : RgSt) : State :=
  { s with rgs := s.rgs.set g y }.put fHEDDLE_RG_CTRL_RUN (b2n y.runs) g

section
variable (s : State) (g : Nat) (y : RgSt)

theorem State.get_setRg_run : (s.setRg g y).get fHEDDLE_RG_CTRL_RUN g = b2n y.runs :=
  State.get_put_of_lt _ (by decide) (by cases y.runs <;> decide)

theorem State.nth_setRg_same (h : g < s.rgs.length) : nth (s.setRg g y).rgs g = y := by
  simp [State.setRg, nth, h]

/-- A generator that takes the grids it has keeps them. -/
theorem State.nth_setRg_kept (h : nth s.rgs g = y) : nth (s.setRg g y).rgs g = y := by
  by_cases hg : g < s.rgs.length
  · exact s.nth_setRg_same g y hg
  · simpa [State.setRg, List.set_eq_of_length_le (not_lt.mp hg)] using h

end

theorem Only.setRg {ws : List Nat} {s t : State} {g : Nat} {y : RgSt} (h : Only ws s t) (hg : aHEDDLE_RG_CTRL + g ∈ ws) :
    Only ws s (t.setRg g y) :=
  (h.rest (u := { t with rgs := t.rgs.set g y })).put hg

/-! ### GO, STOP and the ticks of a generator (R139 to R141) -/

/-- The grid a GO of generator `g` captures, from its first tick at least 16 wc ahead. -/
def State.rgGrid (s : State) (g : Nat) : RgGrid :=
  let start := tsOf (s.word (aHEDDLE_RG_START_LO + g)) (s.word (aHEDDLE_RG_START_HI + g))
  ⟨start, s.rgPeriod g, s.get fHEDDLE_RG_CTRL_COUNT g, gridIndex start (s.rgPeriod g) (tAdd s.nowT (wcs 16)), 0, none⟩

/-- A grid without an end always has a tick left. -/
theorem RgGrid.alive_of_endless {r : RgGrid} (hc : r.count = 0) (hs : r.stopAt = none) : r.alive = true := by
  simp [RgGrid.alive, hc, hs]

section
variable {s : State} {g : Fin 8}

/-- GO of an idle generator with a period that needs no clamp: SKIPPED may be set, and the grid runs while it has a tick. -/
theorem exec_rgGo_idle (hp : 4096 ≤ s.rgPeriod g.val) (hi : nth s.rgs g.val = ⟨none, []⟩) :
    ∃ u, (u = s ∨ u = s.flag fHEDDLE_RG_CTRL_SKIPPED g.val) ∧ exec (.rgGo g) s =
      .next (u.setRg g.val ⟨if (s.rgGrid g.val).alive then some (s.rgGrid g.val) else none, []⟩) := by
  change ∃ u, _ ∧ execRgGo g s = _
  have hflag : nth (s.flag fHEDDLE_RG_CTRL_SKIPPED g.val).rgs g.val = ⟨none, []⟩ := by rw [State.flag_rgs, hi]
  simp only [execRgGo, if_neg (not_lt.mpr hp), max_eq_right hp]
  split
  case isTrue => exact ⟨_, .inr rfl, by rw [hflag]; rfl⟩
  case isFalse => exact ⟨_, .inl rfl, by rw [hi]; rfl⟩

theorem exec_rgStop_idle (hi : nth s.rgs g.val = ⟨none, []⟩) : exec (.rgStop g) s = .next (s.setRg g.val ⟨none, []⟩) := by
  change execRgStop g s = _
  simp only [execRgStop, hi]
  rfl

theorem exec_rgTick {t : Nat} {y : RgSt} (h : (nth s.rgs g.val).tick = some (t, y)) :
    exec (.rgTick g) s = .next ((s.setRg g.val y).sourceToLines (12 + g.val) (16 + g.val) t false) := by
  change execRgTick g s = _
  simp only [execRgTick, State.rgTick, h]
  rfl

end

/-- A generator that replaces no grid ticks on its own. -/
theorem RgSt.tick_of_no_prev {x : RgSt} {r : RgGrid} (hp : x.prev = []) (hc : x.cur = some r) :
    x.tick = some (tAdd r.start (r.k * r.per), ⟨r.tick.2, []⟩) := by
  simp only [RgSt.tick, hp, hc]
  rfl

/-! ### A crossing at a trigger input (R155, R270, R273) -/

section
variable {s u : State} {i : Fin 16} {cap : TiCap} {rising : Bool} {hold : Nat}
  (hu : u = s.flowTo ((s.stampOf i.val cap).getD (wcs (capWc cap))))
include hu

theorem exec_tiCrossing_codeDensity (h : u.is fREED_IN_STATUS_CD_ACTIVE i.val = true) :
    exec (.tiCrossing i cap rising hold) s = .next ((u.glitchOver i.val).bump fREED_CD_STATUS_CD_MISS) := by
  subst hu
  exact congrArg Host.Outcome.next (if_pos h)

theorem exec_tiCrossing_safe (h : u.is fREED_IN_STATUS_CD_ACTIVE i.val = false) (hs : u.safe = true) :
    exec (.tiCrossing i cap rising hold) s = .next ((((u.reedSafe i.val rising).glitchOver i.val).flag
      fHEDDLE_IN_STATUS_LOCK_MISS i.val).bump fHEDDLE_IN_STATUS_MISS_COUNT i.val) := by
  subst hu
  exact congrArg Host.Outcome.next ((if_neg (ne_true_of_eq_false h)).trans (if_pos hs))

theorem exec_tiCrossing_stamped {e : Nat} (he : s.stampOf i.val cap = some e)
    (h : u.is fREED_IN_STATUS_CD_ACTIVE i.val = false) (hs : u.safe = false) : exec (.tiCrossing i cap rising hold) s =
      .next ((u.reedCross i.val cap (some e) rising).heddleCross i.val e (capWc cap) rising hold) := by
  subst hu
  refine congrArg Host.Outcome.next ((if_neg (ne_true_of_eq_false h)).trans ((if_neg (ne_true_of_eq_false hs)).trans ?_))
  rw [he]

end

/-! ### Prescale counters (R137) -/

/-- Element `i` of a list formed from the numbers below `n`. -/
theorem nth_map_range {α : Type} [Inhabited α] (f : Nat → α) {i n : Nat} (h : i < n) : nth ((List.range n).map f) i = f i := by
  simp [nth, h]

/-- Settles O16: GO, STOP and a tick change the generator's grids and RUN together (`State.setRg`), GO noting there that it passed
over ticks, and a crossing acts as the state after the events before it decides (`exec_tiCrossing_codeDensity` and the lemmas after it). -/
theorem heddleInputsAndGenerators : Obligations.HeddleInputsAndGenerators := by
  unfold Obligations.HeddleInputsAndGenerators
  refine ⟨?go, ?stop, ?tick, ?sync, ?codeDensity, ?safe, ?stamped⟩
  case go =>
    intro s g hp hc hi hl
    obtain ⟨u, hu, hexec⟩ := exec_rgGo_idle hp hi
    rw [RgGrid.alive_of_endless (r := s.rgGrid g.val) hc rfl, if_pos rfl] at hexec
    have hregs : RegsOnly s u := by
      rcases hu with rfl | rfl
      exacts [.refl _, .flag ..]
    have honly : Only [aHEDDLE_RG_CTRL + g.val] s u := by
      rcases hu with rfl | rfl
      exacts [.refl _ _, (Only.refl _ s).flag (List.mem_singleton_self _)]
    have hlen : g.val < u.rgs.length := by rwa [hregs]
    refine ⟨_, hexec, ?_, u.get_setRg_run _ _, honly.setRg (List.mem_singleton_self _), ?_⟩
    · rw [u.nth_setRg_same _ _ hlen, State.rgGrid, hc]
    · rw [hregs]
      rfl
  case stop =>
    exact fun s g hi => ⟨_, exec_rgStop_idle hi, s.nth_setRg_kept _ _ hi, s.get_setRg_run _ _,
      (Only.refl _ s).setRg (List.mem_singleton_self _)⟩
  case tick =>
    intro s g r hp hc
    rw [exec_rgTick (RgSt.tick_of_no_prev hp hc), State.setRg, RgSt.runs, List.isEmpty_nil, Bool.not_true, Bool.or_false]
  case sync =>
    intro s mask
    refine ⟨_, rfl, rfl, fun i hi => ?_⟩
    rw [nth_map_range _ hi]
    split <;> rfl
  case codeDensity => exact fun s i cap rising hold h => exec_tiCrossing_codeDensity rfl h
  case safe => exact fun s i cap rising hold u hu h hs => exec_tiCrossing_safe hu h hs
  case stamped =>
    intro s i cap rising hold e u he hu h hs
    exact exec_tiCrossing_stamped (by rw [he]; exact hu) he h hs

end Sys2Proof.Machine


/-! # Heddle's lines: due-time line commands, arming, HEDDLE_FIRE and HEDDLE_LAST (R55, R132, R142 to R144, R147, R158) -/

namespace Sys2Proof.Machine

/-! ### Line commands that fall due (R55, R142, R147) -/

/-- A line command that meets the safe clock or a retune is counted and no more (R55). -/
theorem State.lockDrop_line {c : DueCmd} {l : Fin 64} (s : State) (h : c.target = .line l) :
    s.lockDrop c = (s.flag fLEAD_STATUS_LOCK_DROP).bump fLEAD_STATUS_LOCK_DROP_COUNT := by
  simp [State.lockDrop, State.tapplyOver, State.groupDiscard, isGroup, h]

section
variable {s : State} {c : Stored} {rest : List Stored} {l : Fin 64}

/-- The head of the store, a line command, leaves it once time has passed: to its instant for FIRE (action 1), to before the events of its
instant for another action. It then acts, or is dropped where WARP is on the safe clock or in a retune. -/
theorem State.dueAtLine_head {a : Nat} {u : State} (f : State → Nat → Nat → State) (hs : s.store = c :: rest)
    (ht : c.cmd.target = .line l) (ha : c.cmd.action = a)
    (hu : u = if a = 1 then s.popDue c else { s.flowBefore c.cmd.due with store := rest }) :
    s.dueAtLine a f = some (if u.unlocked then u.lockDrop c.cmd else f u l.val c.cmd.due) := by
  subst hu
  simp only [State.dueAtLine, hs, ht, ha, ne_eq, not_true_eq_false, if_false]
  rfl

theorem State.dueAtLine_acts {a : Nat} {u : State} (f : State → Nat → Nat → State) (hs : s.store = c :: rest)
    (ht : c.cmd.target = .line l) (ha : c.cmd.action = a) (h : u.unlocked = false)
    (hu : u = if a = 1 then s.popDue c else { s.flowBefore c.cmd.due with store := rest }) :
    s.dueAtLine a f = some (f u l.val c.cmd.due) := by
  rw [State.dueAtLine_head f hs ht ha hu, if_neg (ne_true_of_eq_false h)]

theorem State.dueAtLine_dropped {a : Nat} {u : State} (f : State → Nat → Nat → State) (hs : s.store = c :: rest)
    (ht : c.cmd.target = .line l) (ha : c.cmd.action = a) (h : u.unlocked = true)
    (hu : u = if a = 1 then s.popDue c else { s.flowBefore c.cmd.due with store := rest }) :
    s.dueAtLine a f = some ((u.flag fLEAD_STATUS_LOCK_DROP).bump fLEAD_STATUS_LOCK_DROP_COUNT) := by
  rw [State.dueAtLine_head f hs ht ha hu, if_pos h, State.lockDrop_line u ht]

end

/-! ### Arming (R147) -/

theorem tLe_self (t : Nat) : tLe t t = true :=
  (tLe_eq_true_iff t t).mpr (.inl (by unfold tSub tMod; omega))

section
variable {s : State} {l t : Nat}

theorem State.armLine_toggle (h : s.get fHEDDLE_LINE_CFG_ARM_MODE l = 2) :
    s.armLine l t = s.setLine l { s.line l with armFrom := some t, armEnd := none } := if_pos h

theorem State.armLine_window (h : s.get fHEDDLE_LINE_CFG_ARM_MODE l = 3) : s.armLine l t = s.setLine l
    { s.line l with armFrom := some t, armEnd := some (tAdd t (wcs (s.get fHEDDLE_LINE_ARM_LEN_LEN l))) } :=
  (if_neg (by omega)).trans (if_pos h)

theorem State.armLine_other (h : s.get fHEDDLE_LINE_CFG_ARM_MODE l < 2) : s.armLine l t = s :=
  (if_neg (by omega)).trans (if_neg (by omega))

/-- A disarm in the present or the past of a line armed without an end ends its arming there. -/
theorem State.disarmLine_endless (hm : s.get fHEDDLE_LINE_CFG_ARM_MODE l = 2 ∨ s.get fHEDDLE_LINE_CFG_ARM_MODE l = 3)
    (ha : (s.line l).armFrom.isSome = true) (he : (s.line l).armEnd = none) (ht : tLe t s.nowT = true) :
    s.disarmLine l t = s.setLine l { s.line l with armFrom := none, armEnd := some t } := by
  refine (if_pos ⟨hm, ha⟩).trans ?_
  rw [he, if_pos ht]
  rfl

end

/-- With no event ahead, the end of a window disarms its line. -/
theorem exec_armWindowExpiry {s : State} {l : Fin 64} {e : Nat} (hp : s.pins = []) (he : (s.line l.val).armEnd = some e) :
    exec (.armWindowExpiry l) s = .next ((s.until_ e).setLine l.val { s.line l.val with armFrom := none, armEnd := none }) := by
  have hline : (s.until_ e).line l.val = s.line l.val := congrArg (nth · l.val) (State.until_lines ..)
  change execArmWindowExpiry l s = _
  simp only [execArmWindowExpiry, he, State.flowBefore_nil e hp, hline, if_true]

/-! ### A command handed to a FIFO with room (R43) -/

theorem State.sendDue_room {s : State} {c : DueCmd} (h : (s.hsf.filter (fun d => d.src == c.src)).length < fifoDepth c.src) :
    s.sendDue c = { s with hsf := s.hsf ++ [c], sentAt := s.sentAt ++ [(c, s.now)] } := by
  unfold State.sendDue
  rw [if_neg (not_le.mpr h)]

/-! ### HEDDLE_LAST (R132) -/

theorem exec_heddleLastRead {s : State} {u : Nat × Nat} (h : (s.line (s.get fHEDDLE_LAST_SEL_LINE)).last = some u) :
    exec .heddleLastRead s = .next ((s.setWord aHEDDLE_LAST_LO (tsLo u.1)).setWord aHEDDLE_LAST_HI (tsHi u.1)) := by
  change execHeddleLastRead s = _
  simp only [execHeddleLastRead, h]

/-- Settles O17: a line command acts or is dropped (`State.dueAtLine_acts`, `State.dueAtLine_dropped`), the registers arm and disarm a line
as its ARM_MODE says (`State.armLine_toggle` and the lemmas after it), and HEDDLE_LAST takes the instant of the latest firing. -/
theorem heddleLines : Obligations.HeddleLines := by
  unfold Obligations.HeddleLines
  refine ⟨?fire, ?dropped, ?arm, ?disarm, ?toggle, ?window, ?other, ?off, ?expiry, ?noExpiry, ?fireGo, ?last⟩
  case fire =>
    intro s c rest l hs ht ha hu
    change execFire s = _
    simp only [execFire, State.dueAtLine_acts _ hs ht ha hu rfl]
  case dropped =>
    intro s c rest l hs ht ha hu
    change execFire s = _
    simp only [execFire, State.dueAtLine_dropped _ hs ht ha hu rfl]
  case arm =>
    intro s c rest l hs ht ha hu
    change execArm s = _
    simp only [execArm, State.dueAtLine_acts _ hs ht ha hu rfl]
  case disarm =>
    intro s c rest l hs ht ha hu
    change execDisarm s = _
    simp only [execDisarm, State.dueAtLine_acts _ hs ht ha hu rfl]
  case toggle => exact fun s l h => congrArg Host.Outcome.next (State.armLine_toggle h)
  case window => exact fun s l h => congrArg Host.Outcome.next (State.armLine_window h)
  case other => exact fun s l h => congrArg Host.Outcome.next (State.armLine_other h)
  case off => exact fun s l hm ha he => congrArg Host.Outcome.next (State.disarmLine_endless hm ha he (tLe_self _))
  case expiry =>
    intro s l e hp he
    rw [exec_armWindowExpiry hp he, State.setLine, State.until_lines]
    rfl
  case noExpiry =>
    intro s l he
    change execArmWindowExpiry l s = _
    simp only [execArmWindowExpiry, State.line, he]
    rfl
  case fireGo => exact fun s l action h => congrArg Host.Outcome.next (State.sendDue_room h)
  case last =>
    intro s u h
    refine ⟨_, exec_heddleLastRead h, ?_, State.word_setWord_same .., (Only.refl _ s).setWord.setWord, rfl⟩
    rw [State.word_setWord_ne _ _ (by decide), State.word_setWord_same]

end Sys2Proof.Machine


/-! # Ethernet requests, ARP, stream datagrams and strobes (R142, R463 to R465, R467) -/

namespace Sys2Proof.Machine

/-! ### Requests (R465) -/

section
variable {s : State} {r : EthHdr}

/-- A request that is no repeat is performed, once its source is noted. -/
theorem State.ethRequest_new (act : State → State) (ho : s.pathOpen 1 = true) (hd : s.isDup r.src r.id.val = false) :
    s.ethRequest r act = .next (act (s.noteSrc r.src r.id.val)) :=
  (if_neg (not_not.mpr ho)).trans (if_neg (ne_true_of_eq_false hd))

/-- A repeated request is not performed again. -/
theorem State.ethRequest_dup (act : State → State) (ho : s.pathOpen 1 = true) (hd : s.isDup r.src r.id.val = true) :
    s.ethRequest r act = .next (s.dupReq r.src) :=
  (if_neg (not_not.mpr ho)).trans (if_pos hd)

/-- A run of words that no reload holds up does not wait. -/
theorem ethRun_goes {a n : Nat} (hw : s.runWaits a n = false) : ¬ (r.dev.val = s.addr ∧ s.runWaits a n = true) :=
  fun h => ne_true_of_eq_false hw h.2

variable (ho : s.pathOpen 1 = true)
include ho

theorem exec_ethWrite {a : Fin 16777216} {ws : List Word} (hv : r.dev.val = s.addr) (hw : s.runWaits a.val ws.length = false)
    (hd : s.isDup r.src r.id.val = false) (hk : r.ack = false) (hn : ws ≠ []) (hl : ws.length ≤ 1024) :
    exec (.ethWrite r a none ws) s = .next ((s.noteSrc r.src r.id.val).writeRun 1 a.val ws).1 := by
  refine (if_neg (ethRun_goes hw)).trans ((State.ethRequest_new _ ho hd).trans (congrArg Host.Outcome.next ?_))
  exact (if_neg (not_or.mpr ⟨hn, not_lt.mpr hl⟩)).trans ((if_pos hv).trans (if_neg (ne_true_of_eq_false hk)))

theorem exec_ethRead {a : Fin 16777216} {count : Fin 65536} {t : List Word × State × Bool}
    (ht : t = (s.noteSrc r.src r.id.val).readRun 1 a.val count.val) (hv : r.dev.val = s.addr)
    (hw : s.runWaits a.val (min count.val 1024) = false) (hd : s.isDup r.src r.id.val = false) (hn : count.val ≠ 0)
    (hl : count.val ≤ 1024) : exec (.ethRead r a count) s =
      .next (t.2.1.answer (EthReq.mk r.src r.id.val r.dev.val r.ack a.val) false (if t.2.2 then 0 else 1) t.1) := by
  subst ht
  refine (if_neg (ethRun_goes hw)).trans ((State.ethRequest_new _ ho hd).trans (congrArg Host.Outcome.next ?_))
  exact (if_neg (not_or.mpr ⟨hn, not_lt.mpr hl⟩)).trans (if_pos hv)

theorem exec_ethRead_dup {a : Fin 16777216} {count : Fin 65536} (hv : r.dev.val ≠ s.addr) (hd : s.isDup r.src r.id.val = true) :
    exec (.ethRead r a count) s = .next (s.dupReq r.src) :=
  (if_neg fun h => hv h.1).trans (State.ethRequest_dup _ ho hd)

end

/-! ### Strobes (R467) -/

/-- A strobe with REL 0 keeps the due time held in HOST_STROBE, and uses no free value. -/
theorem State.strobeDue_held (s : State) : s.strobeDue false = (tsOf (s.word aHOST_STROBE_LO) (s.word aHOST_STROBE_HI), s) :=
  if_pos Bool.false_ne_true

theorem exec_ethStrobe_held {s : State} {r : EthHdr} {due ctrl : Word} (ho : s.pathOpen 1 = true)
    (hd : s.isDup r.src r.id.val = false) (hr : fHOST_STROBE_CTRL_REL.get ctrl = 0) : exec (.ethStrobe r due ctrl) s =
      .next ((((s.noteSrc r.src r.id.val).setWord aHOST_STROBE_LO due).setWord aHOST_STROBE_LO (s.word aHOST_STROBE_LO)).sendDue
        (DueCmd.mk (.line (Fin.ofNat 64 (fHOST_STROBE_CTRL_LINE.get ctrl))) (fHOST_STROBE_CTRL_ACTION.get ctrl)
          (tsOf due (s.word aHOST_STROBE_HI)) 5)) := by
  have hhi : ((s.noteSrc r.src r.id.val).setWord aHOST_STROBE_LO due).word aHOST_STROBE_HI = s.word aHOST_STROBE_HI :=
    State.word_setWord_ne _ _ (by decide)
  change execEthStrobe r due ctrl s = _
  unfold execEthStrobe
  rw [State.ethRequest_new _ ho hd, hr, show ((0 : Nat) == 1) = false from rfl, State.strobeDue_held, State.word_setWord_same, hhi]
  rfl

theorem exec_hostStrobe_held {s : State} {l : Fin 64} {action : Fin 16} : exec (.hostStrobe false l action) s =
    .next ((((s.put fHOST_STROBE_CTRL_REL 0).put fHOST_STROBE_CTRL_LINE l.val).put fHOST_STROBE_CTRL_ACTION action.val).sendDue
      (DueCmd.mk (.line l) action.val (tsOf (s.word aHOST_STROBE_LO) (s.word aHOST_STROBE_HI)) 5)) := by
  have honly : Only [aHOST_STROBE_CTRL] s
      (((s.put fHOST_STROBE_CTRL_REL 0).put fHOST_STROBE_CTRL_LINE l.val).put fHOST_STROBE_CTRL_ACTION action.val) :=
    (Only.refl _ s).put.put.put
  rw [← honly aHOST_STROBE_LO (by decide), ← honly aHOST_STROBE_HI (by decide)]
  change execHostStrobe false l action s = _
  simp only [execHostStrobe, State.strobeDue_held]
  rfl

/-- Settles O38: a request is performed or is a repeat (`State.ethRequest_new`, `State.ethRequest_dup`), and a strobe with REL 0 sends the
held due time (`State.strobeDue_held`). The EPOCH of an ETH_STROBE and what becomes of unused OPs and odd frames are log entry 59,
the due time of a strobe log entry 62. -/
theorem ethernetAndStrobes : Obligations.EthernetAndStrobes := by
  unfold Obligations.EthernetAndStrobes
  refine ⟨?write, ?read, ?repeated, ?push, ?strobe, ?badOp, ?badOpRepeated, ?arp, ?arpOther, ?discard, ?gram, ?noGram, ?hostStrobe⟩
  case write => exact fun s r a ws ho hv hw hd hk hn hl => exec_ethWrite ho hv hw hd hk hn hl
  case read => exact fun s r a count ho hv hw hd hn hl => exec_ethRead ho rfl hv hw hd hn hl
  case repeated => exact fun s r a count ho hv hd => exec_ethRead_dup ho hv hd
  case push => exact fun s r c recs ho hd => State.ethRequest_new (fun s => recs.foldl (fun s x => s.pushRecord c.val x) s) ho hd
  case strobe => exact fun s r due ctrl ho hd hr => exec_ethStrobe_held ho hd hr
  case badOp =>
    exact fun s src id ho hd => (if_neg (not_not.mpr ho)).trans (congrArg Host.Outcome.next (if_neg (ne_true_of_eq_false hd)))
  case badOpRepeated => exact fun s src id ho hd => (if_neg (not_not.mpr ho)).trans (congrArg Host.Outcome.next (if_pos hd))
  case arp => exact fun s ip ho h => (if_neg (not_not.mpr ho)).trans (congrArg Host.Outcome.next (if_pos h))
  case arpOther => exact fun s ip ho h => (if_neg (not_not.mpr ho)).trans (congrArg Host.Outcome.next (if_neg h))
  case discard => exact fun s ho => if_neg (not_not.mpr ho)
  case gram =>
    intro s n k h
    change execStreamDatagramTimer n s = _
    simp only [execStreamDatagramTimer, h]
  case noGram =>
    intro s n h
    change execStreamDatagramTimer n s = _
    simp only [execStreamDatagramTimer, h]
    rfl
  case hostStrobe => exact fun s l action => exec_hostStrobe_held

end Sys2Proof.Machine


/-! # The CLOCK grid of a master output (R163) -/

namespace Sys2Proof.Machine

/-- The test of `t` against the phase in `gridAt` is only the rounding up of 0: the grid point is the phase and the whole periods that
cover what `t` lies after it. -/
theorem gridAt_eq_ceilDiv {per : Nat} (hper : 0 < per) (t phase : Nat) :
    gridAt t per phase = phase % per + (t - phase % per) ⌈/⌉ per * per := by
  simp only [gridAt, if_neg hper.ne']
  split_ifs with h
  · rw [Nat.sub_eq_zero_of_le h, zero_ceilDiv, Nat.zero_mul, Nat.add_zero]
  · rw [Nat.ceilDiv_eq_add_pred_div]

/-- A grid point bounds `gridAt` from above exactly when it is not before `t`. -/
theorem gridAt_le_iff {per : Nat} (hper : 0 < per) (t phase n : Nat) :
    gridAt t per phase ≤ phase % per + n * per ↔ t ≤ phase % per + n * per := by
  rw [gridAt_eq_ceilDiv hper, Nat.add_le_add_iff_left, Nat.mul_le_mul_right_iff hper, ceilDiv_le_iff_le_mul hper,
    Nat.sub_le_iff_le_add', Nat.mul_comm]

/-- Settles O58: `gridAt` is a grid point (`gridAt_eq_ceilDiv`), and `gridAt_le_iff` at that point and at any other says that it is not
before `t` and is the least such. -/
theorem clockGrid : Obligations.ClockGrid := by
  unfold Obligations.ClockGrid
  intro t per phase hper
  have hgrid := gridAt_eq_ceilDiv hper t phase
  refine ⟨?notBefore, ?phase, ?onGrid, ?least⟩
  case notBefore => exact hgrid ▸ (gridAt_le_iff hper t phase _).mp hgrid.le
  case phase => exact hgrid ▸ Nat.le_add_right _ _
  case onGrid =>
    rw [hgrid, Nat.add_sub_cancel_left]
    exact Nat.dvd_mul_left _ _
  case least => exact fun n => (gridAt_le_iff hper t phase n).mpr

end Sys2Proof.Machine


/-! # The sequencers' items: each type issued by its own command (R187 to R191, R193, R197, R198, R200, R203, R209) -/

namespace Sys2Proof.Machine

/-! ### Waiting markers (R189) -/

section
variable {s : State} {q u m ty : Nat} {tys : List Nat} {rest : List (Nat × Nat × Nat)}

theorem State.markFirst_none_of_marks (h : (s.seq q).marks = (u, m, ty) :: rest) : s.markFirst q tys none = tys.contains ty := by
  simp only [State.markFirst, h, Bool.and_true]

/-- Markers that no command of these types would fire come before no issue either. -/
theorem State.markFirst_some_of_none (d : Nat) (h : s.markFirst q tys none = false) : s.markFirst q tys (some d) = false := by
  cases hk : (s.seq q).marks with
  | nil => simp only [State.markFirst, hk]
  | cons e rest =>
    have hty : tys.contains e.2.2 = false := (State.markFirst_none_of_marks hk).symm.trans h
    simp only [State.markFirst, hk, hty, Bool.false_and]

theorem State.elseMarks_of_none (h : s.markFirst q tys none = false) : s.elseMarks q tys = .next s :=
  if_neg (ne_true_of_eq_false h)

/-- Where the oldest markers are those of an item of these types, they fire at their slot instant. -/
theorem State.elseMarks_of_marks (h : (s.seq q).marks = (u, m, ty) :: rest) (ht : tys.contains ty = true) : s.elseMarks q tys =
    .next (((s.flowTo u).setSeq q { (s.flowTo u).seq q with marks := rest }).markers q m u) := by
  refine (if_pos ((State.markFirst_none_of_marks h).trans ht)).trans (congrArg Host.Outcome.next ?_)
  simp only [State.fireMarks, h]

end

/-! ### The next slot -/

section
variable {s : State} {q : Nat} {tys : List Nat} {act : State → Word → Nat → State × Nat}

/-- Where no slot may be issued, only markers can fire. -/
theorem State.issue_of_not_mayIssue (h : ((s.toIssue q).roll q).mayIssue q = false) : s.issue q tys act = s.elseMarks q tys :=
  if_pos (ne_true_of_eq_false h)

variable {w : Word} {cn un : Bool} (hm : ((s.toIssue q).roll q).mayIssue q = true)
  (hi : ((s.toIssue q).roll q).seqFetch q = .item w cn un)
include hm hi

/-- A command whose types are the item's among others issues it, unless older markers of these types come first. -/
theorem State.issue_item (hf : s.markFirst q tys (some (((s.toIssue q).roll q).issueDate q)) = false)
    (ht : tys.contains (getBits w 32 4) = true) :
    s.issue q tys act = .next (((s.toIssue q).roll q).playItem q w cn un act) := by
  simp only [State.issue, hm, hf, hi, ht, not_true_eq_false, Bool.false_eq_true, if_false, if_true]

/-- The command of one type issues an item of that type, unless older markers of the type come first. -/
theorem State.issue_type {ty : Nat} (hf : s.markFirst q [ty] (some (((s.toIssue q).roll q).issueDate q)) = false)
    (ht : getBits w 32 4 = ty) : s.issue q [ty] act = .next (((s.toIssue q).roll q).playItem q w cn un act) :=
  State.issue_item hm hi hf (by simp [ht])

/-- The command of another type leaves the item alone, unless markers of that type wait. -/
theorem State.issue_other (hf : s.markFirst q tys none = false) (ht : tys.contains (getBits w 32 4) = false) :
    s.issue q tys act = .next s := by
  simp only [State.issue, hm, State.markFirst_some_of_none _ hf, hi, ht, not_true_eq_false, Bool.false_eq_true, if_false,
    State.elseMarks_of_none hf]

end

/-! ### IDLE, CHIP, WAIT and END -/

/-- The unused types are those from 9 to 15, the last of the 16 (R188). -/
theorem unusedTypes_contains {w : Word} (h : 9 ≤ getBits w 32 4) : [9, 10, 11, 12, 13, 14, 15].contains (getBits w 32 4) = true := by
  have hlt : getBits w 32 4 < 16 := Nat.mod_lt _ (Nat.two_pow_pos 4)
  rw [List.contains_iff_mem]
  interval_cases getBits w 32 4 <;> decide

section
variable {s : State} {q : Fin 2}

/-- A stored IDLE item is issued as any other. -/
theorem exec_idle_item {w : Word} {cn un : Bool} (hm : ((s.toIssue q.val).roll q.val).mayIssue q.val = true)
    (hf : s.markFirst q.val [8] (some (((s.toIssue q.val).roll q.val).issueDate q.val)) = false)
    (hi : ((s.toIssue q.val).roll q.val).seqFetch q.val = .item w cn un) :
    exec (.idle q) s = s.issue q.val [8] (plainItem q.val) := by
  change execIdle q s = _
  simp only [execIdle, hm, hf, hi, not_true_eq_false, Bool.false_eq_true, if_false]

/-- The chips of a CHIP item join the builders, which are then brought up to the present. -/
theorem exec_chip_of_issue {t : State} (h : s.issue q.val [1] (chipItem q.val) = .next t) :
    exec (.chip q) s = .next ((t.probeTo 0 t.nowT).probeTo 1 t.nowT) := by
  change execChip q s = _
  simp only [execChip, h]

theorem exec_wait_of_no_wait (h : (s.seq q.val).wait = none) : exec (.wait q) s = s.issue q.val [3] (waitItem q.val) := by
  change execWait q s = _
  simp only [execWait, h]

/-- While a wait holds, WAIT shows WAITING from the slot after the item. -/
theorem exec_wait_of_wait {wt : SeqWait} (h : (s.seq q.val).wait = some wt) (hf : s.markFirst q.val [3] none = false)
    (hs : s.seqState q.val = 2) :
    exec (.wait q) s = .next ((s.flowTo ((s.seq q.val).slotT (wt.k + 1))).setSeqState q.val 3) := by
  change execWait q s = _
  simp only [execWait, h, hf, hs, Bool.false_eq_true, if_false, if_true]

theorem exec_endItem_of_no_ending (h : (s.seq q.val).ending = none) : exec (.endItem q) s = s.issue q.val [7] (endItem q.val) :=
  if_neg (by simp [h])

/-- A run in STATE 2 whose last slot is issued, its pass begun, ends at the instant fixed for it (R209). -/
theorem State.seqEnded_of_run {u v : Nat} (h : (s.seq q.val).ending = some (u, v)) (hb : (s.seq q.val).bnd = none)
    (hs : s.seqState q.val = 2) : s.seqEnded q.val = .next ((s.flowTo u).seqEnd q.val v none) := by
  simp only [State.seqEnded, h, hb, hs, true_or, Option.isNone_none, and_self, if_true]

end

/-- Settles O18: `State.issue_type` says that the command of an item's type issues its slot (`State.issue_item` for the unused types),
`State.issue_other` that another command leaves it alone, and the lemmas on IDLE, CHIP, WAIT and END what these do besides.
Effects at the issue cycle with the markers fired by a second command, and WAITING and DONE by a second WAIT or END, are log entry 23. -/
theorem sequencerItems : Obligations.SequencerItems := by
  unfold Obligations.SequencerItems
  refine ⟨?nop, ?nopOther, ?idle, ?unused, ?edge, ?loop, ?jump, ?mark, ?chip, ?wait, ?waiting, ?endItem, ?ended, ?markers⟩
  case nop => exact fun s q w cn un hm hf hi ht => State.issue_type hm hi hf ht
  case nopOther => exact fun s q w cn un hm hf hi ht => State.issue_other hm hi hf (by simpa using ht)
  case idle => exact fun s q w cn un hm hf hi ht => (exec_idle_item hm hf hi).trans (State.issue_type hm hi hf ht)
  case unused => exact fun s q w cn un hm hf hi ht => State.issue_item hm hi hf (unusedTypes_contains ht)
  case edge => exact fun s q w cn un hm hf hi ht => State.issue_type hm hi hf ht
  case loop => exact fun s q w cn un hm hf hi ht => State.issue_type hm hi hf ht
  case jump => exact fun s q w cn un hm hf hi ht => State.issue_type hm hi hf ht
  case mark => exact fun s q w cn un hm hf hi ht => State.issue_type hm hi hf ht
  case chip => exact fun s q w cn un hm hf hi ht => exec_chip_of_issue (State.issue_type hm hi hf ht)
  case wait =>
    exact fun s q w cn un hm hf hi hw ht => (exec_wait_of_no_wait hw).trans (State.issue_type hm hi hf ht)
  case waiting => exact fun s q wt hw hf hs => exec_wait_of_wait hw hf hs
  case endItem =>
    exact fun s q w cn un hm hf hi he ht => (exec_endItem_of_no_ending he).trans (State.issue_type hm hi hf ht)
  case ended =>
    exact fun s q u he hf hb hs =>
      (if_pos (by rw [he]; rfl)).trans ((if_neg (ne_true_of_eq_false hf)).trans (State.seqEnded_of_run he hb hs))
  case markers =>
    exact fun s q u m rest h hm => (State.issue_of_not_mayIssue hm).trans (State.elseMarks_of_marks h rfl)

end Sys2Proof.Machine


/-! # A run's segment boundaries (R186, R215, R7) -/

namespace Sys2Proof.Machine

/-- Sequencer 0 in RUN with a played-out pass and the next one chosen, an APPLY waiting, and no shadow of ITEM_PER; R7's note of a write of the
present SHUTTLE cycle says all the same that the shadow held 8 wc before that write. -/
def State.noteWithoutShadow : State :=
  { (State.reset.put fSEQ_STATUS_STATE 2).flag fSEQ_STATUS_APPLY_WAIT with
    seqs := State.reset.seqs.set 0
      { w1 := BitVec.ofNat 36 (15 * 2 ^ 16), per := 4096, live := true, idx := 1024, next := .play 0 1 (0, 0) 0 0 false }
    fresh := [(aSEQ_ITEM_PER, some 8192, 0)] }

/-- The APPLY at the boundary takes the word of the note. -/
theorem State.noteWithoutShadow_boundary :
    ∃ t, exec (.segmentBoundary 0) State.noteWithoutShadow = .next t ∧ (t.seq 0).per = 8192 :=
  ⟨_, rfl, by decide⟩

/-- Refutes O19: SEGMENT_BOUNDARY takes `shadow.find` giving no ITEM_PER for "no apply waiting", but an apply first asks the note of the
writes of its own cycle (`State.freshAt`, R7), which the clause leaves free: at `State.noteWithoutShadow` the pass runs on a slot period of
8 wc and not on the ITEM_PER held. The statement ranges over every state, and nothing in it ties the note to a shadow. -/
theorem not_sequencerRuns : ¬ Obligations.SequencerRuns := by
  unfold Obligations.SequencerRuns
  rintro ⟨-, -, -, -, -, -, -, -, -, -, -, -, -, -, -, -, -, -, -, hplay, -, -⟩
  obtain ⟨t, ht, -, -, hheld, -⟩ := hplay State.noteWithoutShadow 0 0 1 (0, 0) 0 0 false rfl (by decide) (by decide) rfl rfl rfl rfl
    rfl (by decide)
  obtain ⟨u, hu, hnote⟩ := State.noteWithoutShadow_boundary
  obtain rfl : t = u := Host.Outcome.next.inj (ht.symm.trans hu)
  have hne : holdPer (State.noteWithoutShadow.rawPer 0) ≠ 8192 := by decide
  exact hne (hheld.symm.trans hnote)

end Sys2Proof.Machine


/-! # The light budget: cuts, the interlock latch and CAP_LOCK (R240 to R247) -/

namespace Sys2Proof.Machine

/-! ### Instants and the wc they lie in (R22) -/

theorem tLt_eq_true_iff (a b : Nat) : tLt a b = true ↔ 2 ^ 71 ≤ tSub a b := by
  have hlt : tSub a b < 2 ^ 72 := Nat.mod_lt _ (Nat.two_pow_pos _)
  unfold tLt tDiff sgn
  rw [decide_eq_true_iff, Nat.mod_eq_of_lt hlt]
  split <;> omega

theorem tLe_tFloor_self (t : Nat) : tLe (tFloor t) t = true := by
  have h := tSub_eq_emod (tFloor t) t
  rw [tLe_eq_true_iff]
  unfold tFloor at *
  omega

theorem tLt_tFloor_self (t : Nat) : tLt t (tFloor t) = false := by
  have h := tSub_eq_emod t (tFloor t)
  rw [← Bool.not_eq_true, tLt_eq_true_iff]
  unfold tFloor at *
  omega

theorem eq_of_tFloor_eq {a b : Nat} (hf : tFloor a = tFloor b) (hab : tLt a b = false) (hba : tLt b a = false) : a = b := by
  have h := tSub_eq_emod a b
  have k := tSub_eq_emod b a
  rw [← Bool.not_eq_true, tLt_eq_true_iff] at hab hba
  unfold tFloor at hf
  omega

@[simp] theorem State.is_flag_apart (s : State) {f g : Fld} {o p : Nat} (h : f.Apart o g p) : (s.flag f o).is g p = s.is g p :=
  congrArg (· == 1) (State.get_flag_apart s h)

/-! ### What a cut does (R240 to R242, R247, R249) -/

section
variable {s : State} {f o e : Nat} {c : Bool × Bool}

/-- A phase of a ball that fibre `f` alone gates ends: only that limiter changes, and it has no active phase left. -/
theorem State.gateTrail_alone (hg : s.gateFibres o = [f]) : ∃ y : LimSt, y.act = none ∧
    s.gateTrail o e = { s with lims := s.lims.set f y } := by
  refine ⟨{ nth (s.limTo f e).lims f with act := none }, rfl, ?_⟩
  unfold State.gateTrail
  rw [hg]
  exact congrArg (fun l => { s with lims := l }) (List.set_set ..)

/-- The flags of a cut are register words alone; by `Only.cutFlags` LIGHT_STATUS and LIGHT_COUNT of the fibre. -/
theorem RegsOnly.cutFlags : RegsOnly s (s.cutFlags f c) := by
  have hl : RegsOnly s (if c.1 then s.flag fLIGHT_STATUS_LIMITED f else s) := by split; exacts [.flag .., .refl _]
  have hm (u : State) : RegsOnly u (if c.2 then u.flag fLIGHT_STATUS_MAXON_CUT f else u) := by split; exacts [.flag .., .refl _]
  exact (hl.trans (hm _)).trans (.bump ..)

theorem Only.cutFlags {ws : List Nat} {t : State} (h : Only ws s t) (hs : aLIGHT_STATUS + f ∈ ws) (hc : aLIGHT_COUNT + f ∈ ws) :
    Only ws s (t.cutFlags f c) := by
  have hl : Only ws s (if c.1 then t.flag fLIGHT_STATUS_LIMITED f else t) := .ite (h.flag hs) h
  exact (Only.ite (hl.flag hs) hl).bump hc

theorem State.is_cutFlags_limited : (s.cutFlags f c).is fLIGHT_STATUS_LIMITED f = (c.1 || s.is fLIGHT_STATUS_LIMITED f) := by
  have hm (u : State) : (u.flag fLIGHT_STATUS_MAXON_CUT f).is fLIGHT_STATUS_LIMITED f = u.is fLIGHT_STATUS_LIMITED f :=
    u.is_flag_apart (.at_same (by decide) f)
  obtain ⟨l, m⟩ := c
  refine (State.is_bump_apart _ 1 (.at_same (by decide) f)).trans ?_
  cases l <;> cases m <;> simp [hm, State.is_flag _ fLIGHT_STATUS_LIMITED f (by decide)]

theorem State.is_cutFlags_maxon : (s.cutFlags f c).is fLIGHT_STATUS_MAXON_CUT f = (c.2 || s.is fLIGHT_STATUS_MAXON_CUT f) := by
  have hl : (s.flag fLIGHT_STATUS_LIMITED f).is fLIGHT_STATUS_MAXON_CUT f = s.is fLIGHT_STATUS_MAXON_CUT f :=
    s.is_flag_apart (.at_same (by decide) f)
  obtain ⟨l, m⟩ := c
  refine (State.is_bump_apart _ 1 (.at_same (by decide) f)).trans ?_
  cases l <;> cases m <;> simp [hl, State.is_flag _ fLIGHT_STATUS_MAXON_CUT f (by decide)]

theorem State.get_cutFlags_cuts : (s.cutFlags f c).get fLIGHT_COUNT_CUTS f =
    satU (fldWidth fLIGHT_COUNT_CUTS) (s.get fLIGHT_COUNT_CUTS f + 1) := by
  have hl (u : State) : (u.flag fLIGHT_STATUS_LIMITED f).get fLIGHT_COUNT_CUTS f = u.get fLIGHT_COUNT_CUTS f :=
    u.get_flag_apart (.at_same (by decide) f)
  have hm (u : State) : (u.flag fLIGHT_STATUS_MAXON_CUT f).get fLIGHT_COUNT_CUTS f = u.get fLIGHT_COUNT_CUTS f :=
    u.get_flag_apart (.at_same (by decide) f)
  obtain ⟨l, m⟩ := c
  refine (State.get_bump_same _ (by decide) 1).trans ?_
  cases l <;> cases m <;> simp [hl, hm]

/-- The state after the phase of channel `o` ends at `e` for the causes `c`, as fibre `f`, which alone gates it, shows it. -/
structure CutAt (f o e : Nat) (c : Bool × Bool) (s t : State) : Prop where
  limited : t.is fLIGHT_STATUS_LIMITED f = (c.1 || s.is fLIGHT_STATUS_LIMITED f)
  maxon : t.is fLIGHT_STATUS_MAXON_CUT f = (c.2 || s.is fLIGHT_STATUS_MAXON_CUT f)
  cuts : t.get fLIGHT_COUNT_CUTS f = satU (fldWidth fLIGHT_COUNT_CUTS) (s.get fLIGHT_COUNT_CUTS f + 1)
  act : (nth t.lims f).act = none
  trail : (t.out o).lastTrail = some e
  words : Only [aLIGHT_STATUS + f, aLIGHT_COUNT + f] s t
  frame : t = { s with regs := t.regs, evts := t.evts, now := t.now, outs := t.outs, lims := t.lims }

/-- The ball of channel `o`, which fibre `f` alone gates, goes to idle at `e`: only that output and that limiter change. -/
theorem State.gateCut_alone (hg : s.gateFibres o = [f]) : ∃ (x : OutSt) (y : LimSt), x.lastTrail = some e ∧ y.act = none ∧
    s.gateCut o e = { s with outs := s.outs.set o x, lims := s.lims.set f y } := by
  unfold State.gateCut
  extract_lets x act
  obtain ⟨y, hy, ht⟩ := State.gateTrail_alone (e := e) (o := o) (f := f)
    (s := s.setOut o { x with act := act, lastTrail := some e, echo := x.echo ++ [(e, false)] }) hg
  exact ⟨_, y, rfl, hy, ht⟩

/-- The ball at idle and the limiter without a phase, and then its flags and count. -/
theorem CutAt.cutFlags {u : State} {x : OutSt} {y : LimSt} {n : Nat} (hx : x.lastTrail = some e) (hy : y.act = none)
    (hl : f < s.lims.length) (ho : o < s.outs.length)
    (hu : u = { s with now := n, outs := s.outs.set o x, lims := s.lims.set f y }) : CutAt f o e c s (u.cutFlags f c) := by
  have hr : u.regs = s.regs := hu ▸ rfl
  have hf : RegsOnly u (u.cutFlags f c) := .cutFlags
  have hlims : (u.cutFlags f c).lims = s.lims.set f y := by rw [hf, hu]
  have houts : (u.cutFlags f c).outs = s.outs.set o x := by rw [hf, hu]
  exact {
    limited := by rw [State.is_cutFlags_limited, State.is_congr hr]
    maxon := by rw [State.is_cutFlags_maxon, State.is_congr hr]
    cuts := by rw [State.get_cutFlags_cuts, State.get_congr hr]
    act := by simpa [hlims, nth, hl] using hy
    trail := by simpa [State.out, houts, nth, ho] using hx
    words := (Only.of_regs hr).cutFlags List.mem_cons_self (List.mem_cons_of_mem _ List.mem_cons_self)
    frame := by rw [hf, hu] }

theorem State.limitCut_alone (hp : s.pins = []) (hg : s.gateFibres o = [f]) (he : s.endsAt f = some e)
    (hl : f < s.lims.length) (ho : o < s.outs.length) : CutAt f o e (s.cutCauses f e) s (s.limitCut o e) := by
  have hcut : s.limitCut o e = ((s.until_ e).gateCut o e).cutFlags f (s.cutCauses f e) := by
    unfold State.limitCut
    rw [State.flowTo_nil e hp, hg, List.filter_singleton, he, beq_self_eq_true]
    rfl
  obtain ⟨x, y, hx, hy, hgate⟩ := State.gateCut_alone (s := s.until_ e) (e := e) ((s.gateFibres_until o e).trans hg)
  rw [hcut]
  exact .cutFlags hx hy hl ho (hgate.trans (by rw [State.until_eq]))

/-- The limiter of `f`, which alone gates its channel, ends its phase at `e` for the cause that falls at `a`, the other falling at `b`. -/
theorem State.cutBy_ends {a b : Nat} (hg : s.gateFibres (s.get fLIGHT_CFG_GATE_CH f) = [f]) (he : s.endsAt f = some e)
    (hab : (if tFloor a = tFloor b then (if tLt b a then b else a) else a) = e) (hb : tLt b (tFloor a) = false)
    (hs : s.trailsBy (s.get fLIGHT_CFG_GATE_CH f) e = false) :
    s.cutBy f (some a) (some b) = .next (s.limitCut (s.get fLIGHT_CFG_GATE_CH f) e) := by
  have hfirst : tLe (tFloor a) e = true := by
    have hfl : tFloor a = tFloor e := by rw [← hab]; split <;> [(split <;> [assumption; rfl]); rfl]
    rw [hfl]
    exact tLe_tFloor_self e
  unfold State.cutBy
  simp [hg, he, hab, hb, hs, hfirst]

theorem State.cutBy_none {x : Option Nat} : s.cutBy f none x = .next s := rfl

end

section
variable {s : State} {f : Fin 2} {a m : Nat} (ha : s.limitCutAt f.val = some a) (hm : s.maxOnCutAt f.val = some m)
include ha hm

theorem exec_limiterCut : exec (.limiterCut f) s = s.cutBy f.val (some a) (some m) := ha ▸ hm ▸ rfl

theorem exec_maxonCut : exec (.maxonCut f) s = s.cutBy f.val (some m) (some a) := ha ▸ hm ▸ rfl

theorem State.cutCauses_eq (e : Nat) : s.cutCauses f.val e = (tFloor a == tFloor e, tFloor m == tFloor e) := by
  unfold State.cutCauses
  rw [ha, hm]

end

/-! ### CAP_LOCK and the interlock (R230, R245, R246) -/

theorem Only.foldl {α : Type} {ws : List Nat} {s t : State} {l : List α} {f : State → α → State} (h : Only ws s t)
    (hf : ∀ {u x}, x ∈ l → Only ws s u → Only ws s (f u x)) : Only ws s (l.foldl f t) :=
  List.foldlRecOn (motive := Only ws s) l f h fun _ hu _ hx => hf hx hu

section
variable {ws : List Nat} {s t : State} {f n : Nat}

theorem Only.probeSample (h : Only ws s t) (hs : aPROBE_STATUS + f ∈ ws) (hc : aPROBE_COUNT + f ∈ ws) :
    Only ws s (t.probeSample f n) :=
  .ite h.rest <| .ite (((h.rest (u := { t with probes := _ })).flag hs).bump hc) h.rest

/-- The samples of a builder show in its own status and count alone. -/
theorem Only.probeTo (h : Only ws s t) (hs : aPROBE_STATUS + f ∈ ws) (hc : aPROBE_COUNT + f ∈ ws) :
    Only ws s (t.probeTo f n) := by
  unfold State.probeTo
  extract_lets ab stop p from_ t₁ t₂
  have h₁ : Only ws s t₁ := h.rest
  have h₂ : Only ws s t₂ := h₁.foldl fun _ hu => hu.probeSample hs hc
  exact h₂.rest

theorem Only.probesNow (h : Only ws s t) (hs : ∀ f < 2, aPROBE_STATUS + f ∈ ws := by decide)
    (hc : ∀ f < 2, aPROBE_COUNT + f ∈ ws := by decide) : Only ws s t.probesNow :=
  (h.probeTo (hs 0 (by decide)) (hc 0 (by decide))).probeTo (hs 1 (by decide)) (hc 1 (by decide))

end

theorem State.word_oSuppress_lightLock (s : State) {o : Nat} (ho : o < 64) : (s.oSuppress o).word aLIGHT_LOCK = s.word aLIGHT_LOCK := by
  unfold State.oSuppress State.oBump State.oFlag
  simp only [ho, if_true]
  rw [State.word_bump, State.word_flag, if_neg, if_neg] <;>
  · simp only [fWARP_CH_STATUS_SUPPRESSED, fWARP_CH_COUNT_SUPPRESS, aWARP_CH_STATUS, aWARP_CH_COUNT, aLIGHT_LOCK]
    omega

/-- The latch's release clears IL_LATCH and, of the word it stands in, no more. -/
theorem State.word_ilRelease (s : State) : s.ilRelease.word aLIGHT_LOCK = (s.unflag fLIGHT_LOCK_IL_LATCH).word aLIGHT_LOCK := by
  unfold State.ilRelease
  extract_lets held s'
  have hs : s'.word aLIGHT_LOCK = s.word aLIGHT_LOCK := by
    unfold s'
    split
    · refine List.foldlRecOn (motive := fun (t : State) => t.word aLIGHT_LOCK = s.word aLIGHT_LOCK) _ _ rfl fun t ht o ho => ?_
      split
      exacts [(t.word_oSuppress_lightLock (List.mem_range.mp ho)).trans ht, ht]
    · rfl
  rw [State.word_unflag, State.word_unflag, hs]

theorem State.is_ilRelease (s : State) {f : Fld} (hf : f.base + 0 = aLIGHT_LOCK) :
    s.ilRelease.is f = (s.unflag fLIGHT_LOCK_IL_LATCH).is f := by
  unfold State.is State.get
  rw [hf, s.word_ilRelease]

/-- Settles O21. Each cut ends its phase by `State.cutBy_ends` and leaves what `CutAt` says; `State.cutCauses` gives the flags. -/
theorem lightBudget : Obligations.LightBudget := by
  unfold Obligations.LightBudget
  refine ⟨?limiter, ?maxon, ?bothLimiter, ?bothMaxon, ?maxonIdle, ?limiterIdle, ?capLock, ?clearHigh, ?clearLow,
    ?assertHigh, ?assertLow⟩
  case limiter =>
    intro s f a m hp hg ha hm hne hb he hs hl ho
    obtain ⟨hlim, hmax, hcuts, hact, htrail, hwords, hframe⟩ := State.limitCut_alone hp hg he hl ho
    rw [State.cutCauses_eq ha hm, beq_self_eq_true] at hlim
    rw [State.cutCauses_eq ha hm, beq_false_of_ne hne.symm] at hmax
    have ht := (exec_limiterCut ha hm).trans (State.cutBy_ends hg he (if_neg hne) hb hs)
    exact ⟨_, ht, hlim, hmax, hcuts, hact, htrail, hwords, hframe⟩
  case maxon =>
    intro s f a m hp hg ha hm hne hb he hs hl ho
    obtain ⟨hlim, hmax, hcuts, hact, htrail, hwords, hframe⟩ := State.limitCut_alone hp hg he hl ho
    rw [State.cutCauses_eq ha hm, beq_false_of_ne hne] at hlim
    rw [State.cutCauses_eq ha hm, beq_self_eq_true] at hmax
    have ht := (exec_maxonCut ha hm).trans (State.cutBy_ends hg he (if_neg hne.symm) hb hs)
    exact ⟨_, ht, hlim, hmax, hcuts, hact, htrail, hwords, hframe⟩
  case bothLimiter =>
    intro s f a m hp hg ha hm heq hb he hs hl ho
    obtain ⟨hlim, hmax, hcuts, hact, htrail, hwords, hframe⟩ := State.limitCut_alone hp hg he hl ho
    rw [State.cutCauses_eq ha hm, beq_self_eq_true] at hlim
    rw [State.cutCauses_eq ha hm, beq_iff_eq.mpr heq.symm] at hmax
    have hfirst : (if tFloor a = tFloor m then (if tLt m a then m else a) else a) = a := by simp [hb]
    have ht := (exec_limiterCut ha hm).trans (State.cutBy_ends hg he hfirst (heq ▸ tLt_tFloor_self m) hs)
    exact ⟨_, ht, hlim, hmax, hcuts, hact, htrail, hwords, hframe⟩
  case bothMaxon =>
    intro s f a m hp hg ha hm heq hb he hs hl ho
    obtain ⟨hlim, hmax, hcuts, hact, htrail, hwords, hframe⟩ := State.limitCut_alone hp hg he hl ho
    rw [State.cutCauses_eq ha hm, beq_self_eq_true] at hlim
    rw [State.cutCauses_eq ha hm, beq_iff_eq.mpr heq.symm] at hmax
    have hfirst : (if tFloor m = tFloor a then (if tLt a m then a else m) else m) = a := by
      rw [if_pos heq.symm]
      by_cases h : tLt a m = true
      · exact if_pos h
      · rw [if_neg h, eq_of_tFloor_eq heq (Bool.eq_false_of_not_eq_true h) hb]
    have ht := (exec_maxonCut ha hm).trans (State.cutBy_ends hg he hfirst (heq ▸ tLt_tFloor_self a) hs)
    exact ⟨_, ht, hlim, hmax, hcuts, hact, htrail, hwords, hframe⟩
  case maxonIdle =>
    intro s f h
    show s.cutBy f.val (s.maxOnCutAt f.val) _ = _
    rw [show s.maxOnCutAt f.val = none by simp [State.maxOnCutAt, h], State.cutBy_none]
  case limiterIdle =>
    intro s f h
    show s.cutBy f.val (s.limitCutAt f.val) _ = _
    rw [show s.limitCutAt f.val = none by simp [State.limitCutAt, h], State.cutBy_none]
  case capLock =>
    intro s
    have hw : Only [aLIGHT_LOCK] s (s.flag fLIGHT_LOCK_CAP_LOCK) := (Only.refl _ s).flag
    exact ⟨_, rfl, State.is_flag s _ _ (by decide), rfl, hw.rest,
      congrArg (fun t : State => { t with aonLock := true }) (RegsOnly.flag s fLIGHT_LOCK_CAP_LOCK 0)⟩
  case clearHigh =>
    intro s
    have hprobes : Only [aPROBE_STATUS + 0, aPROBE_STATUS + 1, aPROBE_COUNT + 0, aPROBE_COUNT + 1] s s.probesNow := (Only.refl _ s).probesNow
    refine ⟨(s.probesNow.put fLIGHT_LOCK_IL_IN 1).ilRelease, rfl, ?_, ?_, ?_⟩ <;> rw [State.is_ilRelease _ rfl]
    · exact State.is_unflag _ _ _ (by decide)
    · rw [State.is_unflag_apart _ (by decide)]
      exact State.is_put_b2n s.probesNow true (by decide)
    · rw [State.is_unflag_apart _ (by decide), State.is_put_apart _ _ (by decide), hprobes.is (by decide)]
  case clearLow => exact fun _ => rfl
  case assertHigh => exact fun _ => rfl
  case assertLow => exact fun _ => rfl

end Sys2Proof.Machine


/-! # What the events of Heddle's lines leave as it is (R132 to R149)

`BesideLines s t` says that `t` follows `s` with every part of the state as it was that no event of a line changes. As with `Keeps`, each
function that such an event runs through has one lemma, of its name, that follows the function's text. -/

namespace Sys2Proof.Machine

-- one thread: the lemmas are many and small
set_option Elab.async false

/-- The state without the parts that an event of a line can change: register words with their copies and notes, the time, the free values,
commands on their way, outputs, lines, the chain, sequencers, Reed, the governor and Bolt's queues. -/
def State.besideLines (s : State) : State :=
  { s with
    regs := [], shadow := [], staged := [], evts := [], now := 0, freeIdx := 0, hsf := [], stalled := [], sentAt := [], outs := [],
    lines := [], pins := [], chain := {}, seqs := [], reedIn := [], reedPend := [], gates := [], mus := [], gov := {}, queues := [] }

/-- `t` follows `s` with all that no event of a line changes as it was. -/
def BesideLines (s t : State) : Prop := t.besideLines = s.besideLines

variable {s t u : State}

/-! ### How steps are put together -/

theorem BesideLines.refl (s : State) : BesideLines s s := rfl

theorem BesideLines.rest (h : BesideLines s t) (hu : u.besideLines = t.besideLines := by rfl) : BesideLines s u := hu.trans h

theorem BesideLines.ite {c : Prop} {_ : Decidable c} (ht : BesideLines s t) (hu : BesideLines s u) :
    BesideLines s (if c then t else u) := by
  split <;> assumption

/-- A step taken where a condition holds. -/
theorem BesideLines.when {c : Prop} {_ : Decidable c} (h : BesideLines s t) (k : BesideLines s t → BesideLines s u) :
    BesideLines s (if c then u else t) :=
  (k h).ite h

/-- A step taken where a condition does not hold. -/
theorem BesideLines.unless {c : Prop} {_ : Decidable c} (h : BesideLines s t) (k : BesideLines s t → BesideLines s u) :
    BesideLines s (if c then t else u) :=
  h.ite (k h)

theorem BesideLines.foldl {α : Type} {l : List α} {f : State → α → State} (h : BesideLines s t)
    (hf : ∀ {u x}, BesideLines s u → BesideLines s (f u x)) : BesideLines s (l.foldl f t) :=
  List.foldlRecOn (motive := BesideLines s) l f h fun _ hu _ _ => hf hu

theorem BesideLines.forN {n : Nat} {f : State → Nat → State} (h : BesideLines s t)
    (hf : ∀ {u i}, BesideLines s u → BesideLines s (f u i)) : BesideLines s (t.forN n f) := h.foldl hf

/-! ### Words, fields, time and queues -/

section
variable (h : BesideLines s t) {f : Fld} {o q : Nat}
include h

theorem BesideLines.put {v : Nat} : BesideLines s (t.put f v o) := h.rest
theorem BesideLines.unflag : BesideLines s (t.unflag f o) := h.rest

theorem BesideLines.noteEvt {g : Nat → Nat} : BesideLines s (t.noteEvt f o g) := h.unless fun hu => .ite hu.rest hu.rest

theorem BesideLines.flag : BesideLines s (t.flag f o) := h.noteEvt.put
theorem BesideLines.bump {n : Nat} : BesideLines s (t.bump f o n) := h.noteEvt.put
theorem BesideLines.until_ {i : Nat} : BesideLines s (t.until_ i) := h.when (·.rest)

theorem BesideLines.applyWord {a : Nat} : BesideLines s (t.applyWord a) := by
  unfold State.applyWord
  split <;> [exact h; exact h.rest; (split <;> [exact h; exact h.rest])]

theorem BesideLines.applyWords {as : List Nat} : BesideLines s (t.applyWords as) := h.foldl (·.applyWord)

theorem BesideLines.setQueue {x : BQueue} : BesideLines s (t.setQueue q x) := h.rest
theorem BesideLines.trackLow : BesideLines s t.trackLow := h.when (·.put)
theorem BesideLines.rewind {ign : Ignore} : BesideLines s (t.rewind q ign) := h.setQueue

theorem BesideLines.placeWord {w : Word} {sop eop bad : Bool} : BesideLines s (t.placeWord q w sop eop bad) :=
  .ite h.rewind.flag.bump <| .ite h.rewind.flag.bump <| .ite h.setQueue.trackLow <|
  .ite h.rewind.flag.bump (BesideLines.rest h).setQueue.trackLow

theorem BesideLines.queueWord {w : Word} {sop eop bad : Bool} : BesideLines s (t.queueWord q w sop eop bad) :=
  .ite (h.when (·.rewind.flag.bump)).setQueue.placeWord <|
  .ite h.placeWord (by split; exacts [(h.when (·.setQueue)).flag, h.when (·.setQueue), h.flag.bump])

end

theorem BesideLines.writeWords {ws : List Word} {q : Nat} {first : Bool} (h : BesideLines s t) : BesideLines s (t.writeWords q first ws) := by
  induction ws generalizing t first with
  | nil => exact h
  | cons w ws ih => exact ih h.queueWord

theorem BesideLines.packet? (h : BesideLines s t) {q : Option Nat} {ws : List Word} : BesideLines s (t.packet? q ws) := by
  cases q with
  | none => exact h
  | some q =>
    unfold State.packet? State.packet
    dsimp only
    split
    exacts [h, h.writeWords]

/-! ### Outputs (chapters 03 and 05) -/

section
variable (h : BesideLines s t) {o i l : Nat} {fc fm : Fld}
include h

theorem BesideLines.setOut {x : OutSt} : BesideLines s (t.setOut o x) := h.rest
theorem BesideLines.oPut {v : Nat} : BesideLines s (t.oPut o fc fm v) := .ite h.put h.put
theorem BesideLines.oFlag : BesideLines s (t.oFlag o fc fm) := .ite h.flag h.flag
theorem BesideLines.oBump : BesideLines s (t.oBump o fc fm) := .ite h.bump h.bump
theorem BesideLines.oDrop : BesideLines s (t.oDrop o fc fm) := h.oFlag.oBump
theorem BesideLines.oOverlap : BesideLines s (t.oOverlap o) := h.oFlag.oBump
theorem BesideLines.oClampCheck : BesideLines s (t.oClampCheck o) := h.when (·.oFlag)
theorem BesideLines.wakeGroup {g : Nat} : BesideLines s (t.wakeGroup g) := h.unless (·.rest)
theorem BesideLines.setDrv {v : Nat} : BesideLines s (t.setDrv o v) := h.oPut
theorem BesideLines.unstage {a : Nat} : BesideLines s (t.unstage a) := h.rest
theorem BesideLines.reform : BesideLines s (t.reform o) := (h.foldl (·.unstage)).unless (·.setDrv.setOut.wakeGroup)
theorem BesideLines.oRefresh : BesideLines s (t.oRefresh o) := h.setOut.oPut.oPut.when (·.reform)

theorem BesideLines.applyOut : BesideLines s (t.applyOut o) :=
  ((h.applyWords.oPut.oClampCheck.when (·.setOut)).when (·.oPut)).oRefresh

theorem BesideLines.applyIfWaiting : BesideLines s (t.applyIfWaiting o) := h.when (·.applyOut)
theorem BesideLines.acceptTrig {keep : List Trig} : BesideLines s (t.acceptTrig o i keep) := h.setOut.oRefresh

theorem BesideLines.startTrigger : BesideLines s (t.startTrigger o i) :=
  h.unless fun hu =>
    .ite hu.oDrop <| .ite hu.oDrop <| .ite (.ite hu.oFlag (.ite hu.oOverlap hu.acceptTrig)) <|
    .ite hu.acceptTrig <| .ite hu.oDrop <| .ite hu.acceptTrig (.ite (.ite hu.acceptTrig hu.oDrop) hu.oDrop)

theorem BesideLines.stopOut {line : Option Nat} : BesideLines s (t.stopOut o i line) :=
  .ite h.oDrop <| .ite h.setOut.oRefresh.applyIfWaiting <| h.when (·.flag)

theorem BesideLines.lineToOut : BesideLines s (t.lineToOut l i o) :=
  h.unless fun hu =>
    .ite hu.bump <| .ite (.ite hu.oDrop (hu.bump.unless (·.flag))) <|
    .ite hu.oFlag (.ite (.ite hu.stopOut hu.startTrigger) (.ite hu.startTrigger hu.stopOut))

theorem BesideLines.lineToOuts : BesideLines s (t.lineToOuts l i) := h.forN (·.lineToOut)

end

/-! ### Reed's gates and measurement units (chapter 08) -/

section
variable (h : BesideLines s t) {g u' o c i : Nat}
include h

theorem BesideLines.setMu {x : MuSt} : BesideLines s (t.setMu u' x) := h.rest
theorem BesideLines.setGate {x : GateSt} : BesideLines s (t.setGate g x) := h.rest
theorem BesideLines.muOpen : BesideLines s (t.muOpen g u') := h.unless (·.setMu.flag)

theorem BesideLines.muCross {x : ReedX} : BesideLines s (t.muCross x u') := by
  unfold State.muCross
  dsimp only
  split
  · exact h.unless fun hu =>
      .ite (hu.when (·.setMu)) <|
      .ite (.ite ((hu.when (·.bump)).when (·.setMu)) (hu.unless fun hv => .ite (hv.when (·.bump)).setMu hv.setMu)) <|
      hu.when (·.setMu)
  · exact h

theorem BesideLines.muResult {gs : GateSt} : BesideLines s (t.muResult u' o c gs) := by
  unfold State.muResult
  refine BesideLines.setMu ?_
  have hb {p : Prop} {_ : Decidable p} : BesideLines s (if p then t.bump fREED_MU_STATUS_UNPAIRED u' else t) := h.when (·.bump)
  have hbf {p : Prop} {_ : Decidable p} : BesideLines s (if p then t.bump fREED_MU_STATUS_UNPAIRED u' else t).free.2 := hb.rest
  split
  · exact hb
  split
  · split
    exacts [BesideLines.rest hbf, hb]
  dsimp only
  split
  · exact BesideLines.rest hbf
  split
  exacts [hbf, hb]

theorem BesideLines.muClose {gs : GateSt} : BesideLines s (t.muClose g o c u' gs) := h.when (·.muResult.unflag)

theorem BesideLines.gateOpenStep : BesideLines s (t.gateOpenStep g o) :=
  .ite h.setGate.flag <| h.setGate.unless fun hu => (hu.setGate.flag.when (·.flag)).forN (·.muOpen)

theorem BesideLines.gateCloseStep : BesideLines s (t.gateCloseStep g c) := by
  unfold State.gateCloseStep
  dsimp only
  split
  exacts [h, ((h.when (·.flag)).forN (·.muClose)).setGate.unflag.bump]

end

theorem BesideLines.gateSync {g i n : Nat} (h : BesideLines s t) : BesideLines s (t.gateSync g i n) := by
  induction n generalizing t with
  | zero => exact h
  | succ n ih =>
    unfold State.gateSync
    split
    exacts [h, .ite (ih (.ite h.gateCloseStep h.gateOpenStep)) h]

section
variable (h : BesideLines s t) {g i l : Nat}
include h

theorem BesideLines.gatesSync : BesideLines s (t.gatesSync i) := h.forN (·.gateSync)
theorem BesideLines.gateOpening {src : Nat} : BesideLines s (t.gateOpening g i src) := h.setGate
theorem BesideLines.gateClosing : BesideLines s (t.gateClosing g i) := h.setGate

theorem BesideLines.gateStamp {n : Nat} {rising : Bool} : BesideLines s (t.gateStamp n i rising) :=
  h.forN fun hu => hu.when fun hv => .ite hv.gateOpening hv.gateClosing

theorem BesideLines.offerStamp {st : Stamp} : BesideLines s (t.offerStamp i st) :=
  h.unless fun hu => hu.unless fun hv => .ite (BesideLines.rest hv).bump.flag hv.rest

theorem BesideLines.reedTake {c : ReedX} : BesideLines s (t.reedTake c) := by
  unfold State.reedTake
  extract_lets t₁ t₂ t₃
  have h₃ : BesideLines s t₃ := (h.gatesSync.when (·.gateStamp.gatesSync)).forN (·.muCross)
  split
  exacts [h₃.offerStamp, h₃]

theorem BesideLines.reedTo : BesideLines s (t.reedTo i) := (BesideLines.foldl h.rest (·.reedTake)).gatesSync

theorem BesideLines.lineToGates : BesideLines s (t.lineToGates l i) :=
  h.reedTo.forN fun hu => hu.unless fun hv => (hv.when (·.gateOpening)).when (·.gateClosing)

end

/-! ### Due commands, the timebase load and the chain (chapters 01 and 14) -/

section
variable (h : BesideLines s t) {p : Nat} {f : ChFrame} {src : Option Nat}
include h

theorem BesideLines.sendDue {c : DueCmd} : BesideLines s (t.sendDue c) := (BesideLines.when h (·.bump)).rest

theorem BesideLines.checkLoad : BesideLines s t.checkLoad := by
  rw [t.checkLoad_eq]
  exact h.rest

theorem BesideLines.setPort {x : PortSt} : BesideLines s (t.setPort p x) := h.rest
theorem BesideLines.routeDrop : BesideLines s t.routeDrop := h.bump
theorem BesideLines.emit : BesideLines s (t.emit p f) := h.unless (·.setPort)

theorem BesideLines.freeBuf : BesideLines s (t.freeBuf src f) := by
  unfold State.freeBuf
  split
  exacts [h, .ite h.setPort h.setPort]

end

theorem BesideLines.drainPort {p n : Nat} (h : BesideLines s t) : BesideLines s (t.drainPort p n) := by
  induction n generalizing t with
  | zero => exact h
  | succ n ih =>
    refine h.unless fun _ => ?_
    dsimp only
    split
    exacts [h, ih h.setPort.emit.freeBuf]

section
variable (h : BesideLines s t) {p l i : Nat} {f : ChFrame} {src : Option Nat}
include h

theorem BesideLines.sendVia : BesideLines s (t.sendVia p f src) :=
  .ite h.routeDrop.freeBuf <| .ite h.emit h.setPort.drainPort

theorem BesideLines.sendRoute : BesideLines s (t.sendRoute f) := by
  unfold State.sendRoute State.routeVia
  split
  exacts [h.routeDrop.freeBuf, h.sendVia]

theorem BesideLines.noteFrame : BesideLines s (t.noteFrame f) := h.rest
theorem BesideLines.newFrame {typ dst arg : Nat} {ws : List Word} : BesideLines s (t.newFrame typ dst arg ws).2 := h.rest
theorem BesideLines.sendBoth : BesideLines s (t.sendBoth f) := h.forN fun hu => hu.when (·.sendVia)

theorem BesideLines.sendTrig {dst due dline action group : Nat} : BesideLines s (t.sendTrig dst due dline action group) :=
  h.unless fun hu =>
    .ite hu.newFrame.noteFrame.sendBoth.sendDue <| .ite hu.newFrame.sendDue <|
    .ite hu.newFrame.noteFrame.sendBoth hu.newFrame.sendRoute

theorem BesideLines.chainEmit : BesideLines s (t.chainEmit l i) := h.forN fun hu => hu.when (·.sendTrig)

end

/-! ### Sequencers and Heddle's lines (chapters 04 and 06) -/

section
variable (h : BesideLines s t) {q l i : Nat}
include h

theorem BesideLines.setSeq {x : SeqSt} : BesideLines s (t.setSeq q x) := h.rest

theorem BesideLines.seqRequest {r : SeqReq} : BesideLines s (t.seqRequest q r) :=
  ((h.when (·.flag.bump)).when (·.flag)).setSeq.put

theorem BesideLines.lineStart : BesideLines s (t.lineStart l i q) := by
  unfold State.lineStart
  dsimp only
  split
  exacts [h.when fun hu => (hu.when (·.flag)).setSeq, h]

theorem BesideLines.lineToSeq : BesideLines s (t.lineToSeq l i q) :=
  (show BesideLines _ _ from by split; exacts [h.lineStart.when (·.setSeq), h.lineStart]).when (·.seqRequest)

theorem BesideLines.setLine {x : HedLine} : BesideLines s (t.setLine l x) := h.rest
theorem BesideLines.armLine : BesideLines s (t.armLine l i) := .ite h.setLine <| h.when (·.setLine)

theorem BesideLines.fireLine {src : Nat} : BesideLines s (t.fireLine l i src) :=
  (((h.setLine.flag.bump.when (·.flag)).when (·.packet?)).forN fun hu =>
    hu.when (·.armLine)).lineToOuts.lineToGates.lineToSeq.lineToSeq.chainEmit.checkLoad

theorem BesideLines.sourceEvent {src : Nat} : BesideLines s (t.sourceEvent l src i) :=
  h.unless fun hu => .ite hu.flag (.ite hu.flag (.ite hu.fireLine hu.setLine))

theorem BesideLines.pinStep {p : PinEvt} : BesideLines s (t.pinStep p) := (BesideLines.rest h).until_.sourceEvent

end

theorem BesideLines.flowGo {ok : Nat → Bool} {n : Nat} (h : BesideLines s t) : BesideLines s (State.flowGo ok n t) := by
  induction n generalizing t with
  | zero => exact h
  | succ n ih =>
    unfold State.flowGo
    split
    exacts [h, .ite (ih h.pinStep) h]

theorem BesideLines.flowTo (h : BesideLines s t) {i : Nat} : BesideLines s (t.flowTo i) := h.flowGo.until_

/-- The builders stay as they are while time passes: no event of a line reaches them but through a sequencer's items. -/
theorem State.flowTo_probes (s : State) (i : Nat) : (s.flowTo i).probes = s.probes := by
  have h : (s.flowTo i).besideLines = s.besideLines := (BesideLines.refl s).flowTo
  have hp := congrArg State.probes h
  exact hp

end Sys2Proof.Machine


/-! # Probe applies, transmit links and shot boundaries (R222, R223, R231 to R237) -/

namespace Sys2Proof.Machine

/-! ### Applies (R231, R232) -/

section
variable {s t : State}

/-- What feeds a builder stands in SEQ_CFG and SEQ_STATUS and in the sequencers' runs. -/
theorem State.feedRuns_of_only {ws : List Nat} (h : Only ws s t) (hq : t.seqs = s.seqs)
    (hc : ∀ q < 2, aSEQ_CFG + q ∉ ws := by decide) (hs : ∀ q < 2, aSEQ_STATUS + q ∉ ws := by decide) (f : Nat) :
    t.feedRuns f = s.feedRuns f := by
  have hfeeds (q : Nat) (hl : q < 2) : ((fibresOf (fSEQ_CFG_FIBRE.get (t.seqCfg q))).contains f && t.seqRunning q) =
      ((fibresOf (fSEQ_CFG_FIBRE.get (s.seqCfg q))).contains f && s.seqRunning q) := by
    have hcfg : t.seqCfg q = s.seqCfg q := by
      unfold State.seqCfg State.seq
      rw [hq, h _ (hc q hl)]
    have hrun : t.seqRunning q = s.seqRunning q := by
      unfold State.seqRunning
      rw [h.get (hs q hl)]
    rw [hcfg, hrun]
  exact congrArg₂ or (hfeeds 0 (by decide)) (congrArg₂ or (hfeeds 1 (by decide)) rfl)

/-- The mask and the waits of an apply are no part of what feeds a builder. -/
theorem State.feedRuns_put_mask (v f : Nat) : (s.put fPROBE_APPLY_FIBRE_MASK v).feedRuns f = s.feedRuns f :=
  State.feedRuns_of_only (ws := [aPROBE_APPLY]) ((Only.refl _ s).put) rfl (f := f)

theorem State.feedRuns_flag_wait (f : Nat) : (s.flag fPROBE_STATUS_APPLY_WAIT).feedRuns f = s.feedRuns f :=
  State.feedRuns_of_only (ws := [aPROBE_STATUS]) ((Only.refl _ s).flag) (State.flag_seqs ..) (f := f)

/-- GO for one selected builder: it waits for the shot where a running sequencer feeds it, and applies at the present instant elsewhere. -/
def State.probeGo (s : State) (f : Nat) : State :=
  if s.feedRuns f then s.flag fPROBE_STATUS_APPLY_WAIT f else s.applyProbe f s.nowT

theorem State.probeGo_fed {f : Nat} (h : s.feedRuns f = true) : s.probeGo f = s.flag fPROBE_STATUS_APPLY_WAIT f := if_pos h

theorem State.probeGo_unfed {f : Nat} (h : s.feedRuns f = false) : s.probeGo f = s.applyProbe f s.nowT := if_neg (ne_true_of_eq_false h)

theorem exec_probeApply (mask : Fin 4) : exec (.probeApply mask) s =
    .next ((bitList mask.val 2).foldl State.probeGo (s.put fPROBE_APPLY_FIBRE_MASK mask.val)) := rfl

theorem exec_probeTapplyArm {mask : Fin 4} (h : s.is fPROBE_TAPPLY_CTRL_PENDING = false) : exec (.probeTapplyArm mask) s =
    .next (((s.put fPROBE_TAPPLY_CTRL_FIBRE_MASK mask.val).flag fPROBE_TAPPLY_CTRL_PENDING).sendDue
      (DueCmd.mk (.probeApply mask.val) 3 (tsOf (s.word aPROBE_TAPPLY_LO) (s.word aPROBE_TAPPLY_HI)) 6)) := by
  have ho : Only [aPROBE_TAPPLY_CTRL] s (s.put fPROBE_TAPPLY_CTRL_FIBRE_MASK mask.val) := (Only.refl _ s).put
  rw [← ho aPROBE_TAPPLY_LO (by decide), ← ho aPROBE_TAPPLY_HI (by decide)]
  exact if_neg (ne_true_of_eq_false ((State.is_put_apart s _ (by decide)).trans h))

theorem exec_probeTapplyCancel : exec .probeTapplyCancel s =
    .next (((s.cancelDue (fun c => isProbeApply c.target)).map (·.unflag fPROBE_TAPPLY_CTRL_PENDING)).getD s) := by
  change execProbeTapplyCancel s = _
  unfold execProbeTapplyCancel
  cases s.cancelDue _ <;> rfl

end

/-! ### The transmit link (R235 to R237) -/

section
variable {s t : State} {f v : Nat} {ws : List Nat}

theorem Only.wakeLane (h : Only ws s t) {l : Nat} : Only ws s (t.wakeLane l) := .ite h h.rest

theorem Only.txState (h : Only ws s t) (ha : aPROBE_LINK_STATUS + f ∈ ws) : Only ws s (t.txState f v) := by
  have hd : Only ws s (t.txDrops f) := .ite h.rest ((h.rest (u := { t with txLinks := _ })).bump ha)
  exact (hd.rest (u := { t.txDrops f with txLinks := _ })).put ha

theorem State.get_txState (hv : v < 4) : (s.txState f v).get fPROBE_LINK_STATUS_STATE f = v := State.get_put_of_lt _ (by decide) hv

theorem State.is_txState_linkEn : (s.txState f v).is fPROBE_LINK_CTRL_LINK_EN f = s.is fPROBE_LINK_CTRL_LINK_EN f := by
  have h : Only [aPROBE_LINK_STATUS + f] s (s.txState f v) := (Only.refl _ s).txState List.mem_cons_self
  exact h.is fun hm => absurd (Nat.add_right_cancel (List.mem_singleton.mp hm)) (by decide)

theorem State.get_flag_linkEn : (s.flag fPROBE_LINK_CTRL_LINK_EN f).get fPROBE_LINK_STATUS_STATE f = s.get fPROBE_LINK_STATUS_STATE f :=
  s.get_flag_apart (.at_same (by decide) f)

/-- LINK_EN set takes a link that is DOWN to CLK_WAIT; its lanes wait for the governor. -/
theorem exec_txLinkEnable_down {f : Fin 2} (h : s.get fPROBE_LINK_STATUS_STATE f.val = 0) : ∃ t, exec (.txLinkEnable f) s = .next t ∧
    Only [] ((s.flag fPROBE_LINK_CTRL_LINK_EN f.val).txState f.val 1) t :=
  ⟨_, congrArg Host.Outcome.next (if_pos (State.get_flag_linkEn.trans h)), (Only.refl _ _).foldl fun _ hu => hu.wakeLane⟩

end

/-! ### Shot boundaries (R223) -/

/-- A shot boundary leaves the list of those that lie ahead, as time has come to it. -/
theorem exec_shotBoundary {s : State} {f : Fin 2} {u : Nat} {rest : List Nat} (h : (nth s.probes f.val).shots = u :: rest) :
    exec (.shotBoundary f) s = .next
      (((((({ s.flowTo u with probes := (s.flowTo u).probes.set f.val { nth (s.flowTo u).probes f.val with shots := rest } } :
      State).probeShot f.val u).specShot f.val u).rxShot f.val u).throttleShot f.val).weftShot f.val) := by
  change execShotBoundary f s = _
  unfold execShotBoundary
  simp only [h, State.flowTo_probes]

/-- Settles O20: an apply is `State.probeGo` of each selected builder, a link's state follows `State.txState`, and a shot boundary finds the
builders as they were, whatever events of lines take place up to it (`State.flowTo_probes`). -/
theorem probesAndTransmitLinks : Obligations.ProbesAndTransmitLinks := by
  unfold Obligations.ProbesAndTransmitLinks
  refine ⟨?applyNone, ?apply0Fed, ?apply1Fed, ?applyBothFed, ?apply0, ?apply1, ?arm, ?armBusy, ?cancel, ?enable, ?enableDown, ?disable,
    ?clockPass, ?clockFail, ?clockDown, ?up, ?notUp, ?fifoNotUp, ?fifoUp, ?shot, ?noShot⟩
  case applyNone =>
    intro s
    exact ⟨_, exec_probeApply 0, State.get_put_of_lt s (by decide) (by decide), (Only.refl _ s).put, .put ..⟩
  case apply0Fed =>
    exact fun s h => (exec_probeApply 1).trans (congrArg Host.Outcome.next (State.probeGo_fed ((State.feedRuns_put_mask 1 0).trans h)))
  case apply1Fed =>
    exact fun s h => (exec_probeApply 2).trans (congrArg Host.Outcome.next (State.probeGo_fed ((State.feedRuns_put_mask 2 1).trans h)))
  case applyBothFed =>
    intro s h0 h1
    rw [exec_probeApply]
    show Host.Outcome.next (((s.put fPROBE_APPLY_FIBRE_MASK 3).probeGo 0).probeGo 1) = _
    rw [State.probeGo_fed ((State.feedRuns_put_mask 3 0).trans h0),
      State.probeGo_fed ((State.feedRuns_flag_wait 1).trans ((State.feedRuns_put_mask 3 1).trans h1))]
  case apply0 =>
    exact fun s h => (exec_probeApply 1).trans (congrArg Host.Outcome.next (State.probeGo_unfed ((State.feedRuns_put_mask 1 0).trans h)))
  case apply1 =>
    exact fun s h => (exec_probeApply 2).trans (congrArg Host.Outcome.next (State.probeGo_unfed ((State.feedRuns_put_mask 2 1).trans h)))
  case arm => exact fun s mask h => exec_probeTapplyArm h
  case armBusy => exact fun s mask h => if_pos ((State.is_put_apart s _ (by decide)).trans h)
  case cancel =>
    intro s s' h
    rw [exec_probeTapplyCancel, h]
    rfl
  case enable => exact fun s f h => congrArg Host.Outcome.next (if_neg (State.get_flag_linkEn.trans_ne h))
  case enableDown =>
    intro s f h
    obtain ⟨t, ht, hk⟩ := exec_txLinkEnable_down h
    refine ⟨t, ht, ?_, (hk.get List.not_mem_nil).trans (State.get_txState (by decide))⟩
    rw [hk.is List.not_mem_nil, State.is_txState_linkEn, State.is_flag _ _ _ (by decide)]
  case disable =>
    intro s f
    exact ⟨_, rfl, State.is_txState_linkEn.trans (State.is_unflag _ _ _ (by decide)), State.get_txState (by decide)⟩
  case clockPass =>
    intro s f span h hs hc
    exact (if_neg h).trans (if_pos ⟨hc, by simp [hs]⟩)
  case clockFail =>
    intro s f span h hc
    refine (if_neg h).trans (if_neg ?_)
    rintro ⟨hok, hsafe⟩
    rcases hc with hc | hc
    exacts [hsafe hc, ne_true_of_eq_false hc hok]
  case clockDown => exact fun s f span h => if_pos h
  case up =>
    intro s f h hg hs
    exact ⟨_, if_pos ⟨h, hg, by simp [hs]⟩, State.get_txState (by decide)⟩
  case notUp =>
    intro s f h
    refine if_neg ?_
    rintro ⟨hst, hg, hs⟩
    rcases h with h | h | h
    exacts [h hst, absurd hg (not_le.mpr h), hs h]
  case fifoNotUp => exact fun s f h => congrArg Host.Outcome.next (if_neg ((s.get_flag_apart (.at_same (by decide) f.val)).trans_ne h))
  case fifoUp => exact fun s f h => congrArg Host.Outcome.next (if_pos ((s.get_flag_apart (.at_same (by decide) f.val)).trans h))
  case shot => exact fun s f u rest h => exec_shotBoundary h
  case noShot =>
    intro s f h
    change execShotBoundary f s = _
    unfold execShotBoundary
    simp only [h]
    rfl

end Sys2Proof.Machine


/-! # What outlives a reset, the restore of an empty Bobbin, and the release of its hold (R245, R455, R528 to R535, R593, R637) -/

namespace Sys2Proof.Machine

/-! ### What outlives a reset (R528) -/

theorem State.foldl_setWord_eq (l : List (Nat × Word)) (s : State) :
    l.foldl (fun z e => z.setWord e.1 e.2) s = { s with regs := (l.foldl (fun z e => z.setWord e.1 e.2) s).regs } := by
  induction l generalizing s with
  | nil => rfl
  | cons e l ih => exact ih (s.setWord e.1 e.2)

theorem State.find_setWord_ne (s : State) {a b : Nat} (w : Word) (h : b ≠ a) : (s.setWord a w).regs.find b = s.regs.find b :=
  RegMap.find_put_ne _ _ _ h

theorem State.ageWords_addr {s : State} {e : Nat × Word} (h : e ∈ s.ageWords) : e.1 / 65536 = 0x13 := by
  simp only [State.ageWords, List.mem_filter, Bool.and_eq_true, beq_iff_eq] at h
  exact h.2.1.1

section
variable (s : State)

/-- A reset that leaves the AON items keeps them, Bobbin, the commands that wait and the free values; beside register words the rest is as at
reset. -/
theorem State.wiped_aon : s.wiped true = { State.reset with
    pending := s.pending, freeIdx := s.freeIdx, bobbin := s.bobbin, aonLock := s.aonLock, health := s.health, bscan := s.bscan,
    chain := { State.reset.chain with aonAddr := s.chain.aonAddr }, regs := (s.wiped true).regs } := State.foldl_setWord_eq s.ageWords _

/-- The words that outlive a reset are those of BOOT_FAILS and FW_AVOID, FAULT_PREV and the ageing registers. -/
theorem State.find_wiped (aon : Bool) {a : Nat} (hage : a / 65536 ≠ 0x13) (hm : a ≠ aMGMT_STATUS) (hf : a ≠ aFAULT_PREV) :
    (s.wiped aon).regs.find a = none := by
  cases aon with
  | false => rfl
  | true =>
    refine List.foldlRecOn (motive := fun (z : State) => z.regs.find a = none) s.ageWords _ ?_ fun z hz e he => ?_
    · rw [State.find_setWord_ne _ _ hf]
      refine (State.find_setWord_ne _ _ hm).trans <| (State.find_setWord_ne _ _ hm).trans rfl
    · rw [State.find_setWord_ne _ _ fun h : a = e.1 => hage (h ▸ State.ageWords_addr he), hz]

theorem State.word_wiped (aon : Bool) {a : Nat} (hage : a / 65536 ≠ 0x13) (hm : a ≠ aMGMT_STATUS) (hf : a ≠ aFAULT_PREV) :
    (s.wiped aon).word a = regReset a := by
  unfold State.word
  rw [s.find_wiped aon hage hm hf]
  rfl

/-- The mark of an ageing record in part that a loss of power leaves (R598). -/
def State.lossAgeBad : Bool := s.bobbin.ageBad || (s.bobbinWrites && s.free.1 % 2 == 1)

/-- The device as a loss of power finds it, a free value taken and the mark set. -/
def State.cutShort : State := { s with freeIdx := s.freeIdx + 1, bobbin := { s.bobbin with ageBad := s.lossAgeBad } }

theorem exec_powerLoss (aon : Bool) : exec (.powerLoss aon) s =
    .next ((s.cutShort.wiped !aon).setMgmt { (s.cutShort.wiped !aon).mgmt with aonKept := !aon }) := rfl

theorem State.cutShort_of_idle (h : s.bobbinWrites = false) : s.cutShort = { s with freeIdx := s.freeIdx + 1 } := by
  unfold State.cutShort State.lossAgeBad
  rw [h, Bool.false_and, Bool.or_false]

end

/-! ### The restore of an empty Bobbin, step by step (R529 to R532) -/

/-- IL_IN and IL_LATCH follow the pin (R246). -/
def State.pinShown (s : State) (ilLow : Bool) : State := (s.put fLIGHT_LOCK_IL_IN (b2n !ilLow)).put fLIGHT_LOCK_IL_LATCH (b2n ilLow)

section
variable {s : State} (hb : s.bobbin = State.reset.bobbin)
include hb

theorem State.newestCkpt_of_empty : s.newestCkpt = none := by
  unfold State.newestCkpt
  rw [hb]
  rfl

theorem State.image_of_empty (i : Nat) : s.image i = none := by
  unfold State.image
  rw [hb]
  rcases i with _ | _ | _ <;> rfl

/-- Without an image MGMT stays bare (R515). -/
theorem State.boot_of_empty : s.boot = s.put fMGMT_STATUS_FW_STATE 0 := by
  have hn : s.newestImage = none := by
    unfold State.newestImage
    rw [State.image_of_empty hb, State.image_of_empty hb]
  unfold State.boot
  simp only [State.image_of_empty hb, hn, Option.isSome_none, Bool.false_eq_true, if_false, ite_self]

theorem State.restoreSlot_of_empty : s.restoreSlot = none := by
  have hs (i : Nat) : s.headOk i = none := by
    unfold State.headOk State.slotHead
    rw [hb]
    rcases i with _ | _ | _ <;> rfl
  unfold State.restoreSlot
  rw [hs, hs]

/-- Step 3 without a checkpoint: the pin, its latch, and the lock, which a power-up with the pin low opens (R245, R246). -/
theorem State.restoreLight_of_empty (ilLow pwr : Bool) : s.restoreLight ilLow pwr =
    if ilLow ∧ pwr then
      { ((s.pinShown ilLow).unflag fLIGHT_LOCK_CAP_LOCK).put fLIGHT_LOCK_UNLOCKED_BOOT
          (b2n (s.is fLIGHT_LOCK_CAP_LOCK || s.aonLock)) with aonLock := false }
    else (s.pinShown ilLow).put fLIGHT_LOCK_CAP_LOCK (b2n (s.is fLIGHT_LOCK_CAP_LOCK || s.aonLock)) := by
  unfold State.restoreLight
  rw [State.newestCkpt_of_empty hb]
  rfl

end

/-- Step 4 without an image. -/
def State.fwBare (s : State) : State := (s.put fMGMT_STATUS_FW_STATE 0).put fMGMT_RESTORE_FW_SRC 0

/-- Step 8 after a loss of VDD_AON, or none. -/
def State.ageStep (s : State) (pwr : Bool) : State := if pwr then s.restoreAge else s

/-- What follows step 8 without a draft: the derived fields, the time state, the golden CRCs and the wake of PD_LINK. -/
def State.bareEnd (s : State) : State :=
  let u := s.derive false
  ((List.range 9).foldl State.goldenCrc (u.toTstate (if u.isHead then 5 else 0))).restoreWake false

section
variable {s : State} (hb : s.bobbin = State.reset.bobbin)
include hb

theorem State.restoreFw_of_empty : s.restoreFw = s.fwBare := by
  have hfw : (s.put fMGMT_STATUS_FW_STATE 0).fwState ≠ 2 := by
    unfold State.fwState
    rw [State.get_put_of_lt s (by decide) (by decide)]
    decide
  unfold State.restoreFw
  rw [State.newestCkpt_of_empty hb]
  dsimp only
  rw [State.boot_of_empty hb, if_neg hfw]
  rfl

theorem State.restoreRest_of_empty (pwr : Bool) : s.restoreRest pwr = (s.fwBare.ageStep pwr).bareEnd := by
  have hd : s.fwBare.restoreDraft = (s.fwBare, none) := by
    unfold State.restoreDraft
    rw [State.restoreSlot_of_empty (s := s.fwBare) hb]
  have hr : s.fwBare.restoreRet none = s.fwBare := by
    unfold State.restoreRet
    rw [State.newestCkpt_of_empty (s := s.fwBare) hb]
  unfold State.restoreRest
  rw [State.restoreFw_of_empty hb]
  dsimp only
  rw [hd, hr]
  rfl

end

/-! ### Domains and their requests (R541, R547) -/

/-- Bits of a number replaced by others. -/
theorem natBits_replace {w lo wd v : Nat} (hv : v < 2 ^ wd) : natBits (w - natBits w lo wd * 2 ^ lo + v * 2 ^ lo) lo wd = v := by
  have hw : w = w / 2 ^ lo / 2 ^ wd * 2 ^ wd * 2 ^ lo + natBits w lo wd * 2 ^ lo + w % 2 ^ lo := by
    unfold natBits
    rw [Nat.shiftRight_eq_div_pow, ← Nat.add_mul, Nat.div_add_mod', Nat.div_add_mod']
  have he : w - natBits w lo wd * 2 ^ lo + v * 2 ^ lo = (w / 2 ^ lo / 2 ^ wd * 2 ^ wd + v) * 2 ^ lo + w % 2 ^ lo := by
    rw [Nat.add_mul]
    omega
  rw [he, natBits, Nat.shiftRight_eq_div_pow, Nat.add_comm, Nat.add_mul_div_right _ _ (Nat.two_pow_pos lo),
    Nat.div_eq_of_lt (Nat.mod_lt _ (Nat.two_pow_pos lo)), Nat.zero_add, Nat.mul_add_mod', Nat.mod_eq_of_lt hv]

theorem natBits_mod {n lo wd k : Nat} (h : lo + wd ≤ k) : natBits (n % 2 ^ k) lo wd = natBits n lo wd := by
  refine Nat.eq_of_testBit_eq fun i => ?_
  rw [testBit_natBits, testBit_natBits, Nat.testBit_mod_two_pow]
  by_cases hi : i < wd
  · rw [decide_eq_true (by omega : lo + i < k), Bool.true_and]
  · simp [hi]

theorem State.domState_setDom (s : State) {d v : Nat} (hd : d < 8) (hv : v < 8) : (s.setDom d v).domState d = v := by
  unfold State.domState State.setDom
  rw [State.get_put_same _ _ _ _ (by decide), natBits_mod (by simp only [fldWidth, fPWR_STATE_STATE]; omega), Nat.mod_eq_of_lt hv]
  exact natBits_replace hv

/-- Words and the governor's queue are all that a question to the governor changes (R547). -/
theorem State.govAsk_eq (s : State) (e : GovEvt) : s.govAsk e = { s with regs := (s.govAsk e).regs, gov := (s.govAsk e).gov } := by
  unfold State.govAsk
  split <;> rfl

theorem Only.govAsk {ws : List Nat} {s t : State} {e : GovEvt} (h : Only ws s t) (ha : aPWR_GOV ∈ ws := by decide) :
    Only ws s (t.govAsk e) :=
  .ite h (((h.rest (u := { t with gov := _ })).put ha).put ha |>.put ha)

/-- A domain that is asked to wake waits for the governor (R541). -/
theorem State.domState_wakeAsk (s : State) {d : Nat} (hd : d < 8) : (s.wakeAsk d).domState d = 1 := by
  have hw : Only [aPWR_GOV] (s.setDom d 1) (s.wakeAsk d) := (Only.refl _ _).govAsk
  unfold State.domState
  rw [hw.get (by decide)]
  exact State.domState_setDom s hd (by decide)

/-! ### What the restore of an empty Bobbin leaves -/

/-- The words that steps 5 to 9 of the restore of an empty Bobbin change, those of the ageing registers apart. -/
def bareWords : List Nat := [aTB_WC_PER_MT, aCHAIN_STATUS, aPWR_REQ, aPWR_STATE, aPWR_GOV] ++ (List.range 9).map (aDRAFT_ISL_CRC + ·)

section
variable {s t : State} {pwr : Bool}

theorem Only.goldenCrcs (h : Only bareWords s t) : Only bareWords s ((List.range 9).foldl State.goldenCrc t) :=
  h.foldl fun hi hu => hu.put (List.mem_append_right _ (List.mem_map_of_mem hi))

theorem Only.toTstate {ws : List Nat} {n : Nat} (h : Only ws s t) (ha : aCHAIN_STATUS ∈ ws := by decide) : Only ws s (t.toTstate n) := by
  have hw : Only ws s (if n = 1 then t else t.unflag fCHAIN_STATUS_STEP_WAIT) := .ite h (h.unflag ha)
  exact (hw.put (f := fCHAIN_STATUS_TSTATE) ha).rest

/-- Step 9 without a draft wakes PD_LINK alone (R455, R532). -/
theorem State.restoreWake_bare (s : State) : s.restoreWake false = ((s.setMgmt { s.mgmt with wakeMt := 0 }).setReq 7 1).wakeAsk 7 := by
  unfold State.restoreWake
  rw [if_neg (by simp), if_neg (by simp)]

theorem Only.bareEnd (h : Only bareWords s t) : Only bareWords s t.bareEnd := by
  have hd : Only bareWords s (t.derive false) := h.setWord
  have hg (u : State) (hu : Only bareWords s u) : Only bareWords s (u.restoreWake false) := by
    rw [State.restoreWake_bare]
    have hm : Only bareWords s (u.setMgmt { u.mgmt with wakeMt := 0 }) := hu.rest
    exact ((hm.put (f := fPWR_REQ_REQ) (o := 0)).put (f := fPWR_STATE_STATE) (o := 0)).govAsk
  exact hg _ hd.toTstate.goldenCrcs

theorem RegsOnly.goldenCrcs : RegsOnly s ((List.range 9).foldl State.goldenCrc s) :=
  List.foldlRecOn (motive := fun (t : State) => RegsOnly s t) _ _ (.refl s) fun _ ht _ _ => ht.trans (.put ..)

theorem State.toTstate_eq (s : State) (n : Nat) : s.toTstate n = { s with regs := (s.toTstate n).regs, chain := (s.toTstate n).chain } := by
  unfold State.toTstate
  split <;> rfl

/-- Beside words, what follows step 8 changes the chain's counts, the governor's queue and MGMT's own part. -/
theorem State.bareEnd_eq (s : State) : ∃ r v c g m, s.bareEnd = { s with regs := r, evts := v, chain := c, gov := g, mgmt := m } := by
  unfold State.bareEnd
  extract_lets u
  rw [State.restoreWake_bare, State.wakeAsk, State.govAsk_eq, RegsOnly.goldenCrcs (s := u.toTstate _), State.toTstate_eq u]
  exact ⟨_, _, _, _, _, rfl⟩

theorem State.domState_bareEnd (s : State) : s.bareEnd.domState 7 = 1 := by
  unfold State.bareEnd
  rw [State.restoreWake_bare]
  exact State.domState_wakeAsk _ (by decide)

end

/-! ### The ageing registers at a power-up (R593) -/

theorem RegMap.find_filter {m : RegMap} {p : Nat × Word → Bool} {a : Nat} (h : ∀ w, p (a, w) = true) :
    RegMap.find (m.filter p) a = m.find a := by
  induction m with
  | nil => rfl
  | cons e m ih =>
    obtain ⟨b, w⟩ := e
    by_cases hba : b = a
    · subst hba
      rw [List.filter_cons_of_pos (h w)]
      simp [RegMap.find]
    · by_cases hp : p (b, w) = true
      · rw [List.filter_cons_of_pos hp]
        simp [RegMap.find, hba, ih]
      · rw [List.filter_cons_of_neg hp]
        simp [RegMap.find, hba, ih]

section
variable {s : State} {pwr : Bool} (hb : s.bobbin = State.reset.bobbin)
include hb

/-- Step 8 without an ageing record: the ageing registers and accumulators as at reset, and AGE_LOST. -/
theorem State.restoreAge_of_empty : s.restoreAge = ({ s with
    health := {}, regs := s.regs.filter (fun e => e.1 / 65536 != 0x13 || e.1 == aHEALTH_LAMP_LIMIT) } : State).flag fHEALTH_CTRL_AGE_LOST := by
  unfold State.restoreAge
  dsimp only
  rw [hb]
  rfl

theorem State.word_ageStep {a : Nat} (ha : a / 65536 ≠ 0x13) : (s.ageStep pwr).word a = s.word a := by
  unfold State.ageStep
  split
  · rw [State.restoreAge_of_empty hb, State.word_flag, if_neg fun h => ha (by rw [h]; rfl)]
    unfold State.word
    rw [RegMap.find_filter fun w => by simp [ha]]
  · rfl

theorem State.ageStep_eq : ∃ r v h, s.ageStep pwr = { s with regs := r, evts := v, health := h } ∧ (pwr = false → h = s.health) := by
  cases pwr with
  | false => exact ⟨_, _, _, rfl, fun _ => rfl⟩
  | true => exact ⟨_, _, _, (State.restoreAge_of_empty hb).trans (RegsOnly.flag _ fHEALTH_CTRL_AGE_LOST 0), nofun⟩

/-- Steps 4 to 9 leave every word but their own as step 4 has it, and of the AON items the ageing accumulators alone can change. -/
theorem State.word_restoreRest {a : Nat} (ha : a ∉ bareWords) (h13 : a / 65536 ≠ 0x13) : (s.restoreRest pwr).word a = s.fwBare.word a := by
  rw [State.restoreRest_of_empty hb, (Only.refl _ _).bareEnd a ha, State.word_ageStep (s := s.fwBare) hb h13]

theorem State.get_restoreRest {f : Fld} (ha : f.base + 0 ∉ bareWords := by decide) (h13 : (f.base + 0) / 65536 ≠ 0x13 := by decide) :
    (s.restoreRest pwr).get f = s.fwBare.get f := congrArg f.get (State.word_restoreRest hb ha h13)

theorem State.restoreRest_kept : (s.restoreRest pwr).aonLock = s.aonLock ∧ (s.restoreRest pwr).bscan = s.bscan ∧
    (pwr = false → (s.restoreRest pwr).health = s.health) := by
  obtain ⟨_, _, h, hage, hh⟩ := State.ageStep_eq (s := s.fwBare) (pwr := pwr) hb
  obtain ⟨_, _, _, _, _, hend⟩ := (s.fwBare.ageStep pwr).bareEnd_eq
  rw [State.restoreRest_of_empty hb, hend, hage]
  exact ⟨rfl, rfl, hh⟩

end

/-! ### The restore of an empty Bobbin (R245, R455, R529) -/

/-- What the restore of an empty Bobbin shows: the hold, the strap, bare firmware, PD_LINK asked to wake, and the lock as the latch had it,
unless the pin is low at a power-up. -/
structure BareRestored (head ilLow pwr : Bool) (s t : State) : Prop where
  hold : t.is fMGMT_RESUME_HOLD_ACTIVE = true
  head : t.is fCHAIN_ADDR_HEAD = head
  bare : t.fwState = 0
  link : t.domState 7 = 1
  lock : t.is fLIGHT_LOCK_CAP_LOCK = (s.aonLock && !(ilLow && pwr))
  latch : t.aonLock = (s.aonLock && !(ilLow && pwr))
  cause : t.get fMGMT_STATUS_RESET_CAUSE = s.get fMGMT_STATUS_RESET_CAUSE
  bscan : t.bscan = s.bscan
  health : pwr = false → t.health = s.health

theorem Only.restoreLight {s t : State} {ws : List Nat} {ilLow pwr : Bool} (hb : t.bobbin = State.reset.bobbin) (h : Only ws s t)
    (ha : aLIGHT_LOCK ∈ ws := by decide) : Only ws s (t.restoreLight ilLow pwr) := by
  rw [State.restoreLight_of_empty hb]
  have hpin : Only ws s (t.pinShown ilLow) :=
    (h.put (f := fLIGHT_LOCK_IL_IN) (o := 0) ha).put (f := fLIGHT_LOCK_IL_LATCH) (o := 0) ha
  exact .ite ((hpin.unflag ha).put ha).rest (hpin.put ha)

section
variable {s : State} {head ilLow pwr : Bool} (hb : s.bobbin = State.reset.bobbin)
include hb

/-- Step 3 of a device whose CAP_LOCK is clear: the lock and its latch (R245). -/
theorem State.restoreLight_lock (hl : s.is fLIGHT_LOCK_CAP_LOCK = false) :
    (s.restoreLight ilLow pwr).is fLIGHT_LOCK_CAP_LOCK = (s.aonLock && !(ilLow && pwr)) ∧
    (s.restoreLight ilLow pwr).aonLock = (s.aonLock && !(ilLow && pwr)) := by
  rw [State.restoreLight_of_empty hb, hl, Bool.false_or]
  cases ilLow <;> cases pwr
  case true.true =>
    refine ⟨?_, by simp⟩
    show State.is (State.put _ _ _ 0) _ = _
    rw [State.is_put_apart _ _ (by decide), State.is_unflag _ _ _ (by decide)]
    simp
  all_goals
    refine ⟨?_, by simp [State.pinShown]⟩
    rw [if_neg (by simp), State.is_put_b2n _ _ (by decide)]
    simp

theorem State.restoreLight_kept : (s.restoreLight ilLow pwr).bobbin = s.bobbin ∧ (s.restoreLight ilLow pwr).bscan = s.bscan ∧
    (s.restoreLight ilLow pwr).health = s.health := by
  rw [State.restoreLight_of_empty hb]
  split <;> exact ⟨rfl, rfl, rfl⟩

end

/-- The start of the restore: the strap and the hold. -/
def State.strapped (s : State) (head : Bool) : State := (s.put fCHAIN_ADDR_HEAD (b2n head)).flag fMGMT_RESUME_HOLD_ACTIVE

theorem RegsOnly.strapped {s : State} {head : Bool} : RegsOnly s (s.strapped head) := (RegsOnly.put s fCHAIN_ADDR_HEAD _ 0).trans (.flag ..)

theorem Only.strapped {s : State} {head : Bool} : Only [aCHAIN_ADDR, aMGMT_RESUME] s (s.strapped head) :=
  ((Only.refl _ s).put (f := fCHAIN_ADDR_HEAD) (o := 0)).flag

theorem State.restore_eq (s : State) (head ilLow pwr : Bool) :
    s.restore head ilLow pwr = ((s.strapped head).restoreLight ilLow pwr).restoreRest pwr := rfl

section
variable {s : State} {head ilLow pwr : Bool} (hb : s.bobbin = State.reset.bobbin)
include hb

theorem State.bobbin_strapped : (s.strapped head).bobbin = State.reset.bobbin := by rw [RegsOnly.strapped (s := s) (head := head)]; exact hb

theorem State.bobbin_restoreLight_strapped : ((s.strapped head).restoreLight ilLow pwr).bobbin = State.reset.bobbin :=
  (State.restoreLight_kept (State.bobbin_strapped hb)).1.trans (State.bobbin_strapped hb)

/-- A field of another word than those of steps 4 to 9 is left as step 3 has it. -/
theorem State.get_restore {f : Fld} (ha : f.base + 0 ∉ bareWords := by decide) (h13 : (f.base + 0) / 65536 ≠ 0x13 := by decide)
    (hm : f.base + 0 ∉ [aMGMT_STATUS, aMGMT_RESTORE] := by decide) :
    (s.restore head ilLow pwr).get f = ((s.strapped head).restoreLight ilLow pwr).get f := by
  have hfw (v : State) : Only [aMGMT_STATUS, aMGMT_RESTORE] v v.fwBare := ((Only.refl _ v).put (f := fMGMT_STATUS_FW_STATE) (o := 0)).put
  rw [s.restore_eq, State.get_restoreRest (State.bobbin_restoreLight_strapped hb) ha h13, (hfw _).get hm]

/-- A field of MGMT_STATUS is left as step 4 has it. -/
theorem State.get_restore_status {f : Fld} (hf : f.base + 0 = aMGMT_STATUS) :
    (s.restore head ilLow pwr).get f = (((s.strapped head).restoreLight ilLow pwr).put fMGMT_STATUS_FW_STATE 0).get f := by
  rw [s.restore_eq, State.get_restoreRest (State.bobbin_restoreLight_strapped hb) (by rw [hf]; decide) (by rw [hf]; decide), State.fwBare,
    State.get_put_apart _ _ (.inl (by rw [hf]; decide))]

theorem State.get_restoreLight_strapped {f : Fld} (hf : f.base + 0 ∉ [aLIGHT_LOCK] := by decide) :
    ((s.strapped head).restoreLight ilLow pwr).get f = (s.strapped head).get f :=
  ((Only.refl _ _).restoreLight (State.bobbin_strapped hb)).get hf

theorem BareRestored.restore (hl : s.is fLIGHT_LOCK_CAP_LOCK = false) : BareRestored head ilLow pwr s (s.restore head ilLow pwr) := by
  have hb' : (s.strapped head).bobbin = State.reset.bobbin := State.bobbin_strapped hb
  obtain ⟨hlock, hlatch⟩ := State.restoreLight_lock (ilLow := ilLow) (pwr := pwr) hb' ((Only.strapped.is (by decide)).trans hl)
  obtain ⟨-, hscan, hhealth⟩ := State.restoreLight_kept (ilLow := ilLow) (pwr := pwr) hb'
  have hb'' : ((s.strapped head).restoreLight ilLow pwr).bobbin = State.reset.bobbin := State.bobbin_restoreLight_strapped hb
  obtain ⟨haon, hscan', hhealth'⟩ := State.restoreRest_kept (pwr := pwr) hb''
  have hkeep : (s.strapped head).aonLock = s.aonLock ∧ (s.strapped head).bscan = s.bscan ∧ (s.strapped head).health = s.health := by
    rw [RegsOnly.strapped (s := s) (head := head)]
    exact ⟨rfl, rfl, rfl⟩
  rw [hkeep.1] at hlock hlatch
  exact {
    hold := by
      unfold State.is
      rw [State.get_restore hb, State.get_restoreLight_strapped hb, State.strapped, State.get_flag_same _ (by decide)]
      rfl
    head := by
      unfold State.is
      rw [State.get_restore hb, State.get_restoreLight_strapped hb, State.strapped, State.get_flag_apart _ (by decide)]
      exact State.is_put_b2n s head (by decide)
    bare := (State.get_restore_status hb rfl).trans (State.get_put_of_lt _ (by decide) (by decide))
    link := by rw [s.restore_eq, State.restoreRest_of_empty hb'', State.domState_bareEnd]
    lock := (congrArg (· == 1) (State.get_restore hb)).trans hlock
    latch := haon.trans hlatch
    cause := by
      rw [State.get_restore_status hb rfl, State.get_put_apart _ _ (by decide),
        State.get_restoreLight_strapped hb, Only.strapped.get (by decide)]
    bscan := (hscan'.trans hscan).trans hkeep.2.1
    health := fun hp => ((hhealth' hp).trans hhealth).trans hkeep.2.2 }

end

/-! ### Power-ups and resets (R528, R529) -/

section
variable {s : State} {head ilLow pwr : Bool}

/-- The device as a reset of every domain but PD_AON leaves it to the restore, RESET_CAUSE being `c`. -/
def State.resetBy (s : State) (c : Nat) : State := (s.wiped true).put fMGMT_STATUS_RESET_CAUSE c

theorem exec_powerUp : exec (.powerUp head ilLow) s = .next ((s.resetBy (b2n s.mgmt.aonKept)).restore head ilLow !s.mgmt.aonKept) := rfl

theorem exec_resetN {low : ResetLow} :
    exec (.resetN head low) s = .next (((s.bscanRun low.scan).resetBy 1).restore head low.ilLow false) := rfl

theorem State.resetBy_eq (s : State) (c : Nat) : (s.resetBy c).bobbin = s.bobbin ∧ (s.resetBy c).aonLock = s.aonLock ∧
    (s.resetBy c).health = s.health ∧ (s.resetBy c).bscan = s.bscan := by
  unfold State.resetBy
  rw [s.wiped_aon]
  exact ⟨rfl, rfl, rfl, rfl⟩

theorem State.is_resetBy_capLock (s : State) (c : Nat) : (s.resetBy c).is fLIGHT_LOCK_CAP_LOCK = false := by
  unfold State.resetBy
  rw [State.is_put_apart _ _ (by decide)]
  unfold State.is State.get
  rw [s.word_wiped true (by decide) (by decide) (by decide)]
  decide

theorem BareRestored.resetBy (hb : s.bobbin = State.reset.bobbin) (c : Nat) :
    BareRestored head ilLow pwr (s.resetBy c) ((s.resetBy c).restore head ilLow pwr) :=
  .restore ((s.resetBy_eq c).1.trans hb) (s.is_resetBy_capLock c)

theorem State.get_resetBy_cause (s : State) {c : Nat} (hc : c < 16) : (s.resetBy c).get fMGMT_STATUS_RESET_CAUSE = c :=
  State.get_put_of_lt _ (by decide) hc

end

/-! ### The release of the hold (R534, R535) -/

section
variable {s : State} {n : Nat}

theorem Only.resume : Only [aMGMT_RESUME, aTB_LOAD_CTRL] s (s.resume n) := ((Only.refl _ s).unflag.put).checkLoad

theorem State.restoreHold_resume : (s.resume n).restoreHold = false := by
  have hl (u : State) : Only [aTB_LOAD_CTRL] u u.checkLoad := (Only.refl _ u).checkLoad
  unfold State.restoreHold State.resume
  rw [(hl _).is (by decide), State.is_put_apart _ _ (by decide), State.is_unflag _ _ _ (by decide)]

theorem State.get_resume_by (hn : n < 4) : (s.resume n).get fMGMT_RESUME_RESUMED_BY = n := by
  have hl (u : State) : Only [aTB_LOAD_CTRL] u u.checkLoad := (Only.refl _ u).checkLoad
  unfold State.resume
  rw [(hl _).get (by decide), State.get_put_of_lt _ (by decide) hn]

end

/-- Settles O45. Losses of power and resets are `State.wiped`; the restore of an empty Bobbin is `BareRestored`; the other commands
follow their conditions. -/
theorem resetsAndRestore : Obligations.ResetsAndRestore := by
  unfold Obligations.ResetsAndRestore
  refine ⟨?lossAll, ?lossBobbin, ?lossAon, ?upAfterAon, ?upAfterAll, ?resetN, ?done, ?notDone, ?takeover, ?noTakeover, ?resumeNoHold,
    ?resumeEarly, ?resume, ?auto, ?noAuto⟩
  case lossAll =>
    intro s h
    rw [exec_powerLoss, s.cutShort_of_idle h]
    rfl
  case lossBobbin =>
    intro s aon
    refine ⟨_, exec_powerLoss s aon, ?_, ?_, s.cutShort.find_wiped _ (by decide) (by decide) (by decide)⟩
    · cases aon
      · show (s.cutShort.wiped true).bobbin = { s.bobbin with ageBad := (s.cutShort.wiped true).bobbin.ageBad }
        rw [s.cutShort.wiped_aon]
        rfl
      · rfl
    · cases aon
      · show (s.cutShort.wiped true).freeIdx = _
        rw [s.cutShort.wiped_aon]
        rfl
      · rfl
  case lossAon =>
    intro s h
    have hx := exec_powerLoss s false
    rw [s.cutShort_of_idle h, Bool.not_false, State.wiped_aon] at hx
    exact ⟨_, hx, rfl, rfl, rfl, rfl, rfl, rfl, rfl⟩
  case upAfterAon =>
    intro s head ilLow hb hk
    have hr : BareRestored head ilLow false _ _ := .resetBy hb 1
    obtain ⟨-, haon, hhealth, -⟩ := s.resetBy_eq 1
    have hkeep : (s.aonLock && !(ilLow && false)) = s.aonLock := by simp
    refine ⟨_, by rw [exec_powerUp, hk]; rfl, hr.hold, hr.head, ?_, ?_, (hr.health rfl).trans hhealth,
      hr.cause.trans (s.get_resetBy_cause (by decide))⟩
    · rw [hr.lock, haon, hkeep]
    · rw [hr.latch, haon, hkeep]
  case upAfterAll =>
    intro s head ilLow hb hk
    have hr : BareRestored head ilLow true _ _ := .resetBy hb 0
    obtain ⟨-, haon, -, -⟩ := s.resetBy_eq 0
    have hopen : (s.aonLock && !(ilLow && true)) = (s.aonLock && !ilLow) := by simp
    refine ⟨_, by rw [exec_powerUp, hk]; rfl, hr.hold, hr.head, hr.bare, hr.link, ?_, ?_,
      hr.cause.trans (s.get_resetBy_cause (by decide))⟩
    · rw [hr.lock, haon, hopen]
    · rw [hr.latch, haon, hopen]
  case resetN =>
    intro s head low hb
    have hr : BareRestored head low.ilLow false _ _ := .resetBy (s := s.bscanRun low.scan) hb 1
    obtain ⟨-, haon, hhealth, hscan⟩ := (s.bscanRun low.scan).resetBy_eq 1
    have hkeep : (s.aonLock && !(low.ilLow && false)) = s.aonLock := by simp
    refine ⟨_, exec_resetN, hr.hold, hr.head, hr.link, ?_, ?_, (hr.health rfl).trans hhealth,
      hr.cause.trans (State.get_resetBy_cause _ (by decide)), by rw [hr.bscan, hscan]; rfl⟩
    · rw [hr.lock, haon]; exact hkeep
    · rw [hr.latch, haon]; exact hkeep
  case done =>
    intro s hd hh hw
    exact if_neg (by simp [hd, hh, hw])
  case notDone =>
    intro s h
    exact if_pos (by simpa using h)
  case takeover =>
    intro s d hh hd ht hm h2 hen hreq
    refine if_neg ?_
    have hask : (List.range 8).any (fun d => decide (2 ≤ d) && s.domEn d && natBits (s.get fPWR_REQ_REQ) (2 * d) 2 == 0) = true :=
      List.any_eq_true.mpr ⟨d.val, List.mem_range.mpr d.isLt, by simp [h2, hen, hreq]⟩
    simp only [hh, hd, ht, hask, not_lt.mpr hm]
    decide
  case noTakeover =>
    intro s h
    refine if_pos ?_
    rcases h with h | h | h | h <;> simp [h]
  case resumeNoHold =>
    intro s hd hh
    exact (if_neg (by simp [hd])).trans (if_pos (by simp [hh]))
  case resumeEarly =>
    intro s hd
    exact if_pos (by simp [hd])
  case resume =>
    intro s hh hd
    exact ⟨_, (if_neg (by simp [hd])).trans (if_neg (by simp [hh])), State.restoreHold_resume,
      State.get_resume_by (by decide), Only.resume⟩
  case auto =>
    intro s hh hd ha hclk hchain hcal
    exact ⟨_, if_pos ⟨hh, hd, ha, hclk, hchain, hcal⟩, State.restoreHold_resume, State.get_resume_by (by decide), Only.resume⟩
  case noAuto =>
    intro s h
    refine if_neg ?_
    rintro ⟨hh, hd, ha, hclk, hchain, hcal⟩
    simp [hh, hd, ha, hclk, hchain, hcal] at h

end Sys2Proof.Machine


/-! # Reed's gates: an opening event half the timebase from the present (R22, R256 to R258) -/

namespace Sys2Proof.Machine

/-- GATE_OPEN of a gate with no event left at the present changes nothing (R257). -/
theorem exec_gateOpen_of_no_event {s : State} {g : Fin 4} (h : (s.reedTo s.nowT).gateNext g.val = none) :
    exec (.gateOpen g) s = .next s := by
  change s.gateEvent g.val false = _
  unfold State.gateEvent
  dsimp only
  rw [h]
  rfl

theorem State.gateSync_of_no_event {s : State} {g : Nat} (t n : Nat) (h : s.gateNext g = none) : s.gateSync g t n = s := by
  cases n with
  | zero => rfl
  | succ n => rw [State.gateSync, h]

theorem State.gateSync_of_opening {s : State} {g o t : Nat} (n : Nat) (h : s.gateNext g = some (o, false)) (ho : tLe o t = true) :
    s.gateSync g t (n + 1) = (s.gateOpenStep g o).gateSync g t n := by
  rw [State.gateSync, h]
  exact if_pos ho

/-- Where no gate has an event left once gate 0 has come up, the other gates come up with no change. -/
theorem State.gatesSync_of_first {s u : State} {t : Nat} (h : s.gateSync 0 t (s.gateEvents 0 t) = u) (hu : ∀ g < 4, u.gateNext g = none) :
    s.gatesSync t = u := by
  have hrest : ∀ g < 4, ∀ n, u.gateSync g t n = u := fun g hg n => State.gateSync_of_no_event t n (hu g hg)
  simp [State.gatesSync, State.forN, List.range_succ, h, hrest]

/-- A closed HOST gate whose one opening event lies half the timebase, 2^71 wc/1024, from the present. -/
def State.antipodalOpening : State :=
  { State.reset.put fREED_GATE_CFG_SRC 4 0 with gates := State.reset.gates.set 0 { opens := [(2 ^ 71, 4)] } }

/-- The present is before the event by `tLt`, and yet the event is at or before the present, as R22 has it: the two instants are 2^71 apart
both ways. -/
theorem State.antipodalOpening_order :
    tLt State.antipodalOpening.nowT (2 ^ 71) = true ∧ tLe (2 ^ 71) State.antipodalOpening.nowT = true :=
  ⟨(tLt_eq_true_iff _ _).mpr (by decide), (tLe_eq_true_iff _ _).mpr (.inr (by decide))⟩

/-- Once the gate has opened at the event no gate has an event left: HOST with LEN 0 and no CLOSE has no close instant. -/
theorem State.antipodalOpening_opened_gateNext :
    ∀ g < 4, (State.antipodalOpening.gateOpenStep 0 (2 ^ 71)).gateNext g = none := by
  decide

/-- Bringing Reed up to the present opens the gate. -/
theorem State.antipodalOpening_reedTo :
    State.antipodalOpening.reedTo State.antipodalOpening.nowT = State.antipodalOpening.gateOpenStep 0 (2 ^ 71) :=
  State.gatesSync_of_first
    ((State.gateSync_of_opening _ rfl State.antipodalOpening_order.2).trans
      (State.gateSync_of_no_event _ _ (State.antipodalOpening_opened_gateNext 0 (by decide))))
    State.antipodalOpening_opened_gateNext

/-- Refutes O22: its clause for a closed gate with one opening event asks `tLt s.nowT o` for an event still to come, which holds too of an
event 2^71 from the present. R22 puts that event at or before the present, so bringing Reed up to the present takes it, GATE_OPEN finds no
event and leaves the state as it was (log entry 4), in which the gate is closed: `State.antipodalOpening`. -/
theorem not_reedMeasurement : ¬ Obligations.ReedMeasurement := by
  unfold Obligations.ReedMeasurement
  rintro ⟨-, -, -, -, hopen, -⟩
  obtain ⟨t, ht, hopened, -⟩ := hopen State.antipodalOpening 0 (2 ^ 71) rfl rfl rfl rfl State.antipodalOpening_order.1 (by decide)
    (by decide)
  have hnext : (State.antipodalOpening.reedTo State.antipodalOpening.nowT).gateNext 0 = none :=
    State.antipodalOpening_reedTo ▸ State.antipodalOpening_opened_gateNext 0 (by decide)
  obtain rfl : t = State.antipodalOpening := Host.Outcome.next.inj (ht.symm.trans (exec_gateOpen_of_no_event hnext))
  have hclosed : (State.antipodalOpening.gate 0).opened = none := rfl
  exact Option.some_ne_none _ (hopened.symm.trans hclosed)

end Sys2Proof.Machine


/-! # The commands of a calibration run (R280, R281, R283, R285, R287, R288) -/

namespace Sys2Proof.Machine

/-! ### A GO of a bank or of the receive slices -/

/-- A bank's GO is refused while its spare copies, carries or drives a ball (R283). -/
theorem exec_calGoBank_of_spare_used {s : State} {b : Fin 8} (hl : 2 ≤ (s.calCmd 0 b.val 0).get fWARP_BANK_STATUS_SPARE_STATE b.val)
    (hu : (s.calCmd 0 b.val 0).get fWARP_BANK_STATUS_SPARE_STATE b.val ≤ 4) :
    exec (.calGoBank b) s = .next ((s.calCmd 0 b.val 0).calRefuse 13) :=
  if_pos (by omega)

/-- A bank's GO with a spare that is free, in calibration or FAULTY goes for its resources (R280, R281). -/
theorem exec_calGoBank_of_spare_unused {s : State} {b : Fin 8}
    (h : (s.calCmd 0 b.val 0).get fWARP_BANK_STATUS_SPARE_STATE b.val < 2 ∨
      5 ≤ (s.calCmd 0 b.val 0).get fWARP_BANK_STATUS_SPARE_STATE b.val) :
    exec (.calGoBank b) s = .next ((s.calCmd 0 b.val 0).calGo
      { phase := 1, kind := 0, bank := b.val, bad := (s.calCmd 0 b.val 0).get fWARP_BANK_STATUS_SPARE_STATE b.val == 5 }
      [(25, true), (26, true), (17 + b.val, true), (0, true)]) :=
  if_neg (by omega)

section
variable {s : State} {fibres : Fin 4}

/-- A receive run that cannot have the estimator is refused (R280). -/
theorem exec_calGoRx_of_not_claimed (h : ((s.calCmd 3 fibres.val 0).claim 5 [(27, true)]).2 = false) :
    exec (.calGoRx fibres) s = .next (((s.calCmd 3 fibres.val 0).claim 5 [(27, true)]).1.calRefuse 1) :=
  if_pos (ne_true_of_eq_false h)

theorem State.setSpare_rxCal (role pos : Nat) : (s.setSpare role pos).rxCal = s.rxCal := rfl

/-- A receive run that has the estimator starts with the self-test of the spare, whatever the spare did (R287, R313). -/
theorem exec_calGoRx_of_claimed (h : ((s.calCmd 3 fibres.val 0).claim 5 [(27, true)]).2 = true) :
    ∃ t, exec (.calGoRx fibres) s = .next t ∧ t.rxCal.phase = 1 ∧ t.rxCal.todo = bitList fibres.val 2 := by
  refine ⟨_, if_neg (not_not.mpr h), ?_⟩
  split
  · rw [State.setSpare_rxCal]
    exact ⟨rfl, rfl⟩
  · exact ⟨rfl, rfl⟩

end

/-! ### The limit of a hand-over (R281) -/

section
variable {s : State}

theorem exec_handoverLimitExpiry_reached (hp : s.cal.phase = 3) (hw : max 1 (s.get fCAL_CFG_HANDOVER_LIMIT) ≤ s.cal.waitMt) :
    exec .handoverLimitExpiry s = .next ((s.put fCAL_STATUS_REASON 14).calChannel (s.cal.cur + 1)) :=
  if_pos ⟨hp, hw⟩

theorem exec_handoverLimitExpiry_not_due (h : s.cal.phase ≠ 3 ∨ s.cal.waitMt < max 1 (s.get fCAL_CFG_HANDOVER_LIMIT)) :
    exec .handoverLimitExpiry s = .next s :=
  if_neg fun ⟨hp, hw⟩ => h.elim (· hp) (not_lt.mpr hw)

end

/-- Settles O23: a GO follows its one condition, the bank's spare (`exec_calGoBank_of_spare_used`), the claim of the estimator
(`exec_calGoRx_of_claimed`) or R285 (`State.calAllOk`), and goes on by `State.calGo`. The phase in which each kind of run begins, and that RX
runs apart from the others, are the run sequence of log entry 41. -/
theorem calibrationCommands : Obligations.CalibrationCommands := by
  unfold Obligations.CalibrationCommands
  refine ⟨?bankUsed, ?bank, ?mout, ?ti, ?rxRefused, ?rx, ?allRefused, ?all, ?kindNotUsed, ?abort, ?limit, ?noLimit, ?recordWrite⟩
  case bankUsed => exact fun s b ⟨hl, hu⟩ hk => exec_calGoBank_of_spare_used (hk ▸ hl) (hk ▸ hu)
  case bank => exact fun s b h => exec_calGoBank_of_spare_unused h
  case mout => exact fun s outs => rfl
  case ti => exact fun s mask => rfl
  case rxRefused => exact fun s fibres h => exec_calGoRx_of_not_claimed h
  case rx => exact fun s fibres h => exec_calGoRx_of_claimed h
  case allRefused => exact fun s h => if_pos (ne_true_of_eq_false h)
  case all => exact fun s h => if_neg (not_not.mpr h)
  case kindNotUsed => exact fun s kind => rfl
  case abort => exact fun s => rfl
  case limit => exact fun s hp hw => exec_handoverLimitExpiry_reached hp hw
  case noLimit => exact fun s h => exec_handoverLimitExpiry_not_due h
  case recordWrite => exact fun s a w => rfl

end Sys2Proof.Machine


/-! # Checkpoints and calibration sets (R294, R524, R525, R527) -/

namespace Sys2Proof.Machine

/-! ### Erases and ageing records (R590, R591) -/

/-- The words that show the erase counts, one of each region of Bobbin. -/
def eraseWords : List Nat := (List.range 5).map (aHEALTH_ERASE + ·)

theorem eraseRegion_lt (sec : Nat) : eraseRegion sec < 5 := by
  unfold eraseRegion
  split_ifs <;> decide

@[simp] theorem State.erased_bobbin (s : State) (sec : Nat) : (s.erased sec).bobbin = s.bobbin := rfl

@[simp] theorem State.erased_draft (s : State) (sec : Nat) : (s.erased sec).draft = s.draft := rfl

@[simp] theorem State.erasedAll_bobbin (s : State) (secs : List Nat) : (s.erasedAll secs).bobbin = s.bobbin :=
  List.foldlRecOn (motive := fun t : State => t.bobbin = s.bobbin) secs State.erased rfl fun t h sec _ => (t.erased_bobbin sec).trans h

section
variable {ws : List Nat} {s t : State} (h : Only ws s t) (ha : eraseWords ⊆ ws)
include h ha

theorem Only.erased {sec : Nat} : Only ws s (t.erased sec) :=
  h.rest.put (ha (List.mem_map_of_mem (List.mem_range.mpr (eraseRegion_lt sec))))

/-- An ageing record shows in the erase counts alone, those of its own ring. -/
theorem Only.ageRecord : Only ws s t.ageRecord :=
  .ite (Only.erased h.rest ha) h.rest

end

section
variable (s : State) {f : Fld} {o : Nat} (h : f.base + o ∉ eraseWords)
include h

@[simp] theorem State.get_ageRecord : s.ageRecord.get f o = s.get f o :=
  ((Only.refl eraseWords s).ageRecord (List.Subset.refl _)).get h

@[simp] theorem State.is_ageRecord : s.ageRecord.is f o = s.is f o :=
  ((Only.refl eraseWords s).ageRecord (List.Subset.refl _)).is h

end

section
variable {s : State}

/-! ### A checkpoint starts and ends (R524, R525) -/

/-- A checkpoint's start appends its record, not yet valid, to those of the ring, counts the erase of its sector, and shows BUSY and the
count of its words. -/
theorem State.ckptStart_eq : ∃ (recs : List CkptRec) (r : CkptRec) (sec n : Nat), r.ok = false ∧ s.ckptStart =
    (({ s with bobbin := { s.bobbin with ckpts := recs ++ [r] } }.erased sec).flag fMGMT_CKPT_BUSY).put fMGMT_CKPT_ENTRIES n :=
  ⟨_, _, _, _, rfl, rfl⟩

theorem State.is_ckptStart_busy : s.ckptStart.is fMGMT_CKPT_BUSY = true :=
  (State.is_put_apart _ _ (by decide)).trans (State.is_flag _ _ _ (by decide))

theorem State.ckptStart_newest : (s.ckptStart.bobbin.ckpts.getLast?).map (fun r => r.ok) = some false := by
  obtain ⟨recs, r, sec, n, hr, he⟩ := s.ckptStart_eq
  simp [he, hr]

theorem State.ckptStart_draft : s.ckptStart.draft = s.draft := by
  obtain ⟨recs, r, sec, n, -, he⟩ := s.ckptStart_eq
  simp [he]

/-- A checkpoint that is programmed and read back ends with DONE. -/
theorem State.ckptEnd_done : (s.ckptEnd true).is fMGMT_CKPT_BUSY = false ∧ (s.ckptEnd true).is fMGMT_CKPT_DONE = true ∧
    (s.ckptEnd true).get fMGMT_CKPT_CAUSE = 0 := by
  simp (disch := decide) [State.ckptEnd, State.is_unflag, State.is_flag, State.get_put_of_lt]

/-- A checkpoint whose write fails ends with FAIL. -/
theorem State.ckptEnd_fail : (s.ckptEnd false).is fMGMT_CKPT_BUSY = false ∧ (s.ckptEnd false).is fMGMT_CKPT_FAIL = true ∧
    (s.ckptEnd false).get fMGMT_CKPT_CAUSE = 2 := by
  simp (disch := decide) [State.ckptEnd, State.is_unflag, State.is_flag, State.get_put_of_lt]

/-! ### A calibration-set commit starts and ends (R294, R527) -/

theorem State.is_calsetStart_busy : s.calsetStart.is fMGMT_CALSET_BUSY = true :=
  State.is_flag _ _ _ (by decide)

theorem State.calsetStart_drafts : s.calsetStart.bobbin.drafts = s.bobbin.drafts := by
  simp [State.calsetStart]

/-- A set that is programmed and read back ends the commit with DONE. -/
theorem State.calsetEnd_done : (s.calsetEnd true).is fMGMT_CALSET_BUSY = false ∧ (s.calsetEnd true).is fMGMT_CALSET_DONE = true ∧
    (s.calsetEnd true).get fMGMT_CALSET_CAUSE = 0 := by
  simp (disch := decide) [State.calsetEnd, State.is_unflag, State.is_flag, State.get_put_of_lt]

/-- A set whose write fails ends the commit with FAIL. -/
theorem State.calsetEnd_fail : (s.calsetEnd false).is fMGMT_CALSET_BUSY = false ∧ (s.calsetEnd false).is fMGMT_CALSET_FAIL = true ∧
    (s.calsetEnd false).get fMGMT_CALSET_CAUSE = 2 := by
  simp (disch := decide) [State.calsetEnd, State.is_unflag, State.is_flag, State.get_put_of_lt]

/-! ### The commands, by activity, STORE and BUSY -/

theorem exec_ckptGo_of_held (ha : s.actHeld 9 = true) :
    exec .ckptGo s = if s.is fMGMT_CKPT_BUSY then .next s else .next s.ckptStart :=
  if_neg (not_not.mpr ha)

theorem exec_ckptDone_of_busy (ok : Bool) (h : s.is fMGMT_CKPT_BUSY = true) : exec (.ckptDone ok) s = .next (s.ckptEnd ok) :=
  if_pos h

theorem exec_calsetGo_of_held (ha : s.actHeld 10 = true) : exec .calsetGo s =
    if s.is fCAL_CFG_STORE then .next ((s.flag fMGMT_CALSET_FAIL).put fMGMT_CALSET_CAUSE 4)
    else if s.is fMGMT_CALSET_BUSY then .next s else .next s.calsetStart :=
  if_neg (not_not.mpr ha)

theorem exec_calsetDone_of_busy (ok : Bool) (h : s.is fMGMT_CALSET_BUSY = true) : exec (.calsetDone ok) s = .next (s.calsetEnd ok) :=
  if_pos h

end

/-- Settles O43: a GO with its activity is BUSY by the start of its write (`State.ckptStart_eq`, `State.calsetStart`), and DONE ends the write
(`State.ckptEnd_done`, `State.ckptEnd_fail` and the same of a set) with an ageing record that leaves their words (`Only.ageRecord`). -/
theorem checkpointsAndSets : Obligations.CheckpointsAndSets := by
  unfold Obligations.CheckpointsAndSets
  refine ⟨?ckptNotHeld, ?ckptBusy, ?ckptGo, ?ckptDone, ?ckptFail, ?ckptNone, ?setNotHeld, ?setStore, ?setGo, ?setDone, ?setFail,
    ?setNone, ?setBusy⟩
  case ckptNotHeld => exact fun s ha => if_pos (ne_true_of_eq_false ha)
  case ckptBusy => exact fun s ha hb => (exec_ckptGo_of_held ha).trans (if_pos hb)
  case ckptGo =>
    exact fun s ha hb => ⟨_, (exec_ckptGo_of_held ha).trans (if_neg (ne_true_of_eq_false hb)),
      State.is_ckptStart_busy, State.ckptStart_newest, State.ckptStart_draft⟩
  case ckptDone => exact fun s hb => ⟨_, exec_ckptDone_of_busy true hb, State.ckptEnd_done⟩
  case ckptFail => exact fun s hb => ⟨_, exec_ckptDone_of_busy false hb, State.ckptEnd_fail⟩
  case ckptNone => exact fun s ok hb => if_neg (ne_true_of_eq_false hb)
  case setNotHeld => exact fun s ha => if_pos (ne_true_of_eq_false ha)
  case setStore => exact fun s ha hs => (exec_calsetGo_of_held ha).trans (if_pos hs)
  case setGo =>
    exact fun s ha hs hb => ⟨_, (exec_calsetGo_of_held ha).trans ((if_neg (ne_true_of_eq_false hs)).trans (if_neg (ne_true_of_eq_false hb))),
      State.is_calsetStart_busy, State.calsetStart_drafts⟩
  case setDone => exact fun s hb => ⟨_, exec_calsetDone_of_busy true hb, State.calsetEnd_done⟩
  case setFail => exact fun s hb => ⟨_, exec_calsetDone_of_busy false hb, State.calsetEnd_fail⟩
  case setNone => exact fun s ok hb => if_neg (ne_true_of_eq_false hb)
  case setBusy =>
    exact fun s ha hs hb => (exec_calsetGo_of_held ha).trans ((if_neg (ne_true_of_eq_false hs)).trans (if_pos hb))

end Sys2Proof.Machine


/-! # Receive links: their states, clock checks and releases (R301 to R305, R307) -/

namespace Sys2Proof.Machine

/-! ### The words of the spare and of the links -/

section
variable {ws : List Nat} {s t : State} {f p v : Nat}

theorem Only.setSpare {role : Nat} (h : Only ws s t) (ha : aRXW_SPARE_STATUS ∈ ws := by decide) : Only ws s (t.setSpare role p) :=
  (h.put ha).put ha

theorem Only.spareJoin (h : Only ws s t) (ha : aRXW_SPARE_STATUS ∈ ws := by decide) : Only ws s (t.spareJoin p) :=
  Only.setSpare h.rest ha

theorem Only.spareRest (h : Only ws s t) (ha : aRXW_SPARE_STATUS ∈ ws := by decide) : Only ws s t.spareRest :=
  .ite (.ite (h.setSpare ha) (.ite (.ite h (.ite (h.spareJoin ha) (Only.setSpare h.rest ha))) (h.spareJoin ha))) h

/-- A link's state shows in its status and, as the positions at work change with it, in the spare's. -/
theorem Only.rxState (h : Only ws s t) (hl : aRXW_LINK_STATUS + f ∈ ws) (ha : aRXW_SPARE_STATUS ∈ ws := by decide) :
    Only ws s (t.rxState f v) :=
  ((h.rest (u := t.setRx f _)).put hl).spareRest ha

theorem State.get_rxState (hf : f < 2) (hv : v < 4) : (s.rxState f v).get fRXW_LINK_STATUS_STATE f = v :=
  (((Only.refl [aRXW_SPARE_STATUS] _).spareRest).get (by revert f; decide)).trans (State.get_put_of_lt _ (by decide) hv)

theorem mem_rxLanes_lt {l : Nat} (hf : f < 2) (hl : l ∈ s.rxLanes f) : l < 12 := by
  obtain ⟨i, hi, rfl⟩ := List.mem_map.mp hl
  have hi := List.mem_range.mp hi
  split_ifs at hi <;> omega

/-- The words in which the lanes of the receive links show. -/
def laneWords : List Nat := (List.range 12).map (aRXW_LANE_STATUS + ·)

theorem Only.laneLocks {on : Bool} (h : Only ws s t) (hf : f < 2) (ha : laneWords ⊆ ws := by decide) : Only ws s (t.laneLocks f on) := by
  refine h.foldl fun hl hu => ?_
  have hm := ha (List.mem_map_of_mem (List.mem_range.mpr (mem_rxLanes_lt hf hl)))
  exact (hu.put hm).put hm

theorem State.is_laneLocks_linkEn {on : Bool} (hf : f < 2) : (s.laneLocks f on).is fRXW_LINK_CTRL_LINK_EN f = s.is fRXW_LINK_CTRL_LINK_EN f :=
  ((Only.refl laneWords s).laneLocks hf (List.Subset.refl _)).is (by revert f; decide)

theorem State.is_rxState_linkEn (hf : f < 2) : (s.rxState f v).is fRXW_LINK_CTRL_LINK_EN f = s.is fRXW_LINK_CTRL_LINK_EN f :=
  ((Only.refl [aRXW_LINK_STATUS + f, aRXW_SPARE_STATUS] s).rxState (by simp) (by simp)).is (by revert f; decide)

end

/-! ### LINK_EN and the clock check (R301, R303, R304) -/

section
variable {s : State} {f : Fin 2} {span : Option Nat}

/-- The link as LINK_EN is set: its least margin starts afresh. -/
def State.rxEnabled (s : State) (f : Nat) : State := (s.flag fRXW_LINK_CTRL_LINK_EN f).put fRXW_LINK_STATUS_ARRIVE_MIN 4095 f

theorem State.get_rxEnabled_state (f : Nat) : (s.rxEnabled f).get fRXW_LINK_STATUS_STATE f = s.get fRXW_LINK_STATUS_STATE f :=
  (State.get_put_apart _ _ (.at_same (by decide) f)).trans (State.get_flag_apart s (.at_same (by decide) f))

theorem State.is_rxEnabled_linkEn (f : Nat) : (s.rxEnabled f).is fRXW_LINK_CTRL_LINK_EN f = true :=
  (State.is_put_apart _ _ (.at_same (by decide) f)).trans (State.is_flag _ _ _ (by decide))

theorem exec_rxLinkEnable_not_down (h : s.get fRXW_LINK_STATUS_STATE f.val ≠ 0) : exec (.rxLinkEnable f) s = .next (s.rxEnabled f.val) :=
  congrArg Host.Outcome.next (if_neg ((State.get_rxEnabled_state f.val).trans_ne h))

/-- A link that is DOWN goes to CLK_WAIT, and the governor wakes its lanes. -/
theorem exec_rxLinkEnable_down (h : s.get fRXW_LINK_STATUS_STATE f.val = 0) : ∃ t, exec (.rxLinkEnable f) s = .next t ∧
    Only [] ((s.rxEnabled f.val).rxState f.val 1) t :=
  ⟨_, congrArg Host.Outcome.next (if_pos ((State.get_rxEnabled_state f.val).trans h)), (Only.refl _ _).foldl fun _ hu => hu.wakeLane⟩

theorem exec_rxClockCheck_failed (h : s.get fRXW_LINK_STATUS_STATE f.val ≠ 0)
    (hc : s.safe = true ∨ clockOk (s.rxPeriod f.val) span = false) :
    exec (.rxClockCheck f span) s = .next (s.rxClockFail f.val) :=
  (if_neg h).trans (if_pos (hc.symm.imp_left ne_true_of_eq_false))

/-- A failed check leaves the link in CLK_WAIT with CLK_ERR. -/
theorem State.rxClockFail_shown : (s.rxClockFail f.val).get fRXW_LINK_STATUS_STATE f.val = 1 ∧
    (s.rxClockFail f.val).is fRXW_LINK_STATUS_CLK_ERR f.val = true :=
  ⟨(State.get_flag_apart _ (.at_same (by decide) f.val)).trans (State.get_rxState f.isLt (by decide)), State.is_flag _ _ _ (by decide)⟩

/-- The link with 64 more cycles that passed. -/
def State.rxGood (s : State) (f : Nat) : State := s.setRx f { s.rxOf f with good := (s.rxOf f).good + 64 }

theorem exec_rxClockCheck_passed (h : s.get fRXW_LINK_STATUS_STATE f.val ≠ 0) (hs : s.safe = false)
    (hc : clockOk (s.rxPeriod f.val) span = true) : exec (.rxClockCheck f span) s =
    .next (if s.get fRXW_LINK_STATUS_STATE f.val = 1 ∧ 1024 ≤ (s.rxOf f.val).good + 64 then (s.rxGood f.val).rxState f.val 2
      else s.rxGood f.val) :=
  (if_neg h).trans (if_neg (by simp [hs, hc]))

end

/-! ### What a label leaves as it is (R305, R307, R396) -/

section
variable {ws : List Nat} {s t : State} {f n : Nat}

theorem Only.setRx {x : RxSt} (h : Only ws s t) : Only ws s (t.setRx f x) := h.rest

/-- A step taken where a condition holds. -/
theorem Only.when {u : State} {c : Prop} {_ : Decidable c} (h : Only ws s t) (k : Only ws s t → Only ws s u) :
    Only ws s (if c then u else t) :=
  (k h).ite h

theorem Only.putBit {g : Fld} {i o : Nat} {b : Bool} (h : Only ws s t) (ha : g.base + o ∈ ws := by decide) :
    Only ws s (t.putBit g i b o) :=
  Only.put (.ite (h.rest (State.noteEvt_regs ..)) h) ha

theorem Only.sliceOut {p : Nat} {x uI : Int} (h : Only ws s t) : Only ws s (t.sliceOut p x uI).2 :=
  .ite (by split <;> exact h) (h.rest (by split <;> rfl))

theorem Only.sliceErrUsed {i : Nat} (h : Only ws s t) : Only ws s (t.sliceErrUsed f i) := by
  unfold State.sliceErrUsed
  split <;> [exact .ite h.rest h; exact h]

theorem Only.rawAdd {k i : Nat} {xs : List Word} (h : Only ws s t) (hk : aHIST_SK_STATUS + k ∈ ws) : Only ws s (t.rawAdd f k i xs) :=
  .ite h.rest <| .ite ((h.rest (u := t.setRx f _)).bump hk) h.rest

theorem State.rawSkein_lt {k : Nat} (h : s.rawSkein f = some k) : k < 64 := List.mem_range.mp (List.mem_of_find?_eq_some h)

/-- The words in which a label shows: the slices' errors and the drops of the RAW Skeins. -/
def labelWords : List Nat := aRXW_SLICE_STATUS :: (List.range 64).map (aHIST_SK_STATUS + ·)

theorem Only.foldlFst {α β : Type} {l : List α} {g : State × β → α → State × β} {a : State × β} (h : Only ws s a.1)
    (hg : ∀ {a x}, Only ws s a.1 → Only ws s (g a x).1) : Only ws s (l.foldl g a).1 :=
  List.foldlRecOn (motive := fun a => Only ws s a.1) l g h fun _ ha _ _ => hg ha

theorem Only.rxLabel {xs : List (Int × Bool)} (h : Only labelWords s t) : Only labelWords s (t.rxLabel f n xs) := by
  unfold State.rxLabel
  extract_lets tl cs mx v t₁ r t₂
  have h₁ : Only labelWords s t₁ := h.foldl fun _ hu => (hu.setRx.when (·.putBit)).when (·.putBit)
  have h₂ : Only labelWords s t₂ := (Only.foldlFst (a := (t₁, [])) h₁ Only.sliceOut).sliceErrUsed
  split
  · exact h₂
  · next k hk => exact h₂.rawAdd (List.mem_cons_of_mem _ (List.mem_map_of_mem (List.mem_range.mpr (State.rawSkein_lt hk))))

theorem State.usedPos_of_only (h : Only ws s t) (ha : aRXW_LINK_CFG + f ∉ ws) : t.usedPos f = s.usedPos f := by
  unfold State.usedPos
  rw [h.get ha]

theorem linkCfg_not_mem_labelWords (hf : f < 2) : aRXW_LINK_CFG + f ∉ labelWords := by revert f; decide

end

/-- Loops whose steps agree on the states that an invariant of the loop allows agree. -/
theorem State.forN_congr {g k : State → Nat → State} {s : State} (P : State → Prop) (hs : P s) (hk : ∀ u i, P u → P (k u i))
    (hgk : ∀ u i, P u → g u i = k u i) (n : Nat) : s.forN n g = s.forN n k := by
  unfold State.forN
  induction List.range n generalizing s with
  | nil => rfl
  | cons i l ih => rw [List.foldl_cons, List.foldl_cons, hgk s i hs, ih (hk s i hs)]

/-! ### Releases (R302, R304) -/

section
variable {s : State} {f : Fin 2}

theorem exec_rxRelease_late {obs : RelObs} {l : Fin 6} (h : s.get fRXW_LINK_STATUS_STATE f.val = 3) (hl : obs.late = some l) :
    exec (.rxRelease f obs) s = .next (((s.flowTo (s.labelT f.val (s.blockLabel f.val (s.rxOf f.val).next))).flag
      fRXW_LINK_STATUS_RELEASE_ERR f.val).rxUnlock f.val (6 * f.val + l.val) 2) := by
  refine (if_neg (not_not.mpr h)).trans ?_
  simp only [hl]

/-- The release of a whole block from state `u`, time having come to its first label: the least margin and the boundary that is next. -/
def State.rxTaken (u : State) (f m margin : Nat) : State :=
  (u.put fRXW_LINK_STATUS_ARRIVE_MIN (min (u.get fRXW_LINK_STATUS_ARRIVE_MIN f) margin) f).setRx f { u.rxOf f with next := m + 1 }

theorem State.injActs_congr {t : State} {k : Nat} (hs : t.selv = s.selv) (hb : t.is fFAULT_INJ_STATUS_BUSY = s.is fFAULT_INJ_STATUS_BUSY) :
    t.injActs k = s.injActs k := by
  unfold State.injActs
  rw [hs, hb]

theorem State.injActs_rxTaken (k m margin : Nat) : (s.rxTaken f.val m margin).injActs k = s.injActs k :=
  State.injActs_congr rfl (State.is_put_apart s _ (.inl (by revert f; decide)))

/-- A block with no CRC mismatch, seen or injected, is labelled sample by sample, with the positions in use at its start. -/
theorem exec_rxRelease_whole {obs : RelObs} {u : State} (h : s.get fRXW_LINK_STATUS_STATE f.val = 3) (hl : obs.late = none)
    (hc : obs.crc = 0) (hu : s.flowTo (s.labelT f.val (s.blockLabel f.val (s.rxOf f.val).next)) = u) (hi : u.injActs 14 = none) :
    exec (.rxRelease f obs) s = .next ((u.rxTaken f.val (s.rxOf f.val).next obs.margin).forN (s.rxBlock f.val) (fun s' i =>
      s'.rxLabel f.val (s.blockLabel f.val (s.rxOf f.val).next + i)
        (((u.rxTaken f.val (s.rxOf f.val).next obs.margin).usedPos f.val).map (fun c => (obs.samples.getD c []).getD i (0, false))))) := by
  have hv : (u.rxTaken f.val (s.rxOf f.val).next obs.margin).injActs 14 = none := (State.injActs_rxTaken ..).trans hi
  change execRxRelease f obs s = _
  unfold execRxRelease
  refine (if_neg (not_not.mpr h)).trans ?_
  rw [hl]
  extract_lets m n₀ n t₀ t₁ x t₂ inj t₃ bad y t₄ t₅
  obtain rfl : t₀ = u := hu
  have hinj : inj = none := by unfold inj; rw [show t₂.injActs 14 = none from hv]
  have ht₃ : t₃ = t₂ := by unfold t₃; rw [hinj]
  have hbad : bad = [] := by simp [bad, hinj, hc]
  have ht₅ : t₅ = t₂ := (if_pos hbad).trans ht₃
  rw [ht₅]
  refine congrArg Host.Outcome.next (State.forN_congr (Only labelWords t₂) (.refl _ _) (fun _ _ => Only.rxLabel) (fun w i hw => ?_) n)
  rw [State.usedPos_of_only hw (linkCfg_not_mem_labelWords f.isLt)]
  simp only [hbad, if_true]
  rfl

end

/-- Settles O25: a link's state is that of `State.rxState` (`State.get_rxState`), a clock check fails or adds its cycles
(`exec_rxClockCheck_failed`, `exec_rxClockCheck_passed`), and the labels of a block leave the positions in use (`Only.rxLabel`). ARRIVE_MIN's
start at 4 095 is log entry 44, the failed check on the safe clock log entry 45. -/
theorem receiveLinks : Obligations.ReceiveLinks := by
  unfold Obligations.ReceiveLinks
  refine ⟨?enable, ?enableDown, ?disable, ?clockFail, ?clockLock, ?clockPass, ?clockDown, ?up, ?notUp, ?lockLoss, ?notReleased, ?late,
    ?whole⟩
  case enable => exact fun s f h => exec_rxLinkEnable_not_down h
  case enableDown =>
    intro s f h
    obtain ⟨t, ht, hk⟩ := exec_rxLinkEnable_down h
    refine ⟨t, ht, ?_, (hk.get List.not_mem_nil).trans (State.get_rxState f.isLt (by decide))⟩
    rw [hk.is List.not_mem_nil, State.is_rxState_linkEn f.isLt, State.is_rxEnabled_linkEn]
  case disable =>
    intro s f
    refine ⟨_, rfl, ?_, State.get_rxState f.isLt (by decide)⟩
    rw [State.is_rxState_linkEn f.isLt, State.is_laneLocks_linkEn f.isLt, State.is_unflag _ _ _ (by decide)]
  case clockFail => exact fun s f span h hc => ⟨_, exec_rxClockCheck_failed h hc, State.rxClockFail_shown⟩
  case clockLock =>
    intro s f span h hg hs hc
    exact ⟨_, (exec_rxClockCheck_passed (h.trans_ne (by decide)) hs hc).trans (congrArg Host.Outcome.next (if_pos ⟨h, hg⟩)),
      State.get_rxState f.isLt (by decide)⟩
  case clockPass =>
    intro s f span h hg hs hc
    exact (exec_rxClockCheck_passed h hs hc).trans (congrArg Host.Outcome.next (if_neg fun ⟨hst, hn⟩ => hg.elim (· hst) (not_lt.mpr hn)))
  case clockDown => exact fun s f span h => if_pos h
  case up => exact fun s f h => ⟨_, if_neg (not_not.mpr h), State.get_rxState f.isLt (by decide)⟩
  case notUp => exact fun s f h => if_pos h
  case lockLoss => exact fun s l => rfl
  case notReleased => exact fun s f obs h => if_pos h
  case late => exact fun s f obs l h hl => exec_rxRelease_late h hl
  case whole =>
    intro s f obs u v h hl hc hu hi hv
    subst hv
    exact exec_rxRelease_whole h hl hc hu hi

end Sys2Proof.Machine


/-! # The receive spare: dwells, mismatches, judgments, carrying and marks (R308 to R311) -/

namespace Sys2Proof.Machine

section
variable {s : State}

/-! ### Dwells (R309) -/

theorem exec_spareDwell_next {n : Nat} (hr : s.spareRole = 1) (hd : s.spare.len ≤ s.spare.dwell) (hn : s.posAfter s.sparePos = some n) :
    exec .spareDwell s = .next ((if n ≤ s.sparePos then s.bump fRXW_SPARE_STATUS_CYCLES else s).spareJoin n) := by
  refine (if_pos ⟨hr, hd⟩).trans ?_
  simp only [hn]

theorem exec_spareDwell_none (hr : s.spareRole = 1) (hd : s.spare.len ≤ s.spare.dwell) (hn : s.posAfter s.sparePos = none) :
    exec .spareDwell s = .next s.spareRest := by
  refine (if_pos ⟨hr, hd⟩).trans ?_
  simp only [hn]

/-! ### Mismatches and judgments (R310) -/

/-- The mismatch as it is recorded. -/
def State.mismatchNoted (s : State) : State := (s.flag fRXW_SPARE_STATUS_MISMATCH).detect 15 s.sparePos 1 8 false s.nowT

/-- The spare takes up a judgment, in role `role` at position `n`. -/
def State.judging (s u : State) (sole : Bool) (role n : Nat) : State :=
  ({ u with spare := { dwell := 0, judge := some s.sparePos, sole := sole } } : State).setSpare role n

theorem exec_mismatch_some {q : Nat} (h : s.spareComparing = true) (hq : s.mismatchNoted.posAfter s.sparePos = some q) :
    exec .mismatch s = .next (if q = s.sparePos then s.judging s.mismatchNoted (q == s.sparePos) 4 s.sparePos
      else s.judging s.mismatchNoted (q == s.sparePos) 2 q) := by
  refine (if_neg (not_not.mpr h)).trans ?_
  unfold State.mismatchNoted at hq
  simp only [hq]
  rfl

theorem exec_mismatch_none (h : s.spareComparing = true) (hq : s.mismatchNoted.posAfter s.sparePos = none) :
    exec .mismatch s = .next (s.judging s.mismatchNoted true 4 s.sparePos) := by
  refine (if_neg (not_not.mpr h)).trans ?_
  unfold State.mismatchNoted at hq
  simp only [hq]
  rfl

theorem exec_judgeEnd_none (bad recur : Bool) (h : s.spare.judge = none) : exec (.judgeEnd bad recur) s = .next s := by
  change execJudgeEnd bad recur s = _
  unfold execJudgeEnd
  simp only [h, noEvent]

section
variable {p : Nat} {recur : Bool} (h : s.spare.judge = some p) (hd : s.spareRole ≠ 2 ∨ 4 ≤ s.spare.dwell)
include h hd

theorem exec_judgeEnd_against_spare : exec (.judgeEnd true recur) s = .next ((s.report 15 8 2).spareFaulty) := by
  change execJudgeEnd true recur s = _
  unfold execJudgeEnd
  simp only [h]
  exact (if_neg (by omega)).trans (if_pos trivial)

/-- A judgment for the spare, with no later slice waiting: the spare is back at the position it judged, which is marked unless its mismatch
was the only sign and does not recur. -/
theorem exec_judgeEnd_for_spare (hf : s.spare.first = none) : exec (.judgeEnd false recur) s = .next
    (if s.spare.sole ∧ ¬ recur then ({ s with spare := {} } : State).spareJoin p
      else ((({ s with spare := {} } : State).spareJoin p).report 15 p 2).markFaulty p).spareRest := by
  change execJudgeEnd false recur s = _
  unfold execJudgeEnd
  simp only [h, hf]
  exact (if_neg (by omega)).trans (if_neg Bool.false_ne_true)

end

/-! ### Carrying and marks (R311) -/

theorem State.spareRole_put_pos (v : Nat) : (s.put fRXW_SPARE_CTRL_POS v).spareRole = s.spareRole :=
  State.get_put_apart s v (by decide)

theorem State.sparePos_put_pos (v : Nat) : (s.put fRXW_SPARE_CTRL_POS v).sparePos = s.sparePos :=
  State.get_put_apart s v (by decide)

/-- The state in which the mark of the spare is cleared. -/
def State.spareCleared (s : State) : State := (s.put fRXW_SPARE_CTRL_POS 8).unflag fRXW_SPARE_STATUS_SPARE_FAULTY

theorem State.spareRole_spareCleared : s.spareCleared.spareRole = s.spareRole :=
  (State.get_unflag_apart _ (by decide)).trans (State.spareRole_put_pos 8)

theorem State.sparePos_spareCleared : s.spareCleared.sparePos = s.sparePos :=
  (State.get_unflag_apart _ (by decide)).trans (State.sparePos_put_pos 8)

theorem exec_rxFoRelease (p : Fin 9) : exec (.rxFoRelease p) s = .next (if s.spareRole = 3 ∧ s.sparePos = p.val then
    { s.put fRXW_SPARE_CTRL_POS p.val with spare := { s.spare with back := true } } else s.put fRXW_SPARE_CTRL_POS p.val) := by
  rw [← s.spareRole_put_pos p.val, ← s.sparePos_put_pos p.val]
  rfl

theorem exec_rxClearFaulty_spare : exec (.rxClearFaulty 8) s =
    .next ((if s.spareRole = 5 then s.spareCleared.setSpare 0 s.sparePos else s.spareCleared).spareRest) := by
  rw [← s.spareRole_spareCleared, ← s.sparePos_spareCleared]
  rfl

end

/-- Settles O26: the spare follows the next active position (`exec_spareDwell_next`, `exec_mismatch_some`), a judgment is against it or for it
(`exec_judgeEnd_against_spare`, `exec_judgeEnd_for_spare`), and POS of the control word is apart from what the spare shows. The judgment of a
sole position and POS 9 and above rest on log entry 45, RX_FO_FORCE without FO_EN on log entry 32. -/
theorem sparesOfReceive : Obligations.SparesOfReceive := by
  unfold Obligations.SparesOfReceive
  refine ⟨?plausSlice, ?plausSpare, ?dwellOn, ?dwellRound, ?dwellNone, ?noDwell, ?noCompare, ?mismatchAlone, ?mismatchNext, ?mismatchOwn,
    ?noJudgment, ?judgeSpare, ?judgeSlice, ?judgeSole, ?force, ?forceSpare, ?release, ?notCarried, ?clear, ?clearRetired, ?clearSpare⟩
  case plausSlice => exact fun s p h => if_neg h.ne
  case plausSpare => exact fun s => rfl
  case dwellOn =>
    intro s n hr hd hn hl
    rw [exec_spareDwell_next hr hd hn, if_neg (not_le.mpr hl)]
  case dwellRound =>
    intro s n hr hd hn hl
    rw [exec_spareDwell_next hr hd hn, if_pos hl]
  case dwellNone => exact fun s hr hd hn => exec_spareDwell_none hr hd hn
  case noDwell => exact fun s h => if_neg fun ⟨hr, hd⟩ => h.elim (· hr) (not_lt.mpr hd)
  case noCompare => exact fun s h => if_pos (ne_true_of_eq_false h)
  case mismatchAlone =>
    rintro s u h rfl hn
    exact exec_mismatch_none h hn
  case mismatchNext =>
    rintro s u n h rfl hn hne
    rw [exec_mismatch_some h hn, if_neg hne, beq_false_of_ne hne]
    rfl
  case mismatchOwn =>
    rintro s u h rfl hn
    rw [exec_mismatch_some h hn, if_pos rfl, beq_self_eq_true]
    rfl
  case noJudgment => exact fun s bad recur h => exec_judgeEnd_none bad recur h
  case judgeSpare => exact fun s recur p h hd => exec_judgeEnd_against_spare h hd
  case judgeSlice =>
    intro s recur p h hf hd hm
    rw [exec_judgeEnd_for_spare h hd hf, if_neg]
    rintro ⟨hs, hr⟩
    exact hm.elim (fun hn => ne_true_of_eq_false hn hs) hr
  case judgeSole =>
    intro s p h hf hd hs
    rw [exec_judgeEnd_for_spare h hd hf, if_pos ⟨hs, Bool.false_ne_true⟩]
  case force => exact fun s p h => congrArg Host.Outcome.next (if_pos h)
  case forceSpare => exact fun s => rfl
  case release => exact fun s p hr hp => (exec_rxFoRelease p).trans (congrArg Host.Outcome.next (if_pos ⟨hr, hp⟩))
  case notCarried =>
    exact fun s p h => (exec_rxFoRelease p).trans (congrArg Host.Outcome.next (if_neg fun ⟨hr, hp⟩ => h.elim (· hr) (· hp)))
  case clear => exact fun s p h => if_neg h.ne
  case clearRetired =>
    intro s h
    rw [exec_rxClearFaulty_spare, if_pos h]
    rfl
  case clearSpare =>
    intro s h
    rw [exec_rxClearFaulty_spare, if_neg h]
    rfl

end Sys2Proof.Machine


/-! # Receive applies, errors of the Weft array and complete rows (R320, R323, R325, R326, R335, R350) -/

namespace Sys2Proof.Machine

/-! ### Applies (R325, R326) -/

section
variable {s : State}

theorem State.feedRuns_put_rxMask (v f : Nat) : (s.put fRXW_APPLY_FIBRE_MASK v).feedRuns f = s.feedRuns f :=
  State.feedRuns_of_only (ws := [aRXW_APPLY]) ((Only.refl _ s).put) rfl (f := f)

/-- GO for one selected fibre: its apply waits for the shot where a running sequencer feeds it, and acts at the present instant elsewhere. -/
def State.rxwGo (s : State) (f : Nat) : State :=
  if s.feedRuns f then s.setRx f { s.rxOf f with applyWait := true } else s.applyRes f s.nowT

theorem exec_rxwApply (fibres : Fin 4) : exec (.rxwApply fibres) s =
    .next ((bitList fibres.val 2).foldl State.rxwGo (s.put fRXW_APPLY_FIBRE_MASK fibres.val)) := rfl

theorem State.rxwGo_fed {f v : Nat} (h : s.feedRuns f = true) : (s.put fRXW_APPLY_FIBRE_MASK v).rxwGo f =
    (s.put fRXW_APPLY_FIBRE_MASK v).setRx f { s.rxOf f with applyWait := true } :=
  if_pos ((State.feedRuns_put_rxMask v f).trans h)

theorem State.rxwGo_unfed {f : Nat} (h : s.feedRuns f = false) : s.rxwGo f = s.applyRes f s.nowT := if_neg (ne_true_of_eq_false h)

theorem exec_rxwTapplyArm {fibres : Fin 4} (h : s.is fRXW_TAPPLY_CTRL_PENDING = false) : exec (.rxwTapplyArm fibres) s =
    .next (((s.put fRXW_TAPPLY_CTRL_FIBRE_MASK fibres.val).flag fRXW_TAPPLY_CTRL_PENDING).sendDue
      (DueCmd.mk (.rxwApply fibres.val) 3 (tsOf (s.word aRXW_TAPPLY_LO) (s.word aRXW_TAPPLY_HI)) 6)) := by
  have ho : Only [aRXW_TAPPLY_CTRL] s (s.put fRXW_TAPPLY_CTRL_FIBRE_MASK fibres.val) := (Only.refl _ s).put
  rw [← ho aRXW_TAPPLY_LO (by decide), ← ho aRXW_TAPPLY_HI (by decide)]
  exact if_neg (ne_true_of_eq_false ((State.is_put_apart s _ (by decide)).trans h))

theorem exec_rxwTapplyCancel {t : State} (h : s.cancelDue (fun c => isRxwApply c.target) = some t) :
    exec .rxwTapplyCancel s = .next (t.unflag fRXW_TAPPLY_CTRL_PENDING) := by
  change execRxwTapplyCancel s = _
  unfold execRxwTapplyCancel
  rw [h]

end

/-! ### Errors of the array (R320, R323) -/

section
variable {s n : State} {f : Nat} {x : RxSt}

theorem State.rxOf_setRx_same (h : f < s.rx.length) : (s.setRx f x).rxOf f = x := by
  simp [State.setRx, State.rxOf, nth, List.getD_eq_getElem?_getD, h]

/-- An error leaves, beside the words that show it, a change of its fibre's receive state and its record. -/
theorem State.detect_after_setRx (h : RegsOnly (s.setRx f x) n) (c u b d i : Nat) (m : Bool) : n.detect c u b d m i =
    { s with regs := (n.detect c u b d m i).regs, evts := (n.detect c u b d m i).evts, rx := (n.detect c u b d m i).rx,
             detected := (n.detect c u b d m i).detected } := by
  rw [h]
  rfl

theorem State.detected_after_setRx (h : RegsOnly (s.setRx f x) n) (c u b d i : Nat) (m : Bool) :
    (n.detect c u b d m i).detected.length = s.detected.length + 1 := by
  rw [h]
  exact List.length_append

theorem State.rxOf_after_setRx (h : RegsOnly (s.setRx f x) n) (hf : f < s.rx.length) (c u b d i : Nat) (m : Bool) :
    (n.detect c u b d m i).rxOf f = x := by
  rw [h]
  exact State.rxOf_setRx_same hf

/-- A double-bit error as it is flagged and counted, its samples lost to fibre `f`. -/
def State.dbeNoted (s : State) (f : Nat) (lost : Nat × Nat) : State :=
  ((s.setRx f { s.rxOf f with missing := (s.rxOf f).missing ++ [lost] }).flag fRXW_WEFT_STATUS_ECC_DBE).bump fRXW_WEFT_COUNT_DBE_ERRS

theorem exec_eccDbe (c : Fin 64) (f : Fin 2) (a : Nat) (lost : Nat × Nat) : exec (.eccDbe c f a lost) s =
    .next ((s.dbeNoted f.val lost).detect 9 c.val 1 (a % 2 ^ 14) false s.nowT) := rfl

theorem RegsOnly.dbeNoted (f : Nat) (lost : Nat × Nat) :
    RegsOnly (s.setRx f { s.rxOf f with missing := (s.rxOf f).missing ++ [lost] }) (s.dbeNoted f lost) :=
  .trans (.flag ..) (.bump ..)

section
variable {lost : Nat × Nat}

theorem Only.dbeNoted : Only [aRXW_WEFT_STATUS, aRXW_WEFT_COUNT] s (s.dbeNoted f lost) := Only.bump (Only.flag (Only.of_regs rfl))

theorem State.is_dbeNoted : (s.dbeNoted f lost).is fRXW_WEFT_STATUS_ECC_DBE = true :=
  (State.is_bump_apart _ _ (by decide)).trans (State.is_flag _ _ _ (by decide))

theorem State.get_dbeNoted : (s.dbeNoted f lost).get fRXW_WEFT_COUNT_DBE_ERRS =
    satU (fldWidth fRXW_WEFT_COUNT_DBE_ERRS) (s.get fRXW_WEFT_COUNT_DBE_ERRS + 1) := by
  unfold State.dbeNoted
  rw [State.get_bump_same _ (by decide), State.get_flag_apart _ (by decide)]
  rfl

end

/-- A residue mismatch as it is flagged and counted. -/
def State.residueCounted (s : State) (f : Nat) : State :=
  ((s.setRx f { s.rxOf f with residue := true }).flag fRXW_WEFT_STATUS_RESIDUE).bump fRXW_WEFT_COUNT_RESID_ERRS

/-- The first residue mismatch: the cluster, the stage, the fibre and its shot. -/
def State.residueWord (s : State) (c stage f : Nat) : Word :=
  BitVec.ofNat 36 (2 ^ 35 + c * 2 ^ 29 + stage * 2 ^ 25 + f * 2 ^ 24 + s.get fRXW_SHOT_COUNT_SHOTS f * 2 ^ 6)

/-- A residue mismatch as it is flagged, counted and, where it is the first, kept. -/
def State.residueNoted (s : State) (c stage f : Nat) : State :=
  if (s.residueCounted f).is fRXW_RESID_FIRST_VALID then s.residueCounted f
  else (s.residueCounted f).setWord aRXW_RESID_FIRST ((s.residueCounted f).residueWord c stage f)

theorem exec_residue (c : Fin 64) (stage : Fin 16) (f : Fin 2) : exec (.residue c stage f) s =
    .next ((s.residueNoted c.val stage.val f.val).detect 16 c.val 0 (stage.val * 2 ^ 10 + f.val * 2 ^ 9) false
      (s.residueNoted c.val stage.val f.val).nowT) := rfl

theorem RegsOnly.residueNoted (c stage : Nat) :
    RegsOnly (s.setRx f { s.rxOf f with residue := true }) (s.residueNoted c stage f) := by
  have h : RegsOnly (s.setRx f { s.rxOf f with residue := true }) (s.residueCounted f) := .trans (.flag ..) (.bump ..)
  unfold State.residueNoted
  split
  exacts [h, h.trans (.setWord ..)]

theorem Only.residueCounted : Only [aRXW_WEFT_STATUS, aRXW_WEFT_COUNT] s (s.residueCounted f) :=
  Only.bump (Only.flag (Only.of_regs rfl))

theorem Only.residueNoted_first (c stage : Nat) : Only [aRXW_RESID_FIRST] (s.residueCounted f) (s.residueNoted c stage f) :=
  .ite (.refl _ _) (Only.refl _ _).setWord

theorem State.is_residueCounted : (s.residueCounted f).is fRXW_WEFT_STATUS_RESIDUE = true :=
  (State.is_bump_apart _ _ (by decide)).trans (State.is_flag _ _ _ (by decide))

theorem State.get_residueCounted : (s.residueCounted f).get fRXW_WEFT_COUNT_RESID_ERRS =
    satU (fldWidth fRXW_WEFT_COUNT_RESID_ERRS) (s.get fRXW_WEFT_COUNT_RESID_ERRS + 1) := by
  unfold State.residueCounted
  rw [State.get_bump_same _ (by decide), State.get_flag_apart _ (by decide)]
  rfl

theorem State.is_residueCounted_valid : (s.residueCounted f).is fRXW_RESID_FIRST_VALID = s.is fRXW_RESID_FIRST_VALID :=
  Only.residueCounted.is (by decide)

theorem State.residueWord_valid {c stage : Nat} (hc : c < 64) (hs : stage < 16) (hf : f < 2) :
    fRXW_RESID_FIRST_VALID.get (s.residueWord c stage f) = 1 := by
  have hn : s.get fRXW_SHOT_COUNT_SHOTS f < 2 ^ 18 := s.get_lt ..
  simp only [State.residueWord, Fld.get, getBits, natBits, fRXW_RESID_FIRST_VALID, fldWidth, BitVec.toNat_ofNat, Nat.shiftRight_eq_div_pow]
  omega

/-- After a residue mismatch RESID_FIRST holds one, and the one that it held. -/
theorem State.is_residueNoted_valid {c stage : Nat} (hc : c < 64) (hs : stage < 16) (hf : f < 2) :
    (s.residueNoted c stage f).is fRXW_RESID_FIRST_VALID = true := by
  unfold State.residueNoted
  split
  · assumption
  · exact beq_iff_eq.mpr ((congrArg fRXW_RESID_FIRST_VALID.get (State.word_setWord_same ..)).trans (State.residueWord_valid hc hs hf))

theorem State.word_residueNoted_first (c stage : Nat) (h : s.is fRXW_RESID_FIRST_VALID = true) :
    (s.residueNoted c stage f).word aRXW_RESID_FIRST = s.word aRXW_RESID_FIRST := by
  unfold State.residueNoted
  rw [if_pos (State.is_residueCounted_valid.trans h)]
  exact Only.residueCounted _ (by decide)

end

/-! ### A row of a fibre and the count of its rows (R335, R343, R348, R352 to R357)

Each function that a row runs through has one lemma of its name: it leaves the count of rows (`RowsKept`). -/

/-- `t` follows `s` with the count of rows of fibre `f` as it was, and as many result paths. -/
structure RowsKept (f : Nat) (s t : State) : Prop where
  rows : (t.resOf f).rows = (s.resOf f).rows
  length : t.res.length = s.res.length

section
variable {s t u : State} {f : Nat}

theorem RowsKept.refl (f : Nat) (s : State) : RowsKept f s s := ⟨rfl, rfl⟩

theorem RowsKept.rest (h : RowsKept f s t) (hu : u.res = t.res := by rfl) : RowsKept f s u :=
  ⟨(congrArg (fun r => (nth r f).rows) hu).trans h.rows, (congrArg List.length hu).trans h.length⟩

theorem RowsKept.ite {c : Prop} {_ : Decidable c} (ht : RowsKept f s t) (hu : RowsKept f s u) : RowsKept f s (if c then t else u) := by
  split <;> assumption

/-- A step taken where a condition holds. -/
theorem RowsKept.when {c : Prop} {_ : Decidable c} (h : RowsKept f s t) (k : RowsKept f s t → RowsKept f s u) :
    RowsKept f s (if c then u else t) :=
  (k h).ite h

/-- A step taken where a condition does not hold. -/
theorem RowsKept.unless {c : Prop} {_ : Decidable c} (h : RowsKept f s t) (k : RowsKept f s t → RowsKept f s u) :
    RowsKept f s (if c then t else u) :=
  h.ite (k h)

theorem RowsKept.foldl {α : Type} {l : List α} {g : State → α → State} (h : RowsKept f s t)
    (hg : ∀ {u x}, RowsKept f s u → RowsKept f s (g u x)) : RowsKept f s (l.foldl g t) :=
  List.foldlRecOn (motive := RowsKept f s) l g h fun _ hu _ _ => hg hu

theorem RowsKept.forN {n : Nat} {g : State → Nat → State} (h : RowsKept f s t) (hg : ∀ {u i}, RowsKept f s u → RowsKept f s (g u i)) :
    RowsKept f s (t.forN n g) := h.foldl hg

theorem RowsKept.foldlFst {α β : Type} {l : List α} {g : State × β → α → State × β} {a : State × β} (h : RowsKept f s a.1)
    (hg : ∀ {a x}, RowsKept f s a.1 → RowsKept f s (g a x).1) : RowsKept f s (l.foldl g a).1 :=
  List.foldlRecOn (motive := fun a => RowsKept f s a.1) l g h fun _ ha _ _ => hg ha

theorem State.resOf_setRes_same {x : ResSt} (h : f < s.res.length) : (s.setRes f x).resOf f = x := by
  simp [State.setRes, State.resOf, nth, List.getD_eq_getElem?_getD, h]

theorem State.setRes_of_length_le {x : ResSt} (h : s.res.length ≤ f) : s.setRes f x = s := by
  unfold State.setRes
  rw [List.set_eq_of_length_le h]

/-- A change of the fibre's result path that keeps its count. -/
theorem RowsKept.setRes {x : ResSt} (h : RowsKept f s t) (hx : x.rows = (t.resOf f).rows := by rfl) : RowsKept f s (t.setRes f x) := by
  rcases lt_or_ge f t.res.length with hf | hf
  · exact ⟨by rw [State.resOf_setRes_same hf, hx, h.rows], List.length_set.trans h.length⟩
  · rw [State.setRes_of_length_le hf]
    exact h

end

section
variable {s t : State} {f : Nat} (h : RowsKept f s t)
include h

theorem RowsKept.besideLines {u : State} (hu : BesideLines t u) : RowsKept f s u := by
  have hb : u.besideLines = t.besideLines := hu
  have hr := congrArg State.res hb
  exact h.rest hr

variable {g : Fld} {o : Nat}

theorem RowsKept.put {v : Nat} : RowsKept f s (t.put g v o) := h.rest
theorem RowsKept.flag : RowsKept f s (t.flag g o) := h.rest (State.flag_res ..)
theorem RowsKept.bump {n : Nat} : RowsKept f s (t.bump g o n) := h.rest (State.bump_res ..)
theorem RowsKept.free : RowsKept f s t.free.2 := h.rest
theorem RowsKept.viewLag {ps : Nat} : RowsKept f s (t.viewLag ps).2 := h.rest
theorem RowsKept.setRx {k : Nat} {x : RxSt} : RowsKept f s (t.setRx k x) := h.rest
theorem RowsKept.flowTo {i : Nat} : RowsKept f s (t.flowTo i) := h.besideLines (BesideLines.refl t).flowTo
theorem RowsKept.sendDue {c : DueCmd} : RowsKept f s (t.sendDue c) := h.besideLines (BesideLines.refl t).sendDue

/-- A packet to a queue is one to a bound queue. -/
theorem RowsKept.packet {q : Nat} {ws : List Word} : RowsKept f s (t.packet q ws).1 :=
  h.besideLines ((BesideLines.refl t).packet? (q := some q))

theorem RowsKept.placeMark {k : Nat} {m : MarkSt} : RowsKept f s (t.placeMark k m) :=
  h.unless fun hu => by dsimp only; split; exacts [hu.bump, hu.rest]

theorem RowsKept.detectorMark {inst fibre det id : Nat} : RowsKept f s (t.detectorMark inst fibre det id) :=
  h.forN fun hu => hu.when (·.placeMark)

/-! ### Frames -/

theorem RowsKept.sendFrame {k n : Nat} {r : FrameRow} {is : List Nat} : RowsKept f s (t.sendFrame k n r is) :=
  (RowsKept.rest h.packet).unless (·.flag.bump)

end

theorem RowsKept.sendFrames {s t : State} {f k m n fuel : Nat} {r : FrameRow} {is : List Nat} (h : RowsKept f s t) :
    RowsKept f s (t.sendFrames k m n r fuel is) := by
  induction fuel generalizing t is with
  | zero => exact h
  | succ fuel ih => exact h.unless fun _ => ih h.sendFrame

section
variable {s t : State} {f : Nat} (h : RowsKept f s t)
include h

theorem RowsKept.sendRow {n src i top : Nat} {p : Nat → Bool} {r : Nat → FrameRow} : RowsKept f s (t.sendRow n src i top p r) :=
  h.forN fun hu => hu.when (·.sendFrames)

theorem RowsKept.decFrames {n : Nat} {rows : List Row} {row : Row} : RowsKept f s (t.decFrames n rows row) :=
  (h.unless (·.free)).sendRow

/-! ### Detectors and bands -/

/-- A detector's record is of the result path as it was before its packet. -/
theorem RowsKept.writeRec {d : Nat} {inst : Nat → Nat} {r : DetRec} : RowsKept f s (t.writeRec f d inst r) := by
  unfold State.writeRec
  refine h.unless fun hu => ?_
  extract_lets x y i w₂ p t₁
  have hp : RowsKept f t p.1 := (RowsKept.refl f t).packet
  have h₁ : RowsKept f s t₁ := hu.packet.setRes hp.rows.symm
  exact h₁.unless (·.flag.flag)

theorem RowsKept.startRec {d : Nat} {inst : Nat → Nat} {r : DetRec} : RowsKept f s (t.startRec f d inst r) :=
  (h.bump.when fun hu => .ite hu.viewLag.bump hu.viewLag.setRes.sendDue).when (·.detectorMark)

theorem RowsKept.detRow {d i flags : Nat} {inst : Nat → Nat} {inp : Nat → Option Int} : RowsKept f s (t.detRow f d i flags inst inp) :=
  (RowsKept.foldl h.setRes fun hu => hu.writeRec.unless (·.startRec)).put

theorem RowsKept.detRows {i flags : Nat} {p : Nat → Bool} {inst : Nat → Nat} {inp : Nat → Nat → Option Int} :
    RowsKept f s (t.detRows f i flags p inst inp) :=
  h.forN fun hu => hu.when (·.detRow)

theorem RowsKept.bandRow {b i : Nat} {row : Row} : RowsKept f s (t.bandRow f b i row) :=
  h.unless fun hu => .ite hu.setRes hu.setRes.sendRow.detRows

/-! ### A row -/

theorem RowsKept.rowOut {i : Nat} {row : Row} : RowsKept f s (t.rowOut f i row) := by
  unfold State.rowOut
  exact ((h.sendRow.sendRow.when (·.decFrames)).forN (·.bandRow)).detRows

theorem RowsKept.specRow {row : Row} : RowsKept f s (t.specRow f row) := h.when (·.setRes)

theorem RowsKept.zeroGauges : RowsKept f s (t.zeroGauges f) := h.setRes

theorem RowsKept.formRow {i tone flags : Nat} {p : Profile} {lost : List (Nat × Nat)} :
    RowsKept f s (t.formRow f i tone flags p lost).1 := by
  unfold State.formRow
  extract_lets ctrl gl x0 len bad t₁
  have h₁ : RowsKept f s t₁ := h.unless (·.flag)
  clear_value t₁
  refine RowsKept.foldlFst (a := (t₁, [])) h₁ fun {a g} hu => ?_
  extract_lets u m r ps u₁ x valid p u₂ u₃ u₄
  have hp : RowsKept f s u₁ := by unfold u₁ ps; split; exacts [hu.free, hu]
  exact (hp.setRes.when (·.flag)).when (·.bump)

end

/-- Outcome `o` goes on, with one row more of fibre `f` than `s` counts. -/
def OneRowMore (f : Nat) (s : State) (o : Out) : Prop := ∃ t, o = .next t ∧ (t.resOf f).rows = (s.resOf f).rows + 1

/-- What forms the row keeps the count, which it leads on by one in a result path that stays to the end. -/
theorem oneRowMore_rowComplete {s : State} {f : Fin 2} {p : Profile} {o : Nat × Nat × Nat}
    (ho : earliestOrigin (s.rxOf f.val).origins = some o) (ht : s.toneRuns = true) (hf : f.val < s.res.length) :
    OneRowMore f.val s (exec (.rowComplete f p) s) := by
  change OneRowMore f.val s (execRowComplete f p s)
  unfold execRowComplete
  extract_lets n t₁ x lost
  obtain ⟨i, tone, shot⟩ := o
  rw [ho]
  dsimp -zeta only
  rw [if_neg (not_not.mpr ht)]
  extract_lets flags t₂ t₃ t₄ y due t₅ r row t₆ z fn k t₇ t₈
  have h₁ : RowsKept n s t₁ := (RowsKept.refl n s).flowTo
  clear_value t₁
  have h₄ : RowsKept n s t₄ := h₁.setRx.unless fun hu => hu.flag.bump.unless (·.flag)
  clear_value t₄
  have h₆ : RowsKept n s t₆ := RowsKept.formRow (h₄.when (·.zeroGauges))
  have h₇ : (t₇.resOf n).rows = (s.resOf n).rows + 1 := by
    rw [State.resOf_setRes_same (h₆.length ▸ hf), ← h₆.rows]
  have h₈ : RowsKept n t₇ t₈ := (RowsKept.refl n t₇).when (·.put.put.put)
  exact ⟨_, rfl, h₈.specRow.rowOut.rows.trans h₇⟩

/-- No row is formed while no code origin waits, or MEMC does not hold the tone memory. -/
theorem exec_rowComplete_stays {s : State} {f : Fin 2} {p : Profile}
    (h : earliestOrigin (s.rxOf f.val).origins = none ∨ s.toneRuns = false) : exec (.rowComplete f p) s = .next s := by
  change execRowComplete f p s = _
  unfold execRowComplete
  extract_lets n
  cases ho : earliestOrigin (s.rxOf n).origins with
  | none => rfl
  | some o => exact if_pos (ne_true_of_eq_false (h.resolve_left fun hn => Option.some_ne_none o (ho.symm.trans hn)))

/-- Settles O27: an apply is `State.rxwGo` of each selected fibre, an error is noted and recorded (`State.dbeNoted`, `State.residueNoted`,
`State.detect_after_setRx`), and nothing that forms or sends a row changes the count but the one advance (`RowsKept`). -/
theorem receiveAppliesAndErrors : Obligations.ReceiveAppliesAndErrors := by
  unfold Obligations.ReceiveAppliesAndErrors
  refine ⟨?applyNone, ?apply1, ?apply0, ?apply0Fed, ?apply1Fed, ?arm, ?armBusy, ?cancel, ?dbe, ?residue, ?noRow, ?row, ?rebase⟩
  case applyNone => exact fun s => ⟨_, exec_rxwApply 0, State.get_put_of_lt s (by decide) (by decide), (Only.refl _ s).put, .put ..⟩
  case apply1 => exact fun s h => (exec_rxwApply 2).trans (congrArg Host.Outcome.next (State.rxwGo_unfed h))
  case apply0 => exact fun s h => (exec_rxwApply 1).trans (congrArg Host.Outcome.next (State.rxwGo_unfed h))
  case apply0Fed => exact fun s h => (exec_rxwApply 1).trans (congrArg Host.Outcome.next (State.rxwGo_fed h))
  case apply1Fed => exact fun s h => (exec_rxwApply 2).trans (congrArg Host.Outcome.next (State.rxwGo_fed h))
  case arm => exact fun s fibres h => exec_rxwTapplyArm h
  case armBusy => exact fun s fibres h => if_pos ((State.is_put_apart s _ (by decide)).trans h)
  case cancel => exact fun s s' h => exec_rxwTapplyCancel h
  case dbe =>
    intro s c f a lost hf
    have hr := RegsOnly.dbeNoted (s := s) f.val lost
    exact ⟨_, exec_eccDbe c f a lost, congrArg RxSt.missing (State.rxOf_after_setRx hr hf ..), State.is_dbeNoted, State.get_dbeNoted,
      State.detected_after_setRx hr .., Only.dbeNoted, State.detect_after_setRx hr ..⟩
  case residue =>
    intro s c stage f
    have hr := RegsOnly.residueNoted (s := s) (f := f.val) c.val stage.val
    have ho := Only.residueNoted_first (s := s) (f := f.val) c.val stage.val
    exact ⟨_, exec_residue c stage f, (ho.is (by decide)).trans State.is_residueCounted, (ho.get (by decide)).trans State.get_residueCounted,
      State.is_residueNoted_valid c.isLt stage.isLt f.isLt, State.word_residueNoted_first _ _, State.detected_after_setRx hr ..,
      (Only.residueCounted.mono (by decide)).trans (ho.mono (by decide)), State.detect_after_setRx hr ..⟩
  case noRow => exact fun s f p h => exec_rowComplete_stays h
  case row => exact fun s f p o _ ho ht hf => oneRowMore_rowComplete ho ht hf
  case rebase => exact fun s f => rfl

end Sys2Proof.Machine

/-! # The queue of commands, and the restore's hold (R468, R535) -/

namespace Sys2Proof.Machine

-- one thread at a time: the check holds the whole text in memory
set_option Elab.async false

/-- Settles O53: `outKeeps_exec` follows every command, and keeps the queue. -/
theorem execKeepsQueue : Obligations.ExecKeepsQueue := by
  unfold Obligations.ExecKeepsQueue
  intro c s t h
  obtain ⟨u, hu, hk⟩ := outKeeps_exec c s
  obtain rfl := Host.Outcome.next.inj (hu.symm.trans h)
  exact hk.pending

theorem State.fwState_resume (s : State) (n : Nat) : (s.resume n).fwState = s.fwState := Only.resume.get (by decide)

/-- Settles O57: before RESTORE_DONE a RESUME is only flagged, after it both commands are `State.resume`, which ends the hold
(`State.restoreHold_resume`) and leaves the state of the firmware (`State.fwState_resume`). -/
theorem resumeEarly : Obligations.ResumeEarly := by
  unfold Obligations.ResumeEarly
  refine ⟨fun s hd => if_pos (ne_true_of_eq_false hd), fun s hd hh hf => ?_, fun s hd hh hf ha hk hc hl => ?_⟩
  · have hx : exec .resume s = .next (s.resume 1) := (if_neg (not_not.mpr hd)).trans (if_neg (not_not.mpr hh))
    exact ⟨_, hx, State.restoreHold_resume, (s.fwState_resume 1).trans hf⟩
  · have hx : exec .autoResume s = .next (s.resume 2) := if_pos ⟨hh, hd, ha, hk, hc, hl⟩
    exact ⟨_, hx, State.restoreHold_resume, (s.fwState_resume 2).trans hf⟩

end Sys2Proof.Machine

/-! # Maintenance resources: claims, releases, and what the end of a calibration changes (R505 to R509) -/

namespace Sys2Proof.Machine

-- one thread at a time: the check holds the whole text in memory
set_option Elab.async false

/-! ### Bits of a mask field -/

/-- A number with bit `i` replaced, as the bits above it, the bit, and the bits below. -/
theorem withBit_eq (n i : Nat) (b : Bool) : withBit n i b = 2 ^ i * (2 * (n / 2 ^ i / 2) + b2n b) + n % 2 ^ i := by
  have hn : n = 2 ^ i * (2 * (n / 2 ^ i / 2) + n / 2 ^ i % 2) + n % 2 ^ i := by rw [Nat.div_add_mod, Nat.div_add_mod]
  have ht : n.testBit i = decide (n / 2 ^ i % 2 = 1) := Nat.testBit_eq_decide_div_mod_eq
  unfold withBit
  rw [ht]
  generalize n / 2 ^ i / 2 = c at *
  generalize n % 2 ^ i = r at *
  rcases Nat.mod_two_eq_zero_or_one (n / 2 ^ i) with hd | hd <;> rw [hd] at hn ⊢ <;> cases b <;>
    simp [b2n, Nat.mul_add] at hn ⊢ <;> omega

theorem testBit_withBit (n i j : Nat) (b : Bool) : (withBit n i b).testBit j = if j = i then b else n.testBit j := by
  have hb : ∀ c, (2 * c + b2n b).testBit 0 = b := fun c => by cases b <;> simp [b2n, Nat.testBit_zero]
  rw [withBit_eq, Nat.testBit_two_pow_mul_add _ (Nat.mod_lt _ (Nat.two_pow_pos i))]
  rcases lt_trichotomy j i with h | rfl | h
  · rw [if_pos h, if_neg h.ne, Nat.testBit_mod_two_pow, decide_eq_true h, Bool.true_and]
  · rw [if_neg (lt_irrefl j), if_pos rfl, Nat.sub_self, hb]
  · obtain ⟨k, rfl⟩ := Nat.exists_eq_add_of_lt h
    have hd : (2 * (n / 2 ^ i / 2) + b2n b) / 2 = n / 2 ^ i / 2 := by cases b <;> (simp [b2n]; try omega)
    rw [if_neg (by omega), if_neg (by omega), show i + k + 1 - i = k + 1 by omega, Nat.testBit_succ, hd, ← Nat.testBit_succ,
      Nat.testBit_div_two_pow, show k + 1 + i = i + k + 1 by omega]

theorem withBit_lt {n i w : Nat} {b : Bool} (hn : n < 2 ^ w) (hi : i < w) : withBit n i b < 2 ^ w := by
  refine Nat.lt_pow_two_of_testBit _ fun j hj => ?_
  rw [testBit_withBit, if_neg (by omega)]
  exact Nat.testBit_lt_two_pow (lt_of_lt_of_le hn (Nat.pow_le_pow_right (by decide) hj))

section
variable {f g : Fld} {i j o p : Nat} {b : Bool} (s : State)

theorem State.get_putBit_same (hf : f.lo + fldWidth f ≤ 36) (hi : i < fldWidth f) : (s.putBit f i b o).get f o = withBit (s.get f o) i b :=
  State.get_put_of_lt _ hf (withBit_lt (State.get_lt ..) hi)

/-- The bits of a mask field after one of them is replaced. -/
theorem State.bit_putBit (hf : f.lo + fldWidth f ≤ 36) (hi : i < fldWidth f) :
    (s.putBit f i b o).bit f j o = if j = i then b else s.bit f j o := by
  unfold State.bit
  rw [State.get_putBit_same s hf hi, testBit_withBit]

theorem State.get_putBit_apart (h : f.Apart o g p) : (s.putBit f i b o).get g p = s.get g p := by
  unfold State.putBit
  rw [State.get_put_apart _ _ h]
  split
  · exact State.get_noteEvt s _
  · rfl

theorem RegsOnly.putBit : RegsOnly s (s.putBit f i b o) := by
  have hn : RegsOnly s (if b then s.noteEvt f o (fun k => withBit k i true) else s) := by split <;> [exact .noteEvt ..; exact .refl s]
  exact hn.trans (.put ..)

end

theorem Only.bit {ws : List Nat} {s t : State} {f : Fld} {o i : Nat} (h : Only ws s t) (ha : f.base + o ∉ ws) : t.bit f i o = s.bit f i o :=
  congrArg (·.testBit i) (h.get ha)

/-! ### Releases (R507) -/

/-- The words that show the holders of the resources and the activities. -/
def maintWords : List Nat := [aMAINT_CLAIM, aMAINT_HELD] ++ (List.range 32).map (aMAINT_OWNER + ·)

section
variable {ws : List Nat} {s t : State} {act r : Nat}

theorem Only.resTake {w : Bool} (h : Only ws s t) (ho : aMAINT_OWNER + r ∈ ws) (hh : aMAINT_HELD ∈ ws := by decide) :
    Only ws s (t.resTake act r w) := (Only.ite (h.put ho) (h.putBit ho)).putBit hh

theorem Only.resDrop (h : Only ws s t) (ho : aMAINT_OWNER + r ∈ ws) (hh : aMAINT_HELD ∈ ws := by decide) : Only ws s (t.resDrop act r) :=
  ((h.when (·.put ho)).putBit ho).putBit hh

theorem mem_maintWords_owner (hr : r < 32) : aMAINT_OWNER + r ∈ maintWords :=
  List.mem_append_right _ (List.mem_map_of_mem (List.mem_range.mpr hr))

theorem Only.release (h : Only ws s t) (hw : maintWords ⊆ ws := by decide) : Only ws s (t.release act) :=
  (h.foldl fun hr hu => hu.resDrop (hw (mem_maintWords_owner (List.mem_range.mp hr))) (hw (by decide))).putBit (hw (by decide))

/-! ### Claims (R506, R507) -/

theorem State.conflict_single {w : Bool} : s.conflict [(r, w)] = if s.resFree r w then none else some r := by
  cases h : s.resFree r w <;> simp [State.conflict, h]

/-- A claim of one resource that is free is granted. -/
theorem State.claim_granted {w : Bool} (h : s.resFree r w = true) :
    s.claim act [(r, w)] = ((s.resTake act r w).putBit fMAINT_CLAIM_ACTIVE (act - 1) true, true) := by
  unfold State.claim
  rw [State.conflict_single, if_pos h]
  rfl

/-- A claim of one resource that is held is refused. -/
theorem State.claim_refused {w : Bool} (h : s.resFree r w = false) : s.claim act [(r, w)] = (s.claimRefused act r, false) := by
  unfold State.claim
  rw [State.conflict_single, if_neg (ne_true_of_eq_false h)]

end

/-! ### A hold that a calibration of a stray unit meets (R490, R496) -/

/-- The words that the end of a calibration changes. -/
def calEndWords : List Nat := aCAL_STATUS :: maintWords ++ (List.range 16).map (aREED_IN_STATUS + ·)

theorem Only.calEnd (s : State) : Only calEndWords s s.calEnd := by
  have hh : Only calEndWords s (s.holdInputs s.cal.mask false) := (Only.refl _ s).foldl fun hi hu =>
    hu.put (List.mem_append_right _ (List.mem_map_of_mem (List.mem_range.mpr (List.mem_range.mp (List.mem_of_mem_filter hi)))))
  have hr := hh.release (act := calAct s.cal.kind)
  exact (Only.rest (u := { (s.holdInputs s.cal.mask false).release (calAct s.cal.kind) with cal := {} }) hr).put

/-- A state in which the host asks for island 0 while a calibration of master outputs runs, of a unit that no master output has: the word in
which its role would show is DRAFT_SCAN. -/
def State.strayUnit : State :=
  { State.reset.put fISLAND_HOLD_REQ 1 with cal := { phase := 6, kind := 1, cur := 4 * (aDRAFT_SCAN - aMOUT_GEN) + 2 } }

/-- A field stored as zero clears every field within its bits, whatever register it belongs to. -/
theorem State.get_clear_within (s : State) {f g : Fld} {o p : Nat} (ha : g.base + p = f.base + o) (hl : f.lo ≤ g.lo)
    (hh : g.lo + fldWidth g ≤ f.lo + fldWidth f) : (s.put f 0 o).get g p = 0 := by
  unfold State.get
  rw [State.word_put, if_pos ha, Fld.get_eq_zero_iff]
  intro i hi
  rw [Fld.testBit_clear, decide_eq_true (by omega), Bool.not_true, Bool.and_false]

/-- The abort of that calibration takes SUSPENDED back. -/
theorem State.is_calAbort_strayUnit {s : State} (hc : s.cal = State.strayUnit.cal) (reason : Nat) :
    (s.calAbort reason).is fDRAFT_SCAN_SUSPENDED = false := by
  have hb : ∃ u : State, s.calAbort reason = (u.setRole (aDRAFT_SCAN - aMOUT_GEN) 2 0).calEnd := by
    unfold State.calAbort
    rw [hc]
    exact ⟨_, rfl⟩
  obtain ⟨u, hu⟩ := hb
  have hr : (u.put fMOUT_GEN_ROLE_G2 0 (aDRAFT_SCAN - aMOUT_GEN)).get fDRAFT_SCAN_SUSPENDED = 0 :=
    State.get_clear_within u (by decide) (by decide) (by decide)
  rw [hu, (Only.calEnd _).is (by decide)]
  exact beq_false_of_ne (((State.get_put_apart _ _ (by decide)).trans hr).trans_ne (by decide))

theorem exec_held {s : State} {n : Fin 9} (hw : s.holderOf n.val = true) (hf : s.held n.val = false) :
    exec (.held n) s = .next (s.holdIsland n.val) := if_pos ⟨hw, ne_true_of_eq_false hf⟩

/-- A hold of island 0 aborts a calibration. -/
theorem State.holdIsland_zero {s : State} (hf : s.held 0 = false) : ∃ u : State, u.cal = s.cal ∧ s.holdIsland 0 = u.calAbort 12 := by
  unfold State.holdIsland
  rw [if_neg (ne_true_of_eq_false hf)]
  refine ⟨_, ?_, rfl⟩
  rw [RegsOnly.putBit s]
  rfl

/-- Refutes O40: the second clause says that a hold of island 0 shows SUSPENDED whatever calibration it aborts, but the abort gives a generator
its role back in the word of the unit that ran, and in `State.strayUnit` that word is DRAFT_SCAN. The first clause, that a write of REQ keeps
REQ alone, holds. -/
theorem not_holdsAndMaintenance : ¬ Obligations.HoldsAndMaintenance := by
  unfold Obligations.HoldsAndMaintenance
  rintro ⟨-, hheld, -⟩
  have hreq : State.strayUnit.holderOf 0 = true := by decide
  have hfree : State.strayUnit.held 0 = false := by decide
  obtain ⟨t, ht, -, hs⟩ := hheld State.strayUnit 0 hreq hfree
  obtain rfl : t = State.strayUnit.holdIsland 0 := Host.Outcome.next.inj (ht.symm.trans (exec_held hreq hfree))
  obtain ⟨u, hc, hu⟩ := State.holdIsland_zero hfree
  rw [hu, State.is_calAbort_strayUnit hc] at hs
  exact Bool.false_ne_true hs

end Sys2Proof.Machine

/-! # Bolt's queues: producers, register reads, flushes and consumer ports (chapter 12) -/

namespace Sys2Proof.Machine

-- one thread at a time: the check holds the whole text in memory
set_option Elab.async false

/-! ### Lists under a key -/

section
variable {α : Type} {l : List (Nat × α)} {j k : Nat} {v : α}

theorem find?_placeKey_same (h : l.find? (fun e => e.1 == k) = none) : (placeKey l k v).find? (fun e => e.1 == k) = some (k, v) := by
  induction l with
  | nil => simp [placeKey]
  | cons e l ih =>
    obtain ⟨he, hl⟩ : ¬ (e.1 == k) = true ∧ l.find? (fun e => e.1 == k) = none := by simpa using h
    unfold placeKey
    split
    · simp
    · exact (List.find?_cons_of_neg (p := fun e : Nat × α => e.1 == k) he).trans (ih hl)

theorem find?_placeKey_ne (h : j ≠ k) : (placeKey l k v).find? (fun e => e.1 == j) = l.find? (fun e => e.1 == j) := by
  have hk : ¬ (k == j) = true := by simpa using h.symm
  induction l with
  | nil => simp [placeKey, h.symm]
  | cons e l ih =>
    unfold placeKey
    split
    · exact List.find?_cons_of_neg hk
    · simp only [List.find?_cons, ih]

variable [DecidableEq α] (d : α)

theorem find?_putKey_same : ((putKey d l k v).find? (fun e => e.1 == k)).map (·.2) = if v = d then none else some v := by
  have hn : (l.filter (fun e => e.1 ≠ k)).find? (fun e => e.1 == k) = none := by simp
  unfold putKey
  dsimp only
  split
  · rw [hn]; rfl
  · rw [find?_placeKey_same hn]; rfl

theorem find?_putKey_ne (h : j ≠ k) : (putKey d l k v).find? (fun e => e.1 == j) = l.find? (fun e => e.1 == j) := by
  have hf : (l.filter (fun e => e.1 ≠ k)).find? (fun e => e.1 == j) = l.find? (fun e => e.1 == j) := by
    rw [List.find?_filter]
    refine congrArg (List.find? · l) (funext fun e => ?_)
    by_cases he : e.1 = j <;> simp [he, h]
  unfold putKey
  dsimp only
  split
  · exact hf
  · rw [find?_placeKey_ne h, hf]

end

/-! ### The queues of a state -/

section
variable {s t u : State} {q p : Nat} {x : BQueue}

theorem State.queue_congr (h : t.queues = s.queues) (q : Nat) : t.queue q = s.queue q := by
  unfold State.queue
  rw [h]

@[simp] theorem State.queue_setQueue_same : (s.setQueue q x).queue q = x := by
  unfold State.queue State.setQueue
  dsimp only
  rw [find?_putKey_same]
  split
  · exact Eq.symm ‹_›
  · rfl

theorem State.queue_setQueue_ne (h : p ≠ q) : (s.setQueue q x).queue p = s.queue p := by
  unfold State.queue State.setQueue
  dsimp only
  rw [find?_putKey_ne _ h]

@[simp] theorem State.queue_put (f : Fld) (v o : Nat) : (s.put f v o).queue q = s.queue q := rfl
@[simp] theorem State.queue_unflag (f : Fld) (o : Nat) : (s.unflag f o).queue q = s.queue q := rfl
@[simp] theorem State.queue_flag (f : Fld) (o : Nat) : (s.flag f o).queue q = s.queue q := State.queue_congr (State.flag_queues ..) q
@[simp] theorem State.queue_bump (f : Fld) (o n : Nat) : (s.bump f o n).queue q = s.queue q := State.queue_congr (State.bump_queues ..) q
@[simp] theorem State.queue_trackLow : s.trackLow.queue q = s.queue q := by
  unfold State.trackLow
  split <;> rfl

theorem Only.setQueue {ws : List Nat} (h : Only ws s t) : Only ws s (t.setQueue q x) := h.rest

theorem Only.trackLow (h : Only [aBOLT_POOL_LOW] s t) : Only [aBOLT_POOL_LOW] s t.trackLow := h.when (·.put)

end

/-! ### Room for a word (R361 to R363) -/

theorem sum_placeKey {α : Type} (f : Nat × α → Nat) (l : List (Nat × α)) (k : Nat) (v : α) :
    ((placeKey l k v).map f).sum = f (k, v) + (l.map f).sum := by
  induction l with
  | nil => rfl
  | cons e l ih =>
    obtain ⟨j, y⟩ := e
    unfold placeKey
    split
    · rfl
    · simp only [List.map_cons, List.sum_cons, ih]
      omega

section
variable {s : State} {q : Nat} {x : BQueue}

/-- The queues other than `q`, and the one that is read as `q`, own no more cells than are owned. -/
theorem cells_others_le (l : List (Nat × BQueue)) (q : Nat) :
    BQueue.cells (((l.find? (fun e => e.1 == q)).map (fun e => e.2)).getD {}) + ((l.filter (fun e => e.1 ≠ q)).map (fun e => e.2.cells)).sum ≤
      (l.map (fun e => e.2.cells)).sum := by
  induction l with
  | nil => simp [BQueue.cells, BQueue.held]
  | cons e l ih =>
    by_cases he : e.1 = q
    · have hl : ((l.filter (fun e => e.1 ≠ q)).map (fun e => e.2.cells)).sum ≤ (l.map (fun e => e.2.cells)).sum := by omega
      simpa [he] using hl
    · simp only [List.find?_cons, beq_eq_false_iff_ne.mpr he, List.filter_cons, ne_eq, he, not_false_eq_true, decide_true, if_true,
        List.map_cons, List.sum_cons]
      simp only [ne_eq] at ih
      omega

/-- A queue changed within the cells it owns leaves as many cells free. -/
theorem State.freeCells_setQueue (hx : x.cells = (s.queue q).cells) : s.freeCells ≤ (s.setQueue q x).freeCells := by
  have hle : (s.setQueue q x).ownedCells ≤ s.ownedCells := by
    have hl := cells_others_le s.queues q
    unfold State.ownedCells State.setQueue putKey
    dsimp only
    split
    · exact le_trans (Nat.le_add_left _ _) hl
    · rw [sum_placeKey, hx]
      exact hl
  exact Nat.sub_le_sub_left hle 524288

theorem State.cells_setQueue (hx : x.cells = (s.queue q).cells) (p : Nat) : ((s.setQueue q x).queue p).cells = (s.queue p).cells := by
  by_cases hp : p = q
  · rw [hp, State.queue_setQueue_same, hx]
  · rw [State.queue_setQueue_ne hp]

theorem State.reservedCells_setQueue (hx : x.cells = (s.queue q).cells) : (s.setQueue q x).reservedCells = s.reservedCells := by
  unfold State.reservedCells
  simp only [State.cells_setQueue hx]
  rfl

theorem State.mayTake_setQueue (hx : x.cells = (s.queue q).cells) (h : s.mayTake q = true) : (s.setQueue q x).mayTake q = true := by
  have hf := State.freeCells_setQueue hx
  unfold State.mayTake at h ⊢
  rw [State.reservedCells_setQueue hx, State.queue_setQueue_same, hx]
  simp only [Bool.and_eq_true, Bool.or_eq_true, decide_eq_true_eq] at h ⊢
  exact ⟨h.1, h.2.imp_right fun hr => lt_of_lt_of_le hr hf⟩

/-- Queue `q` has a place for one word more: in the last of its cells, or in a new one. -/
def State.HasRoom (s : State) (q : Nat) : Prop := ((s.queue q).off + (s.queue q).held) % 32 ≠ 0 ∨ s.mayTake q = true

theorem State.not_full_of_hasRoom (h : s.HasRoom q) : ¬ (((s.queue q).off + (s.queue q).held) % 32 = 0 ∧ ¬ s.mayTake q = true) :=
  fun ⟨hz, hm⟩ => h.elim (· hz) hm

/-- A queue whose packet is being opened. -/
def State.opened (s : State) (q : Nat) : State := s.setQueue q { s.queue q with opn := some [], ign := .none_ }

theorem State.opened_hasRoom (ho : (s.queue q).opn = none) (h : s.HasRoom q) : (s.opened q).HasRoom q := by
  have hh : ({ s.queue q with opn := some [], ign := .none_ } : BQueue).held = (s.queue q).held := by simp [BQueue.held, ho]
  refine h.imp (fun hz => ?_) (State.mayTake_setQueue ?_)
  · unfold State.opened
    rwa [State.queue_setQueue_same, hh]
  · unfold BQueue.cells
    rw [hh]

/-! ### A word of a packet (R367, R368, R374) -/

variable {pk : List BWord} {w : Word} {sop eop bad : Bool}

/-- The word `w` joins the open packet. -/
theorem State.placeWord_joins (ho : (s.queue q).opn.getD [] = pk) (hl : pk.length < 8192) (hr : s.HasRoom q) :
    s.placeWord q w sop false bad =
      (s.setQueue q { s.queue q with opn := some (pk ++ [⟨w, sop, false, false⟩]), ign := .none_ }).trackLow := by
  unfold State.placeWord
  dsimp only
  rw [ho, if_neg (not_le.mpr hl), if_neg (State.not_full_of_hasRoom hr)]
  rfl

/-- The last word of a packet without a damaged word commits it. -/
theorem State.placeWord_commits (ho : (s.queue q).opn.getD [] = pk) (hl : pk.length < 8192) (hr : s.HasRoom q)
    (hd : pk.any (fun b => b.dmg) = false) : ∃ hid : List (Nat × Nat), s.placeWord q w sop true false =
      (s.free.2.setQueue q { s.queue q with
        words := (s.queue q).words ++ (pk ++ [⟨w, sop, true, false⟩]), opn := none, ign := .none_, hid := hid }).trackLow := by
  have hd' : ¬ (pk ++ [BWord.mk w sop true false]).any (fun b => b.dmg) = true := by simpa using hd
  refine ⟨s.hideWords (s.queue q) (pk ++ [BWord.mk w sop true false]).length s.free.1, ?_⟩
  unfold State.placeWord
  dsimp only
  rw [ho, if_neg (not_le.mpr hl), if_neg (State.not_full_of_hasRoom hr), if_neg (by decide), if_neg Bool.false_ne_true, if_neg hd']

/-- Queue `q` with its open packet rewound as one its producer marked bad. -/
def State.badSeen (s : State) (q : Nat) : State := ((s.rewind q .none_).flag fBOLT_Q_STATUS_BAD_SEEN q).bump fBOLT_Q_COUNT_BAD_PKTS q

/-- The last word of a packet marked bad rewinds it. -/
theorem State.placeWord_bad (ho : (s.queue q).opn.getD [] = pk) (hl : pk.length < 8192) (hr : s.HasRoom q) :
    s.placeWord q w sop true true = s.badSeen q := by
  unfold State.placeWord
  dsimp only
  rw [ho, if_neg (not_le.mpr hl), if_neg (State.not_full_of_hasRoom hr)]
  rfl

/-- A bad packet goes and leaves the committed words. -/
theorem State.badSeen_shows (s : State) {q : Nat} : ((s.badSeen q).queue q).opn = none ∧
    ((s.badSeen q).queue q).words = (s.queue q).words ∧ (s.badSeen q).is fBOLT_Q_STATUS_BAD_SEEN q = true ∧
    Only [aBOLT_Q_STATUS + q, aBOLT_Q_COUNT + q] s (s.badSeen q) := by
  have ho : Only [aBOLT_Q_STATUS + q, aBOLT_Q_COUNT + q] s (s.rewind q .none_) := (Only.refl _ s).setQueue
  refine ⟨?_, ?_, ?_, (ho.flag (by simp [fBOLT_Q_STATUS_BAD_SEEN])).bump (by simp [fBOLT_Q_COUNT_BAD_PKTS])⟩
  · simp [State.badSeen, State.rewind]
  · simp [State.badSeen, State.rewind]
  · have ha : fBOLT_Q_COUNT_BAD_PKTS.Apart q fBOLT_Q_STATUS_BAD_SEEN q := .at_same (by decide) q
    exact (State.is_bump_apart _ _ ha).trans (State.is_flag _ _ _ (by decide))

/-! ### A word of a producer (R367 to R369) -/

/-- A SOP word opens a packet. -/
theorem State.queueWord_opens (ho : (s.queue q).opn = none) (hr : s.HasRoom q) :
    ((s.queueWord q w true false bad).queue q).opn = some [⟨w, true, false, false⟩] ∧
    ((s.queueWord q w true false bad).queue q).words = (s.queue q).words ∧ Only [aBOLT_POOL_LOW] s (s.queueWord q w true false bad) := by
  have hq : s.queueWord q w true false bad = (s.opened q).placeWord q w true false bad := by simp [State.queueWord, ho, State.opened]
  rw [hq, State.placeWord_joins (by simp [State.opened]; rfl) (by decide) (State.opened_hasRoom ho hr)]
  have hw : Only [aBOLT_POOL_LOW] s (s.opened q) := (Only.refl _ s).setQueue
  exact ⟨by simp, by simp [State.opened], hw.setQueue.trackLow⟩

/-- A word with SOP and EOP is a packet committed. -/
theorem State.queueWord_single (ho : (s.queue q).opn = none) (hr : s.HasRoom q) :
    ((s.queueWord q w true true false).queue q).words = (s.queue q).words ++ [⟨w, true, true, false⟩] ∧
    Only [aBOLT_POOL_LOW] s (s.queueWord q w true true false) := by
  have hq : s.queueWord q w true true false = (s.opened q).placeWord q w true true false := by simp [State.queueWord, ho, State.opened]
  obtain ⟨hid, hp⟩ := State.placeWord_commits (s := s.opened q) (pk := []) (w := w) (sop := true) (by simp [State.opened]) (by decide)
    (State.opened_hasRoom ho hr) rfl
  have hw : Only [aBOLT_POOL_LOW] s (s.opened q).free.2 := .of_regs rfl
  rw [hq, hp]
  exact ⟨by simp [State.opened], hw.setQueue.trackLow⟩

section
variable (ho : (s.queue q).opn = some pk)
include ho

theorem State.queueWord_of_open : s.queueWord q w false eop bad = s.placeWord q w false eop bad := by simp [State.queueWord, ho]

variable (hl : pk.length < 8192) (hr : s.HasRoom q)
include hl hr

/-- A word between SOP and EOP joins the open packet. -/
theorem State.queueWord_joins : ((s.queueWord q w false false bad).queue q).opn = some (pk ++ [⟨w, false, false, false⟩]) ∧
    ((s.queueWord q w false false bad).queue q).words = (s.queue q).words ∧ Only [aBOLT_POOL_LOW] s (s.queueWord q w false false bad) := by
  rw [State.queueWord_of_open ho, State.placeWord_joins (by rw [ho]; rfl) hl hr]
  exact ⟨by simp, by simp, (Only.refl _ s).setQueue.trackLow⟩

/-- EOP commits the open packet behind the committed words. -/
theorem State.queueWord_commits (hd : pk.any (fun b => b.dmg) = false) : ((s.queueWord q w false true false).queue q).opn = none ∧
    ((s.queueWord q w false true false).queue q).words = (s.queue q).words ++ pk ++ [⟨w, false, true, false⟩] ∧
    Only [aBOLT_POOL_LOW] s (s.queueWord q w false true false) := by
  obtain ⟨hid, hp⟩ := State.placeWord_commits (w := w) (sop := false) (by rw [ho]; rfl) hl hr hd
  have hw : Only [aBOLT_POOL_LOW] s s.free.2 := .of_regs rfl
  rw [State.queueWord_of_open ho, hp]
  exact ⟨by simp, by simp, hw.setQueue.trackLow⟩

/-- EOP with BAD rewinds the open packet. -/
theorem State.queueWord_bad : s.queueWord q w false true true = s.badSeen q := by
  rw [State.queueWord_of_open ho, State.placeWord_bad (by rw [ho]; rfl) hl hr]

end

theorem State.queueWord_orphan (ho : (s.queue q).opn = none) (hi : (s.queue q).ign = .none_) :
    s.queueWord q w false eop bad = (s.flag fBOLT_Q_STATUS_ORPHAN q).bump fBOLT_Q_COUNT_FLUSH_ORPHAN q := by
  simp [State.queueWord, ho, hi]

end

/-! ### The producers' commands (R365, R384) -/

section
variable {s : State} {w : Word}

theorem exec_packetWord {port : Fin 16} {q : Fin 4096} {sop eop bad : Bool} (he : s.is fBOLT_Q_CFG_EN q.val = true)
    (hp : s.get fBOLT_Q_CFG_PROD q.val = port.val) (hd : s.domOn 5 = true) :
    exec (.packetWord port q w sop eop bad) s = .next (s.queueWord q.val w sop eop bad) := if_pos ⟨he, hp, hd⟩

theorem exec_packetWord_stays {port : Fin 16} {q : Fin 4096} {sop eop bad : Bool}
    (h : s.is fBOLT_Q_CFG_EN q.val = false ∨ s.get fBOLT_Q_CFG_PROD q.val ≠ port.val ∨ s.domOn 5 = false) :
    exec (.packetWord port q w sop eop bad) s = .next s :=
  if_neg fun ⟨he, hp, hd⟩ => by simp [he, hp, hd] at h

/-- A push to a queue of another producer is dropped. -/
theorem State.push_refused (sop eop : Bool) (h : s.get fBOLT_Q_CFG_PROD (s.get fBOLT_PUSH_CTRL_QUEUE) ≠ 4) :
    s.push w sop eop = s.flag fBOLT_PUSH_CTRL_PUSH_ERR := by
  simp [State.push, State.pushTo, h]

/-- A push to a host queue, of a word that begins a packet or belongs to one, is a producer's word. -/
theorem State.push_taken {sop eop : Bool} {q : Nat} (hq : s.get fBOLT_PUSH_CTRL_QUEUE = q) (he : s.is fBOLT_Q_CFG_EN q = true)
    (hp : s.get fBOLT_Q_CFG_PROD q = 4) (ho : sop = true ∨ (s.queue q).opn.isSome = true) :
    s.push w sop eop = s.queueWord q w sop eop false := by
  have hlost : (!sop && (s.queue q).opn.isNone) = false := by
    rcases ho with rfl | ho
    · rfl
    · cases hx : (s.queue q).opn <;> simp_all
  simp [State.push, State.pushTo, hq, he, hp, hlost]

theorem exec_pushBad {q : Nat} (hq : s.get fBOLT_PUSH_CTRL_QUEUE = q) (hp : s.get fBOLT_Q_CFG_PROD q = 4)
    (ho : (s.queue q).opn ≠ none) : exec .pushBad s = .next (s.badSeen q) := by
  subst hq
  exact congrArg Host.Outcome.next ((if_pos hp).trans (if_pos (Option.isSome_iff_ne_none.mpr ho)))

theorem exec_pushBad_stays (h : s.get fBOLT_Q_CFG_PROD (s.get fBOLT_PUSH_CTRL_QUEUE) ≠ 4 ∨
    (s.queue (s.get fBOLT_PUSH_CTRL_QUEUE)).opn = none) : exec .pushBad s = .next s := by
  refine congrArg Host.Outcome.next ?_
  split
  · have ho := h.resolve_left (not_not.mpr ‹_›)
    exact if_neg (by simp [ho])
  · rfl

end

/-- Settles O30: PACKET_WORD and the pushes are `State.queueWord` (`exec_packetWord`, `State.push_taken`), which opens, extends, commits or
rewinds the open packet by the marks of the word. -/
theorem boltProducers : Obligations.BoltProducers := by
  unfold Obligations.BoltProducers
  refine ⟨?stays, ?opens, ?joins, ?commits, ?bad, ?orphan, ?pushSop, ?sopErr, ?sopEopErr, ?middleErr, ?eopErr, ?pushSopEop, ?pushMiddle,
    ?pushEop, ?pushBad, ?pushBadStays⟩
  case stays => exact fun s port q w sop eop bad h => exec_packetWord_stays h
  case opens => exact fun s port q w bad he hp hd ho hr => ⟨_, exec_packetWord he hp hd, State.queueWord_opens ho hr⟩
  case joins => exact fun s port q w bad pk he hp hd ho hl hr => ⟨_, exec_packetWord he hp hd, State.queueWord_joins ho hl hr⟩
  case commits => exact fun s port q w pk he hp hd ho hl hg hr => ⟨_, exec_packetWord he hp hd, State.queueWord_commits ho hl hr hg⟩
  case bad =>
    exact fun s port q w pk he hp hd ho hl hr =>
      ⟨_, (exec_packetWord he hp hd).trans (congrArg Host.Outcome.next (State.queueWord_bad ho hl hr)), s.badSeen_shows⟩
  case orphan =>
    exact fun s port q w eop bad he hp hd ho hi =>
      (exec_packetWord he hp hd).trans (congrArg Host.Outcome.next (State.queueWord_orphan ho hi))
  case pushSop =>
    intro s w he hp ho hr
    exact ⟨_, congrArg Host.Outcome.next (State.push_taken rfl he hp (.inl rfl)), State.queueWord_opens ho hr⟩
  case sopErr => exact fun s w h => congrArg Host.Outcome.next (State.push_refused true false h)
  case sopEopErr => exact fun s w h => congrArg Host.Outcome.next (State.push_refused true true h)
  case middleErr => exact fun s w h => congrArg Host.Outcome.next (State.push_refused false false h)
  case eopErr => exact fun s w h => congrArg Host.Outcome.next (State.push_refused false true h)
  case pushSopEop =>
    intro s w he hp ho hr
    exact ⟨_, congrArg Host.Outcome.next (State.push_taken rfl he hp (.inl rfl)), State.queueWord_single ho hr⟩
  case pushMiddle =>
    intro s w pk he hp ho hl hr
    obtain ⟨hopn, -, honly⟩ := State.queueWord_joins (w := w) (bad := false) ho hl hr
    exact ⟨_, congrArg Host.Outcome.next (State.push_taken rfl he hp (.inr (by rw [ho]; rfl))), hopn, honly⟩
  case pushEop =>
    intro s w pk he hp ho hl hg hr
    obtain ⟨hopn, hwords, honly⟩ := State.queueWord_commits (w := w) ho hl hr hg
    exact ⟨_, congrArg Host.Outcome.next (State.push_taken rfl he hp (.inr (by rw [ho]; rfl))), hwords, hopn, honly⟩
  case pushBad => exact fun s hp ho => ⟨_, exec_pushBad rfl hp ho, s.badSeen_shows⟩
  case pushBadStays => exact fun s h => exec_pushBad_stays h

end Sys2Proof.Machine

/-! # Bolt's reads, flushes and scrubber, and the choice of a consumer port (R370 to R380, R385, R457, R458) -/

namespace Sys2Proof.Machine

-- one thread at a time: the check holds the whole text in memory
set_option Elab.async false

/-! ### Register reads (R371, R385) -/

section
variable {s : State} {q : Nat}

/-- The marks of a register read. -/
def State.popShown (s : State) (sop eop empty dmg : Bool) : State :=
  (((s.put fBOLT_POP_CTRL_LAST_SOP (b2n sop)).put fBOLT_POP_CTRL_LAST_EOP (b2n eop)).put fBOLT_POP_CTRL_LAST_EMPTY (b2n empty)).put
    fBOLT_POP_CTRL_LAST_DAMAGED (b2n dmg)

theorem Only.popShown {ws : List Nat} {t : State} {sop eop empty dmg : Bool} (h : Only ws s t) (ha : aBOLT_POP_CTRL ∈ ws := by decide) :
    Only ws s (t.popShown sop eop empty dmg) := (((h.put ha).put ha).put ha).put ha

variable (s) in
theorem State.popShown_marks (sop eop empty dmg : Bool) (w : Word) :
    (((s.popShown sop eop empty dmg).setWord aBOLT_POP_DATA w).is fBOLT_POP_CTRL_LAST_SOP = sop ∧
    ((s.popShown sop eop empty dmg).setWord aBOLT_POP_DATA w).is fBOLT_POP_CTRL_LAST_EOP = eop ∧
    ((s.popShown sop eop empty dmg).setWord aBOLT_POP_DATA w).is fBOLT_POP_CTRL_LAST_EMPTY = empty ∧
    ((s.popShown sop eop empty dmg).setWord aBOLT_POP_DATA w).is fBOLT_POP_CTRL_LAST_DAMAGED = dmg) := by
  have hd : Only [aBOLT_POP_DATA] (s.popShown sop eop empty dmg) ((s.popShown sop eop empty dmg).setWord aBOLT_POP_DATA w) :=
    (Only.refl _ _).setWord
  refine ⟨?_, ?_, ?_, ?_⟩ <;> rw [hd.is (by decide)] <;> simp (disch := decide) [State.popShown]

/-- A read of a queue of another consumer, or of one not enabled, shows the idle item and POP_ERR. -/
theorem exec_popRead_wrong (dbe : Bool) (h : s.get fBOLT_Q_CFG_CONS (s.get fBOLT_POP_CTRL_QUEUE) ≠ 0 ∨
    s.is fBOLT_Q_CFG_EN (s.get fBOLT_POP_CTRL_QUEUE) = false) : exec (.popRead dbe) s =
    .next (((s.flag fBOLT_POP_CTRL_POP_ERR).unflag fBOLT_POP_CTRL_LAST_EMPTY).setWord aBOLT_POP_DATA idleItem) := by
  have hp : s.pop dbe = (idleItem, (s.flag fBOLT_POP_CTRL_POP_ERR).unflag fBOLT_POP_CTRL_LAST_EMPTY) :=
    if_pos (h.imp_right ne_true_of_eq_false)
  change Host.Outcome.next ((s.pop dbe).2.setWord aBOLT_POP_DATA (s.pop dbe).1) = _
  rw [hp]

variable (hq : s.get fBOLT_POP_CTRL_QUEUE = q) (hc : s.get fBOLT_Q_CFG_CONS q = 0) (he : s.is fBOLT_Q_CFG_EN q = true)
include hq hc he

/-- A read of a register queue of which no word shows. -/
theorem exec_popRead_empty (dbe : Bool) (hv : s.visible (s.queue q) = 0) :
    exec (.popRead dbe) s = .next ((s.popShown false false true false).setWord aBOLT_POP_DATA idleItem) := by
  have hp : s.pop dbe = (idleItem, s.popShown false false true false) := by simp [State.pop, hq, hc, he, hv, State.popShown]
  change Host.Outcome.next ((s.pop dbe).2.setWord aBOLT_POP_DATA (s.pop dbe).1) = _
  rw [hp]

/-- A read of a register queue takes the first word that shows. -/
theorem exec_popRead_word {b : BWord} {l : List BWord} (hw : (s.queue q).words = b :: l) (hv : s.visible (s.queue q) ≠ 0) :
    ∃ u : State, exec (.popRead false) s = .next ((u.popShown b.sop b.eop false b.dmg).setWord aBOLT_POP_DATA b.w) ∧
      (u.queue q).words = l ∧ u.regs = s.regs := by
  have ht : s.popWord q = (some b, s.setQueue q { s.queue q with
      words := l, off := ((s.queue q).off + 1) % 32, hid := (s.queue q).hid.filter (fun h => decide (s.now < h.1)) }) := by
    simp [State.popWord, hw]
  have hp : s.pop false = (b.w, (((s.popWord q).2.setQueue q { (s.popWord q).2.queue q with mid := !b.eop }).popShown
      b.sop b.eop false b.dmg)) := by
    simp [State.pop, hq, hc, he, hv, ht, State.popShown]
  refine ⟨_, congrArg (fun r : Word × State => Host.Outcome.next (r.2.setWord aBOLT_POP_DATA r.1)) hp, ?_, ?_⟩
  · rw [ht, State.queue_setQueue_same, State.queue_setQueue_same]
  · rw [ht]
    rfl

end

/-! ### Flushes (R373 to R375) -/

section
variable {s t u : State} {q n : Nat}

/-- `t` has the queues of `s` and the status of queue `q` as `s` has it. -/
def FlushKept (q : Nat) (s t : State) : Prop := t.queues = s.queues ∧ t.word (aBOLT_Q_STATUS + q) = s.word (aBOLT_Q_STATUS + q)

theorem FlushKept.rest (h : FlushKept q s t) (hq : u.queues = t.queues := by rfl) (hr : u.regs = t.regs := by rfl) : FlushKept q s u :=
  ⟨hq.trans h.1, (State.word_congr hr _).trans h.2⟩

/-- A word below the status words of the queues, or above them, is stored beside them. -/
theorem FlushKept.setWord {a : Nat} {w : Word} (h : FlushKept q s t) (ha : a ≠ aBOLT_Q_STATUS + q) : FlushKept q s (t.setWord a w) :=
  ⟨h.1, (State.word_setWord_ne t w ha.symm).trans h.2⟩

theorem FlushKept.flag {f : Fld} {o : Nat} (h : FlushKept q s t) (ha : f.base + o ≠ aBOLT_Q_STATUS + q) : FlushKept q s (t.flag f o) :=
  (h.rest (u := t.noteEvt f o (fun _ => 1)) (State.noteEvt_queues ..) (State.noteEvt_regs ..)).setWord ha

theorem FlushKept.bump {f : Fld} {o n : Nat} (h : FlushKept q s t) (ha : f.base + o ≠ aBOLT_Q_STATUS + q) : FlushKept q s (t.bump f o n) :=
  (h.rest (u := t.noteEvt f o (fun k => k + n)) (State.noteEvt_queues ..) (State.noteEvt_regs ..)).setWord ha

theorem FlushKept.forN {f : State → Nat → State} (h : FlushKept q s t) (hf : ∀ u i, i < n → FlushKept q s u → FlushKept q s (f u i)) :
    FlushKept q s (t.forN n f) :=
  List.foldlRecOn (motive := FlushKept q s) _ _ h fun u hu i hi => hf u i (List.mem_range.mp hi) hu

/-- What a flush means for rings, Reed's anchors and a sequencer leaves the queues and their status. -/
theorem flushKept_flush (s : State) (hq : q < 4096) : FlushKept q (s.flushQueue q) (s.flush q) := by
  have hring : ∀ i, aHOST_RING_WR + i ≠ aBOLT_Q_STATUS + q := fun i => by simp only [aHOST_RING_WR, aBOLT_Q_STATUS]; omega
  have hseq : ∀ a i, a < aBOLT_CFG → i < 2 → a + i ≠ aBOLT_Q_STATUS + q := fun a i ha hi => by
    simp only [aBOLT_CFG, aBOLT_Q_STATUS] at ha ⊢; omega
  unfold State.flush State.ringFlush
  refine FlushKept.forN (FlushKept.forN (FlushKept.forN ⟨rfl, rfl⟩ fun u i _ hu => ?_) fun u i _ hu => ?_) fun u i hi hu => ?_
  · dsimp only
    split
    · exact (hu.setWord (hring i)).rest
    · exact hu
  · split <;> exact hu.rest
  · dsimp only
    split
    · exact (FlushKept.bump (hu.rest (u := u.setSeq i _)) (hseq aSEQ_STREAM i (by decide) hi)).flag (hseq aSEQ_STATUS i (by decide) hi)
    · exact hu

theorem State.queue_flushQueue (s : State) (q : Nat) : ((s.flushQueue q).queue q).words = [] ∧ ((s.flushQueue q).queue q).opn = none := by
  unfold State.flushQueue
  simp

theorem State.is_flushQueue_flushed (s : State) (q : Nat) : (s.flushQueue q).is fBOLT_Q_STATUS_FLUSHED q = true := State.is_flag _ _ _ (by decide)

/-- A flush leaves its queue empty, and flagged. -/
theorem State.flush_shows (s : State) (hq : q < 4096) : ((s.flush q).queue q).words = [] ∧ ((s.flush q).queue q).opn = none ∧
    (s.flush q).is fBOLT_Q_STATUS_FLUSHED q = true := by
  obtain ⟨hqueues, hword⟩ := flushKept_flush s hq
  rw [State.queue_congr hqueues]
  exact ⟨(s.queue_flushQueue q).1, (s.queue_flushQueue q).2,
    (congrArg (fun w => fBOLT_Q_STATUS_FLUSHED.get w == 1) hword).trans (s.is_flushQueue_flushed q)⟩

end

/-! ### The scrubber (R378 to R380) -/

section
variable {s : State} {sbe : Nat} {dbes : List (Option (Nat × Nat))}

theorem exec_boltScrubPass_waits (hb : s.is fBOLT_SCRUB_STATUS_BUSY = false) (he : s.is fBOLT_CFG_SCRUB_EN = true) (hd : s.domOn 5 = true)
    (hr : s.resFree 28 true = false) : exec (.boltScrubPass sbe dbes) s = .next (s.flag fBOLT_SCRUB_STATUS_SCRUB_WAIT) :=
  (if_pos (ne_true_of_eq_false hb)).trans <| (if_neg (by simp [he, hd])).trans (if_pos (ne_true_of_eq_false hr))

/-- A pass that starts. -/
theorem exec_boltScrubPass_starts (hb : s.is fBOLT_SCRUB_STATUS_BUSY = false) (he : s.is fBOLT_CFG_SCRUB_EN = true) (hd : s.domOn 5 = true)
    (hr : s.resFree 28 true = true) : exec (.boltScrubPass sbe dbes) s =
    .next ((({ (s.claim 7 [(28, true)]).1 with boltMt := 0 } : State).unflag fBOLT_SCRUB_STATUS_SCRUB_WAIT).flag fBOLT_SCRUB_STATUS_BUSY) :=
  (if_pos (ne_true_of_eq_false hb)).trans <| (if_neg (by simp [he, hd])).trans (if_neg (not_not.mpr hr))

/-- A pass that ends in time, with no uncorrectable word. -/
theorem exec_boltScrubPass_ends (hb : s.is fBOLT_SCRUB_STATUS_BUSY = true) (hm : s.boltMt ≤ 80) : exec (.boltScrubPass sbe []) s =
    .next ((((s.bump fBOLT_SCRUB_STATUS_SBE_COUNT 0 sbe).unflag fBOLT_SCRUB_STATUS_BUSY).flag fBOLT_SCRUB_STATUS_PASS_DONE).release 7) := by
  have hl : ¬ max 80 (State.get (s.bump fBOLT_SCRUB_STATUS_SBE_COUNT 0 sbe) fBOLT_CFG_SCRUB_PERIOD) <
      (s.bump fBOLT_SCRUB_STATUS_SBE_COUNT 0 sbe).boltMt := by
    rw [State.bump_boltMt]
    omega
  exact (if_neg (not_not.mpr hb)).trans (congrArg (fun u : State => Host.Outcome.next
    (((u.unflag fBOLT_SCRUB_STATUS_BUSY).flag fBOLT_SCRUB_STATUS_PASS_DONE).release 7)) (if_neg hl))

end

/-! ### Consumer ports (R370, R456 to R458) -/

section
variable {s : State} {q : Nat}

theorem exec_consumerRead_stays {c : Fin 6} {dbe : List (Fin 8192)} (h : s.consumerRuns c.val = false) :
    exec (.consumerRead c dbe) s = .next s := if_pos (ne_true_of_eq_false h)

/-- The packet that a port chooses is delivered. -/
theorem exec_consumerRead {c : Fin 6} (h : s.consumerRuns c.val = true) (hn : s.nextOf c.val = (some q, s)) :
    exec (.consumerRead c []) s = .next (s.deliver c.val q) := by
  have hx : exec (.consumerRead c []) s = (match (s.nextOf c.val).1 with
      | none => .next (s.nextOf c.val).2
      | some q => .next ((s.nextOf c.val).2.deliver c.val q)) := if_neg (not_not.mpr h)
  rw [hx, hn]

/-- A host port whose first choice fits its ring takes it. -/
theorem State.nextOf_host (hc : s.choose 1 = some q)
    (hf : s.ringFits (s.get fBOLT_Q_CFG_CONS_SEL q) (8 + payBytes (firstPacket (s.queue q).words).length) = true) :
    s.nextOf 1 = (some q, s) := by
  change s.chooseHost 65 = _
  unfold State.chooseHost
  rw [hc]
  exact if_pos (.inr hf)

end

/-- Settles O31: a register read shows the first word that the queue shows, if any (`exec_popRead_word`, `exec_popRead_empty`), a flush leaves
its queue empty (`State.flush_shows`), a scrub pass follows resource 28, and a consumer port delivers the packet it chooses
(`exec_consumerRead`). That words show only after a free delay is log entry 50, and what the LAST bits are after POP_ERR log entry 51. -/
theorem boltReadsAndFlushes : Obligations.BoltReadsAndFlushes := by
  unfold Obligations.BoltReadsAndFlushes
  refine ⟨?popWrong, ?popNone, ?popHidden, ?popWord, ?flush, ?scrubWaits, ?scrubStarts, ?scrubEnds, ?consumerOff, ?consumer5, ?consumerHost⟩
  case popWrong => exact fun s dbe h => exec_popRead_wrong dbe h
  case popNone =>
    intro s dbe hc he hw
    have hv : s.visible (s.queue (s.get fBOLT_POP_CTRL_QUEUE)) = 0 := by simp [State.visible, hw]
    obtain ⟨hsop, heop, hempty, -⟩ := s.popShown_marks false false true false idleItem
    exact ⟨_, exec_popRead_empty rfl hc he dbe hv, State.word_setWord_same .., hempty, hsop, heop, (Only.refl _ s).popShown.setWord, rfl⟩
  case popHidden =>
    intro s hc he hv
    obtain ⟨-, -, hempty, -⟩ := s.popShown_marks false false true false idleItem
    exact ⟨_, exec_popRead_empty rfl hc he false hv, State.word_setWord_same .., hempty, (Only.refl _ s).popShown.setWord, rfl⟩
  case popWord =>
    intro s b l hc he hw hv
    obtain ⟨u, hx, hu, hr⟩ := exec_popRead_word rfl hc he hw hv
    obtain ⟨hsop, heop, hempty, hdmg⟩ := u.popShown_marks b.sop b.eop false b.dmg b.w
    exact ⟨_, hx, State.word_setWord_same .., hempty, hsop, heop, hdmg, hu, (Only.of_regs hr).popShown.setWord⟩
  case flush => exact fun s q => ⟨_, rfl, s.flush_shows q.isLt⟩
  case scrubWaits => exact fun s sbe dbes hb he hd hr => exec_boltScrubPass_waits hb he hd hr
  case scrubStarts =>
    intro s sbe dbes hb he hd hr
    exact ⟨_, exec_boltScrubPass_starts hb he hd hr, State.is_flag _ _ _ (by decide),
      (State.is_flag_apart _ (by decide)).trans (State.is_unflag _ _ _ (by decide)), State.flag_boltMt ..⟩
  case scrubEnds =>
    intro s sbe hb hm
    have hr (u : State) : Only maintWords u (u.release 7) := (Only.refl _ u).release (List.Subset.refl _)
    refine ⟨_, exec_boltScrubPass_ends hb hm, ((hr _).is (by decide)).trans ?_, ((hr _).is (by decide)).trans (State.is_flag _ _ _ (by decide))⟩
    exact (State.is_flag_apart _ (by decide)).trans (State.is_unflag _ _ _ (by decide))
  case consumerOff => exact fun s c dbe h => exec_consumerRead_stays (by simp [State.consumerRuns, h])
  case consumer5 =>
    intro s q hd hc
    exact exec_consumerRead (c := 5) (by simp [State.consumerRuns, hd]) (congrArg (·, s) hc)
  case consumerHost =>
    intro s q hr hc hp hf
    refine (exec_consumerRead (c := 1) hr (State.nextOf_host hc hf)).trans (congrArg Host.Outcome.next ?_)
    exact if_neg (ne_true_of_eq_false hp)

end Sys2Proof.Machine

/-! # History rings, their readers, and the upkeep of package memory (R389, R393 to R404) -/

namespace Sys2Proof.Machine

-- one thread at a time: the check holds the whole text in memory
set_option Elab.async false

/-- Detecting a fault changes no field. -/
theorem State.is_detect (s : State) (c u b d : Nat) (m : Bool) (i : Nat) (f : Fld) (o : Nat) : (s.detect c u b d m i).is f o = s.is f o := rfl

theorem State.get_detect (s : State) (c u b d : Nat) (m : Bool) (i : Nat) (f : Fld) (o : Nat) : (s.detect c u b d m i).get f o = s.get f o := rfl

/-! ### Readers (R400 to R402) -/

section
variable {s : State} {r : Fin 8} {cfg : Word} {k p e : Nat}

theorem exec_readerGo_refused (hr : s.is fHIST_RD_CTRL_RUN r.val = false) (hc : s.word (aHIST_RD_CFG + r.val) = cfg)
    (h : fHIST_RD_CFG_FROM.get cfg = 3 ∨ fHIST_RD_CFG_UNTIL.get cfg = 3 ∨
      (fHIST_RD_CFG_FROM.get cfg = 1 ∧ (nth (s.skein (fHIST_RD_CFG_SKEIN.get cfg)).marks (fHIST_RD_CFG_SLOT.get cfg)).st = 0)) :
    exec (.readerGo r) s = .next (s.flag fHIST_RD_CTRL_ERR r.val) := by
  subst hc
  exact (if_neg (ne_true_of_eq_false hr)).trans (if_pos h)

/-- Reader `r` at frame `p` of its Skein, running with its structure `cfg`. -/
def State.readerAt (s : State) (r : Nat) (cfg : Word) (until_ : Option Nat) (p : Nat) : State :=
  ((s.setReader r { cfg := cfg, until_ := until_, fresh := true }).flag fHIST_RD_CTRL_RUN r).setWord (aHIST_RD_POS + r) (BitVec.ofNat 36 p)

/-- The frame a reader starts from (R401). -/
def State.readerFrom (s : State) (r : Nat) (cfg : Word) : Nat :=
  let x := s.skein (fHIST_RD_CFG_SKEIN.get cfg)
  if fHIST_RD_CFG_FROM.get cfg = 0 then x.oldest else if fHIST_RD_CFG_FROM.get cfg = 1 then (nth x.marks (fHIST_RD_CFG_SLOT.get cfg)).start
  else x.firstAt (tsOf (s.word (aHIST_RD_T_LO + r)) (s.word (aHIST_RD_T_HI + r)))

theorem exec_readerGo_starts (hr : s.is fHIST_RD_CTRL_RUN r.val = false) (hc : s.word (aHIST_RD_CFG + r.val) = cfg)
    (hf : fHIST_RD_CFG_FROM.get cfg ≠ 3) (hu : fHIST_RD_CFG_UNTIL.get cfg ≠ 3)
    (hm : fHIST_RD_CFG_FROM.get cfg = 1 → (nth (s.skein (fHIST_RD_CFG_SKEIN.get cfg)).marks (fHIST_RD_CFG_SLOT.get cfg)).st ≠ 0) :
    ∃ u, exec (.readerGo r) s = .next (s.readerAt r.val cfg u (s.readerFrom r.val cfg)) := by
  subst hc
  exact ⟨_, (if_neg (ne_true_of_eq_false hr)).trans (if_neg fun h => h.elim hf fun h => h.elim hu fun h => hm h.1 h.2)⟩

/-- A reader that starts shows RUN and its place, and changes nothing but them. -/
theorem State.readerAt_shows (s : State) (r : Fin 8) (cfg : Word) (u : Option Nat) (p : Nat) :
    (s.readerAt r.val cfg u p).is fHIST_RD_CTRL_RUN r.val = true ∧
    (s.readerAt r.val cfg u p).word (aHIST_RD_POS + r.val) = BitVec.ofNat 36 p ∧
    Only [aHIST_RD_CTRL + r.val, aHIST_RD_POS + r.val] s (s.readerAt r.val cfg u p) ∧
    s.readerAt r.val cfg u p = { s with
      regs := (s.readerAt r.val cfg u p).regs, evts := (s.readerAt r.val cfg u p).evts, readers := (s.readerAt r.val cfg u p).readers } := by
  have ho : Only [aHIST_RD_CTRL + r.val, aHIST_RD_POS + r.val] s (s.setReader r.val { cfg := cfg, until_ := u, fresh := true }) :=
    (Only.refl _ s).rest
  have hn : fHIST_RD_CTRL_RUN.base + r.val ≠ aHIST_RD_POS + r.val := by simp only [fHIST_RD_CTRL_RUN, aHIST_RD_POS, aHIST_RD_CTRL]; omega
  refine ⟨?_, State.word_setWord_same .., (ho.flag (by simp [fHIST_RD_CTRL_RUN])).setWord (by simp), ?_⟩
  · exact (congrArg (fun w => fHIST_RD_CTRL_RUN.get w == 1) (State.word_setWord_ne _ _ hn)).trans (State.is_flag _ _ _ (by decide))
  · unfold State.readerAt
    rw [RegsOnly.flag (s.setReader r.val _)]
    rfl

/-- The place a reader starts from, by its FROM. -/
theorem State.readerFrom_eq (hk : fHIST_RD_CFG_SKEIN.get cfg = k) (h : (fHIST_RD_CFG_FROM.get cfg = 0 ∧ p = (s.skein k).oldest) ∨
    (fHIST_RD_CFG_FROM.get cfg = 1 ∧ p = (nth (s.skein k).marks (fHIST_RD_CFG_SLOT.get cfg)).start) ∨
    (fHIST_RD_CFG_FROM.get cfg = 2 ∧ p = (s.skein k).firstAt (tsOf (s.word (aHIST_RD_T_LO + r.val)) (s.word (aHIST_RD_T_HI + r.val))))) :
    s.readerFrom r.val cfg = p := by
  unfold State.readerFrom
  rcases h with ⟨hf, rfl⟩ | ⟨hf, rfl⟩ | ⟨hf, rfl⟩ <;> simp [hf, hk]

variable (hr : s.is fHIST_RD_CTRL_RUN r.val = true) (hm : s.memcRuns = true)
include hr hm

theorem exec_readerFrame_past (he : s.readerEnd r.val = some e) (hp : e ≤ (s.word (aHIST_RD_POS + r.val)).toNat) :
    exec (.readerFrame r) s = .next (s.readerDone r.val) := by
  refine (if_neg (by simp [hr, hm])).trans (if_pos ?_)
  rw [he]
  exact decide_eq_true hp

end

/-- A reader that follows no mark delivers no START_FRAME and leaves every mark. -/
theorem State.followsMark_loose {s : State} {r k j : Nat} (hu : fHIST_RD_CFG_UNTIL.get (s.reader r).cfg ≠ 0)
    (hf : fHIST_RD_CFG_FROM.get (s.reader r).cfg ≠ 1) : s.followsMark r k j = false := by
  simp [State.followsMark, hu, hf]

theorem State.markRead_loose {s : State} {r no : Nat} (hu : fHIST_RD_CFG_UNTIL.get (s.reader r).cfg ≠ 0)
    (hf : fHIST_RD_CFG_FROM.get (s.reader r).cfg ≠ 1) : s.markRead r no = s :=
  if_pos (.inl (ne_true_of_eq_false (State.followsMark_loose hu hf)))

/-- A packet written changes no reader. -/
theorem State.readers_packet (s : State) (q : Nat) (ws : List Word) : (s.packet q ws).1.readers = s.readers :=
  have h : BesideLines s (s.packet? (some q) ws) := (BesideLines.refl s).packet?
  (congrArg State.readers (show (s.packet q ws).1.besideLines = s.besideLines from h) :)

theorem State.reader_setReader {s : State} {r : Nat} {x : RdSt} (h : r < s.readers.length) : (s.setReader r x).reader r = x := by
  simp [State.reader, State.setReader, nth, h]

/-- A reader that reads on without an end, of no mark, delivers its frame and goes on. -/
theorem exec_readerFrame_on {s v : State} {r : Fin 8} {x : RdSt} {k p : Nat} {fr : Frame} (hr : s.is fHIST_RD_CTRL_RUN r.val = true)
    (hm : s.memcRuns = true) (hx : s.reader r.val = x) (hu : fHIST_RD_CFG_UNTIL.get x.cfg = 2) (hf : fHIST_RD_CFG_FROM.get x.cfg ≠ 1)
    (hn : x.until_ = none) (hk : fHIST_RD_CFG_SKEIN.get x.cfg = k) (hp : (s.word (aHIST_RD_POS + r.val)).toNat = p)
    (hfr : (s.skein k).frames.find? (fun f => f.no == p) = some fr) (hq : s.get fBOLT_Q_CFG_PROD (fHIST_RD_CFG_QUEUE.get x.cfg) = 7)
    (hv : s.packet (fHIST_RD_CFG_QUEUE.get x.cfg) (readerPacket k x false fr) = (v, true)) :
    exec (.readerFrame r) s = .next ((v.setReader r.val { x with lost := false, fresh := false }).setWord (aHIST_RD_POS + r.val)
      (BitVec.ofNat 36 (p + 1))) := by
  subst hx hk hp
  have hl : r.val < v.readers.length := by
    have hv' : (s.packet _ _).1 = v := congrArg Prod.fst hv
    rw [← hv', State.readers_packet]
    by_contra hge
    have hd : s.reader r.val = default := by simp [State.reader, nth, not_lt.mp hge]
    rw [hd] at hu
    exact absurd hu (by decide)
  have hend : s.readerEnd r.val = none := by
    unfold State.readerEnd
    simp [hu, hn]
  have hs : ∀ no, s.atMarkStart r.val no = false := fun no => by
    unfold State.atMarkStart
    simp [State.followsMark_loose (s := s) (r := r.val) (by rw [hu]; decide) hf]
  have hx : exec (.readerFrame r) s = _ := if_neg (by simp [hr, hm])
  rw [hx, hend, if_neg Bool.false_ne_true, hfr]
  dsimp only
  rw [hs, if_neg (by simp [hq, hv]), hv]
  set t : State := (v.setReader r.val { s.reader r.val with lost := false, fresh := false }).setWord (aHIST_RD_POS + r.val) _
  have ht : t.reader r.val = { s.reader r.val with lost := false, fresh := false } := State.reader_setReader hl
  have hut : fHIST_RD_CFG_UNTIL.get (t.reader r.val).cfg ≠ 0 := by rw [ht]; exact hu.trans_ne (by decide)
  have hte : t.readerEnd r.val = none := by
    unfold State.readerEnd
    simp [ht, hu, hn]
  rw [hte, State.markRead_loose hut (by rw [ht]; exact hf)]
  rfl

/-- Settles O28: each command is a function of `Machine/Hist.lean`, under its guard; a reader that starts shows its place
(`State.readerAt_shows`), and one of no mark goes on (`exec_readerFrame_on`). That a frame already written completes a mark, and how a reader
whose mark was freed goes on, is log entry 55. -/
theorem historyRings : Obligations.HistoryRings := by
  unfold Obligations.HistoryRings
  refine ⟨?mark, ?release, ?located, ?locatedStays, ?frame, ?noFrame, ?raw, ?noRaw, ?goRuns, ?goCfg, ?goMark, ?go, ?stop, ?readStays,
    ?readEnd, ?read, ?reset, ?noRegion, ?region⟩
  case mark =>
    intro s k
    change Host.Outcome.next (((s.put fHIST_MARK_CMD_OP 0).put fHIST_MARK_CMD_SKEIN k.val).placeMark k.val _) = _
    rw [State.word_put_ne _ _ _ (by decide), State.word_put_ne _ _ _ (by decide), State.word_put_ne _ _ _ (by decide),
      State.word_put_ne _ _ _ (by decide)]
  case release => exact fun s k j => rfl
  case located => exact fun s k j hs hl => if_neg (by simp [hs, hl])
  case locatedStays => exact fun s k j h => if_pos h
  case frame =>
    intro s k q hq hm he hk
    change execSkeinFrameWrite k s = _
    unfold execSkeinFrameWrite
    rw [hq]
    exact if_pos ⟨hm, he, ne_true_of_eq_false hk⟩
  case noFrame =>
    intro s k hq
    change execSkeinFrameWrite k s = _
    unfold execSkeinFrameWrite
    rw [hq]
    rfl
  case raw =>
    intro s f k r rest hf hk hm
    change execRawFrameWrite f s = _
    unfold execRawFrameWrite
    dsimp only
    rw [hf, hk]
    exact if_pos hm
  case noRaw =>
    intro s f hf
    change execRawFrameWrite f s = _
    unfold execRawFrameWrite
    dsimp only
    rw [hf]
    rfl
  case goRuns => exact fun s r hr => if_pos hr
  case goCfg => exact fun s r hr h => exec_readerGo_refused hr rfl (h.imp_right .inl)
  case goMark => exact fun s r hr hf hm => exec_readerGo_refused hr rfl (.inr (.inr ⟨hf, hm⟩))
  case go =>
    intro s r k p hr hk hu h
    obtain ⟨u, hx⟩ := exec_readerGo_starts hr rfl (by rcases h with ⟨h, -⟩ | ⟨h, -⟩ | ⟨h, -⟩ <;> rw [h] <;> decide) hu (fun h1 => by
      rcases h with ⟨h, -⟩ | ⟨-, h, -⟩ | ⟨h, -⟩
      · exact absurd (h.symm.trans h1) (by decide)
      · rwa [hk]
      · exact absurd (h.symm.trans h1) (by decide))
    rw [State.readerFrom_eq hk (h.imp_right (Or.imp_left fun ⟨h1, _, hp⟩ => ⟨h1, hp⟩))] at hx
    exact ⟨_, hx, s.readerAt_shows ..⟩
  case stop => exact fun s r => ⟨_, rfl, State.is_unflag _ _ _ (by decide), (Only.refl _ s).unflag (by simp [fHIST_RD_CTRL_RUN]), rfl⟩
  case readStays => exact fun s r h => if_pos (h.imp ne_true_of_eq_false ne_true_of_eq_false)
  case readEnd => exact fun s r e hr hm he hp => exec_readerFrame_past hr hm he hp
  case read =>
    intro s r fr v hr hm hu hf hn hfr hq hw hv
    exact exec_readerFrame_on hr hm rfl hu hf hn rfl rfl hfr hq (Prod.ext hv.symm hw)
  case reset => exact fun s q => rfl
  case noRegion =>
    intro s q hq
    change execStreamRegionWrite q s = _
    unfold execStreamRegionWrite
    rw [hq]
    rfl
  case region =>
    intro s q b hq hm
    change execStreamRegionWrite q s = _
    unfold execStreamRegionWrite
    rw [hq]
    exact if_neg (not_not.mpr hm)

/-! ### Start-up, patrol and the retention test (R389, R403, R404) -/

/-- Settles O29: each command is its function under its guard; that the governor admits the start of training is log entry 82. -/
theorem dramUpkeep : Obligations.DramUpkeep := by
  unfold Obligations.DramUpkeep
  refine ⟨?ready, ?readyStays, ?patrol, ?patrolLate, ?patrolStays, ?dbe, ?testOwned, ?test, ?testBusy, ?testDone, ?testStays⟩
  case ready => exact fun s hr hd hg => if_neg (by simp [hr, hd, hg])
  case readyStays => exact fun s h => if_pos (h.imp_right (Or.imp_left ne_true_of_eq_false))
  case patrol =>
    intro s sbe he hr hl
    exact (if_neg (by simp [he, hr])).trans (congrArg Host.Outcome.next (if_neg (by simpa using hl)))
  case patrolLate =>
    intro s sbe he hr hl
    exact (if_neg (by simp [he, hr])).trans (congrArg Host.Outcome.next (if_pos (decide_eq_true hl)))
  case patrolStays => exact fun s sbe h => if_pos (h.imp ne_true_of_eq_false ne_true_of_eq_false)
  case dbe =>
    intro s page line ws patrol
    refine ⟨_, rfl, ?_⟩
    rw [State.is_detect, State.is_bump_apart _ _ (by decide), State.is_flag _ _ _ (by decide)]
  case testOwned => exact fun s page hold h => if_pos h
  case test =>
    intro s page hold ho hc
    change execRetentionTestGo page hold s = _
    simp only [execRetentionTestGo, ho, hc, if_true, Bool.false_eq_true, if_false]
  case testBusy =>
    intro s page hold ho hc
    change execRetentionTestGo page hold s = _
    simp only [execRetentionTestGo, ho, hc, Bool.false_eq_true, if_false]
  case testDone => exact fun s weak hb hm => if_neg (by simp [hb, hm])
  case testStays => exact fun s weak h => if_pos (h.imp_left ne_true_of_eq_false)

end Sys2Proof.Machine

/-! # The chain's ports, frames and links (chapter 14) -/

namespace Sys2Proof.Machine

-- one thread at a time: the check holds the whole text in memory
set_option Elab.async false

/-! ### What sending leaves (R415, R420, R421) -/

section
variable {s t u : State} {p q n : Nat} {x : PortSt} {f : ChFrame}

theorem State.port_setPort (s : State) (p q : Nat) (x : PortSt) :
    (s.setPort q x).port p = if p = q ∧ q < s.chain.ports.length then x else s.port p := by
  unfold State.port State.setPort nth
  by_cases hp : p = q
  · subst hp
    by_cases hq : p < s.chain.ports.length <;> simp [hq]
  · simp [hp, Ne.symm hp]

theorem State.port_setPort_same (h : q < s.chain.ports.length) : (s.setPort q x).port q = x := by simp [State.port_setPort, h]

/-- What the new value of a port keeps, every port keeps. -/
theorem State.port_setPort_keeps {α : Type} (g : PortSt → α) (p : Nat) (h : g x = g (s.port q) := by rfl) : g ((s.setPort q x).port p) = g (s.port p) := by
  rw [State.port_setPort]
  split
  · next he => rw [h, he.1]
  · rfl

/-- `t` follows `s` with frames handed to the ports: only what the ports hold of traffic differs. -/
structure Sent (s t : State) : Prop where
  rest : t = { s with chain := { s.chain with ports := t.chain.ports } }
  heal : ∀ p, (t.port p).heal = (s.port p).heal

theorem Sent.refl (s : State) : Sent s s := ⟨rfl, fun _ => rfl⟩

theorem Sent.trans (h : Sent s t) (k : Sent t u) : Sent s u := by
  refine ⟨?_, fun p => (k.heal p).trans (h.heal p)⟩
  rw [k.rest, h.rest]

theorem Sent.regs (h : Sent s t) : t.regs = s.regs := by rw [h.rest]

theorem Sent.setPort (h : Sent s t) (hx : x.heal = (t.port q).heal := by rfl) : Sent s (t.setPort q x) :=
  h.trans ⟨rfl, fun p => State.port_setPort_keeps PortSt.heal p hx⟩

theorem Sent.ite {c : Prop} {_ : Decidable c} (ht : Sent s t) (hu : Sent s u) : Sent s (if c then t else u) := by split <;> assumption

variable (h : Sent s t)
include h

theorem Sent.emit : Sent s (t.emit p f) := .ite h h.setPort

theorem Sent.freeBuf {src : Option Nat} : Sent s (t.freeBuf src f) := by
  cases src with
  | none => exact h
  | some q => exact .ite h.setPort h.setPort

omit h in
theorem Sent.drainPort (h : Sent s t) : Sent s (t.drainPort p n) := by
  induction n generalizing t with
  | zero => exact h
  | succ n ih =>
    unfold State.drainPort
    dsimp only
    split
    · exact h
    · split
      · exact h
      · exact ih (h.setPort.emit.freeBuf)

theorem Sent.portUp (p : Nat) : t.portUp p = s.portUp p := congrArg (· == 2) (State.get_congr h.regs _ p)

theorem Sent.sendPort (hp : t.portUp p = true) : Sent s (t.sendPort p f) := by
  unfold State.sendPort State.sendVia
  rw [if_neg (not_not.mpr hp)]
  exact .ite h.emit (Sent.setPort h).drainPort

theorem Sent.sendBoth : Sent s (t.sendBoth f) :=
  List.foldlRecOn (motive := Sent s) _ _ h fun u hu p _ => by
    split
    · exact hu.sendPort ‹_›
    · exact hu

end

/-! ### Ports (R413 to R415, R421, R446) -/

section
variable {s t : State} {p : Nat} {f : ChFrame}

theorem State.linkDrop_congr (hs : t.selv = s.selv) (hb : t.is fFAULT_INJ_STATUS_BUSY = s.is fFAULT_INJ_STATUS_BUSY) (p : Nat) :
    t.linkDrop p = s.linkDrop p := by
  unfold State.linkDrop
  rw [State.injActs_congr hs hb]

/-- A frame that LINK_DROP does not hold is the last that its port sent. -/
theorem State.emit_eq (h : s.linkDrop p = false) : s.emit p f =
    s.setPort p { s.port p with sent := (s.port p).sent.filter (fun e => e.1 == s.nowT) ++ [(s.nowT, f)] } :=
  if_neg (ne_true_of_eq_false h)

/-- The HELLO of port `p`. -/
def State.helloFrame (s : State) (p : Nat) : ChFrame :=
  ⟨5, 0, s.addr, 0, (s.port p).hello, 0, [s.sig, BitVec.ofNat 36 (p * 2 ^ 35 + s.addr * 2 ^ 25 + b2n s.isHead * 2 ^ 24)]⟩

theorem State.sendHello_eq (hu : s.portUp p = true) : s.sendHello p =
    (s.setPort p { s.port p with hello := ((s.port p).hello + 1) % 4096 }).emit p (s.helloFrame p) := by
  have hu' : (s.setPort p { s.port p with hello := ((s.port p).hello + 1) % 4096 }).portUp p = true := hu
  unfold State.sendHello State.sendPort State.sendVia
  exact (if_neg (not_not.mpr hu')).trans (if_pos rfl)

theorem State.regs_sendHello (hu : s.portUp p = true) : (s.sendHello p).regs = s.regs := by
  rw [State.sendHello_eq hu]
  exact (Sent.refl _).emit.regs

/-- A HELLO that leaves changes what its port has sent. -/
theorem State.port_sendHello (hu : s.portUp p = true) (hp : p < s.chain.ports.length) (hd : s.linkDrop p = false) :
    (s.sendHello p).port p = { s.port p with
      hello := ((s.port p).hello + 1) % 4096, sent := (s.port p).sent.filter (fun e => e.1 == s.nowT) ++ [(s.nowT, s.helloFrame p)] } := by
  have hl : p < (s.setPort p { s.port p with hello := ((s.port p).hello + 1) % 4096 }).chain.ports.length := by
    simpa [State.setPort] using hp
  have hd' : (s.setPort p { s.port p with hello := ((s.port p).hello + 1) % 4096 }).linkDrop p = false := hd
  rw [State.sendHello_eq hu, State.emit_eq hd', State.port_setPort_same hl, State.port_setPort_same hp]
  rfl

theorem State.regs_wakeLane (s : State) (l : Nat) : (s.wakeLane l).regs = s.regs := by
  unfold State.wakeLane
  split <;> rfl

theorem State.regs_forN {n : Nat} {g : State → Nat → State} (hg : ∀ u i, (g u i).regs = u.regs) : (s.forN n g).regs = s.regs :=
  List.foldlRecOn (motive := fun u : State => u.regs = s.regs) _ _ rfl fun u hu i _ => (hg u i).trans hu

theorem exec_portTrain {p : Fin 2} (hc : s.chained = true) (he : s.portEn p.val = true) (hs : s.get fCHAIN_LINK_STATUS_STATE p.val = 0) :
    ∃ t, exec (.portTrain p) s = .next t ∧ t.get fCHAIN_LINK_STATUS_STATE p.val = 1 := by
  refine ⟨_, if_neg (by simp [hc, he, hs]), ?_⟩
  rw [State.get_congr (State.regs_forN fun u i => u.regs_wakeLane _)]
  exact State.get_put_of_lt _ (by decide) (by decide)

/-- A port as it comes UP. -/
def State.portFresh (s : State) (p : Nat) : State :=
  let s := s.put fCHAIN_LINK_STATUS_STATE 2 p
  s.setPort p { s.port p with heard := false, credit := 32768, freed := 0, waiting := [], deps := [], arr := none, heal := none }

theorem Only.portFresh (s : State) (p : Nat) : Only [aCHAIN_LINK_STATUS + p] s (s.portFresh p) :=
  Only.rest (t := s.put fCHAIN_LINK_STATUS_STATE 2 p) ((Only.refl _ s).put (by simp [fCHAIN_LINK_STATUS_STATE]))

theorem State.portUp_portFresh (s : State) (p : Nat) : (s.portFresh p).portUp p = true := by
  have hg : (s.portFresh p).get fCHAIN_LINK_STATUS_STATE p = 2 := State.get_put_of_lt s (by decide) (by decide)
  simp [State.portUp, hg]

/-- A member's port that comes UP sends its HELLO. -/
theorem exec_portUp {p : Fin 2} (hs : s.get fCHAIN_LINK_STATUS_STATE p.val = 1) (hh : s.isHead = false) :
    exec (.portUp p) s = .next ((s.portFresh p.val).sendHello p.val) := by
  have hm : ((s.portFresh p.val).sendHello p.val).isHead = false := by
    have ho : Only [aCHAIN_LINK_STATUS + p.val] s ((s.portFresh p.val).sendHello p.val) :=
      (Only.portFresh s p.val).rest (State.regs_sendHello (s.portUp_portFresh p.val))
    have hr := (by decide : ∀ p : Fin 2, fCHAIN_CFG_ROLE.base + 0 ∉ [aCHAIN_LINK_STATUS + p.val]) p
    have hd := (by decide : ∀ p : Fin 2, fCHAIN_ADDR_HEAD.base + 0 ∉ [aCHAIN_LINK_STATUS + p.val]) p
    unfold State.isHead State.chained at hh ⊢
    rw [ho.is hr, ho.is hd, hh]
  refine (if_neg (not_not.mpr hs)).trans (congrArg Host.Outcome.next (if_neg fun h => ?_))
  exact absurd (h.1.symm.trans hm) (by decide)

/-- What a port shows once it is UP. -/
theorem State.portFresh_shows {p : Fin 2} (hp : p.val < s.chain.ports.length) (hd : s.linkDrop p.val = false) :
    ((s.portFresh p.val).sendHello p.val).get fCHAIN_LINK_STATUS_STATE p.val = 2 ∧
    (((s.portFresh p.val).sendHello p.val).port p.val).credit = 32768 ∧ (((s.portFresh p.val).sendHello p.val).port p.val).heard = false ∧
    Only [aCHAIN_LINK_STATUS + p.val] s ((s.portFresh p.val).sendHello p.val) := by
  have hg : (s.portFresh p.val).get fCHAIN_LINK_STATUS_STATE p.val = 2 := State.get_put_of_lt s (by decide) (by decide)
  have hu := s.portUp_portFresh p.val
  have hl : p.val < (s.portFresh p.val).chain.ports.length := by simpa [State.portFresh, State.setPort] using hp
  have hb : (s.portFresh p.val).is fFAULT_INJ_STATUS_BUSY = s.is fFAULT_INJ_STATUS_BUSY :=
    State.is_put_apart s _ ((by decide : ∀ p : Fin 2, fCHAIN_LINK_STATUS_STATE.Apart p.val fFAULT_INJ_STATUS_BUSY 0) p)
  have hport := State.port_sendHello hu hl ((State.linkDrop_congr (s := s) (t := s.portFresh p.val) rfl hb p.val).trans hd)
  have hf : (s.portFresh p.val).port p.val = { s.port p.val with
      heard := false, credit := 32768, freed := 0, waiting := [], deps := [], arr := none, heal := none } := State.port_setPort_same hp
  refine ⟨(State.get_congr (State.regs_sendHello hu) ..).trans hg, ?_, ?_, ?_⟩
  · rw [hport, hf]
  · rw [hport, hf]
  · exact (Only.portFresh s p.val).rest (State.regs_sendHello hu)

/-! ### HELLO (R414, R415) -/

/-- The lists of waiting frames of a port that is lost free the places of those in transit, and leave what the ports hold. -/
theorem State.port_freeBuf (src : Option Nat) (f : ChFrame) (p : Nat) :
    (((s.freeBuf src f).port p).heard = (s.port p).heard ∧ ((s.freeBuf src f).port p).waiting = (s.port p).waiting) := by
  cases src with
  | none => exact ⟨rfl, rfl⟩
  | some q =>
    unfold State.freeBuf
    dsimp only
    split <;> exact ⟨State.port_setPort_keeps PortSt.heard p, State.port_setPort_keeps PortSt.waiting p⟩

/-- The chain's ports are a port's traffic; a path dropped leaves them. -/
theorem State.ports_toTstate (n : Nat) : (s.toTstate n).chain.ports = s.chain.ports := by
  unfold State.toTstate
  dsimp only
  split <;> rfl

theorem State.ports_dropPath (p : Nat) : (s.dropPath p).chain.ports = s.chain.ports := by
  unfold State.dropPath State.showPaths
  dsimp only
  split
  · exact State.ports_toTstate 4
  · rfl

theorem Only.showPaths {ws : List Nat} (h : Only ws s t) (ha : aCHAIN_STATUS ∈ ws := by decide) : Only ws s t.showPaths :=
  (h.put (f := fCHAIN_STATUS_UPSTREAM) (o := 0) ha).when (·.toTstate ha)

/-- The words that a dropped path changes. -/
def pathWords (p : Nat) : List Nat := [aCHAIN_THETA + p, aCHAIN_PATH + p, aCHAIN_STATUS]

theorem Only.dropPath (s : State) (p : Nat) : Only (pathWords p) s (s.dropPath p) :=
  Only.showPaths (((Only.refl _ s).unflag (f := fCHAIN_THETA_VALID) (o := p) (by simp [pathWords, fCHAIN_THETA_VALID])).put
    (f := fCHAIN_PATH_HOPS) (o := p) (by simp [pathWords, fCHAIN_PATH_HOPS])) (by simp [pathWords])

theorem State.is_dropPath_valid (p : Fin 2) : (s.dropPath p.val).is fCHAIN_THETA_VALID p.val = false := by
  have hv : ((s.unflag fCHAIN_THETA_VALID p.val).put fCHAIN_PATH_HOPS 0x3FF p.val).is fCHAIN_THETA_VALID p.val = false :=
    (State.is_put_apart _ _ ((by decide : ∀ p : Fin 2, fCHAIN_PATH_HOPS.Apart p.val fCHAIN_THETA_VALID p.val) p)).trans
      (State.is_unflag _ _ _ (by decide))
  have ha := (by decide : ∀ p : Fin 2, fCHAIN_THETA_VALID.base + p.val ∉ [aCHAIN_STATUS]) p
  exact ((Only.showPaths (Only.refl [aCHAIN_STATUS] _)).is ha).trans hv

/-- The loss of port `p` shows, with the `n` frames that it discards. -/
def State.lossShown (s : State) (p n : Nat) : State :=
  (((s.put fCHAIN_LINK_STATUS_STATE 0 p).flag fCHAIN_LINK_STATUS_LOSS p).bump fCHAIN_LINK_STATUS_LOSSES p).bump fCHAIN_COUNT_ROUTE_DROP 0 n

theorem State.lossShown_chain (p n : Nat) : (s.lossShown p n).chain = s.chain := by
  unfold State.lossShown
  rw [State.bump_chain, State.bump_chain, State.flag_chain]
  rfl

theorem State.lossShown_shows (p : Fin 2) (n : Nat) : (s.lossShown p.val n).get fCHAIN_LINK_STATUS_STATE p.val = 0 ∧
    (s.lossShown p.val n).is fCHAIN_LINK_STATUS_LOSS p.val = true ∧ (s.lossShown p.val n).ring = s.ring := by
  have hcs := (by decide : ∀ p : Fin 2, fCHAIN_COUNT_ROUTE_DROP.Apart 0 fCHAIN_LINK_STATUS_STATE p.val) p
  have hcl := (by decide : ∀ p : Fin 2, fCHAIN_COUNT_ROUTE_DROP.Apart 0 fCHAIN_LINK_STATUS_LOSS p.val) p
  have hbs : fCHAIN_LINK_STATUS_LOSSES.Apart p.val fCHAIN_LINK_STATUS_STATE p.val := .at_same (by decide) p.val
  have hbl : fCHAIN_LINK_STATUS_LOSSES.Apart p.val fCHAIN_LINK_STATUS_LOSS p.val := .at_same (by decide) p.val
  have hfs : fCHAIN_LINK_STATUS_LOSS.Apart p.val fCHAIN_LINK_STATUS_STATE p.val := .at_same (by decide) p.val
  have ho : Only [aCHAIN_LINK_STATUS + p.val, aCHAIN_COUNT] s (s.lossShown p.val n) :=
    ((((Only.refl _ s).put (by simp [fCHAIN_LINK_STATUS_STATE])).flag (by simp [fCHAIN_LINK_STATUS_LOSS])).bump
      (by simp [fCHAIN_LINK_STATUS_LOSSES])).bump (by simp [fCHAIN_COUNT_ROUTE_DROP])
  refine ⟨?_, ?_, ho.is ((by decide : ∀ p : Fin 2, fCHAIN_CFG_TOPO.base + 0 ∉ [aCHAIN_LINK_STATUS + p.val, aCHAIN_COUNT]) p)⟩
  · unfold State.lossShown
    rw [State.get_bump_apart _ _ hcs, State.get_bump_apart _ _ hbs, State.get_flag_apart _ hfs]
    exact State.get_put_of_lt _ (by decide) (by decide)
  · unfold State.lossShown
    rw [State.is_bump_apart _ _ hcl, State.is_bump_apart _ _ hbl]
    exact State.is_flag _ _ _ (by decide)

/-- A port that is lost, before its waiting frames are discarded. -/
def State.portDown (s : State) (p : Nat) : State :=
  (s.lossShown p (s.port p).waiting.length).setPort p
    { s.port p with heard := false, waiting := [], credit := 0, deps := [], arr := none, heal := none }

/-- A lost port of an open chain is DOWN, without its path, its neighbour and its frames. -/
theorem exec_portLoss {p : Fin 2} (hu : s.portUp p.val = true) (hr : s.ring = false) (hp : p.val < s.chain.ports.length) :
    ∃ t, exec (.portLoss p) s = .next t ∧ t.get fCHAIN_LINK_STATUS_STATE p.val = 0 ∧ t.is fCHAIN_LINK_STATUS_LOSS p.val = true ∧
      t.is fCHAIN_THETA_VALID p.val = false ∧ (t.port p.val).heard = false ∧ (t.port p.val).waiting = [] := by
  obtain ⟨hst, hloss, hring⟩ := s.lossShown_shows p (s.port p.val).waiting.length
  have hdown : (s.portDown p.val).port p.val = { s.port p.val with
      heard := false, waiting := [], credit := 0, deps := [], arr := none, heal := none } :=
    State.port_setPort_same (by rw [State.lossShown_chain]; exact hp)
  have hregs : (s.portDown p.val).regs = (s.lossShown p.val (s.port p.val).waiting.length).regs := rfl
  obtain ⟨v, hv⟩ : ∃ v : State, v = (s.port p.val).waiting.foldl (fun s e => s.freeBuf e.2 e.1) (s.portDown p.val) := ⟨_, rfl⟩
  have hsent : Sent (s.portDown p.val) v ∧ (v.port p.val).heard = ((s.portDown p.val).port p.val).heard ∧
      (v.port p.val).waiting = ((s.portDown p.val).port p.val).waiting := by
    rw [hv]
    refine List.foldlRecOn (motive := fun u : State => Sent (s.portDown p.val) u ∧ (u.port p.val).heard = ((s.portDown p.val).port p.val).heard ∧
      (u.port p.val).waiting = ((s.portDown p.val).port p.val).waiting) _ _ ⟨.refl _, rfl, rfl⟩ fun u ⟨hu, hh, hw⟩ e _ => ?_
    obtain ⟨hh', hw'⟩ := State.port_freeBuf (s := u) e.2 e.1 p.val
    exact ⟨hu.freeBuf, hh'.trans hh, hw'.trans hw⟩
  obtain ⟨hsent, hh, hw⟩ := hsent
  have hd := Only.dropPath v p.val
  have hring' : (v.dropPath p.val).ring = false := by
    have ha := (by decide : ∀ p : Fin 2, fCHAIN_CFG_TOPO.base + 0 ∉ pathWords p.val) p
    unfold State.ring at hr hring ⊢
    rw [hd.is ha, State.is_congr hsent.regs, State.is_congr hregs, hring, hr]
  have hx : ∃ a b c, exec (.portLoss p) s = .next ((v.dropPath p.val).detect 11 p.val 0 a b c) := by
    subst hv
    exact ⟨_, _, _, (if_neg (not_not.mpr hu)).trans (congrArg Host.Outcome.next (if_neg (ne_true_of_eq_false hring')))⟩
  obtain ⟨a, b, c, hx⟩ := hx
  have hst' := (by decide : ∀ p : Fin 2, fCHAIN_LINK_STATUS_STATE.base + p.val ∉ pathWords p.val) p
  have hl' := (by decide : ∀ p : Fin 2, fCHAIN_LINK_STATUS_LOSS.base + p.val ∉ pathWords p.val) p
  have hport : ((v.dropPath p.val).detect 11 p.val 0 a b c).port p.val = v.port p.val := by
    unfold State.port
    rw [State.detect_chain, State.ports_dropPath]
  refine ⟨_, hx, ?_, ?_, v.is_dropPath_valid p, ?_, ?_⟩
  · rw [State.get_detect, hd.get hst', State.get_congr hsent.regs, State.get_congr hregs, hst]
  · rw [State.is_detect, hd.is hl', State.is_congr hsent.regs, State.is_congr hregs, hloss]
  · rw [hport, hh, hdown]
  · rw [hport, hw, hdown]

end

/-- Settles O32: a port that comes UP is `State.portFresh` with its HELLO sent (`exec_portUp`), one lost is `State.portDown` with its path
dropped (`exec_portLoss`); frames that leave change the ports' traffic alone (`Sent`). -/
theorem chainPorts : Obligations.ChainPorts := by
  unfold Obligations.ChainPorts
  have hrecv {s : State} {p : Fin 2} {f : ChFrame} (hc : s.chained = true) (hu : s.portUp p.val = true) (ht : f.typ = 5) (ha : f.arg = 0) :
      ¬ (¬ s.chained = true ∨ ¬ s.portUp p.val = true ∨ f.typ ≠ 5 ∨ f.arg ≠ 0) := by simp [hc, hu, ht, ha]
  refine ⟨?train, ?trainStays, ?up, ?upStays, ?timer, ?timerStays, ?cable, ?same, ?badCrc, ?badLen, ?creditStays, ?credit, ?loss, ?lossStays⟩
  case train => exact fun s p hc he hs => exec_portTrain hc he hs
  case trainStays => exact fun s p h => if_pos (h.imp ne_true_of_eq_false (Or.imp_left ne_true_of_eq_false))
  case up => exact fun s p hs hh hp hd => ⟨_, exec_portUp hs hh, State.portFresh_shows hp hd⟩
  case upStays => exact fun s p hs => if_pos hs
  case timer =>
    intro s p hc hu hp hd
    refine ⟨_, if_pos ⟨hc, hu⟩, ?_, State.regs_sendHello hu⟩
    rw [State.port_sendHello hu hp hd]
    exact List.getLast?_concat
  case timerStays => exact fun s p h => if_neg fun ⟨hc, hu⟩ => by simp [hc, hu] at h
  case cable =>
    intro s p f crc hc hu ht ha hk hl hs hp
    refine ⟨_, (if_neg (hrecv hc hu ht ha)).trans <| (if_neg (not_not.mpr hk)).trans <| (if_neg (not_not.mpr hl)).trans (if_pos hs), ?_, ?_, ?_⟩
    · rw [State.is_detect]
      exact State.is_flag _ _ _ (by decide)
    · unfold State.port
      rw [State.detect_chain, State.flag_chain]
      exact congrArg PortSt.heard (State.port_setPort_same hp)
    · have ho : Only [aCHAIN_LINK_STATUS + p.val] s (s.setPort p.val { s.port p.val with heard := false }) := (Only.refl _ s).rest
      exact (ho.flag (f := fCHAIN_LINK_STATUS_CABLE_ERR) (o := p.val) (by simp [fCHAIN_LINK_STATUS_CABLE_ERR])).rest
  case same =>
    intro s p f crc hc hu ht ha hk hl hs hh hw hn
    have hw' : ((s.setPort p.val { s.port p.val with heard := true }).port p.val).waiting = [] :=
      (State.port_setPort_keeps PortSt.waiting p.val).trans hw
    refine (if_neg (hrecv hc hu ht ha)).trans <| (if_neg (not_not.mpr hk)).trans <| (if_neg (not_not.mpr hl)).trans <| (if_neg hs).trans ?_
    simp only [hh, hn, beq_self_eq_true, if_true, Bool.not_true, Bool.false_eq_true, not_false_eq_true]
    exact congrArg (fun l : List _ => Host.Outcome.next (State.drainPort _ p.val l.length)) hw'
  case badCrc =>
    exact fun s p f crc hc hu ht ha hk => (if_neg (hrecv hc hu ht ha)).trans (if_pos (ne_true_of_eq_false hk))
  case badLen =>
    exact fun s p f crc hc hu ht ha hk hl =>
      (if_neg (hrecv hc hu ht ha)).trans <| (if_neg (not_not.mpr hk)).trans (if_pos (ne_true_of_eq_false hl))
  case creditStays => exact fun s p n hu => if_pos (ne_true_of_eq_false hu)
  case credit => exact fun s p n hu => if_neg (not_not.mpr hu)
  case loss => exact fun s p hu hr hp => exec_portLoss hu hr hp
  case lossStays => exact fun s p hu => if_pos (ne_true_of_eq_false hu)

end Sys2Proof.Machine

/-! # Frames received from the chain, its time, links and enumeration (R417 to R451) -/

namespace Sys2Proof.Machine

-- one thread at a time: the check holds the whole text in memory
set_option Elab.async false

/-! ### Frames received and passed on (R418, R419) -/

section
variable {s t : State} {p q n : Nat} {f : ChFrame} {src : Option Nat}

/-- `t` follows `s` with a frame passed on: what the ports hold of traffic, the copies seen and the counts of the chain differ. -/
structure Passed (s t : State) : Prop where
  words : Only [aCHAIN_COUNT] s t
  chain : t.chain = { s.chain with ports := t.chain.ports, seen := t.chain.seen }

theorem Sent.passed (h : Sent s t) : Passed s t := ⟨.of_regs h.regs, by rw [h.rest]⟩

theorem Passed.trans {u : State} (h : Passed s t) (k : Passed t u) : Passed s u := by
  refine ⟨h.words.trans k.words, ?_⟩
  rw [k.chain, h.chain]

theorem Passed.noteFrame (s : State) (f : ChFrame) : Passed s (s.noteFrame f) := ⟨.of_regs rfl, rfl⟩

theorem Passed.routeDrop (s : State) : Passed s s.routeDrop :=
  ⟨(Only.refl _ s).bump, by unfold State.routeDrop; rw [State.bump_chain]⟩

theorem Sent.sendVia (h : Sent s t) (hp : t.portUp p = true) : Sent s (t.sendVia p f src) := by
  unfold State.sendVia
  rw [if_neg (not_not.mpr hp)]
  exact .ite h.emit (Sent.setPort h).drainPort

theorem Passed.forwardVia (s : State) (p : Nat) (f : ChFrame) (src : Nat) : Passed s (s.forwardVia p f src) := by
  unfold State.forwardVia
  split
  · exact (Passed.routeDrop s).trans (Sent.refl _).freeBuf.passed
  · split
    · exact ((Sent.refl s).sendVia ‹_›).passed
    · exact (Sent.refl s).freeBuf.passed

/-- A frame as it stands once it has travelled on: what a copy for this device acts on. -/
theorem Passed.first (s : State) (p : Nat) (f : ChFrame) : Passed s ((s.noteFrame f).forwardVia (1 - p) f p) :=
  (Passed.noteFrame s f).trans (.forwardVia ..)

theorem Passed.isHead (h : Passed s t) : t.isHead = s.isHead := by
  unfold State.isHead State.chained
  rw [h.words.is (by decide), h.words.is (by decide)]

section
variable {crc typ : Nat} {arg : Option Nat} {deliver : State → State} (hc : s.chained = true) (hu : s.portUp p = true)
  (hh : (s.port p).heard = true) (ht : f.typ = typ)
include hc hu hh ht

/-- A frame with a CRC error. -/
theorem State.chainRecv_badCrc (ha : ∀ a ∈ arg, f.arg = a) (hk : frCrcOk f crc = false) :
    s.chainRecv p f crc typ arg deliver = .next (s.badCrc p f) := by
  unfold State.chainRecv
  dsimp only
  rw [if_neg, if_neg (not_not.mpr hh), if_pos (ne_true_of_eq_false hk)]
  cases arg with
  | none => simp [hc, hu, ht]
  | some a => simp [hc, hu, ht, ha a rfl]

variable (hk : frCrcOk f crc = true) (hl : frLenOk f = true)
include hk hl

/-- A sound frame at a port that hears its neighbour is received. -/
theorem State.chainRecv_sound (ha : ∀ a ∈ arg, f.arg = a) :
    s.chainRecv p f crc typ arg deliver = if typ = 1 then .next (deliver s) else .next (s.receive p f deliver) := by
  unfold State.chainRecv
  dsimp only
  rw [if_neg, if_neg (not_not.mpr hh), if_neg (not_not.mpr hk), if_neg (not_not.mpr hl)]
  cases arg with
  | none => simp [hc, hu, ht]
  | some a => simp [hc, hu, ht, ha a rfl]

/-- The first copy of a broadcast acts here once it has travelled on. -/
theorem State.chainRecv_first (ha : ∀ a ∈ arg, f.arg = a) (h1 : typ ≠ 1) (hd : f.dst = 1023) (hs : s.seenFrame f = false) :
    s.chainRecv p f crc typ arg deliver = .next (deliver ((s.noteFrame f).forwardVia (1 - p) f p)) := by
  rw [State.chainRecv_sound hc hu hh ht hk hl ha, if_neg h1]
  unfold State.receive
  rw [if_pos hd, if_neg (ne_true_of_eq_false hs)]

/-- A frame for this placed device acts here and frees its buffer. -/
theorem State.chainRecv_here (h1 : typ ≠ 1) (hp : s.placed = true) (hd : f.dst = s.addr) (hb : f.dst ≠ 1023) (hw : s.bothWays f = false) :
    s.chainRecv p f crc typ none deliver = .next ((deliver s).freeBuf (some p) f) := by
  rw [State.chainRecv_sound hc hu hh ht hk hl (by simp), if_neg h1]
  unfold State.receive
  rw [if_neg hb, if_pos ⟨hp, hd⟩, if_neg (ne_true_of_eq_false hw)]

end

/-- Only a TRIG in a ring travels both ways. -/
theorem State.bothWays_of_typ (h : f.typ ≠ 3) : s.bothWays f = false := by simp [State.bothWays, h]

theorem State.bothWays_of_open (h : s.ring = false) : s.bothWays f = false := by simp [State.bothWays, h]

end

/-! ### Originating (R418, R423) -/

section
variable {s t : State} {f : ChFrame}

/-- A state in which `f` is the frame that it originates, before it leaves. -/
def State.originated (s : State) (f : ChFrame) : State := ({ s with chain := { s.chain with seq := (s.chain.seq + 1) % 4096 } } : State).noteFrame f

theorem State.announce_sent (s : State) : ∃ f, Sent (s.originated f) s.announce := by
  unfold State.announce State.broadcast
  dsimp only
  generalize (s.newFrame 2 1023 0 _).1 = f
  exact ⟨f, (Sent.refl (s.originated f)).sendBoth⟩

theorem State.regs_announce (s : State) : s.announce.regs = s.regs := by
  obtain ⟨f, hf⟩ := s.announce_sent
  exact hf.regs

theorem State.sendLink_sent (s : State) (arg : Nat) (l : Nat × Nat) :
    s.sendLink arg l = s ∨ ∃ f, Sent (s.originated f) (s.sendLink arg l) := by
  unfold State.sendLink
  split
  · exact .inl rfl
  · unfold State.broadcast
    dsimp only
    generalize (s.newFrame 2 1023 arg _).1 = f
    exact .inr ⟨f, (Sent.refl (s.originated f)).sendBoth⟩

/-- What announcements and frames about a link leave: words, links and holds. -/
theorem State.broken_announce (s : State) : s.announce.chain.broken = s.chain.broken := by
  obtain ⟨f, hf⟩ := s.announce_sent
  rw [hf.rest]
  rfl

theorem State.broken_sendLink (s : State) (arg : Nat) (l : Nat × Nat) : (s.sendLink arg l).chain.broken = s.chain.broken := by
  obtain h | ⟨f, hf⟩ := s.sendLink_sent arg l
  · rw [h]
  · rw [hf.rest]
    rfl

theorem State.heal_announce (s : State) (p : Nat) : (s.announce.port p).heal = (s.port p).heal := by
  obtain ⟨f, hf⟩ := s.announce_sent
  exact hf.heal p

theorem State.heal_sendLink (s : State) (arg : Nat) (l : Nat × Nat) (p : Nat) : ((s.sendLink arg l).port p).heal = (s.port p).heal := by
  obtain h | ⟨f, hf⟩ := s.sendLink_sent arg l
  · rw [h]
  · exact hf.heal p

end

/-! ### Time (R429 to R436) -/

section
variable {s : State} {n : Nat}

theorem State.now_forN {g : State → Nat → State} (hg : ∀ u i, (g u i).now = u.now) : (s.forN n g).now = s.now :=
  List.foldlRecOn (motive := fun u : State => u.now = s.now) _ _ rfl fun u hu i _ => (hg u i).trans hu

theorem State.now_stepTimebase (s : State) (n : Nat) : (s.stepTimebase n).now = n % 2 ^ 62 := by
  unfold State.stepTimebase
  dsimp only
  rw [State.now_forN, State.now_forN, State.now_forN]
  · rfl
  · exact fun u i => rfl
  · exact fun u i => by split <;> rfl
  · intro u i
    split
    · rfl
    · simp only [apply_ite State.now, State.put_now, State.flag_now, ite_self]

theorem State.now_probeGrid (s : State) (f : Nat) : (s.probeGrid f).now = s.now := rfl

theorem State.now_rebase (s : State) (n : Nat) : (s.rebase n).now = n % 2 ^ 62 := by
  unfold State.rebase
  dsimp only
  rw [State.now_probeGrid, State.now_probeGrid, State.now_stepTimebase]

variable {p : Fin 2} {f : ChFrame}

/-- A time exchange keeps its departure and sends its TIME frame. -/
theorem exec_timeExchangeTimer {dep : Nat} (hc : s.chained = true) (hu : s.portUp p.val = true) (hh : (s.port p.val).heard = true)
    (hp : p.val < s.chain.ports.length) (hd : s.linkDrop p.val = false) :
    ∃ t f, exec (.timeExchangeTimer p dep) s = .next t ∧ t.regs = s.regs ∧ (f.typ = 1 ∧ f.seq = (s.port p.val).seq ∧ f.words.length = 6) ∧
      t.port p.val = { s.port p.val with
        seq := ((s.port p.val).seq + 1) % 4096, deps := (((s.port p.val).seq, dep % tMod) :: (s.port p.val).deps).take 4,
        sent := (s.port p.val).sent.filter (fun e => e.1 == s.nowT) ++ [(s.nowT, f)] } := by
  obtain ⟨u, hu'⟩ : ∃ u : State, u = s.setPort p.val { s.port p.val with
    seq := ((s.port p.val).seq + 1) % 4096, deps := (((s.port p.val).seq, dep % tMod) :: (s.port p.val).deps).take 4 } := ⟨_, rfl⟩
  have hx : ∃ f : ChFrame, exec (.timeExchangeTimer p dep) s = .next (u.emit p.val f) ∧ f.typ = 1 ∧ f.seq = (s.port p.val).seq ∧
      f.words.length = 6 := by
    rw [hu']
    exact ⟨_, if_neg (by simp [hc, hu, hh]), rfl, rfl, rfl⟩
  obtain ⟨f, hx, hf⟩ := hx
  have hd' : u.linkDrop p.val = false := by rw [hu']; exact hd
  have hl : p.val < u.chain.ports.length := by rw [hu']; simpa [State.setPort] using hp
  refine ⟨_, f, hx, ?_, hf, ?_⟩
  · rw [(Sent.refl u).emit.regs, hu']
    rfl
  · rw [State.emit_eq hd', State.port_setPort_same hl, hu', State.port_setPort_same hp]
    rfl

/-- A TIME frame whose stamps pair with this port's gives LINK_DELAY, and otherwise changes the path and the time state alone. -/
theorem State.timeFrame_delay {p arr n t2 t3 : Nat} (ha : (s.port p).arr = some (n, t2)) (hn : (n + 1) % 4096 = f.seq % 4096)
    (h3 : ((s.port p).deps.find? (fun e => e.1 == getBits (f.words.getD 4 0) 24 12)).map (fun e => e.2) = some t3) :
    Only (pathWords p) (s.put fCHAIN_LINK_DELAY_DELAY (satU 36 ((tDiff t2 (tsOf (f.words.getD 0 0) (f.words.getD 1 0)) +
      tDiff (tsOf (f.words.getD 2 0) (f.words.getD 3 0)) t3) / 2).toNat) p) (s.timeFrame p f arr) := by
  unfold State.timeFrame
  simp only [ha, hn, h3, if_true]
  obtain ⟨u, hu⟩ : ∃ u : State, u = (s.setPort p { s.port p with arr := some (f.seq % 4096, arr % tMod) }).put fCHAIN_LINK_DELAY_DELAY
    (satU 36 ((tDiff t2 (tsOf (f.words.getD 0 0) (f.words.getD 1 0)) + tDiff (tsOf (f.words.getD 2 0) (f.words.getD 3 0)) t3) / 2).toNat) p :=
    ⟨_, rfl⟩
  rw [← hu]
  have ho : Only (pathWords p) (s.put fCHAIN_LINK_DELAY_DELAY (satU 36 ((tDiff t2 (tsOf (f.words.getD 0 0) (f.words.getD 1 0)) +
      tDiff (tsOf (f.words.getD 2 0) (f.words.getD 3 0)) t3) / 2).toNat) p) u := by
    rw [hu]
    exact .of_regs rfl
  split
  · exact (((Only.flag (ho.rest (u := u.setPort p _)) (by simp [pathWords, fCHAIN_THETA_VALID])).putSat
      (by simp [pathWords, fCHAIN_THETA_THETA])).put (by simp [pathWords, fCHAIN_PATH_HOPS])).showPaths (by simp [pathWords])
  · exact ho.trans (Only.dropPath u p)

theorem exec_time_head {crc : Fin (2 ^ 32)} {arr n t2 t3 : Nat} (hc : s.chained = true) (hu : s.portUp p.val = true)
    (hh : (s.port p.val).heard = true) (ht : f.typ = 1) (hk : frCrcOk f crc.val = true) (hl : frLenOk f = true) (hm : s.isHead = true)
    (ha : (s.port p.val).arr = some (n, t2)) (hn : (n + 1) % 4096 = f.seq % 4096)
    (h3 : ((s.port p.val).deps.find? (fun e => e.1 == getBits (f.words.getD 4 0) 24 12)).map (fun e => e.2) = some t3) :
    ∃ t, exec (.time p f crc arr) s = .next t ∧ t.get fCHAIN_LINK_DELAY_DELAY p.val = satU 36
      ((tDiff t2 (tsOf (f.words.getD 0 0) (f.words.getD 1 0)) + tDiff (tsOf (f.words.getD 2 0) (f.words.getD 3 0)) t3) / 2).toNat := by
  have ho := State.timeFrame_delay (arr := arr) ha hn h3
  have hw : Only ((aCHAIN_LINK_DELAY + p.val) :: pathWords p.val) s (s.timeFrame p.val f arr) :=
    ((Only.refl _ s).put (List.mem_cons_self ..)).trans (ho.mono (List.subset_cons_self ..))
  have hh' : (s.timeFrame p.val f arr).isHead = true := by
    have hr := (by decide : ∀ p : Fin 2, fCHAIN_CFG_ROLE.base + 0 ∉ (aCHAIN_LINK_DELAY + p.val) :: pathWords p.val) p
    have hd := (by decide : ∀ p : Fin 2, fCHAIN_ADDR_HEAD.base + 0 ∉ (aCHAIN_LINK_DELAY + p.val) :: pathWords p.val) p
    unfold State.isHead State.chained at hm ⊢
    rw [hw.is hr, hw.is hd, hm]
  refine ⟨s.timeFrame p.val f arr, ?_, ?_⟩
  · change execTime p f crc arr s = _
    unfold execTime
    rw [State.chainRecv_sound hc hu hh ht hk hl (by simp), if_pos rfl]
    exact congrArg Host.Outcome.next (if_pos (.inl hh'))
  · rw [ho.get ((by decide : ∀ p : Fin 2, fCHAIN_LINK_DELAY_DELAY.base + p.val ∉ pathWords p.val) p)]
    refine State.get_put_of_lt _ (by decide) ?_
    unfold satU
    exact Nat.lt_of_le_of_lt (Nat.min_le_right ..) (by decide)

/-- What port `p` keeps of its path after a step by `k` wc. -/
def State.stepPort (k : Int) (s : State) (p : Nat) : State :=
  (s.setPort p { s.port p with theta := (s.port p).theta - (k * 1024 : Int), deps := [], arr := none }).putSat fCHAIN_THETA_THETA
    ⌊(s.port p).theta - (k * 1024 : Int) + 1 / 2⌋ p

/-- A step of the timebase by `k` wc. -/
def State.stepped (s : State) (k : Int) : State :=
  ((s.rebase (((s.now : Int) - k) % 2 ^ 62).toNat).unflag fCHAIN_STATUS_STEP_WAIT).forN 2 (State.stepPort k)

/-- A step of a member in ACQUIRE. -/
theorem exec_chainStep {th : Rat} (h : s.theta? = some th) (ht : s.tstate = 1) (hm : s.isHead = false) (hq : s.quiescent = true)
    (hl : s.unlocked = false) : exec .chainStep s = .next (s.stepped ⌊th / 1024 + 1 / 2⌋) := by
  change execChainStep s = _
  unfold execChainStep
  rw [h]
  exact if_neg (by simp [ht, hm, hq, hl])

theorem State.stepped_shows (s : State) (k : Int) : (s.stepped k).is fCHAIN_STATUS_STEP_WAIT = false ∧
    (s.stepped k).now = (((s.now : Int) - k) % 2 ^ 62).toNat := by
  obtain ⟨u, hu⟩ : ∃ u : State, u = s.rebase (((s.now : Int) - k) % 2 ^ 62).toNat := ⟨_, rfl⟩
  have hs : s.stepped k = (u.unflag fCHAIN_STATUS_STEP_WAIT).forN 2 (State.stepPort k) := by rw [hu]; rfl
  have ho : Only [aCHAIN_THETA, aCHAIN_THETA + 1] (u.unflag fCHAIN_STATUS_STEP_WAIT) (s.stepped k) := by
    rw [hs]
    refine Only.foldl (Only.refl _ _) fun {v i} hi hv => ?_
    refine (hv.rest (u := v.setPort i _)).putSat ?_
    have hi' := List.mem_range.mp hi
    simp only [fCHAIN_THETA_THETA, aCHAIN_THETA, List.mem_cons]
    omega
  refine ⟨(ho.is (by decide)).trans (State.is_unflag _ _ _ (by decide)), ?_⟩
  rw [hs, State.now_forN fun u i => show (State.stepPort k u i).now = u.now from rfl, State.unflag_now, hu, State.now_rebase]
  exact Nat.mod_eq_of_lt (by omega)

end

/-! ### Announcements (R434, R436) -/

section
variable {s u : State} {n : Nat} {g : Fld} {f : ChFrame}

theorem State.get_toTstate_apart (h : fCHAIN_STATUS_STEP_WAIT.Apart 0 g 0) (k : fCHAIN_STATUS_TSTATE.Apart 0 g 0) :
    (s.toTstate n).get g = s.get g := by
  unfold State.toTstate
  refine (State.get_put_apart _ _ k).trans ?_
  split
  · rfl
  · exact State.get_unflag_apart s h

theorem State.get_toTstate_same (h : n < 8) : (s.toTstate n).get fCHAIN_STATUS_TSTATE = n := State.get_put_of_lt _ (by decide) h

theorem State.is_of_get {o : Nat} (h : s.get g o = 1) : s.is g o = true := by simp [State.is, h]

/-- What an ANNOUNCE carries. -/
def State.announced (s : State) (f : ChFrame) : State :=
  ((s.put fCHAIN_STATUS_GEN (getBits (f.words.getD 0 0) 14 12)).put fCHAIN_ADDR_CHAIN_LEN (getBits (f.words.getD 0 0) 26 10)).put
    fCHAIN_STATUS_RING_OK (getBits (f.words.getD 0 0) 13 1)

theorem getBits_lt (w : Word) (i n : Nat) : getBits w i n < 2 ^ n := Nat.mod_lt _ (Nat.two_pow_pos n)

theorem State.get_announced (s : State) (f : ChFrame) : (s.announced f).get fCHAIN_STATUS_GEN = getBits (f.words.getD 0 0) 14 12 ∧
    (s.announced f).get fCHAIN_ADDR_CHAIN_LEN = getBits (f.words.getD 0 0) 26 10 ∧
    (s.announced f).get fCHAIN_STATUS_RING_OK = getBits (f.words.getD 0 0) 13 1 := by
  refine ⟨?_, ?_, State.get_put_of_lt _ (by decide) (getBits_lt ..)⟩
  · exact (State.get_put_apart _ _ (by decide)).trans ((State.get_put_apart _ _ (by decide)).trans
      (State.get_put_of_lt _ (by decide) (getBits_lt ..)))
  · exact (State.get_put_apart _ _ (by decide)).trans (State.get_put_of_lt _ (by decide) (getBits_lt ..))

/-- A member takes an ANNOUNCE. -/
def State.takeAnnounce (s : State) (f : ChFrame) : State :=
  if s.isHead then s
  else if f.words.getD 1 0 ≠ (s.announced f).word aTB_WC_PER_MT then ((s.announced f).flag fCHAIN_STATUS_PLAN_ERR).toTstate 0
  else if getBits (f.words.getD 0 0) 14 12 ≠ s.get fCHAIN_STATUS_GEN ∧ ((s.announced f).unflag fCHAIN_STATUS_PLAN_ERR).tstate ≠ 0 then
    ((s.announced f).unflag fCHAIN_STATUS_PLAN_ERR).toTstate 1
  else (s.announced f).unflag fCHAIN_STATUS_PLAN_ERR

theorem exec_announce {p : Fin 2} {crc : Fin (2 ^ 32)} :
    exec (.announce p f crc) s = s.chainRecv p.val f crc.val 2 (some 0) (fun u => u.takeAnnounce f) := rfl

theorem Only.announced (s : State) (f : ChFrame) : Only [aCHAIN_STATUS, aCHAIN_ADDR] s (s.announced f) := (((Only.refl _ s).put).put).put

theorem State.takeAnnounce_other (hm : s.isHead = false) (hw : f.words.getD 1 0 ≠ s.word aTB_WC_PER_MT) :
    s.takeAnnounce f = ((s.announced f).flag fCHAIN_STATUS_PLAN_ERR).toTstate 0 := by
  rw [← Only.announced s f _ (by decide)] at hw
  exact (if_neg (ne_true_of_eq_false hm)).trans (if_pos hw)

/-- A plan that is not this device's. -/
theorem State.announced_refused (s : State) (f : ChFrame) :
    (((s.announced f).flag fCHAIN_STATUS_PLAN_ERR).toTstate 0).is fCHAIN_STATUS_PLAN_ERR = true ∧
    (((s.announced f).flag fCHAIN_STATUS_PLAN_ERR).toTstate 0).get fCHAIN_STATUS_TSTATE = 0 ∧
    (((s.announced f).flag fCHAIN_STATUS_PLAN_ERR).toTstate 0).get fCHAIN_STATUS_GEN = getBits (f.words.getD 0 0) 14 12 := by
  refine ⟨State.is_of_get ?_, State.get_toTstate_same (by decide), ?_⟩
  · rw [State.get_toTstate_apart (by decide) (by decide)]
    exact State.get_flag_same _ (by decide)
  · rw [State.get_toTstate_apart (by decide) (by decide), State.get_flag_apart _ (by decide)]
    exact (s.get_announced f).1

/-- This device's plan. -/
theorem State.takeAnnounce_own (hm : s.isHead = false) (hw : f.words.getD 1 0 = s.word aTB_WC_PER_MT) :
    (s.takeAnnounce f).is fCHAIN_STATUS_PLAN_ERR = false ∧ (s.takeAnnounce f).get fCHAIN_STATUS_GEN = getBits (f.words.getD 0 0) 14 12 ∧
    (s.takeAnnounce f).get fCHAIN_ADDR_CHAIN_LEN = getBits (f.words.getD 0 0) 26 10 ∧
    (s.takeAnnounce f).get fCHAIN_STATUS_RING_OK = getBits (f.words.getD 0 0) 13 1 := by
  have hw' : ¬ f.words.getD 1 0 ≠ (s.announced f).word aTB_WC_PER_MT := by
    rw [Only.announced s f _ (by decide)]
    exact not_not.mpr hw
  have hx : s.takeAnnounce f = _ := (if_neg (ne_true_of_eq_false hm)).trans (if_neg hw')
  obtain ⟨hgen, hlen, hok⟩ := s.get_announced f
  have hu : ∀ {g : Fld}, fCHAIN_STATUS_PLAN_ERR.Apart 0 g 0 → fCHAIN_STATUS_STEP_WAIT.Apart 0 g 0 → fCHAIN_STATUS_TSTATE.Apart 0 g 0 →
      (s.takeAnnounce f).get g = (s.announced f).get g := fun {g} hp hs ht => by
    rw [hx]
    split
    · rw [State.get_toTstate_apart hs ht, State.get_unflag_apart _ hp]
    · exact State.get_unflag_apart _ hp
  refine ⟨?_, (hu (by decide) (by decide) (by decide)).trans hgen, (hu (by decide) (by decide) (by decide)).trans hlen,
    (hu (by decide) (by decide) (by decide)).trans hok⟩
  have he : (s.takeAnnounce f).get fCHAIN_STATUS_PLAN_ERR = 0 := by
    rw [hx]
    split
    · rw [State.get_toTstate_apart (by decide) (by decide)]
      exact State.get_unflag_same _ (by decide)
    · exact State.get_unflag_same _ (by decide)
  simp [State.is, he]

end

/-- Settles O33: a time exchange keeps its departure (`exec_timeExchangeTimer`), a TIME frame gives the delay (`State.timeFrame_delay`), a
step rebases the timebase (`State.now_rebase`), and an ANNOUNCE acts once it has travelled on (`State.chainRecv_first`). -/
theorem chainTime : Obligations.ChainTime := by
  unfold Obligations.ChainTime
  refine ⟨?exchange, ?time, ?step, ?stepStays, ?announceTimer, ?announceStays, ?otherPlan, ?ownPlan⟩
  case exchange =>
    intro s p dep hc hu hh hp hd
    obtain ⟨t, f, hx, hr, ⟨ht, hs, hl⟩, hport⟩ := exec_timeExchangeTimer (dep := dep) hc hu hh hp hd
    refine ⟨t, hx, by rw [hport], by rw [hport], ?_, hr⟩
    rw [hport]
    simp [ht, hs, hl]
  case time => exact fun s p f crc arr n t2 t3 hc hu hh ht hk hl hm ha hn h3 => exec_time_head hc hu hh ht hk hl hm ha hn h3
  case step => exact fun s th h ht hm hq hl => ⟨_, exec_chainStep h ht hm hq hl, s.stepped_shows _⟩
  case stepStays =>
    intro s h
    change execChainStep s = _
    unfold execChainStep
    cases ht : s.theta? with
    | none => rfl
    | some th => exact if_pos (by simpa [ht] using h)
  case announceTimer =>
    intro s hh
    obtain ⟨f, hf⟩ := s.announce_sent
    refine ⟨_, if_pos hh, s.regs_announce, ?_⟩
    rw [hf.rest]
    rfl
  case announceStays => exact fun s hh => if_neg (ne_true_of_eq_false hh)
  case otherPlan =>
    intro s p f crc hc hu hh ht hk hl ha hd hs hm hw
    have hp := Passed.first s p.val f
    refine ⟨_, exec_announce.trans (State.chainRecv_first hc hu hh ht hk hl (by simpa using ha) (by decide) hd hs), ?_⟩
    rw [State.takeAnnounce_other (hp.isHead.trans hm) (by rwa [hp.words _ (by decide)])]
    exact State.announced_refused _ f
  case ownPlan =>
    intro s p f crc hc hu hh ht hk hl ha hd hs hm hw
    have hp := Passed.first s p.val f
    refine ⟨_, exec_announce.trans (State.chainRecv_first hc hu hh ht hk hl (by simpa using ha) (by decide) hd hs), ?_⟩
    exact State.takeAnnounce_own (hp.isHead.trans hm) (by rwa [hp.words _ (by decide)])

end Sys2Proof.Machine

/-! # Links, enumeration and frames delivered (R417, R424 to R428, R438 to R450) -/

namespace Sys2Proof.Machine

-- one thread at a time: the check holds the whole text in memory
set_option Elab.async false

/-! ### Links that break and heal (R446 to R448) -/

section
variable {s t : State} {g : Fld} {p : Nat} {b : Bool} {l : Nat × Nat}

/-- A field of CHAIN_STATUS that no path's fall changes. -/
def PathBeside (g : Fld) : Prop := fCHAIN_STATUS_STEP_WAIT.Apart 0 g 0 ∧ fCHAIN_STATUS_TSTATE.Apart 0 g 0 ∧ fCHAIN_STATUS_UPSTREAM.Apart 0 g 0 ∧
  ∀ p < 2, fCHAIN_THETA_VALID.Apart p g 0 ∧ fCHAIN_PATH_HOPS.Apart p g 0

theorem State.get_dropPath (hg : PathBeside g) (hp : p < 2) : (s.dropPath p).get g = s.get g := by
  obtain ⟨hw, ht, hu, hpath⟩ := hg
  obtain ⟨hv, hh⟩ := hpath p hp
  have hs : ((s.unflag fCHAIN_THETA_VALID p).put fCHAIN_PATH_HOPS 0x3FF p).get g = s.get g := by
    rw [State.get_put_apart _ _ hh, State.get_unflag_apart _ hv]
  unfold State.dropPath State.showPaths
  dsimp only
  split
  · rw [State.get_toTstate_apart hw ht, State.get_put_apart _ _ hu, hs]
  · rw [State.get_put_apart _ _ hu, hs]

theorem State.broken_toTstate (n : Nat) : (s.toTstate n).chain.broken = s.chain.broken := by
  unfold State.toTstate
  dsimp only
  split <;> rfl

theorem State.broken_dropPath (p : Nat) : (s.dropPath p).chain.broken = s.chain.broken := by
  unfold State.dropPath State.showPaths
  dsimp only
  split
  · exact State.broken_toTstate 4
  · rfl

theorem State.regs_setRingOk : (s.setRingOk b).regs = (s.put fCHAIN_STATUS_RING_OK (b2n b)).regs := by
  unfold State.setRingOk
  dsimp only
  split
  · exact State.regs_announce _
  · rfl

theorem State.broken_setRingOk : (s.setRingOk b).chain.broken = s.chain.broken := by
  unfold State.setRingOk
  dsimp only
  split
  · exact State.broken_announce _
  · rfl

theorem State.heal_setRingOk (p : Nat) : ((s.setRingOk b).port p).heal = (s.port p).heal := by
  unfold State.setRingOk
  dsimp only
  split
  · exact State.heal_announce _ p
  · rfl

/-- The paths that cross a broken link are dropped. -/
def State.dropBroken (s : State) : State := s.forN 2 (fun s p => if s.pathBroken p then s.dropPath p else s)

theorem State.dropBroken_keeps (hg : PathBeside g) : s.dropBroken.get g = s.get g ∧ s.dropBroken.chain.broken = s.chain.broken :=
  List.foldlRecOn (motive := fun u : State => u.get g = s.get g ∧ u.chain.broken = s.chain.broken) _ _ ⟨rfl, rfl⟩ fun u ⟨hu, hb⟩ p hp => by
    split
    · exact ⟨(State.get_dropPath hg (List.mem_range.mp hp)).trans hu, (State.broken_dropPath p).trans hb⟩
    · exact ⟨hu, hb⟩

/-- A link that breaks, before its paths fall. -/
def State.linkBroken (s : State) (l : Nat × Nat) : State :=
  (({ s with chain := { s.chain with broken := s.chain.broken ++ [l] } } : State).flag fCHAIN_STATUS_FAILOVER).setRingOk false

theorem State.breakLink_eq (h : s.chain.broken.contains l = false) : s.breakLink l = (s.linkBroken l).dropBroken :=
  if_neg (ne_true_of_eq_false h)

/-- A link not known as broken is marked. -/
theorem State.breakLink_shows (h : s.chain.broken.contains l = false) : (s.breakLink l).is fCHAIN_STATUS_BREAK_SEEN = s.is fCHAIN_STATUS_BREAK_SEEN ∧
    (s.breakLink l).is fCHAIN_STATUS_FAILOVER = true ∧ (s.breakLink l).is fCHAIN_STATUS_RING_OK = false ∧
    (s.breakLink l).chain.broken = s.chain.broken ++ [l] := by
  obtain ⟨u, hu⟩ : ∃ u : State, u = ({ s with chain := { s.chain with broken := s.chain.broken ++ [l] } } : State).flag fCHAIN_STATUS_FAILOVER :=
    ⟨_, rfl⟩
  have hk (g : Fld) (hg : PathBeside g) : (s.breakLink l).get g = (u.put fCHAIN_STATUS_RING_OK (b2n false)).get g := by
    rw [State.breakLink_eq h, (State.dropBroken_keeps hg).1, State.linkBroken, ← hu, State.get_congr State.regs_setRingOk]
  have hs : PathBeside fCHAIN_STATUS_BREAK_SEEN := by unfold PathBeside; decide
  have hf : PathBeside fCHAIN_STATUS_FAILOVER := by unfold PathBeside; decide
  have hr : PathBeside fCHAIN_STATUS_RING_OK := by unfold PathBeside; decide
  refine ⟨?_, State.is_of_get ?_, ?_, ?_⟩
  · unfold State.is
    rw [hk _ hs, State.get_put_apart _ _ (by decide), hu, State.get_flag_apart _ (by decide)]
    rfl
  · rw [hk _ hf, State.get_put_apart _ _ (by decide), hu]
    exact State.get_flag_same _ (by decide)
  · unfold State.is
    rw [hk _ hr, State.get_put_of_lt _ (by decide) (by decide)]
    rfl
  · rw [State.breakLink_eq h, (State.dropBroken_keeps hf).2, State.linkBroken, State.broken_setRingOk, State.flag_chain]

/-- The one broken link heals. -/
theorem State.healLink_last (h : s.chain.broken = [l]) : (s.healLink l).is fCHAIN_STATUS_FAILOVER = false ∧
    (s.healLink l).is fCHAIN_STATUS_RING_OK = true ∧ (s.healLink l).chain.broken = [] := by
  obtain ⟨u, hu⟩ : ∃ u : State, u = ({ s with chain := { s.chain with broken := s.chain.broken.erase l } } : State) := ⟨_, rfl⟩
  have hb : u.chain.broken = [] := by rw [hu]; simp [h]
  have hx : s.healLink l = (u.unflag fCHAIN_STATUS_FAILOVER).setRingOk true := by
    rw [hu] at hb ⊢
    exact if_pos hb
  rw [hx]
  refine ⟨?_, State.is_of_get ?_, State.broken_setRingOk.trans hb⟩
  · rw [State.is_congr State.regs_setRingOk, State.is_put_apart _ _ (by decide)]
    exact State.is_unflag _ _ _ (by decide)
  · rw [State.get_congr State.regs_setRingOk]
    exact State.get_put_of_lt _ (by decide) (by decide)

theorem State.healLink_keeps (l : Nat × Nat) (p : Nat) : (s.healLink l).chain.broken = s.chain.broken.erase l ∧
    ((s.healLink l).port p).heal = (s.port p).heal := by
  unfold State.healLink
  dsimp only
  split
  · exact ⟨State.broken_setRingOk.trans rfl, (State.heal_setRingOk p).trans rfl⟩
  · exact ⟨rfl, rfl⟩

/-- A hold that is over. -/
theorem exec_healHoldExpiry {p : Fin 2} {n : Nat} (hh : (s.port p.val).heal = some n) (hn : s.get fCHAIN_TT_CFG_HEAL_HOLD ≤ n)
    (hu : s.portUp p.val = true) (hp : p.val < s.chain.ports.length) : ∃ t, exec (.healHoldExpiry p) s = .next t ∧
      (t.port p.val).heal = none ∧ t.chain.broken = s.chain.broken.erase (s.linkAt p.val) := by
  refine ⟨((s.setPort p.val { s.port p.val with heal := none }).sendLink 2 (s.linkAt p.val)).healLink (s.linkAt p.val), ?_, ?_, ?_⟩
  · change execHealHoldExpiry p s = _
    unfold execHealHoldExpiry
    rw [hh]
    exact if_neg (by simp [hu, hn])
  · rw [(State.healLink_keeps _ _).2, State.heal_sendLink, State.port_setPort_same hp]
  · rw [(State.healLink_keeps _ p.val).1, State.broken_sendLink]
    rfl

end

/-! ### Enumeration (R424 to R428) -/

section
variable {s u : State} {n : Nat} {f : ChFrame}

theorem State.walkEnd_shows (h : n < 2 ^ fldWidth fCHAIN_ENUM_CMD_ERR) : (s.walkEnd n).get fCHAIN_ENUM_CMD_ERR = n ∧ (s.walkEnd n).is fCHAIN_ENUM_CMD_BUSY = false ∧
    (s.walkEnd n).chain.walk = none ∧ Only [aCHAIN_ENUM_CMD] s (s.walkEnd n) :=
  ⟨(State.get_unflag_apart _ (by decide)).trans (State.get_put_of_lt _ (by decide) h), State.is_unflag _ _ _ (by decide), rfl,
    Only.rest (t := (s.put fCHAIN_ENUM_CMD_ERR n).unflag fCHAIN_ENUM_CMD_BUSY) (((Only.refl _ s).put).unflag)⟩

/-- BUSY and no error: a walk is asked for. -/
def State.walkAsked (s : State) : State := (s.flag fCHAIN_ENUM_CMD_BUSY).put fCHAIN_ENUM_CMD_ERR 0

theorem Only.walkAsked (s : State) : Only [aCHAIN_ENUM_CMD] s s.walkAsked := ((Only.refl _ s).flag).put

/-- A cable error ends a walk before it starts. -/
theorem State.startWalk_refused (hb : s.is fCHAIN_ENUM_CMD_BUSY = false)
    (hc : s.is fCHAIN_LINK_STATUS_CABLE_ERR 0 = true ∨ s.is fCHAIN_LINK_STATUS_CABLE_ERR 1 = true) : s.startWalk = s.walkAsked.walkEnd 2 := by
  refine (if_neg (ne_true_of_eq_false hb)).trans (if_pos ?_)
  have ho := Only.walkAsked s
  unfold State.walkAsked at ho
  rwa [ho.is (by decide), ho.is (by decide)]

/-- With a port UP and no cable error a walk starts. -/
theorem State.startWalk_runs (hb : s.is fCHAIN_ENUM_CMD_BUSY = false) (h0 : s.is fCHAIN_LINK_STATUS_CABLE_ERR 0 = false)
    (h1 : s.is fCHAIN_LINK_STATUS_CABLE_ERR 1 = false) (hu : s.portUp 0 = true ∨ s.portUp 1 = true) :
    s.startWalk.is fCHAIN_ENUM_CMD_BUSY = true ∧ s.startWalk.get fCHAIN_ENUM_CMD_ERR = 0 ∧ s.startWalk.chain.walk ≠ none := by
  have ho := Only.walkAsked s
  have hups : (List.range 2).filter (fun p => s.walkAsked.portUp p) ≠ [] := by
    obtain ⟨p, hp, hu⟩ : ∃ p < 2, s.walkAsked.portUp p = true := by
      unfold State.portUp at hu ⊢
      rw [← ho.get (by decide), ← ho.get (by decide)] at hu
      exact hu.elim (fun h => ⟨0, by decide, h⟩) fun h => ⟨1, by decide, h⟩
    exact List.ne_nil_of_mem (List.mem_filter.mpr ⟨List.mem_range.mpr hp, hu⟩)
  obtain ⟨v, hv, hw, hr⟩ : ∃ v : State, Sent v s.startWalk ∧ v.chain.walk ≠ none ∧ v.regs = s.walkAsked.regs := by
    have hx : s.startWalk = (if s.walkAsked.is fCHAIN_LINK_STATUS_CABLE_ERR 0 ∨ s.walkAsked.is fCHAIN_LINK_STATUS_CABLE_ERR 1 then _ else _) :=
      if_neg (ne_true_of_eq_false hb)
    rw [hx, if_neg (by rw [ho.is (by decide), ho.is (by decide), h0, h1]; decide)]
    unfold State.walkAsked at hups
    dsimp only
    rw [if_neg hups]
    exact ⟨_, (Sent.refl _).sendBoth, by simp, rfl⟩
  refine ⟨?_, ?_, ?_⟩
  · rw [State.is_congr hv.regs, State.is_congr hr, State.walkAsked, State.is_put_apart _ _ (by decide)]
    exact State.is_flag _ _ _ (by decide)
  · rw [State.get_congr hv.regs, State.get_congr hr]
    exact State.get_put_of_lt _ (by decide) (by decide)
  · rw [hv.rest]
    exact hw

/-- The table and the links of an ASSIGN. -/
def State.assigned (s : State) (ws : List Word) : State :=
  let s := { s with chain := { s.chain with table := (pairs (ws.drop 1)).map (fun e : Word × Word => (getBits e.2 26 10, getBits e.2 16 10)) } }
  if bitOf (ws.getD 0 0) 25 then ({ s with chain := { s.chain with broken := [] } }.unflag fCHAIN_STATUS_FAILOVER).flag fCHAIN_STATUS_RING_OK
  else s.unflag fCHAIN_STATUS_RING_OK

theorem State.sig_assigned (s : State) (ws : List Word) : (s.assigned ws).sig = s.sig := by
  have h : Only [aCHAIN_STATUS] s (s.assigned ws) :=
    Only.ite (((Only.refl _ s).rest.unflag).flag) ((Only.refl _ s).rest.unflag)
  exact h _ (by decide)

/-- The place that an ASSIGN gives. -/
def State.placedAt (s : State) (a pos len : Nat) : State :=
  (((s.put fCHAIN_ADDR_ADDR a).put fCHAIN_ADDR_POS pos).put fCHAIN_ADDR_CHAIN_LEN len).flag fCHAIN_ADDR_PLACED

theorem State.placedAt_shows {a pos len : Nat} (ha : a < 2 ^ 10) (hp : pos < 2 ^ 10) (hl : len < 2 ^ 10) :
    (s.placedAt a pos len).get fCHAIN_ADDR_ADDR = a ∧ (s.placedAt a pos len).get fCHAIN_ADDR_POS = pos ∧
    (s.placedAt a pos len).get fCHAIN_ADDR_CHAIN_LEN = len ∧ (s.placedAt a pos len).is fCHAIN_ADDR_PLACED = true := by
  unfold State.placedAt
  refine ⟨?_, ?_, ?_, State.is_flag _ _ _ (by decide)⟩
  · rw [State.get_flag_apart _ (by decide), State.get_put_apart _ _ (by decide), State.get_put_apart _ _ (by decide)]
    exact State.get_put_of_lt _ (by decide) ha
  · rw [State.get_flag_apart _ (by decide), State.get_put_apart _ _ (by decide)]
    exact State.get_put_of_lt _ (by decide) hp
  · rw [State.get_flag_apart _ (by decide)]
    exact State.get_put_of_lt _ (by decide) hl

/-- An ASSIGN that names this device. -/
theorem State.takeAssign_named {ws : List Word} {e : Word × Word} (h : (pairs (ws.drop 1)).find? (fun e => e.1 == s.sig) = some e) :
    (s.takeAssign ws).get fCHAIN_ADDR_ADDR = getBits e.2 26 10 ∧ (s.takeAssign ws).get fCHAIN_ADDR_POS = getBits e.2 16 10 ∧
    (s.takeAssign ws).get fCHAIN_ADDR_CHAIN_LEN = getBits (ws.getD 0 0) 26 10 ∧ (s.takeAssign ws).is fCHAIN_ADDR_PLACED = true ∧
    (s.takeAssign ws).chain.aonAddr = getBits e.2 26 10 := by
  rw [← s.sig_assigned ws] at h
  obtain ⟨u, hx, hr, hn⟩ : ∃ u : State, s.takeAssign ws = u ∧
      u.regs = ((s.assigned ws).placedAt (getBits e.2 26 10) (getBits e.2 16 10) (getBits (ws.getD 0 0) 26 10)).regs ∧
      u.chain.aonAddr = getBits e.2 26 10 := by
    unfold State.assigned at h ⊢
    unfold State.takeAssign
    dsimp only at h ⊢
    rw [h]
    exact ⟨_, rfl, rfl, rfl⟩
  obtain ⟨ha, hp, hl, hf⟩ := (s.assigned ws).placedAt_shows (getBits_lt e.2 26 10) (getBits_lt e.2 16 10) (getBits_lt (ws.getD 0 0) 26 10)
  rw [hx, State.get_congr hr, State.get_congr hr, State.get_congr hr, State.is_congr hr]
  exact ⟨ha, hp, hl, hf, hn⟩

/-- An ASSIGN that does not name it. -/
theorem State.takeAssign_other {ws : List Word} (h : (pairs (ws.drop 1)).find? (fun e => e.1 == s.sig) = none) :
    (s.takeAssign ws).get fCHAIN_ADDR_ADDR = 0x3FE ∧ (s.takeAssign ws).is fCHAIN_ADDR_PLACED = false := by
  rw [← s.sig_assigned ws] at h
  have hx : s.takeAssign ws = ((s.assigned ws).put fCHAIN_ADDR_ADDR 0x3FE).unflag fCHAIN_ADDR_PLACED := by
    unfold State.assigned at h ⊢
    unfold State.takeAssign
    dsimp only at h ⊢
    rw [h]
  rw [hx]
  exact ⟨(State.get_unflag_apart _ (by decide)).trans (State.get_put_of_lt _ (by decide) (by decide)), State.is_unflag _ _ _ (by decide)⟩

end

section
variable {s : State} {p : Fin 2} {f : ChFrame} {crc : Fin (2 ^ 32)}

theorem exec_break : exec (.break p f crc) s =
    s.chainRecv p.val f crc.val 2 (some 1) (fun u => (u.flag fCHAIN_STATUS_BREAK_SEEN).breakLink (linkOf f)) := rfl

theorem exec_heal : exec (.heal p f crc) s = s.chainRecv p.val f crc.val 2 (some 2) (fun u => u.healLink (linkOf f)) := rfl

theorem exec_join : exec (.join p f crc) s = s.chainRecv p.val f crc.val 2 (some 3) (fun u => if u.isHead then u.startWalk else u) := rfl

theorem exec_assign : exec (.assign p f crc) s = s.chainRecv p.val f crc.val 5 (some 2) (fun u => u.takeAssign f.words) := rfl

end

/-- Settles O34: frames act once they have travelled on (`State.chainRecv_first`): a link breaks (`State.breakLink_shows`) or heals
(`State.healLink_last`), a walk starts (`State.startWalk_runs`), and an ASSIGN places the device it names (`State.takeAssign_named`). That a
WALK going out carries the broadcast address is log entry 56. -/
theorem chainLinksAndEnumeration : Obligations.ChainLinksAndEnumeration := by
  unfold Obligations.ChainLinksAndEnumeration
  refine ⟨?break_, ?heal, ?holdNone, ?holdOn, ?holdOver, ?joinHead, ?joinMember, ?goMember, ?goBusy, ?goCable, ?go, ?walkBad, ?walkOut,
    ?timeout, ?timeoutNone, ?assigned, ?unassigned⟩
  case break_ =>
    intro s p f crc hc hu hh ht hk hl ha hd hs hb
    have hp := Passed.first s p.val f
    refine ⟨_, exec_break.trans (State.chainRecv_first hc hu hh ht hk hl (by simpa using ha) (by decide) hd hs), ?_⟩
    generalize (s.noteFrame f).forwardVia (1 - p.val) f p.val = u at hp
    have hb' : (u.flag fCHAIN_STATUS_BREAK_SEEN).chain.broken = s.chain.broken := by rw [State.flag_chain, hp.chain]
    obtain ⟨hseen, hfail, hok, hbr⟩ := State.breakLink_shows (s := u.flag fCHAIN_STATUS_BREAK_SEEN) (l := linkOf f) (by rw [hb']; exact hb)
    exact ⟨hseen.trans (State.is_flag _ _ _ (by decide)), hfail, hok, by rw [hbr, hb']⟩
  case heal =>
    intro s p f crc hc hu hh ht hk hl ha hd hs hb
    have hp := Passed.first s p.val f
    refine ⟨_, exec_heal.trans (State.chainRecv_first hc hu hh ht hk hl (by simpa using ha) (by decide) hd hs), ?_⟩
    exact State.healLink_last (by rw [hp.chain]; exact hb)
  case holdNone =>
    intro s p h
    change execHealHoldExpiry p s = _
    unfold execHealHoldExpiry
    cases hn : (s.port p.val).heal with
    | none => rfl
    | some n => exact if_pos (.inr (by simpa [hn] using h))
  case holdOn =>
    intro s p n hn hl
    change execHealHoldExpiry p s = _
    unfold execHealHoldExpiry
    rw [hn]
    exact if_pos (.inl hl)
  case holdOver => exact fun s p n hh hn hu hp => exec_healHoldExpiry hh hn hu hp
  case joinHead =>
    intro s p f crc hc hu hh ht hk hl ha hd hs hm hb h0 h1
    have hp := Passed.first s p.val f
    refine ⟨_, exec_join.trans (State.chainRecv_first hc hu hh ht hk hl (by simpa using ha) (by decide) hd hs), ?_⟩
    have hup : s.portUp 0 = true ∨ s.portUp 1 = true := (by decide : ∀ p : Fin 2, p = 0 ∨ p = 1) p |>.imp (fun h => by rwa [h] at hu)
      (fun h => by rwa [h] at hu)
    have hm' := hp.isHead.trans hm
    generalize (s.noteFrame f).forwardVia (1 - p.val) f p.val = u at hp hm'
    obtain ⟨hbusy, -, hwalk⟩ := State.startWalk_runs (s := u) ((hp.words.is (by decide)).trans hb) ((hp.words.is (by decide)).trans h0)
      ((hp.words.is (by decide)).trans h1) (by unfold State.portUp at hup ⊢; rwa [hp.words.get (by decide), hp.words.get (by decide)])
    rw [if_pos hm']
    exact ⟨hbusy, hwalk⟩
  case joinMember =>
    intro s p f crc hc hu hh ht hk hl ha hd hs hm
    have hp := Passed.first s p.val f
    refine (exec_join.trans (State.chainRecv_first hc hu hh ht hk hl (by simpa using ha) (by decide) hd hs)).trans (congrArg Host.Outcome.next ?_)
    refine (if_neg (ne_true_of_eq_false (hp.isHead.trans hm))).trans ?_
    unfold State.forward
    rw [Nat.sub_sub_self (Nat.le_of_lt_succ p.isLt)]
  case goMember => exact fun s hm => congrArg Host.Outcome.next (if_pos (ne_true_of_eq_false hm))
  case goBusy => exact fun s hm hb => congrArg Host.Outcome.next ((if_neg (not_not.mpr hm)).trans (if_pos hb))
  case goCable =>
    intro s hm hb hc
    obtain ⟨herr, hbusy, hwalk, -⟩ := State.walkEnd_shows (s := s.walkAsked) (n := 2) (by decide)
    exact ⟨_, congrArg Host.Outcome.next ((if_neg (not_not.mpr hm)).trans (State.startWalk_refused hb (.inr hc))), herr, hbusy, hwalk⟩
  case go =>
    intro s hm hb h0 h1 hu
    exact ⟨_, congrArg Host.Outcome.next (if_neg (not_not.mpr hm)), State.startWalk_runs hb h0 h1 hu⟩
  case walkBad =>
    intro s p f crc hc hu hh ht ha hk
    refine (if_neg (by simp [hc, hu, ht, ha])).trans <| (if_neg (not_not.mpr hh)).trans <| (if_pos (ne_true_of_eq_false hk)).trans ?_
    exact congrArg Host.Outcome.next (if_pos (.inl (by simp [frPriority, ht])))
  case walkOut =>
    intro s p f crc hc hu hh ht hk hl ha hd hm ho
    have hr : (s.freeBuf (some p.val) f).regs = s.regs := (Sent.refl s).freeBuf.regs
    have hm' : (s.freeBuf (some p.val) f).isHead = false := by
      unfold State.isHead State.chained at hm ⊢
      rwa [State.is_congr hr, State.is_congr hr]
    have hu' : (s.freeBuf (some p.val) f).portUp (1 - p.val) = true := ((Sent.refl s).freeBuf.portUp _).trans ho
    have he : (s.freeBuf (some p.val) f).walkEntry = s.walkEntry := by
      have hn : (s.freeBuf (some p.val) f).chain.aonAddr = s.chain.aonAddr := by rw [(Sent.refl s).freeBuf.rest]
      have hh : (s.freeBuf (some p.val) f).isHead = s.isHead := hm'.trans hm.symm
      have hg : (s.freeBuf (some p.val) f).sig = s.sig := State.word_congr hr _
      unfold State.walkEntry
      rw [hn, hh, hg, State.is_congr hr, State.is_congr hr, State.get_congr hr]
    refine (if_neg (by simp [hc, hu, ht, ha])).trans <| (if_neg (not_not.mpr hh)).trans <| (if_neg (not_not.mpr hk)).trans <|
      (if_neg (not_not.mpr hl)).trans <| (if_neg (by simp [hm'])).trans <| (if_neg (by simp [hd])).trans ?_
    dsimp only
    rw [if_pos hu', he]
  case timeout =>
    intro s hw
    exact ⟨_, if_neg (by simpa using hw), State.walkEnd_shows (by decide)⟩
  case timeoutNone => exact fun s hw => if_pos (by simp [hw])
  case assigned =>
    intro s p f crc e hc hu hh ht hk hl ha hd hs he
    have hp := Passed.first s p.val f
    refine ⟨_, exec_assign.trans (State.chainRecv_first hc hu hh ht hk hl (by simpa using ha) (by decide) hd hs), State.takeAssign_named ?_⟩
    unfold State.sig at he ⊢
    rwa [hp.words _ (by decide)]
  case unassigned =>
    intro s p f crc hc hu hh ht hk hl ha hd hs he
    have hp := Passed.first s p.val f
    refine ⟨_, exec_assign.trans (State.chainRecv_first hc hu hh ht hk hl (by simpa using ha) (by decide) hd hs), State.takeAssign_other ?_⟩
    unfold State.sig at he ⊢
    rwa [hp.words _ (by decide)]

end Sys2Proof.Machine

/-! # Frames delivered, triggers and modules (R417, R422, R438 to R443, R450, R462) -/

namespace Sys2Proof.Machine

-- one thread at a time: the check holds the whole text in memory
set_option Elab.async false

section
variable {s : State} {f : ChFrame}

/-- A REG_WR of consecutive words without ACK writes them. -/
theorem State.performWr_run (hr : bitOf (f.words.getD 0 0) 11 = false) (ha : bitOf (f.words.getD 0 0) 10 = false) :
    s.performWr f = (s.writeRun 4 (getBits (f.words.getD 0 0) 12 24) (f.words.drop 1)).1 := by
  unfold State.performWr
  simp only [hr, ha, Bool.false_eq_true, if_false]
  rfl

theorem State.takeRsp_none (h : s.host.waits.find? (fun x => x.seq == getBits (f.words.getD 0 0) 24 12) = none) : s.takeRsp f = s := by
  unfold State.takeRsp
  dsimp only
  rw [h]

/-- A REG_RSP without an error completes the window read that waits for it. -/
theorem State.takeRsp_read {y : RemoteWait} (h : s.host.waits.find? (fun x => x.seq == getBits (f.words.getD 0 0) 24 12) = some y)
    (hs : getBits (f.words.getD 0 0) 20 4 = 0) (he : y.eth = none) (hw : y.write = false) :
    s.takeRsp f = ({ s with host := { s.host with waits := s.host.waits.erase y } } : State).send
      (.bar (slotHalf y.half ((f.words.drop 1).getD 0 0).toNat)) := by
  unfold State.takeRsp State.remoteDone
  dsimp only
  rw [h]
  simp only [hs, he, hw, if_true, Bool.false_eq_true, if_false]

theorem State.dataIn_mapped (hd : f.arg.testBit 3 = false) (he : s.is fCHAIN_RXMAP_EN (f.arg / 16 % 64) = true) :
    s.dataIn f = (s.packet (s.get fCHAIN_RXMAP_QUEUE (f.arg / 16 % 64)) f.words).1 := by
  simp [State.dataIn, hd, he]

/-! ### Triggers sent (R438, R439) -/

/-- The fields of CHAIN_TRIG_CTRL. -/
def State.trigKept (s : State) (dst dline action group : Nat) : State :=
  (((s.put fCHAIN_TRIG_CTRL_DST dst).put fCHAIN_TRIG_CTRL_DLINE dline).put fCHAIN_TRIG_CTRL_ACTION action).put fCHAIN_TRIG_CTRL_GROUP group

theorem Only.trigKept (s : State) (dst dline action group : Nat) : Only [aCHAIN_TRIG_CTRL] s (s.trigKept dst dline action group) :=
  ((((Only.refl _ s).put).put).put).put

theorem State.trigKept_shows (s : State) (dst : Fin 1024) (dline : Fin 64) (action : Fin 16) (group : Fin 256) :
    (s.trigKept dst.val dline.val action.val group.val).get fCHAIN_TRIG_CTRL_DST = dst.val ∧
    (s.trigKept dst.val dline.val action.val group.val).get fCHAIN_TRIG_CTRL_DLINE = dline.val ∧
    (s.trigKept dst.val dline.val action.val group.val).get fCHAIN_TRIG_CTRL_ACTION = action.val ∧
    (s.trigKept dst.val dline.val action.val group.val).get fCHAIN_TRIG_CTRL_GROUP = group.val := by
  unfold State.trigKept
  refine ⟨?_, ?_, ?_, State.get_put_of_lt _ (by decide) group.isLt⟩
  · rw [State.get_put_apart _ _ (by decide), State.get_put_apart _ _ (by decide), State.get_put_apart _ _ (by decide)]
    exact State.get_put_of_lt _ (by decide) dst.isLt
  · rw [State.get_put_apart _ _ (by decide), State.get_put_apart _ _ (by decide)]
    exact State.get_put_of_lt _ (by decide) dline.isLt
  · rw [State.get_put_apart _ _ (by decide)]
    exact State.get_put_of_lt _ (by decide) action.isLt

theorem exec_chainTrigGo {dst : Fin 1024} {dline : Fin 64} {action : Fin 16} {group : Fin 256} :
    exec (.chainTrigGo dst dline action group) s = .next ((s.trigKept dst.val dline.val action.val group.val).sendTrig dst.val
      (tsOf (s.word aCHAIN_TRIG_LO) (s.word aCHAIN_TRIG_HI)) dline.val action.val group.val) := by
  have ho := Only.trigKept s dst.val dline.val action.val group.val
  rw [← ho aCHAIN_TRIG_LO (by decide), ← ho aCHAIN_TRIG_HI (by decide)]
  rfl

/-! ### Modules (R450) -/

/-- An access as CHAIN_MOD_CTRL keeps it. -/
theorem State.moduleGo_shows {p : Fin 2} (page offset : Fin 256) (w : Bool) :
    (s.moduleGo p.val page.val offset.val w).is fCHAIN_MOD_CTRL_BUSY p.val = true ∧
    (s.moduleGo p.val page.val offset.val w).get fCHAIN_MOD_CTRL_RW p.val = b2n w ∧
    (s.moduleGo p.val page.val offset.val w).get fCHAIN_MOD_CTRL_PAGE p.val = page.val ∧
    (s.moduleGo p.val page.val offset.val w).get fCHAIN_MOD_CTRL_OFFSET p.val = offset.val ∧
    (s.moduleGo p.val page.val offset.val w).get fCHAIN_MOD_CTRL_DATA p.val = s.get fCHAIN_MOD_CTRL_DATA p.val ∧
    Only [aCHAIN_MOD_CTRL + p.val] s (s.moduleGo p.val page.val offset.val w) := by
  obtain ⟨u, hu⟩ : ∃ u : State, u = ((s.put fCHAIN_MOD_CTRL_RW (b2n w) p.val).put fCHAIN_MOD_CTRL_PAGE page.val p.val).put
    fCHAIN_MOD_CTRL_OFFSET offset.val p.val := ⟨_, rfl⟩
  obtain ⟨v, hv, hr⟩ : ∃ v : State, s.moduleGo p.val page.val offset.val w = v.flag fCHAIN_MOD_CTRL_BUSY p.val ∧ v.regs = u.regs := by
    unfold State.moduleGo
    dsimp only
    rw [← hu]
    exact ⟨_, rfl, by split <;> rfl⟩
  have hap {f g : Fld} (h : f.Apart 0 g 0) : f.Apart p.val g p.val := .at_same h p.val
  rw [hv]
  refine ⟨State.is_flag _ _ _ (by decide), ?_, ?_, ?_, ?_, ?_⟩
  · rw [State.get_flag_apart _ (hap (by decide)), State.get_congr hr, hu, State.get_put_apart _ _ (hap (by decide)),
      State.get_put_apart _ _ (hap (by decide))]
    exact State.get_put_of_lt _ (by decide) (by cases w <;> decide)
  · rw [State.get_flag_apart _ (hap (by decide)), State.get_congr hr, hu, State.get_put_apart _ _ (hap (by decide))]
    exact State.get_put_of_lt _ (by decide) page.isLt
  · rw [State.get_flag_apart _ (hap (by decide)), State.get_congr hr, hu]
    exact State.get_put_of_lt _ (by decide) offset.isLt
  · rw [State.get_flag_apart _ (hap (by decide)), State.get_congr hr, hu, State.get_put_apart _ _ (hap (by decide)),
      State.get_put_apart _ _ (hap (by decide)), State.get_put_apart _ _ (hap (by decide))]
  · have ho : Only [aCHAIN_MOD_CTRL + p.val] s u := by
      rw [hu]
      exact (((Only.refl _ s).put (by simp [fCHAIN_MOD_CTRL_RW])).put (by simp [fCHAIN_MOD_CTRL_PAGE])).put (by simp [fCHAIN_MOD_CTRL_OFFSET])
    exact (ho.rest hr).flag (by simp [fCHAIN_MOD_CTRL_BUSY])

end

/-- Settles O35: a frame for this device acts and frees its buffer (`State.chainRecv_here`), a trigger keeps its fields
(`State.trigKept_shows`), and a module access keeps its byte (`State.moduleGo_shows`). -/
theorem chainFramesDelivered : Obligations.ChainFramesDelivered := by
  unfold Obligations.ChainFramesDelivered
  refine ⟨?trig, ?trigAlone, ?trigSelf, ?regWr, ?regRd, ?rspNone, ?rsp, ?data, ?badCrc, ?oddBuffered, ?odd, ?modRead, ?modWrite, ?modDone,
    ?modNack, ?modStays⟩
  case trig =>
    exact fun s p f crc hc hu hh ht hk hl hp hd hb hr =>
      State.chainRecv_here hc hu hh ht hk hl (by decide) hp hd hb (State.bothWays_of_open hr)
  case trigAlone =>
    intro s dst dline action group hc
    have ho := Only.trigKept s dst.val dline.val action.val group.val
    have hx : exec (.chainTrigGo dst dline action group) s = .next (s.trigKept dst.val dline.val action.val group.val) := by
      rw [exec_chainTrigGo]
      exact congrArg Host.Outcome.next (if_pos (.inl (ne_true_of_eq_false ((ho.is (by decide)).trans hc))))
    obtain ⟨h1, h2, h3, h4⟩ := s.trigKept_shows dst dline action group
    exact ⟨_, hx, h1, h2, h3, h4, ho, rfl⟩
  case trigSelf =>
    intro s dst dline action group hc hp hd hb
    have ho := Only.trigKept s dst.val dline.val action.val group.val
    have hc' := (ho.is (f := fCHAIN_CFG_ROLE) (o := 0) (by decide)).trans hc
    have hp' := (ho.is (f := fCHAIN_ADDR_PLACED) (o := 0) (by decide)).trans hp
    have hd' : dst.val = (s.trigKept dst.val dline.val action.val group.val).addr := hd.trans (ho.get (by decide)).symm
    rw [exec_chainTrigGo]
    refine congrArg Host.Outcome.next ((if_neg ?_).trans ((if_neg hb).trans (if_pos hd')))
    rintro (h | h)
    · exact h hc'
    · exact h hp'
  case regWr =>
    intro s p f crc hc hu hh ht hk hl hp hd hb hw hr ha
    rw [← State.performWr_run hr ha]
    exact (if_neg (ne_true_of_eq_false hw)).trans
      (State.chainRecv_here hc hu hh ht hk hl (by decide) hp hd hb (State.bothWays_of_typ (by rw [ht]; decide)))
  case regRd =>
    intro s p f crc hc hu hh ht hk hl hp hd hb hw
    exact (if_neg hb).trans <| (if_neg (ne_true_of_eq_false hw)).trans
      (State.chainRecv_here hc hu hh ht hk hl (by decide) hp hd hb (State.bothWays_of_typ (by rw [ht]; decide)))
  case rspNone =>
    intro s p f crc hc hu hh ht hk hl hp hd hb hn
    refine (State.chainRecv_here hc hu hh ht hk hl (by decide) hp hd hb (State.bothWays_of_typ (by rw [ht]; decide))).trans ?_
    rw [State.takeRsp_none hn]
  case rsp =>
    intro s p f crc y hc hu hh ht hk hl hp hd hb hy hs he hw
    refine (State.chainRecv_here hc hu hh ht hk hl (by decide) hp hd hb (State.bothWays_of_typ (by rw [ht]; decide))).trans ?_
    rw [State.takeRsp_read hy hs he hw]
  case data =>
    intro s p f crc hc hu hh ht hk hl hp hd hb hm he
    change execData p f crc s = _
    unfold execData
    dsimp only
    rw [if_neg fun h => h.1 hk, State.chainRecv_here hc hu hh ht hk hl (by decide) hp hd hb (State.bothWays_of_typ (by rw [ht]; decide)),
      State.dataIn_mapped hm he]
  case badCrc =>
    intro s p f crc hw hc hu hh ht hk
    refine (if_neg (ne_true_of_eq_false hw)).trans <| (State.chainRecv_badCrc hc hu hh ht (by simp) hk).trans (congrArg Host.Outcome.next ?_)
    exact if_pos (.inl (by simp [frPriority, ht]))
  case oddBuffered =>
    exact fun s p f hc hu hl h4 h9 => (if_pos ⟨hc, hu, ne_true_of_eq_false hl⟩).trans (congrArg Host.Outcome.next (if_pos ⟨h4, h9⟩))
  case odd =>
    exact fun s p f hc hu hl h => (if_pos ⟨hc, hu, ne_true_of_eq_false hl⟩).trans (congrArg Host.Outcome.next (if_neg (by omega)))
  case modRead =>
    intro s p page offset
    obtain ⟨hb, hr, hp, hf, -, ho⟩ := s.moduleGo_shows (p := p) page offset false
    exact ⟨_, rfl, hb, hr, hp, hf, ho⟩
  case modWrite =>
    intro s p page offset data
    obtain ⟨hb, hr, hp, hf, hd, ho⟩ := (s.put fCHAIN_MOD_CTRL_DATA data.val p.val).moduleGo_shows (p := p) page offset true
    refine ⟨_, rfl, hb, hr, hp, hf, hd.trans (State.get_put_of_lt _ (by decide) data.isLt), ?_⟩
    exact ((Only.refl _ s).put (by simp [fCHAIN_MOD_CTRL_DATA])).trans ho
  case modDone =>
    intro s p data hb hw
    have hw' : (s.unflag fCHAIN_MOD_CTRL_BUSY p.val).is fCHAIN_MOD_CTRL_RW p.val = false :=
      (State.is_unflag_apart s (.at_same (by decide) p.val)).trans hw
    exact (if_neg (not_not.mpr hb)).trans (congrArg Host.Outcome.next ((if_neg (by decide)).trans (if_neg (ne_true_of_eq_false hw'))))
  case modNack => exact fun s p data hb => (if_neg (not_not.mpr hb)).trans (congrArg Host.Outcome.next (if_pos (by decide)))
  case modStays => exact fun s p data ack hb => if_pos (ne_true_of_eq_false hb)

end Sys2Proof.Machine

/-! # The remote window, push channels, rings and the host's link (R455 to R462, R469) -/

namespace Sys2Proof.Machine

-- one thread at a time: the check holds the whole text in memory
set_option Elab.async false

section
variable {s : State}

/-- A write of the window in a chain, without ACK, originates one REG_WR that nothing waits for. -/
theorem exec_remoteWrite {a : Fin 16777216} {w : Word} (ho : s.pathOpen 0 = true) (hd : s.drafted = true) (hc : s.chained = true)
    (ha : s.is fHOST_REMOTE_ACK = false) :
    exec (.remoteWrite a w true) s = .next (s.originateWr (s.get fHOST_REMOTE_DST) false a.val none [w] (fun _ => none)) := by
  change execRemoteWrite a w true s = _
  unfold execRemoteWrite
  simp only [ho, hd, hc, ha, not_true, or_self, if_false, Bool.false_eq_true]

/-- A window read that has waited longest times out. -/
theorem exec_remoteReadTimeout {u : State} {y : RemoteWait} {rest : List RemoteWait} (hw : s.host.waits = y :: rest) (he : y.eth = none)
    (hr : y.write = false) (hu : s.flowTo (tAdd y.at_ (s.usUp (10 * max 1 (s.get fHOST_REMOTE_TIMEOUT)))) = u) :
    exec .remoteReadTimeout s = .next ((({ u with host := { u.host with waits := rest } } : State).flag fHOST_STATUS_RD_TIMEOUT).send
      (.bar (slotHalf y.half (2 ^ 64 - 1)))) := by
  change execRemoteReadTimeout s = _
  unfold execRemoteReadTimeout State.remoteDone
  rw [hw]
  dsimp only
  rw [hu, he, hr, if_neg Bool.false_ne_true]
  rfl

/-- A word with both marks pushed by an enabled channel to an enabled host queue is a packet. -/
theorem State.channelPush_taken {c : Nat} {w : Word} (hd : s.domOn 5 = true) (hc : s.is fHOST_PUSHQ_EN c = true)
    (he : s.is fBOLT_Q_CFG_EN (s.get fHOST_PUSHQ_QUEUE c) = true) (hp : s.get fBOLT_Q_CFG_PROD (s.get fHOST_PUSHQ_QUEUE c) = 4) :
    s.channelPush c w true true = s.queueWord (s.get fHOST_PUSHQ_QUEUE c) w true true false := by
  simp [State.channelPush, State.pushTo, hd, hc, he, hp]

theorem State.channelPush_refused {c : Nat} {w : Word} {sop eop : Bool} (h : s.is fHOST_PUSHQ_EN c = false ∨ s.domOn 5 = false) :
    s.channelPush c w sop eop = s.flag fHOST_PUSHQ_PUSH_ERR c := if_pos (h.imp ne_true_of_eq_false ne_true_of_eq_false)

/-- What a write of RD keeps and leaves. -/
theorem exec_ringRdWrite (s : State) (n : Fin 64) (rd : Fin (2 ^ 30)) : ∃ t, exec (.ringRdWrite n rd) s = .next t ∧
    t.get fHOST_RING_RD_RD n.val = rd.val ∧ Only [aHOST_RING_RD + n.val, aHOST_RING_WR + n.val] s t := by
  have hg : (s.put fHOST_RING_RD_RD rd.val n.val).get fHOST_RING_RD_RD n.val = rd.val := State.get_put_of_lt _ (by decide) rd.isLt
  have ho : Only [aHOST_RING_RD + n.val, aHOST_RING_WR + n.val] s (s.put fHOST_RING_RD_RD rd.val n.val) :=
    (Only.refl _ s).put (by simp [fHOST_RING_RD_RD])
  refine ⟨_, rfl, ?_, ho.when (·.unflag (by simp [fHOST_RING_WR_FULL_WAIT]))⟩
  split
  · exact (State.get_unflag_apart _ (.at_same (by decide) n.val)).trans hg
  · exact hg

/-- A port that trains shows its link. -/
theorem exec_hostLinkTrained {gen : Fin 6} (hu : s.hostUp = false) (hl : s.islandHeld 7 = false) (he : s.ethPers = false)
    (hp : s.host.perst = true) (hr : s.host.redo = none) : ∃ t, exec (.hostLinkTrained gen) s = .next t ∧
      t.is fHOST_STATUS_LINK_UP = true ∧ Only [aHOST_STATUS] s t ∧ RegsOnly s t := by
  obtain ⟨g, hx⟩ : ∃ g, exec (.hostLinkTrained gen) s = .next ((s.flag fHOST_STATUS_LINK_UP).put fHOST_STATUS_GEN g) := by
    change ∃ g, execHostLinkTrained gen s = _
    unfold execHostLinkTrained
    dsimp only
    rw [if_neg (by simp [hu, hl, he, hp])]
    rw [State.put_host, State.flag_host, hr]
    exact ⟨_, rfl⟩
  exact ⟨_, hx, (State.is_put_apart _ _ (by decide)).trans (State.is_flag _ _ _ (by decide)), ((Only.refl _ s).flag).put,
    (RegsOnly.flag ..).trans (.put ..)⟩

theorem State.hostDown_shows (s : State) : s.hostDown.is fHOST_STATUS_LINK_UP = false ∧ s.hostDown.get fHOST_STATUS_GEN = 0 ∧
    Only [aHOST_STATUS] s s.hostDown :=
  ⟨(State.is_put_apart _ _ (by decide)).trans (State.is_unflag _ _ _ (by decide)), State.get_put_of_lt _ (by decide) (by decide),
    ((Only.refl _ s).unflag).put⟩

end

/-- Settles O37: each command is its function under its guard. Which access times out, and when, is log entry 60; that a path needs its
personality, its link and a draft is log entry 61. -/
theorem remoteWindowAndPushes : Obligations.RemoteWindowAndPushes := by
  unfold Obligations.RemoteWindowAndPushes
  refine ⟨?writeAlone, ?write, ?writeOdd, ?writeShut, ?readFails, ?read, ?readOdd, ?readShut, ?timeout, ?timeoutNone, ?pushErr, ?push,
    ?pushOdd, ?ringRd, ?irq, ?irqNone, ?trained, ?trainedStays, ?down, ?downStays, ?perstHigh, ?perstLow⟩
  case writeAlone =>
    exact fun s a w ho hd hc => (if_neg (by simp [ho, hd])).trans <| (if_neg (by decide)).trans (if_pos (ne_true_of_eq_false hc))
  case write => exact fun s a w ho hd hc ha => exec_remoteWrite ho hd hc ha
  case writeOdd => exact fun s a w ho hd => (if_neg (by simp [ho, hd])).trans (if_pos (by decide))
  case writeShut => exact fun s a w whole h => if_pos (h.imp ne_true_of_eq_false ne_true_of_eq_false)
  case readFails =>
    exact fun s a size ho hd h3 h =>
      (if_neg (by simp [ho, hd])).trans <| (if_neg h3).trans (if_pos (h.imp_left ne_true_of_eq_false))
  case read =>
    exact fun s a size ho hd h3 hc hn =>
      (if_neg (by simp [ho, hd])).trans <| (if_neg h3).trans (if_neg fun h => h.elim (· hc) (Nat.not_le.mpr hn))
  case readOdd => exact fun s a ho hd => (if_neg (by simp [ho, hd])).trans (if_pos rfl)
  case readShut => exact fun s a size h => if_pos (h.imp ne_true_of_eq_false ne_true_of_eq_false)
  case timeout => exact fun s y rest u hw he hr hu => exec_remoteReadTimeout hw he hr hu
  case timeoutNone =>
    intro s hw
    change execRemoteReadTimeout s = _
    unfold execRemoteReadTimeout
    rw [hw]
    rfl
  case pushErr =>
    exact fun s c j w hu hl hd h =>
      (if_neg (by simp [hu, hl, hd])).trans <| (if_neg (by decide)).trans (congrArg Host.Outcome.next (State.channelPush_refused h))
  case push =>
    exact fun s c w hu hl hd hb hc he hp =>
      (if_neg (by simp [hu, hl, hd])).trans <| (if_neg (by decide)).trans (congrArg Host.Outcome.next (State.channelPush_taken hb hc he hp))
  case pushOdd => exact fun s c j w hu hl hd => (if_neg (by simp [hu, hl, hd])).trans (if_pos (by decide))
  case ringRd => exact exec_ringRdWrite
  case irq =>
    intro s n k hk hm
    change execRingInterruptTimer n s = _
    unfold execRingInterruptTimer
    rw [hk]
    exact if_neg hm
  case irqNone =>
    intro s n h
    change execRingInterruptTimer n s = _
    unfold execRingInterruptTimer
    cases hk : (s.ringSt n.val).first with
    | none => rfl
    | some k => exact if_pos (h.resolve_left (by simp [hk]))
  case trained => exact fun s gen hu hl he hp hr => exec_hostLinkTrained hu hl he hp hr
  case trainedStays => exact fun s gen hu => if_pos (.inl hu)
  case down => exact fun s hu => (if_neg (not_not.mpr hu)).trans (if_pos (.inl (by decide)))
  case downStays => exact fun s busy hu => if_pos (ne_true_of_eq_false hu)
  case perstHigh => exact fun s => congrArg Host.Outcome.next (if_pos (.inl rfl))
  case perstLow =>
    intro s he
    obtain ⟨hup, hgen, ho⟩ := State.hostDown_shows { s with host := { s.host with perst := false } }
    have hn : ¬ ((false : Bool) = true ∨ ({ s with host := { s.host with perst := false } } : State).ethPers = true) :=
      fun h => h.elim (by decide) (ne_true_of_eq_false he)
    exact ⟨_, congrArg Host.Outcome.next (if_neg hn), rfl, hup, hgen, (Only.refl _ s).rest.trans ho⟩

end Sys2Proof.Machine

/-! # The management processor: resets, the watchdog, boots and image writes (R512 to R517, R528, R538) -/

namespace Sys2Proof.Machine

-- one thread at a time: the check holds the whole text in memory
set_option Elab.async false

/-! ### A MGMT reset (R528) -/

/-- The words of the mailbox and the watchdog that a MGMT reset returns to their reset words. -/
def mailboxWords : List Nat := [aMGMT_MBX_CMD, aMGMT_WDT] ++ (List.range 17).map (aMGMT_MBX_ARG + ·)

/-- The words that a MGMT reset may change before it shows itself in MGMT_STATUS and MGMT_ERR. -/
def mgmtCutWords : List Nat := [aMGMT_CKPT, aMGMT_CALSET, aMGMT_FW_CTRL] ++ maintWords ++ mailboxWords

section
variable {ws : List Nat} {s t : State}

theorem mem_mailboxWords {a : Nat} (h : (a == aMGMT_MBX_CMD || a == aMGMT_WDT ||
    (decide (aMGMT_MBX_ARG ≤ a) && decide (a < aMGMT_MBX_DATA + 8))) = true) : a ∈ mailboxWords := by
  simp only [Bool.or_eq_true, Bool.and_eq_true, beq_iff_eq, decide_eq_true_eq] at h
  rcases h with (rfl | rfl) | ⟨hl, hh⟩
  · decide
  · decide
  · refine List.mem_append_right _ (List.mem_map.mpr ⟨a - aMGMT_MBX_ARG, List.mem_range.mpr ?_, ?_⟩)
    · unfold aMGMT_MBX_ARG aMGMT_MBX_DATA at *
      omega
    · omega

theorem Only.mgmtRegs (h : Only ws s t) (hw : mailboxWords ⊆ ws := by decide) : Only ws s t.mgmtRegs := by
  refine h.trans fun a ha => congrArg (·.getD (regReset a)) (RegMap.find_filter fun w => ?_)
  exact Bool.not_eq_true' _ ▸ Bool.eq_false_of_not_eq_true fun hm => ha (hw (mem_mailboxWords hm))

theorem Only.fwEnd (h : Only ws s t) {r : Nat} (ha : aMGMT_FW_CTRL ∈ ws := by decide) : Only ws s (t.fwEnd r) := (h.put ha).put ha

/-- A MGMT reset ends what MGMT was doing, in a state `u`, and then shows its cause and RESETTING. -/
theorem State.mgmtReset_eq (s : State) (cause : Nat) : ∃ u : State, Only mgmtCutWords s u ∧ u.mgmt.wdt = 0 ∧ u.mgmt.mbx = none ∧
    u.mgmt.claims = 0 ∧ s.mgmtReset cause =
      (((u.unflag fMGMT_STATUS_FW_FALLBACK).put fMGMT_STATUS_RESET_CAUSE cause).put fMGMT_STATUS_FW_STATE 3).bump fMGMT_ERR_MGMT_RESETS := by
  refine ⟨_, ?words, ?_, ?_, ?_, rfl⟩
  case words =>
    refine ((Only.rest (t := State.mgmtRegs _) (Only.mgmtRegs ?_)).when fun h => h.flag.put.put)
    refine Only.foldl ?_ fun _ hu => hu.release
    exact Only.when (Only.when (Only.when (Only.refl _ s) (·.unflag.flag.put)) (·.unflag.flag.put)) (·.fwEnd.release)
  all_goals split <;> simp [State.setMgmt]

/-- How a MGMT reset shows. -/
theorem State.mgmtReset_shows (s : State) {cause : Nat} (hc : cause < 16) : (s.mgmtReset cause).fwState = 3 ∧
    (s.mgmtReset cause).get fMGMT_STATUS_RESET_CAUSE = cause ∧ (s.mgmtReset cause).mgmt.wdt = 0 ∧ (s.mgmtReset cause).mgmt.mbx = none ∧
    (s.mgmtReset cause).mgmt.claims = 0 := by
  obtain ⟨u, -, hw, hm, hc', he⟩ := s.mgmtReset_eq cause
  rw [he]
  refine ⟨?_, ?_, by simp [hw], by simp [hm], by simp [hc']⟩
  · unfold State.fwState
    rw [State.get_bump_apart _ 1 (by decide), State.get_put_of_lt _ (by decide) (by decide)]
  · rw [State.get_bump_apart _ 1 (by decide), State.get_put_apart _ _ (by decide), State.get_put_of_lt _ (by decide) hc]

/-- A MGMT reset leaves every field apart from those it shows itself in and from what it cuts short. -/
theorem State.is_mgmtReset (s : State) {cause : Nat} {f : Fld} {o : Nat} (hw : f.base + o ∉ aMGMT_STATUS :: mgmtCutWords)
    (ha : fMGMT_ERR_MGMT_RESETS.Apart 0 f o) : (s.mgmtReset cause).is f o = s.is f o := by
  obtain ⟨u, hu, -, -, -, he⟩ := s.mgmtReset_eq cause
  have ho : Only (aMGMT_STATUS :: mgmtCutWords) s
      (((u.unflag fMGMT_STATUS_FW_FALLBACK).put fMGMT_STATUS_RESET_CAUSE cause).put fMGMT_STATUS_FW_STATE 3) :=
    ((Only.unflag (hu.mono (List.subset_cons_self ..)) (by decide)).put (by decide)).put (by decide)
  rw [he, State.is_bump_apart _ 1 ha, ho.is hw]

theorem State.is_report (s : State) {cls unit sub : Nat} {f : Fld} {o : Nat} : (s.report cls unit sub).is f o = s.is f o :=
  State.is_congr rfl f o

theorem State.is_reportMem (s : State) {sub : Nat} {f : Fld} {o : Nat} : (s.reportMem sub).is f o = s.is f o := State.is_congr rfl f o

/-! ### Image writes (R515, R516) -/

@[simp] theorem State.erased_mgmt (s : State) (sec : Nat) : (s.erased sec).mgmt = s.mgmt := rfl

@[simp] theorem State.erasedAll_mgmt (s : State) (secs : List Nat) : (s.erasedAll secs).mgmt = s.mgmt :=
  List.foldlRecOn (motive := fun t : State => t.mgmt = s.mgmt) secs State.erased rfl fun t h sec _ => (t.erased_mgmt sec).trans h

@[simp] theorem State.fwEnd_mgmt (s : State) (r : Nat) : (s.fwEnd r).mgmt = s.mgmt := rfl

@[simp] theorem State.fwEnd_bobbin (s : State) (r : Nat) : (s.fwEnd r).bobbin = s.bobbin := rfl

/-- How the end of an image write shows. -/
theorem State.fwEnd_shows (s : State) {r : Nat} (hr : r < 16) :
    (s.fwEnd r).get fMGMT_FW_CTRL_STATE = 0 ∧ (s.fwEnd r).get fMGMT_FW_CTRL_RESULT = r :=
  ⟨(State.get_put_apart _ _ (by decide)).trans (State.get_put_of_lt _ (by decide) (by decide)), State.get_put_of_lt _ (by decide) hr⟩

@[simp] theorem State.ageRecord_fw (s : State) : s.ageRecord.bobbin.fw = s.bobbin.fw := by
  unfold State.ageRecord
  dsimp only
  split <;> rfl

theorem imageCheck_lt (bs : List Nat) : imageCheck bs < 16 := by
  unfold imageCheck
  dsimp only
  split
  · decide
  · split <;> decide

theorem exec_fwWriteDone_failed (ok : Bool) (hs : s.get fMGMT_FW_CTRL_STATE = 2) (hc : imageCheck s.mgmt.image ≠ 1) :
    exec (.fwWriteDone ok) s = .next (s.fwEnd (imageCheck s.mgmt.image)).ageRecord :=
  (if_neg (not_not.mpr hs)).trans (if_pos hc)

theorem exec_fwWriteDone_unread (hs : s.get fMGMT_FW_CTRL_STATE = 2) (hc : imageCheck s.mgmt.image = 1) :
    exec (.fwWriteDone false) s = .next (s.fwEnd 7).ageRecord :=
  (if_neg (not_not.mpr hs)).trans <| (if_neg (not_not.mpr hc)).trans (if_pos (by decide))

/-- An image that passes and is read back is written to its slot. -/
theorem exec_fwWriteDone_written (hs : s.get fMGMT_FW_CTRL_STATE = 2) (hc : imageCheck s.mgmt.image = 1) : ∃ (u : State) (seq : Nat),
    u.bobbin.fw = s.bobbin.fw.set (s.get fMGMT_FW_CTRL_SLOT) (some ⟨seq, s.mgmt.image, true⟩) ∧
    exec (.fwWriteDone true) s = .next ((u.fwEnd 1).put fMGMT_STATUS_FW_AVOID 0).ageRecord :=
  ⟨_, _, rfl, (if_neg (not_not.mpr hs)).trans <| (if_neg (not_not.mpr hc)).trans (if_neg (by decide))⟩

/-- However a write of image bytes goes on, the image is the one received. -/
theorem State.fwReceived_image (u : State) {c d : Prop} {_ : Decidable c} {_ : Decidable d} {bs : List Nat} (h : u.mgmt.image = bs) :
    (if c then u.fwEnd 3 else if d then u.put fMGMT_FW_CTRL_STATE 2 else u).mgmt.image = bs := by
  split_ifs <;> exact h

/-- Bytes of an image that arrive join it. -/
theorem exec_fwData_receiving (w : Word) (hs : s.get fMGMT_FW_CTRL_STATE = 1) : ∃ t, exec (.fwData w) s = .next t ∧
    t.mgmt.image = s.mgmt.image ++ [getBits w 0 8, getBits w 8 8, getBits w 16 8, getBits w 24 8] := by
  change ∃ t, execFwData w s = .next t ∧ _
  unfold execFwData
  rw [if_neg (not_not.mpr hs)]
  exact ⟨_, rfl, State.fwReceived_image _ ((congrArg MgmtSt.image (State.erasedAll_mgmt ..)).trans rfl)⟩

/-! ### Boots (R515, R517) -/

theorem State.boot_bare (s : State) (h : s.is fMGMT_CFG_FW_EN = false ∨ (s.get fMGMT_STATUS_FW_AVOID = 0 ∧ s.newestImage = none)) :
    s.boot = s.put fMGMT_STATUS_FW_STATE 0 := by
  unfold State.boot
  dsimp only
  rcases h with he | ⟨ha, hn⟩
  · exact if_pos (ne_true_of_eq_false he)
  · simp [ha, hn]

theorem State.boot_newest {i : Nat} (he : s.is fMGMT_CFG_FW_EN = true) (ha : s.get fMGMT_STATUS_FW_AVOID = 0) (hn : s.newestImage = some i)
    (hf : s.get fMGMT_STATUS_BOOT_FAILS < 3) : s.boot = s.loadImage i := by
  unfold State.boot
  dsimp only
  rw [ha, hn, if_neg (not_not.mpr he), if_neg (by decide)]
  exact if_pos hf

/-- How an image that loads shows. -/
theorem State.loadImage_shows (s : State) (i : Nat) (hf : s.get fMGMT_STATUS_BOOT_FAILS < 3) : (s.loadImage i).fwState = 2 ∧
    (s.loadImage i).get fMGMT_STATUS_FW_SLOT = i % 2 ∧ (s.loadImage i).get fMGMT_STATUS_BOOT_FAILS = s.get fMGMT_STATUS_BOOT_FAILS + 1 ∧
    Only [aMGMT_STATUS] s (s.loadImage i) ∧ RegsOnly s (s.loadImage i) := by
  refine ⟨?_, ?_, ?_, ((Only.refl _ s).put.put).put, (RegsOnly.put ..).trans ((RegsOnly.put ..).trans (.put ..))⟩
  · unfold State.fwState State.loadImage
    simp (disch := decide) [State.get_put_apart, State.get_put_of_lt]
  · unfold State.loadImage
    rw [State.get_put_apart _ _ (by decide), State.get_put_same _ _ _ _ (by decide)]
    rfl
  · unfold State.loadImage
    dsimp only
    have hl : min 3 (s.get fMGMT_STATUS_BOOT_FAILS + 1) < 2 ^ fldWidth fMGMT_STATUS_BOOT_FAILS :=
      lt_of_le_of_lt (Nat.min_le_left ..) (by decide)
    have hk : ((s.put fMGMT_STATUS_FW_STATE 2).put fMGMT_STATUS_FW_SLOT i).get fMGMT_STATUS_BOOT_FAILS =
        s.get fMGMT_STATUS_BOOT_FAILS := (State.get_put_apart _ _ (by decide)).trans (State.get_put_apart _ _ (by decide))
    rw [hk, State.get_put_of_lt _ (by decide) hl]
    exact Nat.min_eq_right hf

theorem exec_mgmtReset_boots (h3 : s.fwState = 3) (hr : s.restoreHold = false ∨ s.is fMGMT_RESTORE_RESTORE_DONE = true) :
    exec .mgmtReset s = .next s.boot :=
  (if_neg (not_not.mpr h3)).trans (congrArg Host.Outcome.next
    (if_neg fun h => hr.elim (fun hf => Bool.false_ne_true (hf.symm.trans h.1)) (fun hd => h.2 hd)))

end

/-- Settles O41: every cause of a reset ends in `State.mgmtReset`, which shows as `State.mgmtReset_shows` says, and a boot is the choice of
`State.boot`. That the reset is one step without LOADING, and that EXPIRED outlives it, is log entry 76; that FW_DATA outside RECEIVING is
ignored is log entry 77. -/
theorem mgmtProcessor : Obligations.MgmtProcessor := by
  unfold Obligations.MgmtProcessor
  refine ⟨?lockstep, ?dbe, ?expiry, ?expiryNone, ?reboot, ?bare, ?load, ?again, ?notResetting, ?kickBlocked, ?kick, ?bootOk, ?beginRefused,
    ?begin_, ?abort, ?abortNone, ?dataNone, ?data, ?failed, ?unread, ?written, ?writeNone, ?scrub, ?scrubDbe, ?scrubTable, ?weft⟩
  case lockstep =>
    intro s
    obtain ⟨h3, hc, -, hm, hcl⟩ := ((s.flag fMGMT_ERR_LOCKSTEP).report 17 0 0).mgmtReset_shows (cause := 2) (by decide)
    refine ⟨_, rfl, h3, hc, ?_, hcl, hm⟩
    rw [State.is_mgmtReset _ (by decide) (by decide), State.is_report, State.is_flag _ _ _ (by decide)]
  case dbe =>
    intro s data
    obtain ⟨h3, hc, -, hm, -⟩ := ((s.flag fMGMT_ERR_DBE).reportMem (if data then 3 else 2)).mgmtReset_shows (cause := 3) (by decide)
    refine ⟨_, rfl, h3, hc, ?_, hm⟩
    rw [State.is_mgmtReset _ (by decide) (by decide), State.is_reportMem, State.is_flag _ _ _ (by decide)]
  case expiry =>
    intro s h2 he hp
    obtain ⟨h3, hc, hw, -, -⟩ := (s.report 18 0 0).mgmtReset_shows (cause := 4) (by decide)
    have hx : exec .watchdogExpiry s = .next (((s.report 18 0 0).mgmtReset 4).flag fMGMT_WDT_EXPIRED) :=
      if_neg fun h => h.elim (· h2) (·.elim (· he) (Nat.not_lt.mpr hp))
    exact ⟨_, hx, (State.get_flag_apart _ (by decide)).trans h3, (State.get_flag_apart _ (by decide)).trans hc,
      State.is_flag _ _ _ (by decide), (congrArg MgmtSt.wdt (State.flag_mgmt ..)).trans hw⟩
  case expiryNone => exact fun s h => if_pos (h.imp_right (·.imp_left ne_true_of_eq_false))
  case reboot =>
    intro s
    obtain ⟨h3, hc, -, hm, -⟩ := s.mgmtReset_shows (cause := 5) (by decide)
    exact ⟨_, rfl, h3, hc, hm⟩
  case bare => exact fun s h3 hr hb => (exec_mgmtReset_boots h3 hr).trans (congrArg _ (s.boot_bare hb))
  case load =>
    exact fun s i h3 hr he ha hn hf =>
      ⟨_, (exec_mgmtReset_boots h3 hr).trans (congrArg _ (State.boot_newest he ha hn hf)), s.loadImage_shows i hf⟩
  case again =>
    exact fun s h3 hh hd => (if_neg (not_not.mpr h3)).trans (congrArg Host.Outcome.next (if_pos ⟨hh, ne_true_of_eq_false hd⟩))
  case notResetting => exact fun s h => if_pos h
  case kickBlocked => exact fun s h => congrArg Host.Outcome.next (if_pos h)
  case kick => exact fun s h => congrArg Host.Outcome.next (if_neg (ne_true_of_eq_false h))
  case bootOk => exact fun s => rfl
  case beginRefused => exact fun s h => if_pos (ne_true_of_eq_false h)
  case begin_ =>
    intro s h
    refine ⟨_, if_neg (not_not.mpr h), ?_, ?_, ?_, rfl, rfl, ?_⟩
    · simp (disch := decide) [State.get_put_apart, State.get_put_of_lt]
    · simp (disch := decide) [State.get_put_apart, State.get_put_of_lt]
    · exact State.get_put_of_lt _ (by decide) (by decide)
    · exact (((Only.of_regs rfl).put.put).put).put
  case abort => exact fun s h => congrArg Host.Outcome.next (if_neg h)
  case abortNone => exact fun s h => congrArg Host.Outcome.next (if_pos h)
  case dataNone => exact fun s w h => if_pos h
  case data => exact fun s w h => exec_fwData_receiving w h
  case failed =>
    intro s ok h2 hc
    obtain ⟨h0, hr⟩ := s.fwEnd_shows (imageCheck_lt s.mgmt.image)
    exact ⟨_, exec_fwWriteDone_failed ok h2 hc, (State.get_ageRecord _ (by decide)).trans h0, (State.get_ageRecord _ (by decide)).trans hr,
      State.ageRecord_fw _⟩
  case unread =>
    intro s h2 hc
    obtain ⟨h0, hr⟩ := s.fwEnd_shows (r := 7) (by decide)
    exact ⟨_, exec_fwWriteDone_unread h2 hc, (State.get_ageRecord _ (by decide)).trans h0, (State.get_ageRecord _ (by decide)).trans hr,
      State.ageRecord_fw _⟩
  case written =>
    intro s h2 hc hi
    obtain ⟨u, seq, hf, hx⟩ := exec_fwWriteDone_written h2 hc
    obtain ⟨h0, hr⟩ := u.fwEnd_shows (r := 1) (by decide)
    refine ⟨_, hx, ?_, ?_, ?_, ?_⟩
    · rw [State.get_ageRecord _ (by decide), State.get_put_apart _ _ (by decide), h0]
    · rw [State.get_ageRecord _ (by decide), State.get_put_apart _ _ (by decide), hr]
    · rw [State.get_ageRecord _ (by decide), State.get_put_of_lt _ (by decide) (by decide)]
    · rw [State.ageRecord_fw, State.put_bobbin, State.fwEnd_bobbin, hf]
      simp [hi]
  case writeNone => exact fun s ok h => if_pos h
  case scrub => exact fun s sbe => rfl
  case scrubDbe =>
    intro s sbe i hi
    obtain ⟨h3, hc, -, -, -⟩ := (((s.bump fMGMT_ERR_SBE_COUNT 0 sbe).flag fMGMT_ERR_DBE).reportMem (2 + i.val)).mgmtReset_shows
      (cause := 3) (by decide)
    refine ⟨_, congrArg Host.Outcome.next (if_neg hi), h3, hc, ?_⟩
    rw [State.is_mgmtReset _ (by decide) (by decide), State.is_reportMem, State.is_flag _ _ _ (by decide)]
  case scrubTable => exact fun s sbe i hi => congrArg Host.Outcome.next (if_pos hi)
  case weft => exact fun s => rfl

end Sys2Proof.Machine

/-! # The mailbox of firmware (R519 to R521, R525, R527, R597) -/

namespace Sys2Proof.Machine

-- one thread at a time: the check holds the whole text in memory
set_option Elab.async false

theorem State.forN_succ (s : State) (n : Nat) (g : State → Nat → State) : s.forN (n + 1) g = g (s.forN n g) n := by
  simp [State.forN, List.range_succ]

section
variable {s t : State}

/-! ### A release gives back what its activity wrote (R507) -/

theorem Fld.apart_owner {f : Fld} {o r : Nat} (h : f.base + o < aMAINT_OWNER) : f.Apart o fMAINT_OWNER_WRITER r :=
  .inl (Nat.ne_of_gt (lt_of_lt_of_le h (Nat.le_add_right ..)))

theorem State.get_resDrop_writer_same (s : State) {act r : Nat} : (s.resDrop act r).get fMAINT_OWNER_WRITER r =
    if s.get fMAINT_OWNER_WRITER r = act then 0 else s.get fMAINT_OWNER_WRITER r := by
  unfold State.resDrop State.resShow
  dsimp only
  rw [State.get_putBit_apart _ (Fld.apart_owner (by decide)),
    State.get_putBit_apart _ (.at_same (by decide) r)]
  split
  · exact State.get_put_of_lt _ (by decide) (by decide)
  · rfl

theorem State.get_resDrop_writer_ne (s : State) {act r q : Nat} (h : q ≠ r) :
    (s.resDrop act r).get fMAINT_OWNER_WRITER q = s.get fMAINT_OWNER_WRITER q :=
  ((Only.refl [aMAINT_OWNER + r, aMAINT_HELD] s).resDrop (by simp) (by simp)).get (by
    unfold fMAINT_OWNER_WRITER aMAINT_HELD aMAINT_OWNER
    simp
    omega)

/-- A resource that its activity writes is free of a writer after the release. -/
theorem State.get_release_writer {act r : Nat} (hr : r < 32) (h : s.get fMAINT_OWNER_WRITER r = act) :
    (s.release act).get fMAINT_OWNER_WRITER r = 0 := by
  have hn : ∀ n, (s.forN n fun s r => s.resDrop act r).get fMAINT_OWNER_WRITER r = if r < n then 0 else act := by
    intro n
    induction n with
    | zero => exact h
    | succ n ih =>
      rw [State.forN_succ]
      by_cases hq : r = n
      · subst hq
        rw [State.get_resDrop_writer_same, ih, if_neg (lt_irrefl r), if_pos rfl, if_pos (Nat.lt_succ_self r)]
      · rw [State.get_resDrop_writer_ne _ hq, ih]
        congr 1
        exact propext (by omega)
  unfold State.release
  rw [State.get_putBit_apart _ (Fld.apart_owner (by decide)), hn, if_pos hr]

/-! ### An answer (R519, R520) -/

/-- The words of an answer. -/
def answerWords : List Nat := aMGMT_MBX_RSP :: (List.range 8).map (aMGMT_MBX_DATA + ·)

theorem State.word_forN_setWord (s : State) {a : Nat} {g : Nat → Word} {n i : Nat} (hi : i < n) :
    (s.forN n fun s i => s.setWord (a + i) (g i)).word (a + i) = g i := by
  induction n with
  | zero => exact absurd hi (Nat.not_lt_zero i)
  | succ n ih =>
    rw [State.forN_succ]
    by_cases hn : i = n
    · rw [hn, State.word_setWord_same]
    · rw [State.word_setWord_ne _ _ (by omega), ih (by omega)]

/-- An answer changes its own words alone. -/
theorem Only.mbxAnswer {ws : List Nat} {st : Nat} {xs : List Word} (h : Only ws s t) (hw : answerWords ⊆ ws) :
    Only ws s (t.mbxAnswer st xs) := by
  have hr : aMGMT_MBX_RSP ∈ ws := hw (by decide)
  refine Only.rest (Only.foldl ((((h.flag hr).put hr).put hr).put hr) fun hx hu => hu.setWord (hw ?_))
  exact List.mem_cons_of_mem _ (List.mem_map_of_mem (List.mem_range.mpr
    (lt_of_lt_of_le (List.mem_range.mp hx) (Nat.min_le_left ..))))

/-- The head of an answer, before its words. -/
def State.answerHead (s : State) (st n : Nat) : State :=
  (((s.flag fMGMT_MBX_RSP_DONE).put fMGMT_MBX_RSP_TAG (s.get fMGMT_MBX_CMD_TAG)).put fMGMT_MBX_RSP_STATUS st).put fMGMT_MBX_RSP_DCOUNT n

theorem State.answerHead_shows (s : State) {st n : Nat} (hs : st < 16) (hn : n < 16) : (s.answerHead st n).is fMGMT_MBX_RSP_DONE = true ∧
    (s.answerHead st n).get fMGMT_MBX_RSP_STATUS = st ∧ (s.answerHead st n).get fMGMT_MBX_RSP_TAG = s.get fMGMT_MBX_CMD_TAG ∧
    (s.answerHead st n).get fMGMT_MBX_RSP_DCOUNT = n := by
  unfold State.answerHead
  refine ⟨?_, ?_, ?_, State.get_put_of_lt _ (by decide) hn⟩
  · rw [State.is_put_apart _ _ (by decide), State.is_put_apart _ _ (by decide), State.is_put_apart _ _ (by decide),
      State.is_flag _ _ _ (by decide)]
  · rw [State.get_put_apart _ _ (by decide), State.get_put_of_lt _ (by decide) hs]
  · have ht : s.get fMGMT_MBX_CMD_TAG < 2 ^ fldWidth fMGMT_MBX_RSP_TAG := State.get_lt ..
    rw [State.get_put_apart _ _ (by decide), State.get_put_apart _ _ (by decide), State.get_put_of_lt _ (by decide) ht]

/-- How an answer shows. -/
theorem State.mbxAnswer_shows (s : State) {st : Nat} (hs : st < 16) (xs : List Word) :
    (s.mbxAnswer st xs).is fMGMT_MBX_RSP_DONE = true ∧ (s.mbxAnswer st xs).get fMGMT_MBX_RSP_STATUS = st ∧
    (s.mbxAnswer st xs).get fMGMT_MBX_RSP_TAG = s.get fMGMT_MBX_CMD_TAG ∧
    (s.mbxAnswer st xs).get fMGMT_MBX_RSP_DCOUNT = min 8 xs.length := by
  obtain ⟨hd, ht, hg, hn⟩ := s.answerHead_shows hs (lt_of_le_of_lt (Nat.min_le_left 8 xs.length) (by decide))
  have ho : Only ((List.range 8).map (aMGMT_MBX_DATA + ·)) (s.answerHead st (min 8 xs.length)) (s.mbxAnswer st xs) :=
    Only.rest (Only.foldl (Only.refl _ _) fun hx hu => hu.setWord (List.mem_map_of_mem (List.mem_range.mpr
      (lt_of_lt_of_le (List.mem_range.mp hx) (Nat.min_le_left ..)))))
  exact ⟨(ho.is (by decide)).trans hd, (ho.get (by decide)).trans ht, (ho.get (by decide)).trans hg, (ho.get (by decide)).trans hn⟩

theorem State.word_mbxAnswer (s : State) (st : Nat) {xs : List Word} {i : Nat} (hi : i < min 8 xs.length) :
    (s.mbxAnswer st xs).word (aMGMT_MBX_DATA + i) = xs.getD i 0 :=
  State.word_forN_setWord _ (g := fun i => xs.getD i 0) hi

@[simp] theorem State.mbxAnswer_mbx (s : State) (st : Nat) (xs : List Word) : (s.mbxAnswer st xs).mgmt.mbx = none := rfl

@[simp] theorem State.mbxAnswer_bobbin (s : State) (st : Nat) (xs : List Word) : (s.mbxAnswer st xs).bobbin = s.bobbin :=
  List.foldlRecOn (motive := fun t : State => t.bobbin = s.bobbin) _ _
    (show (s.answerHead st (min 8 xs.length)).bobbin = s.bobbin by simp [State.answerHead]) fun _ h _ _ => h

/-! ### A command that waits (R519) -/

theorem State.mbxRun_waiting {op : Nat} {args : List Word} (h : s.mgmt.mbx = some (op, args)) (hf : s.fwState = 2)
    (g : List Word → State) : s.mbxRun op g = .next (g args) := by
  unfold State.mbxRun
  rw [h]
  exact if_pos ⟨rfl, hf⟩

/-- A command that does not wait, or that no firmware takes, is not answered. -/
theorem State.mbxRun_none {op : Nat} (h : s.mgmt.mbx.any (fun x => x.1 == op) = false ∨ s.fwState ≠ 2) (g : List Word → State) :
    s.mbxRun op g = .next s := by
  unfold State.mbxRun
  split
  next o args hm => exact if_neg fun hc => h.elim (fun he => by simp [hm, hc.1] at he) (· hc.2)
  next => rfl

theorem State.mbxRetry_again (h : s.mgmt.tries < (s.word (aMGMT_POLICY + 3)).toNat) :
    s.mbxRetry = s.setMgmt { s.mgmt with tries := s.mgmt.tries + 1 } := if_neg (Nat.not_le.mpr h)

theorem State.mbxRetry_refused (h : (s.word (aMGMT_POLICY + 3)).toNat ≤ s.mgmt.tries) : s.mbxRetry = s.mbxAnswer 2 [] := if_pos h

theorem Only.claimRefused (s : State) (act r : Nat) : Only [aMAINT_STATUS] s (s.claimRefused act r) := ((Only.refl _ s).flag.put.put).bump

theorem State.claimRefused_mgmt (s : State) (act r : Nat) : (s.claimRefused act r).mgmt = s.mgmt := by simp [State.claimRefused]

theorem State.claimRefused_bobbin (s : State) (act r : Nat) : (s.claimRefused act r).bobbin = s.bobbin := by simp [State.claimRefused]

/-- A refused claim below RETRY_MAX counts a retry. -/
theorem State.claimRefused_again {act r : Nat} (h : s.mgmt.tries < (s.word (aMGMT_POLICY + 3)).toNat) :
    (s.claimRefused act r).mbxRetry.mgmt.tries = s.mgmt.tries + 1 ∧ (s.claimRefused act r).mbxRetry.mgmt.mbx = s.mgmt.mbx ∧
    (s.claimRefused act r).mbxRetry.bobbin = s.bobbin := by
  have hm := s.claimRefused_mgmt act r
  rw [State.mbxRetry_again (by rw [Only.claimRefused s act r _ (by decide), hm]; exact h)]
  exact ⟨congrArg (·.tries + 1) hm, (congrArg MgmtSt.mbx hm :), s.claimRefused_bobbin act r⟩

/-- A refused claim at RETRY_MAX is answered REFUSED. -/
theorem State.claimRefused_last {act r : Nat} (h : (s.word (aMGMT_POLICY + 3)).toNat ≤ s.mgmt.tries) :
    (s.claimRefused act r).mbxRetry = (s.claimRefused act r).mbxAnswer 2 [] :=
  State.mbxRetry_refused (by rw [Only.claimRefused s act r _ (by decide), s.claimRefused_mgmt act r]; exact h)

/-! ### The writes of Bobbin under a claim (R525, R527) -/

/-- The state in which activity `act` has claimed resource 29 as its writer. -/
def State.claimed29 (s : State) (act : Nat) : State := (s.resTake act 29 true).putBit fMAINT_CLAIM_ACTIVE (act - 1) true

theorem State.get_claimed29 (s : State) {act : Nat} (ha : act < 16) : (s.claimed29 act).get fMAINT_OWNER_WRITER 29 = act := by
  unfold State.claimed29 State.resTake State.resShow
  rw [State.get_putBit_apart _ (by decide), State.get_putBit_apart _ (by decide), if_pos rfl, State.get_put_of_lt _ (by decide) ha]

theorem Only.claimed29 (s : State) (act : Nat) : Only [aMAINT_OWNER + 29, aMAINT_HELD, aMAINT_CLAIM] s (s.claimed29 act) :=
  ((Only.refl _ s).resTake (by decide) (by decide)).putBit (by decide)

theorem Only.ckptStart (h : Only ([aMGMT_CKPT, aMGMT_CKPT_SEQ] ++ eraseWords) s t) :
    Only ([aMGMT_CKPT, aMGMT_CKPT_SEQ] ++ eraseWords) s t.ckptStart := by
  obtain ⟨recs, r, sec, n, -, he⟩ := t.ckptStart_eq
  rw [he]
  exact ((Only.erased (Only.rest h) (by decide)).flag (by decide)).put (by decide)

theorem Only.ckptEnd {ok : Bool} (h : Only ([aMGMT_CKPT, aMGMT_CKPT_SEQ] ++ eraseWords) s t) :
    Only ([aMGMT_CKPT, aMGMT_CKPT_SEQ] ++ eraseWords) s (t.ckptEnd ok) := by
  have hu (b : BobbinSt) : Only ([aMGMT_CKPT, aMGMT_CKPT_SEQ] ++ eraseWords) s (({ t with bobbin := b } : State).unflag fMGMT_CKPT_BUSY) :=
    (Only.rest h).unflag (by decide)
  exact Only.ageRecord (Only.ite ((((hu _).flag (by decide)).put (by decide)).put (by decide)) (((hu _).flag (by decide)).put (by decide)))
    (by decide)

theorem Only.calsetStart (h : Only (aMGMT_CALSET :: eraseWords) s t) : Only (aMGMT_CALSET :: eraseWords) s t.calsetStart :=
  Only.flag (Only.foldl (Only.rest h) fun _ hu => hu.erased (by decide)) (by decide)

theorem Only.calsetEnd {ok : Bool} (h : Only (aMGMT_CALSET :: eraseWords) s t) : Only (aMGMT_CALSET :: eraseWords) s (t.calsetEnd ok) := by
  have hu (b : BobbinSt) : Only (aMGMT_CALSET :: eraseWords) s (({ t with bobbin := b } : State).unflag fMGMT_CALSET_BUSY) :=
    (Only.rest h).unflag (by decide)
  exact Only.ageRecord (Only.ite ((((hu _).flag (by decide)).put (by decide)).put (by decide)) (((hu _).flag (by decide)).put (by decide)))
    (by decide)

/-- An answer after the release of an activity that writes resource 29: the resource is free of a writer, and every word apart from the
answer's and those of the claims is as before the release. -/
theorem State.released_answer {u : State} {act st : Nat} (hs : st < 16) (hw : u.get fMAINT_OWNER_WRITER 29 = act) (xs : List Word) :
    ((u.release act).mbxAnswer st xs).get fMGMT_MBX_RSP_STATUS = st ∧ ((u.release act).mbxAnswer st xs).is fMGMT_MBX_RSP_DONE = true ∧
    ((u.release act).mbxAnswer st xs).mgmt.mbx = none ∧ ((u.release act).mbxAnswer st xs).get fMAINT_OWNER_WRITER 29 = 0 ∧
    Only (answerWords ++ maintWords) u ((u.release act).mbxAnswer st xs) := by
  obtain ⟨hd, ht, -, -⟩ := (u.release act).mbxAnswer_shows hs xs
  refine ⟨ht, hd, rfl, ?_, Only.mbxAnswer ((Only.refl _ u).release (by simp)) (by simp)⟩
  exact (((Only.refl _ _).mbxAnswer (List.Subset.refl _)).get (by decide)).trans (State.get_release_writer (by decide) hw)

/-! ### The commands -/

/-- A command whose resource is held. -/
theorem exec_checkpoint_refused {ok : Bool} {args : List Word} (h : s.mgmt.mbx = some (2, args)) (hf : s.fwState = 2)
    (hr : s.resFree 29 true = false) : exec (.checkpoint ok) s = .next (s.claimRefused 9 29).mbxRetry := by
  refine (State.mbxRun_waiting h hf _).trans ?_
  dsimp only
  rw [State.claim_refused hr]
  rfl

theorem exec_calsetCommit_refused {ok : Bool} {args : List Word} (h : s.mgmt.mbx = some (3, args)) (hf : s.fwState = 2)
    (hr : s.resFree 29 true = false) : exec (.calsetCommit ok) s = .next (s.claimRefused 10 29).mbxRetry := by
  refine (State.mbxRun_waiting h hf _).trans ?_
  dsimp only
  rw [State.claim_refused hr]
  rfl

/-- A checkpoint under its claim. -/
theorem exec_checkpoint_taken {ok : Bool} {args : List Word} (h : s.mgmt.mbx = some (2, args)) (hf : s.fwState = 2)
    (hr : s.resFree 29 true = true) : ∃ xs, exec (.checkpoint ok) s =
      .next ((((s.claimed29 9).ckptStart.ckptEnd ok).release 9).mbxAnswer (if ok then 0 else 3) xs) := by
  refine (Exists.imp fun xs hx => (State.mbxRun_waiting h hf _).trans hx) ?_
  dsimp only
  rw [State.claim_granted hr]
  cases ok <;> exact ⟨_, rfl⟩

/-- A commit of a calibration set under STORE fails. -/
theorem exec_calsetCommit_store {ok : Bool} {args : List Word} (h : s.mgmt.mbx = some (3, args)) (hf : s.fwState = 2)
    (hr : s.resFree 29 true = true) (hst : s.is fCAL_CFG_STORE = true) : exec (.calsetCommit ok) s =
      .next (((((s.claimed29 10).flag fMGMT_CALSET_FAIL).put fMGMT_CALSET_CAUSE 4).release 10).mbxAnswer 3 []) := by
  refine (State.mbxRun_waiting h hf _).trans ?_
  dsimp only
  rw [State.claim_granted hr]
  exact congrArg Host.Outcome.next ((if_neg (not_not.mpr rfl)).trans
    (if_pos (((Only.claimed29 s 10).is (by decide)).trans hst)))

/-- A commit whose write fails. -/
theorem exec_calsetCommit_failed {args : List Word} (h : s.mgmt.mbx = some (3, args)) (hf : s.fwState = 2)
    (hr : s.resFree 29 true = true) (hst : s.is fCAL_CFG_STORE = false) : exec (.calsetCommit false) s =
      .next ((((s.claimed29 10).calsetStart.calsetEnd false).release 10).mbxAnswer 3 []) := by
  refine (State.mbxRun_waiting h hf _).trans ?_
  dsimp only
  rw [State.claim_granted hr]
  refine congrArg Host.Outcome.next ((if_neg (not_not.mpr rfl)).trans
    ((if_neg (ne_true_of_eq_false (((Only.claimed29 s 10).is (by decide)).trans hst))).trans ?_))
  split
  · exact if_neg Bool.false_ne_true
  · rfl

/-- The outcome of a checkpoint: its status, resource 29 free, and the words of MGMT_CKPT as its end leaves them. -/
theorem exec_checkpoint_ends {ok : Bool} {args : List Word} (h : s.mgmt.mbx = some (2, args)) (hf : s.fwState = 2)
    (hr : s.resFree 29 true = true) : ∃ t, exec (.checkpoint ok) s = .next t ∧ t.get fMGMT_MBX_RSP_STATUS = (if ok then 0 else 3) ∧
      t.is fMGMT_MBX_RSP_DONE = true ∧ t.mgmt.mbx = none ∧ t.get fMAINT_OWNER_WRITER 29 = 0 ∧
      Only (answerWords ++ maintWords) ((s.claimed29 9).ckptStart.ckptEnd ok) t := by
  obtain ⟨xs, hx⟩ := exec_checkpoint_taken (ok := ok) h hf hr
  have hw : ((s.claimed29 9).ckptStart.ckptEnd ok).get fMAINT_OWNER_WRITER 29 = 9 :=
    (((Only.refl _ _).ckptStart.ckptEnd).get (by decide)).trans (State.get_claimed29 s (by decide))
  exact ⟨_, hx, State.released_answer (by cases ok <;> decide) hw xs⟩

/-- An issued command is kept with its tag. -/
theorem State.mbxKept_shows (s : State) (op tag : Fin 256) :
    ((s.put fMGMT_MBX_CMD_OPCODE op.val).put fMGMT_MBX_CMD_TAG tag.val).get fMGMT_MBX_CMD_OPCODE = op.val ∧
    ((s.put fMGMT_MBX_CMD_OPCODE op.val).put fMGMT_MBX_CMD_TAG tag.val).get fMGMT_MBX_CMD_TAG = tag.val ∧
    Only [aMGMT_MBX_CMD] s ((s.put fMGMT_MBX_CMD_OPCODE op.val).put fMGMT_MBX_CMD_TAG tag.val) :=
  ⟨(State.get_put_apart _ _ (by decide)).trans (State.get_put_of_lt _ (by decide) op.isLt), State.get_put_of_lt _ (by decide) tag.isLt,
    ((Only.refl _ s).put).put⟩

/-- The state in which an issued command waits. -/
def State.mbxIssued (s : State) (op tag : Fin 256) : State :=
  let s := (s.put fMGMT_MBX_CMD_OPCODE op.val).put fMGMT_MBX_CMD_TAG tag.val
  s.setMgmt { s.mgmt with mbx := some (op.val, (List.range 8).map (fun i => s.word (aMGMT_MBX_ARG + i))), tries := 0, running := false }

theorem exec_mbxGo (op tag : Fin 256) (hm : s.mgmt.mbx = none) : exec (.mbxGo op tag) s =
    .next (if s.fwState = 2 then s.mbxIssued op tag else (s.mbxIssued op tag).mbxAnswer 4 []) := by
  obtain ⟨-, -, ho⟩ := s.mbxKept_shows op tag
  have hf : (s.mbxIssued op tag).fwState = s.fwState := ho.get (by decide)
  rw [← hf]
  exact if_neg (by simp [hm])

end

/-- Settles O42: an issued command waits (`exec_mbxGo`), its answer shows as `State.mbxAnswer_shows` says, and the release after a write of
Bobbin frees resource 29 (`State.released_answer`). That a command's answer is one step, with the write's result as operand, is log entry
78. -/
theorem mailboxCommands : Obligations.MailboxCommands := by
  unfold Obligations.MailboxCommands
  refine ⟨?goBusy, ?goWaits, ?goNoFw, ?version, ?ckptRefused, ?ckptDone, ?setRefused, ?setFails, ?calKind, ?calEnds, ?health, ?reboot, ?log,
    ?unknown, ?unknownNone, ?none1, ?none2, ?none3, ?none4, ?none5, ?none6, ?none7, ?ckptAgain, ?ckptFails, ?setAgain, ?setStore, ?calBusy,
    ?calBegins⟩
  case goBusy => exact fun s op tag h => if_pos (Option.isSome_iff_ne_none.mpr h)
  case goWaits =>
    intro s op tag hm hf
    obtain ⟨hop, htag, ho⟩ := s.mbxKept_shows op tag
    refine ⟨_, (exec_mbxGo op tag hm).trans (congrArg _ (if_pos hf)), ?_, hop, htag, ho.rest⟩
    refine congrArg some (congrArg (Prod.mk op.val) (List.map_congr_left fun i _ => ho _ ?_))
    simp [aMGMT_MBX_CMD, aMGMT_MBX_ARG]
    omega
  case goNoFw =>
    intro s op tag hm hf
    obtain ⟨-, htag, ho⟩ := s.mbxKept_shows op tag
    obtain ⟨hd, hs, ht, hn⟩ := (s.mbxIssued op tag).mbxAnswer_shows (st := 4) (by decide) []
    have hh : Only [aMGMT_MBX_CMD, aMGMT_MBX_RSP] s ((s.mbxIssued op tag).answerHead 4 0) :=
      ((((Only.rest (ho.mono (by decide))).flag).put).put).put
    exact ⟨_, (exec_mbxGo op tag hm).trans (congrArg _ (if_neg hf)), rfl, hd, hs, ht.trans htag, hn, hh.rest⟩
  case version =>
    intro s args e hm hf he
    refine (State.mbxRun_waiting hm hf _).trans ?_
    dsimp only
    rw [he]
  case ckptRefused =>
    intro s ok args hm hf hr ht
    obtain ⟨hd, hs, -, -⟩ := (s.claimRefused 9 29).mbxAnswer_shows (st := 2) (by decide) []
    refine ⟨_, (exec_checkpoint_refused hm hf hr).trans (congrArg _ (State.claimRefused_last ht)), hs, hd, rfl, ?_⟩
    rw [State.mbxAnswer_bobbin, State.claimRefused_bobbin]
  case ckptDone =>
    intro s args hm hf hr
    obtain ⟨t, hx, hs, hd, hn, hw, ho⟩ := exec_checkpoint_ends (ok := true) hm hf hr
    obtain ⟨-, hc, -⟩ := (s.claimed29 9).ckptStart.ckptEnd_done
    exact ⟨t, hx, hs, hd, hn, (ho.is (by decide)).trans hc, hw⟩
  case setRefused =>
    intro s ok args hm hf hr ht
    obtain ⟨-, hs, -, -⟩ := (s.claimRefused 10 29).mbxAnswer_shows (st := 2) (by decide) []
    refine ⟨_, (exec_calsetCommit_refused hm hf hr).trans (congrArg _ (State.claimRefused_last ht)), hs, rfl, ?_⟩
    rw [State.mbxAnswer_bobbin, State.claimRefused_bobbin]
  case setFails =>
    intro s args hm hf hr hst
    have hw : ((s.claimed29 10).calsetStart.calsetEnd false).get fMAINT_OWNER_WRITER 29 = 10 :=
      (((Only.refl _ _).calsetStart.calsetEnd).get (by decide)).trans (State.get_claimed29 s (by decide))
    obtain ⟨hs, -, hn, hw', ho⟩ := State.released_answer (st := 3) (by decide) hw []
    obtain ⟨-, hc, -⟩ := (s.claimed29 10).calsetStart.calsetEnd_fail
    exact ⟨_, exec_calsetCommit_failed hm hf hr hst, hs, hn, (ho.is (by decide)).trans hc, hw'⟩
  case calKind =>
    exact fun s args hm hf hr hk => (State.mbxRun_waiting hm hf _).trans
      (congrArg Host.Outcome.next ((if_neg (ne_true_of_eq_false hr)).trans (if_pos hk)))
  case calEnds =>
    exact fun s args hm hf hr hb => (State.mbxRun_waiting hm hf _).trans
      (congrArg Host.Outcome.next ((if_pos hr).trans (if_neg (ne_true_of_eq_false hb))))
  case health => exact fun s args hm hf => State.mbxRun_waiting hm hf _
  case reboot =>
    intro s args hm hf
    obtain ⟨h3, hc, -, hn, -⟩ := (s.mbxAnswer 0 []).mgmtReset_shows (cause := 5) (by decide)
    exact ⟨_, State.mbxRun_waiting hm hf _, h3, hc, hn⟩
  case log =>
    intro s ws args hm hf
    obtain ⟨-, hs, -, hn⟩ := s.mbxAnswer_shows (st := 0) (by decide) (ws.take 8)
    refine ⟨_, State.mbxRun_waiting hm hf _, hs, ?_, rfl, fun i hi => ?_⟩
    · simpa using hn
    · rw [State.word_mbxAnswer _ _ (by simpa using hi)]
      simp [lt_of_lt_of_le hi (Nat.min_le_left ..)]
  case unknown =>
    intro s o args hm hf ho
    change execMbxUnknown s = _
    unfold execMbxUnknown
    rw [hm]
    exact if_pos ⟨hf, ho⟩
  case unknownNone =>
    intro s hm
    change execMbxUnknown s = _
    unfold execMbxUnknown
    rw [hm]
    rfl
  case none1 => exact fun s h => State.mbxRun_none h _
  case none2 => exact fun s ok h => State.mbxRun_none h _
  case none3 => exact fun s ok h => State.mbxRun_none h _
  case none4 => exact fun s h => State.mbxRun_none h _
  case none5 => exact fun s h => State.mbxRun_none h _
  case none6 => exact fun s h => State.mbxRun_none h _
  case none7 => exact fun s ws h => State.mbxRun_none h _
  case ckptAgain => exact fun s ok args hm hf hr ht => ⟨_, exec_checkpoint_refused hm hf hr, State.claimRefused_again ht⟩
  case ckptFails =>
    intro s args hm hf hr
    obtain ⟨t, hx, hs, hd, hn, hw, ho⟩ := exec_checkpoint_ends (ok := false) hm hf hr
    obtain ⟨-, hc, hcause⟩ := (s.claimed29 9).ckptStart.ckptEnd_fail
    exact ⟨t, hx, hs, hd, hn, (ho.is (by decide)).trans hc, (ho.get (by decide)).trans hcause, hw⟩
  case setAgain => exact fun s ok args hm hf hr ht => ⟨_, exec_calsetCommit_refused hm hf hr, State.claimRefused_again ht⟩
  case setStore =>
    intro s ok args hm hf hr hst
    have hw : (((s.claimed29 10).flag fMGMT_CALSET_FAIL).put fMGMT_CALSET_CAUSE 4).get fMAINT_OWNER_WRITER 29 = 10 :=
      (((Only.refl [aMGMT_CALSET] _).flag.put).get (by decide)).trans (State.get_claimed29 s (by decide))
    obtain ⟨hs, -, hn, hw', ho⟩ := State.released_answer (st := 3) (by decide) hw []
    have hc : (((s.claimed29 10).flag fMGMT_CALSET_FAIL).put fMGMT_CALSET_CAUSE 4).is fMGMT_CALSET_FAIL = true :=
      (State.is_put_apart _ _ (by decide)).trans (State.is_flag _ _ _ (by decide))
    exact ⟨_, exec_calsetCommit_store hm hf hr hst, hs, hn, (ho.is (by decide)).trans hc, hw'⟩
  case calBusy =>
    exact fun s args hm hf hr hb => (State.mbxRun_waiting hm hf _).trans (congrArg Host.Outcome.next ((if_pos hr).trans (if_pos hb)))
  case calBegins =>
    intro s args hm hf hr hk hc
    refine ⟨_, (State.mbxRun_waiting hm hf _).trans (congrArg Host.Outcome.next ((if_neg (ne_true_of_eq_false hr)).trans <|
      (if_neg (Nat.not_lt.mpr hk)).trans <| (if_neg ?_).trans (if_neg ?_))), rfl, rfl, rfl⟩
    · exact fun h => Bool.false_ne_true (hc.symm.trans h.1)
    · exact fun h => Bool.false_ne_true (hc.symm.trans h.1)

end Sys2Proof.Machine

/-! # Power domains: requests, wakes, saves and supplies (R541 to R560, R628) -/

namespace Sys2Proof.Machine

-- one thread at a time: the check holds the whole text in memory
set_option Elab.async false

/-! ### The state of one domain among those of the others (R539) -/

/-- The bits of a number in which some were replaced. -/
theorem testBit_replace {w lo wd v i : Nat} (hv : v < 2 ^ wd) (hi : i < lo ∨ lo + wd ≤ i) :
    (w - natBits w lo wd * 2 ^ lo + v * 2 ^ lo).testBit i = w.testBit i := by
  have hw : w = 2 ^ lo * (2 ^ wd * (w / 2 ^ lo / 2 ^ wd) + natBits w lo wd) + w % 2 ^ lo := by
    unfold natBits
    rw [Nat.shiftRight_eq_div_pow, Nat.div_add_mod, Nat.div_add_mod]
  have hr : w % 2 ^ lo < 2 ^ lo := Nat.mod_lt _ (Nat.two_pow_pos lo)
  have hn : natBits w lo wd < 2 ^ wd := Nat.mod_lt _ (Nat.two_pow_pos wd)
  generalize natBits w lo wd = n at *
  generalize w / 2 ^ lo / 2 ^ wd = c at *
  generalize w % 2 ^ lo = r at *
  have he : w - n * 2 ^ lo + v * 2 ^ lo = 2 ^ lo * (2 ^ wd * c + v) + r := by
    rw [hw, Nat.mul_add, Nat.mul_add, Nat.mul_comm n, Nat.mul_comm v]
    omega
  rw [he, hw, Nat.testBit_two_pow_mul_add _ hr, Nat.testBit_two_pow_mul_add _ hr]
  split
  · rfl
  · rw [Nat.testBit_two_pow_mul_add _ hv, Nat.testBit_two_pow_mul_add _ hn, if_neg (by omega), if_neg (by omega)]

theorem State.domState_setDom_ne (s : State) {d e v : Nat} (hv : v < 8) (he : e < 8) (hne : e ≠ d) :
    (s.setDom d v).domState e = s.domState e := by
  unfold State.domState State.setDom
  dsimp only
  rw [State.get_put_same _ _ _ _ (by decide), natBits_mod (by simp only [fldWidth, fPWR_STATE_STATE]; omega), Nat.mod_eq_of_lt hv]
  refine Nat.eq_of_testBit_eq fun i => ?_
  rw [testBit_natBits, testBit_natBits]
  by_cases hi : i < 3
  · rw [testBit_replace hv (by omega)]
  · simp [hi]

/-! ### Requests (R541, R542, R628) -/

/-- The words that requests ON change. -/
def requestWords : List Nat := [aPWR_REQ, aPWR_STATE, aPWR_GOV, aPWR_REFUSE]

section
variable {s t : State} {ws : List Nat} {d e : Nat}

theorem State.domState_congr (h : Only ws s t) (hw : aPWR_STATE ∉ ws) (e : Nat) : t.domState e = s.domState e :=
  congrArg (natBits · (3 * e) 3) (h.get hw)

theorem Only.pwrRefuse {r : Nat} (h : Only ws s t) (hw : aPWR_REFUSE ∈ ws := by decide) : Only ws s (t.pwrRefuse d r) :=
  ((h.flag hw).put hw).put hw

theorem Only.setDom {v : Nat} (h : Only ws s t) (hw : aPWR_STATE ∈ ws := by decide) : Only ws s (t.setDom d v) := h.put hw

theorem Only.setReq {v : Nat} (h : Only ws s t) (hw : aPWR_REQ ∈ ws := by decide) : Only ws s (t.setReq d v) := h.put hw

theorem Only.wakeAsk (h : Only ws s t) (hs : aPWR_STATE ∈ ws := by decide) (hg : aPWR_GOV ∈ ws := by decide) : Only ws s (t.wakeAsk d) :=
  (h.setDom hs).govAsk hg

theorem State.domState_wakeAsk_ne (s : State) (he : e < 8) (hne : e ≠ d) : (s.wakeAsk d).domState e = s.domState e :=
  (State.domState_congr (Only.govAsk (Only.refl [aPWR_GOV] _)) (by decide) e).trans (s.domState_setDom_ne (by decide) he hne)

/-- A wake that is asked for stands in the governor's queue. -/
theorem State.wakeAsk_queued (s : State) : (s.wakeAsk d).gov.queue.any (fun x => x.1 == GovEvt.domain d) = true := by
  unfold State.wakeAsk State.govAsk
  split
  · assumption
  · simp [State.showGov]

/-- A request ON of a domain that is up or on its way up. -/
theorem State.reqOn_up (h2 : 2 ≤ d) (h : s.domState d = 3 ∨ s.domState d = 6 ∨ s.domState d = 1 ∨ s.domState d = 2) :
    s.reqOn d = { s.setReq d 1 with pwr := { s.pwr with offAfter := withBit s.pwr.offAfter d false } } :=
  (if_pos (.inr h)).trans (if_neg (Nat.not_lt.mpr h2))

theorem State.reqOn_fixed (h : d < 2) : s.reqOn d = s := (if_pos (.inl h)).trans (if_pos h)

theorem State.reqOn_down (h2 : 2 ≤ d) (h : s.domState d = 0) : s.reqOn d =
    if s.onReason d ≠ 0 then s.pwrRefuse d (s.onReason d) else (s.setReq d 1).wakeAsk d :=
  (if_neg (by omega)).trans (if_congr Iff.rfl rfl ((if_neg (by omega)).trans (if_neg (by omega))))

theorem State.onReason_none (h3 : d ≠ 3) (he : s.domEn d = true) (hs : s.is fPWR_THERM_SHUTDOWN = false) : s.onReason d = 0 := by
  simp [State.onReason, h3, he, hs]

/-- A request ON of an enabled domain that is OFF asks for its wake. -/
theorem State.reqOn_wakes (h2 : 2 ≤ d) (h3 : d ≠ 3) (h : s.domState d = 0) (he : s.domEn d = true)
    (hs : s.is fPWR_THERM_SHUTDOWN = false) : s.reqOn d = (s.setReq d 1).wakeAsk d := by
  rw [State.reqOn_down h2 h, State.onReason_none h3 he hs, if_neg (not_not.mpr rfl)]

theorem Only.reqOn (h : Only requestWords s t) : Only requestWords s (t.reqOn d) := by
  refine .ite (.ite h h.setReq.rest) (.ite h.pwrRefuse (.ite h.setReq.rest (.ite ?_ h.setReq.wakeAsk)))
  exact Only.wakeAsk (Only.rest h.setReq)

theorem Only.engineWake (h : Only requestWords s t) : Only requestWords s (t.engineWake d) :=
  .ite (.ite h.setReq.wakeAsk (.ite h.setReq.rest h.reqOn)) h.reqOn

/-- A request ON of a domain that is OFF leaves the states of the others. -/
theorem State.domState_reqOn_ne (h2 : 2 ≤ d) (h : s.domState d = 0) (he : e < 8) (hne : e ≠ d) :
    (s.reqOn d).domState e = s.domState e := by
  rw [State.reqOn_down h2 h]
  split
  · exact State.domState_congr (Only.pwrRefuse (Only.refl [aPWR_REFUSE] s)) (by decide) e
  · exact (State.domState_wakeAsk_ne _ he hne).trans (State.domState_congr (Only.setReq (Only.refl [aPWR_REQ] s)) (by decide) e)

theorem State.domEn_congr (h : Only requestWords s t) (e : Nat) : t.domEn e = s.domEn e :=
  congrArg (decide (e < 2) || ·) (h.bit (by decide))

/-- The request of domain `d` that a WAKE edge makes. -/
def State.wakeOne (s : State) (d : Nat) : State := if 2 ≤ d ∧ s.domEn d ∧ s.domState d = 0 then s.reqOn d else s

/-- After the requests of a WAKE edge for the domains below `n`: those from `n` on are as they were, and the enabled ones below that were OFF,
apart from PD_SHUTTLE, wait for the governor. -/
theorem State.wakeOne_forN (hs : s.is fPWR_THERM_SHUTDOWN = false) {n : Nat} (hn : n ≤ 8) : Only requestWords s (s.forN n State.wakeOne) ∧
    (∀ e, n ≤ e → e < 8 → (s.forN n State.wakeOne).domState e = s.domState e) ∧
    (∀ e, 2 ≤ e → e < n → e ≠ 3 → s.domEn e = true → s.domState e = 0 → (s.forN n State.wakeOne).domState e = 1) := by
  induction n with
  | zero => exact ⟨.refl _ s, fun e _ _ => rfl, fun e _ h => absurd h (Nat.not_lt_zero e)⟩
  | succ n ih =>
    obtain ⟨ho, hkept, hwoken⟩ := ih (by omega)
    rw [State.forN_succ]
    generalize s.forN n State.wakeOne = u at *
    have hother : ∀ e, e < 8 → e ≠ n → (u.wakeOne n).domState e = u.domState e := by
      intro e he hne
      unfold State.wakeOne
      split
      next h => exact State.domState_reqOn_ne h.1 h.2.2 he hne
      next => rfl
    refine ⟨ho.when (·.reqOn), fun e hl he => (hother e he (by omega)).trans (hkept e (by omega) he), fun e h2 hl h3 hen h0 => ?_⟩
    by_cases hen' : e = n
    · subst hen'
      have hc : 2 ≤ e ∧ u.domEn e ∧ u.domState e = 0 := ⟨h2, (State.domEn_congr ho e).trans hen, (hkept e le_rfl (by omega)).trans h0⟩
      have hw : u.reqOn e = (u.setReq e 1).wakeAsk e := State.reqOn_wakes h2 h3 hc.2.2 hc.2.1 ((ho.is (by decide)).trans hs)
      rw [State.wakeOne, if_pos hc, hw, State.domState_wakeAsk _ (by omega)]
    · exact (hother e (by omega) hen').trans (hwoken e h2 (by omega) h3 hen h0)

/-- A request OFF of PD_BOLT, ON and free, starts its save. -/
theorem State.reqOff_bolt {path : Nat} (h3 : s.domState 5 = 3) (hb : s.domBusy 5 = false) :
    s.reqOff 5 path = (s.setReq 5 0).setDom 5 4 := by
  have hr : s.offReason 5 path = 0 := by simp [State.offReason, hb]
  refine (if_neg fun hc => ?_).trans ?_
  · rw [h3] at hc
    exact absurd hc (by decide)
  · rw [hr, h3]
    rfl

/-! ### The governor (R548 to R550) -/

/-- A domain's wake alone in the queue, with nothing ramping and none admitted before, is admitted. -/
theorem govExamine_domain {n : Nat} {fr : Bool} {g : GovSt} (hr : g.ramps = []) (hl : g.lastDomain = none) :
    govExamine n [(.domain d, fr)] g [] [] = (g.take_ n (.domain d), [.domain d], []) := by
  simp [govExamine, GovSt.slope, govCost, GovSt.capOk, hr, hl]

theorem exec_governorAdmit_domain {n : Nat} {fr : Bool} (hq : s.gov.queue = [(GovEvt.domain d, fr)]) (hr : s.gov.ramps = [])
    (hl : s.gov.lastDomain = none) : ∃ v : State, v.gov.queue = [] ∧ v.gov.tick = s.gov.tick + max 1 n ∧
      v.gov.lastDomain = some (s.gov.tick + max 1 n) ∧
      exec (.governorAdmit n) s = .next (((v.setDom d 2).bump fPWR_GOV_WAITS 0 0).showGov) := by
  obtain ⟨g, hg⟩ : ∃ g : GovSt, g = { s.gov with tick := s.gov.tick + max 1 n, ramps := [] } := ⟨_, rfl⟩
  refine ⟨{ s with gov := { g.take_ (s.gov.tick + max 1 n) (.domain d) with queue := [] } }, rfl, by rw [hg]; rfl, rfl, ?_⟩
  change execGovernorAdmit n s = _
  unfold execGovernorAdmit
  dsimp only
  rw [hr, List.filter_nil, ← hg, hq,
    govExamine_domain (by rw [hg]) (by rw [hg]; exact hl)]
  rfl

/-! ### Saves and wakes (R543 to R545) -/

theorem State.pwr_foldl {α : Type} {l : List α} {g : State → α → State} (hg : ∀ u x, (g u x).pwr = u.pwr) : (l.foldl g s).pwr = s.pwr :=
  List.foldlRecOn (motive := fun t : State => t.pwr = s.pwr) l g rfl fun t h x _ => (hg t x).trans h

theorem State.pwr_forN {n : Nat} {g : State → Nat → State} (hg : ∀ u i, (g u i).pwr = u.pwr) : (s.forN n g).pwr = s.pwr :=
  State.pwr_foldl hg

theorem State.toTstate_pwr (s : State) (n : Nat) : (s.toTstate n).pwr = s.pwr := by
  unfold State.toTstate
  dsimp only
  split <;> rfl

theorem State.dropPath_pwr (s : State) (p : Nat) : (s.dropPath p).pwr = s.pwr := by
  unfold State.dropPath State.showPaths
  dsimp only
  split
  · exact State.toTstate_pwr ..
  · rfl

theorem State.portReset_pwr (s : State) (p : Nat) : (s.portReset p).pwr = s.pwr := by
  unfold State.portReset
  dsimp only
  rw [State.dropPath_pwr]
  simp [State.setPort]

theorem State.emptySkein_pwr (s : State) (k : Nat) : (s.emptySkein k).pwr = s.pwr := by
  refine Eq.trans (b := (s.forN 8 _).pwr) rfl (State.pwr_forN fun u r => ?_)
  split <;> simp

theorem State.dramClear_pwr (s : State) : s.dramClear.pwr = s.pwr := by
  obtain ⟨u, hu⟩ : ∃ u, u = (s.forN 64 State.emptySkein).forN 2 State.toneZero := ⟨_, rfl⟩
  have hp : u.pwr = s.pwr := hu ▸ (State.pwr_forN (g := State.toneZero) fun _ _ => rfl).trans (State.pwr_forN State.emptySkein_pwr)
  have hd : s.dramClear = { u with regions := [{}, {}], dramMt := 0 } := by rw [hu]; rfl
  rw [hd]
  exact hp

theorem State.rxState_pwr (s : State) (f v : Nat) : (s.rxState f v).pwr = s.pwr := by
  unfold State.rxState State.spareRest
  dsimp only
  split_ifs <;> rfl

theorem State.laneLocks_pwr (s : State) (f : Nat) (on : Bool) : (s.laneLocks f on).pwr = s.pwr := State.pwr_foldl fun _ _ => rfl

theorem State.hostDown_pwr (s : State) : s.hostDown.pwr = s.pwr := rfl

/-- PD_LINK's switch opens: its ports, the host's link and the receive links go down. -/
def State.linkDown (s : State) : State :=
  ((s.forN 2 State.portReset).hostDown).forN 2 (fun s f => (s.laneLocks f false).rxState f 0)

theorem State.linkDown_pwr (s : State) : s.linkDown.pwr = s.pwr := by
  refine (State.pwr_forN fun u f => ?_).trans ((State.hostDown_pwr _).trans (State.pwr_forN State.portReset_pwr))
  rw [State.rxState_pwr, State.laneLocks_pwr]

theorem State.domLost_link (s : State) : s.domLost 7 = { s.linkDown with rx := List.replicate 2 {}, spare := {} } := rfl

/-- What is lost as a switch opens leaves the requests that are to follow. -/
theorem State.domLost_pwr (s : State) (d : Nat) : (s.domLost d).pwr = s.pwr := by
  by_cases h7 : d = 7
  · subst h7
    rw [State.domLost_link]
    exact s.linkDown_pwr
  unfold State.domLost
  split_ifs
  · dsimp only
    split
    · exact State.toTstate_pwr ..
    · rfl
  · rfl
  · rfl
  · rfl
  · exact (State.put_pwr ..).trans s.dramClear_pwr
  · rfl

/-- The state in which a domain is OFF after its save. -/
def State.saved (s : State) (d : Nat) : State := ((s.domLost d).saveWords d).setDom d 0

theorem State.domState_saved (hd : d < 8) : (s.saved d).domState d = 0 := State.domState_setDom _ hd (by decide)

theorem exec_saveDone {d : Fin 8} (h : s.domState d.val = 4) : exec (.saveDone d) s = if s.pwr.onAfter.testBit d.val then
    .next (({ s.saved d.val with pwr := { s.pwr with onAfter := withBit s.pwr.onAfter d.val false } } : State).wakeAsk d.val)
    else .next (s.saved d.val) := by
  have hp : (s.saved d.val).pwr = s.pwr := s.domLost_pwr d.val
  change execSaveDone d s = _
  unfold execSaveDone
  dsimp only
  rw [if_neg (not_not.mpr h), ← State.saved, hp]

theorem State.zeroGauges_keeps (s : State) : (s.forN 2 fun s f => s.zeroGaugesAt f s.nowT).pwr = s.pwr ∧
    (s.forN 2 fun s f => s.zeroGaugesAt f s.nowT).regs = s.regs :=
  ⟨State.pwr_forN fun _ _ => rfl, State.regs_forN fun _ _ => rfl⟩

theorem State.govAsk_pwr (s : State) (e : GovEvt) : (s.govAsk e).pwr = s.pwr := by rw [State.govAsk_eq]

/-- PD_WEFT becomes ON with no OFF to come. -/
theorem State.domState_domUp_weft (h : s.pwr.offAfter.testBit 4 = false) : (s.domUp 4).domState 4 = 3 := by
  obtain ⟨v, hv⟩ : ∃ v : State, v = { s.setDom 4 3 with pwr := { s.pwr with ever := withBit s.pwr.ever 4 true } } := ⟨_, rfl⟩
  obtain ⟨u, hu⟩ : ∃ u : State, u = v.forN 64 (fun s c => if s.clusterUsed c then s.govAsk (.cluster c) else s) := ⟨_, rfl⟩
  obtain ⟨w, hw⟩ : ∃ w : State, w = u.forN 2 (fun s f => s.zeroGaugesAt f s.nowT) := ⟨_, rfl⟩
  have hup : u.pwr = v.pwr := hu ▸ State.pwr_forN fun x c => by split <;> [exact State.govAsk_pwr ..; rfl]
  have huo : Only [aPWR_GOV] v u := hu ▸ Only.foldl (Only.refl _ v) fun _ hx => hx.when (·.govAsk)
  have hwo : Only [aPWR_GOV] v w := hw ▸ huo.rest u.zeroGauges_keeps.2
  have hwp : w.pwr = v.pwr := hw ▸ u.zeroGauges_keeps.1.trans hup
  have hd : s.domUp 4 = w := by
    have hb : ¬ (w.pwr.offAfter.testBit 4 = true) := by rw [hwp, hv]; exact ne_true_of_eq_false h
    subst hw hu hv
    exact if_neg hb
  rw [hd, State.domState_congr hwo (by decide), hv]
  exact s.domState_setDom (by decide) (by decide)

/-- PD_BOLT becomes ON with nothing kept and no OFF to come. -/
theorem State.domUp_bolt (hk : s.pwr.kept = false) (ho : s.pwr.offAfter.testBit 5 = false) :
    s.domUp 5 = { s.setDom 5 3 with pwr := { s.pwr with ever := withBit s.pwr.ever 5 true } } := by
  unfold State.domUp
  simp [State.setDom, hk, ho]

/-- PD_MEM becomes ON with no OFF to come and asks for its DRAM's ramp. -/
theorem State.domUp_mem (ho : s.pwr.offAfter.testBit 6 = false) : s.domUp 6 =
    ({ s.setDom 6 3 with pwr := { s.pwr with ever := withBit s.pwr.ever 6 true } } : State).govAsk .dram := by
  obtain ⟨v, hv⟩ : ∃ v : State, v = { s.setDom 6 3 with pwr := { s.pwr with ever := withBit s.pwr.ever 6 true } } := ⟨_, rfl⟩
  have hb : ¬ ((v.govAsk .dram).pwr.offAfter.testBit 6 = true) := by
    rw [State.govAsk_pwr, hv]
    exact ne_true_of_eq_false ho
  rw [← hv]
  subst hv
  exact if_neg hb

/-- With no draft committed the windows of a domain return to their reset words alone. -/
theorem State.reloadWindows_none (h : s.newestSlot = none) :
    s.reloadWindows d = { s with regs := s.regs.filter (fun e => !reloadWord d e.1) } := by
  have hc : ({ s with regs := s.regs.filter (fun e => !reloadWord d e.1) } : State).committed = [] := by
    unfold State.committed
    rw [show ({ s with regs := s.regs.filter (fun e => !reloadWord d e.1) } : State).newestSlot = none from h]
  unfold State.reloadWindows
  dsimp only
  rw [hc]
  rfl

/-- The windows of PD_WEFT are reloaded, no draft being committed and no OFF to come, and it is ON. -/
theorem exec_tableReloadDone_weft (h : s.domState 4 = 6) (hn : s.newestSlot = none) (ho : s.pwr.offAfter.testBit 4 = false) :
    ∃ t, exec (.tableReloadDone 4) s = .next t ∧ t.domState 4 = 3 := by
  obtain ⟨u, hp, hx⟩ : ∃ u : State, u.pwr = s.pwr ∧ exec (.tableReloadDone 4) s = .next (u.domUp 4) := by
    refine ⟨_, ?_, if_neg (not_not.mpr h)⟩
    rw [State.reloadWindows_none hn]
    split
    · rfl
    · exact State.flag_pwr ..
  exact ⟨_, hx, State.domState_domUp_weft (hp ▸ ho)⟩

theorem State.domState_showGov_bump (s : State) (n e : Nat) : ((s.bump fPWR_GOV_WAITS 0 n).showGov).domState e = s.domState e :=
  State.domState_congr (ws := [aPWR_GOV]) ((((Only.refl _ s).bump).put).put.put) (by decide) e

theorem State.showGov_gov (s : State) : s.showGov.gov = s.gov := rfl

theorem State.gov_showGov_bump (s : State) (n : Nat) : ((s.bump fPWR_GOV_WAITS 0 n).showGov).gov = s.gov := by
  rw [State.showGov_gov, State.bump_gov]

theorem State.setDom_gov (s : State) (d v : Nat) : (s.setDom d v).gov = s.gov := rfl

/-- A rail's level, outside its window or back inside, is kept. -/
def State.railKept (s : State) (r : Nat) (on : Bool) : State := { s with selv := { s.selv with rails := withBit s.selv.rails r on } }

/-- An excursion of rail `r`, whose flag is set, is counted, kept and detected. -/
def State.railNoted (s : State) (r : Nat) : State :=
  ({ s.bump fPWR_COUNT_SUPPLY_EVENTS with selv := { s.selv with rails := withBit s.selv.rails r true } } : State).detect 21 r 0 0 false s.nowT

theorem State.railNoted_regs (s : State) (r : Nat) : (s.railNoted r).regs = (s.bump fPWR_COUNT_SUPPLY_EVENTS).regs := rfl

theorem State.railNoted_rails (s : State) (r : Nat) : (s.railNoted r).selv.rails = withBit s.selv.rails r true := rfl

theorem exec_supplyExcursion_core (s : State) {rail : Fin 8} (h : rail.val = 0) :
    exec (.supplyExcursion rail true) s = .next ((s.flag fPWR_SUPPLY_CORE).railNoted 0) := by
  change execSupplyExcursion rail true s = _
  unfold execSupplyExcursion
  dsimp only
  rw [h, if_neg (by decide), if_neg (fun h => absurd h.1 (by decide)), if_pos rfl]
  rfl

theorem exec_supplyExcursion_inside (s : State) (rail : Fin 8) : exec (.supplyExcursion rail false) s = .next (s.railKept rail.val false) := by
  change execSupplyExcursion rail false s = _
  unfold execSupplyExcursion
  exact if_pos Bool.false_ne_true

theorem exec_supplyExcursion_off {rail : Fin 8} (h2 : 2 ≤ rail.val) (h : s.domOn rail.val = false) :
    exec (.supplyExcursion rail true) s = .next s := by
  change execSupplyExcursion rail true s = _
  unfold execSupplyExcursion
  dsimp only
  rw [if_neg (by decide), if_pos ⟨h2, ne_true_of_eq_false h⟩]
  rfl

theorem State.coreNoted_shows (s : State) : ((s.flag fPWR_SUPPLY_CORE).railNoted 0).is fPWR_SUPPLY_CORE = true ∧
    ((s.flag fPWR_SUPPLY_CORE).railNoted 0).selv.rails.testBit 0 = true ∧
    Only [aPWR_SUPPLY, aPWR_COUNT] s ((s.flag fPWR_SUPPLY_CORE).railNoted 0) := by
  have ho : Only [aPWR_SUPPLY, aPWR_COUNT] s ((s.flag fPWR_SUPPLY_CORE).bump fPWR_COUNT_SUPPLY_EVENTS) := ((Only.refl _ s).flag).bump
  refine ⟨?_, ?_, ho.rest (State.railNoted_regs ..)⟩
  · rw [State.is_congr (State.railNoted_regs ..)]
    exact (State.is_bump_apart _ _ (by decide)).trans (State.is_flag _ _ _ (by decide))
  · rw [State.railNoted_rails]
    exact (testBit_withBit ..).trans (if_pos rfl)

end

/-- Settles O44: a request follows `State.reqOn`, whose cases have a lemma each, a save keeps the requests that follow it
(`State.domLost_pwr`), and a WAKE edge takes the domains in turn (`State.wakeOne_forN`). That a request already satisfied comes before its
refusals, the order of these, and that RETAIN has no effect where PD_BOLT is not ON, is log entry 81. -/
theorem powerDomains : Obligations.PowerDomains := by
  unfold Obligations.PowerDomains
  refine ⟨?onFixed, ?onWakes, ?onNotEnabled, ?offFixed, ?offBolt, ?retainOther, ?retainBolt, ?granted, ?saved, ?savedBolt, ?saveNone, ?loading,
    ?boltUp, ?memUp, ?reloaded, ?reloadNone, ?retained, ?retainNone, ?clearNone, ?clears, ?core, ?inside, ?wake, ?onUp, ?offDown, ?retainHeld,
    ?savedWakes, ?wakeNone, ?railOff⟩
  case onFixed => exact fun s d h => congrArg Host.Outcome.next (State.reqOn_fixed h)
  case onWakes =>
    exact fun s d h2 h3 h0 he hs => ⟨_, congrArg Host.Outcome.next (State.reqOn_wakes h2 h3 h0 he hs), State.domState_wakeAsk _ d.isLt,
      State.wakeAsk_queued _⟩
  case onNotEnabled =>
    intro s d h2 h0 he
    have hr : s.onReason d.val = 2 := if_pos (ne_true_of_eq_false he)
    refine congrArg Host.Outcome.next ((State.reqOn_down h2 h0).trans ?_)
    rw [hr]
    rfl
  case offFixed =>
    intro s d path h
    have hr : s.offReason d.val path.val = 1 := if_pos h
    refine congrArg Host.Outcome.next ((if_neg fun hc => by omega).trans ?_)
    rw [hr]
    rfl
  case offBolt =>
    intro s path h3 hb
    exact congrArg Host.Outcome.next (State.reqOff_bolt h3 hb)
  case retainOther => exact fun s d h => congrArg Host.Outcome.next (if_pos h)
  case retainBolt =>
    exact fun s h3 he hb hs => congrArg Host.Outcome.next <| (if_neg (by decide)).trans <| (if_neg (by rw [h3]; decide)).trans <|
      (if_neg (not_not.mpr he)).trans <| (if_neg (ne_true_of_eq_false hb)).trans <| (if_neg (ne_true_of_eq_false hs)).trans
        (if_neg (not_not.mpr h3))
  case granted =>
    intro s n d fr hd hq hr hl
    obtain ⟨v, hgq, hgt, hgl, hx⟩ := exec_governorAdmit_domain (n := n) hq hr hl
    refine ⟨_, hx, ?_, ?_, ?_, ?_⟩
    · rw [State.domState_showGov_bump]
      exact State.domState_setDom _ hd (by decide)
    · rw [State.gov_showGov_bump, State.setDom_gov, hgq]
    · rw [State.gov_showGov_bump, State.setDom_gov, hgt]
    · rw [State.gov_showGov_bump, State.setDom_gov, hgl]
  case saved => exact fun s d h ho => ⟨_, (exec_saveDone h).trans (if_neg (ne_true_of_eq_false ho)), State.domState_saved d.isLt⟩
  case savedBolt =>
    exact fun s h ho => ⟨_, (exec_saveDone h).trans (if_neg (ne_true_of_eq_false ho)), State.domState_saved (by decide), rfl, rfl⟩
  case saveNone => exact fun s d h => if_pos h
  case loading => exact fun s d h hd he => (if_neg (not_not.mpr h)).trans (if_pos ⟨hd, he⟩)
  case boltUp =>
    intro s h hk ho
    exact (if_neg (not_not.mpr h)).trans ((if_neg fun hc => absurd hc.1 (by decide)).trans
      (congrArg Host.Outcome.next (State.domUp_bolt hk ho)))
  case memUp =>
    exact fun s h ho => (if_neg (not_not.mpr h)).trans ((if_neg fun hc => absurd hc.1 (by decide)).trans
      (congrArg Host.Outcome.next (State.domUp_mem ho)))
  case reloaded => exact fun s h hn ho => exec_tableReloadDone_weft h hn ho
  case reloadNone => exact fun s d h => if_pos h
  case retained => exact fun s h hr => if_pos ⟨h, hr⟩
  case retainNone => exact fun s h => if_neg fun hc => h.elim (· hc.1) (· hc.2)
  case clearNone => exact fun s h => if_pos (h.imp_left ne_true_of_eq_false)
  case clears =>
    intro s hs ht
    have ho : Only requestWords (s.unflag fPWR_THERM_SHUTDOWN)
        ((s.unflag fPWR_THERM_SHUTDOWN).forN 8 fun s d => if 2 ≤ d ∧ s.domEn d then s.engineWake d else s) :=
      Only.foldl (Only.refl _ _) fun _ hu => hu.when (·.engineWake)
    exact ⟨_, if_neg fun h => h.elim (· hs) (fun hc => absurd ht (not_lt.mpr hc)), (ho.is (by decide)).trans
      (State.is_unflag _ _ _ (by decide))⟩
  case core =>
    exact fun s rail hr => ⟨_, exec_supplyExcursion_core s hr, s.coreNoted_shows⟩
  case inside => exact exec_supplyExcursion_inside
  case wake =>
    intro s hs
    obtain ⟨-, -, hw⟩ := State.wakeOne_forN hs (n := 8) le_rfl
    exact ⟨_, rfl, fun d h2 h8 h3 he h0 => hw d h2 h8 h3 he h0⟩
  case onUp =>
    exact fun s d h2 h => ⟨_, congrArg Host.Outcome.next (State.reqOn_up h2 h), rfl, rfl, (Only.setReq (Only.refl _ s)).rest⟩
  case offDown =>
    exact fun s d path h2 h => ⟨_, congrArg Host.Outcome.next (if_pos ⟨h2, h⟩), rfl, rfl, (Only.setReq (Only.refl _ s)).rest⟩
  case retainHeld => exact fun s h => congrArg Host.Outcome.next ((if_neg (by decide)).trans (if_pos h))
  case savedWakes => exact fun s d h ho => ⟨_, (exec_saveDone h).trans (if_pos ho), State.domState_wakeAsk _ d.isLt⟩
  case wakeNone => exact fun s d h => if_pos h
  case railOff =>
    exact fun s rail h2 h => exec_supplyExcursion_off h2 h

end Sys2Proof.Machine

/-! # Fault records, classes, the fault hold and the end of an injection (R568 to R585) -/

namespace Sys2Proof.Machine

-- one thread at a time: the check holds the whole text in memory
set_option Elab.async false

section
variable {s t : State} {ws : List Nat} {d : Det} {f : Fld} {o : Nat}

/-! ### The log (R575) -/

/-- The words that a record in slot `i` of the log takes. -/
def logWords (i : Nat) : List Nat :=
  [aFAULT_LOG_PTR, aFAULT_LOG + 4 * i, aFAULT_LOG + 4 * i + 1, aFAULT_LOG + 4 * i + 2, aFAULT_LOG + 4 * i + 3]

/-- The count of a record that overwrites one not read. -/
def State.logLost (s : State) : State := if 64 ≤ s.selv.written then s.bump fFAULT_LOG_PTR_LOST else s

/-- The four words of a record in slot `i`. -/
def State.logSlot (s : State) (i : Nat) (w0 w1 w2 w3 : Word) : State :=
  (((s.setWord (aFAULT_LOG + 4 * i) w0).setWord (aFAULT_LOG + 4 * i + 1) w1).setWord (aFAULT_LOG + 4 * i + 2) w2).setWord
    (aFAULT_LOG + 4 * i + 3) w3

/-- The pointer of the log after a record in slot `i`. -/
def State.logNext (s : State) (i : Nat) : State :=
  (s.put fFAULT_LOG_PTR_WR ((i + 1) % 64)).put fFAULT_LOG_PTR_TOTAL ((s.get fFAULT_LOG_PTR_TOTAL + 1) % 2 ^ 18)

theorem State.logRecord_regs (s : State) (w0 w1 w2 w3 : Word) : (s.logRecord w0 w1 w2 w3).regs =
    ((s.logLost.logSlot (s.get fFAULT_LOG_PTR_WR) w0 w1 w2 w3).logNext (s.get fFAULT_LOG_PTR_WR)).regs := rfl

theorem Only.logSlot {i : Nat} {w0 w1 w2 w3 : Word} (h : Only ws s t) (hw : logWords i ⊆ ws) : Only ws s (t.logSlot i w0 w1 w2 w3) :=
  ((((h.setWord (hw (by simp [logWords]))).setWord (hw (by simp [logWords]))).setWord (hw (by simp [logWords]))).setWord
    (hw (by simp [logWords])))

theorem Only.logNext {i : Nat} (h : Only ws s t) (hw : aFAULT_LOG_PTR ∈ ws := by decide) : Only ws s (t.logNext i) := (h.put hw).put hw

theorem Only.logRecord {w0 w1 w2 w3 : Word} (h : Only ws s t) (hw : logWords (t.get fFAULT_LOG_PTR_WR) ⊆ ws) :
    Only ws s (t.logRecord w0 w1 w2 w3) :=
  have hp : aFAULT_LOG_PTR ∈ ws := hw (by simp [logWords])
  Only.rest (((h.when (·.bump hp)).logSlot hw).logNext hp) (State.logRecord_regs ..)

/-- The four words of a record. -/
theorem State.word_logRecord (s : State) (w0 w1 w2 w3 : Word) :
    (s.logRecord w0 w1 w2 w3).word (aFAULT_LOG + 4 * s.get fFAULT_LOG_PTR_WR) = w0 ∧
    (s.logRecord w0 w1 w2 w3).word (aFAULT_LOG + 4 * s.get fFAULT_LOG_PTR_WR + 1) = w1 ∧
    (s.logRecord w0 w1 w2 w3).word (aFAULT_LOG + 4 * s.get fFAULT_LOG_PTR_WR + 2) = w2 ∧
    (s.logRecord w0 w1 w2 w3).word (aFAULT_LOG + 4 * s.get fFAULT_LOG_PTR_WR + 3) = w3 := by
  obtain ⟨i, hi⟩ : ∃ i, i = s.get fFAULT_LOG_PTR_WR := ⟨_, rfl⟩
  obtain ⟨u, hu⟩ : ∃ u, u = s.logLost.logSlot i w0 w1 w2 w3 := ⟨_, rfl⟩
  have hw : ∀ a, aFAULT_LOG ≤ a → (s.logRecord w0 w1 w2 w3).word a = u.word a := by
    intro a ha
    rw [State.word_congr (State.logRecord_regs s w0 w1 w2 w3), ← hi, ← hu]
    refine ((Only.refl [aFAULT_LOG_PTR] u).logNext) a ?_
    simp only [List.mem_singleton, aFAULT_LOG_PTR]
    unfold aFAULT_LOG at ha
    omega
  rw [← hi, hw _ (by omega), hw _ (by omega), hw _ (by omega), hw _ (by omega), hu]
  unfold State.logSlot
  refine ⟨?_, ?_, ?_, State.word_setWord_same ..⟩
  · rw [State.word_setWord_ne _ _ (by omega), State.word_setWord_ne _ _ (by omega), State.word_setWord_ne _ _ (by omega),
      State.word_setWord_same]
  · rw [State.word_setWord_ne _ _ (by omega), State.word_setWord_ne _ _ (by omega), State.word_setWord_same]
  · rw [State.word_setWord_ne _ _ (by omega), State.word_setWord_same]

theorem State.get_logRecord_wr (s : State) (w0 w1 w2 w3 : Word) :
    (s.logRecord w0 w1 w2 w3).get fFAULT_LOG_PTR_WR = (s.get fFAULT_LOG_PTR_WR + 1) % 64 := by
  rw [State.get_congr (State.logRecord_regs s w0 w1 w2 w3)]
  exact (State.get_put_apart _ _ (by decide)).trans (State.get_put_of_lt _ (by decide) (Nat.mod_lt _ (by decide)))

/-- Every word of a record lies in the log. -/
theorem lt_of_mem_logWords {a i : Nat} (h : a ∈ logWords i) : a = aFAULT_LOG_PTR ∨ aFAULT_LOG ≤ a := by
  simp only [logWords, List.mem_cons, List.not_mem_nil, or_false] at h
  omega

theorem not_mem_logWords {a i : Nat} (hp : a ≠ aFAULT_LOG_PTR) (ha : a < aFAULT_LOG) : a ∉ logWords i :=
  fun h => (lt_of_mem_logWords h).elim hp (Nat.not_le.mpr ha)

theorem State.logRecord_detected (s : State) (w0 w1 w2 w3 : Word) : (s.logRecord w0 w1 w2 w3).detected = s.detected := by
  refine Eq.trans (b := s.logLost.detected) rfl ?_
  unfold State.logLost
  split
  · exact State.bump_detected ..
  · rfl

/-! ### The pins (R570, R571) -/

theorem Only.showPins (h : Only ws s t) (hw : aFAULT_STATUS ∈ ws := by decide) : Only ws s t.showPins :=
  .ite (Only.rest ((h.put (f := fFAULT_STATUS_FAULT_N) hw).put (f := fFAULT_STATUS_INT_N) hw))
    ((h.put (f := fFAULT_STATUS_FAULT_N) hw).put (f := fFAULT_STATUS_INT_N) hw)

theorem State.showPins_detected (s : State) : s.showPins.detected = s.detected := by
  unfold State.showPins
  dsimp only
  split <;> rfl

/-- The pins show in their own two fields. -/
theorem State.is_showPins (s : State) (hf : fFAULT_STATUS_FAULT_N.Apart 0 f o) (hi : fFAULT_STATUS_INT_N.Apart 0 f o) :
    s.showPins.is f o = s.is f o := by
  obtain ⟨u, hu⟩ : ∃ u, u = (s.put fFAULT_STATUS_FAULT_N (b2n s.faultPin)).put fFAULT_STATUS_INT_N (b2n s.intPin) := ⟨_, rfl⟩
  have hr : s.showPins.regs = u.regs := by
    rw [hu]
    unfold State.showPins
    dsimp only
    split <;> rfl
  rw [State.is_congr hr, hu, State.is_put_apart _ _ hi, State.is_put_apart _ _ hf]

/-! ### What follows the record of a fault (R572, R577, R582) -/

/-- The injection `x` has had its record, `n` ns after the fault. -/
def State.injAnswered (s : State) (x : InjSt) (n : Nat) : State :=
  ((s.free.2.setInj { x with done := true, seen := true }).flag fFAULT_INJ_STATUS_DONE).put fFAULT_INJ_STATUS_LAT n

theorem State.injAnswered_detected (s : State) (x : InjSt) (n : Nat) : (s.injAnswered x n).detected = s.detected := by
  unfold State.injAnswered
  rw [State.put_detected, State.flag_detected]
  rfl

theorem Only.injAnswered (s : State) (x : InjSt) (n : Nat) : Only [aFAULT_INJ_STATUS] s (s.injAnswered x n) := by
  have hr : Only [aFAULT_INJ_STATUS] s (s.free.2.setInj { x with done := true, seen := true }) := .of_regs rfl
  exact (hr.flag).put

/-- What a record does for the injection that caused its fault. -/
theorem State.injRecord_cases (s : State) (d : Det) : s.injRecord d = s ∨ ∃ u, u = s.flag fFAULT_STATUS_INJ_SEEN ∧ (s.injRecord d = u ∨
    (∃ x, s.injRecord d = u.setInj x) ∨ ∃ x n, s.injRecord d = u.injAnswered x n ∨
      s.injRecord d = (u.injAnswered x n).unflag fFAULT_INJ_STATUS_BUSY) := by
  unfold State.injRecord
  split
  · exact .inl rfl
  · refine .inr ⟨_, rfl, ?_⟩
    dsimp only
    split
    · exact .inl rfl
    next x _ =>
      split
      · exact .inr (.inl ⟨_, rfl⟩)
      · refine .inr (.inr ⟨x, (s.flag fFAULT_STATUS_INJ_SEEN).free.1 % 1001, ?_⟩)
        unfold State.injAnswered
        split
        · exact .inr rfl
        · exact .inl rfl

/-- Of the record's own words it touches one flag. -/
theorem State.injRecord_keeps (s : State) (d : Det) : (s.injRecord d).detected = s.detected ∧
    Only [aFAULT_STATUS, aFAULT_INJ_STATUS] s (s.injRecord d) ∧
    ∀ f o, fFAULT_STATUS_INJ_SEEN.Apart 0 f o → f.base + o ≠ aFAULT_INJ_STATUS → (s.injRecord d).is f o = s.is f o := by
  rcases s.injRecord_cases d with he | ⟨u, hu, hk⟩
  · rw [he]
    exact ⟨rfl, .refl _ s, fun _ _ _ _ => rfl⟩
  have hk' : (s.injRecord d).detected = u.detected ∧ Only [aFAULT_INJ_STATUS] u (s.injRecord d) := by
    rcases hk with he | ⟨x, he⟩ | ⟨x, n, he | he⟩ <;> rw [he]
    · exact ⟨rfl, .refl _ u⟩
    · exact ⟨rfl, .of_regs rfl⟩
    · exact ⟨u.injAnswered_detected x n, .injAnswered u x n⟩
    · exact ⟨u.injAnswered_detected x n, (Only.injAnswered u x n).unflag⟩
  obtain ⟨hd, ho⟩ := hk'
  have hud : u.detected = s.detected := hu ▸ State.flag_detected ..
  have huo : Only [aFAULT_STATUS, aFAULT_INJ_STATUS] s u := hu ▸ (Only.refl _ s).flag
  refine ⟨hd.trans hud, huo.trans (ho.mono (by decide)), fun f o ha hb => ?_⟩
  rw [ho.is (by simpa using hb), hu, State.is_flag_apart _ ha]

theorem State.broadcast_sent (s : State) (f : ChFrame) : Sent (s.noteFrame f) (s.broadcast f) := (Sent.refl _).sendBoth

theorem State.faultFrame_keeps (s : State) (w0 w1 w2 w3 : Word) :
    (s.faultFrame w0 w1 w2 w3).regs = s.regs ∧ (s.faultFrame w0 w1 w2 w3).detected = s.detected := by
  unfold State.faultFrame
  dsimp only
  split
  · exact ⟨rfl, rfl⟩
  · obtain ⟨r, hr⟩ : ∃ r, r = s.newFrame 4 1023 0 [w0, w1, w2, w3, s.sig] := ⟨_, rfl⟩
    have hk : (r.2.noteFrame r.1).regs = s.regs ∧ (r.2.noteFrame r.1).detected = s.detected := by subst hr; exact ⟨rfl, rfl⟩
    rw [← hr, (State.broadcast_sent r.2 r.1).rest]
    exact hk

theorem State.forceLamps_keeps (s : State) : s.forceLamps.regs = s.regs ∧ s.forceLamps.detected = s.detected := by
  have hs : ∀ u l, (if State.lampForced u l then u.setLamp l { u.lamp l with win := none, forced := true } else u).regs = u.regs ∧
      (if State.lampForced u l then u.setLamp l { u.lamp l with win := none, forced := true } else u).detected = u.detected := by
    intro u l
    split <;> exact ⟨rfl, rfl⟩
  refine ⟨State.regs_forN fun u l => (hs u l).1, ?_⟩
  exact List.foldlRecOn (motive := fun t : State => t.detected = s.detected) _ _ rfl fun t h l _ => (hs t l).2.trans h

theorem State.holdStart_keeps (s : State) (c : Nat) : (s.holdStart c).detected = s.detected ∧ Only [aFAULT_STATUS] s (s.holdStart c) ∧
    ∀ f o, fFAULT_STATUS_FHOLD.Apart 0 f o → (s.holdStart c).is f o = s.is f o := by
  unfold State.holdStart
  split
  · obtain ⟨hr, hd⟩ := (s.flag fFAULT_STATUS_FHOLD).forceLamps_keeps
    refine ⟨hd.trans (State.flag_detected ..), ((Only.refl _ s).flag).rest hr, fun f o ha => ?_⟩
    rw [State.is_congr hr, State.is_flag_apart _ ha]
  · exact ⟨rfl, .refl _ s, fun _ _ _ => rfl⟩

/-- What follows the record of a fault: the injection's answer, the pins, the frame and the hold. -/
def State.faultShown (s : State) (d : Det) (w0 w1 w2 w3 : Word) : State :=
  ((s.injRecord d).showPins.faultFrame w0 w1 w2 w3).holdStart d.cls

theorem State.faultShown_keeps (s : State) (d : Det) (w0 w1 w2 w3 : Word) : (s.faultShown d w0 w1 w2 w3).detected = s.detected ∧
    Only [aFAULT_STATUS, aFAULT_INJ_STATUS] s (s.faultShown d w0 w1 w2 w3) ∧
    (s.faultShown d w0 w1 w2 w3).is fFAULT_STATUS_FIRST_VALID = s.is fFAULT_STATUS_FIRST_VALID := by
  obtain ⟨hd, ho, hi⟩ := s.injRecord_keeps d
  obtain ⟨hfr, hfd⟩ := (s.injRecord d).showPins.faultFrame_keeps w0 w1 w2 w3
  obtain ⟨hhd, hho, hhi⟩ := ((s.injRecord d).showPins.faultFrame w0 w1 w2 w3).holdStart_keeps d.cls
  refine ⟨hhd.trans (hfd.trans ((State.showPins_detected _).trans hd)), ?_, ?_⟩
  · exact (Only.rest ho.showPins hfr).trans (hho.mono (by decide))
  · rw [State.faultShown, hhi _ _ (by decide), State.is_congr hfr, State.is_showPins _ (by decide) (by decide), hi _ _ (by decide) (by decide)]

/-! ### A fault is recorded (R573 to R575, R579) -/

/-- The first record of those since the flag was cleared. -/
def State.firstRecord (s : State) (w0 w1 w2 : Word) : State :=
  if s.is fFAULT_STATUS_FIRST_VALID then s
  else (((s.setWord aFAULT_FIRST_LO w0).setWord aFAULT_FIRST_HI w1).setWord aFAULT_FIRST_INFO w2).flag fFAULT_STATUS_FIRST_VALID

/-- The word of FAULT_PREV for a detection. -/
def Det.prevWord (d : Det) : Word := BitVec.ofNat 36 (2 ^ 35 + d.cls * 2 ^ 30 + d.unit % 2048 * 2 ^ 19)

/-- `w` is FAULT_PREV, and no later record of this run of the device is. -/
def State.prevKept (s : State) (w : Word) : State := { s.setWord aFAULT_PREV w with selv := { s.selv with prev := true } }

theorem State.prevKept_detected (s : State) (w : Word) : (s.prevKept w).detected = s.detected := rfl

theorem Only.prevKept (s : State) (w : Word) : Only [aFAULT_PREV] s (s.prevKept w) :=
  Only.rest (t := s.setWord aFAULT_PREV w) ((Only.refl _ s).setWord)

/-- The first record of this run of the device. -/
def State.prevRecord (s : State) (d : Det) : State := if s.selv.prev then s else s.prevKept d.prevWord

/-- The sequence number and the recent pairs after a record. -/
def State.pairNoted (s : State) (d : Det) : State :=
  { s with selv := { s.selv with seq := (s.selv.seq + 1) % 2 ^ 26, pairs := ((d.cls, d.unit) :: s.selv.pairs).take 16 } }

/-- The class of a fault is active and counted. -/
def State.classNoted (s : State) (d : Det) : State :=
  (s.putBit fFAULT_ACTIVE_ACTIVE (d.cls - 1) true).bump fFAULT_COUNT_EVENTS (d.cls - 1)

/-- A new fault with the four words of its record. -/
def State.faultNoted (s : State) (d : Det) (w0 w1 w2 w3 : Word) : State :=
  (((((s.logRecord w0 w1 w2 w3).pairNoted d).firstRecord w0 w1 w2).prevRecord d).classNoted d).faultShown d w0 w1 w2 w3

/-- The word of a record with the module's address and the sequence number. -/
def State.seqWord (s : State) : Word := BitVec.ofNat 36 (s.addr * 2 ^ 26 + (s.selv.seq + 1) % 2 ^ 26)

theorem State.reportFault_new (h : s.isRepeat d = false) : s.reportFault d = s.faultNoted d (tsLo d.inst) (tsHi d.inst) d.word s.seqWord := by
  unfold State.reportFault
  rw [if_neg (ne_true_of_eq_false h)]
  unfold State.faultNoted State.seqWord State.faultShown State.classNoted State.prevRecord State.prevKept Det.prevWord State.firstRecord State.pairNoted
  rfl

theorem State.firstRecord_keeps (s : State) (w0 w1 w2 : Word) : (s.firstRecord w0 w1 w2).detected = s.detected ∧
    Only [aFAULT_FIRST_LO, aFAULT_FIRST_HI, aFAULT_FIRST_INFO, aFAULT_STATUS] s (s.firstRecord w0 w1 w2) ∧
    (s.firstRecord w0 w1 w2).is fFAULT_STATUS_FIRST_VALID = true := by
  unfold State.firstRecord
  split
  · exact ⟨rfl, .refl _ s, ‹_›⟩
  · exact ⟨State.flag_detected .., ((((Only.refl _ s).setWord).setWord).setWord).flag, State.is_flag _ _ _ (by decide)⟩

theorem State.prevRecord_keeps (s : State) (d : Det) : (s.prevRecord d).detected = s.detected ∧ Only [aFAULT_PREV] s (s.prevRecord d) := by
  unfold State.prevRecord
  split
  · exact ⟨rfl, .refl _ s⟩
  · exact ⟨s.prevKept_detected _, .prevKept s _⟩

/-- The words of the active classes and of the counts of their faults. -/
def classWords : List Nat := aFAULT_ACTIVE :: (List.range 25).map (aFAULT_COUNT + ·)

theorem State.classNoted_keeps (s : State) (h1 : 1 ≤ d.cls) (h25 : d.cls ≤ 25) : (s.classNoted d).detected = s.detected ∧
    Only classWords s (s.classNoted d) ∧ (s.classNoted d).classBit fFAULT_ACTIVE_ACTIVE d.cls = true := by
  refine ⟨?_, ?_, ?_⟩
  · unfold State.classNoted
    rw [State.bump_detected, RegsOnly.putBit s]
  · exact Only.bump ((Only.refl _ s).putBit) (List.mem_cons_of_mem _ (List.mem_map_of_mem (List.mem_range.mpr (by omega))))
  · have ha : fFAULT_COUNT_EVENTS.Apart (d.cls - 1) fFAULT_ACTIVE_ACTIVE 0 := .inl (by
      unfold fFAULT_COUNT_EVENTS fFAULT_ACTIVE_ACTIVE aFAULT_COUNT aFAULT_ACTIVE
      simp only
      omega)
    have hb : ((s.putBit fFAULT_ACTIVE_ACTIVE (d.cls - 1) true).bit fFAULT_ACTIVE_ACTIVE (d.cls - 1)) = true :=
      (State.bit_putBit s (by decide) (by simp only [fldWidth, fFAULT_ACTIVE_ACTIVE]; omega)).trans (if_pos rfl)
    exact (congrArg (·.testBit (d.cls - 1)) (State.get_bump_apart _ _ ha)).trans hb

/-- The words that change after the log has taken its record. -/
def faultRecordWords : List Nat :=
  [aFAULT_FIRST_LO, aFAULT_FIRST_HI, aFAULT_FIRST_INFO, aFAULT_STATUS, aFAULT_PREV, aFAULT_INJ_STATUS] ++ classWords

theorem faultRecordWords_lt : ∀ a ∈ faultRecordWords, a < aFAULT_LOG ∧ a ≠ aFAULT_LOG_PTR := by decide

/-- A new fault is recorded. -/
theorem State.faultNoted_shows (s : State) (w0 w1 w2 w3 : Word) (h1 : 1 ≤ d.cls) (h25 : d.cls ≤ 25) :
    (s.faultNoted d w0 w1 w2 w3).detected = s.detected ∧ (s.faultNoted d w0 w1 w2 w3).classBit fFAULT_ACTIVE_ACTIVE d.cls = true ∧
    (s.faultNoted d w0 w1 w2 w3).is fFAULT_STATUS_FIRST_VALID = true ∧
    Only faultRecordWords (s.logRecord w0 w1 w2 w3) (s.faultNoted d w0 w1 w2 w3) := by
  obtain ⟨u, hu⟩ : ∃ u, u = s.logRecord w0 w1 w2 w3 := ⟨_, rfl⟩
  obtain ⟨v, hv⟩ : ∃ v, v = (u.pairNoted d).firstRecord w0 w1 w2 := ⟨_, rfl⟩
  obtain ⟨y, hy⟩ : ∃ y, y = v.prevRecord d := ⟨_, rfl⟩
  obtain ⟨x, hx⟩ : ∃ x, x = y.classNoted d := ⟨_, rfl⟩
  have hn : s.faultNoted d w0 w1 w2 w3 = x.faultShown d w0 w1 w2 w3 := by rw [hx, hy, hv, hu]; rfl
  obtain ⟨hfd, hfo, hfv⟩ := hv ▸ (u.pairNoted d).firstRecord_keeps w0 w1 w2
  obtain ⟨hpd, hpo⟩ := hy ▸ v.prevRecord_keeps d
  obtain ⟨hcd, hco, hcb⟩ := hx ▸ y.classNoted_keeps h1 h25
  obtain ⟨hsd, hso, hsv⟩ := x.faultShown_keeps d w0 w1 w2 w3
  have hud : u.detected = s.detected := hu ▸ State.logRecord_detected ..
  have hu0 : Only faultRecordWords u (u.pairNoted d) := .of_regs rfl
  have hud0 : (u.pairNoted d).detected = u.detected := rfl
  rw [hn, ← hu]
  refine ⟨by rw [hsd, hcd, hpd, hfd, hud0, hud], (hso.bit (by decide)).trans hcb, ?_, ?_⟩
  · rw [hsv, hco.is (by decide), hpo.is (by decide), hfv]
  · exact (((hu0.trans (hfo.mono (by decide))).trans (hpo.mono (by decide))).trans (hco.mono (by decide))).trans (hso.mono (by decide))

theorem exec_selvedgeFaultReport (hd : s.detected = [d]) :
    exec .selvedgeFaultReport s = .next (({ s with detected := [] } : State).reportFault d) := by
  change execSelvedgeFaultReport s = _
  unfold execSelvedgeFaultReport
  have hn : nextDet s.detected = some d := by simp [hd, nextDet, Det.before]
  rw [hn, hd]
  simp

/-! ### A record from another module (R444, R578) -/

/-- The frame of a fault of another module is kept in CHAIN_FAULT_RX and in the log. -/
def State.remoteFault (s : State) (f : ChFrame) : State :=
  ((((s.flag fCHAIN_FAULT_RX_VALID).put fCHAIN_FAULT_RX_SRC f.src).bump fCHAIN_FAULT_RX_COUNT).logRecord (f.words.getD 0 0) (f.words.getD 1 0)
    (setBits (f.words.getD 2 0) 29 1 1) (f.words.getD 3 0)).flag fFAULT_STATUS_REMOTE

theorem State.remoteFault_shows (s : State) (f : ChFrame) : (s.remoteFault f).is fFAULT_STATUS_REMOTE = true ∧
    (s.remoteFault f).is fCHAIN_FAULT_RX_VALID = true ∧ (s.remoteFault f).get fCHAIN_FAULT_RX_SRC = f.src % 1024 ∧
    (s.remoteFault f).get fFAULT_LOG_PTR_WR = (s.get fFAULT_LOG_PTR_WR + 1) % 64 ∧
    (s.remoteFault f).get fFAULT_ACTIVE_ACTIVE = s.get fFAULT_ACTIVE_ACTIVE := by
  obtain ⟨u, hu⟩ : ∃ u, u = ((s.flag fCHAIN_FAULT_RX_VALID).put fCHAIN_FAULT_RX_SRC f.src).bump fCHAIN_FAULT_RX_COUNT := ⟨_, rfl⟩
  obtain ⟨v, hv⟩ : ∃ v, v = u.logRecord (f.words.getD 0 0) (f.words.getD 1 0) (setBits (f.words.getD 2 0) 29 1 1) (f.words.getD 3 0) := ⟨_, rfl⟩
  have ht : s.remoteFault f = v.flag fFAULT_STATUS_REMOTE := by rw [hv, hu]; rfl
  have huo : Only [aCHAIN_FAULT_RX] s u := hu ▸ (((Only.refl _ s).flag).put).bump
  have hvo : Only (logWords (u.get fFAULT_LOG_PTR_WR)) u v := hv ▸ Only.logRecord (Only.refl _ u) (List.Subset.refl _)
  have hto : Only [aFAULT_STATUS] v (v.flag fFAULT_STATUS_REMOTE) := (Only.refl _ v).flag
  rw [ht]
  refine ⟨State.is_flag _ _ _ (by decide), ?_, ?_, ?_, ?_⟩
  · rw [hto.is (by decide), hvo.is (not_mem_logWords (by decide) (by decide)), hu, State.is_bump_apart _ _ (by decide),
      State.is_put_apart _ _ (by decide), State.is_flag _ _ _ (by decide)]
  · rw [hto.get (by decide), hvo.get (not_mem_logWords (by decide) (by decide)), hu, State.get_bump_apart _ _ (by decide),
      State.get_put_same _ _ _ _ (by decide)]
    rfl
  · rw [hto.get (by decide), hv, State.get_logRecord_wr, huo.get (by decide)]
  · rw [hto.get (by decide), hvo.get (not_mem_logWords (by decide) (by decide)), huo.get (by decide)]

/-- A record from another module shows with the pins, and the frame's buffer is free. -/
theorem exec_fault_here {p : Fin 2} {x : ChFrame} {crc : Fin (2 ^ 32)} (hc : s.chained = true) (hu : s.portUp p.val = true)
    (hh : (s.port p.val).heard = true) (ht : x.typ = 4) (hk : frCrcOk x crc.val = true) (hl : frLenOk x = true) (hp : s.placed = true)
    (hd : x.dst = s.addr) (hb : x.dst ≠ 1023) : exec (.fault p x crc) s = .next ((s.remoteFault x).showPins.freeBuf (some p.val) x) :=
  State.chainRecv_here (deliver := fun s => (s.remoteFault x).showPins) hc hu hh ht hk hl (by decide) hp hd hb
    (by simp [State.bothWays, ht])

/-! ### Clearing (R574, R576) -/

theorem bitList_class : ∀ c : Fin 26, 1 ≤ c.val → bitList (Fin.ofNat (2 ^ 31) (2 ^ (c.val - 1))).val 31 = [c.val - 1] := by decide

theorem exec_faultActiveClear {c : Fin 26} (h : 1 ≤ c.val) :
    exec (.faultActiveClear (Fin.ofNat (2 ^ 31) (2 ^ (c.val - 1)))) s = .next (s.clearClass c.val).showPins := by
  change execFaultActiveClear (Fin.ofNat (2 ^ 31) (2 ^ (c.val - 1))) s = _
  unfold execFaultActiveClear
  rw [bitList_class c h, List.foldl_cons, List.foldl_nil, Nat.sub_add_cancel h]

/-- A class whose level does not hold is cleared, and no other. -/
theorem State.clearClass_bits {c : Nat} (h1 : 1 ≤ c) (h25 : c ≤ 25) (hl : s.levelHolds c = false) :
    (s.clearClass c).classBit fFAULT_ACTIVE_ACTIVE c = false ∧
    ∀ e, 1 ≤ e → e ≠ c → (s.clearClass c).classBit fFAULT_ACTIVE_ACTIVE e = s.classBit fFAULT_ACTIVE_ACTIVE e := by
  unfold State.clearClass
  split
  next hn => exact ⟨eq_false_of_ne_true hn, fun _ _ _ => rfl⟩
  next =>
    rw [if_neg (ne_true_of_eq_false hl)]
    have hb (j : Nat) : (s.putBit fFAULT_ACTIVE_ACTIVE (c - 1) false).bit fFAULT_ACTIVE_ACTIVE j =
        if j = c - 1 then false else s.bit fFAULT_ACTIVE_ACTIVE j :=
      State.bit_putBit s (by decide) (by simp only [fldWidth, fFAULT_ACTIVE_ACTIVE]; omega)
    exact ⟨(hb _).trans (if_pos rfl), fun e he hne => (hb _).trans (if_neg (by omega))⟩

theorem State.classBit_showPins (s : State) (c : Nat) :
    s.showPins.classBit fFAULT_ACTIVE_ACTIVE c = s.classBit fFAULT_ACTIVE_ACTIVE c := ((Only.refl [aFAULT_STATUS] s).showPins).bit (by decide)

/-! ### The end of an injection (R582 to R584) -/

theorem exec_missed {y : InjSt} (h : s.selv.inj = some y) (hd : y.done = false) (ht : y.test = false) : exec .missed s =
    .next ((((s.flowTo (tAdd y.start (s.usUp (s.injWindow y)))).setInj { y with done := true }).flag fFAULT_INJ_STATUS_MISSED).unflag
      fFAULT_INJ_STATUS_BUSY) := by
  change execMissed s = _
  unfold execMissed
  rw [h]
  exact (if_neg (ne_true_of_eq_false hd)).trans (if_pos (ne_true_of_eq_false ht))

/-- The rail and the guard when an injection's extent ends. -/
def State.injRestored (s : State) (y : InjSt) : State :=
  let s : State := if y.kind = 4 ∧ ¬ y.test then { s with clk := { s.clk with guardAt := s.now } } else s
  if y.kind = 22 ∧ ¬ y.test then { s with selv := { s.selv with rails := withBit s.selv.rails y.unit false } } else s

theorem State.injRestored_regs (s : State) (y : InjSt) : (s.injRestored y).regs = s.regs := by
  unfold State.injRestored
  dsimp only
  split <;> split <;> rfl

theorem exec_injectionEnd {y : InjSt} {n : Nat} (h : s.selv.inj = some y) (hb : s.is fFAULT_INJ_STATUS_BUSY = true) (ht : y.test = false)
    (he : s.injEnd y = some n) : exec .injectionEnd s = .next (((s.flowTo n).unflag fFAULT_INJ_STATUS_BUSY).injRestored y) := by
  change execInjectionEnd s = _
  unfold execInjectionEnd
  rw [h]
  dsimp only
  rw [if_pos hb, he]
  exact if_pos (.inl (ne_true_of_eq_false ht))

theorem exec_injectionEnd_running {y : InjSt} (h : s.selv.inj = some y) (he : s.is fFAULT_INJ_STATUS_BUSY = false ∨ s.injEnd y = none) :
    exec .injectionEnd s = .next s := by
  have hn : (if s.is fFAULT_INJ_STATUS_BUSY = true then s.injEnd y else none) = none := by
    rcases he with hb | he
    · exact if_neg (ne_true_of_eq_false hb)
    · rw [he, ite_self]
  change execInjectionEnd s = _
  unfold execInjectionEnd
  rw [h]
  dsimp only
  rw [hn]
  rfl

theorem exec_injectionEnd_none (h : s.selv.inj = none) : exec .injectionEnd s = .next s := by
  change execInjectionEnd s = _
  unfold execInjectionEnd
  rw [h]
  rfl

end

/-- Settles O46: a new fault is recorded as `State.faultNoted_shows` says, in the slot that `State.word_logRecord` fills; a class clears by
`State.clearClass_bits`. The SEQ of a record and the pairs that make a repeat are log entry 84, SVC_STALE is log entry 85; BUSY until the end of
the extent, and the rail put back there, are log entry 86. -/
theorem faultReports : Obligations.FaultReports := by
  unfold Obligations.FaultReports
  refine ⟨?none, ?new, ?again, ?remote, ?clear, ?refused, ?noHold, ?holdKept, ?holdEnds, ?pin, ?pinNone, ?disagree, ?stale, ?staleNone,
    ?logic, ?missed, ?missedNone, ?ends, ?endsLoop, ?endsRail, ?running, ?idle⟩
  case none =>
    intro s h
    change execSelvedgeFaultReport s = _
    unfold execSelvedgeFaultReport
    rw [h]
    rfl
  case new =>
    intro s d hd hr h1 h25
    obtain ⟨v, hv⟩ : ∃ v : State, v = { s with detected := [] } := ⟨_, rfl⟩
    have hvr : v.regs = s.regs := hv ▸ rfl
    obtain ⟨hdet, hact, hfirst, ho⟩ := v.faultNoted_shows (d := d) (tsLo d.inst) (tsHi d.inst) d.word v.seqWord h1 h25
    obtain ⟨hw0, hw1, hw2, hw3⟩ := v.word_logRecord (tsLo d.inst) (tsHi d.inst) d.word v.seqWord
    have hwr := v.get_logRecord_wr (tsLo d.inst) (tsHi d.inst) d.word v.seqWord
    have hp : v.get fFAULT_LOG_PTR_WR = s.get fFAULT_LOG_PTR_WR := State.get_congr hvr ..
    have hlog : ∀ a, aFAULT_LOG ≤ a → a ∉ faultRecordWords := fun a ha hm => absurd (faultRecordWords_lt a hm).1 (Nat.not_lt.mpr ha)
    have hseq : v.seqWord = s.seqWord := by
      have ha : v.addr = s.addr := State.get_congr hvr ..
      rw [State.seqWord, ha, hv]
      rfl
    have hx : exec .selvedgeFaultReport s = .next (v.faultNoted d (tsLo d.inst) (tsHi d.inst) d.word v.seqWord) := by
      rw [exec_selvedgeFaultReport hd, ← hv, State.reportFault_new (hv ▸ hr)]
    rw [hp] at hw0 hw1 hw2 hw3 hwr
    refine ⟨_, hx, ?_, ?_, ?_, ?_, ?_, hact, hfirst, ?_⟩
    · exact (ho _ (hlog _ (by omega))).trans hw0
    · exact (ho _ (hlog _ (by omega))).trans hw1
    · exact (ho _ (hlog _ (by omega))).trans hw2
    · exact (ho _ (hlog _ (by omega))).trans (hw3.trans hseq)
    · rw [ho.get (by decide), hwr]
    · rw [hdet, hv]
  case again =>
    intro s d hd hr
    exact (exec_selvedgeFaultReport hd).trans (congrArg Host.Outcome.next (if_pos hr))
  case remote =>
    intro s p f crc hc hu hh ht hk hl hp hd hb
    obtain ⟨hr, hv, hs, hw, ha⟩ := s.remoteFault_shows f
    have hf : ((s.remoteFault f).showPins.freeBuf (some p.val) f).regs = (s.remoteFault f).showPins.regs := (Sent.refl _).freeBuf.regs
    have ho : Only [aFAULT_STATUS] (s.remoteFault f) ((s.remoteFault f).showPins.freeBuf (some p.val) f) := ((Only.refl _ _).showPins).rest hf
    refine ⟨_, exec_fault_here hc hu hh ht hk hl hp hd hb, ?_, (ho.is (by decide)).trans hv, (ho.get (by decide)).trans hs,
      (ho.get (by decide)).trans hw, (ho.get (by decide)).trans ha⟩
    rw [State.is_congr hf, State.is_showPins _ (by decide) (by decide), hr]
  case clear =>
    intro s c h1 hl
    obtain ⟨hc, he⟩ := State.clearClass_bits h1 (Nat.lt_succ_iff.mp c.isLt) hl
    exact ⟨_, exec_faultActiveClear h1, (State.classBit_showPins ..).trans hc, fun e h1 _ hne => (State.classBit_showPins ..).trans (he e h1 hne)⟩
  case refused =>
    intro s c h1 hl hc
    have hx : s.clearClass c.val = s.flag fFAULT_STATUS_CLEAR_REFUSED := (if_neg (not_not.mpr hc)).trans (if_pos hl)
    have ho : Only [aFAULT_STATUS] s (s.flag fFAULT_STATUS_CLEAR_REFUSED).showPins := ((Only.refl _ s).flag).showPins
    refine ⟨_, (exec_faultActiveClear h1).trans (by rw [hx]), ?_, ho.get (by decide)⟩
    rw [State.is_showPins _ (by decide) (by decide), State.is_flag _ _ _ (by decide)]
  case noHold => exact fun s h => if_pos (ne_true_of_eq_false h)
  case holdKept => exact fun s h ha => (if_neg (not_not.mpr h)).trans (if_pos ha)
  case holdEnds =>
    intro s h ha
    have hc : Only [aTB_LOAD_CTRL] (s.unflag fFAULT_STATUS_FHOLD) (s.unflag fFAULT_STATUS_FHOLD).checkLoad := (Only.refl _ _).checkLoad
    refine ⟨_, (if_neg (not_not.mpr h)).trans (if_neg (not_not.mpr ha)), ?_, ((Only.refl _ s).unflag).checkLoad⟩
    exact (hc.is (by decide)).trans (State.is_unflag _ _ _ (by decide))
  case pin => exact fun s pin h => if_pos h
  case pinNone => exact fun s pin h => if_neg (ne_true_of_eq_false h)
  case disagree => exact fun s => rfl
  case stale => exact fun s h => if_neg (Nat.not_lt.mpr h)
  case staleNone => exact fun s h => if_pos h
  case logic => exact fun s island sub => rfl
  case missed => exact fun s y h hd ht => exec_missed h hd ht
  case missedNone =>
    intro s h
    change execMissed s = _
    unfold execMissed
    cases hi : s.selv.inj with
    | none => rfl
    | some y => exact if_pos (by simpa [hi] using h)
  case ends =>
    intro s y u h hb ht h22 h4 he
    refine (exec_injectionEnd h hb ht he).trans (congrArg Host.Outcome.next ?_)
    simp [State.injRestored, h22, h4]
  case endsLoop =>
    intro s y u h hb ht h4 he
    refine ⟨_, exec_injectionEnd h hb ht he, ?_, ?_⟩
    · rw [State.is_congr (State.injRestored_regs ..), State.is_unflag _ _ _ (by decide)]
    · simp [State.injRestored, h4, ht]
  case endsRail =>
    intro s y u h hb ht h22 he
    refine ⟨_, exec_injectionEnd h hb ht he, ?_, ?_⟩
    · rw [State.is_congr (State.injRestored_regs ..), State.is_unflag _ _ _ (by decide)]
    · simp [State.injRestored, h22, ht, testBit_withBit]
  case running => exact fun s y h he => exec_injectionEnd_running h (.inr he)
  case idle =>
    intro s h
    cases hi : s.selv.inj with
    | none => exact exec_injectionEnd_none hi
    | some y => exact exec_injectionEnd_running hi (.inl (h.resolve_right (by simp [hi])))

end Sys2Proof.Machine

/-! # An injected phase step that acts as a loss of lock (R92, R582, R583) -/

namespace Sys2Proof.Machine

-- one thread at a time: the check holds the whole text in memory
set_option Elab.async false

/-- A state on PLL_W in which the phase watch acts as a loss of lock, with VALUE a step of 100, while a calibration of master outputs runs, of a
unit that no master output has: the word in which its role would show is FAULT_INJ_STATUS. -/
def State.strayStep : State :=
  { (State.reset.put fCLK_PHASE_WATCH_PS_ACTION 1).setWord aFAULT_INJ_ARG (BitVec.ofNat 36 (100 * 2 ^ 26)) with
    cal := { phase := 6, kind := 1, cur := 4 * (aFAULT_INJ_STATUS - aMOUT_GEN) } }

/-- Is an injection BUSY after a step? -/
def Out.busyAfter : Out → Bool
  | .next t => t.is fFAULT_INJ_STATUS_BUSY
  | _ => true

/-- The loss of lock aborts the calibration, which gives the stray generator its role back in the bits of BUSY. -/
theorem busyAfter_strayStep : Out.busyAfter (exec (.pllwStep 0 0 false true) State.strayStep) = false := by decide +kernel

/-- Refutes O47: PLLW_STEP is said to leave BUSY set in every case, but a step that the watch flags with PS_ACTION set is a loss of lock, which
aborts a calibration, and the abort writes a role in the word of the unit that ran: in `State.strayStep` that word is FAULT_INJ_STATUS. That the
watch flags a step of this size is log entry 15, that GO takes effect at once is log entry 86. -/
theorem not_injections : ¬ Obligations.Injections := by
  unfold Obligations.Injections
  rintro ⟨-, -, -, -, -, -, -, -, -, -, -, -, hstep, -⟩
  have haccepted : State.strayStep.injReason true 5 (0 : Fin 2048).val = 0 := by decide
  obtain ⟨t, ht, hbusy, -⟩ := hstep State.strayStep 0 0 true haccepted
  have hclear : t.is fFAULT_INJ_STATUS_BUSY = false := (congrArg Out.busyAfter ht).symm.trans busyAfter_strayStep
  exact Bool.false_ne_true (hclear.symm.trans hbusy)

end Sys2Proof.Machine

/-! # Frames, pulses, windows, cuts and latches of the lamp outputs (R605 to R615) -/

namespace Sys2Proof.Machine

-- one thread at a time: the check holds the whole text in memory
set_option Elab.async false

/-! ### An output in the list of outputs -/

section
variable {s t : State} {l n : Nat}

theorem State.lamp_congr (h : t.lamps = s.lamps) (l : Nat) : t.lamp l = s.lamp l := congrArg (fun x : LampsSt => nth x.outs l) h

theorem State.lamp_setLamp (h : l < s.lamps.outs.length) (x : LampSt) : (s.setLamp l x).lamp l = x := by
  simp [State.setLamp, State.lamp, nth, h]

theorem State.setLamp_setLamp (s : State) (l : Nat) (x y : LampSt) : (s.setLamp l x).setLamp l y = s.setLamp l y := by
  simp [State.setLamp]

/-- Outside the list of outputs nothing is kept. -/
theorem State.setLamp_outside (h : ¬ l < s.lamps.outs.length) (x : LampSt) : s.setLamp l x = s := by
  simp [State.setLamp, List.set_eq_of_length_le (Nat.le_of_not_lt h)]

/-- A field of an output set twice is set in what the first set. -/
theorem State.setLamp_again (s : State) (l : Nat) (x : LampSt) (g : LampSt → LampSt) :
    (s.setLamp l x).setLamp l (g ((s.setLamp l x).lamp l)) = s.setLamp l (g x) := by
  by_cases hl : l < s.lamps.outs.length
  · rw [State.lamp_setLamp hl, State.setLamp_setLamp]
  · simp only [State.setLamp_outside hl]

/-! ### What shows a status, and what captures and cuts leave -/

theorem State.showLamp_lamps (s : State) (l : Nat) : (s.showLamp l).lamps = s.lamps := by
  unfold State.showLamp
  dsimp only
  split <;> simp

/-- No output's overcurrent bits change, and no output joins or leaves the list. -/
structure CutBitsKept (s t : State) : Prop where
  length : t.lamps.outs.length = s.lamps.outs.length
  latch : ∀ p, t.get fLAMP_STAT_OC_LATCH p = s.get fLAMP_STAT_OC_LATCH p
  cut : ∀ p, t.get fLAMP_STAT_OC_CUT p = s.get fLAMP_STAT_OC_CUT p

theorem CutBitsKept.refl (s : State) : CutBitsKept s s := ⟨rfl, fun _ => rfl, fun _ => rfl⟩

theorem CutBitsKept.setLamp (h : CutBitsKept s t) {x : LampSt} : CutBitsKept s (t.setLamp l x) :=
  ⟨by rw [← h.length]; exact List.length_set, h.latch, h.cut⟩

theorem CutBitsKept.setMat (h : CutBitsKept s t) {x : LampSt} : CutBitsKept s (t.setMat n x) := ⟨h.length, h.latch, h.cut⟩

theorem CutBitsKept.ite {u : State} {c : Prop} {_ : Decidable c} (ht : CutBitsKept s t) (hu : CutBitsKept s u) :
    CutBitsKept s (if c then t else u) := by
  split
  exacts [ht, hu]

theorem CutBitsKept.foldl {α : Type} {xs : List α} {g : State → α → State} (h : CutBitsKept s t)
    (hg : ∀ u x, CutBitsKept s u → CutBitsKept s (g u x)) : CutBitsKept s (xs.foldl g t) :=
  List.foldlRecOn _ _ h fun u hu x _ => hg u x hu

theorem CutBitsKept.showLamp (h : CutBitsKept s t) : CutBitsKept s (t.showLamp l) := by
  refine .ite h ⟨by rw [State.flag_lamps, State.put_lamps, h.length], fun p => ?_, fun p => ?_⟩
  · rw [State.get_flag_apart _ (.inr (by decide)), State.get_put_apart _ _ (.inr (by decide)), h.latch]
  · rw [State.get_flag_apart _ (.inr (by decide)), State.get_put_apart _ _ (.inr (by decide)), h.cut]

theorem CutBitsKept.starved (h : CutBitsKept s t) : CutBitsKept s (t.starved l) := by
  refine .showLamp (.setLamp ⟨by rw [State.bump_lamps, h.length], fun p => ?_, fun p => ?_⟩)
  · rw [State.get_bump_apart _ _ (.inr (by decide)), h.latch]
  · rw [State.get_bump_apart _ _ (.inr (by decide)), h.cut]

theorem CutBitsKept.captureCut (h : CutBitsKept s t) : CutBitsKept s (t.captureCut l) :=
  .ite (.foldl h fun _ _ hu => hu.setMat) (.ite h.setLamp.starved h.setLamp)

/-- The matrix lamps' words lie above those of every output. -/
theorem State.get_showMat {f : Fld} (hf : f.base = aLAMP_STAT) (s : State) (i : Nat) {p : Nat} (hp : p < 32) : (s.showMat i).get f p = s.get f p := by
  have hne : f.base + p ≠ aMATRIX_STAT + i := by
    rw [hf]
    unfold aLAMP_STAT aMATRIX_STAT
    omega
  unfold State.showMat State.putMat
  dsimp only
  rw [State.get_setWord_ne _ _ hne, State.get_setWord_ne _ _ hne]

end

/-! ### Frames -/

section
variable {s : State}

theorem State.planStretch_running (s : State) (l : Nat) : (s.planStretch l).lamps.running = s.lamps.running := by
  unfold State.planStretch
  dsimp only
  split
  · rfl
  split
  · rw [State.bump_lamps]; rfl
  split
  · rw [State.bump_lamps]; rfl
  · rfl

theorem State.frameStart_running (s : State) (el : Nat) : (s.frameStart el).lamps.running = true := by
  unfold State.frameStart
  extract_lets
  refine List.foldlRecOn (motive := fun u : State => u.lamps.running = true) _ _ rfl fun u hu l _ => ?_
  exact (State.planStretch_running _ l).trans hu

theorem exec_frameSync_own {ticks : Nat} (hf : s.is fLAMP_FRAME_CFG_FS_SRC = true) : exec (.frameSync ticks) s = .next s := if_pos hf

theorem exec_frameSync_first {ticks : Nat} (hf : s.is fLAMP_FRAME_CFG_FS_SRC = false) (hr : s.lamps.running = false) :
    exec (.frameSync ticks) s = .next { s.frameStart ticks with lamps := { (s.frameStart ticks).lamps with fresh := false } } :=
  (if_neg (Bool.eq_false_iff.mp hf)).trans (if_pos (.inr (Bool.eq_false_iff.mp hr)))

/-- An edge while frames run is judged by its ticks after the last frame start alone. -/
theorem exec_frameSync_later {ticks : Nat} (hf : s.is fLAMP_FRAME_CFG_FS_SRC = false) (hn : s.lamps.fresh = false) (hr : s.lamps.running = true) :
    exec (.frameSync ticks) s =
      if ticks ≤ 1 then .next s
      else if 100 * ticks < 99 * s.frameTicks then .next (s.flag fLAMP_STATUS_FS_ERR)
      else if 100 * ticks ≤ 101 * s.frameTicks then .next (s.frameStart ticks)
      else noEvent s :=
  (if_neg (Bool.eq_false_iff.mp hf)).trans (if_neg (by simp [hn, hr]))

theorem exec_frameFlywheel_own (hf : s.is fLAMP_FRAME_CFG_FS_SRC = true) : exec .frameFlywheel s = .next (s.frameStart s.frameTicks) := if_pos hf

theorem exec_frameFlywheel_lost (hf : s.is fLAMP_FRAME_CFG_FS_SRC = false) (hr : s.lamps.running = true) :
    exec .frameFlywheel s = .next (((s.flag fLAMP_STATUS_FS_LOST).bump fLAMP_STATUS_FLYWHEEL).frameStart (101 * s.frameTicks / 100)) :=
  (if_neg (Bool.eq_false_iff.mp hf)).trans (if_neg (not_not.mpr hr))

theorem exec_frameFlywheel_none (hf : s.is fLAMP_FRAME_CFG_FS_SRC = false) (hr : s.lamps.running = false) : exec .frameFlywheel s = .next s :=
  (if_neg (Bool.eq_false_iff.mp hf)).trans (if_pos (Bool.eq_false_iff.mp hr))

end

/-! ### Pulses and windows -/

/-- No pulse of output `l` is due. -/
def State.PulseNone (s : State) (l : Nat) : Prop :=
  ¬ s.lamps.running ∨ s.lampClass l ≠ 1 ∨ (s.get fLAMP_PULSE_B_COUNT l ≠ 0 ∧ s.get fLAMP_PULSE_B_COUNT l ≤ (s.lamp l).k) ∨
    s.frameTicks ≤ 4 * s.get fLAMP_PULSE_A_OFFSET l + (s.lamp l).k * s.lampPeriod l

/-- No window of output `l` is due. -/
def State.SpanNone (s : State) (l : Nat) : Prop := ¬ s.lamps.running ∨ ¬ s.emitsB l ∨ s.lampSlots ≤ (s.lamp l).n

/-- Output `l` with its pulse counted, and what ended with the pulse before put away. -/
def State.lampPulsed (s : State) (l : Nat) : State :=
  let u := s.setLamp l { s.lamp l with k := (s.lamp l).k + 1, win := none }
  let x := u.lamp l
  u.setLamp l { x with cut := false, cuts := if x.lit ∧ ¬ x.cut ∧ ¬ x.forced then 0 else x.cuts, forced := false, got := false }

/-- Output `l` with its window counted. -/
def State.spanTaken (s : State) (l : Nat) : State := s.setLamp l { s.lamp l with n := (s.lamp l).n + 1, win := none }

section
variable {s : State} {l : Nat}

theorem State.pulse_due (hr : s.lamps.running = true) (hc : s.lampClass l = 1)
    (hk : s.get fLAMP_PULSE_B_COUNT l = 0 ∨ (s.lamp l).k < s.get fLAMP_PULSE_B_COUNT l)
    (hl : 4 * s.get fLAMP_PULSE_A_OFFSET l + (s.lamp l).k * s.lampPeriod l < s.frameTicks) : ¬ s.PulseNone l := by
  rintro (h | h | ⟨h0, h⟩ | h)
  · exact h hr
  · exact h hc
  · omega
  · omega

theorem State.span_due (hr : s.lamps.running = true) (he : s.emitsB l = true) (hn : (s.lamp l).n < s.lampSlots) : ¬ s.SpanNone l := by
  rintro (h | h | h)
  · exact h hr
  · exact h he
  · omega

theorem State.lampPulsed_length (s : State) (l : Nat) : (s.lampPulsed l).lamps.outs.length = s.lamps.outs.length :=
  ((CutBitsKept.refl s).setLamp.setLamp).length

theorem State.lampPulsed_k (hl : l < s.lamps.outs.length) : ((s.lampPulsed l).lamp l).k = (s.lamp l).k + 1 := by
  unfold State.lampPulsed
  dsimp only
  rw [State.lamp_setLamp (by rwa [((CutBitsKept.refl s).setLamp).length]), State.lamp_setLamp hl]

theorem State.spanTaken_length (s : State) (l : Nat) : (s.spanTaken l).lamps.outs.length = s.lamps.outs.length :=
  ((CutBitsKept.refl s).setLamp).length

theorem State.spanTaken_n (hl : l < s.lamps.outs.length) : ((s.spanTaken l).lamp l).n = (s.lamp l).n + 1 := by
  rw [State.spanTaken, State.lamp_setLamp hl]

/-- Outside matrix mode an output turns on with its window alone. -/
theorem State.lampOn_plain (hm : s.matrix = false) (n lead on : Nat) (sense : Option Nat) :
    ∃ x : LampSt, s.lampOn l n lead on sense = s.setLamp l x ∧
      x.win = some (lead, on) ∧ x.lit = true ∧ x.k = (s.lamp l).k ∧ x.n = (s.lamp l).n :=
  ⟨_, if_neg (Bool.eq_false_iff.mp hm), rfl, rfl, rfl, rfl⟩

/-- A period without a capture changes an output's base status alone. -/
theorem State.lamp_starved (hl : l < s.lamps.outs.length) : ∃ b, (s.starved l).lamp l = { s.lamp l with base := b } := by
  have hb : (s.bump fLAMP_STAT_STARVE l).lamps = s.lamps := State.bump_lamps ..
  refine ⟨if (s.bump fLAMP_STAT_STARVE l).get fLAMP_STAT_STARVE l = 1024 then 4 else (s.lamp l).base, ?_⟩
  unfold State.starved
  dsimp only
  rw [State.lamp_congr (State.showLamp_lamps _ l), State.lamp_setLamp (by rwa [hb]), State.lamp_congr hb]

theorem exec_lampPulse_none {l : Fin 32} {sense : Option (Fin 4096)} (h : s.PulseNone l.val) : exec (.lampPulse l sense) s = .next s := if_pos h

theorem exec_lampPulse_forced {l : Fin 32} {sense : Option (Fin 4096)} (hd : ¬ s.PulseNone l.val) (hf : s.lampForced l.val = true) :
    exec (.lampPulse l sense) s = .next (s.setLamp l.val { s.lamp l.val with k := (s.lamp l.val).k + 1, win := none }) :=
  (if_neg hd).trans (if_pos (.inl hf))

/-- The window of a pulse opens; one without a capture counts as a period without one. -/
def State.pulseOpened (s : State) (l lead w : Nat) (sense : Option Nat) : State :=
  let u := s.lampOn l 0 lead w sense
  if (u.lamp l).got then u else u.starved l

theorem State.pulseOpened_shows (hm : s.matrix = false) (hl : l < s.lamps.outs.length) (lead w : Nat) (sense : Option Nat) :
    ((s.pulseOpened l lead w sense).lamp l).win = some (lead, w) ∧ ((s.pulseOpened l lead w sense).lamp l).k = (s.lamp l).k := by
  obtain ⟨x, hx, hwin, -, hk, -⟩ := State.lampOn_plain (l := l) hm 0 lead w sense
  unfold State.pulseOpened
  rw [hx]
  dsimp only
  split
  · rw [State.lamp_setLamp hl]
    exact ⟨hwin, hk⟩
  · obtain ⟨b, hb⟩ := State.lamp_starved (s := s.setLamp l x) (l := l) (by rwa [((CutBitsKept.refl s).setLamp).length])
    rw [hb, State.lamp_setLamp hl]
    exact ⟨hwin, hk⟩

/-- A due pulse of a width that needs no clamp. -/
theorem exec_lampPulse_plain {l : Fin 32} {sense : Option (Fin 4096)} (hd : ¬ s.PulseNone l.val) (hf : s.lampForced l.val = false)
    (ho : s.is fLAMP_STAT_OC_LATCH l.val = false) (h8 : 8 ≤ s.get fLAMP_PULSE_A_WIDTH l.val)
    (hcap : s.get fLAMP_PULSE_A_WIDTH l.val ≤ s.widthCap l.val) :
    exec (.lampPulse l sense) s = .next ((s.lampPulsed l.val).pulseOpened l.val
      (4 * s.get fLAMP_PULSE_A_OFFSET l.val + (s.lamp l.val).k * s.lampPeriod l.val) (s.get fLAMP_PULSE_A_WIDTH l.val) (sense.map (·.val))) := by
  have hno : ¬ s.widthCap l.val < max 8 (s.get fLAMP_PULSE_A_WIDTH l.val) := by omega
  have hmin : min (max 8 (s.get fLAMP_PULSE_A_WIDTH l.val)) (s.widthCap l.val) = s.get fLAMP_PULSE_A_WIDTH l.val := by omega
  have h8' : ¬ min (max 8 (s.get fLAMP_PULSE_A_WIDTH l.val)) (s.widthCap l.val) < 8 := by omega
  have hclamp : (if (s.lampPulsed l.val).widthCap l.val < max 8 (s.get fLAMP_PULSE_A_WIDTH l.val) then
      (s.lampPulsed l.val).flag fLAMP_STAT_CLAMP l.val else s.lampPulsed l.val) = s.lampPulsed l.val := if_neg hno
  have hoff : ¬ (s.lampForced l.val ∨ s.is fLAMP_STAT_OC_LATCH l.val) := by simp [hf, ho]
  refine (if_neg hd).trans ((if_neg hoff).trans ((if_neg h8').trans ?_))
  conv_rhs => rw [← hmin]
  exact congrArg (fun v : State => (Host.Outcome.next (v.pulseOpened l.val _ _ _) : Out)) hclamp

theorem exec_lampSpan_none {l : Fin 32} {sense : Option (Fin 4096)} (h : s.SpanNone l.val) : exec (.lampSpan l sense) s = .next s := if_pos h

theorem exec_lampSpan_forced {l : Fin 32} {sense : Option (Fin 4096)} (hd : ¬ s.SpanNone l.val) (hf : s.lampForced l.val = true) :
    exec (.lampSpan l sense) s =
      .next (s.setLamp l.val { s.lamp l.val with n := (s.lamp l.val).n + 1, win := none, forced := true }) := by
  refine (if_neg hd).trans ((if_pos hf).trans (congrArg Host.Outcome.next ?_))
  exact State.setLamp_again s l.val _ fun x => { x with forced := true }

/-- A due window of on-time `on` of 8 ticks or more. -/
theorem exec_lampSpan_plain {l : Fin 32} {sense : Option (Fin 4096)} {on : Nat} (hd : ¬ s.SpanNone l.val) (hf : s.lampForced l.val = false)
    (ho : s.is fLAMP_STAT_OC_LATCH l.val = false)
    (hon : (if (s.lamp l.val).stretch = some (s.lamp l.val).n then 480 else s.onTicks l.val (s.lamp l.val).n) = on) (h8 : 8 ≤ on) :
    exec (.lampSpan l sense) s =
      .next ((s.spanTaken l.val).lampOn l.val (s.lamp l.val).n (s.slotStart (s.lamp l.val).n + s.lampOffset l.val on) on (sense.map (·.val))) := by
  subst hon
  exact (if_neg hd).trans ((if_neg (Bool.eq_false_iff.mp hf)).trans ((if_neg (Bool.eq_false_iff.mp ho)).trans (if_neg (Nat.not_lt.mpr h8))))

/-- What a due window of an output outside matrix mode leaves. -/
theorem lampSpan_shows {l : Fin 32} {sense : Option (Fin 4096)} {on : Nat} (hd : ¬ s.SpanNone l.val) (hf : s.lampForced l.val = false)
    (ho : s.is fLAMP_STAT_OC_LATCH l.val = false) (hm : s.matrix = false)
    (hon : (if (s.lamp l.val).stretch = some (s.lamp l.val).n then 480 else s.onTicks l.val (s.lamp l.val).n) = on) (h8 : 8 ≤ on)
    (hl : l.val < s.lamps.outs.length) :
    ∃ t, exec (.lampSpan l sense) s = .next t ∧
      (t.lamp l.val).win = some (s.slotStart (s.lamp l.val).n + s.lampOffset l.val on, on) ∧ (t.lamp l.val).n = (s.lamp l.val).n + 1 ∧
      (t.lamp l.val).lit = true ∧ t.regs = s.regs := by
  obtain ⟨x, hx, hwin, hlit, -, hn⟩ := State.lampOn_plain (s := s.spanTaken l.val) (l := l.val) hm (s.lamp l.val).n
    (s.slotStart (s.lamp l.val).n + s.lampOffset l.val on) on (sense.map (·.val))
  refine ⟨_, exec_lampSpan_plain hd hf ho hon h8, ?_⟩
  rw [hx, State.lamp_setLamp (by rwa [State.spanTaken_length])]
  exact ⟨hwin, hn.trans (State.spanTaken_n hl), hlit, rfl⟩

end

/-! ### Overcurrent cuts and their latches -/

/-- Output `l` cut for the `n`-th period in succession. -/
def State.lampCut (s : State) (l n : Nat) : State :=
  let s := ((s.captureCut l).flag fLAMP_STAT_OC_CUT l).bump fLAMP_COUNT_OC_CUTS l
  s.setLamp l { s.lamp l with win := none, cut := true, cuts := n }

/-- The status of output `l`, and in matrix mode of the lamps it drives, shown. -/
def State.lampShown (s : State) (l : Nat) : State :=
  if (s.showLamp l).matrix then (List.range (s.showLamp l).lampRows).foldl (fun s r => s.showMat (32 * r + (l - s.lampRows))) (s.showLamp l)
  else s.showLamp l

section
variable {s : State} {l : Nat}

theorem State.lampShown_lamps (s : State) (l : Nat) : (s.lampShown l).lamps = s.lamps := by
  unfold State.lampShown
  split
  · exact List.foldlRecOn (motive := fun t : State => t.lamps = s.lamps) _ _ (State.showLamp_lamps s l) fun _ h _ _ => h
  · exact State.showLamp_lamps s l

theorem State.get_lampShown {f : Fld} (hf : f.base = aLAMP_STAT) {p : Nat} (hp : p < 32) (h : (s.showLamp l).get f p = s.get f p) :
    (s.lampShown l).get f p = s.get f p := by
  unfold State.lampShown
  split
  · exact List.foldlRecOn (motive := fun t : State => t.get f p = s.get f p) _ _ h fun u hu r _ => (State.get_showMat hf u _ hp).trans hu
  · exact h

theorem State.is_lampShown_latch (s : State) (l : Nat) {p : Nat} (hp : p < 32) :
    (s.lampShown l).is fLAMP_STAT_OC_LATCH p = s.is fLAMP_STAT_OC_LATCH p :=
  congrArg (· == 1) (State.get_lampShown rfl hp ((CutBitsKept.refl s).showLamp.latch p))

theorem State.is_lampShown_cut (s : State) (l : Nat) {p : Nat} (hp : p < 32) : (s.lampShown l).is fLAMP_STAT_OC_CUT p = s.is fLAMP_STAT_OC_CUT p :=
  congrArg (· == 1) (State.get_lampShown rfl hp ((CutBitsKept.refl s).showLamp.cut p))

theorem State.lampCut_lamp (hl : l < s.lamps.outs.length) (n : Nat) :
    ((s.lampCut l n).lamp l).win = none ∧ ((s.lampCut l n).lamp l).cut = true := by
  unfold State.lampCut
  dsimp only
  rw [State.lamp_setLamp (by rwa [State.bump_lamps, State.flag_lamps, (CutBitsKept.refl s).captureCut.length])]
  exact ⟨rfl, rfl⟩

theorem State.is_lampCut (s : State) (l n : Nat) (f : Fld) (o : Nat) :
    (s.lampCut l n).is f o = (((s.captureCut l).flag fLAMP_STAT_OC_CUT l).bump fLAMP_COUNT_OC_CUTS l).is f o := rfl

theorem State.is_lampCut_cut (s : State) (n : Nat) (_hl : l < 32) : (s.lampCut l n).is fLAMP_STAT_OC_CUT l = true := by
  have hne : fLAMP_STAT_OC_CUT.base + l ≠ fLAMP_COUNT_OC_CUTS.base + l := by
    simp only [fLAMP_STAT_OC_CUT, fLAMP_COUNT_OC_CUTS, aLAMP_STAT, aLAMP_COUNT]
    omega
  rw [State.is_lampCut, State.is_bump_apart _ _ (.inl hne), State.is_flag _ _ _ (by decide)]

theorem State.is_lampCut_latch (s : State) (n : Nat) (_hl : l < 32) : (s.lampCut l n).is fLAMP_STAT_OC_LATCH l = s.is fLAMP_STAT_OC_LATCH l := by
  have hne : fLAMP_STAT_OC_LATCH.base + l ≠ fLAMP_COUNT_OC_CUTS.base + l := by
    simp only [fLAMP_STAT_OC_LATCH, fLAMP_COUNT_OC_CUTS, aLAMP_STAT, aLAMP_COUNT]
    omega
  rw [State.is_lampCut, State.is_bump_apart _ _ (.inl hne), State.is_flag_apart _ (.inr (by decide))]
  exact congrArg (· == 1) ((CutBitsKept.refl s).captureCut.latch l)

theorem exec_ocCut_none {l : Fin 32} (h : (s.lamp l.val).win = none ∨ s.lampForced l.val = true) : exec (.ocCut l) s = .next s := by
  by_cases hf : s.lampForced l.val = true
  · exact if_pos hf
  · exact (if_neg hf).trans (if_pos (Option.isNone_iff_eq_none.mpr (h.resolve_right hf)))

theorem exec_ocCut_on {l : Fin 32} {n : Nat} (hw : (s.lamp l.val).win ≠ none) (hf : s.lampForced l.val = false)
    (hn : (if (s.lamp l.val).cut then (s.lamp l.val).cuts else (s.lamp l.val).cuts + 1) = n) :
    exec (.ocCut l) s =
      .next ((if 3 ≤ n then (s.lampCut l.val n).flag fLAMP_STAT_OC_LATCH l.val else s.lampCut l.val n).lampShown l.val) := by
  subst hn
  exact (if_neg (Bool.eq_false_iff.mp hf)).trans (if_neg fun h => hw (Option.isNone_iff_eq_none.mp h))

/-- What a cut leaves of an output that is on. -/
theorem ocCut_shows {l : Fin 32} {n : Nat} (hw : (s.lamp l.val).win ≠ none) (hf : s.lampForced l.val = false) (hl : l.val < s.lamps.outs.length)
    (hn : (if (s.lamp l.val).cut then (s.lamp l.val).cuts else (s.lamp l.val).cuts + 1) = n) :
    ∃ t, exec (.ocCut l) s = .next t ∧ (t.lamp l.val).win = none ∧ (t.lamp l.val).cut = true ∧ t.is fLAMP_STAT_OC_CUT l.val = true ∧
      t.is fLAMP_STAT_OC_LATCH l.val = (s.is fLAMP_STAT_OC_LATCH l.val || decide (3 ≤ n)) := by
  refine ⟨_, exec_ocCut_on hw hf hn, ?_⟩
  rw [State.lamp_congr (State.lampShown_lamps _ _), State.is_lampShown_cut _ _ l.isLt, State.is_lampShown_latch _ _ l.isLt]
  obtain ⟨hwin, hcut⟩ := State.lampCut_lamp hl n
  by_cases h3 : 3 ≤ n
  · rw [if_pos h3, State.lamp_congr (State.flag_lamps ..), State.is_flag_apart _ (.inr (by decide)), State.is_flag _ _ _ (by decide)]
    exact ⟨hwin, hcut, State.is_lampCut_cut s n l.isLt, by simp [h3]⟩
  · rw [if_neg h3]
    exact ⟨hwin, hcut, State.is_lampCut_cut s n l.isLt, (State.is_lampCut_latch s n l.isLt).trans (by simp [h3])⟩

/-- LAMP_CLR at one output. -/
def State.lampCleared (s : State) (l : Nat) : State := ((s.unflag fLAMP_STAT_OC_LATCH l).setLamp l { s.lamp l with cuts := 0 }).lampShown l

theorem exec_lampClr (s : State) (mask : Fin (2 ^ 32)) : exec (.lampClr mask) s = .next ((bitList mask.val 32).foldl State.lampCleared s) := rfl

theorem State.is_lampCleared (s : State) (l : Nat) {p : Nat} (hp : p < 32) :
    (s.lampCleared l).is fLAMP_STAT_OC_LATCH p = (s.is fLAMP_STAT_OC_LATCH p && decide (p ≠ l)) := by
  refine (State.is_lampShown_latch _ l hp).trans ?_
  by_cases h : p = l
  · subst h
    exact (State.is_unflag _ _ _ (by decide)).trans (by simp)
  · exact (State.is_unflag_apart _ (.inl fun he => h (Nat.add_left_cancel he))).trans (by simp [h])

/-- A list of outputs cleared clears the latches of its members alone. -/
theorem State.is_foldl_lampCleared (ls : List Nat) {p : Nat} (hp : p < 32) : ∀ s : State,
    (ls.foldl State.lampCleared s).is fLAMP_STAT_OC_LATCH p = (s.is fLAMP_STAT_OC_LATCH p && decide (p ∉ ls)) := by
  induction ls with
  | nil => simp
  | cons l ls ih =>
    intro s
    rw [List.foldl_cons, ih, State.is_lampCleared s l hp]
    simp [Bool.and_assoc]

theorem mem_bitList {n k i : Nat} : i ∈ bitList n k ↔ i < k ∧ n.testBit i = true := by simp [bitList]

end

/-- Settles O49. The instants of the flywheel, the clamps of a pulse and what a cut takes are log entry 88; each clause follows the branch of its
command that its hypotheses choose, the latches by what shows a status leaving them. -/
theorem lampFramesAndPulses : Obligations.LampFramesAndPulses := by
  unfold Obligations.LampFramesAndPulses
  refine ⟨fun s ticks h => exec_frameSync_own h, fun s ticks hf hn hr h => ?near, fun s ticks hf hn hr h1 h => ?early,
    fun s ticks hf hn hr h1 hlo hhi => ?onTime, fun s ticks hf hn hr h1 h => ?beyond, fun s ticks hf hr => ?first,
    fun s h => exec_frameFlywheel_own h, fun s hf hr => exec_frameFlywheel_lost hf hr, fun s hf hr => exec_frameFlywheel_none hf hr, fun s => rfl,
    fun s l sense h => exec_lampPulse_none (h.imp_left Bool.eq_false_iff.mp),
    fun s l sense hr hc hk hd hf => exec_lampPulse_forced (State.pulse_due hr hc hk hd) hf,
    fun s l sense hr hc hk hd hf ho hm h8 hcap hl => ?pulse,
    fun s l sense h => exec_lampSpan_none (h.imp Bool.eq_false_iff.mp (Or.imp_left Bool.eq_false_iff.mp)),
    fun s l sense hr he hn hf ho hm hst h8 hl => lampSpan_shows (State.span_due hr he hn) hf ho hm (if_neg hst) h8 hl,
    fun s l sense hr he hn hf ho hm hst hl => lampSpan_shows (State.span_due hr he hn) hf ho hm (if_pos hst) (by decide) hl,
    fun s l h => exec_ocCut_none h, fun s l hw hf hl => ocCut_shows hw hf hl rfl, fun s mask => ?clear,
    fun s l sense hr he hn hf => exec_lampSpan_forced (State.span_due hr he hn) hf⟩
  case near => rw [exec_frameSync_later hf hn hr, if_pos h]
  case early => rw [exec_frameSync_later hf hn hr, if_neg (by omega), if_pos h]
  case onTime => rw [exec_frameSync_later hf hn hr, if_neg (by omega), if_neg (by omega), if_pos hhi]
  case beyond =>
    rw [exec_frameSync_later hf hn hr, if_neg (by omega), if_neg (by omega), if_neg (by omega)]
    rfl
  case first => exact ⟨_, exec_frameSync_first hf hr, State.frameStart_running s ticks, rfl⟩
  case pulse =>
    obtain ⟨hwin, hk'⟩ := State.pulseOpened_shows (s := s.lampPulsed l.val) (l := l.val) hm (by rwa [State.lampPulsed_length])
      (4 * s.get fLAMP_PULSE_A_OFFSET l.val + (s.lamp l.val).k * s.lampPeriod l.val) (s.get fLAMP_PULSE_A_WIDTH l.val) (sense.map (·.val))
    exact ⟨_, exec_lampPulse_plain (State.pulse_due hr hc hk hd) hf ho h8 hcap, hwin, hk'.trans (State.lampPulsed_k hl)⟩
  case clear =>
    refine ⟨_, exec_lampClr s mask, fun l hl hb => ?_, fun l hl hb => ?_⟩
    · simp [State.is_foldl_lampCleared _ hl, mem_bitList, hl, hb]
    · simp [State.is_foldl_lampCleared _ hl, mem_bitList, hb]

end Sys2Proof.Machine

/-! # Powered days, references, monitor passes and the self-test of converter B (R589 to R603) -/

namespace Sys2Proof.Machine

-- one thread at a time: the check holds the whole text in memory
set_option Elab.async false

/-! ### Powered days and references -/

/-- The words that show a week. -/
def weekWords : List Nat :=
  (List.range 8).map (aHEALTH_STRESS_WEEK + ·) ++ (List.range 8).map (aHEALTH_STRESS_PEAK + ·) ++ (List.range 5).map (aHEALTH_ERASE + ·) ++
    (List.range 32).map (aHEALTH_LAMP + ·)

section
variable {ws : List Nat} {s t : State}

theorem Only.showWeek (s : State) : Only weekWords s s.showWeek := by
  have hweek : ∀ i ∈ List.range 8, aHEALTH_STRESS_WEEK + i ∈ weekWords := by decide
  have hpeak : ∀ i ∈ List.range 8, aHEALTH_STRESS_PEAK + i ∈ weekWords := by decide
  have herase : ∀ i ∈ List.range 5, aHEALTH_ERASE + i ∈ weekWords := by decide
  have hlamp : ∀ i ∈ List.range 32, aHEALTH_LAMP + i ∈ weekWords := by decide
  exact (((Only.refl _ s).foldl fun hi hu => (hu.put (hweek _ hi)).put (hpeak _ hi)).foldl fun hi hu => hu.put (herase _ hi)).foldl
    fun hi hu => hu.putSat (hlamp _ hi)

theorem State.health_forN {n : Nat} {g : State → Nat → State} (hg : ∀ u i, (g u i).health = u.health) : (s.forN n g).health = s.health :=
  List.foldlRecOn (motive := fun u : State => u.health = s.health) _ _ rfl fun u hu i _ => (hg u i).trans hu

theorem State.showWeek_health (s : State) : s.showWeek.health = s.health := by
  unfold State.showWeek
  dsimp only
  exact (State.health_forN fun _ _ => by simp [State.putSat]).trans ((State.health_forN fun _ _ => by simp).trans (State.health_forN fun _ _ => by simp))

theorem exec_dayClose_early (h : s.get fHEALTH_DAY_MT_DAY_MT < dayTicks) : exec .dayClose s = .next s := if_pos h

/-- The state in which a day has closed, before the week is shown. -/
def State.dayClosed (s : State) : State :=
  let u := (s.put fHEALTH_DAY_MT_DAY_MT (s.get fHEALTH_DAY_MT_DAY_MT - dayTicks)).bump fHEALTH_DAYS_DAYS
  { u with health := { u.health with
      snaps := (s.snap :: u.health.snaps).take 7
      hist := ((s.snap.stress.zipIdx.map fun e => e.1 - (((s.health.snaps.head?).getD s.health.base).stress).getD e.2 0) :: u.health.hist).take 7 } }

theorem exec_dayClose_due (h : dayTicks ≤ s.get fHEALTH_DAY_MT_DAY_MT) : exec .dayClose s = .next s.dayClosed.showWeek := if_neg (Nat.not_lt.mpr h)

theorem State.get_dayClosed (s : State) : s.dayClosed.get fHEALTH_DAY_MT_DAY_MT = s.get fHEALTH_DAY_MT_DAY_MT - dayTicks := by
  have hlt : s.get fHEALTH_DAY_MT_DAY_MT - dayTicks < 2 ^ fldWidth fHEALTH_DAY_MT_DAY_MT := (Nat.sub_le _ _).trans_lt (State.get_lt ..)
  exact (State.get_bump_apart _ _ (.inl (by decide))).trans (State.get_put_of_lt _ (by decide) hlt)

theorem State.dayClosed_snaps (s : State) : s.dayClosed.health.snaps = (s.snap :: s.health.snaps).take 7 ∧ s.dayClosed.health.acc = s.health.acc := by
  simp [State.dayClosed]

theorem State.is_forN_unflag {f : Fld} (hf : f.lo + fldWidth f ≤ 36) (s : State) {g n : Nat} (h : g < n) :
    (s.forN n fun s i => s.unflag f i).is f g = false := by
  induction n with
  | zero => omega
  | succ n ih =>
    rw [State.forN_succ]
    by_cases he : g = n
    · subst he
      exact State.is_unflag _ _ _ hf
    · rw [State.is_unflag_apart _ (.inl fun e => he (Nat.add_left_cancel e))]
      exact ih (by omega)

theorem State.get_forN_unflag {f k : Fld} (hb : f.lo + fldWidth f ≤ 36 ∧ k.lo + fldWidth k ≤ 36 ∧ (f.lo + fldWidth f ≤ k.lo ∨ k.lo + fldWidth k ≤ f.lo))
    (s : State) (n g : Nat) : (s.forN n fun s i => s.unflag f i).get k g = s.get k g :=
  List.foldlRecOn (motive := fun u : State => u.get k g = s.get k g) _ _ rfl fun u hu _ _ => (State.get_unflag_apart u (.inr hb)).trans hu

theorem RegsOnly.forN {n : Nat} {g : State → Nat → State} (hg : ∀ u i, RegsOnly u (g u i)) (s : State) : RegsOnly s (s.forN n g) :=
  List.foldlRecOn (motive := RegsOnly s) _ _ rfl fun u hu i _ => hu.trans (hg u i)

end

/-! ### Monitor passes -/

/-- Entry `e` of converter `c` converts a code. -/
def State.monEntry (s : State) (c : Nat) (e : Fin 4096 × Nat) : State :=
  if ¬ s.is fMON_SEQ_EN (16 * c + e.2) then s
  else ((s.put fMON_RES_VALUE (s.monRead c e.2 e.1.val) (16 * c + e.2)).put fMON_RES_SAT (b2n (e.1.val == 4095)) (16 * c + e.2)).put
    fMON_RES_PASS (s.get fMON_STATUS_PASSES) (16 * c + e.2)

/-- The words that a pass changes beside the results. -/
def passWords : List Nat :=
  [aMON_STATUS, aLAMP_STATUS] ++ (List.range 32).map (aLAMP_STAT + ·) ++ (List.range 256).map (aMATRIX_STAT + ·) ++
    (List.range 32).map (aHEALTH_LAMP + ·)

section
variable {s t : State} {c j : Nat}

theorem State.monConvert_eq (s : State) (c : Nat) (codes : List (Fin 4096)) :
    s.monConvert c codes = (codes.zipIdx.take 16).foldl (fun s e => s.monEntry c e) s := rfl

theorem State.word_monEntry (s : State) (c : Nat) (e : Fin 4096 × Nat) {a : Nat} (h : a ≠ aMON_RES + (16 * c + e.2)) :
    (s.monEntry c e).word a = s.word a := by
  unfold State.monEntry
  split
  · rfl
  · exact (State.word_put_ne _ _ _ h).trans ((State.word_put_ne _ _ _ h).trans (State.word_put_ne _ _ _ h))

theorem State.word_monEntries {xs : List (Fin 4096 × Nat)} {a : Nat} (h : ∀ e ∈ xs, a ≠ aMON_RES + (16 * c + e.2)) :
    (xs.foldl (fun s e => s.monEntry c e) s).word a = s.word a :=
  List.foldlRecOn (motive := fun u : State => u.word a = s.word a) _ _ rfl fun u hu e he => (u.word_monEntry c e (h e he)).trans hu

theorem State.selv_monEntry (s : State) (c : Nat) (e : Fin 4096 × Nat) : (s.monEntry c e).selv = s.selv := by
  unfold State.monEntry
  split <;> rfl

theorem State.selv_monEntries {xs : List (Fin 4096 × Nat)} : (xs.foldl (fun s e => s.monEntry c e) s).selv = s.selv :=
  List.foldlRecOn (motive := fun u : State => u.selv = s.selv) _ _ rfl fun u hu e _ => (u.selv_monEntry c e).trans hu

/-- A reading depends on the entry's structure and on the injection alone. -/
theorem State.monRead_congr (hs : t.selv = s.selv) (hw : ∀ a, a < aMON_STATUS → t.word a = s.word a) (h16 : 16 * c + j < 32) (code : Nat) :
    t.monRead c j code = s.monRead c j code := by
  have hseq : t.word (aMON_SEQ + (16 * c + j)) = s.word (aMON_SEQ + (16 * c + j)) := hw _ (by unfold aMON_SEQ aMON_STATUS; omega)
  have hgain : t.get fMON_SEQ_GAIN (16 * c + j) = s.get fMON_SEQ_GAIN (16 * c + j) := congrArg fMON_SEQ_GAIN.get hseq
  have hch : t.get fMON_SEQ_CH (16 * c + j) = s.get fMON_SEQ_CH (16 * c + j) := congrArg fMON_SEQ_CH.get hseq
  have hbusy : t.is fFAULT_INJ_STATUS_BUSY = s.is fFAULT_INJ_STATUS_BUSY := congrArg (fFAULT_INJ_STATUS_BUSY.get · == 1) (hw _ (by decide))
  unfold State.monRead
  rw [State.injActs_congr hs hbusy, hgain, hch]

theorem State.monEntry_shows (he : s.is fMON_SEQ_EN (16 * c + j) = true) (x : Fin 4096) :
    (s.monEntry c (x, j)).get fMON_RES_VALUE (16 * c + j) = s.monRead c j x.val % 2 ^ 16 ∧
    (s.monEntry c (x, j)).is fMON_RES_SAT (16 * c + j) = (x.val == 4095) := by
  unfold State.monEntry
  rw [if_neg (not_not.mpr he), State.get_put_apart _ _ (.inr (by decide)), State.get_put_apart _ _ (.inr (by decide)),
    State.get_put_same _ _ _ _ (by decide), State.is_put_apart _ _ (.inr (by decide))]
  refine ⟨rfl, ?_⟩
  unfold State.is
  rw [State.get_put_b2n _ _ (by decide)]
  cases x.val == 4095 <;> rfl

/-- An enabled entry of a converter shows its code, whatever the entries before and after it do. -/
theorem State.monConvert_shows {codes : List (Fin 4096)} (hj : j < codes.length) (h16 : j < 16) (hc : c < 2)
    (he : s.is fMON_SEQ_EN (16 * c + j) = true) :
    (s.monConvert c codes).get fMON_RES_VALUE (16 * c + j) = s.monRead c j (codes.getD j 0).val % 2 ^ 16 ∧
    (s.monConvert c codes).is fMON_RES_SAT (16 * c + j) = ((codes.getD j 0).val == 4095) := by
  have hlen : j < (codes.zipIdx.take 16).length := by simp; omega
  have hat {i : Nat} (hi : i < (codes.zipIdx.take 16).length) : ((codes.zipIdx.take 16)[i]).2 = i := by simp
  have hsplit : codes.zipIdx.take 16 = (codes.zipIdx.take 16).take j ++ (codes.getD j 0, j) :: (codes.zipIdx.take 16).drop (j + 1) := by
    conv_lhs => rw [← List.take_append_drop j (codes.zipIdx.take 16), List.drop_eq_getElem_cons hlen]
    simp [hj]
  have hafter : ∀ e ∈ (codes.zipIdx.take 16).drop (j + 1), aMON_RES + (16 * c + j) ≠ aMON_RES + (16 * c + e.2) := by
    intro e hm
    obtain ⟨i, hi, rfl⟩ := List.mem_drop_iff_getElem.mp hm
    rw [hat]
    omega
  rw [State.monConvert_eq, hsplit, List.foldl_append, List.foldl_cons]
  obtain ⟨u, hu⟩ : ∃ u, u = ((codes.zipIdx.take 16).take j).foldl (fun s e => s.monEntry c e) s := ⟨_, rfl⟩
  have hbelow : ∀ a, a < aMON_STATUS → u.word a = s.word a := fun a ha => by
    rw [hu]
    exact State.word_monEntries fun e _ => by unfold aMON_STATUS at ha; unfold aMON_RES; omega
  have hen : u.is fMON_SEQ_EN (16 * c + j) = true := by
    rw [← he]
    exact congrArg (fMON_SEQ_EN.get · == 1) (hbelow _ (by unfold fMON_SEQ_EN aMON_SEQ aMON_STATUS; dsimp only; omega))
  rw [← hu, ← State.monRead_congr (hu ▸ State.selv_monEntries) hbelow (by omega)]
  obtain ⟨hvalue, hsat⟩ := State.monEntry_shows hen (codes.getD j 0)
  exact ⟨(congrArg fMON_RES_VALUE.get (State.word_monEntries hafter)).trans hvalue,
    (congrArg (fMON_RES_SAT.get · == 1) (State.word_monEntries hafter)).trans hsat⟩

/-- Below its own results a converter changes nothing. -/
theorem State.word_monConvert (s : State) (codes : List (Fin 4096)) {a : Nat} (h : a < aMON_RES + 16 * c) :
    (s.monConvert c codes).word a = s.word a :=
  State.word_monEntries fun e _ => by omega

theorem Only.showLamp {ws : List Nat} {l : Nat} (h : Only ws s t) (hl : aLAMP_STAT + l ∈ ws) (he : aLAMP_STATUS ∈ ws) : Only ws s (t.showLamp l) :=
  .ite h ((h.put hl).flag he)

theorem Only.healthLamp {ws : List Nat} {l d : Nat} (h : Only ws s t) (hh : aHEALTH_LAMP + l ∈ ws) : Only ws s (t.healthLamp l d) := by
  unfold State.healthLamp
  split
  · exact ((Only.rest h).flag hh).putSat hh
  · exact .ite ((Only.rest h).put hh) (h.putSat hh)

theorem Only.diagnose {ws : List Nat} {l : Nat} (h : Only ws s t) (hl : aLAMP_STAT + l ∈ ws) (hh : aHEALTH_LAMP + l ∈ ws)
    (he : aLAMP_STATUS ∈ ws := by decide) : Only ws s (t.diagnose l) := by
  unfold State.diagnose
  dsimp only
  split
  · exact h
  · exact Only.healthLamp (Only.showLamp (Only.rest ((h.put hl).put hl)) hl he) hh

theorem Only.diagnoseMat {ws : List Nat} {i : Nat} (h : Only ws s t) (hi : aMATRIX_STAT + i ∈ ws) : Only ws s (t.diagnoseMat i) := by
  unfold State.diagnoseMat
  dsimp only
  split
  · exact h
  · exact ((((h.setWord hi).setWord hi).rest (u := State.setMat _ i _)).setWord hi).setWord hi

/-- What a pass does after converter A. -/
def State.passEnd (s : State) (b : List (Fin 4096)) (late : Bool) : State :=
  let s := if s.lamps.stopB then s else (s.monConvert 1 b).crossCheck
  let s := match s.injActs 21 with
    | some x => s.setInj { x with left := x.left - 1 }
    | none => s
  let s := if s.matrix then s.forN 256 State.diagnoseMat else s.forN 32 State.diagnose
  let s := if late then s.flag fMON_STATUS_OVERRUN else s
  s.bump fMON_STATUS_PASSES

/-- A pass stops converter B for its self-test. -/
def State.passBegun (s : State) : State :=
  if s.is fMON_SELFTEST_BUSY then { s.flag fMON_STATUS_XCHK_OFF with lamps := { s.lamps with stopB := true } } else s

theorem exec_monPass (s : State) (a b : List (Fin 4096)) (late : Bool) :
    exec (.monPass a b late) s = .next ((s.passBegun.monConvert 0 a).passEnd b late) := rfl

theorem Only.passBegun (s : State) : Only [aMON_STATUS] s s.passBegun := .ite (Only.rest (t := s.flag fMON_STATUS_XCHK_OFF) (Only.refl _ s).flag) (Only.refl _ s)

theorem State.passBegun_selv (s : State) : s.passBegun.selv = s.selv := by
  unfold State.passBegun
  split
  · exact State.flag_selv ..
  · rfl

/-- A result of converter A stays until the pass ends. -/
theorem State.word_passEnd (s : State) (b : List (Fin 4096)) (late : Bool) {e : Nat} (he : e < 16) :
    (s.passEnd b late).word (aMON_RES + e) = s.word (aMON_RES + e) := by
  have hlamp : ∀ l ∈ List.range 32, aLAMP_STAT + l ∈ passWords ∧ aHEALTH_LAMP + l ∈ passWords := by decide
  have hmat : ∀ i ∈ List.range 256, aMATRIX_STAT + i ∈ passWords := fun i hi => by
    unfold passWords
    simp only [List.mem_append]
    exact .inl (.inr (List.mem_map_of_mem (f := (aMATRIX_STAT + ·)) hi))
  have hout : ∀ e < 16, aMON_RES + e ∉ passWords := by decide
  unfold State.passEnd
  extract_lets u v w x
  have hu : u.word (aMON_RES + e) = s.word (aMON_RES + e) := by
    unfold u
    split
    · rfl
    · have hcross : Only [aMON_STATUS] (s.monConvert 1 b) (s.monConvert 1 b).crossCheck := .ite (Only.refl _ _)
        (Only.rest (t := (s.monConvert 1 b).flag fMON_STATUS_XCHK_ERR) (Only.refl _ _).flag)
      exact (hcross _ ((by decide : ∀ e < 16, aMON_RES + e ∉ [aMON_STATUS]) e he)).trans (s.word_monConvert b (by omega))
  clear_value u
  have hv : v.word (aMON_RES + e) = u.word (aMON_RES + e) := by
    unfold v
    split <;> rfl
  clear_value v
  have hw : Only passWords v w := by
    unfold w
    split
    · exact (Only.refl _ v).foldl fun hi hk => hk.diagnoseMat (hmat _ hi)
    · exact (Only.refl _ v).foldl fun hl hk => hk.diagnose (hlamp _ hl).1 (hlamp _ hl).2
  clear_value w
  have hx : Only passWords v (x.bump fMON_STATUS_PASSES) := (hw.when (·.flag)).bump
  exact (hx _ (hout e he)).trans (hv.trans hu)

end

/-! ### The self-test of converter B -/

section
variable {s : State} {means : List (Fin 3 × Fin 4 × Nat)}

/-- The sequence of converter B with its self-test as writer. -/
def State.claimed30 (s : State) : State := (s.resTake 13 30 true).putBit fMAINT_CLAIM_ACTIVE 12 true

theorem State.get_claimed30 (s : State) : s.claimed30.get fMAINT_OWNER_WRITER 30 = 13 := by
  unfold State.claimed30 State.resTake State.resShow
  rw [if_pos rfl, State.get_putBit_apart _ (.inl (by decide)), State.get_putBit_apart _ (.inl (by decide)), State.get_put_same _ _ _ _ (by decide)]
  rfl

theorem exec_monSelftestGo_free (h : s.resFree 30 true = true) : exec .monSelftestGo s = .next (s.claimed30.flag fMON_SELFTEST_BUSY) := by
  change execMonSelftestGo s = _
  unfold execMonSelftestGo
  rw [State.claim_granted h]
  exact congrArg Host.Outcome.next (if_pos rfl)

theorem exec_monSelftestGo_held (h : s.resFree 30 true = false) :
    exec .monSelftestGo s = .next ((s.claimRefused 13 30).flag fMON_SELFTEST_MAINT_BUSY) := by
  change execMonSelftestGo s = _
  unfold execMonSelftestGo
  rw [State.claim_refused h]
  exact congrArg Host.Outcome.next (if_neg Bool.false_ne_true)

/-- Converter B runs again. -/
def State.restartB (s : State) : State := { s with lamps := { s.lamps with stopB := false } }

theorem State.is_restartB (s : State) (f : Fld) (o : Nat) : s.restartB.is f o = s.is f o := rfl

theorem State.restartB_shows (s : State) : s.restartB.lamps.stopB = false ∧ s.restartB.detected = s.detected := ⟨rfl, rfl⟩

/-- The self-test is no longer busy, and the converters compare again. -/
def State.selftestIdle (s : State) : State := (s.unflag fMON_SELFTEST_BUSY).unflag fMON_STATUS_XCHK_OFF

/-- The self-test ends: it lets its resource go and converter B runs. -/
def State.selftestOver (s : State) : State := (s.selftestIdle.release 13).restartB

/-- The mean of `m` lies further from its reference than the tolerance. -/
def State.meanOff (s : State) (m : Fin 3 × Fin 4 × Nat) : Bool := s.get fMON_CFG_XCHK_TOL < ((m.2.2 : Int) - (monRef m.1.val : Nat)).natAbs

theorem RegsOnly.release (s : State) (act : Nat) : RegsOnly s (s.release act) := by
  refine (RegsOnly.forN (fun u r => ?_) s).trans (.putBit _)
  unfold State.resDrop State.resShow
  dsimp only
  have hdrop : RegsOnly u (if u.get fMAINT_OWNER_WRITER r = act then u.put fMAINT_OWNER_WRITER 0 r else u) := by
    split <;> [exact .put ..; exact .refl u]
  exact hdrop.trans ((RegsOnly.putBit _).trans (.putBit _))

theorem State.is_selftestOver (s : State) {f : Fld} (h : f.base ∉ maintWords) : s.selftestOver.is f = s.selftestIdle.is f := by
  have hrel : Only maintWords s.selftestIdle (s.selftestIdle.release 13) := (Only.refl _ _).release (List.Subset.refl _)
  unfold State.selftestOver
  rw [State.is_restartB]
  exact hrel.is h

/-- What the end of a self-test leaves. -/
theorem State.selftestOver_shows (s : State) : s.selftestOver.is fMON_SELFTEST_BUSY = false ∧ s.selftestOver.is fMON_STATUS_XCHK_OFF = false ∧
    s.selftestOver.lamps.stopB = false ∧ s.selftestOver.detected = s.detected := by
  refine ⟨?_, ?_, ?_, ?_⟩
  · rw [State.is_selftestOver s (by decide), State.selftestIdle, State.is_unflag_apart _ (.inl (by decide)), State.is_unflag _ _ _ (by decide)]
  · rw [State.is_selftestOver s (by decide), State.selftestIdle, State.is_unflag _ _ _ (by decide)]
  · exact (s.selftestIdle.release 13).restartB_shows.1
  · rw [State.selftestOver, (s.selftestIdle.release 13).restartB_shows.2, RegsOnly.release s.selftestIdle 13]
    rfl

/-- The verdict of a self-test stays at its end. -/
theorem State.selftestOver_verdict (s : State) : s.selftestOver.is fMON_SELFTEST_DONE = s.is fMON_SELFTEST_DONE ∧
    s.selftestOver.is fMON_SELFTEST_ST_FAIL = s.is fMON_SELFTEST_ST_FAIL := by
  constructor <;>
    rw [State.is_selftestOver s (by decide), State.selftestIdle, State.is_unflag_apart _ (.inl (by decide)), State.is_unflag_apart _ (.inr (by decide))]

/-- The self-test is judged by the first mean that is off. -/
theorem exec_monSelftestDone (hb : s.is fMON_SELFTEST_BUSY = true) (hs : s.lamps.stopB = true)
    (hp : selftestPairs.all (fun p => means.any (fun m => m.1 == p.1 && m.2.1 == p.2)) = true) :
    exec (.monSelftestDone means) s = .next (match means.find? s.meanOff with
      | none => s.flag fMON_SELFTEST_DONE
      | some m => (s.flag fMON_SELFTEST_ST_FAIL).detect 20 1 1 (m.2.1.val * 4 + m.1.val) false s.nowT).selftestOver := by
  refine if_neg ?_
  rintro (h | h | h)
  exacts [h hb, h hs, h hp]

end

/-- Settles O48. What a reading under the MONITOR injection is, and the pairs of reference and gain a self-test needs, are log entry 88: a pass is
followed from the entry of converter A through what the rest of the pass leaves, a self-test by the first mean that is off. -/
theorem ageingAndMonitors : Obligations.AgeingAndMonitors := by
  unfold Obligations.AgeingAndMonitors
  refine ⟨fun s h => exec_dayClose_early h, fun s h => ⟨_, exec_dayClose_due h, ?day⟩,
    fun s => ⟨_, rfl, fun g hg => State.is_forN_unflag (by decide) s hg, fun g _ => State.get_forN_unflag (by decide) s _ g,
      RegsOnly.forN (fun u i => .unflag u _ i) s⟩,
    fun s => ⟨_, rfl, fun l hl => State.is_forN_unflag (by decide) _ hl, ?lamps⟩, fun s a b late e hl he => ⟨_, exec_monPass s a b late, ?pass⟩,
    fun s h => ⟨_, exec_monSelftestGo_free h, State.is_flag _ _ _ (by decide), ?free⟩,
    fun s h => ⟨_, exec_monSelftestGo_held h, State.is_flag _ _ _ (by decide), ?held⟩, fun s means hb hs hp hall => ⟨_, exec_monSelftestDone hb hs hp, ?within⟩,
    fun s means hb hs hp hany => ⟨_, exec_monSelftestDone hb hs hp, ?off⟩, fun s means h => ?none⟩
  case day =>
    rw [(Only.showWeek s.dayClosed).get (by decide), State.showWeek_health]
    exact ⟨s.get_dayClosed, s.dayClosed_snaps⟩
  case lamps => exact List.foldlRecOn (motive := fun u : State => u.health.bref = List.replicate 32 none) _ _ rfl fun _ hu _ _ => hu
  case pass =>
    have hbelow : ∀ a, a < aMON_STATUS → s.passBegun.word a = s.word a := fun a ha => Only.passBegun s a (by simpa using ha.ne)
    have hen : s.passBegun.is fMON_SEQ_EN (16 * 0 + e.val) = true := by
      rw [Nat.zero_add, (Only.passBegun s).is ((by decide : ∀ e : Fin 16, fMON_SEQ_EN.base + e.val ∉ [aMON_STATUS]) e), he]
    have hread : s.passBegun.monRead 0 e.val (a.getD e.val 0).val = s.monRead 0 e.val (a.getD e.val 0).val :=
      State.monRead_congr s.passBegun_selv hbelow (by omega) _
    obtain ⟨hvalue, hsat⟩ := State.monConvert_shows hl e.isLt (by decide) hen
    rw [Nat.zero_add] at hvalue hsat
    have hkept := (s.passBegun.monConvert 0 a).word_passEnd b late e.isLt
    exact ⟨(congrArg fMON_RES_VALUE.get hkept).trans (hvalue.trans (by rw [hread])), (congrArg (fMON_RES_SAT.get · == 1) hkept).trans hsat⟩
  case free => exact (State.get_flag_apart _ (.inl (by decide))).trans s.get_claimed30
  case held =>
    have hshow : (s.claimRefused 13 30).get fMAINT_STATUS_LAST_ACT = 13 ∧ (s.claimRefused 13 30).get fMAINT_STATUS_LAST_RES = 30 := by
      unfold State.claimRefused
      rw [State.get_bump_apart _ _ (.inr (by decide)), State.get_put_apart _ _ (.inr (by decide)), State.get_put_same _ _ _ _ (by decide),
        State.get_bump_apart _ _ (.inr (by decide)), State.get_put_same _ _ _ _ (by decide)]
      exact ⟨rfl, rfl⟩
    rw [State.get_flag_apart _ (.inl (by decide)), State.get_flag_apart _ (.inl (by decide))]
    exact ⟨hshow.1, hshow.2, ((Only.claimRefused s 13 30).mono (by decide)).flag⟩
  case within =>
    have hnone : means.find? s.meanOff = none := List.find?_eq_none.mpr fun m hm => by
      have := List.all_eq_true.mp hall m hm
      simpa [State.meanOff] using this
    rw [hnone]
    obtain ⟨hbusy, hx, hstop, hdet⟩ := (s.flag fMON_SELFTEST_DONE).selftestOver_shows
    have hdone := (s.flag fMON_SELFTEST_DONE).selftestOver_verdict.1
    exact ⟨hbusy, hdone.trans (State.is_flag _ _ _ (by decide)), hx, hstop, hdet.trans (State.flag_detected ..)⟩
  case off =>
    obtain ⟨m, hm⟩ : ∃ m, means.find? s.meanOff = some m := by
      obtain ⟨m, hmem, hoff⟩ := List.any_eq_true.mp hany
      exact Option.isSome_iff_exists.mp (List.find?_isSome.mpr ⟨m, hmem, hoff⟩)
    rw [hm]
    obtain ⟨u, hu⟩ : ∃ u, u = (s.flag fMON_SELFTEST_ST_FAIL).detect 20 1 1 (m.2.1.val * 4 + m.1.val) false s.nowT := ⟨_, rfl⟩
    have hfail : u.is fMON_SELFTEST_ST_FAIL = true := by
      rw [hu]
      exact State.is_flag _ _ _ (by decide)
    have hone : u.detected.length = s.detected.length + 1 := by
      rw [hu]
      simp [State.detect]
    dsimp only
    rw [← hu]
    obtain ⟨hbusy, -, hstop, hdet⟩ := u.selftestOver_shows
    exact ⟨hbusy, u.selftestOver_verdict.2.trans hfail, hstop, (congrArg List.length hdet).trans hone⟩
  case none =>
    refine if_pos (h.imp Bool.eq_false_iff.mp (Or.imp Bool.eq_false_iff.mp fun hp => ?_))
    exact Bool.eq_false_iff.mp hp

end Sys2Proof.Machine

/-! # What the apply of a draft leaves of the load (R485)

`DraftKept s t` says that `t` follows `s` with the load's bytes and marks as they were. As with `Keeps` and `BesideLines`, each function that an
apply runs through has one lemma, of its name, that follows the function's text; what an event of a line runs through is taken over from there. -/

namespace Sys2Proof.Machine

-- one thread at a time: the check holds the whole text in memory
set_option Elab.async false

/-- The load is as it was. -/
def DraftKept (s t : State) : Prop := t.draft = s.draft

/-- An answer goes on with the load as it was. -/
def OutDraftKept (s : State) (o : Out) : Prop := ∃ t, o = .next t ∧ DraftKept s t

variable {s t u : State}

/-! ### How steps are put together -/

theorem DraftKept.refl (s : State) : DraftKept s s := rfl

theorem DraftKept.rest (h : DraftKept s t) (hu : u.draft = t.draft := by rfl) : DraftKept s u := hu.trans h

/-- As `DraftKept.rest`, of a step that changes no register word: the words tell which state the step is taken from. -/
theorem DraftKept.aside (h : DraftKept s t) (_hr : u.regs = t.regs := by exact rfl) (hu : u.draft = t.draft := by exact rfl) : DraftKept s u :=
  hu.trans h

/-- What leaves all that no event of a line changes leaves the load. -/
theorem DraftKept.beside (h : DraftKept s t) (hu : BesideLines t u) : DraftKept s u :=
  ((congrArg State.draft hu : u.besideLines.draft = t.besideLines.draft) :).trans h

theorem DraftKept.ite {c : Prop} {_ : Decidable c} (ht : DraftKept s t) (hu : DraftKept s u) : DraftKept s (if c then t else u) := by
  split <;> assumption

theorem DraftKept.when {c : Prop} {_ : Decidable c} (h : DraftKept s t) (k : DraftKept s t → DraftKept s u) :
    DraftKept s (if c then u else t) :=
  (k h).ite h

theorem DraftKept.unless {c : Prop} {_ : Decidable c} (h : DraftKept s t) (k : DraftKept s t → DraftKept s u) :
    DraftKept s (if c then t else u) :=
  h.ite (k h)

theorem DraftKept.foldl {α : Type} {l : List α} {f : State → α → State} (h : DraftKept s t)
    (hf : ∀ {u x}, DraftKept s u → DraftKept s (f u x)) : DraftKept s (l.foldl f t) :=
  List.foldlRecOn (motive := DraftKept s) l f h fun _ hu _ _ => hf hu

theorem DraftKept.forN {n : Nat} {f : State → Nat → State} (h : DraftKept s t) (hf : ∀ {u i}, DraftKept s u → DraftKept s (f u i)) :
    DraftKept s (t.forN n f) := h.foldl hf

theorem DraftKept.foldlFst {α β : Type} {l : List α} {f : State × β → α → State × β} {a : State × β} (h : DraftKept s a.1)
    (hf : ∀ {a x}, DraftKept s a.1 → DraftKept s (f a x).1) : DraftKept s (l.foldl f a).1 :=
  List.foldlRecOn (motive := fun a : State × β => DraftKept s a.1) l f h fun _ ha _ _ => hf ha

theorem OutDraftKept.next (h : DraftKept s t) : OutDraftKept s (.next t) := ⟨t, rfl, h⟩

theorem OutDraftKept.ite {c : Prop} {_ : Decidable c} {o p : Out} (ho : OutDraftKept s o) (hp : OutDraftKept s p) :
    OutDraftKept s (if c then o else p) := by
  split <;> assumption

theorem OutDraftKept.after {o : Out} (h : OutDraftKept s o) : DraftKept s (o.after t) := by
  obtain ⟨u, rfl, hu⟩ := h
  exact hu

section
variable (h : DraftKept s t)
include h

/-! ### What the events of a line run through too -/

theorem DraftKept.put {f : Fld} {v o : Nat} : DraftKept s (t.put f v o) := h.rest
theorem DraftKept.unflag {f : Fld} {o : Nat} : DraftKept s (t.unflag f o) := h.rest
theorem DraftKept.noteEvt {f : Fld} {o : Nat} {g : Nat → Nat} : DraftKept s (t.noteEvt f o g) := h.beside (.noteEvt (.refl t))
theorem DraftKept.flag {f : Fld} {o : Nat} : DraftKept s (t.flag f o) := h.noteEvt.put
theorem DraftKept.bump {f : Fld} {o n : Nat} : DraftKept s (t.bump f o n) := h.noteEvt.put
theorem DraftKept.applyWord {a : Nat} : DraftKept s (t.applyWord a) := h.beside (.applyWord (.refl t))
theorem DraftKept.applyWords {as : List Nat} : DraftKept s (t.applyWords as) := h.beside (.applyWords (.refl t))
theorem DraftKept.setOut {o : Nat} {x : OutSt} : DraftKept s (t.setOut o x) := h.rest
theorem DraftKept.unstage {a : Nat} : DraftKept s (t.unstage a) := h.beside (.unstage (.refl t))
theorem DraftKept.setQueue {q : Nat} {x : BQueue} : DraftKept s (t.setQueue q x) := h.rest
theorem DraftKept.rewind {q : Nat} {ign : Ignore} : DraftKept s (t.rewind q ign) := h.beside (.rewind (.refl t))
theorem DraftKept.oPut {o v : Nat} {fc fm : Fld} : DraftKept s (t.oPut o fc fm v) := h.beside (.oPut (.refl t))
theorem DraftKept.oFlag {o : Nat} {fc fm : Fld} : DraftKept s (t.oFlag o fc fm) := h.beside (.oFlag (.refl t))
theorem DraftKept.oBump {o : Nat} {fc fm : Fld} : DraftKept s (t.oBump o fc fm) := h.beside (.oBump (.refl t))
theorem DraftKept.wakeGroup {g : Nat} : DraftKept s (t.wakeGroup g) := h.beside (.wakeGroup (.refl t))
theorem DraftKept.setDrv {o v : Nat} : DraftKept s (t.setDrv o v) := h.beside (.setDrv (.refl t))
theorem DraftKept.oRefresh {o : Nat} : DraftKept s (t.oRefresh o) := h.beside (.oRefresh (.refl t))
theorem DraftKept.applyOut {o : Nat} : DraftKept s (t.applyOut o) := h.beside (.applyOut (.refl t))
theorem DraftKept.reedTo {i : Nat} : DraftKept s (t.reedTo i) := h.beside (.reedTo (.refl t))
theorem DraftKept.checkLoad : DraftKept s t.checkLoad := h.beside (.checkLoad (.refl t))
theorem DraftKept.setPort {p : Nat} {x : PortSt} : DraftKept s (t.setPort p x) := h.rest
theorem DraftKept.setSeq {q : Nat} {x : SeqSt} : DraftKept s (t.setSeq q x) := h.rest
theorem DraftKept.setLine {l : Nat} {x : HedLine} : DraftKept s (t.setLine l x) := h.rest
theorem DraftKept.setWordDated {a : Nat} {w : Word} : DraftKept s (t.setWordDated a w) := h.rest

/-! ### What an apply runs through besides -/

theorem DraftKept.setWord {a : Nat} {w : Word} : DraftKept s (t.setWord a w) := h.rest
theorem DraftKept.withProbes {x : List ProbeSt} : DraftKept s { t with probes := x } := h.rest
theorem DraftKept.withRes {x : List ResSt} : DraftKept s { t with res := x } := h.rest
theorem DraftKept.putSat {f : Fld} {z : Int} {o : Nat} : DraftKept s (t.putSat f z o) := h.rest
theorem DraftKept.putBit {f : Fld} {i : Nat} {b : Bool} {o : Nat} : DraftKept s (t.putBit f i b o) := (h.when (·.noteEvt)).put
theorem DraftKept.free : DraftKept s t.free.2 := h.rest
theorem DraftKept.wakeLane {l : Nat} : DraftKept s (t.wakeLane l) := h.unless (·.aside)
theorem DraftKept.setWordFrom {a : Nat} {w : Word} {c : Nat} : DraftKept s (t.setWordFrom a w c) := h.rest
theorem DraftKept.setBank {b : Nat} {x : BankSt} : DraftKept s (t.setBank b x) := h.rest
theorem DraftKept.stage {a : Nat} {w : Word} : DraftKept s (t.stage a w) := h.rest
theorem DraftKept.goldenCrc {i : Nat} : DraftKept s (t.goldenCrc i) := h.rest
theorem DraftKept.markBad {q : Nat} : DraftKept s (t.markBad q) := h.when (·.rewind.flag.bump)
theorem DraftKept.flushQueue {q : Nat} : DraftKept s (t.flushQueue q) := (h.when (·.flag)).setQueue.flag
theorem DraftKept.resShow {r : Nat} : DraftKept s (t.resShow r) := h.putBit
theorem DraftKept.resDrop {act r : Nat} : DraftKept s (t.resDrop act r) := (h.when (·.put)).putBit.resShow
theorem DraftKept.release {act : Nat} : DraftKept s (t.release act) := (h.forN (·.resDrop)).putBit
theorem DraftKept.oSuppress {o : Nat} : DraftKept s (t.oSuppress o) := h.oFlag.oBump
theorem DraftKept.requestApply {o : Nat} : DraftKept s (t.requestApply o) := .ite h.applyOut h.oPut
theorem DraftKept.setRx {f : Nat} {x : RxSt} : DraftKept s (t.setRx f x) := h.rest
theorem DraftKept.seqApply {q : Nat} : DraftKept s (t.seqApply q) := h.applyWords.unflag
theorem DraftKept.limTo {f t' : Nat} : DraftKept s (t.limTo f t') := h.rest
theorem DraftKept.lightWrite {f a : Nat} {w : Word} : DraftKept s (t.lightWrite f a w) := h.rest
theorem DraftKept.designate {f : Nat} : DraftKept s (t.designate f) := h.rest
theorem DraftKept.redundancy {m : Nat} : DraftKept s (t.redundancy m) := h.rest
theorem DraftKept.setRole {m g r : Nat} : DraftKept s (t.setRole m g r) := h.rest
theorem DraftKept.holdInputs {mask : Nat} {on : Bool} : DraftKept s (t.holdInputs mask on) := .foldl h (·.put)
theorem DraftKept.calBusy : DraftKept s t.calBusy := h.rest
theorem DraftKept.calEnd : DraftKept s t.calEnd := h.holdInputs.release.aside.calBusy
theorem DraftKept.rxCalEnd : DraftKept s t.rxCalEnd := h.release.aside.calBusy
theorem DraftKept.rxCalAbort {reason : Nat} : DraftKept s (t.rxCalAbort reason) := h.unless (·.flag.put.bump.rxCalEnd)
theorem DraftKept.spareBack {b : Nat} {faulty : Bool} : DraftKept s (t.spareBack b faulty) := h.rest
theorem DraftKept.calAbort {reason : Nat} : DraftKept s (t.calAbort reason) :=
  h.unless (fun hu => ((hu.flag.put.bump.when (·.spareBack)).when (·.setRole)).calEnd.when (·.setBank))
theorem DraftKept.cdFail {reason : Nat} : DraftKept s (t.cdFail reason) := h.when (·.holdInputs.aside.release.unflag.flag.put)
theorem DraftKept.driverOff {o : Nat} : DraftKept s (t.driverOff o) := h.setDrv.setOut
theorem DraftKept.enable {o v : Nat} : DraftKept s (t.enable o v) :=
  h.unless fun hu =>
    have h₁ := hu.oPut.when (·.oSuppress)
    .ite h₁.setDrv.setOut.wakeGroup (h₁.unless fun hv => .ite hv.driverOff hv.setOut)
theorem DraftKept.probeSample {f n : Nat} : DraftKept s (t.probeSample f n) := .ite h.aside <| h.aside.when (·.flag.bump)
theorem DraftKept.bandCheck {f : Nat} : DraftKept s (t.bandCheck f) := h.when (·.flag)
theorem DraftKept.probeTo {f t' : Nat} : DraftKept s (t.probeTo f t') := (DraftKept.foldl h.withProbes (·.probeSample)).withProbes
theorem DraftKept.probesNow : DraftKept s t.probesNow := h.probeTo.probeTo
theorem DraftKept.probeGrid {f : Nat} : DraftKept s (t.probeGrid f) := h.rest
theorem DraftKept.applyProbe {f t' : Nat} : DraftKept s (t.applyProbe f t') := h.probeTo.aside.applyWords.unflag.bandCheck
theorem DraftKept.txDrops {f : Nat} : DraftKept s (t.txDrops f) := h.aside.unless (·.bump)
theorem DraftKept.txState {f st : Nat} : DraftKept s (t.txState f st) := h.txDrops.aside.put
theorem DraftKept.execTxLinkEnable {f : Fin 2} : OutDraftKept s (execTxLinkEnable f t) :=
  .next (h.flag.when (fun hu => hu.txState.forN (·.wakeLane)))
theorem DraftKept.execTxLinkDisable {f : Fin 2} : OutDraftKept s (execTxLinkDisable f t) := .next h.unflag.txState
theorem DraftKept.bringUp {a : Nat} : DraftKept s (t.bringUp a) :=
  .ite h.probeTo <| .ite h.probeTo <| .ite h.txDrops <| h.when (·.reedTo)
theorem DraftKept.tiLoad {i : Nat} {t' : Int} : DraftKept s (t.tiLoad i t') := (h.forN (·.setWordDated)).setWordDated
theorem DraftKept.loadOver {u : Nat} : DraftKept s (t.loadOver u) := h.rest
theorem DraftKept.loadWait {u : Nat} {t' : Int} : DraftKept s (t.loadWait u t') := h.rest
theorem DraftKept.tiLoadNow {u : Nat} {t' : Int} : DraftKept s (t.tiLoadNow u t') := .ite h.loadOver.tiLoad h.loadWait
theorem DraftKept.recompute : DraftKept s t.recompute := h.put.forN (·.tiLoadNow)
theorem DraftKept.setSpare {role pos : Nat} : DraftKept s (t.setSpare role pos) := h.rest
theorem DraftKept.spareJoin {p : Nat} : DraftKept s (t.spareJoin p) := h.rest
theorem DraftKept.spareRest : DraftKept s t.spareRest :=
  h.when (fun hu => .ite hu.setSpare (.ite (hu.unless (fun hv => .ite hv.spareJoin hv.aside.setSpare)) hu.spareJoin))
theorem DraftKept.rxState {f st : Nat} : DraftKept s (t.rxState f st) := h.setRx.put.spareRest
theorem DraftKept.laneLocks {f : Nat} {on : Bool} : DraftKept s (t.laneLocks f on) := .foldl h (·.put.put)
theorem DraftKept.execRxLinkEnable {f : Fin 2} : OutDraftKept s (execRxLinkEnable f t) :=
  .next (h.flag.put.when (fun hu => .foldl hu.rxState (·.wakeLane)))
theorem DraftKept.execRxLinkDisable {f : Fin 2} : OutDraftKept s (execRxLinkDisable f t) := .next h.unflag.laneLocks.rxState
theorem DraftKept.resApplyWord {t' a : Nat} : DraftKept s (t.resApplyWord t' a) := h.applyWord.unless (·.aside)
theorem DraftKept.applyRes {f t' : Nat} : DraftKept s (t.applyRes f t') :=
  (DraftKept.foldl h (·.resApplyWord)).setRx.unless (·.withRes)
theorem DraftKept.execPrefWrite {b : Bool} : OutDraftKept s (execPrefWrite b t) := .next (.ite h.put.aside (h.put.unless (·.aside)))
theorem DraftKept.trimTo : DraftKept s t.trimTo := h.unless (·.aside)
theorem DraftKept.safeCycles {rem : Nat} : DraftKept s (t.safeCycles rem).2 := by
  unfold State.safeCycles; dsimp only; split; exacts [h.free, h]
theorem DraftKept.safeSpan {n : Nat} : DraftKept s (t.safeSpan n).2 := by
  unfold State.safeSpan; dsimp only; split; exacts [h.free, h]
theorem DraftKept.retimeTo {o n : Nat} : DraftKept s (t.retimeTo o n) := by
  unfold State.retimeTo; split; exacts [h, h.safeSpan.setOut]
theorem DraftKept.safeSource {ring : Bool} : DraftKept s (t.safeSource ring) := by
  refine h.unless fun _ => .ite h.put (.foldl (DraftKept.put ?_) (·.retimeTo))
  refine DraftKept.foldlFst (a := (t, [])) h fun hu => ?_
  split
  · split; exacts [hu.safeCycles, hu]
  · exact hu
theorem DraftKept.toRing {relock : Bool} : DraftKept s (t.toRing relock) := h.rest
theorem DraftKept.execRetuneGo : OutDraftKept s (execRetuneGo t) :=
  .ite (.next h.put) <| .next h.aside.put.calAbort.rxCalAbort.cdFail.checkLoad
theorem DraftKept.rampStart {from_ : Int} : DraftKept s (t.rampStart from_) := .ite h.trimTo.aside.unflag.putSat h.trimTo.aside.flag
theorem DraftKept.takeTrim {v : Int} : DraftKept s (t.takeTrim v) :=
  have h3 := (h.trimTo.unless (·.flag)).putSat; .ite h3.unflag.putSat h3.rampStart
theorem DraftKept.execTrimWrite {trim : Int} : OutDraftKept s (execTrimWrite trim t) := .next (.ite h.flag h.takeTrim)
theorem DraftKept.setSkein {k : Nat} {x : SkeinSt} : DraftKept s (t.setSkein k x) := h.rest
theorem DraftKept.setRegion {q : Nat} {x : RegionSt} : DraftKept s (t.setRegion q x) := h.rest
theorem DraftKept.rawDrop {k : Nat} {cfg : Word} : DraftKept s (t.rawDrop k cfg) := h.unless (·.setRx.bump)
theorem DraftKept.emptySkein {k : Nat} : DraftKept s (t.emptySkein k) :=
  (h.forN (fun hu => hu.when (·.unflag.flag))).setSkein.unflag
theorem DraftKept.recWrite {a : Nat} {w : Word} : DraftKept s (t.recWrite a w) := by
  unfold State.recWrite; split; exacts [h, .ite h.flag (h.unless (fun hu => hu.setWord.when (·.recompute)))]
theorem DraftKept.toTstate {t' : Nat} : DraftKept s (t.toTstate t') := (h.unless (·.unflag)).put.aside
theorem DraftKept.showPaths : DraftKept s t.showPaths := h.put.when (·.toTstate)
theorem DraftKept.dropPath {p : Nat} : DraftKept s (t.dropPath p) := h.unflag.put.showPaths
theorem DraftKept.ringFlush {q : Nat} : DraftKept s (t.ringFlush q) := h.forN (fun hu => hu.when (·.unflag.aside))
theorem DraftKept.flush {q : Nat} : DraftKept s (t.flush q) :=
  (h.flushQueue.ringFlush.forN (fun hu => hu.when (·.aside))).forN (fun hu => hu.when (·.setSeq.bump.flag))
theorem DraftKept.send {o : HostOut} : DraftKept s (t.send o) := h.rest
theorem DraftKept.execRingRdWrite {n : Fin 64} {rd : Fin (2 ^ 30)} : OutDraftKept s (execRingRdWrite n rd t) :=
  .next (h.put.when (·.unflag))
theorem DraftKept.hostDown : DraftKept s t.hostDown := h.rest
theorem DraftKept.showPins : DraftKept s t.showPins := h.put.put.when (·.send)
theorem DraftKept.zeroGaugesAt {f t' : Nat} : DraftKept s (t.zeroGaugesAt f t') := h.rest
theorem DraftKept.emptyStage {f stage : Nat} : DraftKept s (t.emptyStage f stage) :=
  .ite h.zeroGaugesAt <| .ite h.aside <| .ite h.aside <| .ite h.aside <| h.when (·.aside)
theorem DraftKept.portReset {p : Nat} : DraftKept s (t.portReset p) := h.put.bump.setPort.dropPath
theorem DraftKept.structEffect {a : Nat} {old new : Word} : DraftKept s (t.structEffect a old new) :=
  .ite h.setLine <| .ite h.setLine <| .ite (h.when (·.setSeq)) <| .ite ((DraftKept.ite h.aside h.probeGrid).unless (·.txState)) <|
  .ite h.aside <| .ite h.designate <| .ite (h.unless (·.laneLocks.rxState)) <| .ite h.zeroGaugesAt <| .ite h.emptyStage <| .ite h.aside <|
  .ite h.aside <| .ite (h.when (·.emptyStage)) <| .ite h.flush <| .ite h.flush <| .ite h.setRegion <| .ite h.setRegion <|
  .ite h.emptySkein.rawDrop <| .ite h.emptySkein <| .ite h.hostDown <| .ite (h.unless (fun hu => (hu.forN (·.portReset)).toTstate)) <|
  h.when (·.unflag.flag.safeSource.toRing)
theorem DraftKept.takeWord {a : Nat} : DraftKept s (t.takeWord a) :=
  (DraftKept.ite h.limTo.probesNow (h.when (·.probesNow))).unstage.unless (·.structEffect)
theorem DraftKept.showHeld : DraftKept s t.showHeld := h.rest
theorem DraftKept.releaseIsland {n : Nat} : DraftKept s (t.releaseIsland n) :=
  .foldl ((DraftKept.foldl h.putBit.showHeld (·.takeWord)).when (fun hu => hu.forN (·.oRefresh))) (·.goldenCrc)
theorem DraftKept.setDom {d v : Nat} : DraftKept s (t.setDom d v) := h.rest
theorem DraftKept.setReq {d v : Nat} : DraftKept s (t.setReq d v) := h.rest
theorem DraftKept.showGov : DraftKept s t.showGov := h.rest
theorem DraftKept.govAsk {e : GovEvt} : DraftKept s (t.govAsk e) := h.unless (·.aside.showGov)
theorem DraftKept.govDrop {e : GovEvt} : DraftKept s (t.govDrop e) := h.rest
theorem DraftKept.pwrRefuse {d reason : Nat} : DraftKept s (t.pwrRefuse d reason) := h.flag.put.put
theorem DraftKept.wakeAsk {d : Nat} : DraftKept s (t.wakeAsk d) := h.setDom.govAsk
theorem DraftKept.reqOn {d : Nat} : DraftKept s (t.reqOn d) :=
  .ite (h.unless (·.setReq.aside)) <| .ite h.pwrRefuse <| .ite h.setReq.aside <| .ite h.setReq.aside.wakeAsk h.setReq.wakeAsk
theorem DraftKept.saving {d : Nat} : DraftKept s (t.saving d) := .ite h.setDom.calAbort <| h.setDom.when (·.rxCalAbort)
theorem DraftKept.dropQueues : DraftKept s t.dropQueues := h.rest
theorem DraftKept.reqOff {d path : Nat} : DraftKept s (t.reqOff d path) :=
  .ite h.setReq.aside <| .ite h.pwrRefuse <| .ite (h.setReq.govDrop.setDom.when (·.aside.dropQueues)) <| .ite h.setReq.aside <|
  .ite h.setReq.setDom.dropQueues h.setReq.saving
theorem DraftKept.rewindAll : DraftKept s t.rewindAll := .foldl h (fun hu => hu.when (·.rewind.markBad))
theorem DraftKept.reqRetain {d : Nat} : DraftKept s (t.reqRetain d) :=
  .ite h.pwrRefuse <| h.unless (fun hu => .ite hu.pwrRefuse (.ite hu.pwrRefuse (.ite hu.pwrRefuse (hu.unless (·.setReq.rewindAll)))))
theorem DraftKept.writeShadow {a : Nat} {w : Word} : DraftKept s (t.writeShadow a w) :=
  h.unless (·.aside)
theorem DraftKept.pwrWrite {path : Nat} {w : Word} : DraftKept s (t.pwrWrite path w) :=
  h.forN (fun hu => .ite hu.reqOff (.ite hu.reqOn (.ite hu.reqRetain hu.pwrRefuse)))
theorem DraftKept.inEnabled {i : Nat} {w : Word} : DraftKept s (t.inEnabled i w) := (h.when (·.aside)).unless (·.aside)
theorem DraftKept.writeLive {path a : Nat} {w : Word} : DraftKept s (t.writeLive path a w) :=
  h.bringUp.unless fun hu =>
    .ite hu.setWord.enable.checkLoad <|
    .ite hu.setWord.enable.checkLoad <|
    .ite hu.setWord.execPrefWrite.after <|
    .ite hu.execTrimWrite.after <|
    .ite (hu.unless fun hv => .ite hv.execTxLinkEnable.after hv.execTxLinkDisable.after) <|
    .ite (hu.unless fun hv => .ite hv.execRxLinkEnable.after hv.execRxLinkDisable.after) <|
    .ite hu.lightWrite <| .ite hu.recWrite <| .ite hu.execRingRdWrite.after <| .ite hu.setWordFrom <| .ite hu.pwrWrite <|
    .ite hu.setWord.showPins <| .ite hu.inEnabled.setWordDated <| .ite hu.setWordDated <|
    .ite (hu.when (·.probesNow)).setWordFrom (.ite hu.probesNow.setWord hu.setWord)
theorem DraftKept.frameWrite {ty a : Nat} {w : Word} : DraftKept s (t.frameWrite ty a w) :=
  .ite h.flag <| .ite h.stage <| .ite h.writeShadow.writeLive <| h.when (·.setWord)
theorem DraftKept.zeroStage : DraftKept s t.zeroStage := .foldl h (fun hu => .ite hu.setWord (hu.unless (·.stage)))
theorem DraftKept.framesWrite {bs : List Nat} : DraftKept s (t.framesWrite bs) := .foldl h (fun hu => .foldl hu (·.frameWrite))
theorem DraftKept.applyUnit {a : Nat} : DraftKept s (t.applyUnit a) :=
  .ite h.requestApply <| .ite (.ite h.applyOut h.requestApply) <| .ite (.ite h.flag h.seqApply) <| .ite (.ite h.flag h.applyProbe) <|
  .ite h.flag (by split; exacts [.ite h.setRx h.applyRes, h])
theorem DraftKept.draftRetune {ws : List Nat} : DraftKept s (t.draftRetune ws) :=
  h.unless (fun hu => hu.execRetuneGo.after.when (·.flag))
theorem DraftKept.derive {weft : Bool} : DraftKept s (t.derive weft) := h.setWord.when (fun hu => hu.forN (·.setWord))
theorem DraftKept.applyRelease {ws : List Nat} {n : Nat} : DraftKept s (t.applyRelease ws n) :=
  (DraftKept.foldl (h.aside.unless (·.releaseIsland)) (fun hu => hu.when (·.applyUnit))).when (·.draftRetune)
theorem DraftKept.showApplied {bs : List Nat} : DraftKept s (t.showApplied bs) := h.put.put.put.put.put.unless (·.unflag)
theorem DraftKept.wakeClusters {old : State} : DraftKept s (t.wakeClusters old) := h.unless (·.forN (·.when (·.govAsk)))

end

end Sys2Proof.Machine

/-! # Loading, applying and committing a draft (R480 to R490) -/

namespace Sys2Proof.Machine

-- one thread at a time: the check holds the whole text in memory
set_option Elab.async false

/-! ### Reasons of the format and trailer checks fit in five bits (R483, R489) -/

section
variable {bs : List Nat} {e : Nat × Nat}

theorem headerCheck_reason_lt (h : headerCheck bs = some e) : e.1 < 32 := by
  unfold headerCheck at h
  split_ifs at h <;> (cases h; exact of_decide_eq_true rfl)

theorem frameHead_reason_lt {p : Nat} (h : frameHead bs p = some e) : e.1 < 32 := by
  unfold frameHead at h
  dsimp only at h
  split_ifs at h <;> (cases h; exact of_decide_eq_true rfl)

theorem frameTail_reason_lt {p n : Nat} (h : frameTail bs p n = some e) : e.1 < 32 := by
  unfold frameTail at h
  dsimp only at h
  split_ifs at h <;> (cases h; exact of_decide_eq_true rfl)

theorem framesCheck_reason_lt {k p : Nat} (h : framesCheck bs k p = some e) : e.1 < 32 := by
  induction k generalizing p with
  | zero =>
    unfold framesCheck at h
    split_ifs at h
    cases h
    decide
  | succ k ih =>
    unfold framesCheck at h
    split_ifs at h
    · cases h
      decide
    · split at h
      next hh =>
        cases h
        exact frameHead_reason_lt hh
      next =>
        dsimp only at h
        split_ifs at h
        · cases h
          decide
        · cases ht : frameTail bs p (frameAt bs p).count with
          | some x =>
            rw [ht] at h
            cases h
            exact frameTail_reason_lt ht
          | none =>
            rw [ht] at h
            exact ih h

theorem formatCheck_reason_lt (h : formatCheck bs = some e) : e.1 < 32 := by
  unfold formatCheck at h
  split_ifs at h
  cases hh : headerCheck bs with
  | some x =>
    rw [hh] at h
    cases h
    exact headerCheck_reason_lt hh
  | none =>
    rw [hh] at h
    exact framesCheck_reason_lt h

theorem trailerCheck_reason_lt (h : trailerCheck bs = some e) : e.1 < 32 := by
  unfold trailerCheck at h
  dsimp only at h
  split_ifs at h <;> (cases h; exact of_decide_eq_true rfl)

end

/-! ### The stage and a rejected load -/

section
variable {s t : State}

/-- What emptying the stage leaves. -/
theorem State.clearStage_shows (s : State) {st : Nat} (hst : st < 8) : (s.clearStage st).drState = st ∧
    (s.clearStage st).get fDRAFT_STATUS_RECEIVED = 0 ∧ (s.clearStage st).get fDRAFT_STATUS_REASON = 0 ∧ (s.clearStage st).draft.bytes = [] ∧
    Only [aDRAFT_STATUS, aDRAFT_FAIL, aDRAFT_FAIL_OFS] s (s.clearStage st) := by
  refine ⟨?_, ?_, ?_, rfl, ?_⟩
  · unfold State.drState State.clearStage
    rw [State.get_put_apart _ _ (.inl (by decide)), State.get_put_apart _ _ (.inl (by decide)), State.get_put_apart _ _ (.inl (by decide)),
      State.get_put_apart _ _ (.inr (by decide)), State.get_put_apart _ _ (.inr (by decide)), State.get_put_of_lt _ (by decide) hst]
  · unfold State.clearStage
    rw [State.get_put_apart _ _ (.inl (by decide)), State.get_put_apart _ _ (.inl (by decide)), State.get_put_apart _ _ (.inl (by decide)),
      State.get_put_of_lt _ (by decide) (by decide)]
  · unfold State.clearStage
    rw [State.get_put_apart _ _ (.inl (by decide)), State.get_put_apart _ _ (.inl (by decide)), State.get_put_apart _ _ (.inl (by decide)),
      State.get_put_apart _ _ (.inr (by decide)), State.get_put_of_lt _ (by decide) (by decide)]
  · exact (((((Only.rest (u := { s with draft := { s.draft with bytes := [], applied := false } }) (Only.refl _ s)).put).put).put.put).put).put

theorem exec_draftBegin_on (h4 : s.drState ≠ 4) (hs : s.draft.slot = none) (hm : s.domState 6 = 3) : exec .draftBegin s = .next (s.clearStage 1) := by
  have hdom : (s.clearStage 1).domState 6 = 3 := (State.domState_congr (s.clearStage_shows (by decide)).2.2.2.2 (by decide) 6).trans hm
  exact (if_neg (by simp [h4, hs])).trans (congrArg Host.Outcome.next (if_pos hdom))

theorem exec_draftBegin_wake (h4 : s.drState ≠ 4) (hs : s.draft.slot = none) (hm : s.domState 6 ≠ 3) :
    exec .draftBegin s = .next ((s.clearStage 1).reqOn 6) := by
  have hdom : (s.clearStage 1).domState 6 ≠ 3 := fun h => hm ((State.domState_congr (s.clearStage_shows (by decide)).2.2.2.2 (by decide) 6).symm.trans h)
  exact (if_neg (by simp [h4, hs])).trans (congrArg Host.Outcome.next (if_neg hdom))

theorem exec_draftBegin_busy (h : s.drState = 4 ∨ s.draft.slot ≠ none) : exec .draftBegin s = .next (s.flag fDRAFT_CTRL_BUSY) :=
  if_pos (h.imp_right Option.isSome_iff_ne_none.mpr)

/-- What the rejection of a load leaves. -/
theorem State.reject_shows (s : State) {r : Nat} (hr : r < 32) : (s.reject r).drState = 5 ∧ (s.reject r).get fDRAFT_STATUS_REASON = r ∧
    Only [aDRAFT_STATUS, aDRAFT_COUNT] s (s.reject r) := by
  have hlt : r < 2 ^ fldWidth fDRAFT_STATUS_REASON := hr.trans (by decide)
  unfold State.reject
  refine ⟨?_, ?_, ((Only.refl _ s).put.put).bump⟩
  · unfold State.drState
    rw [State.get_bump_apart _ _ (.inl (by decide)), State.get_put_apart _ _ (.inr (by decide)), State.get_put_of_lt _ (by decide) (by decide)]
  · rw [State.get_bump_apart _ _ (.inl (by decide)), State.get_put_of_lt _ (by decide) hlt]

/-- A load rejected for a place in the file. -/
theorem State.rejectAt_shows (s : State) {e : Nat × Nat} (hr : e.1 < 32) :
    ((s.reject e.1).put fDRAFT_FAIL_OFS_OFS e.2).drState = 5 ∧
    ((s.reject e.1).put fDRAFT_FAIL_OFS_OFS e.2).get fDRAFT_STATUS_REASON = e.1 % 32 ∧
    Only [aDRAFT_STATUS, aDRAFT_COUNT, aDRAFT_FAIL_OFS] s ((s.reject e.1).put fDRAFT_FAIL_OFS_OFS e.2) := by
  obtain ⟨hst, hreason, hrest⟩ := s.reject_shows hr
  refine ⟨(State.get_put_apart _ _ (.inl (by decide))).trans hst, ?_, Only.put (hrest.mono (by decide))⟩
  rw [State.get_put_apart _ _ (.inl (by decide)), hreason, Nat.mod_eq_of_lt hr]

theorem exec_draftAbort_busy (h : s.drState = 4) : exec .draftAbort s = .next (s.flag fDRAFT_CTRL_BUSY) := if_pos h

theorem exec_draftAbort_verifying (h : s.drState = 2) : exec .draftAbort s = .next (s.reject 0x16) :=
  (if_neg (by rw [h]; decide)).trans (if_pos h)

theorem exec_draftAbort_staged (h : s.drState = 1 ∨ s.drState = 3 ∨ s.drState = 5) : exec .draftAbort s = .next (s.clearStage 0) :=
  (if_neg (by omega)).trans ((if_neg (by omega)).trans (if_pos h))

theorem exec_draftAbort_idle (h : s.drState = 0) : exec .draftAbort s = .next s :=
  (if_neg (by omega)).trans ((if_neg (by omega)).trans (if_neg (by omega)))

/-! ### Bytes of a load (R480 to R483) -/

/-- The load with the four bytes of a word. -/
def State.bytesTaken (s : State) (w : Word) : State :=
  let bs := s.draft.bytes ++ [getBits w 0 8, getBits w 8 8, getBits w 16 8, getBits w 24 8]
  { s with draft := { s.draft with bytes := bs } }.put fDRAFT_STATUS_RECEIVED bs.length

theorem exec_draftData_error {v : Word} (h : s.drState ≠ 1 ∨ (s.is fHIST_MEM_STATUS_READY = true ∧ s.is fDRAFT_CTRL_SRC = true)) :
    exec (.draftData (some v)) s = .next (s.flag fDRAFT_CTRL_DATA_ERR) := by
  refine (if_neg ?_).trans (congrArg Host.Outcome.next ?_)
  · rintro ⟨h1, hr⟩
    exact h.elim (fun h => h h1) fun ⟨hready, _⟩ => hr hready
  · by_cases hsrc : s.is fDRAFT_CTRL_SRC = true
    · exact if_pos hsrc
    · exact (if_neg hsrc).trans (if_pos (h.resolve_right fun ⟨_, h⟩ => hsrc h))

theorem exec_draftData_waits {w : Option Word} (h1 : s.drState = 1) (hr : s.is fHIST_MEM_STATUS_READY = false) :
    exec (.draftData w) s = .next s := if_pos ⟨h1, ne_true_of_eq_false hr⟩

/-- A register write of data that a load takes. -/
theorem exec_draftData_taken {v : Word} (h1 : s.drState = 1) (hr : s.is fHIST_MEM_STATUS_READY = true) (hsrc : s.is fDRAFT_CTRL_SRC = false) :
    exec (.draftData (some v)) s = .next (match formatCheck (s.bytesTaken v).draft.bytes with
      | some e => ((s.bytesTaken v).reject e.1).put fDRAFT_FAIL_OFS_OFS e.2
      | none => if 32 ≤ (s.bytesTaken v).draft.bytes.length ∧ drLength (s.bytesTaken v).draft.bytes ≤ (s.bytesTaken v).draft.bytes.length then
          (s.bytesTaken v).put fDRAFT_STATUS_STATE 2 else s.bytesTaken v) :=
  (if_neg fun h => h.2 hr).trans (congrArg Host.Outcome.next ((if_neg (ne_true_of_eq_false hsrc)).trans (if_neg (not_not.mpr h1))))

theorem State.bytesTaken_bytes (s : State) (v : Word) :
    (s.bytesTaken v).draft.bytes = s.draft.bytes ++ [getBits v 0 8, getBits v 8 8, getBits v 16 8, getBits v 24 8] := rfl

/-- What the bytes of a word leave while the header is not complete. -/
theorem State.bytesTaken_shows (s : State) (v : Word) : (s.bytesTaken v).drState = s.drState ∧
    (s.draft.bytes.length < 28 → (s.bytesTaken v).get fDRAFT_STATUS_RECEIVED = s.draft.bytes.length + 4) ∧
    Only [aDRAFT_STATUS] s (s.bytesTaken v) := by
  refine ⟨State.get_put_apart _ _ (.inr (by decide)), fun h => ?_, Only.put (Only.of_regs rfl)⟩
  have hlen : (s.draft.bytes ++ [getBits v 0 8, getBits v 8 8, getBits v 16 8, getBits v 24 8]).length = s.draft.bytes.length + 4 := by simp
  have hlt : s.draft.bytes.length + 4 < 2 ^ fldWidth fDRAFT_STATUS_RECEIVED := by
    have : 2 ^ fldWidth fDRAFT_STATUS_RECEIVED = 33554432 := by decide
    omega
  unfold State.bytesTaken
  dsimp only
  rw [hlen, State.get_put_of_lt _ (by decide) hlt]

theorem exec_draftData_hidden (h : s.visible (s.queue (s.get fDRAFT_CTRL_QUEUE)) = 0) : exec (.draftData none) s = .next s := by
  by_cases hw : s.drState = 1 ∧ ¬ s.is fHIST_MEM_STATUS_READY
  · exact if_pos hw
  · exact (if_neg hw).trans (if_pos (.inr (.inr (.inr h))))

/-- A word of the source queue that no load receives. -/
theorem exec_draftData_queue {q : Nat} (hq : s.get fDRAFT_CTRL_QUEUE = q) (h1 : s.drState ≠ 1) (hsrc : s.is fDRAFT_CTRL_SRC = true)
    (hc : s.get fBOLT_Q_CFG_CONS q = 5) (hsel : s.get fBOLT_Q_CFG_CONS_SEL q = 255) (hv : s.visible (s.queue q) ≠ 0) {b : BWord} {l : List BWord}
    (hw : (s.queue q).words = b :: l) :
    exec (.draftData none) s = .next ((s.popWord q).2.flag fDRAFT_CTRL_DATA_ERR) ∧ ((s.popWord q).2.queue q).words = l ∧
    (s.popWord q).2.regs = s.regs := by
  subst hq
  obtain ⟨x, hx, hl⟩ : ∃ x : BQueue, s.popWord (s.get fDRAFT_CTRL_QUEUE) = (some b, s.setQueue (s.get fDRAFT_CTRL_QUEUE) x) ∧ x.words = l :=
    ⟨_, by simp only [State.popWord, hw]; rfl, rfl⟩
  rw [hx]
  refine ⟨?_, by rw [State.queue_setQueue_same, hl], rfl⟩
  refine (if_neg fun h => h1 h.1).trans ((if_neg ?_).trans ?_)
  · rintro (h | h | h | h)
    exacts [h hsrc, h hc, h hsel, hv h]
  · rw [hx]
    exact congrArg Host.Outcome.next (if_pos h1)

/-! ### Verification and apply (R484, R485) -/

theorem exec_draftVerifyDone_none (h : s.drState ≠ 2) : exec .draftVerifyDone s = .next s := if_pos h

theorem exec_draftVerifyDone (h : s.drState = 2) : exec .draftVerifyDone s = .next
    (match trailerCheck s.draft.bytes, s.loadCheck s.draft.bytes with
    | some e, _ => (s.reject e.1).put fDRAFT_FAIL_OFS_OFS e.2
    | none, some e => ((s.reject e.1).put fDRAFT_FAIL_FAIL_ADDR e.2).put fDRAFT_FAIL_FAIL_ISLAND ((ownersAt e.2).headD 0)
    | none, none => s.put fDRAFT_STATUS_STATE 3) := by
  refine (if_neg (not_not.mpr h)).trans ?_
  cases trailerCheck s.draft.bytes with
  | some e => rfl
  | none => cases s.loadCheck s.draft.bytes <;> rfl

theorem exec_draftApply_verified (h : s.drState = 3) : exec .draftApply s = .next
    { s.put fDRAFT_STATUS_STATE 4 with holds := { s.holds with draft := drTargets s.draft.bytes } } := if_neg (not_not.mpr h)

theorem exec_draftApply_busy (h : s.drState ≠ 3) : exec .draftApply s = .next (s.flag fDRAFT_CTRL_BUSY) := if_pos h

theorem exec_draftApplyRun_none (h : s.drState ≠ 4) : exec .draftApplyRun s = .next s := if_pos (.inl h)

/-- The load of `s` marked as applied and not saved. -/
def State.markApplied (s : State) : State := { s with draft := { s.draft with applied := true, saved := false } }

/-- The state in which an apply has written, released and shown everything. -/
def State.applyDone (s : State) : State :=
  let bs := s.draft.bytes
  let u := ((if drPartial bs then s else s.zeroStage).framesWrite bs).takeBinds bs
  let v := (List.range 9).foldl (fun u n => if (drTargets bs).testBit n then u.applyRelease ((draftWrites bs 2).map (·.1)) n else u) u
  ((v.derive ((drTargets bs).testBit 4)).wakeClusters s).showApplied bs

theorem State.applyDone_draft (s : State) : s.applyDone.draft = s.draft := by
  have hw : DraftKept s (((if drPartial s.draft.bytes then s else s.zeroStage).framesWrite s.draft.bytes).takeBinds s.draft.bytes) :=
    ((DraftKept.unless (.refl s) (·.zeroStage)).framesWrite).rest
  exact (((hw.foldl fun hu => hu.when (·.applyRelease)).derive).wakeClusters).showApplied

/-- An apply without a commit ends in IDLE; a waiting load of the timebase is checked again. -/
theorem exec_draftApplyRun (h4 : s.drState = 4)
    (hh : (List.range 9).all (fun i => !(drTargets s.draft.bytes).testBit i || s.held i) = true)
    (hl : (List.range 8).any (fun d => s.domState d == 6 && (domIslands d).any (fun i => (drTargets s.draft.bytes).testBit i)) = false)
    (hc : drCommit s.draft.bytes = false) :
    exec .draftApplyRun s = .next (((s.applyDone.bump fDRAFT_COUNT_LOADS).put fDRAFT_STATUS_STATE 0).markApplied).checkLoad := by
  refine (if_neg ?_).trans (congrArg (fun u : State => Host.Outcome.next u.checkLoad) (if_neg (ne_true_of_eq_false hc)))
  rintro (h | h | h)
  exacts [h h4, h hh, ne_true_of_eq_false hl h]

/-! ### Commits (R487) -/

/-- A commit that has begun to write elements `es` to slot `i`. -/
def State.commitBegun (s : State) (i : Nat) (es : List Elem) (dirty : List Nat) : State :=
  ({ s with
      bobbin := { s.bobbin with drafts := s.bobbin.drafts.set i es, dirty := dirty }
      draft := { s.draft with slot := some i } }.flag fDRAFT_COMMIT_PENDING).put fDRAFT_COMMIT_CAUSE 0

/-- What the start of a commit leaves. -/
theorem State.commitBegun_shows (s : State) (i : Nat) (es : List Elem) (dirty : List Nat) :
    (s.commitBegun i es dirty).is fDRAFT_COMMIT_PENDING = true ∧ (s.commitBegun i es dirty).get fDRAFT_COMMIT_CAUSE = 0 ∧
    (s.commitBegun i es dirty).draft.slot = some i := by
  unfold State.commitBegun
  refine ⟨?_, State.get_put_of_lt _ (by decide) (by decide), by rw [State.put_draft, State.flag_draft]⟩
  rw [State.is_put_apart _ _ (.inr (by decide)), State.is_flag _ _ _ (by decide)]

/-- A claim of resource 29 keeps Bobbin and the load. -/
theorem State.claimed29_keeps (s : State) (act : Nat) : (s.claimed29 act).bobbin = s.bobbin ∧ (s.claimed29 act).draft = s.draft := by
  have hreg : RegsOnly s (s.claimed29 act) := by
    unfold State.claimed29 State.resTake State.resShow
    exact (RegsOnly.put s fMAINT_OWNER_WRITER act 29).trans ((RegsOnly.putBit _).trans (.putBit _))
  rw [hreg]
  exact ⟨rfl, rfl⟩

theorem exec_draftCommit_busy (h : s.draft.applied = false ∨ s.draft.slot ≠ none ∨ s.drState ≠ 0) :
    exec .draftCommit s = .next (s.flag fDRAFT_CTRL_BUSY) := by
  refine congrArg Host.Outcome.next (if_neg ?_)
  rintro ⟨ha, hs, h0⟩
  rcases h with h | h | h
  exacts [ne_true_of_eq_false h ha, h (Option.isNone_iff_eq_none.mp hs), h h0]

theorem exec_draftCommit_starts (ha : s.draft.applied = true) (hs : s.draft.slot = none) (h0 : s.drState = 0) :
    exec .draftCommit s = .next s.startCommit :=
  congrArg Host.Outcome.next (if_pos ⟨ha, Option.isNone_iff_eq_none.mpr hs, h0⟩)

theorem State.startCommit_held (hr : s.resFree 29 true = false) : s.startCommit = (s.claimRefused 8 29).commitFail 1 := by
  unfold State.startCommit
  rw [State.claim_refused hr]
  exact if_pos Bool.false_ne_true

/-- The slot that a whole draft is written to: the other than the newest. -/
def State.otherSlot (s : State) : Nat := match s.newestSlot with | some 0 => 1 | _ => 0

/-- The commit of a whole draft under its claim. -/
def State.commitWhole (s : State) : State :=
  let secs := slotSectors s.otherSlot 0 (16 + s.draft.bytes.length)
  (s.erasedAll secs).commitBegun s.otherSlot [⟨s.nextSeq, s.draft.bytes, false⟩] (s.bobbin.dirty.filter (fun x => !secs.contains x) ++ secs)

theorem State.startCommit_whole (hr : s.resFree 29 true = true) (hp : drPartial s.draft.bytes = false) :
    s.startCommit = (s.claimed29 8).commitWhole := by
  have hwhole : ¬ drPartial (s.claimed29 8).draft.bytes := by rw [(s.claimed29_keeps 8).2, hp]; exact Bool.false_ne_true
  unfold State.startCommit
  rw [State.claim_granted hr]
  exact (if_neg (not_not.mpr rfl)).trans (if_neg hwhole)

theorem State.claimed29_otherSlot (s : State) (act : Nat) : (s.claimed29 act).otherSlot = s.otherSlot := by
  unfold State.otherSlot State.newestSlot State.slotHead
  rw [(s.claimed29_keeps act).1]

/-- What a failed commit leaves. -/
theorem State.commitFail_shows (s : State) {c : Nat} (hc : c < 8) : (s.commitFail c).is fDRAFT_COMMIT_PENDING = false ∧
    (s.commitFail c).is fDRAFT_COMMIT_FAIL = true ∧ (s.commitFail c).get fDRAFT_COMMIT_CAUSE = c ∧ (s.commitFail c).draft = s.draft := by
  unfold State.commitFail
  refine ⟨?_, ?_, State.get_put_of_lt _ (by decide) hc, by simp⟩
  · rw [State.is_put_apart _ _ (.inr (by decide)), State.is_flag_apart _ (.inr (by decide)), State.is_unflag _ _ _ (by decide)]
  · rw [State.is_put_apart _ _ (.inr (by decide)), State.is_flag _ _ _ (by decide)]

theorem Only.commitFail {ws : List Nat} {c : Nat} (h : Only ws s t) (hw : aDRAFT_COMMIT ∈ ws := by decide) : Only ws s (t.commitFail c) :=
  ((h.unflag hw).flag hw).put hw

/-- The chain shown leaves the load and the progress of its commit. -/
theorem State.showChain_keeps (s : State) : s.showChain.draft = s.draft ∧
    s.showChain.is fDRAFT_COMMIT_PENDING = s.is fDRAFT_COMMIT_PENDING ∧ s.showChain.is fDRAFT_COMMIT_DONE = s.is fDRAFT_COMMIT_DONE := by
  unfold State.showChain
  split
  · exact ⟨rfl, rfl, rfl⟩
  dsimp only
  split
  · exact ⟨rfl, rfl, rfl⟩
  · refine ⟨rfl, ?_, ?_⟩ <;>
      rw [State.is_put_apart _ _ (.inl (by decide)), State.is_put_apart _ _ (.inr (by decide)), State.is_put_apart _ _ (.inr (by decide)),
        State.is_put_apart _ _ (.inr (by decide))]

theorem State.ageRecord_draft (s : State) : s.ageRecord.draft = s.draft := by
  unfold State.ageRecord
  dsimp only
  split <;> rfl

/-- The last part of a commit's end: its ageing record and its release. -/
def State.commitOver (s : State) : State := s.ageRecord.release 8

theorem State.commitOver_draft (s : State) : s.commitOver.draft = s.draft := by
  unfold State.commitOver
  rw [RegsOnly.release s.ageRecord 8]
  exact s.ageRecord_draft

theorem Only.commitOver (s : State) : Only (eraseWords ++ maintWords) s s.commitOver :=
  ((Only.refl _ s).ageRecord (by simp)).release (by simp)

/-- The commit to slot `i` with its last element read back, or not whole, before its outcome shows. -/
def State.slotRead (s : State) (i : Nat) (ok : Bool) : State :=
  let es := (nth s.bobbin.drafts i).zipIdx.map fun e => if e.2 + 1 = (nth s.bobbin.drafts i).length then { e.1 with ok := ok } else e.1
  { s with bobbin := { s.bobbin with drafts := s.bobbin.drafts.set i es }, draft := { s.draft with slot := none, saved := s.draft.saved || ok } }

theorem exec_draftCommitDone {i : Nat} (hi : s.draft.slot = some i) (ok : Bool) : exec (.draftCommitDone ok) s =
    .next (State.commitOver (if ok then (((s.slotRead i ok).unflag fDRAFT_COMMIT_PENDING).flag fDRAFT_COMMIT_DONE).showChain
      else (s.slotRead i ok).commitFail 4)) := by
  change execDraftCommitDone ok s = _
  unfold execDraftCommitDone
  rw [hi]
  rfl

theorem exec_draftCommitDone_none (h : s.draft.slot = none) (ok : Bool) : exec (.draftCommitDone ok) s = .next s := by
  change execDraftCommitDone ok s = _
  unfold execDraftCommitDone
  rw [h]
  rfl

/-- A commit read back. -/
theorem draftCommitDone_done (h : s.draft.slot ≠ none) : ∃ t, exec (.draftCommitDone true) s = .next t ∧ t.draft.slot = none ∧
    t.draft.saved = true ∧ t.is fDRAFT_COMMIT_PENDING = false ∧ t.is fDRAFT_COMMIT_DONE = true := by
  obtain ⟨i, hi⟩ := Option.ne_none_iff_exists'.mp h
  have hb := exec_draftCommitDone hi true
  obtain ⟨u, hu⟩ : ∃ u : State, u = s.slotRead i true := ⟨_, rfl⟩
  rw [if_pos rfl, ← hu] at hb
  obtain ⟨hdraft, hpending, hdone⟩ := ((u.unflag fDRAFT_COMMIT_PENDING).flag fDRAFT_COMMIT_DONE).showChain_keeps
  have hkept : (((u.unflag fDRAFT_COMMIT_PENDING).flag fDRAFT_COMMIT_DONE).showChain).draft = u.draft := by
    rw [hdraft, State.flag_draft, State.unflag_draft]
  refine ⟨_, hb, ?_, ?_, ?_, ?_⟩
  · rw [State.commitOver_draft, hkept, hu]
    rfl
  · rw [State.commitOver_draft, hkept, hu]
    exact Bool.or_true _
  · rw [(Only.commitOver _).is (by decide), hpending, State.is_flag_apart _ (.inr (by decide)), State.is_unflag _ _ _ (by decide)]
  · rw [(Only.commitOver _).is (by decide), hdone, State.is_flag _ _ _ (by decide)]

/-- A commit that is not read back. -/
theorem draftCommitDone_failed (h : s.draft.slot ≠ none) : ∃ t, exec (.draftCommitDone false) s = .next t ∧ t.draft.slot = none ∧
    t.is fDRAFT_COMMIT_PENDING = false ∧ t.is fDRAFT_COMMIT_FAIL = true ∧ t.get fDRAFT_COMMIT_CAUSE = 4 := by
  obtain ⟨i, hi⟩ := Option.ne_none_iff_exists'.mp h
  have hb := exec_draftCommitDone hi false
  obtain ⟨u, hu⟩ : ∃ u : State, u = s.slotRead i false := ⟨_, rfl⟩
  rw [if_neg Bool.false_ne_true, ← hu] at hb
  obtain ⟨hpending, hfail, hcause, hdraft⟩ := u.commitFail_shows (c := 4) (by decide)
  refine ⟨_, hb, ?_, ?_, ?_, ?_⟩
  · rw [State.commitOver_draft, hdraft, hu]
    rfl
  · rw [(Only.commitOver _).is (by decide), hpending]
  · rw [(Only.commitOver _).is (by decide), hfail]
  · rw [(Only.commitOver _).get (by decide), hcause]

/-! ### Scanning (R490) -/

theorem exec_configScan_off (h : s.is fDRAFT_SCAN_SCAN_EN = false) : exec .configScan s = .next s := if_pos (ne_true_of_eq_false h)

/-- A pass that finds no bad island is counted. -/
theorem exec_configScan_clean (h : s.is fDRAFT_SCAN_SCAN_EN = true) (hg : (List.range 9).all (fun i => s.held i || !s.crcBad i) = true) :
    exec .configScan s = .next (s.bump fDRAFT_SCAN_PASSES) := by
  have hbad : (List.range 9).filter (fun i => !s.held i && s.crcBad i) = [] := by
    refine List.filter_eq_nil_iff.mpr fun i hi hb => ?_
    have hok := List.all_eq_true.mp hg i hi
    rw [Bool.and_eq_true, Bool.not_eq_true'] at hb
    simp [hb.1, hb.2] at hok
  change execConfigScan s = _
  unfold execConfigScan
  rw [if_neg (not_not.mpr h), hbad]
  rfl

end

/-- Settles O39. That data with SRC 1 or outside RECEIVING is an error is log entry 69, what COMMIT's BUSY refuses log entry 71: each clause follows
the branch its hypotheses choose; that an apply leaves the load is `State.applyDone_draft`. -/
theorem draftLoads : Obligations.DraftLoads := by
  unfold Obligations.DraftLoads
  refine ⟨fun s h4 hs hm => ⟨_, exec_draftBegin_on h4 hs hm, s.clearStage_shows (by decide)⟩, fun s h4 hs hm => exec_draftBegin_wake h4 hs hm,
    fun s h => exec_draftBegin_busy h, fun s h => exec_draftAbort_idle h, fun s h => exec_draftAbort_busy h,
    fun s h => ⟨_, exec_draftAbort_verifying h, s.reject_shows (by decide)⟩, fun s h => ⟨_, exec_draftAbort_staged h, ?staged⟩,
    fun s v h => exec_draftData_error h, fun s v h1 hr hsrc hf hlen => ⟨s.bytesTaken v, ?header⟩, fun s v e h1 hr hsrc hf => ?bad,
    fun s h1 hsrc hc hsel hv hw => ?queue, fun s h => exec_draftData_hidden h, fun s w h1 hr => exec_draftData_waits h1 hr,
    fun s h => exec_draftVerifyDone_none h, fun s h => exec_draftVerifyDone h, fun s e h2 he => ?trailer,
    fun s h => exec_draftApply_verified h, fun s h => exec_draftApply_busy h, fun s h4 hh hl hc => ⟨_, exec_draftApplyRun h4 hh hl hc, ?applied⟩,
    fun s h => exec_draftApplyRun_none h, fun s h => exec_draftCommit_busy h, fun s ha hs h0 hr hp => ?commit, fun s ha hs h0 hr => ?held,
    fun s ok h => exec_draftCommitDone_none h ok, fun s h => draftCommitDone_done h, fun s h => draftCommitDone_failed h,
    fun s h => exec_configScan_off h, fun s h hg => exec_configScan_clean h hg⟩
  case staged =>
    obtain ⟨hst, -, -, hbytes, hrest⟩ := s.clearStage_shows (st := 0) (by decide)
    exact ⟨hst, hbytes, hrest⟩
  case header =>
    obtain ⟨hst, hreceived, hrest⟩ := s.bytesTaken_shows v
    refine ⟨?_, s.bytesTaken_bytes v, hreceived hlen, hst.trans h1, hrest⟩
    rw [exec_draftData_taken h1 hr hsrc, s.bytesTaken_bytes v, hf]
    exact congrArg Host.Outcome.next (if_neg fun h => by simp at h; omega)
  case bad =>
    obtain ⟨hst, hreason, hrest⟩ := (s.bytesTaken v).rejectAt_shows (formatCheck_reason_lt hf)
    refine ⟨_, ?_, hst, hreason, ((s.bytesTaken_shows v).2.2.mono (by decide)).trans hrest⟩
    rw [exec_draftData_taken h1 hr hsrc, s.bytesTaken_bytes v, hf]
  case queue =>
    obtain ⟨b, l, hl⟩ := List.exists_cons_of_ne_nil hw
    obtain ⟨hexec, hwords, hregs⟩ := exec_draftData_queue rfl h1 hsrc hc hsel hv hl
    refine ⟨_, hexec, State.is_flag _ _ _ (by decide), ?_, Only.flag (Only.of_regs hregs)⟩
    rw [State.queue_flag, hwords, hl, List.tail_cons]
  case trailer =>
    refine ⟨_, ?_, s.rejectAt_shows (trailerCheck_reason_lt he)⟩
    rw [exec_draftVerifyDone h2, he]
  case applied =>
    obtain ⟨u, hu⟩ : ∃ u, u = ((s.applyDone.bump fDRAFT_COUNT_LOADS).put fDRAFT_STATUS_STATE 0).markApplied := ⟨_, rfl⟩
    rw [← hu]
    have hst : u.drState = 0 := by
      rw [hu]
      exact State.get_put_of_lt _ (by decide) (by decide)
    have hdraft : u.draft = { s.draft with applied := true, saved := false } := by
      rw [hu, State.markApplied, State.put_draft, State.bump_draft, s.applyDone_draft]
    exact ⟨(((Only.refl _ u).checkLoad (ws := [aTB_LOAD_CTRL])).get (by decide)).trans hst, (DraftKept.refl u).checkLoad.trans hdraft⟩
  case commit =>
    obtain ⟨hpending, hcause, hslot⟩ := State.commitBegun_shows ((s.claimed29 8).erasedAll _) (s.claimed29 8).otherSlot
      [⟨(s.claimed29 8).nextSeq, (s.claimed29 8).draft.bytes, false⟩] _
    exact ⟨_, (exec_draftCommit_starts ha hs h0).trans (congrArg Host.Outcome.next (State.startCommit_whole hr hp)), hpending, hcause,
      hslot.trans (congrArg some (s.claimed29_otherSlot 8))⟩
  case held =>
    obtain ⟨-, hfail, hcause, hdraft⟩ := (s.claimRefused 8 29).commitFail_shows (c := 1) (by decide)
    refine ⟨_, (exec_draftCommit_starts ha hs h0).trans (congrArg Host.Outcome.next (State.startCommit_held hr)), hfail, hcause, ?_,
      Only.commitFail ((Only.claimRefused s 8 29).mono (by decide))⟩
    rw [hdraft]
    simp [State.claimRefused]

end Sys2Proof.Machine
